-- ==== Sys2Proof/Word.lean ====
section
/-! DEFINITION. The plain value types of the Kwefel model: bytes, and sparse maps in sorted form. -/

namespace Sys2Proof

/-- A byte is 8 bits (00 R5). -/
abbrev Byte := BitVec 8

/-- A byte string; the first byte is the one at the lowest address, or sent first (00 R5). -/
abbrev Bytes := List Byte

/-- A sparse map from numbers: keys strictly rising, no entry equal to what an unlisted key reads as. -/
abbrev SMap (β : Type) := List (Nat × β)

/-- A fabric word or loom descriptor: 512 bits (08 R174, 04 R84). -/
abbrev Word512 := BitVec 512

end Sys2Proof
end

