-- ==== Sys2Proof/Syntax.lean ====
section
/-! DEFINITION. The commands of the block: one constructor for each row of the spec's opcode table, with the
operands the row's rule names. -/

namespace Sys2Proof

/-- A logical loom: quadrant, row, logical column (01 R9). -/
structure LoomId where
  q : Fin 4
  r : Fin 20
  c : Fin 25
  deriving DecidableEq, Repr

/-- A unit with descriptors in flight (04 R85). -/
inductive UnitKind where
  | array | vector | dma | chain
  deriving DecidableEq, Repr

/-- A dictionary frame as received (14 R336): the UDP port it names, how many requests of its node were outstanding when it arrived
(R337), whether its address has the form of R335, whose n is `src`; its OP is that of the row, or the code given where that is
reserved. -/
structure Req where
  port    : BitVec 16
  ahead   : BitVec 4
  addrOk  : Bool
  src     : Fin 8
  version : BitVec 4
  reservedOp : Option (BitVec 4)
  resp    : Bool
  seq     : BitVec 16
  auth    : Bool
  index   : BitVec 16
  sub     : BitVec 8
  offset  : BitVec 32
  len     : BitVec 16
  node    : BitVec 8
  data    : Bytes
  trailer : Bytes
  deriving DecidableEq, Repr

/-- The parts of a loom that BIST tests, in the order of the coverage table (15 R370). -/
inductive BistPart where
  | array | vectorEngine | dmaEngine | sequencer | router
  | localMemory | instructionStore | outputSets | scaleRegisters | slotTable
  | bypass
  deriving DecidableEq, Repr

/-- A failed loom of a BIST group: physical row, physical column, first part that failed (15 R370). -/
structure BistFail where
  r    : Fin 20
  c    : Fin 26
  part : BistPart
  deriving DecidableEq, Repr

/-- A write of the secure flash that the supply's loss cuts short: a STORED object's, a leaf-journal record's (13 R331; 14 R344). -/
inductive Torn where
  | setting (ref : BitVec 24) (value : Bytes)
  | journal
  deriving DecidableEq, Repr

/-- What the sensors gave over one second, in mV averaged over 1 µs: rail VCOREn's lowest and highest local reading and its mean
current, the lowest and highest of `VDD_SD`, `VDDH_SD`, `VAUX18` and `VAUX33`, whether an HBM rail left the range that JEDEC HBM4E gives
it; package power (18 R422, R423, R426); codewords that the links' FEC corrected and could not correct (10 R231; log 80). -/
structure Readings where
  mv      : List (BitVec 16)
  high    : List (BitVec 16)
  rails   : List (BitVec 16 × BitVec 16)
  hbmOut  : Bool
  ma      : List (BitVec 32)
  watts   : BitVec 16
  fec     : List (Fin 48 × BitVec 64 × BitVec 64)
  deriving DecidableEq, Repr

/-- Where SECDED corrected a word of the hub: the memory of a steward, the hub's shared state (16 R388). -/
inductive HubWord where
  | steward (m : Fin 4)
  | hub
  deriving DecidableEq, Repr

/-- What reached the thermal-trip limit (18 R425). -/
inductive TripUnit where
  | junction (u : Fin 5)
  | stack (k : Fin 20)
  deriving DecidableEq, Repr

/-- An upset that a check of the assay found: which check, where, residues (16 R383 to R387, R392). -/
inductive Upset where
  /-- an array column's residue differs (code 0x0201) -/
  | column (row col : Fin 64) (found : Fin 127)
  /-- the window unit's split of a product fails its check: the residues of the operands and of the parts (R384; code 0x0201) -/
  | split (row col : Fin 64) (pred found : Fin 127)
  /-- the two rounding decisions of the window unit disagree (R384; code 0x0201) -/
  | decision (row col : Fin 64)
  /-- the two sets of flags of a value disagree, in the array or at a hop (R385; codes 0x0201, 0x0202) -/
  | flags (row col : Fin 64)
  /-- a chain hop's residue differs (code 0x0202) -/
  | hop (row col : Fin 64) (found : Fin 127)
  /-- a lane check failed (code 0x0203): lane, datapath, TAG of the descriptor -/
  | lane (lane : BitVec 8) (path : BitVec 8) (tag : BitVec 16)
  /-- SECDED finds one bit, or more than one, of a word of the transcendental tables wrong (R386): lane, VOP, TAG, word -/
  | table (lane : BitVec 8) (path : BitVec 8) (tag : BitVec 16) (word : BitVec 32) (double : Bool)
  deriving DecidableEq, Repr

/-- A fabric word with its sideband (08 R175). -/
structure FWord where
  payload : Word512
  side    : BitVec 64
  deriving DecidableEq, Repr

/-- An item of a dual-clock queue: payload, sidebands END, POISON, NV, GAP (08 R190). -/
structure QItem where
  payload : Nat
  endp    : Bool
  poison  : Bool
  nv      : Bool
  gap     : Bool
  deriving DecidableEq, Repr

/-- Errors met when a stored word is read: none, one bit, more than one bit (08 R195, 09 R210). -/
inductive Ecc where
  | clean | single | multi
  /-- corrected by the stack's on-die ECC (09 R210) -/
  | onDie
  /-- uncorrectable in the controller's request buffer or address path (09 R213) -/
  | buffer
  deriving DecidableEq, Repr

/-- Who asks an HBM controller: the stack's update engine, a loom's DMA engine, the hub, the update engine of another stack that
writes a forward copy (09 R206 to R208; 07 R164). -/
inductive Requester where
  | engine
  | loom (l : LoomId)
  | hub
  | copy (src : Fin 20)
  deriving DecidableEq, Repr

/-- A word of a loom's arrays under SECDED: a half line of local memory, a descriptor of the instruction store, a row of the active or
the shadow output set, an entry of the scale file (04 R84, R99; 16 R388). -/
inductive LoomWord where
  | localMemory (half : BitVec 15)
  | instructionStore (index : BitVec 12)
  | activeSet (row : Fin 64)
  | shadowSet (row : Fin 64)
  | scaleFile (entry : BitVec 8)
  deriving DecidableEq, Repr

/-- What SECDED finds in a word of a loom that one of its units reads (04 R99; 16 R388). -/
structure LoomHit where
  word : LoomWord
  ecc  : Ecc
  deriving DecidableEq, Repr

/-- A slot record of the image (06). -/
structure SlotRec where
  tensor : BitVec 24
  kind   : BitVec 4
  recipe : BitVec 4
  fmt    : BitVec 4
  job    : Bool
  init   : BitVec 8
  n      : BitVec 13
  deriving DecidableEq, Repr

/-- A window entry of the image with its holding rank and member list (11 R255). -/
structure WindowEnt where
  rank    : BitVec 12
  window  : BitVec 16
  role    : BitVec 2
  etype   : BitVec 2
  layout  : Bool
  results : Bool
  region  : BitVec 8
  region2 : BitVec 8
  ledger  : BitVec 8
  base    : BitVec 44
  count   : BitVec 44
  slot    : BitVec 16
  n       : BitVec 16
  peer    : BitVec 16
  pwindow : BitVec 16
  members : List Nat
  deriving DecidableEq, Repr

/-- An exchange-window entry of the image (11 R269). -/
structure XWin where
  opens : BitVec 32
  lenNs : BitVec 32
  deriving DecidableEq, Repr

/-- A send entry of the image: 256 bits with its rank (11 R269). -/
structure SendEnt where
  rank : BitVec 12
  bits : BitVec 256
  deriving DecidableEq, Repr

/-- One loom's sections as the image and the firmware give them (04 R105, R107). -/
structure LoomImage where
  loom     : LoomId
  /-- (section, bytes, 32-byte digest the image records) -/
  sections : List (Nat × Bytes × Bytes)
  deriving DecidableEq, Repr

/-- The tables of a program image. The spec gives the tables' entries and not the container that holds them, so ARM
carries them beside the image region's bytes. -/
structure Image where
  looms    : BitVec 16
  profile  : BitVec 16
  profileDigest : BitVec 64
  slots    : List SlotRec
  windows  : List WindowEnt
  xwins    : List XWin
  sends    : List SendEnt
  /-- update table: BASE_STEP, LAST_STEP, its 8-byte entries (07 R161) -/
  updBase  : BitVec 48
  updLast  : BitVec 48
  updTable : List (BitVec 64)
  /-- the 64-byte update commands, from the start of the command region (07) -/
  updCmds  : List (BitVec 512)
  twPeriod : BitVec 32
  twBudget : BitVec 32
  loomImgs : List LoomImage
  /-- slot tables of the hub-facing outputs: sending bridge, slot, destination bridge (08 R183) -/
  hubDest : List (Fin 16 × BitVec 8 × Fin 16)
  deriving DecidableEq, Repr

/-- A firmware image's verdicts that need keys: certificate and signature over the header (13 R308). -/
structure FwVerdict where
  certOk : Bool
  sigOk  : Bool
  deriving DecidableEq, Repr

/-- A certificate as carried by an unlock token (13 R305). -/
structure Cert where
  usage    : BitVec 8
  key      : Bytes
  rootSigOk   : Bool
  rootSigZero : Bool
  deriving DecidableEq, Repr

/-- One lane's result of a training attempt: first failing step (0 none), SNR, BER, duration (10 R228, R231). -/
structure LaneResult where
  step : BitVec 8
  snr  : BitVec 16
  ber  : BitVec 16
  ms   : BitVec 16
  deriving DecidableEq, Repr

/-- A stoppable function (14 R348). -/
inductive FunctionId where
  | port (p : Fin 6)
  | channel (n : Fin 4)
  deriving DecidableEq, Repr

/-- A received LLDPDU's values (10 R237). -/
structure Lldp where
  chassis : Bytes
  port    : Bytes
  name    : Bytes
  ttl     : BitVec 16
  deriving DecidableEq, Repr

/-- An ARP or Neighbour Discovery message: a request for an address, or a reply binding an address to a MAC. -/
inductive ArpMsg where
  | request (target : Bytes) (sender : Bytes) (senderMac : BitVec 48)
  | reply (addr : Bytes) (mac : BitVec 48)
  deriving DecidableEq, Repr

/-- The Ethernet side of a received frame: link, length, VID (10 R224, R225). -/
structure Frame where
  k   : Fin 48
  len : BitVec 16
  vid : BitVec 12
  deriving DecidableEq, Repr

/-- Where an ARP or Neighbour Discovery message arrived: a link, or the management port. -/
inductive ArpPort where
  | link (f : Frame)
  | management
  deriving DecidableEq, Repr

/-- A packet under ESP as received: the association its SPI names, by local QPN (4 × party + link index, or 0x4000), its extended
sequence number, whether its ICV is right (11 R254; 12 R287). -/
structure EspHdr where
  frame : Frame
  qpn   : BitVec 24
  seq   : BitVec 64
  ok    : Bool
  deriving DecidableEq, Repr

/-- A RoCEv2 packet, or the first packet of a message, as received: PSN, whether its ICRC is right, whether it is marked CE
(11 R248, R252). -/
structure PktHdr where
  esp    : EspHdr
  psn    : BitVec 24
  icrcOk : Bool
  ce     : Bool
  deriving DecidableEq, Repr

/-- An RDMA request of a service peer: packet, R_Key, offset, bytes or length (12 R287). -/
structure SvcReq where
  pkt  : PktHdr
  rkey : BitVec 32
  va   : BitVec 64
  data : Bytes
  len  : BitVec 32
  deriving DecidableEq, Repr

/-- A control message: header fields the requester chooses, and the body (12 R289). `reservedOp`: the header's OP where it is a reserved
code; the row then only names where the message is refused. -/
structure Ctl where
  pkt  : PktHdr
  reservedOp : Option (BitVec 8)
  seq  : BitVec 32
  len  : BitVec 32
  job  : BitVec 32
  body : Bytes
  deriving DecidableEq, Repr

/-- A key-exchange datagram as received, but for its body (13 R317). -/
structure KeyxHdr where
  frame   : Frame
  type    : BitVec 8
  channel : BitVec 8
  sender  : BitVec 16
  target  : BitVec 16
  job     : BitVec 32
  reason  : BitVec 16
  len     : BitVec 32
  spi     : BitVec 32
  deriving DecidableEq, Repr

/-- A chunk: packet, RDMA WRITE key and address, 64-byte header, element bytes (11 R258, R259). -/
structure Chunk where
  pkt    : PktHdr
  rkey   : BitVec 32
  va     : BitVec 64
  header : Word512
  elems  : Bytes
  deriving DecidableEq, Repr

/-- Classes of NAK (11 R248). -/
inductive NakClass where
  | sequence | invalidRequest | remoteAccess | remoteOperational
  deriving DecidableEq, Repr

/-- What failed in a device fault (16 R395). -/
inductive DeviceUnit where
  | stewardMemory | eventController | countingHouse | keyStore
  deriving DecidableEq, Repr

/-- The commands of the block. -/
inductive Instr where
  | pwrokRise (mgtId : BitVec 3) (pufOk : Bool)
  | pwrokFall
  | timeBaseLock
  | firmwareReady
  | clockGo (r : Req)
  | clockLockEnd (unlocked : List (BitVec 12))
  | hbmGo (r : Req)
  | hbmTrainingComplete (k : Fin 20) (chans : List (BitVec 16)) (ms : BitVec 16)
  | bistGo (r : Req)
  | bistGroupComplete (fails : List BistFail) (bypass : List (Fin 20))
  | repairGo (r : Req)
  | katGo (r : Req)
  | katRunComplete (looms : List LoomId) (engines : List (Fin 20))
  | managementTick (corrected : List HubWord)
  | boundSecond (x : Readings)
  | sensorPoll (tj : List Int)
  | thermalTrip (u : TripUnit)
  | droopStretch (q : Fin 4)
  | boundaryMark (q : Fin 4)
  | orbitBoundary (q : Fin 4)
  | orbitHoldRelease (q : Fin 4) (periods : BitVec 8)
  | apply (r : Req)
  | layoutApplyComplete
  | zeroFillComplete (p : Fin 4)
  | stepStart (p : Fin 4)
  | scaleFill (p : Fin 4)
  | wait (l : LoomId) (hit : Option LoomHit)
  | waitCycle (l : LoomId) (hit : Option LoomHit)
  | waitCycleExpiry (l : LoomId)
  | loop (l : LoomId) (hit : Option LoomHit)
  | loopEnd (l : LoomId) (hit : Option LoomHit)
  | endProgram (l : LoomId) (hit : Option LoomHit)
  | matmul (l : LoomId) (hit : Option LoomHit)
  | chain (l : LoomId) (hit : Option LoomHit)
  | dmaToLocal (l : LoomId) (hit : Option LoomHit)
  | dmaToHbm (l : LoomId) (hit : Option LoomHit)
  | dmaTransposed (l : LoomId) (hit : Option LoomHit)
  | add (l : LoomId) (hit : Option LoomHit)
  | sub (l : LoomId) (hit : Option LoomHit)
  | mul (l : LoomId) (hit : Option LoomHit)
  | fma (l : LoomId) (hit : Option LoomHit)
  | min (l : LoomId) (hit : Option LoomHit)
  | max (l : LoomId) (hit : Option LoomHit)
  | abs (l : LoomId) (hit : Option LoomHit)
  | neg (l : LoomId) (hit : Option LoomHit)
  | cmplt (l : LoomId) (hit : Option LoomHit)
  | cmpeq (l : LoomId) (hit : Option LoomHit)
  | sel (l : LoomId) (hit : Option LoomHit)
  | cvt (l : LoomId) (hit : Option LoomHit)
  | exp2 (l : LoomId) (hit : Option LoomHit)
  | log2 (l : LoomId) (hit : Option LoomHit)
  | rcp (l : LoomId) (hit : Option LoomHit)
  | rsqrt (l : LoomId) (hit : Option LoomHit)
  | tanh (l : LoomId) (hit : Option LoomHit)
  | rsum (l : LoomId) (hit : Option LoomHit)
  | rmin (l : LoomId) (hit : Option LoomHit)
  | rmax (l : LoomId) (hit : Option LoomHit)
  | wsum (l : LoomId) (hit : Option LoomHit)
  | wadd (l : LoomId) (hit : Option LoomHit)
  | toT32 (l : LoomId) (hit : Option LoomHit)
  | toVote (l : LoomId) (hit : Option LoomHit)
  | stationaryPreload (l : LoomId) (hit : Option LoomHit)
  | tilePassIssue (l : LoomId) (hit : Option LoomHit)
  | shadowDrainComplete (l : LoomId) (hit : Option LoomHit)
  | assayVerdict (l : LoomId) (upset : Option Upset)
  | chainWordArrival (l : LoomId) (idx : Fin 1024) (w : FWord) (hit : Option LoomHit)
  | descriptorComplete (l : LoomId) (u : UnitKind) (k : Fin 16)
  | commitWaitEnd (l : LoomId)
  | slotForward (q : Fin 4) (r : Fin 20) (c : Fin 25) (ecc : Ecc) (noise : Word512)
  | creditedForward (q : Fin 4) (r : Fin 20) (c : Fin 25) (out : Fin 6) (noise : Word512)
  | observationForward (q : Fin 4) (r : Fin 20) (c : Fin 25) (noise : Word512)
  | bridgeArrival (n : Fin 16) (w : FWord)
  | bridgeRelease (n : Fin 16)
  | creditReturn (loop : BitVec 32) (freed : BitVec 32)
  | queuePush (q : BitVec 16) (item : QItem) (lag : BitVec 8)
  | queuePop (q : BitVec 16) (ecc : Ecc) (lag : BitVec 8)
  | flush (q : BitVec 16)
  | flushEnd (q : BitVec 16)
  | hbmRead (k : Fin 20) (word : BitVec 30) (half : Option Bool) (who : Requester) (ecc : Ecc)
  | hbmWrite (k : Fin 20) (word : BitVec 30) (half : Option Bool) (data : BitVec 512) (poison : Bool) (who : Requester)
  | writeBack (k : Fin 20) (word : BitVec 30)
  | patrolScrub (k : Fin 20) (word : BitVec 30) (ecc : Ecc)
  | refresh (k : Fin 20)
  | hbmTempPoll (k : Fin 20) (temp : Int)
  | hbmRequestTimeout (k : Fin 20)
  | phyLockLoss (k : Fin 20)
  | caParityError (k : Fin 20)
  | ephemerisMergeComplete (l : LoomId)
  | rowFinal (p : Fin 4)
  | forwardCopy (p : Fin 4)
  | updateStart (k : Fin 20) (i : BitVec 32) (laneOk : Bool)
  | updateFinish (p : Fin 4)
  | foldComplete (p : Fin 4)
  | auditComplete (p : Fin 4)
  | stepBoundary (p : Fin 4)
  | segmentReceive (l : LoomId) (header : Word512) (payload : Bytes)
  | endOfSpaceResend (p : Fin 4) (l : Option LoomId)
  | segmentTimeout (l : LoomId)
  | segmentRequest (l : LoomId) (perLoom : Bool) (missing : List (BitVec 12))
  | broadcastTimeout (p : Fin 4)
  | digestReport (l : LoomId) (hit : Option LoomHit)
  | load (p : Fin 4) (m : Ctl) (sigOk : Bool) (amendOk : List Bool)
  | loadAmend (p : Fin 4) (m : Ctl) (amendOk : List Bool)
  | arm (p : Fin 4) (m : Ctl) (img : Image)
  | armComplete (p : Fin 4)
  | start (p : Fin 4) (m : Ctl)
  | stepLimit (p : Fin 4) (m : Ctl)
  | checkpointTake (p : Fin 4) (m : Ctl)
  | checkpointRelease (p : Fin 4) (m : Ctl)
  | halt (p : Fin 4) (m : Ctl)
  | haltUnload (p : Fin 4) (m : Ctl)
  | query (p : Fin 4) (m : Ctl)
  | fieldTest (p : Fin 4) (m : Ctl)
  | fieldTestStart (u : BitVec 16)
  | fieldTestComplete (u : BitVec 16) (failed : Bool) (part : BitVec 8)
  | fieldTestOverdue (u : BitVec 16)
  | serviceRdmaWrite (p : Fin 4) (w : SvcReq)
  | ringFillComplete (p : Fin 4) (w : SvcReq) (imm : BitVec 32)
  | rdmaReadRequest (p : Fin 4) (w : SvcReq)
  | enableControlChannel (n : Fin 4) (r : Req)
  | stopControlChannel (n : Fin 4) (r : Req)
  | controlChannelRecreate (n : Fin 4)
  | call (n : Fin 4)
  | init (n : Fin 4) (h : KeyxHdr) (nonce : BitVec 256) (pub : Bytes)
  | finish (n : Fin 4) (h : KeyxHdr) (ct : Bytes) (sigOk : Bool)
  | card (p : Fin 4) (h : KeyxHdr) (body : Bytes) (sigOk : Bool)
  | cipher (p : Fin 4) (h : KeyxHdr) (ct : Bytes)
  | cardResend (p : Fin 4)
  | keyExchangeTimeout (p : Fin 4)
  | signatureComplete (programmed : List Bool)
  | enablePort (p : Fin 6) (r : Req)
  | stopPort (p : Fin 6) (r : Req)
  | functionStopComplete (f : FunctionId)
  | trainingAttemptComplete (k : Fin 48) (lanes : List LaneResult)
  | linkDown (k : Fin 48)
  | lldpTransmit (k : Fin 48)
  | lldpReceive (k : Fin 48) (m : Lldp)
  | neighbourExpiry (k : Fin 48)
  | gatewayResolve (k : Fin 48)
  | arpNdReceive (at_ : ArpPort) (m : ArpMsg)
  | pfcReceive (k : Fin 48) (prio : Fin 8) (xoff : Bool)
  | greetingReceive (p : Fin 4) (h : EspHdr) (g : Word512)
  | greetingPeriod (p : Fin 4)
  | rollCallTimeout (p : Fin 4)
  | data (p : Fin 4) (c : Chunk)
  | close (p : Fin 4) (c : Chunk)
  | done (p : Fin 4) (c : Chunk)
  | result (p : Fin 4) (c : Chunk)
  | tallyAdd (p : Fin 4) (addersAgree : Bool)
  | exchangeWindowOpen (p : Fin 4) (x : BitVec 8)
  | storeReport (l : LoomId) (tag : BitVec 16)
  | sendEntryStart (p : Fin 4) (i : BitVec 16)
  | closeSend (p : Fin 4) (dest : BitVec 12) (window : BitVec 16)
  | commitSend (p : Fin 4)
  | commitReceive (p : Fin 4) (h : PktHdr) (m : Word512)
  | abortReceive (p : Fin 4) (h : PktHdr) (m : Word512)
  | markerTimeout (p : Fin 4)
  | ack (p : Fin 4) (h : PktHdr)
  | nak (p : Fin 4) (h : PktHdr) (cls : NakClass)
  | rnrNak (p : Fin 4) (h : PktHdr)
  | rnrRetry (p : Fin 4) (qpn : BitVec 24)
  | rtoExpiry (p : Fin 4) (qpn : BitVec 24)
  | ackCoalesceExpiry (p : Fin 4) (qpn : BitVec 24)
  | cnp (p : Fin 4) (h : PktHdr)
  | rateRecovery (p : Fin 4) (rank : BitVec 12)
  | read (r : Req)
  | write (r : Req)
  | blockRead (r : Req)
  | stagedWrite (r : Req)
  | commit (r : Req) (v : FwVerdict)
  | stagingExpiry (n : Fin 8)
  | notifyAck (r : Req)
  | notifyRetry (seq : BitVec 16)
  | beaconLoss
  | beacon
  | unlock (r : Req)
  | guardTimeout (n : Fin 8)
  | complement (r : Req)
  | sealReference (r : Req)
  | eventAssert (src : BitVec 10) (level : Bool) (cfg : Option (BitVec 5))
  | eventClaim (stewards : List (Fin 4))
  | eventComplete (m : Fin 4) (src : BitVec 10)
  | stewardSleep (m : Fin 4)
  | stewardWatchdogExpiry (m : Fin 4) (stillVerifies : Bool)
  | firmwareImage (r : Req) (v : FwVerdict)
  | select (r : Req)
  | firmwareCommit (r : Req)
  | nonce (r : Req)
  | openEk (r : Req)
  | response (r : Req) (sigOk : Bool)
  | closeSession (r : Req)
  | sessionIdleExpiry (n : Fin 8)
  | assayEnable (r : Req)
  | hazardDetectorWrite (r : Req)
  | exchangeSettingsWrite (r : Req)
  | snapshot (r : Req)
  | counterLatch
  | eclipseRequest (r : Req)
  | eclipseStop (q : Fin 4)
  | edgeStop (p : Fin 4)
  | eclipseScanComplete (p : Fin 4)
  | resume (r : Req)
  | release (r : Req)
  | hangWatchdogExpiry (p : Fin 4)
  | hangRequest (r : Req)
  | bypass (ir : BitVec 8)
  | idcode
  | samplePreload
  | extest
  | clamp
  | highz
  | kwfChallenge
  | kwfUnlock (token : BitVec 1024) (cert : Cert) (sigOk : Bool)
  | kwfLock
  | kwfRecover (image : Bytes) (v : FwVerdict)
  | stewardDebug (code : BitVec 6)
  | powerLoss (torn : Option Torn)
  | stewardMemoryUncorrectable (u : DeviceUnit) (stillVerifies : Bool)
  | managementCollision
  | unsupportedRequest (p : Fin 4) (h : PktHdr)
  | pauseFrame (k : Fin 48)
  | testLogicReset
  deriving DecidableEq, Repr

end Sys2Proof
end

