-- ==== Sys2Proof/Machine/Sparse.lean ====
section
/-! DEFINITION. Reading and writing sparse maps: one canonical form, kept by every write. -/

namespace Sys2Proof

/-- The value at key `k`; an unlisted key reads as `d`. -/
def SMap.get {β : Type} (d : β) (m : SMap β) (k : Nat) : β :=
  match m with
  | [] => d
  | (a, v) :: t => if k = a then v else SMap.get d t k

/-- Drop every entry whose key satisfies `p`. -/
def SMap.drop {β : Type} (p : Nat → Bool) (m : SMap β) : SMap β := m.filter (fun e => !p e.1)

/-- Write `v` at key `k`; writing the default removes the entry. -/
def SMap.set {β : Type} [DecidableEq β] (d : β) (m : SMap β) (k : Nat) (v : β) : SMap β :=
  match m with
  | [] => if v = d then [] else [(k, v)]
  | (a, w) :: t =>
    if k < a then (if v = d then (a, w) :: SMap.drop (fun j => j == k) t else (k, v) :: (a, w) :: t)
    else if k = a then (if v = d then SMap.drop (fun j => j == k) t else (k, v) :: t)
    else (a, w) :: SMap.set d t k v

/-- Key `a` lies above the bound `lo`, if there is one. -/
def keyAbove (lo : Option Nat) (a : Nat) : Bool :=
  match lo with
  | none => true
  | some l => decide (l < a)

/-- Keys above `lo` in strictly rising order, no entry equal to the default. -/
def SMap.wfAbove {β : Type} [DecidableEq β] (d : β) (lo : Option Nat) (m : SMap β) : Bool :=
  match m with
  | [] => true
  | (a, v) :: t => keyAbove lo a && decide (v ≠ d) && SMap.wfAbove d (some a) t

/-- The canonical form. -/
def SMap.wf {β : Type} [DecidableEq β] (d : β) (m : SMap β) : Bool := SMap.wfAbove d none m

/-- The listed keys. -/
def SMap.keys {β : Type} (m : SMap β) : List Nat := m.map (·.1)

end Sys2Proof
end

