-- ==== Sys2Proof/Machine/Bits.lean ====
section
/-! DEFINITION. Byte order, bit fields, checksums (00 R4, R5; 08 R175; 14 R352). -/

namespace Sys2Proof

/-- Bits [hi:lo] of a number (00 R4). -/
def field (x hi lo : Nat) : Nat := (x / 2 ^ lo) % 2 ^ (hi + 1 - lo)

/-- A number below 2^w read as two's complement. -/
def signed (w x : Nat) : Int := if x < 2 ^ (w - 1) then (x : Int) else (x : Int) - 2 ^ w

/-- The low w bits of an integer, as a natural number. -/
def wrapBits (w : Nat) (x : Int) : Nat := (x % (2 ^ w : Int)).toNat

/-- `n` bytes, little-endian, of a number (00 R5). -/
def leBytes : Nat → Nat → Bytes
  | 0, _ => []
  | n + 1, x => BitVec.ofNat 8 x :: leBytes n (x / 256)

/-- The number that little-endian bytes spell (00 R5). -/
def leNat : Bytes → Nat
  | [] => 0
  | b :: t => b.toNat + 256 * leNat t

/-- `n` bytes, big-endian (network order), of a number (00 R5). -/
def beBytes (n x : Nat) : Bytes := (leBytes n x).reverse

/-- The number that big-endian bytes spell. -/
def beNat (b : Bytes) : Nat := leNat b.reverse

/-- Cut or zero-pad a byte string to a length. -/
def fitBytes (n : Nat) (b : Bytes) : Bytes := b.take n ++ List.replicate (n - b.length) 0

/-- ASCII text as bytes. -/
def ascii (s : String) : Bytes := s.toList.map (fun c => BitVec.ofNat 8 c.toNat)

/-- One bit of the reflected CRC-32C. -/
def crc32cBit (c : Nat) : Nat := if c % 2 = 1 then (c / 2) ^^^ 0x82F63B78 else c / 2

def crc32cByte (c : Nat) (b : Byte) : Nat :=
  let x := c ^^^ b.toNat
  crc32cBit (crc32cBit (crc32cBit (crc32cBit (crc32cBit (crc32cBit (crc32cBit (crc32cBit x)))))))

/-- CRC-32C: polynomial 0x1EDC6F41, reflected, initial and final values all ones (14 R352). -/
def crc32c (b : Bytes) : Nat := (b.foldl crc32cByte 0xFFFFFFFF) ^^^ 0xFFFFFFFF

/-- CRC-16 with polynomial 0x8BB7, initial value 0, no reflection, over the w low bits of x from the top (08 R175). -/
def crc16 : Nat → Nat → Nat → Nat
  | 0, _, c => c
  | w + 1, x, c =>
    let bit := (x / 2 ^ w) % 2
    let top := (c / 2 ^ 15) % 2
    let s := (c * 2) % 65536
    crc16 w x (if (top + bit) % 2 = 1 then s ^^^ 0x8BB7 else s)

/-- The CRC field that a fabric word must carry: over the payload and sideband bits [39:0] (08 R175). -/
def fabricCrc (payload : Nat) (side : Nat) : Nat := crc16 552 (payload * 2 ^ 40 + side % 2 ^ 40) 0

/-- ceil(a / b). -/
def ceilDiv (a b : Nat) : Nat := (a + b - 1) / b

/-- The smallest k with n ≤ 2^k. -/
def ceilLog2 (n : Nat) : Nat := if n ≤ 1 then 0 else Nat.log2 (n - 1) + 1

/-- Insert into a list of numbers, once. -/
def insertNat (x : Nat) (l : List Nat) : List Nat := if l.contains x then l else l ++ [x]

end Sys2Proof
end

