-- ==== Sys2Proof/Machine/Formats.lean ====
section
/-! DEFINITION. Number formats, exact values, conversion and rounding (02 R28 to R51), the mixer (R52), FP32
arithmetic of the vector engine (03 R75), placement of granules (09 R202), fingerprint terms (05 R125). -/

namespace Sys2Proof

/-- An exact value: a finite one is num / den × 2^exp with a sign that zero keeps (R29, R41). -/
inductive Val where
  | nan
  | inf (neg : Bool)
  | fin (neg : Bool) (num den : Nat) (exp : Int)
  deriving DecidableEq, Repr

/-! ### Formats (R28 to R33) -/

/-- Width of a format in bits; an A96 value occupies a 128-bit slot. -/
def fmtWidth (f : Nat) : Nat := [32, 16, 16, 8, 8, 6, 6, 4, 8, 32, 128].getD f 8
/-- Mantissa bits of the float formats 0x0 to 0x7. -/
def fmtMant (f : Nat) : Nat := [23, 7, 10, 3, 2, 2, 3, 1].getD f 0
def fmtBias (f : Nat) : Nat := [127, 127, 15, 7, 15, 3, 1, 1].getD f 0
/-- Pattern of the largest finite value. -/
def fmtMax (f : Nat) : Nat := [0x7F7FFFFF, 0x7F7F, 0x7BFF, 0x7E, 0x7B, 0x1F, 0x1F, 0x7].getD f 0
/-- The canonical NaN; +0 where the format has none (R40). -/
def fmtNan (f : Nat) : Nat := [0x7FC00000, 0x7FC0, 0x7E00, 0x7F, 0x7E, 0, 0, 0].getD f 0
def isFloat (f : Nat) : Bool := decide (f < 8)

/-- The format has IEEE infinities and NaNs at the all-ones exponent (R30). -/
def hasInf (f : Nat) : Bool := decide (f ≤ 2) || decide (f = 4)

/-- An integer as an exact value times 2^e. -/
def Val.ofInt (x : Int) (e : Int) : Val := .fin (decide (x < 0)) x.natAbs 1 e

/-- Multiply by 2^k. -/
def Val.scale (v : Val) (k : Int) : Val :=
  match v with
  | .fin s n d e => .fin s n d (e + k)
  | w => w

/-- The value of a float pattern (R29, R30). -/
def floatVal (f p : Nat) : Val :=
  let w := fmtWidth f
  let m := fmtMant f
  let s := p.testBit (w - 1)
  let emax := 2 ^ (w - 1 - m) - 1
  let e := field p (w - 2) m
  let frac := p % 2 ^ m
  if hasInf f ∧ e = emax then (if frac = 0 then .inf s else .nan)
  else if f = 3 ∧ p % 128 = 127 then .nan
  else if e = 0 then .fin s frac 1 (1 - (fmtBias f : Int) - m)
  else .fin s (2 ^ m + frac) 1 ((e : Int) - fmtBias f - m)

/-- The value of an element pattern of a format other than A96, at scale 1 (R29, R33, R35). -/
def elemVal (f p : Nat) : Val :=
  if isFloat f then floatVal f p else Val.ofInt (signed (fmtWidth f) p) 0

/-! ### Rounding (R43, R44) -/

/-- floor(log2) of a positive magnitude num / den × 2^exp. -/
def floorLog2 (num den : Nat) (exp : Int) : Int :=
  let l : Int := (Nat.log2 num : Int) - Nat.log2 den
  let le := if 0 ≤ l then decide (den * 2 ^ l.toNat ≤ num) else decide (den ≤ num * 2 ^ (-l).toNat)
  (if le then l else l - 1) + exp

/-- num / den × 2^exp in units of 2^q: numerator and denominator. -/
def inUnits (num den : Nat) (exp q : Int) : Nat × Nat :=
  if q ≤ exp then (num * 2 ^ (exp - q).toNat, den) else (num, den * 2 ^ (q - exp).toNat)

/-- Round-to-nearest-even of n / d (R43). -/
def rneNat (n d : Nat) : Nat :=
  let k := n / d
  let r := n % d
  if d < 2 * r ∨ (2 * r = d ∧ k % 2 = 1) then k + 1 else k

/-- Stochastic rounding up of a discarded fraction r / d with 32 random bits (R44). -/
def srUp (r d u : Nat) : Bool := decide (2 ^ 32 ≤ r * 2 ^ 32 / d + u)

/-- Magnitude rounding: to nearest even, or with random bits. -/
def roundMag (n d : Nat) (u : Option Nat) : Nat :=
  match u with
  | none => rneNat n d
  | some b => if srUp (n % d) d b then n / d + 1 else n / d

/-- Floor-form rounding of a signed fraction with random bits, or to nearest even (R43, R44). -/
def roundInt (neg : Bool) (n d : Nat) (u : Option Nat) : Int :=
  match u with
  | none => if neg then -(rneNat n d : Int) else rneNat n d
  | some b =>
    let x : Int := if neg then -(n : Int) else n
    let k := x / (d : Int)
    let r := (x % (d : Int)).toNat
    if srUp r d b then k + 1 else k

/-! ### Conversion (R38 to R42, R50) -/

/-- Classes of an element conversion (R42). -/
inductive ConvClass where
  | nonfinite | saturated | zero | ordinary
  deriving DecidableEq, Repr

/-- The pattern of a signed magnitude in a float format. -/
def withSign (f : Nat) (neg : Bool) (p : Nat) : Nat := if neg then p + 2 ^ (fmtWidth f - 1) else p

/-- Pattern of +∞ of the formats whose overflow gives it. -/
def fmtInf (f : Nat) : Nat := (2 ^ (fmtWidth f - 1 - fmtMant f) - 1) * 2 ^ fmtMant f

/-- The pattern a positive magnitude rounds to as if the exponent range had no upper bound. -/
def floatEnc (f num den : Nat) (exp : Int) (u : Option Nat) : Nat :=
  let m := fmtMant f
  let q := (if floorLog2 num den exp < 1 - (fmtBias f : Int) then 1 - (fmtBias f : Int) else floorLog2 num den exp) - m
  let x := inUnits num den exp q
  roundMag x.1 x.2 u + (q + m + fmtBias f - 1).toNat * 2 ^ m

/-- Convert to a float format; `u` gives the random bits of a stochastic rounding. -/
def toFloat (f : Nat) (v : Val) (u : Option Nat) : Nat × ConvClass :=
  match v with
  | .nan => (fmtNan f, .nonfinite)
  | .inf s => (withSign f s (if f ≤ 2 then fmtInf f else fmtMax f), .nonfinite)
  | .fin s n d e =>
    if n = 0 then (withSign f s 0, .zero)
    else
      let p := floatEnc f n d e u
      if fmtMax f < p then
        (if f ≤ 1 then (withSign f s (fmtInf f), .nonfinite) else (withSign f s (fmtMax f), .saturated))
      else (withSign f s p, if p = 0 then .zero else .ordinary)

/-- Clamp a rounded integer to ±lim and class it. -/
def clampInt (w lim : Nat) (x : Int) : Nat × ConvClass :=
  if (lim : Int) < x then (wrapBits w lim, .saturated)
  else if x < -(lim : Int) then (wrapBits w (-(lim : Int)), .saturated)
  else (wrapBits w x, if x = 0 then .zero else .ordinary)

/-- Convert to INT8 (R33, R39, R40). -/
def toInt8 (v : Val) (u : Option Nat) : Nat × ConvClass :=
  match v with
  | .nan => (0, .nonfinite)
  | .inf s => (if s then 0x81 else 0x7F, .nonfinite)
  | .fin s n d e => let x := inUnits n d e 0; clampInt 8 127 (roundInt s x.1 x.2 u)

/-- Clamp limit L of a tally window with n contributors (R50). -/
def t32Limit (n : Nat) : Nat := 2 ^ (31 - ceilLog2 n) - 1

/-- Convert a value already divided by 2^X into T32 for n contributors (R50). -/
def toT32Elem (v : Val) (n u : Nat) : Nat × ConvClass :=
  match v with
  | .nan => (0, .nonfinite)
  | .inf _ => (0, .nonfinite)
  | .fin s m d e => let x := inUnits m d e 0; clampInt 32 (t32Limit n) (roundInt s x.1 x.2 (some u))

/-- Convert a value, already divided by the destination's scale factor, to a float format or INT8. -/
def convertTo (f : Nat) (v : Val) (u : Option Nat) : Nat × ConvClass :=
  if isFloat f then toFloat f v u else toInt8 v u

/-! ### FP32 arithmetic (03 R75) -/

/-- Exact sum; a zero sum is −0 only when both addends are negative. -/
def Val.add (a b : Val) : Val :=
  match a, b with
  | .nan, _ => .nan
  | _, .nan => .nan
  | .inf s, .inf t => if s = t then .inf s else .nan
  | .inf s, _ => .inf s
  | _, .inf t => .inf t
  | .fin s n d e, .fin t m c g =>
    let q := if e ≤ g then e else g
    let x : Int := (if s then -1 else 1) * (n * c * 2 ^ (e - q).toNat : Nat)
      + (if t then -1 else 1) * (m * d * 2 ^ (g - q).toNat : Nat)
    if x = 0 then .fin (s && t) 0 1 0 else .fin (decide (x < 0)) x.natAbs (d * c) q

/-- Exact product. R37 lists a NaN operand, infinity × 0 and infinity × a finite number; of infinity × infinity it says nothing: an
infinity with the sign of the product (DESIGN CHOICE, log 92). -/
def Val.mul (a b : Val) : Val :=
  match a, b with
  | .nan, _ => .nan
  | _, .nan => .nan
  | .inf s, .inf t => .inf (s != t)
  | .inf s, .fin t m _ _ => if m = 0 then .nan else .inf (s != t)
  | .fin s n _ _, .inf t => if n = 0 then .nan else .inf (s != t)
  | .fin s n d e, .fin t m c g => .fin (s != t) (n * m) (d * c) (e + g)

def Val.neg (a : Val) : Val :=
  match a with
  | .nan => .nan
  | .inf s => .inf (!s)
  | .fin s n d e => .fin (!s) n d e

def Val.isNan (a : Val) : Bool := match a with | .nan => true | _ => false

/-- a < b by IEEE 754 rules; false with a NaN, and zeros compare equal. -/
def Val.lt (a b : Val) : Bool :=
  match a, b with
  | .nan, _ => false
  | _, .nan => false
  | .inf s, .inf t => s && !t
  | .inf s, _ => s
  | _, .inf t => !t
  | x, y => match x.add y.neg with | .fin s n _ _ => s && decide (n ≠ 0) | _ => false

/-- a = b by IEEE 754 rules. -/
def Val.eqv (a b : Val) : Bool := !a.isNan && !b.isNan && !a.lt b && !b.lt a

abbrev nan32 : Nat := 0x7FC00000
def val32 (p : Nat) : Val := floatVal 0 p
/-- The FP32 value nearest to an exact value. -/
def to32 (v : Val) : Nat := (toFloat 0 v none).1

def add32 (a b : Nat) : Nat := to32 ((val32 a).add (val32 b))
def sub32 (a b : Nat) : Nat := to32 ((val32 a).add (val32 b).neg)
def mul32 (a b : Nat) : Nat := to32 ((val32 a).mul (val32 b))
def fma32 (a b c : Nat) : Nat := to32 (((val32 a).mul (val32 b)).add (val32 c))

/-- Smaller of two, −0 below +0, NaN if either is a NaN. -/
def min32 (a b : Nat) : Nat :=
  if (val32 a).isNan || (val32 b).isNan then nan32
  else if (val32 a).lt (val32 b) then a else if (val32 b).lt (val32 a) then b
  else if a.testBit 31 then a else b

def max32 (a b : Nat) : Nat :=
  if (val32 a).isNan || (val32 b).isNan then nan32
  else if (val32 a).lt (val32 b) then b else if (val32 b).lt (val32 a) then a
  else if a.testBit 31 then b else a

def abs32 (a : Nat) : Nat := if (val32 a).isNan then nan32 else a % 2 ^ 31
def neg32 (a : Nat) : Nat := if (val32 a).isNan then nan32 else (a + 2 ^ 31) % 2 ^ 32

/-- The encoding of +1 in a float format or INT8. -/
def oneOf (f : Nat) : Nat := if isFloat f then fmtBias f * 2 ^ fmtMant f else 1

/-- One level of the reference tree of R118. -/
def sumLevel : List Nat → List Nat
  | a :: b :: t => add32 a b :: sumLevel t
  | l => l

/-- The reference sum of R118; `fuel` levels suffice for 2^fuel elements. -/
def refSum : Nat → List Nat → Nat
  | 0, l => l.headD 0
  | n + 1, l => if l.length ≤ 1 then l.headD 0 else refSum n (sumLevel l)

/-! ### The mixer (R52) -/

def mixerC : List Nat := [0x9E3779B97F4A7C15, 0xBB67AE8584CAA73B, 0x3C6EF372FE94F82B, 0xA54FF53A5F1D36F1]
def mixerRot : List Nat := [24, 44, 12, 36]

def rotl64 (x n : Nat) : Nat := (x * 2 ^ n) % 2 ^ 64 + x / 2 ^ (64 - n)

def mixerRound (seed : Nat) (s : Nat × Nat) (i : Nat) : Nat × Nat :=
  let k := if i % 2 = 0 then seed % 2 ^ 64 else seed / 2 ^ 64 % 2 ^ 64
  let x0 := (s.1 + s.2 + k + mixerC.getD i 0) % 2 ^ 64
  (x0, rotl64 s.2 (mixerRot.getD i 1) ^^^ x0)

def mixer (seed step tensor index use : Nat) : Nat :=
  let x := step % 2 ^ 48 + tensor % 2 ^ 16 * 2 ^ 48
  let y := tensor / 2 ^ 16 % 2 ^ 8 + index % 2 ^ 40 * 2 ^ 8 + use % 2 ^ 16 * 2 ^ 48
  let r := [0, 1, 2, 3].foldl (mixerRound seed) (x, y)
  (r.1 + r.2) % 2 ^ 64

/-- The 32 random bits u of a stochastic rounding: bits [63:32] of the output (R44). -/
def srBits (seed step tensor index kind qual : Nat) : Nat :=
  mixer seed step tensor index (kind + qual % 4096 * 16) / 2 ^ 32

/-! ### Max codes (06 R139) -/

/-- Max code of a finite nonzero magnitude; 0 for zero and for non-finite values. -/
def maxCode (v : Val) : Nat :=
  match v with
  | .fin _ n d e =>
    if n = 0 then 0
    else
      let l := floorLog2 n d e
      let x := inUnits n d e (l - 22)
      (l + 512).toNat * 2 ^ 22 + (x.1 / x.2 - 2 ^ 22)
  | _ => 0

/-! ### Placement of a region's granules (09 R202) -/

structure Place where
  stack : Nat
  chan  : Nat
  pc    : Nat
  slot  : Nat
  deriving DecidableEq, Repr

def place (g c : Nat) (stks : List Nat) (band0 group key : Nat) : Place :=
  let h := g / c
  let t := mixer (key + group * 2 ^ 64) 0 0 h 0
  let p := (g % c + t) % c
  let n := p / stks.length
  { stack := stks.getD (p % stks.length) 0, chan := n % 32, pc := n / 32, slot := band0 + h }

/-! ### Fingerprints (05 R125) -/

def fpMod : Nat := 2 ^ 61 - 1

/-- b^e modulo P, with e below 2^fuel. -/
def powMod : Nat → Nat → Nat → Nat
  | 0, _, _ => 1
  | f + 1, b, e => let r := powMod f (b * b % fpMod) (e / 2); if e % 2 = 1 then r * b % fpMod else r

def fpTerm (v j k : Nat) : Nat := (v + 1) * powMod 45 k (j + 1) % fpMod

def fpSum (units : List (Nat × Nat)) (k : Nat) : Nat :=
  units.foldl (fun a x => (a + fpTerm x.1 x.2 k) % fpMod) 0

/-- The key from the 8-byte SHAKE256 digest of the fingerprint seed and the tensor. -/
def fpKeyOf (digest : Nat) : Nat := let k := digest % fpMod; if k < 2 then k + 2 else k

end Sys2Proof
end

