-- ==== Sys2Proof/Machine/Objects.lean ====
section
/-! DEFINITION. The objects of the dictionary: one row for each line of the spec's object tables (14 R342), and what
they are at reset. A row covers `cnt` indices `step` apart and `subs` subindices. Codes as 14 R342 to R345 give them:
type, access (1 CONST, 2 RO, 3 RW, 4 WO, 5 GUARDED, 6 AUTH), write class (0 none, 1 D, 2 T, 3 I), persistence, unit.
`lo` to `hi` is the range of values the object's meaning does not call reserved. A default that the object's bytes cannot hold stands
for one formed from the identity (SYSTEM_NAME). -/

namespace Sys2Proof.Machine

open Sys2Proof

structure ObjRow where
  base    : Nat
  cnt     : Nat
  step    : Nat
  sub     : Nat
  subs    : Nat
  type    : Nat
  size    : Nat
  access  : Nat
  wclass  : Nat
  persist : Nat
  unit    : Nat
  deflt   : Nat
  lo      : Nat
  hi      : Nat
  deriving DecidableEq, Repr

def objRows0 : List ObjRow := [
  ⟨0x1000, 1, 1, 0x01, 1, 16, 16, 1, 0, 0, 0, 0x6874756f766c6146, 0, 0⟩,
  ⟨0x1000, 1, 1, 0x02, 1, 16, 16, 1, 0, 0, 0, 0, 0, 0⟩,
  ⟨0x1000, 1, 1, 0x03, 1, 1, 1, 1, 0, 0, 0, 0, 0, 255⟩,
  ⟨0x1000, 1, 1, 0x04, 1, 2, 2, 1, 0, 0, 0, 0, 0, 65535⟩,
  ⟨0x1000, 1, 1, 0x05, 1, 4, 8, 1, 0, 0, 0, 0, 0, 18446744073709551615⟩,
  ⟨0x1000, 1, 1, 0x06, 1, 16, 6, 1, 0, 0, 0, 0, 0, 0⟩,
  ⟨0x1000, 1, 1, 0x07, 1, 16, 32, 1, 0, 0, 0, 0, 0, 0⟩,
  ⟨0x1000, 1, 1, 0x08, 1, 16, 68, 1, 0, 0, 0, 0, 0, 0⟩,
  ⟨0x1000, 1, 1, 0x09, 1, 3, 4, 1, 0, 0, 0, 0, 0, 4294967295⟩,
  ⟨0x1000, 1, 1, 0x0A, 1, 2, 2, 1, 0, 0, 0, 0x500, 0, 65535⟩,
  ⟨0x1000, 1, 1, 0x0B, 1, 1, 1, 1, 0, 0, 0, 6, 0, 255⟩,
  ⟨0x1000, 1, 1, 0x0C, 1, 1, 1, 1, 0, 0, 0, 0, 0, 255⟩,
  ⟨0x1000, 1, 1, 0x0D, 1, 16, 64, 3, 2, 2, 0, 0x100000000000000000000000000000000000000000000000000000000000000000000000000000000000000000000000000000000000000000000000000000000, 0, 0⟩,
  ⟨0x1000, 1, 1, 0x0E, 1, 3, 4, 1, 0, 0, 0, 0, 0, 4294967295⟩,
  ⟨0x1000, 1, 1, 0x0F, 1, 3, 4, 1, 0, 0, 0, 0x10000, 0, 4294967295⟩,
  ⟨0x1001, 1, 1, 0x01, 80, 3, 4, 1, 0, 0, 0, 0, 0, 4294967295⟩,
  ⟨0x1002, 1, 1, 0x01, 1, 16, 6224, 1, 0, 0, 0, 0, 0, 0⟩]

def objRows1 : List ObjRow := [
  ⟨0x1100, 1, 1, 0x01, 1, 16, 6, 1, 0, 0, 0, 0, 0, 0⟩,
  ⟨0x1100, 1, 1, 0x02, 1, 1, 1, 2, 0, 1, 0, 0, 0, 255⟩,
  ⟨0x1100, 1, 1, 0x03, 1, 3, 4, 2, 0, 1, 0, 0, 0, 4294967295⟩,
  ⟨0x1100, 1, 1, 0x04, 1, 3, 4, 2, 0, 1, 0, 0, 0, 4294967295⟩,
  ⟨0x1100, 1, 1, 0x05, 1, 4, 8, 2, 0, 1, 0, 0, 0, 18446744073709551615⟩,
  ⟨0x1100, 1, 1, 0x06, 1, 4, 8, 2, 0, 1, 0, 0, 0, 18446744073709551615⟩,
  ⟨0x1100, 1, 1, 0x07, 1, 4, 8, 2, 0, 1, 0, 0, 0, 18446744073709551615⟩,
  ⟨0x1110, 1, 1, 0x01, 32, 3, 4, 3, 2, 1, 0, 0, 0, 16777215⟩,
  ⟨0x1120, 1, 1, 0x01, 1, 1, 1, 3, 2, 1, 0, 0x1e, 0, 31⟩,
  ⟨0x1120, 1, 1, 0x02, 1, 1, 1, 3, 2, 1, 0, 0x18, 0, 31⟩,
  ⟨0x1120, 1, 1, 0x03, 1, 1, 1, 2, 0, 1, 0, 0, 0, 255⟩,
  ⟨0x1120, 1, 1, 0x04, 1, 3, 4, 2, 0, 1, 0, 0, 0, 4294967295⟩,
  ⟨0x1120, 1, 1, 0x05, 1, 1, 1, 3, 2, 1, 4, 1, 1, 10⟩]

def objRows2 : List ObjRow := [
  ⟨0x1200, 1, 1, 0x01, 1, 2, 2, 4, 3, 1, 0, 0, 0, 65535⟩,
  ⟨0x1200, 1, 1, 0x02, 1, 1, 1, 2, 0, 1, 0, 0, 0, 255⟩,
  ⟨0x1200, 1, 1, 0x03, 1, 3, 4, 2, 0, 1, 0, 0, 0, 4294967295⟩,
  ⟨0x1200, 1, 1, 0x04, 1, 3, 4, 2, 0, 1, 0, 0, 0, 4294967295⟩,
  ⟨0x1201, 1, 1, 0x01, 1, 3, 4, 3, 3, 1, 0, 0x100001, 0, 16777215⟩,
  ⟨0x1201, 1, 1, 0x02, 1, 16, 24, 2, 0, 1, 0, 0, 0, 0⟩,
  ⟨0x1201, 1, 1, 0x03, 1, 3, 4, 2, 0, 1, 0, 0, 0, 4294967295⟩,
  ⟨0x1202, 1, 1, 0x01, 1, 1, 1, 1, 0, 0, 0, 1, 0, 255⟩,
  ⟨0x1202, 1, 1, 0x02, 1, 2, 2, 1, 0, 0, 7, 0x400, 0, 65535⟩,
  ⟨0x1202, 1, 1, 0x03, 1, 4, 8, 2, 0, 1, 0, 0, 0, 18446744073709551615⟩,
  ⟨0x1202, 1, 1, 0x04, 1, 4, 8, 2, 0, 1, 0, 0, 0, 18446744073709551615⟩,
  ⟨0x1202, 1, 1, 0x05, 1, 3, 4, 2, 0, 1, 0, 0, 0, 4294967295⟩,
  ⟨0x1202, 1, 1, 0x06, 1, 3, 4, 2, 0, 1, 0, 0, 0, 4294967295⟩,
  ⟨0x1202, 1, 1, 0x07, 1, 1, 1, 2, 0, 1, 0, 0, 0, 255⟩,
  ⟨0x1210, 1, 1, 0x01, 1, 3, 4, 2, 0, 1, 0, 0, 0, 4294967295⟩,
  ⟨0x1210, 1, 1, 0x02, 1, 3, 4, 5, 3, 1, 0, 0, 0, 4294967295⟩,
  ⟨0x1210, 1, 1, 0x03, 1, 1, 1, 2, 0, 1, 0, 0, 0, 255⟩,
  ⟨0x1210, 1, 1, 0x04, 1, 3, 4, 2, 0, 1, 0, 0, 0, 4294967295⟩,
  ⟨0x1210, 1, 1, 0x05, 1, 3, 4, 2, 0, 1, 0, 0, 0, 4294967295⟩,
  ⟨0x1230, 1, 1, 0x01, 1, 2, 2, 2, 0, 1, 0, 0, 0, 65535⟩,
  ⟨0x1230, 1, 1, 0x02, 1, 4, 8, 2, 0, 1, 0, 0, 0, 18446744073709551615⟩,
  ⟨0x1230, 1, 1, 0x03, 1, 4, 8, 2, 0, 1, 0, 0, 0, 18446744073709551615⟩,
  ⟨0x1230, 1, 1, 0x04, 1, 3, 4, 2, 0, 1, 0, 0, 0, 4294967295⟩,
  ⟨0x12F0, 1, 1, 0x01, 1, 4, 8, 4, 3, 1, 0, 0, 0, 18446744073709551615⟩,
  ⟨0x12F0, 1, 1, 0x02, 1, 4, 8, 4, 3, 1, 0, 0, 0, 18446744073709551615⟩,
  ⟨0x12F0, 1, 1, 0x03, 1, 3, 4, 4, 3, 1, 0, 0, 0, 4294967295⟩]

def objRows3 : List ObjRow := [
  ⟨0x2000, 1, 1, 0x01, 4, 2, 2, 2, 0, 1, 9, 0, 0, 65535⟩,
  ⟨0x2000, 1, 1, 0x05, 4, 3, 4, 2, 0, 1, 10, 0, 0, 4294967295⟩,
  ⟨0x2000, 1, 1, 0x09, 1, 2, 2, 2, 0, 1, 11, 0, 0, 65535⟩,
  ⟨0x2000, 1, 1, 0x0A, 1, 6, 2, 2, 0, 1, 6, 0, 0, 65535⟩,
  ⟨0x2000, 1, 1, 0x0B, 1, 1, 1, 3, 2, 1, 5, 0x5f, 85, 100⟩,
  ⟨0x2000, 1, 1, 0x0C, 1, 1, 1, 2, 0, 1, 0, 0, 0, 255⟩,
  ⟨0x2000, 1, 1, 0x0D, 1, 1, 1, 2, 0, 1, 0, 0, 0, 255⟩,
  ⟨0x2010, 1, 1, 0x01, 1, 4, 8, 2, 0, 1, 1, 0, 0, 18446744073709551615⟩,
  ⟨0x2010, 1, 1, 0x02, 1, 4, 8, 2, 0, 1, 8, 0, 0, 18446744073709551615⟩,
  ⟨0x2010, 1, 1, 0x03, 1, 4, 8, 2, 0, 1, 8, 0, 0, 18446744073709551615⟩,
  ⟨0x2010, 1, 1, 0x04, 1, 4, 8, 2, 0, 1, 8, 0, 0, 18446744073709551615⟩,
  ⟨0x2010, 1, 1, 0x05, 1, 4, 8, 2, 0, 1, 8, 0, 0, 18446744073709551615⟩,
  ⟨0x2100, 1, 1, 0x01, 1, 1, 1, 2, 0, 1, 0, 1, 0, 255⟩,
  ⟨0x2100, 1, 1, 0x02, 1, 1, 1, 4, 3, 1, 0, 0, 1, 1⟩,
  ⟨0x2100, 1, 1, 0x03, 1, 1, 1, 4, 3, 1, 0, 0, 1, 1⟩,
  ⟨0x2100, 1, 1, 0x04, 1, 1, 1, 4, 3, 1, 0, 0, 1, 1⟩,
  ⟨0x2100, 1, 1, 0x05, 1, 1, 1, 4, 3, 1, 0, 0, 1, 1⟩,
  ⟨0x2100, 1, 1, 0x06, 1, 1, 1, 4, 3, 1, 0, 0, 1, 1⟩,
  ⟨0x2100, 1, 1, 0x07, 1, 1, 1, 2, 0, 1, 0, 0, 0, 255⟩,
  ⟨0x2100, 1, 1, 0x08, 1, 1, 1, 2, 0, 1, 0, 0, 0, 255⟩,
  ⟨0x2100, 1, 1, 0x09, 1, 4, 8, 2, 0, 1, 1, 0, 0, 18446744073709551615⟩,
  ⟨0x2101, 1, 1, 0x01, 8, 1, 1, 2, 0, 1, 0, 0, 0, 255⟩,
  ⟨0x2101, 1, 1, 0x11, 8, 3, 4, 2, 0, 1, 3, 0, 0, 4294967295⟩,
  ⟨0x2110, 4, 1, 0x01, 20, 3, 4, 2, 0, 1, 0, 0, 0, 4294967295⟩,
  ⟨0x2110, 4, 1, 0x15, 1, 1, 1, 2, 0, 1, 0, 0, 0, 255⟩,
  ⟨0x2110, 4, 1, 0x16, 1, 3, 4, 2, 0, 1, 0, 0, 0, 4294967295⟩,
  ⟨0x2120, 4, 1, 0x01, 20, 3, 4, 2, 0, 1, 0, 0, 0, 4294967295⟩,
  ⟨0x2120, 4, 1, 0x15, 1, 3, 4, 2, 0, 1, 0, 0, 0, 4294967295⟩,
  ⟨0x2130, 1, 1, 0x01, 1, 2, 2, 2, 0, 1, 0, 0, 0, 65535⟩,
  ⟨0x2130, 1, 1, 0x02, 1, 3, 4, 2, 0, 1, 0, 0, 0, 4294967295⟩,
  ⟨0x2130, 1, 1, 0x03, 1, 1, 1, 2, 0, 1, 0, 0, 0, 255⟩,
  ⟨0x2200, 1, 1, 0x01, 1, 2, 2, 1, 0, 0, 0, 0xa1, 0, 65535⟩,
  ⟨0x2200, 1, 1, 0x02, 1, 2, 2, 1, 0, 0, 0, 0xa1, 0, 65535⟩,
  ⟨0x2200, 1, 1, 0x03, 1, 2, 2, 1, 0, 0, 0, 0, 0, 65535⟩,
  ⟨0x2200, 1, 1, 0x04, 1, 2, 2, 2, 0, 1, 0, 0, 0, 65535⟩,
  ⟨0x2200, 1, 1, 0x05, 1, 2, 2, 2, 0, 1, 0, 0, 0, 65535⟩]

def objRows4 : List ObjRow := [
  ⟨0x2200, 1, 1, 0x06, 1, 2, 2, 2, 0, 1, 0, 0, 0, 65535⟩,
  ⟨0x2200, 1, 1, 0x07, 1, 2, 2, 2, 0, 1, 0, 0, 0, 65535⟩,
  ⟨0x2200, 1, 1, 0x08, 1, 4, 8, 2, 0, 1, 0, 0, 0, 18446744073709551615⟩]

def objRows5 : List ObjRow := [
  ⟨0x2210, 1, 1, 0x01, 1, 2, 2, 1, 0, 0, 8, 0x86, 0, 65535⟩,
  ⟨0x2210, 1, 1, 0x02, 1, 2, 2, 1, 0, 0, 8, 0xc5, 0, 65535⟩,
  ⟨0x2210, 1, 1, 0x03, 1, 2, 2, 1, 0, 0, 8, 0x40, 0, 65535⟩,
  ⟨0x2210, 1, 1, 0x04, 1, 2, 2, 1, 0, 0, 8, 0x80, 0, 65535⟩,
  ⟨0x2210, 1, 1, 0x05, 1, 2, 2, 1, 0, 0, 8, 0x40, 0, 65535⟩,
  ⟨0x2210, 1, 1, 0x06, 1, 2, 2, 1, 0, 0, 8, 0x100, 0, 65535⟩,
  ⟨0x2210, 1, 1, 0x07, 1, 2, 2, 1, 0, 0, 8, 0x400, 0, 65535⟩,
  ⟨0x2210, 1, 1, 0x08, 1, 2, 2, 1, 0, 0, 8, 0xc, 0, 65535⟩,
  ⟨0x2210, 1, 1, 0x09, 1, 2, 2, 1, 0, 0, 8, 8, 0, 65535⟩,
  ⟨0x2210, 1, 1, 0x0A, 1, 2, 2, 1, 0, 0, 8, 4, 0, 65535⟩,
  ⟨0x2210, 1, 1, 0x0B, 1, 2, 2, 1, 0, 0, 8, 3, 0, 65535⟩,
  ⟨0x2210, 1, 1, 0x0C, 1, 2, 2, 1, 0, 0, 8, 3, 0, 65535⟩,
  ⟨0x2210, 1, 1, 0x0D, 1, 2, 2, 1, 0, 0, 8, 0x22, 0, 65535⟩,
  ⟨0x2210, 1, 1, 0x0E, 1, 2, 2, 1, 0, 0, 8, 0xc, 0, 65535⟩,
  ⟨0x2210, 1, 1, 0x0F, 1, 2, 2, 1, 0, 0, 8, 0x16, 0, 65535⟩,
  ⟨0x2210, 1, 1, 0x10, 1, 2, 2, 1, 0, 0, 8, 0x18, 0, 65535⟩,
  ⟨0x2210, 1, 1, 0x11, 1, 2, 2, 1, 0, 0, 8, 0x12, 0, 65535⟩,
  ⟨0x2210, 1, 1, 0x12, 1, 2, 2, 1, 0, 0, 8, 0x14, 0, 65535⟩,
  ⟨0x2210, 1, 1, 0x13, 1, 2, 2, 1, 0, 0, 8, 0x28, 0, 65535⟩,
  ⟨0x2210, 1, 1, 0x14, 1, 2, 2, 1, 0, 0, 8, 8, 0, 65535⟩,
  ⟨0x2210, 1, 1, 0x15, 1, 2, 2, 1, 0, 0, 8, 0x1a4, 0, 65535⟩,
  ⟨0x2210, 1, 1, 0x16, 1, 2, 2, 1, 0, 0, 8, 2, 0, 65535⟩,
  ⟨0x2210, 1, 1, 0x17, 1, 2, 2, 1, 0, 0, 8, 0x422, 0, 65535⟩,
  ⟨0x2210, 1, 1, 0x20, 1, 2, 2, 1, 0, 0, 8, 3, 0, 65535⟩,
  ⟨0x2210, 1, 1, 0x21, 1, 2, 2, 1, 0, 0, 8, 2, 0, 65535⟩,
  ⟨0x2210, 1, 1, 0x22, 1, 2, 2, 1, 0, 0, 8, 2, 0, 65535⟩,
  ⟨0x2210, 1, 1, 0x23, 1, 2, 2, 1, 0, 0, 8, 0x30, 0, 65535⟩,
  ⟨0x2210, 1, 1, 0x24, 1, 2, 2, 1, 0, 0, 8, 3, 0, 65535⟩,
  ⟨0x2210, 1, 1, 0x30, 1, 4, 8, 1, 0, 0, 0, 0, 0, 18446744073709551615⟩]

def objRows6 : List ObjRow := [
  ⟨0x2211, 1, 1, 0x01, 1, 2, 2, 1, 0, 0, 8, 0x86, 0, 65535⟩,
  ⟨0x2211, 1, 1, 0x02, 1, 2, 2, 1, 0, 0, 8, 0xc5, 0, 65535⟩,
  ⟨0x2211, 1, 1, 0x03, 1, 2, 2, 1, 0, 0, 8, 0x40, 0, 65535⟩,
  ⟨0x2211, 1, 1, 0x04, 1, 2, 2, 1, 0, 0, 8, 0x80, 0, 65535⟩,
  ⟨0x2211, 1, 1, 0x05, 1, 2, 2, 1, 0, 0, 8, 0x40, 0, 65535⟩,
  ⟨0x2211, 1, 1, 0x06, 1, 2, 2, 1, 0, 0, 8, 0x100, 0, 65535⟩,
  ⟨0x2211, 1, 1, 0x07, 1, 2, 2, 1, 0, 0, 8, 0x400, 0, 65535⟩,
  ⟨0x2211, 1, 1, 0x08, 1, 2, 2, 1, 0, 0, 8, 0xc, 0, 65535⟩,
  ⟨0x2211, 1, 1, 0x09, 1, 2, 2, 1, 0, 0, 8, 8, 0, 65535⟩,
  ⟨0x2211, 1, 1, 0x0A, 1, 2, 2, 1, 0, 0, 8, 4, 0, 65535⟩,
  ⟨0x2211, 1, 1, 0x0B, 1, 2, 2, 1, 0, 0, 8, 3, 0, 65535⟩,
  ⟨0x2211, 1, 1, 0x0C, 1, 2, 2, 1, 0, 0, 8, 3, 0, 65535⟩,
  ⟨0x2211, 1, 1, 0x0D, 1, 2, 2, 1, 0, 0, 8, 0x22, 0, 65535⟩,
  ⟨0x2211, 1, 1, 0x0E, 1, 2, 2, 1, 0, 0, 8, 0xc, 0, 65535⟩,
  ⟨0x2211, 1, 1, 0x0F, 1, 2, 2, 1, 0, 0, 8, 0x16, 0, 65535⟩,
  ⟨0x2211, 1, 1, 0x10, 1, 2, 2, 1, 0, 0, 8, 0x18, 0, 65535⟩,
  ⟨0x2211, 1, 1, 0x11, 1, 2, 2, 1, 0, 0, 8, 0xe, 0, 65535⟩,
  ⟨0x2211, 1, 1, 0x12, 1, 2, 2, 1, 0, 0, 8, 0x14, 0, 65535⟩,
  ⟨0x2211, 1, 1, 0x13, 1, 2, 2, 1, 0, 0, 8, 0x28, 0, 65535⟩,
  ⟨0x2211, 1, 1, 0x14, 1, 2, 2, 1, 0, 0, 8, 8, 0, 65535⟩,
  ⟨0x2211, 1, 1, 0x15, 1, 2, 2, 1, 0, 0, 8, 0x16c, 0, 65535⟩,
  ⟨0x2211, 1, 1, 0x16, 1, 2, 2, 1, 0, 0, 8, 2, 0, 65535⟩,
  ⟨0x2211, 1, 1, 0x17, 1, 2, 2, 1, 0, 0, 8, 0x422, 0, 65535⟩,
  ⟨0x2211, 1, 1, 0x20, 1, 2, 2, 1, 0, 0, 8, 3, 0, 65535⟩,
  ⟨0x2211, 1, 1, 0x21, 1, 2, 2, 1, 0, 0, 8, 2, 0, 65535⟩,
  ⟨0x2211, 1, 1, 0x22, 1, 2, 2, 1, 0, 0, 8, 2, 0, 65535⟩,
  ⟨0x2211, 1, 1, 0x23, 1, 2, 2, 1, 0, 0, 8, 0x30, 0, 65535⟩,
  ⟨0x2211, 1, 1, 0x24, 1, 2, 2, 1, 0, 0, 8, 3, 0, 65535⟩,
  ⟨0x2211, 1, 1, 0x30, 1, 4, 8, 1, 0, 0, 0, 0, 0, 18446744073709551615⟩]

def objRows7 : List ObjRow := [
  ⟨0x30F0, 4, 256, 0x01, 1, 4, 8, 2, 0, 1, 0, 0, 0, 18446744073709551615⟩,
  ⟨0x30F0, 4, 256, 0x02, 1, 4, 8, 2, 0, 1, 0, 0, 0, 18446744073709551615⟩,
  ⟨0x30F0, 4, 256, 0x03, 1, 1, 1, 2, 0, 1, 0, 0, 0, 255⟩,
  ⟨0x30F0, 4, 256, 0x04, 1, 3, 4, 2, 0, 1, 0, 0, 0, 4294967295⟩,
  ⟨0x30F0, 4, 256, 0x05, 1, 3, 4, 2, 0, 1, 0, 0, 0, 4294967295⟩,
  ⟨0x30F0, 4, 256, 0x06, 1, 3, 4, 2, 0, 1, 0, 0, 0, 4294967295⟩,
  ⟨0x30F0, 4, 256, 0x07, 1, 3, 4, 2, 0, 1, 0, 0, 0, 4294967295⟩,
  ⟨0x30F0, 4, 256, 0x08, 1, 3, 4, 2, 0, 1, 0, 0, 0, 4294967295⟩,
  ⟨0x30F0, 4, 256, 0x09, 1, 4, 8, 2, 0, 1, 0, 0, 0, 18446744073709551615⟩]

def objRows8 : List ObjRow := [
  ⟨0x4000, 1, 1, 0x01, 1, 3, 4, 2, 0, 1, 0, 0, 0, 4294967295⟩,
  ⟨0x4000, 1, 1, 0x02, 1, 3, 4, 2, 0, 1, 0, 0x3e8, 0, 4294967295⟩,
  ⟨0x4000, 1, 1, 0x03, 1, 3, 4, 2, 0, 1, 0, 0x3e8, 0, 4294967295⟩,
  ⟨0x4000, 1, 1, 0x04, 1, 3, 4, 2, 0, 1, 0, 0x3e8, 0, 4294967295⟩,
  ⟨0x4000, 1, 1, 0x05, 1, 3, 4, 2, 0, 1, 0, 0x3e8, 0, 4294967295⟩,
  ⟨0x4000, 1, 1, 0x06, 1, 1, 1, 2, 0, 1, 0, 0, 0, 255⟩,
  ⟨0x4000, 1, 1, 0x07, 1, 3, 4, 2, 0, 1, 0, 0, 0, 4294967295⟩,
  ⟨0x4000, 1, 1, 0x08, 1, 3, 4, 2, 0, 1, 0, 0, 0, 4294967295⟩,
  ⟨0x4001, 1, 1, 0x01, 1, 1, 1, 3, 2, 1, 5, 0x5f, 85, 95⟩,
  ⟨0x4001, 1, 1, 0x02, 1, 1, 1, 3, 2, 1, 5, 0x69, 95, 105⟩,
  ⟨0x4001, 1, 1, 0x03, 1, 1, 1, 3, 2, 1, 5, 3, 1, 5⟩,
  ⟨0x4010, 20, 1, 0x01, 1, 6, 2, 2, 0, 1, 6, 0, 0, 65535⟩,
  ⟨0x4010, 20, 1, 0x02, 1, 6, 2, 2, 0, 1, 6, 0, 0, 65535⟩,
  ⟨0x4010, 20, 1, 0x03, 1, 1, 1, 2, 0, 1, 0, 0, 0, 255⟩,
  ⟨0x4010, 20, 1, 0x04, 1, 1, 1, 2, 0, 1, 0, 0, 0, 255⟩,
  ⟨0x4010, 20, 1, 0x05, 1, 4, 8, 2, 0, 1, 1, 0, 0, 18446744073709551615⟩,
  ⟨0x4010, 20, 1, 0x06, 1, 4, 8, 2, 0, 1, 0, 0, 0, 18446744073709551615⟩,
  ⟨0x4010, 20, 1, 0x07, 1, 4, 8, 2, 0, 1, 0, 0, 0, 18446744073709551615⟩,
  ⟨0x4010, 20, 1, 0x08, 1, 3, 4, 2, 0, 1, 0, 0, 0, 4294967295⟩,
  ⟨0x4010, 20, 1, 0x09, 1, 4, 8, 2, 0, 1, 0, 0, 0, 18446744073709551615⟩,
  ⟨0x4010, 20, 1, 0x0A, 1, 4, 8, 2, 0, 1, 0, 0, 0, 18446744073709551615⟩,
  ⟨0x4010, 20, 1, 0x0B, 1, 4, 8, 2, 0, 1, 7, 0, 0, 18446744073709551615⟩,
  ⟨0x4010, 20, 1, 0x0C, 1, 4, 8, 2, 0, 1, 7, 0, 0, 18446744073709551615⟩,
  ⟨0x4010, 20, 1, 0x0D, 1, 1, 1, 2, 0, 1, 0, 0, 0, 255⟩,
  ⟨0x4010, 20, 1, 0x0E, 1, 3, 4, 2, 0, 1, 0, 0, 0, 4294967295⟩,
  ⟨0x4010, 20, 1, 0x0F, 1, 1, 1, 2, 0, 1, 0, 1, 0, 255⟩,
  ⟨0x4030, 20, 1, 0x01, 32, 2, 2, 2, 0, 1, 0, 3, 0, 65535⟩,
  ⟨0x4030, 20, 1, 0x21, 1, 2, 2, 2, 0, 1, 3, 0, 0, 65535⟩,
  ⟨0x4030, 20, 1, 0x22, 1, 1, 1, 2, 0, 1, 0, 3, 0, 255⟩,
  ⟨0x4060, 20, 1, 0x01, 1, 4, 8, 2, 0, 1, 0, 0, 0, 18446744073709551615⟩,
  ⟨0x4060, 20, 1, 0x02, 1, 4, 8, 2, 0, 1, 0, 0, 0, 18446744073709551615⟩,
  ⟨0x4060, 20, 1, 0x03, 1, 4, 8, 2, 0, 1, 0, 0, 0, 18446744073709551615⟩,
  ⟨0x4060, 20, 1, 0x04, 1, 4, 8, 2, 0, 1, 0, 0, 0, 18446744073709551615⟩,
  ⟨0x4060, 20, 1, 0x05, 1, 4, 8, 2, 0, 1, 0, 0, 0, 18446744073709551615⟩,
  ⟨0x4060, 20, 1, 0x06, 1, 4, 8, 2, 0, 1, 0, 0, 0, 18446744073709551615⟩,
  ⟨0x4060, 20, 1, 0x07, 1, 3, 4, 2, 0, 1, 0, 0, 0, 4294967295⟩]

def objRows9 : List ObjRow := [
  ⟨0x5000, 6, 1, 0x01, 1, 1, 1, 3, 1, 1, 0, 0, 0, 3⟩,
  ⟨0x5000, 6, 1, 0x02, 1, 1, 1, 3, 1, 1, 0, 0, 0, 2⟩,
  ⟨0x5000, 6, 1, 0x03, 1, 1, 1, 3, 1, 1, 0, 1, 0, 1⟩,
  ⟨0x5000, 6, 1, 0x04, 1, 1, 1, 3, 3, 1, 0, 0, 0, 1⟩,
  ⟨0x5000, 6, 1, 0x05, 1, 1, 1, 2, 0, 1, 0, 0, 0, 255⟩,
  ⟨0x5000, 6, 1, 0x06, 1, 1, 1, 2, 0, 1, 0, 0, 0, 255⟩,
  ⟨0x5000, 6, 1, 0x07, 1, 1, 1, 3, 1, 1, 0, 0, 0, 255⟩,
  ⟨0x5000, 6, 1, 0x08, 1, 1, 1, 3, 1, 1, 0, 3, 0, 7⟩,
  ⟨0x5000, 6, 1, 0x09, 1, 1, 1, 3, 1, 1, 0, 6, 0, 7⟩,
  ⟨0x5010, 48, 1, 0x01, 1, 1, 1, 2, 0, 1, 0, 3, 0, 255⟩,
  ⟨0x5010, 48, 1, 0x02, 1, 1, 1, 2, 0, 1, 0, 0, 0, 255⟩,
  ⟨0x5010, 48, 1, 0x03, 1, 2, 2, 2, 0, 1, 12, 0, 0, 65535⟩,
  ⟨0x5010, 48, 1, 0x04, 1, 6, 2, 2, 0, 1, 13, 0, 0, 65535⟩,
  ⟨0x5010, 48, 1, 0x05, 1, 2, 2, 2, 0, 1, 3, 0, 0, 65535⟩,
  ⟨0x5040, 48, 1, 0x01, 1, 1, 1, 2, 0, 1, 0, 0, 0, 255⟩,
  ⟨0x5040, 48, 1, 0x02, 1, 1, 1, 2, 0, 1, 0, 0, 0, 255⟩,
  ⟨0x5040, 48, 1, 0x03, 1, 1, 1, 2, 0, 1, 0, 0, 0, 255⟩,
  ⟨0x5040, 48, 1, 0x04, 1, 1, 1, 2, 0, 1, 0, 0, 0, 255⟩,
  ⟨0x5040, 48, 1, 0x05, 1, 3, 4, 2, 0, 1, 0, 0, 0, 4294967295⟩,
  ⟨0x5040, 48, 1, 0x06, 1, 4, 8, 2, 0, 1, 0, 0, 0, 18446744073709551615⟩,
  ⟨0x5040, 48, 1, 0x07, 1, 4, 8, 2, 0, 1, 0, 0, 0, 18446744073709551615⟩,
  ⟨0x5040, 48, 1, 0x08, 1, 4, 8, 2, 0, 1, 0, 0, 0, 18446744073709551615⟩,
  ⟨0x5100, 1, 1, 0x01, 1, 1, 1, 3, 2, 1, 0, 0x3f, 0, 63⟩,
  ⟨0x5100, 1, 1, 0x02, 1, 1, 1, 3, 2, 1, 4, 1, 1, 30⟩,
  ⟨0x5100, 1, 1, 0x03, 1, 1, 1, 3, 2, 1, 0, 3, 0, 3⟩,
  ⟨0x5100, 1, 1, 0x04, 1, 3, 4, 3, 2, 1, 3, 0x2710, 100, 600000⟩,
  ⟨0x5100, 1, 1, 0x05, 1, 1, 1, 3, 2, 1, 3, 0xa, 1, 100⟩,
  ⟨0x5110, 48, 1, 0x01, 1, 16, 32, 2, 0, 1, 0, 0, 0, 0⟩,
  ⟨0x5110, 48, 1, 0x02, 1, 16, 32, 2, 0, 1, 0, 0, 0, 0⟩,
  ⟨0x5110, 48, 1, 0x03, 1, 16, 64, 2, 0, 1, 0, 0, 0, 0⟩,
  ⟨0x5110, 48, 1, 0x04, 1, 2, 2, 2, 0, 1, 4, 0, 0, 65535⟩,
  ⟨0x5110, 48, 1, 0x05, 1, 3, 4, 2, 0, 1, 0, 0, 0, 4294967295⟩,
  ⟨0x5110, 48, 1, 0x06, 1, 1, 1, 2, 0, 1, 0, 0, 0, 255⟩,
  ⟨0x5150, 4, 1, 0x01, 1, 2, 2, 2, 0, 1, 0, 0, 0, 65535⟩,
  ⟨0x5150, 4, 1, 0x02, 1, 1, 1, 2, 0, 1, 0, 0, 0, 255⟩,
  ⟨0x5150, 4, 1, 0x03, 1, 2, 2, 2, 0, 1, 0, 0, 0, 65535⟩]

def objRows10 : List ObjRow := [
  ⟨0x5150, 4, 1, 0x04, 1, 3, 4, 2, 0, 1, 0, 0, 0, 4294967295⟩,
  ⟨0x5150, 4, 1, 0x05, 1, 2, 2, 2, 0, 1, 0, 0xffff, 0, 65535⟩,
  ⟨0x5150, 4, 1, 0x06, 1, 3, 4, 2, 0, 1, 3, 0, 0, 4294967295⟩,
  ⟨0x5150, 4, 1, 0x07, 1, 2, 2, 2, 0, 1, 0, 0, 0, 65535⟩,
  ⟨0x5180, 4, 1, 0x01, 1, 16, 196608, 2, 0, 1, 0, 0, 0, 0⟩,
  ⟨0x5200, 1, 1, 0x01, 1, 2, 2, 3, 1, 1, 2, 8, 4, 1000⟩,
  ⟨0x5200, 1, 1, 0x02, 1, 1, 1, 1, 0, 0, 0, 8, 0, 255⟩,
  ⟨0x5200, 1, 1, 0x03, 1, 2, 2, 3, 1, 1, 1, 0x3e8, 100, 1500⟩,
  ⟨0x5200, 1, 1, 0x04, 1, 2, 2, 3, 1, 1, 2, 0x32, 1, 1000⟩,
  ⟨0x5200, 1, 1, 0x05, 1, 3, 4, 3, 1, 1, 3, 0x3e8, 10, 600000⟩,
  ⟨0x5200, 1, 1, 0x06, 1, 1, 1, 2, 0, 1, 0, 0, 0, 255⟩,
  ⟨0x5210, 4, 1, 0x01, 1, 4, 8, 2, 0, 1, 0, 0, 0, 18446744073709551615⟩,
  ⟨0x5210, 4, 1, 0x02, 1, 1, 1, 2, 0, 1, 0, 0, 0, 255⟩,
  ⟨0x5210, 4, 1, 0x03, 1, 1, 1, 2, 0, 1, 0, 0, 0, 255⟩,
  ⟨0x5210, 4, 1, 0x04, 1, 3, 4, 2, 0, 1, 0, 0, 0, 4294967295⟩,
  ⟨0x5210, 4, 1, 0x05, 1, 1, 1, 2, 0, 1, 0, 0, 0, 255⟩,
  ⟨0x5210, 4, 1, 0x06, 1, 2, 2, 2, 0, 1, 0, 0xffff, 0, 65535⟩,
  ⟨0x5210, 4, 1, 0x07, 1, 4, 8, 2, 0, 1, 0, 0, 0, 18446744073709551615⟩,
  ⟨0x5210, 4, 1, 0x08, 1, 3, 4, 2, 0, 1, 0, 0, 0, 4294967295⟩,
  ⟨0x5210, 4, 1, 0x09, 1, 3, 4, 2, 0, 1, 0, 0, 0, 4294967295⟩,
  ⟨0x5210, 4, 1, 0x0A, 1, 3, 4, 2, 0, 1, 0, 0, 0, 4294967295⟩,
  ⟨0x5210, 4, 1, 0x0B, 1, 4, 8, 2, 0, 1, 0, 0, 0, 18446744073709551615⟩,
  ⟨0x5220, 6, 1, 0x01, 1, 4, 8, 2, 0, 1, 0, 0, 0, 18446744073709551615⟩,
  ⟨0x5220, 6, 1, 0x02, 1, 4, 8, 2, 0, 1, 0, 0, 0, 18446744073709551615⟩,
  ⟨0x5220, 6, 1, 0x03, 1, 4, 8, 2, 0, 1, 0, 0, 0, 18446744073709551615⟩,
  ⟨0x5220, 6, 1, 0x04, 1, 4, 8, 2, 0, 1, 0, 0, 0, 18446744073709551615⟩,
  ⟨0x5220, 6, 1, 0x05, 1, 4, 8, 2, 0, 1, 0, 0, 0, 18446744073709551615⟩,
  ⟨0x5220, 6, 1, 0x06, 1, 4, 8, 2, 0, 1, 0, 0, 0, 18446744073709551615⟩,
  ⟨0x5220, 6, 1, 0x07, 1, 4, 8, 2, 0, 1, 0, 0, 0, 18446744073709551615⟩,
  ⟨0x5220, 6, 1, 0x08, 1, 4, 8, 2, 0, 1, 0, 0, 0, 18446744073709551615⟩,
  ⟨0x5220, 6, 1, 0x09, 1, 4, 8, 2, 0, 1, 0, 0, 0, 18446744073709551615⟩,
  ⟨0x5220, 6, 1, 0x0A, 1, 3, 4, 2, 0, 1, 0, 0, 0, 4294967295⟩]

def objRows11 : List ObjRow := [
  ⟨0x6001, 1, 1, 0x01, 1, 1, 1, 2, 0, 1, 0, 0, 0, 255⟩,
  ⟨0x6001, 1, 1, 0x02, 1, 3, 4, 2, 0, 1, 0, 0, 0, 4294967295⟩,
  ⟨0x6001, 1, 1, 0x03, 1, 3, 4, 2, 0, 1, 0, 0, 0, 4294967295⟩,
  ⟨0x6001, 1, 1, 0x04, 1, 3, 4, 2, 0, 1, 0, 0, 0, 4294967295⟩,
  ⟨0x6001, 1, 1, 0x05, 1, 16, 16777216, 5, 3, 1, 0, 0, 0, 0⟩,
  ⟨0x6001, 1, 1, 0x06, 1, 1, 1, 5, 3, 1, 0, 0, 0, 1⟩,
  ⟨0x6001, 1, 1, 0x07, 1, 1, 1, 6, 3, 1, 0, 0, 1, 1⟩,
  ⟨0x6001, 1, 1, 0x08, 1, 1, 1, 2, 0, 1, 0, 0, 0, 255⟩,
  ⟨0x6005, 1, 1, 0x01, 1, 3, 4, 2, 0, 1, 0, 0, 0, 4294967295⟩,
  ⟨0x6005, 1, 1, 0x02, 1, 3, 4, 2, 0, 1, 0, 0, 0, 4294967295⟩,
  ⟨0x6005, 1, 1, 0x03, 1, 3, 4, 2, 0, 1, 0, 0x10000, 0, 4294967295⟩,
  ⟨0x6005, 1, 1, 0x04, 1, 3, 4, 2, 0, 1, 0, 0, 0, 4294967295⟩,
  ⟨0x6005, 1, 1, 0x05, 1, 3, 4, 3, 2, 1, 0, 0x4000, 0, 4294967295⟩,
  ⟨0x6005, 1, 1, 0x06, 1, 1, 1, 2, 0, 1, 0, 0, 0, 255⟩,
  ⟨0x6010, 1, 1, 0x01, 1, 1, 1, 3, 3, 1, 0, 0xff, 0, 255⟩,
  ⟨0x6010, 1, 1, 0x02, 1, 16, 32, 4, 3, 1, 0, 0, 0, 0⟩,
  ⟨0x6010, 1, 1, 0x03, 1, 16, 3172, 2, 0, 1, 0, 0, 0, 0⟩,
  ⟨0x6010, 1, 1, 0x04, 1, 1, 1, 2, 0, 1, 0, 0, 0, 255⟩,
  ⟨0x6020, 1, 1, 0x01, 1, 16, 68, 4, 3, 1, 0, 0, 0, 0⟩,
  ⟨0x6020, 1, 1, 0x02, 1, 16, 1568, 4, 3, 1, 0, 0, 0, 0⟩,
  ⟨0x6020, 1, 1, 0x03, 1, 16, 1600, 2, 0, 1, 0, 0, 0, 0⟩,
  ⟨0x6020, 1, 1, 0x04, 1, 16, 2820, 4, 3, 1, 0, 0, 0, 0⟩,
  ⟨0x6020, 1, 1, 0x05, 1, 1, 1, 2, 0, 1, 0, 0, 0, 255⟩,
  ⟨0x6020, 1, 1, 0x06, 1, 2, 2, 3, 3, 1, 4, 0x258, 60, 3600⟩,
  ⟨0x6020, 1, 1, 0x07, 1, 1, 1, 4, 3, 1, 0, 0, 1, 1⟩,
  ⟨0x6021, 1, 1, 0x01, 4, 16, 32, 6, 3, 2, 0, 0, 0, 0⟩]

def objRows12 : List ObjRow := [
  ⟨0x7000, 1, 1, 0x01, 1, 3, 4, 2, 0, 1, 0, 0, 0, 4294967295⟩,
  ⟨0x7000, 1, 1, 0x02, 1, 3, 4, 2, 0, 1, 0, 0, 0, 4294967295⟩,
  ⟨0x7000, 1, 1, 0x03, 1, 3, 4, 2, 0, 1, 0, 0, 0, 4294967295⟩,
  ⟨0x7000, 1, 1, 0x04, 1, 3, 4, 3, 3, 1, 0, 0, 0, 4294967295⟩,
  ⟨0x7000, 1, 1, 0x05, 1, 16, 64, 2, 0, 1, 0, 0, 0, 0⟩,
  ⟨0x7000, 1, 1, 0x06, 1, 3, 4, 2, 0, 1, 0, 0, 0, 4294967295⟩,
  ⟨0x7000, 1, 1, 0x07, 5, 3, 4, 2, 0, 1, 0, 0, 0, 4294967295⟩,
  ⟨0x7001, 1, 1, 0x01, 1, 16, 262144, 2, 0, 1, 0, 0, 0, 0⟩,
  ⟨0x7010, 1, 1, 0x01, 1, 4, 8, 2, 0, 1, 4, 0, 0, 18446744073709551615⟩,
  ⟨0x7010, 1, 1, 0x02, 1, 4, 8, 2, 0, 1, 4, 0, 0, 18446744073709551615⟩,
  ⟨0x7010, 1, 1, 0x03, 1, 1, 1, 2, 0, 1, 0, 0, 0, 255⟩,
  ⟨0x7010, 1, 1, 0x04, 1, 6, 2, 2, 0, 1, 6, 0, 0, 65535⟩,
  ⟨0x7020, 1, 1, 0x01, 1, 1, 1, 3, 1, 1, 0, 0xf, 0, 15⟩,
  ⟨0x7020, 1, 1, 0x02, 1, 1, 1, 2, 0, 1, 0, 0, 0, 255⟩,
  ⟨0x7020, 1, 1, 0x03, 1, 4, 8, 2, 0, 1, 0, 0, 0, 18446744073709551615⟩,
  ⟨0x7020, 1, 1, 0x04, 1, 3, 4, 2, 0, 1, 0, 0, 0, 4294967295⟩,
  ⟨0x7020, 1, 1, 0x05, 1, 3, 4, 2, 0, 1, 0, 0, 0, 4294967295⟩,
  ⟨0x7020, 1, 1, 0x06, 1, 3, 4, 2, 0, 1, 0, 0, 0, 4294967295⟩,
  ⟨0x7020, 1, 1, 0x07, 1, 2, 2, 2, 0, 1, 0, 0xffff, 0, 65535⟩,
  ⟨0x7030, 1, 1, 0x01, 1, 2, 2, 2, 0, 1, 0, 0, 0, 65535⟩,
  ⟨0x7030, 1, 1, 0x02, 1, 2, 2, 2, 0, 1, 0, 0, 0, 65535⟩,
  ⟨0x7030, 1, 1, 0x03, 1, 3, 4, 2, 0, 1, 0, 0, 0, 4294967295⟩,
  ⟨0x7030, 1, 1, 0x04, 1, 3, 4, 2, 0, 1, 0, 0, 0, 4294967295⟩,
  ⟨0x7030, 1, 1, 0x05, 1, 2, 2, 2, 0, 1, 0, 0, 0, 65535⟩,
  ⟨0x7030, 1, 1, 0x06, 1, 1, 1, 2, 0, 1, 0, 0, 0, 255⟩,
  ⟨0x7030, 1, 1, 0x07, 1, 16, 512, 2, 0, 1, 0, 2 ^ 4096 - 1, 0, 0⟩,
  ⟨0x7040, 1, 1, 0x01, 1, 4, 8, 2, 0, 1, 0, 0, 0, 18446744073709551615⟩,
  ⟨0x7040, 1, 1, 0x02, 1, 3, 4, 2, 0, 1, 0, 0, 0, 4294967295⟩,
  ⟨0x7040, 1, 1, 0x03, 1, 3, 4, 2, 0, 1, 0, 0, 0, 4294967295⟩,
  ⟨0x7040, 1, 1, 0x04, 1, 3, 4, 2, 0, 1, 0, 0, 0, 4294967295⟩,
  ⟨0x7040, 1, 1, 0x05, 1, 4, 8, 2, 0, 1, 0, 0, 0, 18446744073709551615⟩,
  ⟨0x7040, 1, 1, 0x06, 1, 16, 16, 2, 0, 1, 0, 0, 0, 0⟩]

def objRows13 : List ObjRow := [
  ⟨0x8000, 1, 1, 0x01, 1, 1, 1, 4, 3, 1, 0, 0, 1, 1⟩,
  ⟨0x8000, 1, 1, 0x02, 1, 4, 8, 2, 0, 1, 1, 0, 0, 18446744073709551615⟩,
  ⟨0x8000, 1, 1, 0x03, 1, 3, 4, 3, 3, 1, 0, 0, 0, 4294967295⟩,
  ⟨0x8001, 1, 1, 0x01, 1, 16, 136, 2, 0, 1, 0, 0, 0, 0⟩,
  ⟨0x8010, 1, 1, 0x01, 1, 2, 2, 3, 2, 1, 0, 0, 0, 511⟩,
  ⟨0x8010, 1, 1, 0x02, 1, 1, 1, 3, 2, 1, 0, 0xa, 0, 20⟩,
  ⟨0x8010, 1, 1, 0x03, 1, 1, 1, 3, 2, 1, 0, 0xc, 0, 24⟩,
  ⟨0x8010, 1, 1, 0x04, 1, 1, 1, 3, 2, 1, 0, 0, 0, 1⟩,
  ⟨0x8010, 1, 1, 0x05, 1, 4, 8, 2, 0, 1, 0, 0, 0, 18446744073709551615⟩,
  ⟨0x8010, 1, 1, 0x06, 1, 4, 8, 2, 0, 1, 0, 0, 0, 18446744073709551615⟩,
  ⟨0x8011, 1, 1, 0x01, 1, 16, 16777216, 2, 0, 1, 0, 0, 0, 0⟩,
  ⟨0x8020, 1, 1, 0x01, 1, 1, 1, 3, 1, 1, 0, 0, 0, 15⟩,
  ⟨0x8020, 1, 1, 0x02, 1, 1, 1, 3, 1, 1, 0, 0, 0, 2⟩,
  ⟨0x8020, 1, 1, 0x03, 1, 1, 1, 2, 0, 1, 0, 0, 0, 255⟩,
  ⟨0x8020, 1, 1, 0x04, 1, 3, 4, 2, 0, 1, 0, 0, 0, 4294967295⟩,
  ⟨0x8040, 1, 1, 0x01, 1, 4, 8, 2, 0, 1, 0, 0, 0, 18446744073709551615⟩,
  ⟨0x8040, 1, 1, 0x02, 1, 4, 8, 2, 0, 1, 0, 0, 0, 18446744073709551615⟩,
  ⟨0x8040, 1, 1, 0x03, 1, 3, 4, 2, 0, 1, 0, 0, 0, 4294967295⟩,
  ⟨0x8040, 1, 1, 0x04, 1, 4, 8, 2, 0, 1, 0, 0, 0, 18446744073709551615⟩,
  ⟨0x8040, 1, 1, 0x05, 1, 2, 2, 2, 0, 1, 0, 0xffff, 0, 65535⟩,
  ⟨0x8040, 1, 1, 0x06, 1, 4, 8, 2, 0, 1, 0, 0, 0, 18446744073709551615⟩,
  ⟨0x8050, 1, 1, 0x01, 1, 4, 8, 3, 3, 1, 8, 0, 0, 18446744073709551615⟩,
  ⟨0x8050, 1, 1, 0x02, 1, 1, 1, 6, 3, 1, 0, 0, 0, 15⟩,
  ⟨0x8050, 1, 1, 0x03, 1, 1, 1, 6, 3, 1, 0, 0, 0, 15⟩,
  ⟨0x8050, 1, 1, 0x04, 1, 1, 1, 6, 3, 1, 0, 0, 0, 15⟩,
  ⟨0x8050, 1, 1, 0x05, 1, 3, 4, 2, 0, 1, 0, 0, 0, 4294967295⟩,
  ⟨0x8050, 1, 1, 0x06, 1, 4, 8, 2, 0, 1, 8, 0, 0, 18446744073709551615⟩,
  ⟨0x8050, 1, 1, 0x07, 1, 4, 8, 2, 0, 1, 1, 0, 0, 18446744073709551615⟩,
  ⟨0x8050, 1, 1, 0x08, 1, 1, 1, 2, 0, 1, 0, 0, 0, 255⟩,
  ⟨0x8050, 1, 1, 0x09, 1, 16, 2048, 2, 0, 1, 0, 0, 0, 0⟩,
  ⟨0x8060, 1, 1, 0x01, 1, 2, 2, 3, 3, 1, 0, 0, 0, 65535⟩,
  ⟨0x8061, 1, 1, 0x01, 1, 16, 40960, 2, 0, 1, 0, 0, 0, 0⟩,
  ⟨0x8080, 1, 1, 0x01, 1, 3, 4, 3, 2, 1, 3, 0x2710, 0, 4294967295⟩,
  ⟨0x8080, 1, 1, 0x02, 1, 1, 1, 3, 2, 1, 0, 0, 0, 1⟩,
  ⟨0x8080, 1, 1, 0x03, 1, 1, 1, 4, 3, 1, 0, 0, 0, 15⟩,
  ⟨0x8080, 1, 1, 0x04, 1, 4, 8, 2, 0, 1, 1, 0, 0, 18446744073709551615⟩]

def objRows14 : List ObjRow := [
  ⟨0x8080, 1, 1, 0x05, 1, 3, 4, 2, 0, 1, 0, 0, 0, 4294967295⟩,
  ⟨0x8081, 1, 1, 0x01, 1, 16, 1048576, 2, 0, 1, 0, 0, 0, 0⟩]

/-- 0x9010:07 JC_QPN is a U32 of 24 bits: larger values are out of its range (DESIGN CHOICE, log 117). -/
def objRows15 : List ObjRow := [
  ⟨0x9000, 1, 1, 0x01, 1, 1, 1, 3, 3, 1, 0, 0, 0, 2⟩,
  ⟨0x9000, 1, 1, 0x02, 1, 1, 1, 3, 3, 1, 0, 0, 0, 3⟩,
  ⟨0x9000, 1, 1, 0x03, 1, 1, 1, 3, 3, 1, 0, 0, 0, 3⟩,
  ⟨0x9000, 1, 1, 0x04, 1, 1, 1, 3, 3, 1, 0, 0, 0, 3⟩,
  ⟨0x9000, 1, 1, 0x05, 1, 1, 1, 3, 3, 1, 0, 0, 0, 3⟩,
  ⟨0x9000, 1, 1, 0x06, 1, 1, 1, 3, 3, 1, 0, 0, 0, 3⟩,
  ⟨0x9000, 1, 1, 0x07, 1, 1, 1, 3, 3, 1, 0, 0, 0, 3⟩,
  ⟨0x9000, 1, 1, 0x08, 1, 1, 1, 5, 3, 1, 0, 0, 1, 1⟩,
  ⟨0x9000, 1, 1, 0x09, 1, 1, 1, 2, 0, 1, 0, 0, 0, 255⟩,
  ⟨0x9000, 1, 1, 0x0A, 1, 1, 1, 2, 0, 1, 0, 0, 0, 255⟩,
  ⟨0x9010, 4, 1, 0x01, 1, 1, 1, 3, 1, 1, 0, 0xff, 0, 255⟩,
  ⟨0x9010, 4, 1, 0x02, 1, 2, 2, 3, 1, 1, 0, 0, 0, 65535⟩,
  ⟨0x9010, 4, 1, 0x03, 1, 16, 16, 3, 1, 1, 0, 0, 0, 0⟩,
  ⟨0x9010, 4, 1, 0x04, 1, 1, 1, 3, 1, 1, 0, 0, 0, 255⟩,
  ⟨0x9010, 4, 1, 0x05, 1, 16, 16, 3, 1, 1, 0, 0, 0, 0⟩,
  ⟨0x9010, 4, 1, 0x06, 1, 16, 16, 3, 1, 1, 0, 0, 0, 0⟩,
  ⟨0x9010, 4, 1, 0x07, 1, 3, 4, 3, 1, 1, 0, 0, 0, 16777215⟩,
  ⟨0x9010, 4, 1, 0x08, 1, 1, 1, 3, 3, 1, 0, 0, 0, 1⟩,
  ⟨0x9010, 4, 1, 0x09, 1, 1, 1, 2, 0, 1, 0, 0, 0, 255⟩,
  ⟨0x9010, 4, 1, 0x0A, 1, 1, 1, 2, 0, 1, 0, 0, 0, 255⟩,
  ⟨0x9020, 1, 1, 0x01, 1, 16, 32, 6, 3, 2, 0, 0, 0, 0⟩,
  ⟨0x9020, 1, 1, 0x02, 1, 16, 32, 6, 3, 2, 0, 0, 0, 0⟩,
  ⟨0x9020, 1, 1, 0x03, 1, 16, 32, 6, 3, 2, 0, 0, 0, 0⟩,
  ⟨0x9020, 1, 1, 0x04, 1, 16, 32, 6, 3, 2, 0, 0, 0, 0⟩,
  ⟨0x9030, 4, 1, 0x01, 1, 4, 8, 2, 0, 1, 0, 0, 0, 18446744073709551615⟩,
  ⟨0x9030, 4, 1, 0x02, 1, 16, 32, 2, 0, 1, 0, 0, 0, 0⟩,
  ⟨0x9030, 4, 1, 0x03, 1, 4, 8, 2, 0, 1, 0, 0, 0, 18446744073709551615⟩,
  ⟨0x9030, 4, 1, 0x04, 1, 4, 8, 2, 0, 1, 0, 0, 0, 18446744073709551615⟩,
  ⟨0x9030, 4, 1, 0x05, 1, 3, 4, 2, 0, 1, 0, 0, 0, 4294967295⟩,
  ⟨0x9040, 4, 1, 0x01, 1, 3, 4, 2, 0, 1, 0, 0, 0, 4294967295⟩,
  ⟨0x9040, 4, 1, 0x02, 1, 4, 8, 2, 0, 1, 0, 0, 0, 18446744073709551615⟩,
  ⟨0x9040, 4, 1, 0x03, 1, 4, 8, 2, 0, 1, 0, 0, 0, 18446744073709551615⟩,
  ⟨0x9040, 4, 1, 0x04, 1, 4, 8, 2, 0, 1, 0, 0, 0, 18446744073709551615⟩,
  ⟨0x9040, 4, 1, 0x05, 1, 4, 8, 2, 0, 1, 0, 0, 0, 18446744073709551615⟩,
  ⟨0x9040, 4, 1, 0x06, 1, 3, 4, 2, 0, 1, 1, 0, 0, 4294967295⟩,
  ⟨0x9050, 1, 1, 0x01, 1, 3, 4, 3, 2, 1, 14, 0xe7ef0, 0, 4294967295⟩]

def objRows16 : List ObjRow := [
  ⟨0x9050, 1, 1, 0x02, 1, 3, 4, 3, 2, 1, 14, 0x2710, 0, 4294967295⟩,
  ⟨0x9050, 1, 1, 0x03, 1, 3, 4, 3, 2, 1, 14, 0, 0, 4294967295⟩,
  ⟨0x9050, 1, 1, 0x04, 1, 1, 1, 3, 2, 1, 0, 0, 0, 1⟩,
  ⟨0x9050, 1, 1, 0x05, 1, 3, 4, 3, 2, 1, 0, 0x1000, 0, 4294967295⟩,
  ⟨0x9060, 1, 1, 0x01, 1, 1, 1, 3, 2, 1, 0, 0, 0, 1⟩,
  ⟨0x9060, 1, 1, 0x02, 1, 1, 1, 3, 2, 1, 0, 0, 0, 1⟩,
  ⟨0x9060, 1, 1, 0x03, 1, 1, 1, 3, 2, 1, 0, 0, 0, 1⟩,
  ⟨0x9060, 1, 1, 0x04, 1, 1, 1, 3, 2, 1, 0, 0, 0, 1⟩,
  ⟨0x9070, 4, 1, 0x01, 1, 1, 1, 2, 0, 1, 0, 0, 0, 255⟩,
  ⟨0x9070, 4, 1, 0x02, 1, 2, 2, 2, 0, 1, 0, 0, 0, 65535⟩,
  ⟨0x9070, 4, 1, 0x03, 1, 4, 8, 2, 0, 1, 0, 0, 0, 18446744073709551615⟩,
  ⟨0x9070, 4, 1, 0x04, 1, 4, 8, 2, 0, 1, 0, 0, 0, 18446744073709551615⟩,
  ⟨0x9070, 4, 1, 0x05, 1, 4, 8, 2, 0, 1, 0, 0, 0, 18446744073709551615⟩,
  ⟨0x9070, 4, 1, 0x06, 1, 4, 8, 2, 0, 1, 0, 0, 0, 18446744073709551615⟩,
  ⟨0x9070, 4, 1, 0x07, 1, 1, 1, 2, 0, 1, 0, 0, 0, 255⟩,
  ⟨0x9070, 4, 1, 0x08, 1, 1, 1, 2, 0, 1, 0, 0, 0, 255⟩,
  ⟨0x9070, 4, 1, 0x09, 1, 16, 32, 2, 0, 1, 0, 0, 0, 0⟩,
  ⟨0x9070, 4, 1, 0x0A, 1, 4, 8, 2, 0, 1, 1, 0, 0, 18446744073709551615⟩,
  ⟨0x9070, 4, 1, 0x0B, 1, 4, 8, 2, 0, 1, 0, 0, 0, 18446744073709551615⟩,
  ⟨0x9070, 4, 1, 0x0C, 1, 3, 4, 2, 0, 1, 0, 0, 0, 4294967295⟩]

/-- Every object table of the spec, in ascending index order. -/
def objRows : List ObjRow :=
  objRows0 ++ objRows1 ++ objRows2 ++ objRows3 ++ objRows4 ++ objRows5 ++ objRows6 ++ objRows7 ++ objRows8 ++ objRows9 ++ objRows10 ++ objRows11 ++ objRows12 ++ objRows13 ++ objRows14 ++ objRows15 ++ objRows16

/-- The reference INDEX × 256 + SUB lies in the row (14 R345). -/
def ObjRow.has (o : ObjRow) (ref : Nat) : Bool :=
  let i := ref / 256
  let b := ref % 256
  decide (o.base ≤ i) && decide ((i - o.base) % o.step = 0) && decide ((i - o.base) / o.step < o.cnt)
    && decide (o.sub ≤ b) && decide (b < o.sub + o.subs)

/-- Some object of the row has this index. -/
def ObjRow.hasIndex (o : ObjRow) (i : Nat) : Bool :=
  decide (o.base ≤ i) && decide ((i - o.base) % o.step = 0) && decide ((i - o.base) / o.step < o.cnt)

/-- The row of a reference. -/
def objRow? (ref : Nat) : Option ObjRow := objRows.find? (fun o => o.has ref)

/-- Default of an object; 0 where the tables give none. -/
def objDefault (ref : Nat) : Nat :=
  match objRow? ref with
  | some o => o.deflt
  | none => 0

/-- Size of an object in bytes; 0 where it does not exist. -/
def objSize (ref : Nat) : Nat :=
  match objRow? ref with
  | some o => o.size
  | none => 0

/-- The references of a row in ascending order. -/
def ObjRow.refs (o : ObjRow) : List Nat :=
  ((List.range o.cnt).map fun i => (List.range o.subs).map fun j => (o.base + i * o.step) * 256 + o.sub + j).flatten

/-- The smallest reference of a row above `ref`. -/
def ObjRow.nextAfter (o : ObjRow) (ref : Nat) : Option Nat := o.refs.find? (fun x => decide (ref < x))

/-- Insert a number into a strictly rising list. -/
def insertSorted (x : Nat) (l : List Nat) : List Nat :=
  match l with
  | [] => [x]
  | y :: t => if x < y then x :: y :: t else if x = y then y :: t else y :: insertSorted x t

/-- The covered set of the seal: every object of write class D, and 0x9000:0A, in ascending reference order
(14 R352). -/
def coveredRefs : List Nat :=
  ((objRows.filter (fun o => o.wclass == 1)).map ObjRow.refs).flatten.foldl (fun l x => insertSorted x l) [0x90000A]

/-! ### The settings area of the secure flash (14 R344) -/

/-- STORED objects with their sizes, in ascending order (14 R344). -/
def storedRefs : List (Nat × Nat) :=
  (0x10000D, 64) :: ((List.range 4).map (fun i => (0x602101 + i, 32)) ++ (List.range 4).map (fun i => (0x902001 + i, 32)))

/-- CRC-32C that closes a copy. -/
def settingsCrc (vals : SMap Nat) (turn : Nat) : Nat :=
  crc32c (leBytes 4 turn ++ (storedRefs.map (fun e => leBytes e.2 (SMap.get (objDefault e.1) vals e.1))).flatten)

end Sys2Proof.Machine
end

