-- ==== Sys2Proof/Machine/State.lean ====
section
/-! DEFINITION. The state of the Kwefel: every piece of state the spec gives the device, as plain data, and its
value right after reset. Families of like things are sparse maps whose unlisted keys read as the thing's reset value
(named beside the field). The block's queue of waiting commands is `pending`. -/

namespace Sys2Proof.Machine

open Sys2Proof

/-- Why a step can stop the device's model: no command does. Every word number an operand of HBM_READ, HBM_WRITE, WRITE_BACK
or PATROL_SCRUB can hold is a word of the stack (09 R201: 2^30 words of 64 bytes), and every other case ends in a next state,
so the type has no constructor. -/
inductive Fault where
  deriving DecidableEq, Repr

/-- Why the model refuses a command. -/
inductive Refusal where
  /-- Raised by an arm of `exec` whose command has no meaning yet; none is left, so nothing raises it. Safe: the model would
  stop. -/
  | notModelled (mnemonic : String)
  deriving DecidableEq, Repr

/-! ### Number formats -/

/-- An A96 slot (02 R36): integer VALUE, FRAC, OVF and the non-finite flags. -/
structure A96 where
  value : BitVec 96
  frac  : BitVec 8
  ovf   : Bool
  pinf  : Bool
  ninf  : Bool
  nan   : Bool
  deriving DecidableEq, Repr

/-- An accumulator of 0 at FRAC 0 without flags. -/
def A96.zero : A96 := { value := 0, frac := 0, ovf := false, pinf := false, ninf := false, nan := false }

/-! ### Looms (03, 04) -/

/-- The ephemeris accumulator beside a scale-register entry: max code and counts (06 R141). -/
structure EphAcc where
  max    : BitVec 32
  zeros  : BitVec 40
  sats   : BitVec 40
  nonfin : BitVec 40
  elems  : BitVec 40
  deriving DecidableEq, Repr

def EphAcc.zero : EphAcc := { max := 0, zeros := 0, sats := 0, nonfin := 0, elems := 0 }

/-- An open LOOP: descriptor after it, repetitions still to run (04 R87). -/
structure LoopFrame where
  body : BitVec 13
  left : Nat
  deriving DecidableEq, Repr

/-- What a sequencer does (04 R85 to R88). -/
inductive SeqState where
  | idle | running
  | waitUnits (mask : BitVec 4)
  /-- a descriptor with SYNC, by its number in the step -/
  | waitDesc (nth : Nat)
  | waitCycle (offset : BitVec 64)
  | commitWait
  | stopped
  | ended
  deriving DecidableEq, Repr

/-- A descriptor in flight in a unit queue, with the local line ranges it reads and writes (04 R85, R108). -/
structure InFlight where
  desc   : Word512
  index  : BitVec 13
  /-- the descriptor's number among those issued in the step, from 1 (17 R409) -/
  nth    : Nat
  reads  : List (Nat × Nat)
  writes : List (Nat × Nat)
  /-- array: 0 queued, 1 stationary tile preloaded, 2 issued, 3 finished; chain: 0 unused, 1 taken by a MATMUL, 3 passed;
  other units: 3 (03 R59; 04 R86, R97) -/
  phase  : Nat
  /-- DMA reads that wait for a commit (01 R17) -/
  waits  : Bool
  deriving DecidableEq, Repr

/-- A stationary plane: element patterns and random words ub of R68 by row*64+column (paired rows use k up to 127). -/
structure Plane where
  fmt   : Option (BitVec 4)
  elems : SMap Nat
  ub    : SMap (BitVec 32)
  /-- origin of the first poisoned operand, as in local memory -/
  poison : Nat
  deriving DecidableEq, Repr

def Plane.empty : Plane := { fmt := none, elems := [], ub := [], poison := 0 }

/-- An output set: accumulators by row*64+column, and for each row the origin of the first poisoned operand that reached it
(03 R55, R60, R82). -/
structure OutSet where
  acc    : SMap A96
  full   : Bool
  desc   : Word512
  poison : SMap Nat
  deriving DecidableEq, Repr

def OutSet.empty : OutSet := { acc := [], full := false, desc := 0, poison := [] }

/-- The sum of an arriving chain word: its place in the block, the word to send, the count at which it is ready (03 R72). -/
structure HeldSum where
  idx   : Nat
  word  : FWord
  ready : BitVec 64
  deriving DecidableEq, Repr

/-- A chain role set by a CHAIN descriptor: the count at which the block was in the shadow set, sums not yet ready, ready sums that
wait for an outgoing slot, words sent or (at the last position) taken, the sums made, which words arrived, and for each word the
origin of its poison (03 R71 to R73, R82). -/
structure ChainRole where
  desc   : Word512
  since  : BitVec 64
  coming : List HeldSum
  held   : List HeldSum
  passed : Nat
  out    : SMap A96
  seen   : SMap Bool
  poison : SMap Nat
  deriving DecidableEq, Repr

/-- A word in a loom's receive buffer: its stream, the count from which it lies there (08 R178), and its place in its block (03 R71). -/
structure RxWord where
  stream : BitVec 8
  word   : FWord
  since  : BitVec 64
  place  : BitVec 10 := 0
  deriving DecidableEq, Repr

/-- A verdict owed: whether a slot was missed, whether it is a chain hop's with its position, whether its products went through a
window unit, the TAG of its descriptor, and the values that left (03 R63, R72; 04 R104; 16 R383, R384, R389). -/
structure OwedVerdict where
  missed : Bool
  hop    : Bool
  pos    : BitVec 6
  window : Bool
  tag    : BitVec 16
  acc    : SMap A96
  deriving DecidableEq, Repr

/-- One loom: instruction store, tables, scale file, local memory, sequencer, unit queues, array, chain, broadcast
reception, trace buffer. -/
structure Loom where
  store      : SMap Word512
  streamTab  : SMap (BitVec 16)
  /-- unlisted entries read 0xFFFF, unmapped (06 R145) -/
  scaleMap   : SMap (BitVec 16)
  /-- value with the mapped flag in bit 8; unlisted entries read 0x0FF, unmapped (06 R145) -/
  scaleFile  : SMap (BitVec 9)
  /-- origin of the poison of an entry that SECDED could not correct (16 R388) -/
  scalePoison : SMap Nat
  microcode  : SMap Byte
  mem        : List Host.Cell
  /-- per 32-byte half line: 0 clean, else 1 + stack + 32 × granule of the first poisoned word (03 R82, 09 R212) -/
  poison     : SMap Nat
  eph        : SMap EphAcc
  seqIdx     : BitVec 13
  loops      : List LoopFrame
  seq        : SeqState
  lateWaits  : Nat
  seqSince   : BitVec 64
  arrayQ     : List InFlight
  vectorQ    : List InFlight
  dmaQ       : List InFlight
  chainQ     : List InFlight
  /-- TAGs of completed stores to HBM whose reports travel to the hub (11 R269) -/
  stores     : List (BitVec 16)
  issued     : Nat
  plane      : Plane
  idlePlane  : Plane
  /-- formats of the first pass of the open block and passes made in it (03 R60) -/
  block      : Option (BitVec 4 × BitVec 4 × Nat)
  preloaded  : Option (BitVec 4)
  active     : OutSet
  shadow     : OutSet
  role       : Option ChainRole
  /-- verdicts owed: blocks and hops whose last value has left, oldest first -/
  verdicts   : List OwedVerdict
  slotMissed : Bool
  rxBuf      : List RxWord
  /-- when the first chain word of the block that passes arrived, one that came too early included (03 R72, R73) -/
  firstWord  : Option (BitVec 64)
  /-- the last pass of a block whose rows wait for the shadow set (03 R61) -/
  swapDue    : Option Word512
  merged     : Bool
  commonSeen : SMap Bool
  loomSeen   : SMap Bool
  commonTotal : Option (BitVec 12)
  loomTotal  : Option (BitVec 12)
  /-- the end-of-space segment of each space has arrived, and the last segment that the space's open request lists (04 R106) -/
  commonEnded : Bool
  loomEnded  : Bool
  commonAsked : Option Nat
  loomAsked  : Option Nat
  lastSeg    : BitVec 64
  digestOk   : Bool
  digestTries : Nat
  trace      : List (BitVec 256)
  traceLost  : Nat
  deriving DecidableEq, Repr

def Loom.init : Loom :=
  { store := [], streamTab := [], scaleMap := [], scaleFile := [], scalePoison := [], microcode := [], mem := [], poison := [], eph := []
    seqIdx := 0, loops := [], seq := .idle, lateWaits := 0, seqSince := 0, arrayQ := [], vectorQ := [], dmaQ := []
    chainQ := [], stores := [], issued := 0, plane := .empty, idlePlane := .empty, block := none, preloaded := none, active := .empty
    shadow := .empty, role := none, verdicts := [], slotMissed := false, rxBuf := [], firstWord := none, swapDue := none, merged := false
    commonSeen := [], loomSeen := [], commonTotal := none, loomTotal := none, commonEnded := false, loomEnded := false, commonAsked := none
    loomAsked := none, lastSeg := 0
    digestOk := false, digestTries := 0, trace := [], traceLost := 0 }

/-! ### Quadrants, fabric, queues (08) -/

/-- A fabric word waiting at a router input (coded as the outputs are: 0 local, 1 north, 2 east, 3 south, 4 west,
5 edge). `slot` is the slot in which a slotted word reaches the router's outputs, `tag` the place of a credited word in the sending
router's replay buffer (08 R176), `place` that of a chain word in its block (03 R71). -/
structure RWord where
  r     : Fin 20
  c     : Fin 25
  input : BitVec 3
  slot  : BitVec 8
  tag   : BitVec 3
  word  : FWord
  place : BitVec 10 := 0
  deriving DecidableEq, Repr

/-- One quadrant: cycle counter, boundary marks, stops (01 R19; 08 R186, R187; 17 R410). -/
structure Quad where
  count    : BitVec 64
  /-- the highest boundary number k whose mark is raised -/
  marked   : BitVec 64
  /-- the highest boundary number k passed -/
  passed   : BitVec 64
  holding  : Bool
  /-- stretched periods owed to the clock by the idle tick -/
  owed     : Nat
  stopAt   : Option (BitVec 64)
  stopped  : Bool
  /-- time base when it stopped (17 R412) -/
  stopNs   : BitVec 64
  words    : List RWord
  rotation : SMap Nat
  /-- by router and output: 1 + the count in whose slot a word last left by it (04 R102; 08 R181, R199) -/
  used     : SMap Nat
  /-- by router and input: words credited to the 8-word replay buffer of the router before it -/
  sent     : SMap Nat
  /-- the replay buffers: by router, input and place (08 R176) -/
  replay   : SMap FWord
  deriving DecidableEq, Repr

def Quad.init : Quad :=
  { count := 0, marked := 0, passed := 0, holding := false, owed := 0, stopAt := none, stopped := false, stopNs := 0
    words := [], rotation := [], used := [], sent := [], replay := [] }

/-- A dual-clock queue: unread items, pointers modulo 2D in both domains, counts (08 R190 to R196). -/
structure Dcq where
  items     : List QItem
  wptr      : Nat
  rptr      : Nat
  lost      : Nat
  corrected : BitVec 32
  poisoned  : BitVec 32
  flushed   : Nat
  pushed    : Nat
  popped    : Nat
  gapOwed   : Bool
  flushing  : Bool
  /-- the producer is inside a packet (its last pushed item had END clear) -/
  inPacket  : Bool
  /-- the flush cut a packet: the producer drops up to and including the next END -/
  cut       : Bool
  /-- held items that the synchronised write pointer does not show the consumer yet (08 R191) -/
  unseen    : Nat
  /-- items gone whose space the synchronised read pointer does not show the producer yet (08 R191) -/
  unfreed   : Nat
  /-- overwritten items with END that the consumer has not skipped yet (08 R194) -/
  ghosts    : Nat
  /-- items pushed when the quadrant at its side stopped (17 R412) -/
  atStop    : Nat
  deriving DecidableEq, Repr

def Dcq.init : Dcq :=
  { items := [], wptr := 0, rptr := 0, lost := 0, corrected := 0, poisoned := 0, flushed := 0, pushed := 0, popped := 0
    gapOwed := false, flushing := false, inPacket := false, cut := false, unseen := 0, unfreed := 0, ghosts := 0, atStop := 0 }

/-- A credit loop: issued, held, in flight, returned (05 R133), and the last freed count read (08 R189). -/
structure CLoop where
  issued   : BitVec 32
  held     : BitVec 32
  inFlight : BitVec 32
  returned : BitVec 32
  lastFreed : BitVec 32
  deriving DecidableEq, Repr

def CLoop.init : CLoop := { issued := 0, held := 0, inFlight := 0, returned := 0, lastFreed := 0 }

/-! ### HBM stacks (09) -/

/-- A request that a controller has accepted: who asks, the word, the half of it (none: the whole word), for a write the data and
the poison tag, for a read what its check will find (09 R206). -/
structure HbmReq where
  who    : Requester
  word   : BitVec 30
  half   : Option Bool
  write  : Option (BitVec 512 × Bool)
  ecc    : Ecc
  deriving DecidableEq, Repr

structure Stack where
  failed      : Bool
  training    : Bool
  zeroFilling : Bool
  selfRefresh : Bool
  /-- refresh mode that self-refresh interrupted -/
  refreshWas  : Nat
  /-- a refresh is due and not served -/
  refreshDue  : Bool
  bytesNow    : Nat
  pcBytes     : SMap Nat
  writeBacks  : List Nat
  /-- requests accepted and not served, in order of arrival (09 R208) -/
  waiting     : List HbmReq
  /-- requests that wait for a grant of the HBM node, in order of arrival, and the requester granted last (09 R207) -/
  asking      : List HbmReq
  lastGrant   : Nat
  /-- order 4 served the hub last -/
  hubTurn     : Bool
  /-- who holds the request credits that are not at the stack's HBM node, oldest first (09 R207) -/
  owners      : List Requester
  /-- last row (by word number div 32) of each pseudo-channel that gave an uncorrectable error, with how many -/
  badRows     : SMap Nat
  repairQ     : List Nat
  /-- update commands of the step in progress applied or skipped on this engine -/
  cmdsDone    : List Nat
  deriving DecidableEq, Repr

def Stack.init : Stack :=
  { failed := false, training := false, zeroFilling := false, selfRefresh := false, refreshWas := 0, refreshDue := false
    bytesNow := 0, pcBytes := [], writeBacks := [], waiting := [], asking := [], lastGrant := 0, hubTurn := false, owners := [], badRows := [], repairQ := []
    cmdsDone := [] }

/-! ### Frames sent (10 R224, R225; 11 R248) -/

/-- ESP of a sent packet: SPI, extended sequence number, ciphertext with ICV (11 R254). -/
structure Esp where
  spi    : BitVec 32
  seq    : BitVec 64
  sealed : Bytes
  deriving DecidableEq, Repr

/-- The Ethernet, IP and UDP side of a sent frame: link, VID, priority, destination address (IPv4 as ::ffff:a.b.c.d), DSCP, ECT(0), UDP
source and destination port, ICRC and ESP where it has them. -/
structure Wire where
  link : BitVec 8
  vid  : BitVec 12
  pcp  : BitVec 3
  dst  : BitVec 128
  dscp : BitVec 6
  ect  : Bool
  source : BitVec 16
  port : BitVec 16
  icrc : Option (BitVec 32)
  esp  : Option Esp
  deriving DecidableEq, Repr

/-- A RoCEv2 packet of a message: opcode, PSN; R_Key and address in the packets that carry them. -/
structure Packet where
  wire    : Wire
  opcode  : BitVec 8
  psn     : BitVec 24
  rkey    : BitVec 32
  va      : BitVec 64
  payload : Bytes
  deriving DecidableEq, Repr

/-- What the device has put on its ports. -/
inductive Out where
  /-- a dictionary frame to a node (14 R336): the whole frame -/
  | dict (node : Nat) (frame : Bytes)
  /-- a key-exchange datagram (13 R317): partition, target party, its fragments -/
  | keyx (part : Nat) (target : BitVec 16) (wire : Wire) (fragments : List Bytes)
  /-- packets of one message on a queue pair: partition, local QPN -/
  | roce (part : Nat) (qpn : BitVec 24) (packets : List Packet)
  /-- an ACK up to a PSN -/
  | ack (part : Nat) (wire : Wire) (qpn : BitVec 24) (psn : BitVec 24)
  /-- a NAK: class 0 sequence, 1 invalid request, 2 remote access, 3 remote operational; 4 RNR -/
  | nak (part : Nat) (wire : Wire) (qpn : BitVec 24) (psn : BitVec 24) (cls : BitVec 3)
  | cnp (part : Nat) (wire : Wire) (qpn : BitVec 24)
  /-- a greeting to a rank on a link (10 R240) -/
  | greeting (part : Nat) (rank : Nat) (wire : Wire) (payload : Word512)
  /-- an LLDPDU on a link (10 R235) -/
  | lldp (link : Nat) (payload : Bytes)
  /-- an ARP or Neighbour Discovery message for an address on a link, with its VID; 48 is the management port -/
  | arp (link : Nat) (vid : BitVec 12) (isReply : Bool) (addr : Bytes) (mac : BitVec 48)
  /-- a PFC frame: priority, XOFF or XON -/
  | pfc (link : Nat) (prio : Nat) (xoff : Bool)
  /-- an image segment to a loom or to all looms of the partition -/
  | segment (part : Nat) (loom : Option LoomId) (perLoom : Bool) (seq : Nat)
  /-- a loom's request to the loader: missing segments -/
  | segRequest (loom : LoomId) (perLoom : Bool) (missing : List Nat)
  /-- what the JTAG data register gives -/
  | jtag (ir : BitVec 8) (dr : Nat)
  /-- a claim register read by a steward (14 R355) -/
  | claim (steward : Nat) (src : BitVec 10)
  /-- an item a queue delivered, a word a controller delivered -/
  | item (queue : Nat) (item : QItem)
  | hbmWord (stack : Nat) (data : BitVec 512) (poison : Bool)
  /-- a credited word delivered to a loom -/
  | creditedWord (loom : LoomId) (word : FWord)
  deriving DecidableEq, Repr

/-! ### Links (10) -/

/-- A frame, or the packets of a message, that wait to leave on a link: priority, how many frames, whether they are sent again. -/
structure TxFrame where
  prio  : Nat
  count : Nat
  again : Bool
  out   : Out
  deriving DecidableEq, Repr

structure Link where
  attempt   : Option (Nat × Nat)
  trained   : List Nat
  pauses    : BitVec 8
  xoffSent  : BitVec 8
  /-- frames that wait for XON, or for room in the port's queue, oldest first (10 R226; 08 R189) -/
  waiting   : List TxFrame
  /-- gateways resolved on the link, and those asked for (10 R238) -/
  gateways  : List (Bytes × BitVec 48)
  asked     : List Bytes
  ttlUntil  : Option (BitVec 64)
  /-- chassis of the first neighbour seen since the link came up (10 R237) -/
  chassis   : Option Nat
  /-- hub cycles that its counter still owes to frames that left, and to the pacing of chunks (17 R404) -/
  busy      : Nat
  paced     : Nat
  deriving DecidableEq, Repr

def Link.init : Link :=
  { attempt := none, trained := [], pauses := 0, xoffSent := 0, waiting := [], gateways := [], asked := []
    ttlUntil := none, chassis := none, busy := 0, paced := 0 }

/-! ### Partitions (05, 06, 07, 10, 11, 12, 13) -/

/-- A peer entry (10 R239). -/
structure Peer where
  addr  : BitVec 128
  ident : BitVec 64
  seen  : BitVec 64
  state : BitVec 4
  epoch : BitVec 16
  links : BitVec 48
  /-- greetings of the peer held valid, by its link (HEARD of the answers, R240) -/
  heard : BitVec 48
  part  : BitVec 8
  deriving DecidableEq, Repr

def Peer.init : Peer := { addr := 0, ident := 0, seen := 0, state := 0, epoch := 0, links := 0, heard := 0, part := 0 }

/-- A message sent on a queue pair and not acknowledged whole: its PSNs, packets acknowledged, bytes, what it was. -/
structure TxMsg where
  firstPsn : BitVec 24
  lastPsn  : BitVec 24
  rkey     : BitVec 32
  va       : BitVec 64
  bytes    : Bytes
  acked    : Nat
  /-- 0 chunk, 1 marker, 2 control message -/
  kind     : Nat
  /-- of a chunk, the attempt in its header; else the attempt in progress when it was posted -/
  att      : BitVec 8
  deriving DecidableEq, Repr

/-- A queue pair (11 R249 to R253). -/
structure Qp where
  live     : Bool
  nextPsn  : BitVec 24
  expPsn   : BitVec 24
  unacked  : List TxMsg
  timeouts : Nat
  owedAcks : Nat
  nakSent  : Bool
  rnrWait  : Bool
  link     : BitVec 8
  lastCnp  : Option (BitVec 64)
  deriving DecidableEq, Repr

def Qp.init : Qp :=
  { live := false, nextPsn := 0, expPsn := 0, unacked := [], timeouts := 0, owedAcks := 0, nakSent := false
    rnrWait := false, link := 0xFF, lastCnp := none }

/-- Pacing towards a destination: rate num / 2^shift of the plan rate, last halving, last CNP (11 R252, R269). -/
structure Pace where
  num      : Nat
  shift    : Nat
  lastHalf : Option (BitVec 64)
  lastCnp  : BitVec 64
  deriving DecidableEq, Repr

def Pace.init : Pace := { num := 1, shift := 0, lastHalf := none, lastCnp := 0 }

/-- A security association of one direction: key and salt, SPI, last sequence number sent or highest accepted, and, for a receiver, bit i:
number `seq` − i has come (11 R254). -/
structure Sa where
  key    : Bytes
  spi    : BitVec 32
  seq    : BitVec 64
  window : BitVec 1024
  deriving DecidableEq, Repr

def Sa.init : Sa := { key := [], spi := 0, seq := 0, window := 0 }

/-- One pair of the key exchange: the card received, the ciphertext sent, both secrets (13 R320). -/
structure Pair where
  card   : Bytes
  ctSent : Bytes
  ssOut  : Bytes
  ssIn   : Bytes
  sent   : Bool
  got    : Bool
  deriving DecidableEq, Repr

def Pair.init : Pair := { card := [], ctSent := [], ssOut := [], ssIn := [], sent := false, got := false }

/-- An ephemeris row entry (06 R138) is kept in the ephemeris region of HBM; this is what a slot holds while a row is
being filled. -/
structure EphRow where
  localMax : BitVec 32
  jobMax   : BitVec 32
  zeros    : BitVec 40
  sats     : BitVec 40
  nonfin   : BitVec 40
  elems    : BitVec 40
  scale    : BitVec 8
  carried  : Bool
  clamped  : Bool
  watched  : Bool
  stepLo   : BitVec 16
  deriving DecidableEq, Repr

/-- A fingerprint log entry (05 R131). -/
structure FpEntry where
  step   : BitVec 48
  kind   : BitVec 4
  tensor : BitVec 24
  seq    : BitVec 64
  fp     : BitVec 64
  deriving DecidableEq, Repr

/-- A held amendment (10 R244, 12 R302). -/
structure Amend where
  bits : BitVec 1024
  deriving DecidableEq, Repr

/-- A commit marker received or sent: step, attempt, rank and its NONFIN_TOTAL (11 R271). -/
structure Marker where
  step    : Nat
  attempt : Nat
  rank    : Nat
  nonfin  : BitVec 40
  deriving DecidableEq, Repr

/-- An arming step in progress (12 R292): 4 keys, 5 broadcast, 6 kind-0x3 fingerprints, 7 done, 8 failed. -/
structure Arming where
  step    : Nat
  status  : BitVec 8
  detail  : BitVec 16
  since   : BitVec 64
  loadNo  : BitVec 16
  eosSince : Option (BitVec 64)
  rounds  : SMap Nat
  requested : SMap Bool
  done    : SMap Bool
  deriving DecidableEq, Repr

def Arming.init : Arming :=
  { step := 0, status := 0, detail := 0, since := 0, loadNo := 0, eosSince := none, rounds := [], requested := []
    done := [] }

/-- An effect that waits for a step boundary, in order of arrival (12 R290). -/
inductive Due where
  | halt (cause : BitVec 8) (detail : BitVec 16)
  | take (c : BitVec 64)
  | amend (a : Amend)
  deriving DecidableEq, Repr

/-- An ABORT marker for an attempt that has not begun here (11 R274). -/
structure EarlyAbort where
  step    : Nat
  attempt : Nat
  cause   : Nat
  sender  : Nat
  deriving DecidableEq, Repr

/-- A chunk on its way to its home tally engine (11 R262): the link of the port whose buffers hold it, none for local delivery, and
whether it has the engine's input credit or waits for one (05 R133). -/
structure TallyItem where
  engine : Nat
  header : Word512
  elems  : Bytes
  link   : Option (Fin 48)
  credited : Bool
  deriving DecidableEq, Repr

structure Part where
  ikey       : BitVec 64
  manifest   : Bytes
  digest     : Bytes
  rankIdx    : BitVec 16
  image      : Option Image
  arming     : Arming
  -- step sequencing
  firstStep  : BitVec 64
  startCount : BitVec 64
  filled     : Bool
  inStep     : Bool
  /-- the job was halted within its step: the boundary of that step has not passed (01 R16) -/
  cutStep    : Bool
  copied     : Bool
  rowFinal   : Bool
  applied    : Bool
  folded     : Bool
  audited    : Bool
  violated   : Bool
  poisoned   : Bool
  jtagSeen   : Bool
  /-- when the scale fill of the step was complete, and when the last ring fill was -/
  filledNs   : BitVec 64
  ringWaitNs : BitVec 64
  -- commit and abort
  markers    : List Marker
  early      : List EarlyAbort
  committed  : Bool
  commitNs   : BitVec 64
  chargeTag  : BitVec 16
  aborted    : Bool
  skipStep   : Bool
  due        : List Due
  hold       : Option (BitVec 64)
  amends     : List Amend
  window     : Bool
  windowTests : List (BitVec 16)
  -- peers and transport
  peers      : SMap Peer
  rollNs     : BitVec 64
  /-- ranks whose amendment waits for the exchange with the new holder before its association and its roll call (10 R244) -/
  rollOwed   : List Nat
  /-- ROLL_TIMEOUT_MS of the roll call in progress (10, settings) -/
  rollMs     : Nat
  qps        : SMap Qp
  /-- messages, by queue pair, whose packets an eclipse kept from leaving, and whether it was for the first time (17 R412) -/
  unsent     : List (Nat × TxMsg × Bool)
  paces      : SMap Pace
  opened     : List Nat
  reports    : List (Nat × BitVec 16)
  started    : List Nat
  closed     : List (Nat × Nat)
  tally      : List TallyItem
  windowsDone : List Nat
  donesIn    : List (Nat × Nat)
  -- ephemeris rows captured and fingerprints of the step
  /-- partial fingerprints of kinds 1 and 2 of the step, by kind × 2^24 + tensor (07 R172) -/
  fpParts    : SMap (BitVec 64)
  /-- kind-0 entries of completed ring fills not yet folded (12 R297) -/
  fpEntries  : List FpEntry
  /-- kind-3 entries (05 R127) -/
  fpFrozen   : List FpEntry
  /-- entries of the last step folded, or of the checkpoint restored -/
  logStep    : List FpEntry
  /-- entries written to the log since LOAD, and the steps still in it with their numbers of entries, newest first -/
  logPos     : Nat
  logSteps   : List (Nat × Nat)
  headBefore : Bytes
  rrFirst    : BitVec 64
  inputs     : Bytes
  ringFp     : SMap (BitVec 64)
  ringFull   : SMap (BitVec 64)
  -- key exchange
  ownEk      : Bytes
  ownDk      : Bytes
  ownCard    : Bytes
  pairs      : SMap Pair
  /-- secrets of the pairs by party, and by 2^16 + rank of new holders before their boundary -/
  pairKeys   : SMap Bytes
  /-- associations by 2 × local QPN, one more for the receiver's (11 R254; 12 R287) -/
  sas        : SMap Sa
  chanInit   : Bytes
  chanCard   : Bytes
  chanEk     : Bytes
  chanDk     : Bytes
  chanKey    : Bytes
  chanSpi    : BitVec 32
  cardTimes  : List (BitVec 64)
  lastCall   : BitVec 64
  -- debug
  stopNs     : BitVec 64
  resumeOwed : Bool
  hangNs     : BitVec 64
  waitNs     : BitVec 64
  snapAfter  : Bool
  reportNo   : BitVec 32
  deriving DecidableEq, Repr

def Part.init : Part :=
  { ikey := 0, manifest := [], digest := [], rankIdx := 0, image := none, arming := .init, firstStep := 1
    startCount := 0, filled := false, inStep := false, cutStep := false, copied := false, rowFinal := false, applied := false
    folded := false, audited := false, violated := false, poisoned := false, jtagSeen := false, filledNs := 0
    ringWaitNs := 0, markers := [], early := [], committed := false, commitNs := 0
    chargeTag := 0, aborted := false, skipStep := false, due := [], hold := none
    amends := [], window := false, windowTests := [], peers := [], rollNs := 0, rollOwed := [], rollMs := 0, qps := [], unsent := [], paces := [], opened := []
    reports := [], started := [], closed := [], tally := [], windowsDone := [], donesIn := []
    fpParts := [], fpEntries := [], fpFrozen := [], logStep := [], logPos := 0, logSteps := [], headBefore := [], rrFirst := 0, inputs := []
    ringFp := [], ringFull := [], ownEk := [], ownDk := [], ownCard := [], pairs := [], pairKeys := [], sas := [], chanInit := []
    chanCard := [], chanEk := [], chanDk := [], chanKey := [], chanSpi := 0, cardTimes := [], lastCall := 0
    stopNs := 0, resumeOwed := false, hangNs := 0, waitNs := 0, snapAfter := false, reportNo := 0 }

/-! ### Management nodes, security, flash -/

/-- What the device keeps for each requesting node (14 R338 to R351, 13 R327, 16 R393, 17 R405, R413). -/
structure Node where
  unlockedAt : Option (BitVec 64)
  value      : Option (BitVec 64)
  target     : Option (BitVec 32)
  /-- time of the first write of the compatibility sequence -/
  compatAt   : BitVec 64
  responses  : List (BitVec 16 × Bytes)
  staging    : Option (Nat × SMap Nat)
  stagedAt   : BitVec 64
  query      : BitVec 32
  readSeq    : BitVec 32
  unit       : BitVec 32
  loomSel    : BitVec 16
  openPub    : Bytes
  openEk     : Bytes
  challenge  : Bytes
  ss         : Bytes
  ks         : Bytes
  session    : BitVec 8
  idleS      : BitVec 16
  lastAuth   : BitVec 64
  lastSeq    : Option (BitVec 16)
  deriving DecidableEq, Repr

def Node.init : Node :=
  { unlockedAt := none, value := none, target := none, compatAt := 0, responses := [], staging := none, stagedAt := 0
    query := 0x00100001, readSeq := 0, unit := 0, loomSel := 0, openPub := [], openEk := [], challenge := [], ss := []
    ks := [], session := 0, idleS := 600, lastAuth := 0, lastSeq := none }

/-- A firmware slot of the secure flash: whether it verifies, its version, the digest of its payload (13 R308). -/
structure FwSlot where
  valid   : Bool
  version : BitVec 32
  digest  : BitVec 256
  bytes   : SMap Nat
  deriving DecidableEq, Repr

/-- One of the two copies of the settings area: the STORED values, the number of the write that made it, its CRC-32C (14 R344). -/
structure Settings where
  vals : SMap Nat
  turn : Nat
  crc  : Nat
  deriving DecidableEq, Repr

/-- A copy that was written whole. -/
def Settings.whole (vals : SMap Nat) (turn : Nat) : Settings := { vals := vals, turn := turn, crc := settingsCrc vals turn }

/-- A copy whose write was cut short (or one never written): its CRC-32C does not match. -/
def Settings.torn (vals : SMap Nat) (turn : Nat) : Settings := { vals := vals, turn := turn, crc := settingsCrc vals turn ^^^ 1 }

/-- The identity secret of the identity blob (13 R311). -/
structure IdSecret where
  skSeed  : BitVec 256
  skPrf   : BitVec 256
  pubSeed : BitVec 256
  root    : BitVec 256
  deriving DecidableEq, Repr

/-- The secure flash (13 R307 to R313, 14 R344, 15 R367). -/
structure Flash where
  rootOk    : Bool
  slotA     : FwSlot
  slotB     : FwSlot
  bootB     : Bool
  failed    : Nat
  record    : BitVec 4096
  recordSigned : Bool
  recordTail : Bytes
  journal   : SMap (BitVec 256)
  versions  : List (BitVec 32)
  identity  : IdSecret
  copyA     : Settings
  copyB     : Settings
  repairs   : List (Nat × Nat × Nat)
  deriving DecidableEq, Repr

/-- A request to the security block's signing queue (13 R314). -/
inductive SignReq where
  | report (part : BitVec 8)
  | chanCard (n : Fin 4)
  | peerCard (p : Fin 4)
  | runRecord (p : Fin 4) (c : BitVec 64)
  deriving DecidableEq, Repr

structure Security where
  nxt     : BitVec 21
  endLeaf : BitVec 21
  slot    : BitVec 17
  queue   : List (SignReq × Bytes)
  /-- run records that are signed, or refused, and wait for their memory (09 R220) -/
  runs    : List (Fin 4 × Option Bytes)
  /-- leaves that have signed since power-on, newest first -/
  signed  : List (BitVec 21)
  reportTimes : List (BitVec 64)
  lowRaised : Bool
  jtagIr  : BitVec 8
  jtagNonce : BitVec 256
  jtagScope : BitVec 8
  jtagSeen  : Bool
  bootedB : Bool
  deriving DecidableEq, Repr

def Security.init : Security :=
  { nxt := 0, endLeaf := 0, slot := 0, queue := [], runs := [], signed := [], reportTimes := [], lowRaised := false, jtagIr := 0x01
    jtagNonce := 0, jtagScope := 0, jtagSeen := false, bootedB := false }

/-- An error record (16 R389). -/
structure Rec where
  bits : BitVec 512
  deriving DecidableEq, Repr

/-- An unacknowledged notification (14 R357): SEQ, record, last sent. -/
structure Notice where
  seq  : BitVec 16
  bits : BitVec 512
  sent : BitVec 64
  deriving DecidableEq, Repr

/-- An event source's configuration and level (14 R354, R355). -/
structure Source where
  target   : BitVec 4
  enable   : Bool
  claimed  : Option (Fin 4)
  asserted : Bool
  deriving DecidableEq, Repr

def Source.init : Source := { target := 0, enable := false, claimed := none, asserted := false }

/-- A steward: asleep, and what the controller retains for it (14 R356). -/
structure Steward where
  asleep   : Bool
  retained : List (Nat × Source)
  deriving DecidableEq, Repr

def Steward.init : Steward := { asleep := false, retained := [] }

/-- Cycles of a unit that its activity counter still owes to a stall of the n-th descriptor of its step: the stall's reason + 1 (17 R404). -/
structure OwedStall where
  nth    : Nat
  code   : Nat
  cycles : Nat
  deriving DecidableEq, Repr

/-- A pending field test (16 R396). -/
structure FTest where
  unit     : BitVec 16
  part     : Fin 4
  /-- the loom that the unit word named when the test was accepted (01 R9; 16 R396) -/
  loom     : LoomId
  accepted : BitVec 64
  running  : Bool
  overdue  : Bool
  deriving DecidableEq, Repr

/-- Packets that came while the hub units of their partition stood still, in the receive buffers of their port: the command that
brought them (17 R412). -/
structure HeldPacket where
  part  : Fin 4
  link  : Fin 48
  count : Nat
  /-- time base when it passed the MAC (17 R407) -/
  ns    : BitVec 64
  cmd   : Instr
  deriving DecidableEq, Repr

/-- The machine. -/
structure State where
  pending    : List Instr
  out        : List Out
  fresh      : Nat
  -- clocks and power
  timeLocked : Bool
  ns         : BitVec 64
  phase      : Nat
  pwrok      : Bool
  straps     : BitVec 3
  fwUp       : Bool
  romHold    : Bool
  pllsOn     : Bool
  trip       : Bool
  clockNs    : BitVec 64
  -- bring-up
  bistGroup  : Option (Fin 8)
  hbmLeft    : List (Fin 20)
  katRound   : Nat
  katQuads   : List (Fin 4)
  katTries   : SMap Nat
  /-- layout and owners of an APPLY that waits for step 3 or 7 (01 R27, 15 R378) -/
  applyWaits : Option (Nat × List Nat)
  stepStart  : SMap Nat
  identityOk : Bool
  hotNow     : Bool
  wasOutside : Bool
  warned     : Bool
  collided   : Bool
  /-- the seal's reference was committed and no covered write followed (14 R353) -/
  sealArmed  : Bool
  /-- hottest junction and whether one reached the warning in the second that runs, 0.1 °C -/
  tjSecond   : BitVec 16
  warmNow    : Bool
  /-- a droop detector stretched its quadrant in the second that runs (18 R429) -/
  drooped    : Bool
  /-- a job was loaded with the assay off in the second that runs (16 R381) -/
  assayGap   : Bool
  riseNs     : BitVec 64
  -- stores
  flash      : Flash
  sec        : Security
  objs       : SMap Nat
  inForce    : SMap Nat
  buffered   : List (Nat × Nat)
  nodes      : SMap Node
  notifySeq  : BitVec 16
  notices    : List Notice
  log        : List Rec
  mergedNow  : List Nat
  sources    : SMap Source
  stewards   : SMap Steward
  tests      : List FTest
  -- data plane
  quads      : SMap Quad
  looms      : SMap Loom
  stackCtl   : SMap Stack
  hbm        : List Host.Cell
  hbmPoison  : SMap Bool
  links      : SMap Link
  /-- packets held in receive buffers, oldest first -/
  held       : List HeldPacket
  /-- when the held packet that is being processed passed the MAC; none outside that (17 R407) -/
  macTime    : Option (BitVec 64)
  parts      : SMap Part
  dcqs       : SMap Dcq
  cloops     : SMap CLoop
  bridgeBufs : SMap (List FWord)
  /-- slotted words on their way to a bridge, in order of sending (08 R184) -/
  bridgeAir  : SMap (List FWord)
  counters   : SMap (BitVec 48)
  latched    : SMap (BitVec 48)
  latchAt    : Option (BitVec 64)
  /-- stalled cycles of looms and update engines that their counters still owe, by the key of the unit's busy count, in the order of their
  descriptors -/
  owedStalls : SMap (List OwedStall)
  /-- what each loom was found doing when a cycle of it was last counted, and from which time on (17 R404, R415) -/
  stalls     : SMap (Nat × BitVec 64)
  traceRing  : SMap (BitVec 256)
  /-- hang snapshot by 32-bit word (17 R415) -/
  hangSnap   : SMap Nat
  /-- what the last complete scan found in each loom (17 R413) -/
  scans      : SMap (List Nat)
  deriving DecidableEq, Repr

/-- The configuration record that the flash holds in State.reset (log 6): a KWF-2000-A1 whose looms are all usable, base MAC and serial
number zero, the identity key that of a secret of zeros. -/
def resetRecord : BitVec 4096 :=
  BitVec.ofNat 4096
    (0x4746574B + 0x0001 * 2 ^ 32 + 0xA1 * 2 ^ 48 + 2000 * 2 ^ 64 + 1 * 2 ^ 192 + 0x12 * 2 ^ 280 +
      (List.range 80).foldl (fun a i => a + 0x3FFFFFF * 2 ^ (1024 + 32 * i)) 0)

/-- The secure flash of State.reset (log 6). -/
def Flash.reset : Flash :=
  { rootOk := true
    slotA := { valid := true, version := 1, digest := 0, bytes := [] }
    slotB := { valid := false, version := 0, digest := 0, bytes := [] }
    bootB := false, failed := 0, record := resetRecord, recordSigned := true, recordTail := [2], journal := []
    versions := [], identity := { skSeed := 0, skPrf := 0, pubSeed := 0, root := 0 }
    copyA := .whole [] 1, copyB := .torn [] 0, repairs := [] }

/-- The machine right after reset: the rails are up, PWROK is low, the time base has not locked (15 R361, R362). -/
def State.reset : State :=
  { pending := [], out := [], fresh := 0, timeLocked := false, ns := 0, phase := 0, pwrok := false, straps := 0
    fwUp := false, romHold := false, pllsOn := false, trip := false, clockNs := 0, bistGroup := none, hbmLeft := []
    katRound := 0, katQuads := [], katTries := [], applyWaits := none, stepStart := [], identityOk := false
    hotNow := false, wasOutside := false, warned := false, collided := false, sealArmed := false
    tjSecond := 0x8000, warmNow := false, drooped := false, assayGap := false, riseNs := 0, flash := Flash.reset, sec := .init
    objs := [], inForce := [], buffered := [], nodes := [], notifySeq := 0, notices := [], log := []
    mergedNow := [], sources := [], stewards := [], tests := [], quads := [], looms := [], stackCtl := [], hbm := []
    hbmPoison := [], links := [], held := [], macTime := none, parts := [], dcqs := [], cloops := [], bridgeBufs := [], bridgeAir := [], counters := []
    latched := [], latchAt := none, owedStalls := [], stalls := [], traceRing := [], hangSnap := [], scans := [] }

end Sys2Proof.Machine
end

