-- ==== Sys2Proof/Machine/Flags.lean ====
section
/-! DEFINITION. A96 values and their flags (02 R36, R37), conversion classes and the ephemeris accumulators they feed
(02 R42; 06 R140, R141). -/

namespace Sys2Proof.Machine

open Sys2Proof

/-! ### A96 (R36, R37) -/

/-- FRAC as a signed integer. -/
def A96.fracInt (a : A96) : Int := a.frac.toInt

/-- The integer VALUE. -/
def A96.int (a : A96) : Int := a.value.toInt

/-- VALUE from an exact integer; wraps modulo 2^96. -/
def wrap96 (x : Int) : BitVec 96 := BitVec.ofInt 96 x

/-- An exact integer does not fit in 96 bits. -/
def past96 (x : Int) : Bool := decide (x < -(2 ^ 95 : Int)) || decide ((2 ^ 95 : Int) ≤ x)

/-- Exact addition: the smaller FRAC is shifted to the larger, flags combine by OR, OVF marks a wrap. -/
def A96.add (a b : A96) : A96 :=
  let f := if a.fracInt < b.fracInt then b.fracInt else a.fracInt
  let x := a.int * 2 ^ (f - a.fracInt).toNat + b.int * 2 ^ (f - b.fracInt).toNat
  { value := wrap96 x, frac := if a.fracInt < b.fracInt then b.frac else a.frac
    ovf := a.ovf || b.ovf || past96 x, pinf := a.pinf || b.pinf, ninf := a.ninf || b.ninf, nan := a.nan || b.nan }

/-- The addition of two values wrapped. -/
def A96.addWraps (a b : A96) : Bool :=
  let f := if a.fracInt < b.fracInt then b.fracInt else a.fracInt
  past96 (a.int * 2 ^ (f - a.fracInt).toNat + b.int * 2 ^ (f - b.fracInt).toNat)

/-- The value that conversion out of A96 takes. -/
def A96.val (a : A96) : Val :=
  if a.nan || (a.pinf && a.ninf) then .nan
  else if a.pinf then .inf false
  else if a.ninf then .inf true
  else Val.ofInt a.int (-a.fracInt)

/-- A flag-only contribution (R37). -/
def A96.ofFlags (frac : BitVec 8) (nan pinf ninf : Bool) : A96 :=
  { value := 0, frac := frac, ovf := false, pinf := pinf, ninf := ninf, nan := nan }

/-- Conversion into A96 at a given FRAC (R37); `u` gives random bits for the BF16 window (03 R66). -/
def A96.ofVal (v : Val) (frac : Int) (u : Option Nat) : A96 :=
  let fb := BitVec.ofInt 8 frac
  match v with
  | .nan => A96.ofFlags fb true false false
  | .inf s => A96.ofFlags fb false (!s) s
  | .fin s n d e =>
    let x := inUnits n d e (-frac)
    let i := roundInt s x.1 x.2 u
    { value := wrap96 i, frac := fb, ovf := past96 i, pinf := false, ninf := false, nan := false }

/-- The 128-bit slot (R36). -/
def A96.slot (a : A96) : Nat :=
  a.value.toNat + a.frac.toNat * 2 ^ 96 + (if a.ovf then 2 ^ 104 else 0) + (if a.pinf then 2 ^ 105 else 0)
    + (if a.ninf then 2 ^ 106 else 0) + (if a.nan then 2 ^ 107 else 0)

def A96.ofSlot (x : Nat) : A96 :=
  { value := BitVec.ofNat 96 x, frac := BitVec.ofNat 8 (x / 2 ^ 96), ovf := x.testBit 104, pinf := x.testBit 105
    ninf := x.testBit 106, nan := x.testBit 107 }

/-- A whole block of the two conversions' widths: the value of any stored element, A96 slots included. -/
def slotVal (f p : Nat) : Val := if f = 10 then (A96.ofSlot p).val else elemVal f p

/-! ### Conversion classes and the ephemeris accumulator -/

/-- Record one conversion in an accumulator (06 R140): its class, and the magnitude of its exact source value. -/
def EphAcc.record (a : EphAcc) (c : ConvClass) (v : Val) : EphAcc :=
  let b := { a with elems := a.elems + 1 }
  let m := BitVec.ofNat 32 (maxCode v)
  match c with
  | .nonfinite => { b with nonfin := b.nonfin + 1 }
  | .saturated => { b with sats := b.sats + 1, max := if b.max < m then m else b.max }
  | .zero => { b with zeros := b.zeros + 1, max := if b.max < m then m else b.max }
  | .ordinary => { b with max := if b.max < m then m else b.max }

/-- Merge two accumulators: unsigned maximum of codes, counts by addition (06 R141). -/
def EphAcc.merge (a b : EphAcc) : EphAcc :=
  { max := if a.max < b.max then b.max else a.max, zeros := a.zeros + b.zeros, sats := a.sats + b.sats
    nonfin := a.nonfin + b.nonfin, elems := a.elems + b.elems }

end Sys2Proof.Machine
end

