-- ==== Sys2Proof/Config.lean ====
section
/-! DEFINITION. The values the spec leaves open (free values, no body), and the algorithms of other
standards whose results the model does not compute. -/

namespace Sys2Proof

/-- The n-th free value: random numbers of the TRNG (13 R311, R327, R329), samples of sensors (16 R390). -/
opaque Config.free : Nat → Nat

/-- Slots of the credit loops whose issued count the spec does not state: class 0x03 (tally input) and class 0x04 (port
receive buffers) (05 R133). -/
opaque Config.loopSlots : Nat → BitVec 32

/-- ML-KEM-1024 key pair (FIPS 203) made from the n-th random seed: encapsulation key, decapsulation key (13 R318). -/
opaque Config.kemKeygen : Nat → Bytes × Bytes

/-- ML-KEM-1024 encapsulation to a key under the n-th random seed: ciphertext, shared secret (13 R320). -/
opaque Config.kemEncaps : Bytes → Nat → Bytes × Bytes

/-- ML-KEM-1024 decapsulation of a ciphertext (13 R318, R320). -/
opaque Config.kemDecaps : Bytes → Bytes → Bytes

/-- XMSS-SHAKE256_20_256 signature by the key of an identity secret under a leaf (13 R311, R313). -/
opaque Config.xmssSign : Bytes → Nat → Bytes → Bytes

/-- ICRC of a packet as it stands before ESP (11 R248). -/
opaque Config.icrc : Bytes → BitVec 32

/-- ESP protection (RFC 4303, AES-256-GCM) under a key and salt: ciphertext and ICV (11 R254). -/
opaque Config.espSeal : Bytes → Bytes → Bytes

/-- The 32-byte MAC of a leaf-journal record under the PUF-derived key (13 R313). -/
opaque Config.journalMac : Nat → BitVec 128

/-- Byte i of the image of a loom's scan, as the layout puts there what the scan covers: the spec gives the image's contents and not its
layout (17 R413; log 19). -/
opaque Config.scanByte : List Nat → Nat → Byte

/-- UDP source port of the RoCEv2 packets of a queue pair: the spec gives their destination port only (10 R224). -/
opaque Config.udpSource : Nat → BitVec 16

/-- Cycles by which the padding of the n-th padded completion delayed it (05 R124; 17 R418): the spec gives no latency in cycles. -/
opaque Config.padCycles : Nat → Nat

/-- Cycles for which the n-th descriptor issued in a loom's step waits for banks behind other fixed requesters: the image alone fixes them
(04 R101), loom by its key. -/
opaque Config.fixedBankWait : Option Image → Nat → Nat → Nat

/-- Cycles for which the n-th descriptor of a loom, a DMA issued at a time, waits for banks behind fixed requesters (`false`) or behind a DMA
or the loader (`true`): they vary with load (04 R101). -/
opaque Config.dmaBankWait : BitVec 64 → Nat → Nat → Bool → Nat

/-- Hub cycles that a frame of n packets takes to leave a link (17 R404): the spec gives no frame's cycles. -/
opaque Config.frameCycles : Nat → Nat

/-- Hub cycles for which a chunk of n bytes waits for its pacing at num / 2^shift of the plan rate (11 R252, R269; 17 R404). -/
opaque Config.paceCycles : Nat → Nat → Nat → Nat

/-- Quadrant `q` sees the mark of quadrant `j` for boundary k after 3 cycles and not after 2 (08 R187). -/
opaque Config.markLate : Nat → Nat → Nat → Bool

/-- Word w of stack k lies in the scratch area that the known-answer run uses there (15 R373): the spec gives no place. -/
opaque Config.katScratch : Nat → Nat → Bool

/-- What the n-th loom test leaves in word or byte i of the instruction store and local memory it destroys (16 R399). -/
opaque Config.testFill : Nat → Nat → Nat

/-- Number of a SRAM array in the detail of records 0x0301 and 0x0302: 0 local memory, 1 slot tables, 2 instruction store, 3 active set,
4 shadow set, 5 scale file, 6 transcendental tables, 7 steward memory, 8 the hub's shared state. The spec gives the field and not the numbers (16 R392; log 94). -/
opaque Config.arrayNumber : Nat → BitVec 32

/-- Which of the management port's event sources 0x1B0 to 0x1BF a condition asserts: 0 the loss of the beacon, 1 a collision.
The spec gives the range and not the numbers in it (14 R334, R354). -/
opaque Config.portSource : Nat → Fin 16

end Sys2Proof
end

