-- ==== Sys2Proof/Machine/Crypto.lean ====
section
/-! DEFINITION. SHAKE256 (FIPS 202), which the spec names for every digest, key derivation and authentication trailer
(13 R306). The permutation's state is one number of 1,600 bits: lane x of plane y is its 64 bits from bit 64 × (5y + x), and a plane
its 320 bits from bit 320y, so that input and output are the number's low bytes. -/

namespace Sys2Proof

/-- A plane with its lanes moved `n` places up, cyclically. -/
def planeTurn (n p : Nat) : Nat := (p <<< (64 * n) ||| p >>> (320 - 64 * n)) % 2 ^ 320

/-- Bit 0 of each lane of a plane. -/
def planeOnes : Nat := 0x1000000000000000100000000000000010000000000000001 * 2 ^ 64 + 1

/-- A plane with each lane rotated by one bit. -/
def planeBit (p : Nat) : Nat := (p &&& (2 ^ 63 - 1) * planeOnes) <<< 1 ||| (p >>> 63 &&& planeOnes)

def plane (s y : Nat) : Nat := (s >>> (320 * y)) % 2 ^ 320

/-- The same plane five times. -/
def allPlanes (p : Nat) : Nat := p + p <<< 320 + p <<< 640 + p <<< 960 + p <<< 1280

/-- θ: each column takes the parities of the two columns beside it. -/
def keccakTheta (s : Nat) : Nat :=
  let c := plane s 0 ^^^ plane s 1 ^^^ plane s 2 ^^^ plane s 3 ^^^ plane s 4
  s ^^^ allPlanes (planeTurn 1 c ^^^ planeBit (planeTurn 4 c))

def laneTurn (n w : Nat) : Nat := (w <<< n ||| w >>> (64 - n)) % 2 ^ 64

/-- ρ and π along the walk that starts at lane (1, 0): its `t`-th lane, (x, y), is rotated by (t + 1)(t + 2)/2 and takes the place of the
next, (y, 2x + 3y). `n` lanes are left; `b` holds those placed. -/
def keccakWalk (s : Nat) : Nat → Nat → Nat → Nat → Nat → Nat
  | 0, _, _, _, b => b
  | n + 1, t, x, y, b =>
    let w := laneTurn ((t + 1) * (t + 2) / 2 % 64) ((s >>> (64 * (5 * y + x))) % 2 ^ 64)
    let z := (2 * x + 3 * y) % 5
    keccakWalk s n (t + 1) y z (b + w <<< (64 * (5 * z + y)))

/-- χ on one plane. -/
def keccakChi (p : Nat) : Nat := p ^^^ ((2 ^ 320 - 1) ^^^ planeTurn 4 p) &&& planeTurn 3 p

/-- ι: bit 2^j − 1 of lane 0 flips where the generator of round constants gives 1; the generator stands at `r`. -/
def keccakIota (s r : Nat) : Nat × Nat :=
  [0, 1, 3, 7, 15, 31, 63].foldl (fun a i =>
    (if a.2 % 2 = 1 then a.1 ^^^ 2 ^ i else a.1, if a.2 < 128 then 2 * a.2 else (2 * a.2) ^^^ 0x171)) (s, r)

def keccakRounds : Nat → Nat → Nat → Nat
  | 0, s, _ => s
  | n + 1, s, r =>
    let a := keccakTheta s
    let b := keccakWalk a 24 0 1 0 (a % 2 ^ 64)
    let e := keccakChi (plane b 0) + keccakChi (plane b 1) <<< 320 + keccakChi (plane b 2) <<< 640
      + keccakChi (plane b 3) <<< 960 + keccakChi (plane b 4) <<< 1280
    let x := keccakIota e r
    keccakRounds n x.1 x.2

/-- Keccak-f[1600]. -/
def keccakF (s : Nat) : Nat := keccakRounds 24 s 1

/-- Take in `n` blocks of 136 bytes of the padded message `m`, the first in its low bytes. -/
def shakeAbsorb : Nat → Nat → Nat → Nat
  | 0, _, s => s
  | n + 1, m, s => shakeAbsorb n (m >>> 1088) (keccakF (s ^^^ m % 2 ^ 1088))

def shakeSqueeze : Nat → Nat → Bytes
  | 0, _ => []
  | n + 1, s => leBytes 136 s ++ shakeSqueeze n (keccakF s)

/-- SHAKE256 with `n` output bytes. The suffix 1111 and the padding 10*1 stand above the message's bits. -/
def shake256 (m : Bytes) (n : Nat) : Bytes :=
  let k := m.length / 136 + 1
  (shakeSqueeze (n / 136 + 1) (shakeAbsorb k (leNat m + 0x1F <<< (8 * m.length) + 1 <<< (1088 * k - 1)) 0)).take n

/-- SHAKE256 with a 256-bit output (13 R306). -/
def digest256 (m : Bytes) : Bytes := shake256 m 32

end Sys2Proof
end

