-- ==== Sys2Proof/Machine/Ops.lean ====
section
/-! DEFINITION. The named operations over the state: objects of the dictionary, families, time, frames sent, error
records and notifications. Every meaning reads and writes the state through these. -/

namespace Sys2Proof.Machine

open Sys2Proof

/-! ### The secure flash (13 R311, 14 R344) -/

/-- The copy was written whole. -/
def Settings.ok (x : Settings) : Bool := decide (x.crc = settingsCrc x.vals x.turn)

/-- Copy B of the settings is the one in force: it is whole, and newer than A or A is not whole. -/
def Flash.settingsB (f : Flash) : Bool := f.copyB.ok && (!f.copyA.ok || decide (f.copyA.turn < f.copyB.turn))

/-- The STORED values in force; without a whole copy, none (DESIGN CHOICE, log 89). -/
def Flash.settings (f : Flash) : SMap Nat :=
  if f.settingsB then f.copyB.vals else if f.copyA.ok then f.copyA.vals else []

/-- The number of the copy in force. -/
def Flash.settingsTurn (f : Flash) : Nat := if f.settingsB then f.copyB.turn else f.copyA.turn

/-- Write the copy that is not in force. -/
def Flash.putSettings (f : Flash) (x : Settings) : Flash := if f.settingsB then { f with copyA := x } else { f with copyB := x }

/-- The secret's bytes: SK_SEED, SK_PRF, PUB_SEED, root. -/
def IdSecret.bytes (x : IdSecret) : Bytes :=
  beBytes 32 x.skSeed.toNat ++ beBytes 32 x.skPrf.toNat ++ beBytes 32 x.pubSeed.toNat ++ beBytes 32 x.root.toNat

/-- The public key recomputed from the secret: OID, root, PUB_SEED (PRESUMED, log 88: the format of RFC 8391 with the OID of
XMSS-SHAKE256_20_256). -/
def IdSecret.pub (x : IdSecret) : Bytes := beBytes 4 0x12 ++ beBytes 32 x.root.toNat ++ beBytes 32 x.pubSeed.toNat

/-! ### Families -/

def State.part (s : State) (p : Nat) : Part := SMap.get Part.init s.parts p
def State.setPart (s : State) (p : Nat) (x : Part) : State := { s with parts := SMap.set Part.init s.parts p x }
def State.modPart (s : State) (p : Nat) (f : Part → Part) : State := s.setPart p (f (s.part p))
def State.quad (s : State) (q : Nat) : Quad := SMap.get Quad.init s.quads q
def State.setQuad (s : State) (q : Nat) (x : Quad) : State := { s with quads := SMap.set Quad.init s.quads q x }
def State.stack (s : State) (k : Nat) : Stack := SMap.get Stack.init s.stackCtl k
def State.setStack (s : State) (k : Nat) (x : Stack) : State := { s with stackCtl := SMap.set Stack.init s.stackCtl k x }
def State.link (s : State) (k : Nat) : Link := SMap.get Link.init s.links k
def State.setLink (s : State) (k : Nat) (x : Link) : State := { s with links := SMap.set Link.init s.links k x }
def State.node (s : State) (n : Nat) : Node := SMap.get Node.init s.nodes n
def State.setNode (s : State) (n : Nat) (x : Node) : State := { s with nodes := SMap.set Node.init s.nodes n x }
def State.dcq (s : State) (q : Nat) : Dcq := SMap.get Dcq.init s.dcqs q
def State.setDcq (s : State) (q : Nat) (x : Dcq) : State := { s with dcqs := SMap.set Dcq.init s.dcqs q x }

/-- Credits a loop is set to at LOAD and at partition reset (08 R189, 09 R207). -/
def loopIssued (l : Nat) : BitVec 32 :=
  let c := l / 2 ^ 24
  if c = 1 then 128 else if c = 2 then 32 else if c = 7 then 96 else if c = 3 ∨ c = 4 then Config.loopSlots c else 0

/-- A loop as LOAD or partition reset leaves it: every credit held by the sender. -/
def loopInit (l : Nat) : CLoop := { CLoop.init with issued := loopIssued l, held := loopIssued l }

def State.cloop (s : State) (l : Nat) : CLoop := SMap.get (loopInit l) s.cloops l

/-- A loop starts anew with its creation (05 R133). -/
def State.newLoop (s : State) (l : Nat) : State := { s with cloops := SMap.drop (fun j => j == l) s.cloops }
def State.setCloop (s : State) (l : Nat) (x : CLoop) : State := { s with cloops := SMap.set (loopInit l) s.cloops l x }

def State.source (s : State) (n : Nat) : Source := SMap.get Source.init s.sources n
def State.setSource (s : State) (n : Nat) (x : Source) : State := { s with sources := SMap.set Source.init s.sources n x }
def State.steward (s : State) (m : Nat) : Steward := SMap.get Steward.init s.stewards m
def State.setSteward (s : State) (m : Nat) (x : Steward) : State :=
  { s with stewards := SMap.set Steward.init s.stewards m x }

/-- The key of a logical loom in the state, whatever the grade: 500q + 25r + c. -/
def loomKey (l : LoomId) : Nat := 500 * l.q.val + 25 * l.r.val + l.c.val

def State.loom (s : State) (l : LoomId) : Loom := SMap.get Loom.init s.looms (loomKey l)
def State.setLoom (s : State) (l : LoomId) (x : Loom) : State := { s with looms := SMap.set Loom.init s.looms (loomKey l) x }

/-! ### Objects of the dictionary (14 R342) -/

/-- The value of an object: the last one written or set, else its default. -/
def State.obj (s : State) (ref : Nat) : Nat := SMap.get (objDefault ref) s.objs ref

/-- Set an object, cut to its size. -/
def State.setObj (s : State) (ref v : Nat) : State :=
  { s with objs := SMap.set (objDefault ref) s.objs ref (v % 256 ^ objSize ref) }

/-- Add to a counter object; it wraps at its size. -/
def State.bump (s : State) (ref n : Nat) : State := s.setObj ref (s.obj ref + n)

/-- The value in force of a class-T object: what the last management tick applied (14 R346). -/
def State.live (s : State) (ref : Nat) : Nat := SMap.get (objDefault ref) s.inForce ref

def State.setLive (s : State) (ref v : Nat) : State :=
  { s with inForce := SMap.set (objDefault ref) s.inForce ref (v % 256 ^ objSize ref) }

/-- Return the objects whose reference satisfies `p` to their defaults. -/
def State.clearObjs (s : State) (p : Nat → Bool) : State := { s with objs := SMap.drop p s.objs }

/-! ### Time (01 R21) -/

/-- The moment of a timed event: the time base is at least `t`. -/
def State.atLeast (s : State) (t : Nat) : State :=
  if s.ns.toNat < t then { s with ns := BitVec.ofNat 64 t } else s

/-- Units act while PWROK is high, and are held in reset while it is low (15 R362). -/
def State.ifPowered (s t : State) : State := if s.pwrok then t else s

/-- Units other than the always-on logic, the stewards and the management port act while they are not in reset either after a thermal trip
(18 R425). -/
def State.ifRuns (s t : State) : State := if s.pwrok && !s.trip then t else s

/-! ### Free values -/

/-- Take the next free value. -/
def State.draw (s : State) : Nat × State := (Config.free s.fresh, { s with fresh := s.fresh + 1 })

/-- The origin of poison whose first word nothing names: 1 + a stack + 32 × a granule, both free. -/
def State.freeOrigin (s : State) : Nat × State := (1 + s.draw.1 % 2 ^ 37, s.draw.2)

/-! ### What the device sends -/

def State.emit (s : State) (o : Out) : State := { s with out := o :: s.out }

/-- Send several things, in order. -/
def State.emits (s : State) (l : List Out) : State := { s with out := l.reverse ++ s.out }

/-! ### The configuration record and the identity (13 R306, R310; 14 R345) -/

/-- Bits [hi:lo] of the configuration record in the secure flash. -/
def State.recBits (s : State) (hi lo : Nat) : Nat := field s.flash.record.toNat hi lo

/-- The record verifies: a certificate with USAGE 0x02 and its signatures, magic and version (13 R305, R310). -/
def State.recordOk (s : State) : Bool :=
  s.flash.recordSigned && decide (s.flash.recordTail.head? = some 2) && decide (s.recBits 31 0 = 0x4746574B) && decide (s.recBits 47 32 = 1)

/-- A field of the record; zero while the record does not verify (14 R345). -/
def State.recField (s : State) (hi lo : Nat) : Nat := if s.recordOk then s.recBits hi lo else 0

/-- Stepping byte: 0xA1 or 0xB0. -/
def State.stepping (s : State) : Nat := s.recField 55 48

/-- Logical looms of the grade: 2,000 or 1,600. -/
def State.grade (s : State) : Nat := s.recField 79 64

/-- Logical columns per row of the grade (01 R9). -/
def State.gradeCols (s : State) : Nat := if s.grade = 1600 then 20 else 25

/-- The identity public key as stored: the first byte at the lowest address. -/
def State.idPub (s : State) : Bytes := leBytes 68 (s.recField 799 256)

/-- The identity digest (13 R306). -/
def State.identDigest (s : State) : Bytes := digest256 s.idPub

/-- Bits [63:0] of the identity digest (13 R306). -/
def State.ident64 (s : State) : Nat := leNat (s.identDigest.take 8)

/-- The base MAC address as a number whose most significant octet is the octet sent first (10 R223). -/
def State.baseMac (s : State) : Nat := beNat (leBytes 6 (s.recField 127 80))

/-! ### Partitions (01 R23) -/

/-- Partitions of a layout. -/
def layoutParts (layout : Nat) : Nat := if layout = 0 then 1 else if layout = 1 then 2 else 4

/-- The partition of a quadrant under a layout. -/
def layoutPartOf (layout q : Nat) : Nat := if layout = 0 then 0 else if layout = 1 then q / 2 else q

/-- The layout in force. -/
def State.layout (s : State) : Nat := s.obj 0x90000A

def State.partCount (s : State) : Nat := layoutParts s.layout
def State.partOfQuad (s : State) (q : Nat) : Nat := layoutPartOf s.layout q

/-- The quadrants of a partition, ascending. -/
def State.quadsOf (s : State) (p : Nat) : List Nat := (List.range 4).filter (fun q => s.partOfQuad q == p)

/-- Stack k belongs to quadrant k div 5 (01 R12). -/
def State.partOfStack (s : State) (k : Nat) : Nat := s.partOfQuad (k / 5)

def State.stacksOf (s : State) (p : Nat) : List Nat := (List.range 20).filter (fun k => s.partOfStack k == p)

/-- The owner in force of a port (01 R23). -/
def State.portOwner (s : State) (port : Nat) : Nat := s.live (0x900002 + port)

def State.portsOf (s : State) (p : Nat) : List Nat := (List.range 6).filter (fun x => s.portOwner x == p)

/-- The lowest-numbered quadrant of a partition (01 R22). -/
def State.lowQuad (s : State) (p : Nat) : Nat := (s.quadsOf p).headD 0

/-- A quadrant's clock runs: PLLs on, no trip, not gated. -/
def State.quadRuns (s : State) (q : Nat) : Bool :=
  s.pllsOn && !s.trip && !(s.quad q).stopped && !(s.quad q).holding

/-- Job state of a partition (12 R293). -/
def State.jobState (s : State) (p : Nat) : Nat := s.obj (0x907001 + 256 * p)

/-- A partition has a job loaded. -/
def State.jobLoaded (s : State) (p : Nat) : Bool := decide (p < s.partCount) && decide (s.jobState p ≠ 0)

def State.anyJob (s : State) : Bool := (List.range 4).any s.jobLoaded

/-- The steps' state of the exchange: 0 idle, 1 computing, 2 own COMMIT sent, 3 committed, 4 aborting (11 R282). -/
def State.exState (s : State) (p : Nat) : Nat := s.obj (0x521003 + 256 * p)
def State.setExState (s : State) (p v : Nat) : State := s.setObj (0x521003 + 256 * p) v

/-- The step and attempt in progress. -/
def State.stepNo (s : State) (p : Nat) : Nat := s.obj (0x521001 + 256 * p)
def State.attempt (s : State) (p : Nat) : Nat := s.obj (0x521002 + 256 * p)

/-- Looms of the image that runs, else of the grade (01 R9, 00 R2). -/
def State.runLooms (s : State) (p : Nat) : Nat :=
  match (s.part p).image with
  | some i => i.looms.toNat
  | none => s.grade

/-- The loom of a key takes part in the job under the loom count that runs: the looms of columns 20 to 24 stay idle under 1,600 (00 R2). -/
def State.loomUsed (s : State) (k : Nat) : Bool := decide (k % 25 < 20) || decide (s.runLooms (s.partOfQuad (k / 500)) ≠ 1600)

/-- Logical number of a loom under a loom count (01 R9). -/
def loomNumber (looms : Nat) (l : LoomId) : Nat :=
  if looms = 1600 then 400 * l.q.val + 20 * l.r.val + l.c.val else loomKey l

def State.loomNo (s : State) (l : LoomId) : Nat := loomNumber (s.runLooms (s.partOfQuad l.q)) l

/-- The loom behind a logical number (01 R9). -/
def loomOfNumber (looms n : Nat) : LoomId :=
  if looms = 1600 then
    { q := Fin.ofNat 4 (n / 400), r := Fin.ofNat 20 (n % 400 / 20), c := Fin.ofNat 25 (n % 20) }
  else { q := Fin.ofNat 4 (n / 500), r := Fin.ofNat 20 (n % 500 / 25), c := Fin.ofNat 25 (n % 25) }

/-- The loom with a logical number, under the loom count that its own partition runs (00 R2, 01 R9). Where partitions of different counts
share a number, it names the loom of the lowest quadrant (DESIGN CHOICE, log 73). -/
def State.loomOfNo (s : State) (n : Nat) : Option LoomId :=
  (List.range 4).findSome? (fun q =>
    let looms := s.runLooms (s.partOfQuad q)
    if n / (looms / 4) = q then some (loomOfNumber looms n) else none)

/-- Partition p runs an image of the other stepping's profile: units pad to its latencies (05 R124). -/
def State.padded (s : State) (p : Nat) : Bool :=
  decide (s.stepping = 0xB0) && decide (s.obj (0x220004 + p) = 0xA1)

/-! ### Credit loops (05 R133, R134; 08 R189) -/

/-- Identifier of a credit loop (05 R134). -/
def loopId (cls p inst : Nat) : Nat := cls * 2 ^ 24 + p % 4 * 2 ^ 22 + inst % 2 ^ 16

/-- A credit is spent: it is held no more and its entry is in use (R189). -/
def State.takeCredit (s : State) (l : Nat) : State :=
  let c := s.cloop l
  s.setCloop l { c with held := c.held - 1, inFlight := c.inFlight + 1 }

/-- An entry is freed: its credit counts as returned from then on (R189). -/
def State.freeCredit (s : State) (l : Nat) : State :=
  let c := s.cloop l
  s.setCloop l { c with inFlight := c.inFlight - 1, returned := c.returned + 1 }

/-- A credit of the loop is at the sender, or its return is on its way to it. -/
def State.hasCredit (s : State) (l : Nat) : Bool :=
  decide (0 < (s.cloop l).held.toNat) || decide (0 < (s.cloop l).returned.toNat)

/-- n items cross a credited path within one command: each spends a credit and frees its entry, and the sender has read the count of
freed entries by the end of it (R189). -/
def State.throughLoop (s : State) (l n : Nat) : State :=
  let c := s.cloop l
  s.setCloop l { c with
    held := c.held + c.returned, returned := 0, lastFreed := c.lastFreed + c.returned + BitVec.ofNat 32 n }

/-! ### Dual-clock queues (08 R190 to R198) -/

/-- Depth of a queue by its number; 0 where the device has none. -/
def queueDepth (q : Nat) : Nat :=
  if q ≤ 0x1F then 64 else if 0x100 ≤ q ∧ q ≤ 0x127 then 128 else if 0x200 ≤ q ∧ q ≤ 0x20B then 128
  else if 0x300 ≤ q ∧ q ≤ 0x307 then 32 else if 0x400 ≤ q ∧ q ≤ 0x403 then 256
  else if 0x410 ≤ q ∧ q ≤ 0x423 then 256 else if 0x428 ≤ q ∧ q ≤ 0x42D then 256 else if q = 0x500 ∨ q = 0x501 then 16 else 0

/-- Observation queues are not credited (08 R197). -/
def queueObserves (q : Nat) : Bool := decide (0x400 ≤ q) && decide (q ≤ 0x42D)

/-- The partition of a queue's unit; none for units that serve all partitions (08 R198). -/
def State.queuePart (s : State) (q : Nat) : Option Nat :=
  if q ≤ 0x1F then some (s.partOfQuad (q / 8))
  else if q ≤ 0x127 then some (s.partOfStack ((q - 0x100) / 2))
  else if q ≤ 0x20B then some (s.portOwner ((q - 0x200) / 2))
  else if 0x400 ≤ q ∧ q ≤ 0x403 then some (s.partOfQuad (q - 0x400))
  else if 0x410 ≤ q ∧ q ≤ 0x423 then some (s.partOfStack (q - 0x410))
  else if 0x428 ≤ q ∧ q ≤ 0x42D then some (s.portOwner (q - 0x428))
  else none

/-- Every number of a queue of the device. -/
def queueNumbers : List Nat :=
  List.range 0x20 ++ (List.range 0x28).map (· + 0x100) ++ (List.range 12).map (· + 0x200) ++ (List.range 8).map (· + 0x300)
    ++ (List.range 4).map (· + 0x400) ++ (List.range 0x14).map (· + 0x410) ++ (List.range 6).map (· + 0x428) ++ [0x500, 0x501]

/-- The partition that a queue's loop and records name (08 R198). -/
def State.queueHome (s : State) (q : Nat) : Nat := (s.queuePart q).getD 0

/-! ### Credited queues and crossings (R190 to R198) -/

/-- Identifier of a credited queue's class-0x08 loop. -/
def State.queueLoop (s : State) (q : Nat) : Nat := loopId 8 (s.queueHome q) q

/-- Recount a credited queue's loop after pushes and pops (R133): issued is items pushed, returned items popped. -/
def State.loopMoved (s : State) (q pushed popped : Nat) : State :=
  if queueObserves q then s
  else
    let l := s.queueLoop q
    let c := s.cloop l
    s.setCloop l { c with
      issued := c.issued + BitVec.ofNat 32 pushed
      inFlight := c.inFlight + BitVec.ofNat 32 pushed - BitVec.ofNat 32 popped
      returned := c.returned + BitVec.ofNat 32 popped }

/-- Credits that the sender of a credited queue holds: its depth, less the items pushed, and those of freed entries that it has read
back (R189). -/
def State.queueCredits (s : State) (q : Nat) : Nat :=
  let c := s.cloop (s.queueLoop q)
  queueDepth q - (c.issued - c.lastFreed).toNat

/-- EMPTY in the consumer's domain: no held item shows through the synchronised write pointer (R191). -/
def Dcq.empty (d : Dcq) : Bool := decide (d.items.length ≤ d.unseen)

/-- FULL in the producer's domain of a queue of depth n: the write pointer exceeds the synchronised read pointer by n (R191). -/
def Dcq.full (d : Dcq) (n : Nat) : Bool := decide (n ≤ d.items.length + d.unfreed)

/-- PACKETS: items with END that the consumer sees, and overwritten ones it has not skipped yet (R194). -/
def Dcq.packets (d : Dcq) : Nat := ((d.items.take (d.items.length - d.unseen)).filter (·.endp)).length + d.ghosts

/-- The sender of a credited queue has read the count of its freed entries. -/
def State.queueRead (s : State) (q : Nat) : State :=
  let c := s.cloop (s.queueLoop q)
  if queueObserves q then s else s.setCloop (s.queueLoop q) { c with lastFreed := c.returned }

/-- n items pushed on a credited queue do not arrive: its loop has issued them and nothing returns them (R197). -/
def State.loopIssues (s : State) (q n : Nat) : State :=
  let c := s.cloop (s.queueLoop q)
  if queueObserves q then s else s.setCloop (s.queueLoop q) { c with issued := c.issued + BitVec.ofNat 32 n }

/-- n items cross a queue within one command; a queue under FLUSH drops them (R196), which belongs to the loss that
the flush reported (R197; log 108). -/
def State.passQueue (s : State) (q n : Nat) : State :=
  let d := s.dcq q
  let k := queueDepth q
  if k = 0 ∨ n = 0 then s
  else if d.flushing then
    ((s.setDcq q { d with pushed := d.pushed + n, flushed := d.flushed + n }).loopIssues q n).bump 0x804006 n
  else
    ((s.setDcq q { d with
      pushed := d.pushed + n, popped := d.popped + n, wptr := (d.wptr + n) % (2 * k), rptr := (d.rptr + n) % (2 * k) }).loopMoved
      q n n).queueRead q

/-- Items can cross a queue: it is not under FLUSH. -/
def State.queueOpen (s : State) (q : Nat) : Bool := !(s.dcq q).flushing

/-- A credit of the queue is at its sender or on its way there: it holds fewer items than its depth, and on a credited path not every credit
is spent on items that were lost or flushed (R189, R197). -/
def State.queueRoom (s : State) (q : Nat) : Bool :=
  let c := s.cloop (s.queueLoop q)
  decide ((s.dcq q).items.length < queueDepth q) && (queueObserves q || decide ((c.issued - c.returned).toNat < queueDepth q))

/-- An item can cross the queue now. -/
def State.queueTakes (s : State) (q : Nat) : Bool := s.queueOpen q && s.queueRoom q

/-- A queue takes one more item, whether or not it is full; a full one loses its oldest (R191, R192, R194). -/
def Dcq.push (d : Dcq) (n : Nat) (i : QItem) : Dcq :=
  let e := { d with pushed := d.pushed + 1, inPacket := !i.endp, wptr := (d.wptr + 1) % (2 * n), unseen := d.unseen + 1 }
  if d.items.length < n then { e with items := d.items ++ [i] }
  else
    { e with
      items := d.items.drop 1 ++ [i], lost := d.lost + 1, gapOwed := true, rptr := (d.rptr + 1) % (2 * n)
      unseen := Nat.min n (d.unseen + 1)
      ghosts := d.ghosts + (match d.items with | x :: _ => if x.endp then 1 else 0 | [] => 0) }

/-! ### Notifications and ALERT_N (14 R357) -/

/-- Severity of an error record. -/
def recSeverity (b : BitVec 512) : Nat := field b.toNat 18 16

/-- ALERT_N is driven low. -/
def State.alertLow (s : State) : Bool :=
  s.pwrok && (s.romHold || decide (s.straps = 0)
    || s.notices.any (fun n => (s.live 0x112002).testBit (recSeverity n.bits)))

/-- Header of a dictionary frame (14 R336). -/
def dictHeader (op : Nat) (resp auth : Bool) (seq index sub status offset len node : Nat) : Bytes :=
  beBytes 16 (1 * 2 ^ 124 + op * 2 ^ 120 + (if resp then 2 ^ 119 else 0) + (if auth then 2 ^ 118 else 0)
    + seq * 2 ^ 96 + index * 2 ^ 80 + sub * 2 ^ 72 + status * 2 ^ 64 + offset * 2 ^ 32 + len * 2 ^ 16 + node * 2 ^ 8)

/-- The management port answers: firmware runs, the straps do not read 0, PWROK is high (14 R333, 15 R362). -/
def State.portSpeaks (s : State) : Bool := s.fwUp && s.pwrok && decide (s.straps ≠ 0)

/-- Queues that a dictionary frame crosses: from the management port to a steward, and from a steward to the port. Firmware answers on
steward 0 (DESIGN CHOICE, log 97). -/
def dictIn : List Nat := [0x500, 0x301]
def dictOut : List Nat := [0x300, 0x501]

/-- One item crosses these queues in turn, up to one under FLUSH, which drops it (R196). -/
def State.crossQueues (s : State) (l : List Nat) : State :=
  (l.takeWhile s.queueOpen ++ (l.dropWhile s.queueOpen).take 1).foldl (fun (t : State) q => t.passQueue q 1) s

/-- One item crosses the queues on its way, and then `t` happens: without a credit on the way it stays where it is, and a queue under FLUSH
drops it (01 R18; R189, R196). -/
def State.across (s : State) (way : List Nat) (t : State → State) : State :=
  if !way.all s.queueRoom then s else if way.all s.queueOpen then t (s.crossQueues way) else s.crossQueues way

/-- The dual-clock queues from the hub to steward m, and from steward m to the hub (R197). -/
def toSteward (m : Nat) : Nat := 0x300 + 2 * m
def fromSteward (m : Nat) : Nat := 0x301 + 2 * m

/-- Send a dictionary frame to a node and count it; a queue on the way that is under FLUSH drops it, and one without a free entry keeps
it from leaving (01 R18; 08 R189, R196). -/
def State.sendDict (s : State) (node : Nat) (frame : Bytes) : State :=
  if !s.portSpeaks || !dictOut.all s.queueRoom then s
  else if dictOut.all s.queueOpen then ((s.crossQueues dictOut).emit (.dict node frame)).bump 0x110006 1
  else s.crossQueues dictOut

/-- Send a record as a NOTIFY frame and keep it until acknowledged; the oldest of 64 is dropped and counted. -/
def State.notify (s : State) (bits : BitVec 512) : State :=
  let n : Notice := { seq := s.notifySeq, bits := bits, sent := s.ns }
  let s1 := { s with notifySeq := s.notifySeq + 1 }
  let s2 := if s1.notices.length < 64 then { s1 with notices := s1.notices ++ [n] }
            else ({ s1 with notices := s1.notices.drop 1 ++ [n] }).bump 0x112004 1
  s2.sendDict 0 (dictHeader 8 false false n.seq.toNat 0 0 0 0 64 0 ++ leBytes 64 bits.toNat)

/-! ### Error records (16 R389 to R393) -/

/-- Unit classes of the error record. -/
abbrev ucLoom : Nat := 0
abbrev ucEngine : Nat := 1
abbrev ucHbm : Nat := 2
abbrev ucFabric : Nat := 3
abbrev ucBridge : Nat := 4
abbrev ucLink : Nat := 5
abbrev ucTally : Nat := 6
abbrev ucHub : Nat := 7
abbrev ucSteward : Nat := 8
abbrev ucSecurity : Nat := 9
abbrev ucQueue : Nat := 10
abbrev ucSensor : Nat := 11
abbrev ucPart : Nat := 12

/-- What a record is raised with: code, severity, unit, partition (7 the whole device), OP, detail, and the quadrant
whose count it carries (none: the lowest of the partition, or Q0). -/
structure Raise where
  code   : Nat
  sev    : Nat
  uclass : Nat
  unit   : Nat
  part   : Nat
  op     : Nat
  detail : Nat
  quad   : Option Nat
  /-- what a watch event carries beside DETAIL, in bits [511:448] (DESIGN CHOICE, log 115); 0 otherwise -/
  extra  : Nat := 0
  /-- the temperature that the event carries; none: the sample is a free value -/
  temp   : Option (BitVec 16) := none

/-- Cycle count of a record (01 R22). -/
def State.recCycles (s : State) (x : Raise) : Nat :=
  match x.quad with
  | some q => (s.quad q).count.toNat
  | none => (s.quad (if x.part < 4 then s.lowQuad x.part else 0)).count.toNat

/-- TIME of a record with a code: now, but after the newest record of the log in the order of R390, by TIME and at equal TIME by CODE; of
several records detected at one nanosecond, one whose code comes later in that order than it is raised is sampled a nanosecond later
(DESIGN CHOICE, log 110: R390 lets the sample be up to 1 µs late). -/
def State.recTime (s : State) (code : Nat) : Nat :=
  match s.log with
  | [] => s.ns.toNat
  | r :: _ =>
    let t := field r.bits.toNat 127 64
    if t < s.ns.toNat then s.ns.toNat else if field r.bits.toNat 15 0 ≤ code then t else t + 1

/-- The 512 bits of a record (16 R389); the samples TEMP and VOLT are the n-th free values. -/
def State.recordBits (s : State) (x : Raise) (seq n : Nat) : BitVec 512 :=
  let loaded := decide (x.part < 4) && s.jobLoaded x.part
  BitVec.ofNat 512
    (x.code + x.sev * 2 ^ 16 + x.uclass * 2 ^ 20 + x.unit % 2 ^ 16 * 2 ^ 24 + x.part % 8 * 2 ^ 40 + x.op % 2 ^ 16 * 2 ^ 48
      + s.recTime x.code % 2 ^ 64 * 2 ^ 64 + s.recCycles x * 2 ^ 128
      + (if loaded then s.stepNo x.part % 2 ^ 48 * 2 ^ 192 + s.attempt x.part % 256 * 2 ^ 240 else 0)
      + (match x.temp with
         | some t => t.toNat * 2 ^ 256 + Config.free n / 2 ^ 16 % 2 ^ 16 * 2 ^ 272
         | none => Config.free n % 2 ^ 32 * 2 ^ 256) + seq % 2 ^ 32 * 2 ^ 288 + x.detail % 2 ^ 128 * 2 ^ 320 + x.extra % 2 ^ 64 * 2 ^ 448)

/-- Occurrences field of a merged record: DETAIL bits [127:96] (16 R391). -/
def occurrenceUnit : Nat := 2 ^ (320 + 96)

/-- The record in the log of this second that an occurrence of severity 0 or 1 merges into. -/
def State.mergeTarget (s : State) (x : Raise) : Option (BitVec 32) :=
  (s.log.find? (fun r =>
      s.mergedNow.contains (field r.bits.toNat 319 288) && decide (field r.bits.toNat 15 0 = x.code)
        && decide (field r.bits.toNat 23 20 = x.uclass) && decide (field r.bits.toNat 39 24 = x.unit % 2 ^ 16))).map
    (fun r => BitVec.ofNat 32 (field r.bits.toNat 319 288))

/-- Put a new record into the ring of 4,096 (16 R393). -/
def State.enterLog (s : State) (b : BitVec 512) (seq sev : Nat) : State :=
  let full := decide (4096 ≤ s.log.length)
  let s1 := { s with log := { bits := b } :: s.log.take 4095, fresh := s.fresh + 1 }
  let s2 := (s1.setObj 0x700003 seq).bump (0x700007 + sev) 1
  let s3 := s2.setObj 0x700001 s2.log.length
  let s4 := s3.setObj 0x700002 (seq + 1 - s3.log.length)
  if full then s4.bump 0x700006 1 else s4

/-- Raise an error record: it enters the log, or merges (severity 0 and 1), and becomes a notification at the time its
severity sets (14 R357). Record 0x070B is sent at once whatever the mask holds. -/
def State.raise (s : State) (x : Raise) : State :=
  match (if x.sev < 2 then s.mergeTarget x else none) with
  | some q =>
    { s with log := s.log.map (fun r => if field r.bits.toNat 319 288 = q.toNat
        then { bits := r.bits + BitVec.ofNat 512 occurrenceUnit } else r) }
  | none =>
    let seq := s.obj 0x700003 + 1
    let d := if x.sev < 2 then { x with detail := x.detail % 2 ^ 96 + 2 ^ 96 } else x
    let b := s.recordBits d seq s.fresh
    let s1 := s.enterLog b seq x.sev
    if x.code = 0x070B then s1.notify b
    else if x.sev < 2 then { s1 with mergedNow := s1.mergedNow ++ [seq] }
    else if (s1.live 0x112001).testBit x.sev then s1.notify b
    else s1

/-- A record of a hub unit that concerns the whole device. -/
def State.raiseDevice (s : State) (code sev uclass unit detail : Nat) : State :=
  s.raise { code := code, sev := sev, uclass := uclass, unit := unit, part := 7, op := 0, detail := detail, quad := none }

/-- A record of a unit of a partition. -/
def State.raisePart (s : State) (code sev uclass unit p op detail : Nat) : State :=
  s.raise { code := code, sev := sev, uclass := uclass, unit := unit, part := p, op := op, detail := detail, quad := none }

/-- Lane and datapath of a lane-check failure in an engine: free values (16 R386, R392). -/
def State.laneDetail (s : State) : Nat := Config.free s.fresh / 2 ^ 32 % 2 ^ 16

/-- A record raised in a quadrant. -/
def State.raiseQuad (s : State) (q code sev uclass unit op detail : Nat) : State :=
  s.raise { code := code, sev := sev, uclass := uclass, unit := unit, part := s.partOfQuad q, op := op, detail := detail
            quad := some q }

/-- A record raised in a quadrant that carries a temperature (09 R215). -/
def State.raiseTemp (s : State) (q code sev uclass unit detail : Nat) (t : BitVec 16) : State :=
  s.raise { code := code, sev := sev, uclass := uclass, unit := unit, part := s.partOfQuad q, op := 0, detail := detail
            quad := some q, temp := some t }

/-! ### Trace records (17 R406, R408) -/

/-- The 256 bits of a trace record under quadrant q's count (R406), of a time (none: now). -/
def State.traceBits (s : State) (kind uclass unit q d0 d1 : Nat) (at_ : Option (BitVec 64) := none) : Nat :=
  kind + uclass * 2 ^ 8 + unit % 2 ^ 16 * 2 ^ 16 + (s.quad q).count.toNat % 2 ^ 32 * 2 ^ 32
    + (at_.getD s.ns).toNat * 2 ^ 64 + d0 % 2 ^ 64 * 2 ^ 128 + d1 % 2 ^ 64 * 2 ^ 192

/-- A trace kind is enabled. -/
def State.traces (s : State) (kind : Nat) : Bool := (s.live 0x801001).testBit (kind - 1)

/-- The hub writes a record into the ring, or refuses it when the ring is full under MODE 0x01 (R408). -/
def State.ringPut (s : State) (r : Nat) : State :=
  let n := s.obj 0x801005
  if s.live 0x801004 = 1 ∧ 524288 ≤ n then s.bump 0x801006 1
  else ({ s with traceRing := SMap.set 0 s.traceRing (n % 524288) (BitVec.ofNat 256 r) }).bump 0x801005 1

/-! ### Activity counters (17 R404) -/

/-- Key of an activity counter: unit class, unit number, 0 busy, 1 idle, n + 1 stalled under reason n. -/
def counterKey (cls unit idx : Nat) : Nat := (cls * 2 ^ 16 + unit) * 32 + idx

/-- Key of the nanoseconds for which the units of port k stood still in eclipses. -/
def pausedKey (k : Nat) : Nat := 2 ^ 41 + k

def State.counter (s : State) (k : Nat) : BitVec 48 := SMap.get 0 s.counters k
def State.addCounter (s : State) (k n : Nat) : State :=
  { s with counters := SMap.set 0 s.counters k (s.counter k + BitVec.ofNat 48 n) }

/-- Stalls that are owed stand in the order of their descriptors. -/
def insertStall (o : OwedStall) : List OwedStall → List OwedStall
  | [] => [o]
  | e :: t => if o.nth < e.nth then o :: e :: t else e :: insertStall o t

/-- The counters of a unit (class, key) owe a stall of `cycles` cycles under code reason + 1: they count it as its next cycles pass, each
once (17 R404; DESIGN CHOICE, log 96). -/
def State.owe (s : State) (cls unit nth code cycles : Nat) : State :=
  if cycles = 0 then s
  else
    let k := counterKey cls unit 0
    { s with owedStalls := SMap.set [] s.owedStalls k (insertStall { nth := nth, code := code, cycles := cycles } (SMap.get [] s.owedStalls k)) }

/-- A completion of the n-th descriptor that padding delays is counted, and the loom or the update engine that asked owes the delay under
reason 0xD (05 R124; 17 R418). -/
def State.pad (s : State) (p : Nat) (unit : Option (Nat × Nat)) (nth : Nat) : State :=
  if s.padded p then
    match unit with
    | some u => (s.bump 0x220008 1).owe u.1 u.2 nth 14 (Config.padCycles (s.obj 0x220008))
    | none => s.bump 0x220008 1
  else s

end Sys2Proof.Machine
end

