-- ==== Sys2Proof/Machine/Credits.lean ====
section
/-! DEFINITION. Credits and crossings (05 R133, R134; 08 R183, R185, R189 to R198; 09 R206, R207): the loops of the device, words
and requests that cross queues, bridges and the hub within one command. -/

namespace Sys2Proof.Machine

open Sys2Proof Host

/-! ### Bridges and the hub (R183, R185) -/

/-- The bridge row nearest to a row: 2, 7, 12 or 17 (R175). -/
def nearBridgeRow (r : Nat) : Nat := 5 * (r / 5) + 2

/-- The die bridge that serves a row of a quadrant (R175, R183). -/
def bridgeOf (q r : Nat) : Nat := 4 * q + r / 5

/-- Loop of a bridge's credited buffer: direction 0 towards the hub, 1 towards the quadrant (R133, R185). -/
def State.bridgeLoop (s : State) (n dir : Nat) : Nat := loopId 2 (s.partOfQuad (n / 4)) (2 * n + dir)

/-- n words of a loom cross its bridge and the bridge's queue, to the hub (`dir` 0) or from it (1): `leave` is what that does at the sender,
`arrive` at the receiver. Without their credits they stay where they are; a queue under FLUSH drops them (01 R18; R185, R189, R196;
DESIGN CHOICE, log 12: which bridge). -/
def State.viaBridge (s : State) (l : LoomId) (dir n : Nat) (arrive : State → State) (leave : State → State := id) : State :=
  let b := bridgeOf l.q l.r
  let q := 2 * b + dir
  if !s.hasCredit (s.bridgeLoop b dir) || !s.queueRoom q then s
  else
    let t := ((leave s).throughLoop (s.bridgeLoop b dir) n).passQueue q n
    if s.queueOpen q then arrive t else t

/-- The words of a loom reach the other side now. -/
def State.bridgeTakes (s : State) (l : LoomId) (dir : Nat) : Bool :=
  s.hasCredit (s.bridgeLoop (bridgeOf l.q l.r) dir) && s.queueTakes (2 * bridgeOf l.q l.r + dir)

/-- A word crosses from bridge n to bridge m: both buffers and both queues (01 R12, R13; R183, R185). -/
def State.crossHub (s : State) (n m : Nat) : State :=
  (((s.throughLoop (s.bridgeLoop n 0) 1).passQueue (2 * n) 1).throughLoop (s.bridgeLoop m 1) 1).passQueue (2 * m + 1) 1

/-- The bridges between a requester and a stack of another quadrant: the one nearest to the loom or, for an update engine, to its HBM
node south of row 19, and the one of the same index at the stack's quadrant (DESIGN CHOICE, log 12); none where the way stays in the
quadrant. -/
def bridgesTo (who : Requester) (k : Nat) : Option (Nat × Nat) :=
  match who with
  | .loom l => if k / 5 = l.q.val then none else some (bridgeOf l.q l.r, 4 * (k / 5) + l.r.val / 5)
  | .copy j => if k / 5 = j.val / 5 then none else some (4 * (j.val / 5) + 3, 4 * (k / 5) + 3)
  | _ => none

/-! ### Requests to a stack (09 R206, R207) -/

/-- Request credits that a requester may hold of a stack: 4 for a DMA engine, 32 for the update engine, 16 for the hub (R207); the engine
of another stack, whose copies travel as loom DMA traffic does (07 R164), 4 (DEDUCED, log 107). -/
def shareOf (who : Requester) : Nat := match who with | .loom _ | .copy _ => 4 | .engine => 32 | .hub => 16

/-- Who a unit is to stack k: the engine that writes to its own stack is that stack's engine. -/
def requesterAt (who : Requester) (k : Nat) : Requester :=
  match who with
  | .copy j => if j.val = k then .engine else who
  | _ => who

/-- The requester is a DMA engine. -/
def ofLoom (who : Requester) : Bool := match who with | .loom _ => true | _ => false

/-- The requester is an update engine: forward-copy writes are among its work (R208). -/
def ofEngine (who : Requester) : Bool := match who with | .engine | .copy _ => true | _ => false

/-- The requester takes its grants from those of the DMA engines. -/
def ofMesh (who : Requester) : Bool := match who with | .loom _ | .copy _ => true | _ => false

/-- The HBM node has a request credit for the requester: its share is not used up, nor what is left of the 128 for all DMA engines
(R207). -/
def Stack.grants (x : Stack) (who : Requester) : Bool :=
  decide ((x.owners.filter (· = who)).length < shareOf who)
    && (!ofMesh who || decide ((x.owners.filter ofMesh).length < 80))

/-- Queues on the way of a request to stack k and of its response (R12, R13, R18, R206). -/
def requestWay (who : Requester) (k : Nat) : List Nat × List Nat :=
  match bridgesTo who k with
  | some b => ([2 * b.1, 2 * b.2 + 1, 0x100 + 2 * k], [0x101 + 2 * k, 2 * b.2, 2 * b.1 + 1])
  | none => ([0x100 + 2 * k], [0x101 + 2 * k])

/-- Every queue on the way takes an item: none is under FLUSH, and each has a credit (R189, R196). -/
def State.wayOpen (s : State) (who : Requester) (k : Nat) : Bool :=
  ((requestWay who k).1 ++ (requestWay who k).2).all s.queueTakes

/-- The bridges on the way have their credits (R185, R189). -/
def State.bridgesReady (s : State) (who : Requester) (k : Nat) : Bool :=
  match bridgesTo who k with
  | some b => s.hasCredit (s.bridgeLoop b.1 0) && s.hasCredit (s.bridgeLoop b.2 1)
  | none => true

/-- A request and, for a read, its response cross to stack k and back within one command (R207; 01 R12, R13, R18): queues, bridges,
the request credit, and a write token. A unit's own access finds them: what waits at the controller is served before it, and frees its
credits (DEDUCED, log 107). -/
def State.crossTo (s : State) (who : Requester) (k : Nat) (write : Bool) : State :=
  let p := s.partOfStack k
  let way := requestWay who k
  let qs := if write then way.1 else way.1 ++ way.2
  let s1 := qs.foldl (fun (t : State) q => t.passQueue q 1) s
  let s2 := match bridgesTo who k with
    | some b =>
      let t := (s1.throughLoop (s1.bridgeLoop b.1 0) 1).throughLoop (s1.bridgeLoop b.2 1) 1
      if write then t else (t.throughLoop (t.bridgeLoop b.2 0) 1).throughLoop (t.bridgeLoop b.1 1) 1
    | none => s1
  let back := (s2.cloop (loopId 1 p k)).returned.toNat
  let s3 := (s2.setStack k { s2.stack k with owners := (s2.stack k).owners.drop back }).throughLoop (loopId 1 p k) 1
  if write then s3.throughLoop (loopId 7 p k) 1 else s3

/-- A packet crosses between a port's MAC and the hub (R18). -/
def State.portIn (s : State) (port n : Nat) : State := s.passQueue (0x200 + 2 * port) n
def State.portOut (s : State) (port n : Nat) : State := s.passQueue (0x201 + 2 * port) n

end Sys2Proof.Machine
end

