-- ==== Sys2Proof/Machine/Wire.lean ====
section
/-! DEFINITION. What the device puts on its links: manifest entries (12 R284 to R287), queue pairs and associations (11 R249, R254),
frames under PFC (10 R224 to R226), RoCEv2 packets (11 R248, R252), control messages and reports (12 R289). -/

namespace Sys2Proof.Machine

open Sys2Proof

/-! ### The manifest (12 R284 to R287) -/

/-- Manifest header fields (12 R284). -/
def Part.man (x : Part) (hi lo : Nat) : Nat := field (leNat (x.manifest.take 256)) hi lo
def Part.seed (x : Part) : Nat := x.man 703 576
def Part.ranks (x : Part) : Nat := x.man 63 48
def Part.services (x : Part) : Nat := x.man 79 64
def Part.paths (x : Part) : Nat := x.man 87 80
def Part.regions (x : Part) : Nat := x.man 95 88
def Part.rank (x : Part) : Nat := x.rankIdx.toNat

def Part.rankEntry (x : Part) (r : Nat) : Nat := leNat ((x.manifest.drop (256 + 96 * r)).take 96)
def Part.linkEntry (x : Part) (r l : Nat) : Nat := leNat ((x.manifest.drop (256 + 96 * x.ranks + 64 * (r * x.paths + l))).take 64)
def Part.svcEntry (x : Part) (i : Nat) : Nat :=
  leNat ((x.manifest.drop (256 + 96 * x.ranks + 64 * x.ranks * x.paths + 64 * i)).take 64)

/-- Device link of link index l of the own rank (R286). -/
def Part.linkOf (x : Part) (l : Nat) : Nat := field (x.linkEntry x.rank l) 7 0

/-! ### Queue pairs (11 R249) -/

def Part.qp (x : Part) (n : Nat) : Qp := SMap.get Qp.init x.qps n
def Part.setQp (x : Part) (n : Nat) (v : Qp) : Part := { x with qps := SMap.set Qp.init x.qps n v }
def Part.peer (x : Part) (r : Nat) : Peer := SMap.get Peer.init x.peers r
def Part.setPeer (x : Part) (r : Nat) (v : Peer) : Part := { x with peers := SMap.set Peer.init x.peers r v }

/-- Association a: 2 × local QPN to send, one more to receive (11 R254; 12 R287). -/
def Part.sa (x : Part) (a : Nat) : Sa := SMap.get Sa.init x.sas a
def Part.setSa (x : Part) (a : Nat) (v : Sa) : Part := { x with sas := SMap.set Sa.init x.sas a v }

/-! ### Eclipse and traces -/

/-- Eclipse byte of partition p: 0 running, 1 stopping, 2 scanning, 3 stopped and scanned, 4 resuming (17). -/
def State.eclipseByte (s : State) (p : Nat) : Nat := field (s.obj 0x805005) (8 * p + 7) (8 * p)

/-- Transport, ESP and tally engines of the partition stand still (17 R412). -/
def State.hubStopped (s : State) (p : Nat) : Bool := decide (s.eclipseByte p = 2) || decide (s.eclipseByte p = 3)

/-- An observation queue takes a record, a whole packet (08 R192, R197; 17 R408): a full queue loses its oldest item. -/
def State.observe (s : State) (q rec : Nat) : State :=
  let d := s.dcq q
  if d.flushing then (s.setDcq q { d with pushed := d.pushed + 1, flushed := d.flushed + 1 }).bump 0x804006 1
  else
    let t := s.setDcq q (d.push 256 { payload := rec, endp := true, poison := false, nv := false, gap := false })
    if d.items.length < 256 then t else t.bump 0x804004 1

/-- A trace record of a unit of a port (queue 0x428 + port) or a stack (0x410 + stack). -/
def State.traceUnit (s : State) (q kind uclass unit quad d0 d1 : Nat) (at_ : Option (BitVec 64) := none) : State :=
  if s.traces kind then s.observe q (s.traceBits kind uclass unit quad d0 d1 at_) else s

/-- A record of a hub unit enters the observation queue of its port: that of the link it acts on, else the partition's lowest (17 R408;
DESIGN CHOICE, log 64). -/
def State.traceHub (s : State) (link kind p d0 d1 : Nat) : State :=
  s.traceUnit (0x428 + (if link < 48 then link / 8 else (s.portsOf p).headD 0)) kind ucHub p (s.lowQuad p) d0 d1

/-- Trace records of packets on a link, sent (0x05) or accepted (0x06), by sampled PSN (17 R409): TIME is when they pass the MAC (R407). -/
def State.tracePackets (s : State) (p kind link qpn : Nat) (psns : List Nat) (again : Bool) : State :=
  psns.foldl (fun (t : State) psn =>
    if psn % 2 ^ t.live 0x801003 = 0 ∧ link < 48 then
      t.traceUnit (0x428 + link / 8) kind 5 link (t.lowQuad p) (qpn + psn * 2 ^ 24 + (if again then 2 ^ 48 else 0)) (qpn / 4)
        (if kind = 6 then t.macTime else none)
    else t) s

/-! ### Frames (10 R224 to R226) -/

/-- UP of a link (0x5040+k:04): only then do frames come and go on it. -/
def State.linkUp (s : State) (k : Nat) : Bool := decide (s.obj (0x504004 + 256 * k) = 1)

/-- VID of the own rank's link entry for device link k. -/
def Part.linkVid (x : Part) (k : Nat) : Nat :=
  match (List.range x.paths).find? (fun l => x.linkOf l == k) with
  | some l => field (x.linkEntry x.rank l) 19 8
  | none => 0

/-- VID of a queue pair's frames: that of the control channel, or of the link the job's queue pair runs on (10 R225). -/
def State.qpVid (s : State) (p qpn : Nat) : Nat :=
  if qpn = 0x4000 then s.obj (0x901002 + 256 * p) else (s.part p).linkVid ((s.part p).qp qpn).link.toNat

/-- PCP_DATA and PCP_CNP of a link's port. -/
def State.pcpData (s : State) (k : Nat) : Nat := s.obj (0x500008 + 256 * (k / 8))
def State.pcpCnp (s : State) (k : Nat) : Nat := s.obj (0x500009 + 256 * (k / 8))

/-- Packets that leave are traced as they pass the MAC (17 R407, R409). -/
def State.traceSent (s : State) (k : Nat) (f : TxFrame) : State :=
  match f.out with
  | .roce p qpn l => s.tracePackets p 5 k qpn.toNat (l.map (·.psn.toNat)) f.again
  | _ => s

/-- A frame leaves on link k: it crosses the port's queue, which drops it while it is under FLUSH (01 R18; 08 R196); the link is busy with
it (17 R404). -/
def State.depart (s : State) (k : Nat) (f : TxFrame) : State :=
  let u := s.setLink k { s.link k with busy := (s.link k).busy + Config.frameCycles f.count }
  let t := u.portOut (k / 8) f.count
  if s.queueOpen (0x201 + 2 * (k / 8)) then (t.emit f.out).traceSent k f else t

/-- A frame can leave on link k now: its priority is not paused and the port's queue has a free entry (R226; 08 R189). -/
def State.mayDepart (s : State) (k : Nat) (f : TxFrame) : Bool :=
  !(s.link k).pauses.getLsbD f.prio && s.queueRoom (0x201 + 2 * (k / 8))

/-- Put a frame on link k: it leaves, or waits behind the earlier ones of its priority. On a link that is down, or on none (0xFF),
nothing leaves. -/
def State.sendFrame (s : State) (k : Nat) (f : TxFrame) : State :=
  if 48 ≤ k || !s.linkUp k then s
  else if s.mayDepart k f && (s.link k).waiting.all (fun e => e.prio != f.prio) then s.depart k f
  else s.setLink k { s.link k with waiting := (s.link k).waiting ++ [f] }

/-- The frames that wait on a link and can leave do so in their order (R226). -/
def State.release (s : State) (k : Nat) : State :=
  (s.link k).waiting.foldl (fun (t : State) f => t.sendFrame k f) (s.setLink k { s.link k with waiting := [] })

/-- What waits on the links of the port whose queue towards the MAC has freed an entry (08 R189). -/
def State.releaseQueue (s : State) (q : Nat) : State :=
  if 0x200 ≤ q ∧ q ≤ 0x20B ∧ q % 2 = 1 then
    (List.range' (8 * ((q - 0x200) / 2)) 8).foldl (fun (t : State) k => if (t.link k).waiting = [] then t else t.release k) s
  else s

/-! ### RoCEv2 packets (11 R248, R252, R254) -/

/-- Packets of a message at a path MTU of 4,096 bytes; a message without bytes is one packet. -/
def packetsOf (len : Nat) : Nat := if len = 0 then 1 else ceilDiv len 4096

/-- BTH opcode of packet i of n of a SEND, an RDMA WRITE or an RDMA READ response, from the opcodes of its FIRST and ONLY packets
(PRESUMED, log 85: the codes are those of the RoCEv2 standard that R248 names). -/
def rcOpcode (first only n i : Nat) : Nat :=
  if n = 1 then only else if i = 0 then first else if i + 1 = n then first + 2 else first + 1

/-- The opcode of packet i of n of a message of a kind: a chunk is an RDMA WRITE, a marker and a control message a SEND. -/
def msgOpcode (kind n i : Nat) : Nat := if kind = 0 then rcOpcode 0x06 0x0A n i else rcOpcode 0x00 0x04 n i

/-- QPN of the queue pair at the other end: 4 × own rank + link index; of the job controller, JC_QPN (R249; 12 R288). -/
def State.destQpn (s : State) (p qpn : Nat) : Nat :=
  if qpn = 0x4000 then s.obj (0x901007 + 256 * p) else 4 * (s.part p).rank + qpn % 4

/-- Address of a party of the job: a rank's job address, a service's address. -/
def Part.partyAddr (x : Part) (party : Nat) : BitVec 128 :=
  if party < x.ranks then (x.peer party).addr else BitVec.ofNat 128 (x.svcEntry (party - x.ranks))

/-- Where a queue pair's packets go: the party's address, or JC_ADDR. -/
def State.destAddr (s : State) (p qpn : Nat) : BitVec 128 :=
  if qpn = 0x4000 then BitVec.ofNat 128 (s.obj (0x901006 + 256 * p)) else (s.part p).partyAddr (qpn / 4)

/-- The fields of a packet's transport headers and its payload, in order. -/
def packetBytes (opcode dest psn rkey va : Nat) (payload : Bytes) : Bytes :=
  beBytes 1 opcode ++ beBytes 3 dest ++ beBytes 3 psn ++ beBytes 8 va ++ beBytes 4 rkey ++ payload

/-- The j-th next packet under a queue pair's association. -/
def State.espOf (s : State) (p qpn j : Nat) (bytes : Bytes) : Esp :=
  let a := (s.part p).sa (2 * qpn)
  let n := a.seq + BitVec.ofNat 64 (j + 1)
  { spi := a.spi, seq := n, sealed := Config.espSeal a.key (leBytes 8 n.toNat ++ bytes) }

/-- The wire of the j-th next packet of a queue pair at a priority: ECT(0), DSCP 8 × PCP_DATA, ICRC, ESP. -/
def State.roceWire (s : State) (p qpn j pcp : Nat) (bytes : Bytes) : Wire :=
  let q := (s.part p).qp qpn
  let crc := Config.icrc bytes
  { link := q.link, vid := BitVec.ofNat 12 (s.qpVid p qpn), pcp := BitVec.ofNat 3 pcp, dst := s.destAddr p qpn
    dscp := BitVec.ofNat 6 (8 * s.pcpData q.link.toNat), ect := true, source := Config.udpSource qpn, port := 4791, icrc := some crc
    esp := some (s.espOf p qpn j (bytes ++ leBytes 4 crc.toNat)) }

/-- The j-th next packet of a queue pair. -/
def State.packet (s : State) (p qpn j opcode : Nat) (psn : BitVec 24) (rkey va : Nat) (payload : Bytes) : Packet :=
  { wire := s.roceWire p qpn j (s.pcpData ((s.part p).qp qpn).link.toNat)
      (packetBytes opcode (s.destQpn p qpn) psn.toNat rkey va payload)
    opcode := BitVec.ofNat 8 opcode, psn := psn, rkey := BitVec.ofNat 32 rkey, va := BitVec.ofNat 64 va, payload := payload }

/-- The packets of a message that are not acknowledged. -/
def State.packets (s : State) (p qpn : Nat) (m : TxMsg) : List Packet :=
  let n := packetsOf m.bytes.length
  (List.range (n - m.acked)).map (fun j =>
    let i := m.acked + j
    let first := decide (i = 0) && decide (m.kind = 0)
    s.packet p qpn j (msgOpcode m.kind n i) (m.firstPsn + BitVec.ofNat 24 i) (if first then m.rkey.toNat else 0)
      (if first then m.va.toNat else 0) ((m.bytes.drop (4096 * i)).take 4096))

/-- n packets of a queue pair leave: its association has used n more sequence numbers. -/
def State.sendOn (s : State) (p qpn : Nat) (f : TxFrame) : State :=
  let x := s.part p
  let a := x.sa (2 * qpn)
  (s.setPart p (x.setSa (2 * qpn) { a with seq := a.seq + BitVec.ofNat 64 f.count })).sendFrame (x.qp qpn).link.toNat f

/-- A chunk waits for its pacing: its link owes the cycles (17 R404; DESIGN CHOICE, log 96). -/
def State.paceWait (s : State) (p qpn : Nat) (m : TxMsg) : State :=
  let k := ((s.part p).qp qpn).link.toNat
  let v := SMap.get Pace.init (s.part p).paces (qpn / 4)
  if m.kind = 0 ∧ k < 48 then s.setLink k { s.link k with paced := (s.link k).paced + Config.paceCycles m.bytes.length v.num v.shift } else s

/-- The transport stands still: the message is sent when it runs again (17 R412). -/
def State.sendLater (s : State) (p qpn : Nat) (m : TxMsg) (again : Bool) : State :=
  s.modPart p (fun x =>
    if x.unsent.any (fun e => e.1 == qpn && e.2.1 == m) then x else { x with unsent := x.unsent ++ [(qpn, m, again)] })

/-- Send the packets of a message that are not acknowledged; those sent again are counted (11 R253). -/
def State.sendMsg (s : State) (p qpn : Nat) (m : TxMsg) (again : Bool) : State :=
  if s.hubStopped p then s.sendLater p qpn m again
  else
    let k := ((s.part p).qp qpn).link.toNat
    let l := s.packets p qpn m
    let t := (s.paceWait p qpn m).sendOn p qpn
      { prio := s.pcpData k, count := l.length, again := again, out := .roce p (BitVec.ofNat 24 qpn) l }
    if again then t.bump (0x522005 + 256 * (k / 8)) l.length else t

/-- The transport runs again: messages that it owes, and that still wait for acknowledgement, leave in their order (17 R412, R414). -/
def State.sendUnsent (s : State) (p : Nat) : State :=
  (s.part p).unsent.foldl (fun (t : State) e =>
    if ((t.part p).qp e.1).unacked.contains e.2.1 then t.sendMsg p e.1 e.2.1 e.2.2 else t) (s.modPart p (fun x => { x with unsent := [] }))

/-- Post a message of an attempt on a queue pair: it takes the next PSNs and waits for acknowledgement. -/
def State.post (s : State) (p qpn rkey va kind att : Nat) (bytes : Bytes) : State :=
  let x := s.part p
  let q := x.qp qpn
  let k := packetsOf bytes.length
  let m : TxMsg := { firstPsn := q.nextPsn, lastPsn := q.nextPsn + BitVec.ofNat 24 (k - 1), rkey := BitVec.ofNat 32 rkey
                     va := BitVec.ofNat 64 va, bytes := bytes, acked := 0, kind := kind
                     att := BitVec.ofNat 8 att }
  let l := loopId 5 p qpn
  let c := s.cloop l
  let s1 := s.setPart p (x.setQp qpn { q with nextPsn := q.nextPsn + BitVec.ofNat 24 k, unacked := q.unacked ++ [m] })
  let s2 := s1.setCloop l { c with issued := c.issued + BitVec.ofNat 32 k, inFlight := c.inFlight + BitVec.ofNat 32 k }
  s2.sendMsg p qpn m false

/-- Bytes of an ACK or a NAK's transport headers. -/
def State.ackBytes (s : State) (p qpn psn code : Nat) : Bytes := packetBytes 0x11 (s.destQpn p qpn) psn 0 0 (leBytes 1 code)

/-- Send an ACK up to a PSN. -/
def State.sendAck (s : State) (p qpn : Nat) (psn : BitVec 24) : State :=
  let k := ((s.part p).qp qpn).link.toNat
  s.sendOn p qpn { prio := s.pcpData k, count := 1, again := false
                   out := .ack p (s.roceWire p qpn 0 (s.pcpData k) (s.ackBytes p qpn psn.toNat 0)) (BitVec.ofNat 24 qpn) psn }

/-- Send a NAK: class as in the output. -/
def State.putNak (s : State) (p qpn : Nat) (psn : BitVec 24) (cls : BitVec 3) : State :=
  let k := ((s.part p).qp qpn).link.toNat
  s.sendOn p qpn { prio := s.pcpData k, count := 1, again := false
                   out := .nak p (s.roceWire p qpn 0 (s.pcpData k) (s.ackBytes p qpn psn.toNat (0x60 + cls.toNat))) (BitVec.ofNat 24 qpn) psn
                     cls }

/-- Send a CNP to the queue pair at the other end, at priority PCP_CNP (R252). -/
def State.sendCnp (s : State) (p qpn : Nat) : State :=
  let k := ((s.part p).qp qpn).link.toNat
  s.sendOn p qpn { prio := s.pcpCnp k, count := 1, again := false
                   out := .cnp p (s.roceWire p qpn 0 (s.pcpCnp k) (packetBytes 0x81 (s.destQpn p qpn) 0 0 0 [])) (BitVec.ofNat 24 qpn) }

/-- Packets of an RDMA READ response to a request with a PSN. -/
def State.readPackets (s : State) (p qpn : Nat) (psn : BitVec 24) (b : Bytes) : List Packet :=
  let n := packetsOf b.length
  (List.range n).map (fun i =>
    s.packet p qpn i (rcOpcode 0x0D 0x10 n i) (psn + BitVec.ofNat 24 i) 0 0 ((b.drop (4096 * i)).take 4096))

def State.sendRead (s : State) (p qpn : Nat) (psn : BitVec 24) (b : Bytes) : State :=
  s.sendOn p qpn { prio := s.pcpData ((s.part p).qp qpn).link.toNat, count := packetsOf b.length, again := false
                   out := .roce p (BitVec.ofNat 24 qpn) (s.readPackets p qpn psn b) }

/-! ### Key exchange and control channel (12 R288; 13 R317, R318) -/

/-- JOB field: the first 4 bytes of the manifest digest (12 R284). -/
def State.jobField (s : State) (p : Nat) : Nat := beNat ((s.part p).digest.take 4)

def State.chanState (s : State) (n : Nat) : Nat := s.obj (0x901009 + 256 * n)

def State.ready (s : State) : Bool := decide (s.obj 0x210001 = 2)

/-- Fragments of a key-exchange datagram of n bytes: 1,224 of its bytes each, which with the headers of UDP, fragmentation and IP stay
within 1,280. -/
def keyxFrames (n : Nat) : Nat := ceilDiv n 1224

/-- The 32-byte header of a datagram. -/
def State.keyxHeader (s : State) (p type channel sender target reason len : Nat) : BitVec 256 :=
  BitVec.ofNat 256 (type * 2 ^ 248 + channel * 2 ^ 240 + sender * 2 ^ 224 + target * 2 ^ 208
    + (if channel = 1 then s.jobField p * 2 ^ 176 else 0) + reason * 2 ^ 160 + len * 2 ^ 128)

/-- Send a datagram on link k to an address: UDP source and destination port 5121, no ESP, PCP_DATA, in fragments. -/
def State.sendKeyx (s : State) (p k vid target : Nat) (dst : BitVec 128) (header : BitVec 256) (body : Bytes) : State :=
  let b := beBytes 32 header.toNat ++ body
  let n := keyxFrames b.length
  let w : Wire :=
    { link := BitVec.ofNat 8 k, vid := BitVec.ofNat 12 vid, pcp := BitVec.ofNat 3 (s.pcpData k), dst := dst, dscp := 0, ect := false
      source := 5121, port := 5121, icrc := none, esp := none }
  s.sendFrame k { prio := s.pcpData k, count := n, again := false
                  out := .keyx p (BitVec.ofNat 16 target) w ((List.range n).map (fun i => (b.drop (1224 * i)).take 1224)) }

/-- Send on the control channel, to the job controller. -/
def State.sendControl (s : State) (p type reason : Nat) (body : Bytes) : State :=
  s.sendKeyx p (s.obj (0x901001 + 256 * p)) (s.obj (0x901002 + 256 * p)) 0xFFFF (BitVec.ofNat 128 (s.obj (0x901006 + 256 * p)))
    (s.keyxHeader p type 0 (0xFF00 + p) 0xFFFF reason body.length) body

/-- CALL of a channel. -/
def State.sendCall (s : State) (n : Nat) : State := (s.sendControl n 1 0 []).modPart n (fun x => { x with lastCall := s.ns })

/-- A STARTING channel of a READY device calls. -/
def State.calls (s : State) (n : Nat) : Bool := s.fwUp && s.ready && decide (s.chanState n = 1) && decide (n < s.partCount)

/-- The control queue pair, local QPN 0x4000, with PSN 0 in both directions, on the channel's link; the first CALL leaves at once in a
device that is READY. -/
def State.newControlQp (s : State) (n : Nat) : State :=
  let link := BitVec.ofNat 8 (s.obj (0x901001 + 256 * n))
  let t := (s.modPart n (fun x => { x.setQp 0x4000 { Qp.init with live := true, link := link } with lastCall := 0 })).newLoop (loopId 5 n 0x4000)
  if t.calls n then t.sendCall n else t

/-! ### Frames received (10 R224, R225) -/

/-- A frame dropped under R7 (10 R225). -/
def State.rxDrop (s : State) (k : Nat) : State := s.bump (0x504008 + 256 * k) 1

/-- VIDs of a link: of the job's link entries, and of a control channel on it. -/
def State.linkVids (s : State) (k : Nat) : List Nat :=
  let p := s.portOwner (k / 8)
  let x := s.part p
  (if s.jobLoaded p then ((List.range x.paths).filter (fun l => x.linkOf l == k)).map (fun l => field (x.linkEntry x.rank l) 19 8)
    else [])
    ++ (if s.obj (0x901009 + 256 * p) ≠ 0 ∧ s.obj (0x901001 + 256 * p) = k then [s.obj (0x901002 + 256 * p) % 4096] else [])

/-- A frame that is dropped and counted: longer than 9,216 bytes, or of a VID other than its link's (10 R224, R225). Where no VID is known for
the link, any is taken (DESIGN CHOICE, log 133). -/
def State.frameBad (s : State) (f : Frame) : Bool :=
  let v := s.linkVids f.k.val
  decide (9216 < f.len.toNat) || (v != [] && !v.contains f.vid.toNat)

/-- n frames arrive on a link that is up and cross the port's queue to the hub (01 R18); `true` when they get there: frames that find
the queue under FLUSH, or without a free entry, are lost (08 R189, R196; DESIGN CHOICE, log 109). -/
def State.rxFrame (s : State) (f : Frame) (n : Nat) : State × Bool :=
  let port := f.k.val / 8
  if !s.linkUp f.k then (s, false)
  else if s.frameBad f then (s.rxDrop f.k.val, false)
  else if !s.queueRoom (0x200 + 2 * port) then (s, false)
  else (s.portIn port n, s.queueOpen (0x200 + 2 * port))

/-! ### Control messages of a job (12 R289, R296) -/

/-- Control header of a response or report (12 R289). -/
def State.ctlHeader (s : State) (p op status seq len : Nat) : BitVec 256 :=
  BitVec.ofNat 256 (op * 2 ^ 248 + status * 2 ^ 240 + seq * 2 ^ 208 + len * 2 ^ 176 + s.jobField p * 2 ^ 144
    + s.obj (0x907005 + 256 * p) % 2 ^ 48 * 2 ^ 96 + s.jobState p * 2 ^ 88)

/-- Firmware sends a control message on the control queue pair of a channel that is ON: it crosses steward 0's queue to the hub (12 R288; 01
R18). -/
def State.postControl (s : State) (p : Nat) (header : BitVec 256) (body : Bytes) : State :=
  if ((s.part p).qp 0x4000).live && decide (s.chanState p = 2) then
    s.across [fromSteward 0] (fun t => t.post p 0x4000 0 0 2 (t.attempt p) (beBytes 32 header.toNat ++ body))
  else s

/-- A report: STATUS zero, SEQ the device's report count. -/
def State.report (s : State) (p : Nat) (body : Bytes) : State :=
  let n := (s.part p).reportNo
  (s.postControl p (s.ctlHeader p 0xC0 0 n.toNat body.length) body).modPart p (fun x => { x with reportNo := n + 1 })

end Sys2Proof.Machine
end

