-- ==== Sys2Proof/Machine/Places.lean ====
section
/-! DEFINITION. Where the bytes of a job lie: the manifest's region table (12 R284, R291), placement (09 R201, R202), bytes of a region;
windows, their ledgers (11 R255 to R257) and the contribution loops made from them (05 R133; 11 R274). -/

namespace Sys2Proof

/-- n bytes from address a. -/
def getBytes (m : List Host.Cell) (a n : Nat) : Bytes := (List.range n).map (fun i => SMap.get 0 m (a + i))

end Sys2Proof

namespace Sys2Proof.Machine

open Sys2Proof Host

/-- The key of a byte of stack k in the HBM store: 2^36 bytes each (09 R201). -/
def hbmKey (k off : Nat) : Nat := k * 2 ^ 36 + off

/-! ### The region table -/

/-- Byte offset of region entry i in the manifest body. -/
def Part.regionAt (x : Part) (i : Nat) : Nat := 256 + 96 * x.ranks + 64 * x.ranks * x.paths + 64 * x.services + 64 * i

/-- The 64-byte region entry i as a number. -/
def Part.regionEntry (x : Part) (i : Nat) : Nat := leNat ((x.manifest.drop (x.regionAt i)).take 64)

/-- Region i exists in the manifest. -/
def Part.hasRegion (x : Part) (i : Nat) : Bool := decide (i < x.regions)

def Part.regionKind (x : Part) (i : Nat) : Nat := field (x.regionEntry i) 3 0

/-- Regions of a kind, ascending. -/
def Part.regionsOf (x : Part) (kind : Nat) : List Nat := (List.range x.regions).filter (fun i => x.regionKind i == kind)

/-- The one region of a singleton kind. -/
def Part.theRegion (x : Part) (kind : Nat) : Nat := (x.regionsOf kind).headD 0

/-- Stacks of the span of an entry, ascending: those of one of the partition's quadrants, or all of the partition's. LOAD refuses an entry
that names another quadrant (12 R291), so that no partition reaches another's stacks (01 R23). -/
def State.spanStacks (s : State) (p e : Nat) : List Nat :=
  if field e 7 4 ≠ 15 ∧ s.partOfQuad (field e 7 4) = p then (List.range 5).map (fun j => 5 * field e 7 4 + j) else s.stacksOf p

/-- Pseudo-channels of the span: 64 per stack. -/
def State.spanChans (s : State) (p e : Nat) : Nat := 64 * (s.spanStacks p e).length

/-- Length of region i in bytes: BANDS × C × 256. -/
def State.regionLen (s : State) (p i : Nat) : Nat :=
  let e := (s.part p).regionEntry i
  field e 86 64 * s.spanChans p e * 256

/-- Number of a granule's first word in its stack: pseudo-channel, slot, four words a granule. -/
def placeWord (x : Place) : Nat := ((2 * x.chan + x.pc) * 2 ^ 22 + x.slot) * 4

/-- The 64-byte word that holds byte `off` of region i: stack and word number (R202). -/
def State.regionWord (s : State) (p i off : Nat) : Nat × Nat :=
  let e := (s.part p).regionEntry i
  let pl := place (off / 256) (s.spanChans p e) (s.spanStacks p e) (field e 54 32) (field e 15 8) (s.part p).ikey.toNat
  (pl.stack, placeWord pl + off % 256 / 64)

/-! ### Bytes of a region -/

/-- Pieces of a byte range by 64-byte word: offset, length. -/
def pieces : Nat → Nat → Nat → List (Nat × Nat)
  | 0, _, _ => []
  | f + 1, off, n =>
    if n = 0 then []
    else
      let k := Nat.min n (64 - off % 64)
      (off, k) :: pieces f (off + k) (n - k)

def piecesOf (off n : Nat) : List (Nat × Nat) := pieces (n / 64 + 2) off n

/-- Bytes of a region. -/
def State.readRegion (s : State) (p i off n : Nat) : Bytes :=
  ((piecesOf off n).map (fun c =>
    let w := s.regionWord p i c.1
    getBytes s.hbm (hbmKey w.1 (64 * w.2 + c.1 % 64)) c.2)).flatten

/-- The number a region's bytes spell, little-endian. -/
def State.readNat (s : State) (p i off n : Nat) : Nat := leNat (s.readRegion p i off n)

/-! ### Input rings (12 R297) -/

/-- Every ring's entry for step n is filled (R297). -/
def Part.ringsFull (x : Part) (n : Nat) : Bool :=
  (x.regionsOf 4).all (fun r =>
    let entries := field (x.regionEntry r) 223 192
    decide (0 < entries) && decide ((SMap.get 0 x.ringFull (r * 65536 + n % entries)).toNat = n))

/-! ### Windows of the own rank (11 R255, R256) -/

/-- Windows this rank holds. -/
def Part.ownWindows (x : Part) : List WindowEnt :=
  match x.image with
  | some i => i.windows.filter (fun w => w.rank.toNat == x.rank)
  | none => []

/-- Parameters per chunk (R256). -/
def winChunkElems (w : WindowEnt) : Nat := if w.etype = 0 then 960 else 15360

/-- Data chunks C of a window (R256). -/
def winChunks (w : WindowEnt) : Nat := ceilDiv w.count.toNat (winChunkElems w)

/-! ### Ledger entries (R257) -/

structure Ledger where
  step    : Nat
  attempt : Nat
  x       : Nat
  count   : Nat
  valid   : Bool
  tokens  : Nat
  nonfin  : Nat
  max     : Nat
  deriving DecidableEq, Repr

def ledgerBits (l : Ledger) : Nat :=
  l.step % 2 ^ 48 + l.attempt % 256 * 2 ^ 48 + l.x % 256 * 2 ^ 56 + l.count % 2 ^ 16 * 2 ^ 64 + (if l.valid then 2 ^ 80 else 0)
    + l.tokens % 2 ^ 64 * 2 ^ 96 + l.nonfin % 2 ^ 40 * 2 ^ 160 + l.max % 2 ^ 32 * 2 ^ 200

def ledgerOf (b : Nat) : Ledger :=
  { step := field b 47 0, attempt := field b 55 48, x := field b 63 56, count := field b 79 64, valid := b.testBit 80
    tokens := field b 159 96, nonfin := field b 199 160, max := field b 231 200 }

/-- Ledger entry c of a window; entry C is the close entry. -/
def State.ledger (s : State) (p : Nat) (w : WindowEnt) (c : Nat) : Ledger := ledgerOf (s.readNat p w.ledger.toNat (32 * c) 32)

/-! ### Contributions (05 R133; R256, R274) -/

/-- The entry's contents belong to an attempt of the step in progress. -/
def State.ledgerOfAttempt (s : State) (p att : Nat) (l : Ledger) : Bool :=
  l.valid && decide (l.step = s.stepNo p) && decide (l.attempt = att)

/-- Contributions of an attempt of the step in progress that the ledger of a window holds. -/
def State.arrived (s : State) (p att : Nat) (w : WindowEnt) : Nat :=
  (List.range (winChunks w + 1)).foldl (fun a c =>
    let l := s.ledger p w c
    if s.ledgerOfAttempt p att l then a + l.count else a) 0

/-- The class-0x06 loops of an attempt: N contributions for each chunk and the close of every OWNER and RELAY window; those
that have come already are in flight. -/
def State.openContributions (s : State) (p att : Nat) : State :=
  ((s.part p).ownWindows.filter (fun w => w.role.toNat != 2)).foldl (fun (t : State) w =>
    let n := w.n.toNat * (winChunks w + 1)
    let a := s.arrived p att w
    t.setCloop (loopId 6 p w.window.toNat)
      { CLoop.init with issued := BitVec.ofNat 32 n, held := BitVec.ofNat 32 n - BitVec.ofNat 32 a, inFlight := BitVec.ofNat 32 a }) s

end Sys2Proof.Machine
end

