-- ==== Sys2Proof/Machine/Containment.lean ====
section
/-! DEFINITION. Containment of faults: markers, ABORT (11 R273, R274, R276), the actions of
R278, the halt of a job (12 R296), partition reset (01 R26), device fault (16 R395). -/

namespace Sys2Proof.Machine

open Sys2Proof

/-! ### Markers (11 R270) -/

/-- The 64-byte marker payload as a number whose bit 511 is first on the wire. -/
def State.markerBits (s : State) (p kind cause nonfin : Nat) : Nat :=
  kind * 2 ^ 504 + s.attempt p % 256 * 2 ^ 496 + s.stepNo p % 2 ^ 48 * 2 ^ 448 + s.jobField p * 2 ^ 416
    + (s.part p).rank * 2 ^ 400 + cause % 256 * 2 ^ 392 + nonfin % 2 ^ 40 * 2 ^ 352

/-- The other ranks of the job. -/
def State.otherRanks (s : State) (p : Nat) : List Nat :=
  (List.range (s.part p).ranks).filter (fun r => r != (s.part p).rank)

/-- Send a marker on QP l = 0 to every other rank that has not fallen silent (11 R270, R278). -/
def State.sendMarker (s : State) (p kind cause nonfin : Nat) : State :=
  let b := beBytes 64 (s.markerBits p kind cause nonfin)
  ((s.otherRanks p).filter (fun r => decide (((s.part p).peer r).state ≠ 6))).foldl (fun t r =>
    (t.post p (4 * r) 0 0 1 (s.attempt p) b).traceHub ((s.part p).qp (4 * r)).link.toNat 8 p (kind + r * 2 ^ 16) (s.stepNo p)) s

/-! ### The halt of a job (12 R296) -/

/-- A roll call in progress ends with the job that it was for (10 R242; DESIGN CHOICE, log 86: it shows failed). -/
def State.endRoll (s : State) (p : Nat) : State :=
  if s.obj (0x515002 + 256 * p) = 1 then s.setObj (0x515002 + 256 * p) 3 else s

/-- Time for which descriptor 0 of an attempt whose row is filled has waited for rings (12 R297). -/
def State.ringWait (s : State) (p : Nat) : Nat :=
  let x := s.part p
  if x.filled && !x.inStep && decide (s.exState p ≠ 0) then
    (if x.ringsFull (s.stepNo p) then x.ringWaitNs.toNat else s.ns.toNat) - x.filledNs.toNat
  else 0

/-- The wait of an attempt for its rings ends, whatever ends it: it enters INPUT_WAIT_NS. -/
def State.endWait (s : State) (p : Nat) : State := s.bump (0x90700A + 256 * p) (s.ringWait p)

/-- Enter HALTED with a cause: report and record (12 R296). The looms of the partition stop; a wait for rings ends. -/
def State.haltJob (s : State) (p cause detail : Nat) : State :=
  let s1 := ((s.endWait p).endRoll p).setObj (0x907001 + 256 * p) 7
  let s2 := s1.setObj (0x907008 + 256 * p) cause
  let s3 := s2.setExState p 0
  let s4 := s3.modPart p (fun x => { x with
    inStep := false, cutStep := x.cutStep || decide (s.exState p ≠ 0), due := [], window := false })
  let s5 := s4.raisePart 0x0601 3 ucPart p p 0 (cause + detail % 2 ^ 16 * 2 ^ 8)
  s5.report p (leBytes 1 cause ++ leBytes 2 detail)

/-- Record a halt that takes place at the step boundary. -/
def State.haltAtBoundary (s : State) (p cause detail : Nat) : State :=
  s.modPart p (fun x => { x with due := x.due ++ [.halt (BitVec.ofNat 8 cause) (BitVec.ofNat 16 detail)] })

/-! ### Looms of a partition -/

/-- Apply to every loom the state lists in the quadrants of a partition; those that take no part in the job stay as they are (00 R2). -/
def State.modLooms (s : State) (p : Nat) (f : Loom → Loom) : State :=
  (SMap.keys s.looms).foldl (fun t k =>
    if s.partOfQuad (k / 500) = p ∧ s.loomUsed k = true then
      { t with looms := SMap.set Loom.init t.looms k (f (SMap.get Loom.init t.looms k)) } else t) s

/-- The loom stops issuing and drops what the attempt left in its units (11 R274, 03 R59). The verdicts owed on blocks that have left are
still given, each with a record of its own (16 R402). -/
def Loom.stopAttempt (x : Loom) : Loom :=
  { x with seq := .stopped, loops := [], arrayQ := [], vectorQ := [], dmaQ := [], chainQ := [], stores := [], plane := .empty
           idlePlane := .empty, block := none, preloaded := none, active := .empty, shadow := .empty, role := none
           slotMissed := false, rxBuf := [], firstWord := none, swapDue := none, merged := false, eph := [] }

/-! ### ABORT (11 R274, R276; 04 R431) -/

/-- What an attempt leaves behind is discarded: looms stop, send entries stop, class-0x06 loops and fingerprints go; the loops of the next
attempt are initialised, with what came for it early in flight (R262, R274). A wait for rings ends with it (12 R297). -/
def State.dropAttempt (s : State) (p : Nat) : State :=
  let s1 := (s.endWait p).modLooms p Loom.stopAttempt
  let s2 : State := { s1 with cloops := SMap.drop (fun l => l / 2 ^ 24 == 6 && l / 2 ^ 22 % 4 == p) s1.cloops }
  (s2.openContributions p (s.attempt p + 1)).modPart p (fun x =>
    { x with inStep := false, filled := false, copied := false, rowFinal := false, committed := false
             skipStep := false, opened := [], reports := []
             started := [], closed := [], windowsDone := [], donesIn := []
             fpParts := [], aborted := true, waitNs := s.ns })

/-- Handle ABORT(s, a) with its cause from a rank; `own` says that this device sent it. -/
def State.handleAbort (s : State) (p cause sender : Nat) (own : Bool) : State :=
  let b := 256 * p
  let s1 := ((s.bump (0x521004 + b) 1).setObj (0x521005 + b) cause).setObj (0x521006 + b) sender
  let s2 := s1.raisePart 0x0504 2 ucPart p p 2 (cause + sender % 2 ^ 16 * 2 ^ 8)
  let tag := (s2.part p).chargeTag.toNat
  let s3 := s2.dropAttempt p
  if cause = 8 then s3.haltJob p 0x0C (if own then tag else sender)
  else if s.attempt p + 1 ≥ (s.part p).man 111 104 then s3.haltJob p 0x05 cause
  else (s3.setObj (0x521002 + b) (s.attempt p + 1)).setExState p 4

/-- Send ABORT(s, a) with its cause and handle it (11 R273). -/
def State.abortStep (s : State) (p cause : Nat) : State :=
  (s.sendMarker p 2 cause 0).handleAbort p cause (s.part p).rank true

/-- COMMIT of the attempt in progress is not sent: the step computes, or the attempt after an ABORT has not begun (R273). -/
def State.uncommitted (s : State) (p : Nat) : Bool := decide (s.exState p = 1) || decide (s.exState p = 4)

/-- A job that holds or runs, which a fault can halt. -/
def State.jobLive (s : State) (p : Nat) : Bool := decide (s.jobState p ≠ 0) && decide (s.jobState p ≠ 7)

/-- A fault is charged to the step in progress and the job goes on: ABORT while COMMIT is not sent; otherwise as R278 states. -/
def State.chargeFault (s : State) (p cause : Nat) : State :=
  if s.uncommitted p then s.abortStep p cause
  else if s.exState p = 2 then s.haltJob p 0x0D cause
  else if s.exState p = 3 then s.haltAtBoundary p 0x0D cause
  else if s.jobState p = 5 ∨ s.jobState p = 6 then s.haltJob p 0x0D cause
  else s

/-- A fault that halts the job whatever the state: own COMMIT not sent: ABORT, then halt; sent, not committed: halt at
once; committed: at the boundary; no step in progress: at once (11 R278). Where the ABORT is the last allowed attempt, the halt it
makes stands with its cause 0x05 (DESIGN CHOICE, log 67). -/
def State.faultAndHalt (s : State) (p cause hc hd : Nat) : State :=
  if s.uncommitted p then
    let t := s.abortStep p cause
    if t.jobState p = 7 then t else t.haltJob p hc hd
  else if s.exState p = 3 then s.haltAtBoundary p hc hd
  else if s.jobLive p then s.haltJob p hc hd
  else s

/-- A slip, or another fault that is recorded only when no uncommitted step is in progress (08 R188); between an abort and the attempt after
it there is none, and the abort stays the only one (16 R402). -/
def State.chargeUncommitted (s : State) (p cause : Nat) : State :=
  if decide (s.exState p = 1) || decide (s.exState p = 2) then s.chargeFault p cause else s

/-- Conservation violation of a loop (05 R137). -/
def State.violate (s : State) (p loop : Nat) : State :=
  let c := s.cloop loop
  let s1 := ((s.bump 0x704003 1).setObj 0x704004 loop).setObj 0x704005 (s.stepNo p)
  let s2 := s1.setObj 0x704006 (c.issued.toNat + c.held.toNat * 2 ^ 32 + c.inFlight.toNat * 2 ^ 64 + c.returned.toNat * 2 ^ 96)
  let s3 := s2.raisePart 0x0404 3 ucHub 0 p 0 (loop + c.held.toNat * 2 ^ 32 + c.inFlight.toNat * 2 ^ 64 + c.returned.toNat * 2 ^ 96)
  let s4 := s3.modPart p (fun x => { x with violated := true })
  s4.faultAndHalt p 3 0x03 (loop % 2 ^ 16)

/-- Poison consumed by a unit of a quadrant, or of the hub (none): recorded; the job that it halts is counted once (09 R212). -/
def State.consumePoison (s : State) (p : Nat) (quad : Option Nat) (uclass unit op stack granule : Nat) : State :=
  let s1 := s.raise { code := 0x0305, sev := 3, uclass := uclass, unit := unit, part := p, op := op
                      detail := stack % 32 + granule % 2 ^ 32 * 2 ^ 8, quad := quad }
  if (s1.part p).poisoned || !s1.jobLive p then s1
  else
    let s2 := (s1.bump 0x400007 1).modPart p (fun x => { x with poisoned := true })
    s2.faultAndHalt p 4 0x04 stack

/-! ### Memory of the stacks -/



/-- Bytes and poison marks of the stacks that satisfy `p` return to zero (09 R214). -/
def State.clearHbm (s : State) (p : Nat → Bool) : State :=
  { s with hbm := SMap.drop (fun a => p (a / 2 ^ 36)) s.hbm, hbmPoison := SMap.drop (fun w => p (w / 2 ^ 30)) s.hbmPoison }

/-! ### The loops of a partition (05 R134) -/

/-- The loops of partition p, ascending: of its stacks, its bridges in both directions, its ports, its queue pairs, the windows of the
step, and its credited queues. -/
def State.loopsOf (s : State) (p : Nat) : List Nat :=
  let qps := (SMap.keys (s.part p).qps).filter (fun n => ((s.part p).qp n).live)
  let windows := (SMap.keys s.cloops).filter (fun l => decide (l / 2 ^ 24 = 6) && decide (l / 2 ^ 22 % 4 = p))
  (s.stacksOf p).map (loopId 1 p) ++ ((s.quadsOf p).map (fun q => (List.range 8).map (fun i => loopId 2 p (8 * q + i)))).flatten
    ++ (s.portsOf p).map (loopId 3 p) ++ (s.portsOf p).map (loopId 4 p) ++ qps.map (loopId 5 p) ++ windows
    ++ (s.stacksOf p).map (loopId 7 p)
    ++ (queueNumbers.filter (fun q => !queueObserves q && decide (s.queueHome q = p))).map (loopId 8 p)

/-- Empty a queue under FLUSH: every item held is counted, both pointers become equal (08 R196). -/
def Dcq.flushed_ (d : Dcq) : Dcq :=
  { d with items := [], flushed := d.flushed + d.items.length, rptr := d.wptr, gapOwed := false, unseen := 0, unfreed := 0, ghosts := 0
           cut := d.cut || d.inPacket || (match d.items.getLast? with | some i => !i.endp | none => false) }

/-- Flush every queue of a partition and count the items. -/
def State.flushQueues (s : State) (p : Nat) : State :=
  (SMap.keys s.dcqs).foldl (fun t q =>
    if s.queuePart q = some p then
      (t.setDcq q (t.dcq q).flushed_).bump 0x804006 (t.dcq q).items.length
    else t) s

/-! ### Refresh of a stack (09 R215, R220) -/

/-- A stack's refresh mode: a change raises an event with the stack, its temperature and the new state (R215). -/
def State.setRefresh (s : State) (k mode : Nat) : State :=
  let b := 0x401000 + 256 * k
  if s.obj (b + 3) = mode then s
  else (s.setObj (b + 3) mode).raiseTemp (k / 5) 0x0307 0 ucHbm k (mode + s.obj (b + 4) * 2 ^ 4) (BitVec.ofNat 16 (s.obj (b + 1)))

/-- The controller enters self-refresh and stops serving requests (R220). -/
def State.enterSelfRefresh (s : State) (k : Nat) : State :=
  let x := s.stack k
  if x.selfRefresh then s
  else (s.setStack k { x with selfRefresh := true, refreshWas := s.obj (0x401003 + 256 * k) }).setRefresh k 2

/-- It leaves self-refresh and goes back to the refresh rate it had. -/
def State.leaveSelfRefresh (s : State) (k : Nat) : State :=
  let x := s.stack k
  if x.selfRefresh then (s.setStack k { x with selfRefresh := false }).setRefresh k x.refreshWas else s

/-! ### Partition reset (01 R26) -/

/-- Objects that a partition reset returns to their defaults, no others (14 R344): the exchange counts (11), the LOAD counters of its
quadrants (08 R199) and engines (07), what reads 0 when no job is loaded (05 R124; 06), the job state, and the state of a checkpoint that is
lost (12 R304). The eclipse byte and the seal are dealt with apart. -/
def resetClears (p : Nat) (quads stks : List Nat) (ref : Nat) : Bool :=
  let i := ref / 256
  i == 0x5210 + p || ref == 0x904001 + 256 * p || ref == 0x907001 + 256 * p || ref == 0x907007 + 256 * p || ref == 0x220004 + p
    || quads.any (fun q => i == 0x30F0 + 0x100 * q && decide (3 ≤ ref % 256))
    || stks.any (fun k => i == 0x4060 + k)

/-- Objects that LOAD returns to their defaults: those, and the roll call's, ephemeris', chain's and job's status of the job before, but
for the count of refused messages (06; 10; 12). -/
def loadClears (p : Nat) (quads stks : List Nat) (ref : Nat) : Bool :=
  let i := ref / 256
  resetClears p quads stks ref || i == 0x5150 + p || i == 0x9040 + p || i == 0x9030 + p || (i == 0x9070 + p && ref % 256 != 0x0C)

/-- The hub units of a partition that stand still in an eclipse run again: the nanoseconds of the stop were no cycles of theirs
(17 R404). -/
def State.endStop (s : State) (p : Nat) : State :=
  if s.hubStopped p then
    (s.portsOf p).foldl (fun (t : State) k => t.addCounter (pausedKey k) (s.ns.toNat - (s.part p).stopNs.toNat)) s
  else s

/-- Reset a partition: job, looms, update engines, fabric, queues and transport are cleared, its stacks are zero-filled,
its port links stay trained, its interleave key stays; a roll call ends with its job (log 86); the seal has no reference (14 R353). -/
def State.resetPart (s : State) (p : Nat) : State :=
  let quads := s.quadsOf p
  let stks := s.stacksOf p
  let s0 := stks.foldl State.leaveSelfRefresh ((s.endStop p).endRoll p)
  let s1 := s0.clearObjs (resetClears p quads stks)
  let s2 : State := { s1 with
    looms := SMap.drop (fun k => quads.contains (k / 500)) s1.looms
    quads := SMap.drop (fun q => quads.contains q) s1.quads
    cloops := SMap.drop (fun l => l / 2 ^ 22 % 4 == p) s1.cloops
    bridgeBufs := SMap.drop (fun n => quads.contains (n / 4)) s1.bridgeBufs
    bridgeAir := SMap.drop (fun n => quads.contains (n / 4)) s1.bridgeAir
    owedStalls := SMap.drop (fun k =>
      let cls := k / 32 / 2 ^ 16
      let unit := k / 32 % 2 ^ 16
      (cls == ucLoom && quads.contains (unit / 500)) || (cls == ucEngine && stks.contains unit)) s1.owedStalls
    stalls := SMap.drop (fun k => quads.contains (k / 500)) s1.stalls
    held := s1.held.filter (fun h => h.part.val != p)
    sec := { s1.sec with runs := s1.sec.runs.filter (fun e => e.1.val != p), queue := s1.sec.queue.filter (fun e =>
      match e.1 with
      | .report _ => true
      | .chanCard n => n.val != p
      | .peerCard n => n.val != p
      | .runRecord n _ => n.val != p) }
    tests := s1.tests.map (fun (t : FTest) => if t.part.val = p then { t with running := false } else t) }
  let s3 := s2.flushQueues p
  let s4 := s3.clearHbm (fun k => stks.contains k)
  let s5 : State := stks.foldl (fun (t : State) k =>
    let x := t.stack k
    let t1 := t.setStack k { x with
      zeroFilling := !x.failed && !x.training, writeBacks := [], waiting := [], asking := [], lastGrant := 0, owners := [], hubTurn := false, refreshDue := false
      cmdsDone := [] }
    if t1.obj (0x40100F + 256 * k) = 0 then t1.setObj (0x40100F + 256 * k) 3 else t1) s4
  let s6 := s5.setPart p { Part.init with
    ikey := (s.part p).ikey, reportNo := (s.part p).reportNo, cardTimes := (s.part p).cardTimes }
  let s7 := s6.setObj 0x805005 (s6.obj 0x805005 - field (s6.obj 0x805005) (8 * p + 7) (8 * p) * 2 ^ (8 * p))
  let s8 := { s7.setObj 0x121003 0 with sealArmed := false }
  -- a channel that was ON starts again (12 R288, 13 R331)
  if s8.obj (0x901009 + 256 * p) == 2 then s8.setObj (0x901009 + 256 * p) 1 else s8

/-- Reset every partition of the layout in force. -/
def State.resetAll (s : State) : State := (List.range s.partCount).foldl State.resetPart s

/-- Enter FAILED (15 R377). -/
def State.enterFailed (s : State) (failStep : Nat) : State :=
  ((s.setObj 0x210001 3).setObj 0x210008 failStep).raiseDevice 0x0704 4 ucHub 0 failStep

/-- A device fault: FAILED with 0x09 when the record or the identity no longer verifies, record, every partition reset, firmware restarts
(16 R390, R395). -/
def State.deviceFault (s : State) (uclass unit : Nat) (stillVerifies : Bool) : State :=
  let s1 := (if stillVerifies then s else s.enterFailed 9).raiseDevice 0x0705 4 uclass unit unit
  { s1.resetAll with stewards := [] }

/-- Uncontained memory fault of a stack (09 R213). -/
def State.uncontained (s : State) (k fault : Nat) : State :=
  let p := s.partOfStack k
  let s1 := s.raiseQuad (k / 5) 0x0306 3 ucHbm k 0 (k + fault * 2 ^ 8)
  (s1.bump 0x400008 1).resetPart p

end Sys2Proof.Machine
end

