-- ==== Sys2Proof/Machine/Controller.lean ====
section
/-! DEFINITION. The words of a stack and its controller (09 R206 to R213, R217, R220): bytes and poison marks, the check of a word,
requests that wait and the order in which they are served. -/

namespace Sys2Proof

/-- Write bytes from address a. -/
def putBytes (m : List Host.Cell) (a : Nat) (b : Bytes) : List Host.Cell :=
  match b with
  | [] => m
  | x :: t => putBytes (SMap.set 0 m a x) (a + 1) t

end Sys2Proof

namespace Sys2Proof.Machine

open Sys2Proof Host

/-! ### Words -/

/-- Key of a word's poison mark. -/
def wordKey (k w : Nat) : Nat := k * 2 ^ 30 + w

def State.poisoned (s : State) (k w : Nat) : Bool := SMap.get false s.hbmPoison (wordKey k w)

/-- Count bytes moved by a controller, in total and by pseudo-channel (R217). -/
def State.moved (s : State) (k w n : Nat) : State :=
  let x := s.stack k
  let c := w / 2 ^ 24
  s.setStack k { x with bytesNow := x.bytesNow + n, pcBytes := SMap.set 0 x.pcBytes c (SMap.get 0 x.pcBytes c + n) }

/-- A stack is zero-filled: the bytes of its 64 pseudo-channels are written (R214, R217; DESIGN CHOICE, log 124: they count where the fill ends). -/
def Stack.filled (x : Stack) : Stack :=
  { x with
    zeroFilling := false, bytesNow := x.bytesNow + 2 ^ 36
    pcBytes := (List.range 64).foldl (fun m c => SMap.set 0 m c (SMap.get 0 m c + 2 ^ 30)) x.pcBytes }

/-- Write bytes at byte `o` of a word. A write of the whole word clears its poison mark; any other write is a read, a merge and a
write of the whole word, counted for each half it touches, and keeps the mark; poisoned data marks the word (R206, R211). -/
def State.storeWord (s : State) (k w o : Nat) (b : Bytes) (poison : Bool) : State :=
  let full := decide (b.length = 64)
  let mark := poison || (!full && s.poisoned k w)
  let halves := if o < 32 ∧ 32 < o + b.length then 2 else 1
  let s1 := { s with hbm := putBytes s.hbm (hbmKey k (64 * w + o)) b
                     hbmPoison := SMap.set false s.hbmPoison (wordKey k w) mark }
  let s2 := s1.setStack k { s1.stack k with writeBacks := (s1.stack k).writeBacks.filter (fun x => x != w) }
  let s3 := if full then s2 else s2.bump (0x40100A + 256 * k) halves
  s3.moved k w (if full then 64 else 128 * halves)

/-- A word's pseudo-channel as channel × 2 + pseudo-channel, and its slot. -/
def wordPlace (w : Nat) : Nat × Nat := (w / 2 ^ 24, w / 4 % 2 ^ 22)

/-- Row of a word: 2 KiB of a pseudo-channel (DESIGN CHOICE, log 11). -/
def wordRow (w : Nat) : Nat := w / 32

/-- What reading a word with its check bits finds (R209, R210, R214): an uncorrectable one is rewritten with the check pattern, 64 bytes that
count (R217). A word already marked stays marked, and is neither counted nor recorded again (DESIGN CHOICE, log 125). -/
def State.checkWord (s : State) (k w : Nat) (ecc : Ecc) : State :=
  if s.poisoned k w then s
  else
    let x := s.stack k
    match ecc with
    | .clean => s
    | .buffer => s
    | .onDie => s.bump (0x401006 + 256 * k) 1
    | .single =>
      let s1 := (s.setStack k { x with writeBacks := insertNat w x.writeBacks }).bump (0x401007 + 256 * k) 1
      s1.raiseQuad (k / 5) 0x0303 1 ucHbm k 0 0
    | .multi =>
      let r := wordRow w
      let n := SMap.get 0 x.badRows r + 1
      let s1 := s.setStack k { x with
        badRows := SMap.set 0 x.badRows r n
        repairQ := if n = 2 then insertNat r x.repairQ else x.repairQ }
      let s2 := { s1 with
        hbmPoison := SMap.set false s1.hbmPoison (wordKey k w) true
        flash := if n = 2 then { s1.flash with repairs := s1.flash.repairs ++ [(k, w / 2 ^ 24, r)] } else s1.flash }
      (((s2.bump (0x401008 + 256 * k) 1).raiseQuad (k / 5) 0x0304 2 ucHbm k 0
        ((wordPlace w).1 + (wordPlace w).2 * 2 ^ 8))).moved k w 64

/-- The word a controller delivers, after the check. -/
def State.wordData (s : State) (k w : Nat) : BitVec 512 := BitVec.ofNat 512 (leNat (getBytes s.hbm (hbmKey k (64 * w)) 64))

/-! ### Order of service (R208) -/

/-- The controller serves requests: not held in reset by a thermal trip, its stack trained, not failed, not in self-refresh (R220; 18 R425). -/
def State.serves (s : State) (k : Nat) : Bool :=
  !s.trip && !(s.stack k).failed && !(s.stack k).training && !(s.stack k).selfRefresh && decide (s.obj (0x40100F + 256 * k) ≠ 1)

/-- Nothing of the partition can reach its memory: a controller stands in self-refresh (R220), or one of its queues takes no item
(08 R189, R196). -/
def State.memStopped (s : State) (p : Nat) : Bool :=
  (s.stacksOf p).any (fun k => (s.stack k).selfRefresh || !s.queueTakes (0x100 + 2 * k) || !s.queueTakes (0x101 + 2 * k))

/-- A refresh that is due is served: it changes no word (R216). -/
def State.serveRefresh (s : State) (k : Nat) : State := s.setStack k { s.stack k with refreshDue := false }

/-- Every pending write-back of the stack is written (R208, R209). -/
def State.serveWriteBacks (s : State) (k : Nat) : State :=
  let x := s.stack k
  x.writeBacks.foldl (fun (t : State) w => t.moved k w 64) (s.setStack k { x with writeBacks := [] })

/-- The half of a word that a request covers, in the low bits; the whole word when it covers both (R206). -/
def halfOf (h : Option Bool) (x : BitVec 512) : BitVec 512 :=
  match h with
  | none => x
  | some false => BitVec.ofNat 512 (x.toNat % 2 ^ 256)
  | some true => BitVec.ofNat 512 (x.toNat / 2 ^ 256)

/-- The unit whose counters show what padding delays: class and number (17 R404). -/
def padUnit (who : Requester) (k : Nat) : Option (Nat × Nat) :=
  match who with
  | .loom l => some (ucLoom, loomKey l)
  | .copy j => some (ucEngine, j.val)
  | .engine => some (ucEngine, k)
  | .hub => none

/-- Who asks belongs to the partition of stack k. -/
def State.ownStack (s : State) (who : Requester) (k : Nat) : Bool :=
  match who with
  | .loom l => decide (s.partOfQuad l.q = s.partOfStack k)
  | .copy j => decide (s.partOfStack j = s.partOfStack k)
  | .engine | .hub => true

/-- An access of a loom or an update engine to word w of another partition's stack is reported as one out of region and goes nowhere (01 R24;
DESIGN CHOICE, log 126: no region, the byte offset in the stack). -/
def State.outOfReach (s : State) (who : Requester) (w : Nat) : State :=
  match who with
  | .loom l => s.raiseQuad l.q 0x0102 3 ucLoom (s.loomNo l) 0 (64 * w * 2 ^ 8)
  | .copy j => s.raiseQuad (j.val / 5) 0x0102 3 ucEngine j.val 0 (64 * w * 2 ^ 8)
  | .engine | .hub => s

/-- Serve one accepted request (R206, R209, R210). -/
def State.serveOne (s : State) (k : Nat) (r : HbmReq) : State :=
  let p := s.partOfStack k
  let w := r.word.toNat
  let s1 := s.freeCredit (loopId 1 p k)
  match r.write with
  | some d =>
    let b := leBytes 64 d.1.toNat
    let s2 := s1.freeCredit (loopId 7 p k)
    match r.half with
    | none => s2.storeWord k w 0 b d.2
    | some false => s2.storeWord k w 0 (b.take 32) d.2
    | some true => s2.storeWord k w 32 (b.drop 32) d.2
  | none =>
    let s2 := s1.checkWord k w r.ecc
    let bad := s2.poisoned k w
    let s3 := if bad then s2.bump (0x401009 + 256 * k) 1 else s2
    ((s3.moved k w 64).pad p (padUnit r.who k) 0).emit (.hbmWord k (halfOf r.half (s3.wordData k w)) bad)

/-- Put waiting requests into the order of service: the update engine's first, then those of the HBM nodes and of the hub in
rotation (R208). `hub`: the hub's turn comes next. -/
def rotate : Nat → Bool → List HbmReq → List HbmReq → List HbmReq
  | 0, _, _, _ => []
  | n + 1, hub, a, b =>
    match hub, a, b with
    | _, [], [] => []
    | false, x :: t, _ => x :: rotate n true t b
    | true, _, y :: t => y :: rotate n false a t
    | false, [], y :: t => y :: rotate n false [] t
    | true, x :: t, [] => x :: rotate n true t []

def serviceOrder (hub : Bool) (l : List HbmReq) : List HbmReq :=
  l.filter (fun r => ofEngine r.who)
    ++ rotate l.length hub (l.filter (fun r => ofLoom r.who)) (l.filter (fun r => decide (r.who = .hub)))

/-- Serve everything that is ready: refresh, write-backs, then the requests that wait (R208). -/
def State.serveReady (s : State) (k : Nat) : State :=
  let s1 := (s.serveRefresh k).serveWriteBacks k
  let x := s1.stack k
  let l := serviceOrder (!x.hubTurn) x.waiting
  let turn := match (l.filter (fun r => !ofEngine r.who)).getLast? with
    | some r => decide (r.who = .hub)
    | none => x.hubTurn
  l.foldl (fun (t : State) r => t.serveOne k r) (s1.setStack k { x with waiting := [], hubTurn := turn })

/-- The requester holds a credit of the stack's HBM node, and a write token where it writes (R189, R207). -/
def State.mayRequest (s : State) (k : Nat) (r : HbmReq) : Bool :=
  let p := s.partOfStack k
  (s.stack k).grants r.who && decide (0 < (s.cloop (loopId 1 p k)).held.toNat)
    && (r.write.isNone || decide (0 < (s.cloop (loopId 7 p k)).held.toNat))

/-- A request is accepted: its credits are spent, it waits; a write makes a pending write-back of its word void (R207, R209). -/
def State.acceptReq (s : State) (k : Nat) (r : HbmReq) : State :=
  let p := s.partOfStack k
  let s1 := s.takeCredit (loopId 1 p k)
  let s2 := if r.write.isSome then s1.takeCredit (loopId 7 p k) else s1
  let x := s2.stack k
  s2.setStack k { x with
    waiting := x.waiting ++ [r], owners := x.owners ++ [r.who]
    writeBacks := if r.write.isSome then x.writeBacks.filter (fun w => w != r.word.toNat) else x.writeBacks }

/-- Place of a requester in the HBM node's rotation. -/
def rotationNo (who : Requester) : Nat :=
  match who with | .loom l => loomKey l | .copy j => 2000 + j.val | .engine => 2020 | .hub => 2021

/-- The request whose requester comes first in the rotation, the oldest among equals. -/
def firstGrant (l : List HbmReq) : Option HbmReq :=
  l.foldl (fun a r => match a with
    | some b => if rotationNo r.who < rotationNo b.who then some r else a
    | none => some r) none

/-- Grant the requests that wait and find their credits, the requesters in rotation after the last one granted (R207). -/
def State.grant (s : State) (k : Nat) : Nat → State
  | 0 => s
  | n + 1 =>
    let x := s.stack k
    let l := x.asking.filter (s.mayRequest k)
    match (firstGrant (l.filter (fun r => decide (x.lastGrant < rotationNo r.who)))).or (firstGrant l) with
    | none => s
    | some r => ((s.setStack k { x with asking := x.asking.erase r, lastGrant := rotationNo r.who }).acceptReq k r).grant k n

/-- Grants are made, and what is ready is served in order unless the controller stands still (R207, R208, R220). -/
def State.serveAsking (s : State) (k : Nat) : State :=
  let t := s.grant k (s.stack k).asking.length
  if t.serves k then t.serveReady k else t

/-- A request reaches the stack's HBM node: it is accepted when its requester is granted the credits, and waits until then (R207). -/
def State.request (s : State) (k : Nat) (r : HbmReq) : State :=
  (s.setStack k { s.stack k with asking := (s.stack k).asking ++ [r] }).serveAsking k

/-- A unit's request can go to stack k now: the controller serves, no queue on the way is under FLUSH, and every credit on it is there
(R189, R207, R220). -/
def State.reachable (s : State) (who : Requester) (k : Nat) (write : Bool) : Bool :=
  let p := s.partOfStack k
  s.serves k && s.wayOpen who k && s.hasCredit (loopId 1 p k) && (!write || s.hasCredit (loopId 7 p k)) && (s.stack k).grants who
    && s.bridgesReady who k

/-- What waits at a controller that serves goes before a unit's own access (R208, R220). -/
def State.serveFirst (s : State) (k : Nat) : State := if s.serves k then s.serveReady k else s

/-- Count a word that a unit reads for itself within a command: what is ready of higher order goes first, the request crosses, the
bytes and poisoned words are counted, and padding delays the word of any requester but a loom, whose transfer is padded as a whole
(R206 to R208, R217; 05 R124). -/
def State.countWord (s : State) (who : Requester) (k w : Nat) : State :=
  let s1 := ((s.serveFirst k).crossTo who k false).moved k w 64
  let s2 := if ofLoom who then s1 else s1.pad (s.partOfStack k) (padUnit who k) 0
  if s2.poisoned k w then s2.bump (0x401009 + 256 * k) 1 else s2

/-- A unit writes bytes of a word within a command (R206 to R208). -/
def State.writeWord (s : State) (who : Requester) (k w o : Nat) (b : Bytes) (poison : Bool) : State :=
  ((s.serveFirst k).crossTo (requesterAt who k) k true).storeWord k w o b poison

end Sys2Proof.Machine
end

