-- ==== Sys2Proof/Machine/Regions.lean ====
section
/-! DEFINITION. Regions of a job's memory: reading and writing bytes of a region with poison marks (09 R206, R210, R211). -/

namespace Sys2Proof.Machine

open Sys2Proof

/-- Origin of the first poisoned word of a byte range: 0 none, else 1 + stack + 32 × granule (09 R212). -/
def State.poisonIn (s : State) (p i off n : Nat) : Nat :=
  match (piecesOf off n).find? (fun c => let w := s.regionWord p i c.1; s.poisoned w.1 w.2) with
  | some c => 1 + (s.regionWord p i c.1).1 + 32 * (c.1 / 256)
  | none => 0

/-- A unit reads bytes of a region: every word it touches is a request (09 R206). -/
def State.countRead (s : State) (who : Requester) (p i off n : Nat) : State :=
  (piecesOf off n).foldl (fun (t : State) c =>
    let w := t.regionWord p i c.1
    t.countWord who w.1 w.2) s

/-- Units write bytes to a region, word by word: `who` says of a piece's offset which unit writes it, `bad` of a piece (offset, length)
whether it derives from poison (R206, R211). -/
def State.writeBy (s : State) (who : Nat → Requester) (p i off : Nat) (b : Bytes) (bad : Nat → Nat → Bool) : State :=
  (piecesOf off b.length).foldl (fun (t : State) c =>
    let w := t.regionWord p i c.1
    t.writeWord (who c.1) w.1 w.2 (c.1 % 64) ((b.drop (c.1 - off)).take c.2) (bad c.1 c.2)) s

/-- One unit writes bytes to a region. -/
def State.writeTagged (s : State) (who : Requester) (p i off : Nat) (b : Bytes) (bad : Nat → Nat → Bool) : State :=
  s.writeBy (fun _ => who) p i off b bad

/-- A unit writes bytes that are all clean, or all poisoned. -/
def State.writeRegion (s : State) (who : Requester) (p i off : Nat) (b : Bytes) (poison : Bool) : State :=
  s.writeTagged who p i off b (fun _ _ => poison)

/-- Poison among those of the bytes [o, o + k) that a copy of n bytes from src to dst puts there. -/
def State.copiedPoison (s : State) (p i src dst n o k : Nat) : Bool :=
  let lo := Nat.max o dst
  let hi := Nat.min (o + k) (dst + n)
  decide (lo < hi) && decide (s.poisonIn p i (src + lo - dst) (hi - lo) ≠ 0)

/-- A unit that needs bytes of a region as an operand: whether they are inside it. -/
def State.inRegion (s : State) (p i off n : Nat) : Bool :=
  (s.part p).hasRegion i && decide (off + n ≤ s.regionLen p i)

end Sys2Proof.Machine
end

