-- ==== Sys2Proof/Machine/Operands.lean ====
section
/-! DEFINITION. Operands of loom descriptors: fields, scale fields (04 R89), tile rows and packed elements (02 R32, 04 R90),
local memory with poison marks (04 R98, R99; 03 R82), line ranges (04 R108). -/

namespace Sys2Proof.Machine

open Sys2Proof

/-! ### Fields and scales -/

/-- Bits [hi:lo] of a descriptor. -/
def dField (d : Word512) (hi lo : Nat) : Nat := field d.toNat hi lo

/-- A one-bit field. -/
def dBit (d : Word512) (i : Nat) : Bool := d.toNat.testBit i

/-- Opcode and TAG of the descriptor header. -/
def dOp (d : Word512) : Nat := dField d 7 0
def dTag (d : Word512) : Nat := dField d 31 16
def dSync (d : Word512) : Bool := dBit d 8

/-- A scale field names an unmapped register entry (R89). -/
def Loom.unmapped (x : Loom) (f : Nat) : Bool := f.testBit 8 && !(SMap.get 0xFF x.scaleFile (f % 256)).toNat.testBit 8

/-- The 8 bits that a scale field gives: literal, or those of the register entry it names. -/
def Loom.scaleByte (x : Loom) (f : Nat) : Nat :=
  if f.testBit 8 then (SMap.get 0xFF x.scaleFile (f % 256)).toNat % 256 else f % 256

/-- The format carries a per-tensor scale (02 R28). -/
def hasScale (f : Nat) : Bool := decide (1 ≤ f) && decide (f ≤ 8)

/-- A scale field is usable as the scale of an operand of format f: mapped, and not 0xFF as an exponent e (R34, R89). -/
def Loom.scaleOk (x : Loom) (f fld : Nat) : Bool := !x.unmapped fld && (!hasScale f || x.scaleByte fld != 0xFF)

/-- Exponent of the factor an operand of format f is multiplied by: e − 127, a chunk exponent X for T32, else 0. -/
def Loom.scaleExp (x : Loom) (f fld : Nat) : Int :=
  if hasScale f then (x.scaleByte fld : Int) - 127
  else if f = 9 then signed 8 (x.scaleByte fld)
  else 0

/-- Origin of the poison of the entry that a scale field names; 0 none (16 R388). -/
def Loom.scaleOrigin (x : Loom) (f : Nat) : Nat := if f.testBit 8 then SMap.get 0 x.scalePoison (f % 256) else 0

/-! ### Rows and packed elements (R32, R90) -/

/-- Bytes of n packed elements of a format. -/
def packedBytes (f n : Nat) : Nat :=
  if f = 7 then ceilDiv n 2 else if f = 5 ∨ f = 6 then 3 * ceilDiv n 4 else n * (fmtWidth f / 8)

/-- Lines of a row of n elements. -/
def rowLines (f n : Nat) : Nat := ceilDiv (packedBytes f n) 64

/-- Element patterns of a packed byte string. -/
def unpackElems (f n : Nat) (b : Bytes) : List Nat :=
  let x := leNat b
  let w := fmtWidth f
  (List.range n).map (fun i => x / 2 ^ (w * i) % 2 ^ w)

/-- Pack element patterns; positions past the last are zero. -/
def packElems (f : Nat) (l : List Nat) : Bytes :=
  leBytes (packedBytes f l.length) (l.foldr (fun p a => p + a * 2 ^ fmtWidth f) 0)

/-- Pack 2-bit vote codes four per byte (R95, 11 R267). -/
def packVotes (l : List Nat) : Bytes := leBytes (ceilDiv l.length 4) (l.foldr (fun p a => p + a * 4) 0)

/-! ### Local memory (R98, R99) -/

/-- Lines of local memory. -/
def localLines : Nat := 16384

/-- A range of lines lies in local memory. -/
def linesOk (line n : Nat) : Bool := decide (line + n ≤ localLines)

/-- Half lines of a byte range. -/
def halfLines (a n : Nat) : List Nat := if n = 0 then [] else List.range' (a / 32) ((a + n - 1) / 32 + 1 - a / 32)

/-- Origin of the first poisoned half line of a byte range; 0 none. -/
def Loom.poisonAt (x : Loom) (a n : Nat) : Nat :=
  ((halfLines a n).findSome? (fun h => let o := SMap.get 0 x.poison h; if o = 0 then none else some o)).getD 0

/-- Write bytes at a local address: a half line written whole loses its mark, unless the data is poisoned. -/
def Loom.put (x : Loom) (a : Nat) (b : Bytes) (origin : Nat) : Loom :=
  { x with
    mem := putBytes x.mem a b
    poison := (halfLines a b.length).foldl (fun m h =>
      if origin ≠ 0 then SMap.set 0 m h origin
      else if a ≤ 32 * h ∧ 32 * h + 32 ≤ a + b.length then SMap.set 0 m h 0 else m) x.poison }

/-- Mark the half lines of a byte range as poisoned, where they are not marked yet. -/
def Loom.mark (x : Loom) (a n origin : Nat) : Loom :=
  if origin = 0 then x
  else { x with poison := (halfLines a n).foldl (fun m h => if SMap.get 0 m h = 0 then SMap.set 0 m h origin else m) x.poison }

/-- First and last byte of element k of a packed string of w-bit elements. -/
def elemBytes (w k : Nat) : Nat × Nat := (w * k / 8, (w * k + w - 1) / 8)

/-- Write packed elements of width w and tag each with its own origin (03 R82). -/
def Loom.putElems (x : Loom) (a w : Nat) (b : Bytes) (origins : List Nat) : Loom :=
  origins.zipIdx.foldl (fun (y : Loom) o =>
    y.mark (a + (elemBytes w o.2).1) ((elemBytes w o.2).2 + 1 - (elemBytes w o.2).1) o.1) (x.put a b 0)

/-- n packed elements from a line. -/
def Loom.elems (x : Loom) (f line n : Nat) : List Nat := unpackElems f n (getBytes x.mem (64 * line) (packedBytes f n))

/-- Origin of the first poisoned word among n packed elements from a line. -/
def Loom.elemsPoison (x : Loom) (f line n : Nat) : Nat := x.poisonAt (64 * line) (packedBytes f n)

/-- Origin of each of n packed elements from a line. -/
def Loom.elemOrigins (x : Loom) (f line n : Nat) : List Nat :=
  if x.poison = [] then List.replicate n 0
  else (List.range n).map (fun i =>
    let b := elemBytes (fmtWidth f) i
    x.poisonAt (64 * line + b.1) (b.2 + 1 - b.1))

/-- First of two origins. -/
def firstOrigin (a b : Nat) : Nat := if a = 0 then b else a

/-- First origin of a list. -/
def firstOf (l : List Nat) : Nat := l.foldl firstOrigin 0

/-- A half line lies in one of the line ranges. -/
def halfIn (ranges : List (Nat × Nat)) (half : BitVec 15) : Bool :=
  ranges.any (fun r => decide (r.1 ≤ half.toNat / 2) && decide (half.toNat / 2 < r.1 + r.2))

/-! ### Line ranges a descriptor reads and writes (R108) -/

/-- Two line ranges (first, count) overlap; the first common line. -/
def overlap (a b : Nat × Nat) : Option Nat :=
  if a.1 < b.1 + b.2 ∧ b.1 < a.1 + a.2 then some (Nat.max a.1 b.1) else none

/-- The first overlap of two lists of ranges. -/
def overlaps (a b : List (Nat × Nat)) : Option Nat := a.findSome? (fun x => b.findSome? (overlap x))

/-- First common line of every pair of ranges that overlap. -/
def commonLines (a b : List (Nat × Nat)) : List Nat := (a.map (fun x => b.filterMap (overlap x))).flatten

/-- Paths of a matrix product (03 R56). -/
inductive MmPath where
  | paired | narrow | fp16 | bf16 | fp32
  deriving DecidableEq, Repr

/-- The path of an operand pair; none: a format-code mismatch. -/
def mmPath (sf wf : Nat) : Option MmPath :=
  let sub (f : Nat) := f == 7 || f == 5 || f == 6
  let eight (f : Nat) := f == 3 || f == 4 || f == 8
  if sub sf && sub wf then some .paired
  else if (sub sf || eight sf) && (sub wf || eight wf) then some .narrow
  else if sf = 2 ∧ wf = 2 then some .fp16
  else if sf = 1 ∧ wf = 1 then some .bf16
  else if sf = 0 ∧ wf = 0 then some .fp32
  else none

/-- Rows of the stationary tile and elements of a streaming row: 128 in paired cells (03 R56, R57). -/
def mmDepth (p : MmPath) : Nat := if p = .paired then 128 else 64

/-- Fraction bits fa of a format (03 R64). -/
def fracBits (f : Nat) : Nat := [0, 0, 24, 9, 16, 4, 3, 1, 0].getD f 0

/-- FRAC0 of an array path (03 R64, R66). -/
def frac0 (sf wf : Nat) : Nat := if sf = 1 then 45 else fracBits sf + fracBits wf

/-- Output rows of a MATMUL: 64 rows of 64 values, or one row of 256 on the FP32 path. -/
def mmOutRows (d : Word512) : Nat × Nat := if dField d 35 32 = 0 then (1, 256) else (64, 64)

/-- Lines of one output row of a MATMUL. -/
def mmOutLines (d : Word512) : Nat :=
  let n := (mmOutRows d).2
  if dBit d 51 then ceilDiv (16 * n) 64 else rowLines (dField d 43 40) n

/-- Lines of the streaming and the stationary tile of a MATMUL. -/
def mmReads (d : Word512) : List (Nat × Nat) :=
  let sf := dField d 35 32
  let wf := dField d 39 36
  if sf = 0 then
    let k := ceilDiv (4 * dField d 468 456) 64
    [(dField d 141 128, 256 * k), (dField d 155 142, 256 * k)]
  else
    let k := match mmPath sf wf with | some p => mmDepth p | none => 64
    let s := (dField d 141 128, 64 * rowLines sf k)
    if dBit d 50 then [s] else [s, (dField d 155 142, k * rowLines wf 64)]

def mmWrites (d : Word512) : List (Nat × Nat) :=
  if dBit d 49 && !dBit d 55 then [(dField d 169 156, (mmOutRows d).1 * mmOutLines d)] else []

/-- Local lines of a DMA: rows LPITCH apart. -/
def dmaLines (d : Word512) : Nat × Nat :=
  (dField d 53 40, (dField d 141 128 - 1) * dField d 163 156 + ceilDiv (dField d 155 142) 64)

/-- Vector operations: number of sources, and whether one element is written (R95). -/
def vopSources (v : Nat) : Nat :=
  if v = 4 ∨ v = 0x0B then 3
  else if v ≤ 6 ∨ v = 9 ∨ v = 0x0A ∨ v = 0x24 then 2 else 1

def vopReduces (v : Nat) : Bool := decide (0x20 ≤ v) && decide (v ≤ 0x23)

/-- Elements a VECTOR writes. -/
def vopCount (d : Word512) : Nat := if vopReduces (dField d 39 32) then 1 else dField d 211 192

/-- Formats of the first two sources of a VECTOR; those of a WADD are A96 slots (03 R74). What A_FMT and B_FMT of a WADD hold the spec
does not say: any assigned code is accepted and the sources are read as slots (DESIGN CHOICE, log 102). -/
def vFmtA (d : Word512) : Nat := if dField d 39 32 = 0x24 then 10 else dField d 43 40
def vFmtB (d : Word512) : Nat := if dField d 39 32 = 0x24 then 10 else dField d 47 44

def vecReads (d : Word512) : List (Nat × Nat) :=
  let n := dField d 211 192
  ([(dField d 77 64, ceilDiv (packedBytes (vFmtA d) n) 64),
    (dField d 91 78, ceilDiv (packedBytes (vFmtB d) n) 64),
    (dField d 105 92, ceilDiv (packedBytes (dField d 51 48) n) 64)]).take (vopSources (dField d 39 32))

/-- Bytes a VECTOR writes. -/
def vecOutBytes (d : Word512) : Nat :=
  if dField d 39 32 = 0x31 then ceilDiv (vopCount d) 4
  else if dBit d 56 then 16 * vopCount d else packedBytes (dField d 55 52) (vopCount d)

def vecWrites (d : Word512) : List (Nat × Nat) := [(dField d 119 106, ceilDiv (vecOutBytes d) 64)]

/-- Lines of one output row of a chain's final loom. -/
def chainOutLines (d : Word512) : Nat := if dBit d 46 then 16 else rowLines (dField d 51 48) 64

def chainWrites (d : Word512) : List (Nat × Nat) :=
  if dField d 37 32 = dField d 45 40 then [(dField d 102 89, 64 * chainOutLines d)] else []

/-! ### Unit queues (R85) -/

def Loom.queue (x : Loom) (u : UnitKind) : List InFlight :=
  match u with
  | .array => x.arrayQ
  | .vector => x.vectorQ
  | .dma => x.dmaQ
  | .chain => x.chainQ

def Loom.setQueue (x : Loom) (u : UnitKind) (q : List InFlight) : Loom :=
  match u with
  | .array => { x with arrayQ := q }
  | .vector => { x with vectorQ := q }
  | .dma => { x with dmaQ := q }
  | .chain => { x with chainQ := q }

def unitDepth (u : UnitKind) : Nat := match u with | .array => 4 | .vector => 8 | .dma => 16 | .chain => 2

/-- The unit of a descriptor; none for a control descriptor or a reserved opcode. -/
def unitOf (d : Word512) : Option UnitKind :=
  if dOp d = 0x10 then some .array else if dOp d = 0x20 then some .vector else if dOp d = 0x30 then some .dma
  else if dOp d = 0x40 then some .chain else none

/-- The queue of the unit that the head descriptor names is full. -/
def Loom.headWaits (x : Loom) : Bool :=
  match unitOf (SMap.get 0 x.store x.seqIdx.toNat) with
  | some u => decide (unitDepth u ≤ (x.queue u).length)
  | none => false

/-- The next pass to issue: the first not issued, when its stationary tile is preloaded. -/
def nextPass : List InFlight → Option InFlight
  | [] => none
  | e :: t => if 2 ≤ e.phase then nextPass t else if e.phase = 1 then some e else none

/-- A pass whose streaming tile a DMA issued before it still brings in (03 R59). -/
def Loom.tileWaits (x : Loom) (e : InFlight) : Bool :=
  x.dmaQ.any (fun o => decide (o.nth < e.nth) && (overlaps (e.reads.take 1) o.writes).isSome)

/-- A pass on an array path after a block whose rows still wait for the shadow set (R61). -/
def Loom.shadowWaits (x : Loom) (e : InFlight) : Bool := decide (dField e.desc 35 32 ≠ 0) && x.swapDue.isSome

/-! ### Fields of a DMA descriptor, and the stacks it reaches (04 R95, R96) -/

def mRegion (d : Word512) : Nat := dField d 71 64
def mOffset (d : Word512) : Nat := dField d 111 72
def mRows (d : Word512) : Nat := dField d 141 128
def mRowBytes (d : Word512) : Nat := dField d 155 142
def mPitch (d : Word512) : Nat := dField d 163 156
def mStride (d : Word512) : Nat := dField d 203 164
def mLine (d : Word512) : Nat := dField d 53 40
def mFmt (d : Word512) : Nat := dField d 39 36

/-- HBM offset of row i. -/
def dmaAt (d : Word512) (i : Nat) : Nat := mOffset d + i * mStride d

/-- Stacks that a descriptor's rows touch. -/
def State.dmaStacks (s : State) (p : Nat) (d : Word512) : List Nat :=
  ((List.range (mRows d)).map (fun i =>
    (piecesOf (dmaAt d i) (mRowBytes d)).map (fun c => (s.regionWord p (mRegion d) c.1).1))).flatten.eraseDups

end Sys2Proof.Machine
end

