-- ==== Sys2Proof/Machine/Commands.lean ====
section
/-! DEFINITION. The update table and the update commands of a program image (07 R161, R162): fields, the list of a step,
the copy regions of a step. -/

namespace Sys2Proof.Machine

open Sys2Proof

/-! ### Fields of an update command -/

def uRule (c : Word512) : Nat := dField c 3 0
def uGsrc (c : Word512) : Nat := dField c 5 4
def uCopy (c : Word512) : Bool := dBit c 6
def uCfmt (c : Word512) : Nat := dField c 11 8
def uTag (c : Word512) : Nat := dField c 31 16
def uTensor (c : Word512) : Nat := dField c 55 32
def uRegion (c : Word512) : Nat := dField c 71 64
def uWindow (c : Word512) : Nat := dField c 79 72
def uCregion (c : Word512) : Nat := dField c 87 80
def uCslot (c : Word512) : Nat := dField c 111 96
def uMslot (c : Word512) : Nat := dField c 127 112
def uLrMant (c : Word512) : Nat := dField c 143 128
def uLrExp (c : Word512) : Int := signed 8 (dField c 151 144)
def uLrRel (c : Word512) : Bool := dBit c 152
def uWslot (c : Word512) : Nat := dField c 175 160
def uWdMant (c : Word512) : Nat := dField c 207 192
def uWdExp (c : Word512) : Int := signed 8 (dField c 215 208)
def uBeta (c : Word512) : Nat := dField c 223 216
def uFirst (c : Word512) : Nat := dField c 299 256
def uCount (c : Word512) : Nat := dField c 363 320
def uTbase (c : Word512) : Nat := dField c 427 384

/-! ### The list of a step (R161) -/

/-- The update table has no entries: the command stream sets no limit. -/
def imgEmptyStream (i : Image) : Bool := decide (i.updTable = [])

/-- Step s lies beyond the command stream. -/
def imgExhausted (i : Image) (s : Nat) : Bool := !imgEmptyStream i && decide (i.updLast.toNat < s)

/-- The commands of step s, in list order; none for a step below BASE_STEP or one for which the table has no entry (07 R161; DESIGN CHOICE,
log 131). -/
def imgCommands (i : Image) (s : Nat) : List Word512 :=
  if s < i.updBase.toNat ∨ i.updLast.toNat < s then []
  else
    match i.updTable[s - i.updBase.toNat]? with
    | none => []
    | some e => (i.updCmds.drop (field e.toNat 31 0)).take (field e.toNat 47 32)

/-- The commands of a partition's step in progress. -/
def State.commands (s : State) (p : Nat) : List Word512 :=
  match (s.part p).image with
  | some i => imgCommands i (s.stepNo p)
  | none => []

/-- A command of the step writes its forward copy to region r. -/
def State.isCopyRegion (s : State) (p r : Nat) : Bool := (s.commands p).any (fun c => uCopy c && uCregion c == r)

end Sys2Proof.Machine
end

