-- ==== Sys2Proof/Machine/Clocks.lean ====
section
/-! DEFINITION. Cycle counters, orbits, stretching and realignment (01 R19, R20; 08 R186 to R188), activity counters
(17 R404), and the passing of one nanosecond on an empty queue. -/

namespace Sys2Proof.Machine

open Sys2Proof Host

/-! ### Activity counters (17 R404) -/

/-- Key of the count of all cycles of quadrant q. -/
def cyclesKey (q : Nat) : Nat := 2 ^ 40 + q

/-- A transfer that could not get its credits yet (04 R96; 08 R189). -/
def Loom.lateDma (x : Loom) : Option InFlight := x.dmaQ.find? (fun e => decide (e.phase = 0) && !e.waits)

/-- A ready sum of the chain waits for its fabric slot (03 R72). -/
def Loom.slotWaits (x : Loom) : Bool := match x.role with | some r => r.held != [] | none => false

/-- The units of a loom that wait, by the number of the descriptor that waits, with n + 1 for reason n: a pass for its tile or for the
shadow set, a chain sum for its slot, a transfer for its credits. -/
def Loom.unitWaits (x : Loom) : List (Nat × Nat) :=
  (match nextPass x.arrayQ with
    | some e => if x.tileWaits e then [(e.nth, 4)] else if x.shadowWaits e then [(e.nth, 13)] else []
    | none => [])
  ++ (if x.slotWaits then (match x.chainQ.find? (fun e => e.phase == 1) with | some e => [(e.nth, 2)] | none => []) else [])
  ++ (match x.lateDma with | some e => [(e.nth, 3)] | none => [])

/-- The oldest unit queue that waits, as descriptor number and code; none: the units advance (R404). -/
def Loom.oldestWait (x : Loom) : Option (Nat × Nat) :=
  x.unitWaits.foldl (fun a e => match a with | some b => if e.1 < b.1 then some e else some b | none => some e) none

/-- How a loom's units count a cycle while its sequencer does not wait: 0 busy, or n + 1 stalled under reason n. -/
def Loom.unitActivity (x : Loom) : Nat := (x.oldestWait.map (·.2)).getD 0

/-- No descriptor is in a unit queue. -/
def Loom.unitsEmpty (x : Loom) : Bool := decide (x.arrayQ = []) && decide (x.vectorQ = []) && decide (x.dmaQ = []) && decide (x.chainQ = [])

/-- How a loom counts a cycle: 0 busy, 1 idle, n + 1 stalled under reason n. Its sequencer's state decides, then its units' (R404). -/
def Loom.activity (x : Loom) : Nat :=
  match x.seq with
  | .idle => 1
  | .ended => if x.unitsEmpty then 1 else x.unitActivity
  | .stopped => 1
  | .running => if x.headWaits then 8 else x.unitActivity
  | .waitUnits _ => 9
  | .waitDesc _ => 9
  | .waitCycle _ => 10
  | .commitWait => 5

/-- What holds a partition's looms before descriptor 0 of a step, as a stall reason + 1: a test window, the scale fill, an input ring;
1: nothing (17 R404). -/
def State.stepWait (s : State) (p : Nat) : Nat :=
  let x := s.part p
  if s.jobState p ≠ 5 ∨ x.inStep then 1
  else if x.windowTests ≠ [] then 15
  else if !x.filled then 11
  else if !x.ringsFull (s.stepNo p) then 12
  else 1

/-- When that wait began: a ring is waited for once the fill is complete. -/
def State.stepWaitSince (s : State) (p : Nat) : BitVec 64 :=
  if s.stepWait p = 12 then (s.part p).filledNs else (s.part p).waitNs

/-- How the loom with key k, of partition p, counts a cycle but for stalls that are owed: one without work may be waiting for its step, if it
takes part in the job (00 R2). -/
def State.loomActivity (s : State) (p k : Nat) : Nat :=
  let a := (SMap.get Loom.init s.looms k).activity
  if a = 1 then (if s.loomUsed k then s.stepWait p else 1) else a

/-- How d cycles of a unit count, by code, and the stalls that are still owed then: those of descriptors older than what waits at present
(`now`: number of its descriptor, none where nothing waits, and code) come first (R404; DESIGN CHOICE, log 96). -/
def spendStalls (now : Option Nat × Nat) : List OwedStall → Nat → List (Nat × Nat) × List OwedStall
  | [], d => ([(now.2, d)], [])
  | o :: t, d =>
    if (match now.1 with | some n => decide (n < o.nth) | none => false) then ([(now.2, d)], o :: t)
    else if d < o.cycles then ([(o.code, d)], { o with cycles := o.cycles - d } :: t)
    else
      let r := spendStalls now t (d - o.cycles)
      ((o.code, o.cycles) :: r.1, r.2)

/-- The stalls that the unit of a class with key k is still owed. -/
def State.stallsOf (s : State) (cls k : Nat) : List OwedStall := SMap.get [] s.owedStalls (counterKey cls k 0)

/-- How d cycles of a loom count. Only while its sequencer does not wait do its units' owed stalls; an idle loom owes none any more. -/
def State.loomSpends (s : State) (p k d : Nat) : List (Nat × Nat) × List OwedStall :=
  let x := SMap.get Loom.init s.looms k
  let a := s.loomActivity p k
  match x.seq with
  | .running | .ended =>
    if a = 8 then ([(a, d)], s.stallsOf ucLoom k) else spendStalls (x.oldestWait.map (·.1), a) (s.stallsOf ucLoom k) d
  | .idle | .stopped => ([(a, d)], [])
  | _ => ([(a, d)], s.stallsOf ucLoom k)

/-- How a loom counts its next cycle: 0 busy, 1 idle, n + 1 stalled under reason n. -/
def State.loomDoes (s : State) (p k : Nat) : Nat := ((s.loomSpends p k 1).1.headD (1, 0)).1

/-- How the update engine of stack k counts a cycle: idle without commands of the step in progress, then the wait for its commit, a
checkpoint hold, or busy (17 R404). -/
def State.engineActivity (s : State) (p k : Nat) : Nat :=
  let x := s.part p
  let left := (List.range (s.commands p).length).any (fun i => !(s.stack k).cmdsDone.contains i)
  if s.exState p = 0 ∨ s.exState p = 4 ∨ x.applied ∨ !left then 1
  else if !x.committed then 5
  else if x.hold.isSome then 15
  else 0

/-- How d cycles of the update engine of stack k count: its padding comes before its work, not before its commit or a hold. -/
def State.engineSpends (s : State) (p k d : Nat) : List (Nat × Nat) × List OwedStall :=
  let a := s.engineActivity p k
  if s.exState p = 0 ∨ s.exState p = 4 then ([(a, d)], [])
  else if a = 5 ∨ a = 15 then ([(a, d)], s.stallsOf ucEngine k)
  else spendStalls (none, a) (s.stallsOf ucEngine k) d

/-- Cycles of a unit count under its activity; idle ones are the rest of the sum. -/
def State.countAs (s : State) (cls unit a d : Nat) : State :=
  if a = 1 then s else s.addCounter (counterKey cls unit a) d

/-- Cycles of a unit count as they are spent. -/
def State.countSpent (s : State) (cls unit : Nat) (r : List (Nat × Nat) × List OwedStall) : State :=
  let t := r.1.foldl (fun (t : State) e => t.countAs cls unit e.1 e.2) s
  { t with owedStalls := SMap.set [] t.owedStalls (counterKey cls unit 0) r.2 }

/-- A loom is found in an activity: a wait that is new begins now (17 R415). -/
def State.noteStall (s : State) (k a : Nat) : State :=
  let old := SMap.get (0, 0) s.stalls k
  { s with stalls := SMap.set (0, 0) s.stalls k (if a ≤ 1 then (0, 0) else if old.1 = a then old else (a, s.ns)) }

/-- d cycles of quadrant q pass: its counter, the sum of its cycles, and the activity of its looms and engines. -/
def State.passCycles (s : State) (q d : Nat) : State :=
  let x := s.quad q
  let s1 := (s.setQuad q { x with count := x.count + BitVec.ofNat 64 d }).addCounter (cyclesKey q) d
  let p := s.partOfQuad q
  let s2 := (SMap.keys s1.looms).foldl (fun (t : State) k =>
    if k / 500 = q then
      let r := s.loomSpends p k d
      (t.countSpent ucLoom k r).noteStall k ((r.1.getLast?.map (·.1)).getD 1)
    else t) s1
  (List.range' (5 * q) 5).foldl (fun (t : State) k => t.countSpent ucEngine k (s.engineSpends p k d)) s2

/-- Packets of a message wait on link k: under a PFC pause, or for their pacing (10 R226; 11 R252, R269). -/
def State.heldBack (s : State) (k : Nat) : Bool :=
  let x := s.link k
  decide (0 < x.paced) || x.waiting.any (fun f => x.pauses.getLsbD f.prio && (match f.out with | .roce _ _ _ => true | _ => false))

/-- How tally engine k counts a hub cycle: busy with a chunk that has its credit, stalled while chunks only wait for one (05 R133), or while
what it would send is held back on a link of its port (R404). -/
def State.tallyActivity (s : State) (k : Nat) : Nat :=
  let l := (s.part (s.portOwner k)).tally.filter (fun i => decide (i.engine = k))
  if l.any (·.credited) then 0 else if l != [] then 3 else if (List.range' (8 * k) 8).any s.heldBack then 16 else 1

/-- How link k counts a hub cycle: busy with frames that leave; stalled under a PFC pause while the first frame that waits is paused, else
for the credits of its port's queue; stalled under the pacing that chunks wait for (log 96). -/
def State.linkActivity (s : State) (k : Nat) : Nat :=
  let x := s.link k
  if 0 < x.busy then 0
  else match x.waiting with
    | f :: _ => if x.pauses.getLsbD f.prio then 16 else 3
    | [] => if 0 < x.paced then 16 else 1

/-- One hub cycle of link k passes. -/
def State.linkCycle (s : State) (k : Nat) : State :=
  let x := s.link k
  let t := s.countAs ucLink k (s.linkActivity k) 1
  if 0 < x.busy then t.setLink k { x with busy := x.busy - 1 }
  else if x.waiting = [] ∧ 0 < x.paced then t.setLink k { x with paced := x.paced - 1 } else t

/-- One hub cycle passes for the tally engines and links of the ports whose owners' hub units do not stand still. -/
def State.hubTick (s : State) : State :=
  let s1 := (List.range 6).foldl (fun (t : State) k =>
    if s.hubStopped (s.portOwner k) then t else t.countAs ucTally k (s.tallyActivity k) 1) s
  (SMap.keys s.links).foldl (fun (t : State) k =>
    if s.hubStopped (s.portOwner (k / 8)) then t else t.linkCycle k) s1

/-- Key under which a latched set keeps the hub cycles of the units of port k. -/
def hubKey (k : Nat) : Nat := 2 ^ 42 + k

/-- Hub cycles of the units of port k: nanoseconds since the clocks came on, but for those of eclipses of its owner, the one in progress
included (17 R404, R417). -/
def State.hubCycles (s : State) (k : Nat) : BitVec 48 :=
  if s.pllsOn then BitVec.ofNat 48 (s.ns.toNat - s.clockNs.toNat) - (s.endStop (s.portOwner k)).counter (pausedKey k) else 0

/-- The running counters with the hub cycles of every port's units (17 R405). -/
def State.countersNow (s : State) : SMap (BitVec 48) :=
  (List.range 6).foldl (fun m k => SMap.set 0 m (hubKey k) (s.hubCycles k)) s.counters

/-- The key of a unit in the counters: a loom by its place, other units by number; none where there is no such unit. -/
def State.counterUnit (s : State) (cls unit : Nat) : Option Nat :=
  if cls = ucLoom then (s.loomOfNo unit).map loomKey
  else if cls = ucEngine then (if unit < 20 then some unit else none)
  else if cls = ucTally then (if unit < 6 then some unit else none)
  else if cls = ucLink then (if unit < 48 then some unit else none)
  else none

/-- The 17 values of the unit of a class with key k in a set: idle is what is left of the cycles of its domain (17 R405). -/
def keyCounts (m : SMap (BitVec 48)) (cls k : Nat) : List (BitVec 48) :=
  let total : BitVec 48 :=
    if cls = ucLoom then SMap.get 0 m (cyclesKey (k / 500))
    else if cls = ucEngine then SMap.get 0 m (cyclesKey (k / 5))
    else SMap.get 0 m (hubKey (if cls = ucTally then k else k / 8))
  let others := (List.range 17).foldl
    (fun a i => if i = 1 then a else a + SMap.get 0 m (counterKey cls k i)) (0 : BitVec 48)
  (List.range 17).map (fun i => if i = 1 then total - others else SMap.get 0 m (counterKey cls k i))

/-- The 17 values of a unit in a set; zeros where there is no such unit. -/
def State.unitCounts (s : State) (m : SMap (BitVec 48)) (cls unit : Nat) : List (BitVec 48) :=
  match s.counterUnit cls unit with
  | none => List.replicate 17 0
  | some k => keyCounts m cls k

/-! ### Orbits (08 R186 to R188) -/

/-- Cycles before an orbit boundary at which the mark is raised (08 R180 MARK). -/
def markLead : Nat := 3

/-- The next orbit boundary's number. -/
def Quad.next (x : Quad) : Nat := x.passed.toNat + 1

/-- Quadrant q sees the mark of quadrant j for boundary k: its own at once, another's 2 or 3 cycles of that quadrant after it was raised,
which of them is free (R187; DESIGN CHOICE, log 123). -/
def State.seesMark (s : State) (q k j : Nat) : Bool :=
  let x := s.quad j
  decide (k ≤ x.marked.toNat)
    && (decide (j = q) || decide (256 * k + (if Config.markLate q j k then 3 else 2) ≤ x.count.toNat + markLead))

/-- Quadrant q has seen the marks of every quadrant of its partition for boundary k. -/
def State.allSeen (s : State) (q k : Nat) : Bool := (s.quadsOf (s.partOfQuad q)).all (s.seesMark q k)

def execDroopStretch (q : Fin 4) (s : State) : Outcome State Fault Refusal :=
  .next (if s.quadRuns q then
    { (s.setQuad q { s.quad q with owed := (s.quad q).owed + 1 }).bump (0x30F001 + 0x10000 * q.val) 1 with drooped := true }
  else s)

/-- The quadrant's stop count does not lie before count c. -/
def Quad.mayReach (x : Quad) (c : Nat) : Bool :=
  match x.stopAt with
  | some t => decide (c ≤ t.toNat)
  | none => true

def execBoundaryMark (q : Fin 4) (s : State) : Outcome State Fault Refusal :=
  .next (
    let x := s.quad q
    let c := 256 * x.next - markLead
    if s.quadRuns q && decide (x.marked.toNat < x.next) && decide (x.count.toNat ≤ c) && x.mayReach c then
      let s1 := s.passCycles q (c - x.count.toNat)
      s1.setQuad q { s1.quad q with marked := BitVec.ofNat 64 x.next }
    else s)

def execOrbitBoundary (q : Fin 4) (s : State) : Outcome State Fault Refusal :=
  .next (
    let x := s.quad q
    let c := 256 * x.next
    if s.quadRuns q && decide (x.marked.toNat = x.next) && decide (x.count.toNat ≤ c) && x.mayReach c then
      let s1 := s.passCycles q (c - x.count.toNat)
      if s1.allSeen q x.next then s1.setQuad q { s1.quad q with passed := BitVec.ofNat 64 x.next }
      else s1.setQuad q { s1.quad q with holding := true }
    else s)

/-- A slip fault at a quadrant (hold) or a bridge: the hub records it, so the record carries the count of the partition's lowest quadrant (01
R22; 08 R188). -/
def State.slip (s : State) (q uclass unit hold bridge : Nat) : State :=
  let s1 := s.raisePart 0x0402 2 uclass unit (s.partOfQuad q) 0 (hold % 256 + bridge * 2 ^ 8)
  (s1.bump (0x30F004 + 0x10000 * q) 1).chargeUncommitted (s.partOfQuad q) 2

def execOrbitHoldRelease (q : Fin 4) (periods : BitVec 8) (s : State) : Outcome State Fault Refusal :=
  .next (
    let x := s.quad q
    if x.holding && s.allSeen q x.next then
      let ref := 0x30F000 + 0x10000 * q.val
      let s1 := s.setQuad q { x with holding := false, passed := BitVec.ofNat 64 x.next }
      let s2 := (s1.bump (ref + 2) periods.toNat).setObj (ref + 3) (Nat.max (s1.obj (ref + 3)) periods.toNat)
      if 6 < periods.toNat then s2.slip q ucFabric q.val periods.toNat 0x1F else s2
    else s)

/-! ### One nanosecond -/

/-- Edges quadrant q makes of n offered, up to its next mark, its next boundary or its stop count. -/
def Quad.room (x : Quad) : Nat :=
  let lim := if x.marked.toNat < x.next then 256 * x.next - markLead else 256 * x.next
  let lim2 := match x.stopAt with | some t => Nat.min lim t.toNat | none => lim
  lim2 - x.count.toNat

def State.quadTick (s : State) (edges : Nat) (q : Nat) : State :=
  if s.quadRuns q then
    let x := s.quad q
    let lost := Nat.min x.owed edges
    (s.setQuad q { x with owed := x.owed - lost }).passCycles q (Nat.min (edges - lost) x.room)
  else s

/-- One nanosecond passes: the time base counts, and each running quadrant makes its edges at 7/5 per nanosecond. -/
def State.idleTick (s : State) : State :=
  let s1 := if s.timeLocked then { s with ns := s.ns + 1 } else s
  if s1.pllsOn then
    let ph := s1.phase + 7
    ([0, 1, 2, 3].foldl (fun (t : State) q => t.quadTick (ph / 5) q) { s1 with phase := ph % 5 }).hubTick
  else s1

end Sys2Proof.Machine
end

