-- ==== Sys2Proof/Machine/Hbm.lean ====
section
/-! DEFINITION. The HBM controllers: reads, writes, write-back, scrub, refresh, temperature, uncontained faults (09). -/

namespace Sys2Proof.Machine

open Sys2Proof Host

/-- A stack that is being zero-filled starts again from its first word (R220). -/
def State.refill (s : State) (k : Nat) : State := s.clearHbm (fun j => j == k)

/-- The controller can no longer tell which data is bad: a stack that is being zero-filled is filled again, any other resets its
partition (R213, R220). -/
def State.bufferError (s : State) (k : Nat) : State := if (s.stack k).zeroFilling then s.refill k else s.uncontained k 1

/-- A read reaches a controller; an uncorrectable error in its request buffer is an uncontained fault (R206 to R213). -/
def execHbmRead (k : Fin 20) (word : BitVec 30) (half : Option Bool) (who : Requester) (ecc : Ecc) (s : State) :
    Outcome State Fault Refusal :=
  .next (s.ifRuns (
    if !s.ownStack who k then s.outOfReach who word.toNat
    else if ecc = .buffer then (if s.serves k then s.bufferError k else s)
    else s.request k { who := who, word := word, half := half, write := none, ecc := ecc }))

def execHbmWrite (k : Fin 20) (word : BitVec 30) (half : Option Bool) (data : BitVec 512) (poison : Bool)
    (who : Requester) (s : State) : Outcome State Fault Refusal :=
  .next (s.ifRuns (
    if !s.ownStack who k then s.outOfReach who word.toNat
    else s.request k { who := who, word := word, half := half, write := some (data, poison), ecc := .clean }))

/-- The corrected word is written back unless a write to it came first; a refresh that is due goes first (R208, R209, R220). -/
def execWriteBack (k : Fin 20) (word : BitVec 30) (s : State) : Outcome State Fault Refusal :=
  .next (
    let x := s.stack k
    if s.serves k && x.writeBacks.contains word.toNat then
      ((s.setStack k { x with writeBacks := x.writeBacks.filter (fun w => w != word.toNat) }).serveRefresh k).moved k word.toNat 64
    else s)

/-- A scrub runs in an idle cycle, once everything that is ready is served, and is treated as a demand read; the pass is complete
after the stack's last word (R208, R209). -/
def execPatrolScrub (k : Fin 20) (word : BitVec 30) (ecc : Ecc) (s : State) : Outcome State Fault Refusal :=
  .next (if s.serves k && decide (ecc ≠ .buffer) then
    let s1 := ((s.serveReady k).checkWord k word.toNat ecc).moved k word.toNat 64
    if word.toNat = 2 ^ 30 - 1 then s1.bump (0x40100E + 256 * k.val) 1 else s1
  else s)

/-- A refresh falls due: the controller serves it before anything else that is ready, and one that stands still keeps it due
(R208, R216). -/
def execRefresh (k : Fin 20) (s : State) : Outcome State Fault Refusal :=
  .next (s.ifRuns (
    let s1 := s.setStack k { s.stack k with refreshDue := true }
    if s.serves k then s1.serveReady k else s1))

/-- The stack with the highest temperature, the lowest number among equals. -/
def State.hottestStack (s : State) : Nat :=
  (List.range 20).foldl (fun a k =>
    if signed 16 (s.obj (0x401001 + 256 * a)) < signed 16 (s.obj (0x401001 + 256 * k)) then k else a) 0

/-- Throttle level after a reading (R215). -/
def throttleNext (n : Nat) (t thr hys : Int) : Nat :=
  if thr * 10 ≤ t then Nat.min 4 (n + 1) else if t < (thr - hys) * 10 then n - 1 else n

/-- Refresh mode after a reading (R215); self-refresh stands. -/
def refreshNext (r : Nat) (t x2 hys : Int) : Nat :=
  if r = 2 then 2 else if x2 * 10 ≤ t then 1 else if t < (x2 - hys) * 10 then 0 else r

def execHbmTempPoll (k : Fin 20) (temp : Int) (s : State) : Outcome State Fault Refusal :=
  .next (s.ifRuns (
    let b := 0x401000 + 256 * k.val
    let t := BitVec.ofInt 16 temp
    let n := s.obj (b + 4)
    let r := s.obj (b + 3)
    let hys : Int := s.live 0x400103
    let n2 := throttleNext n temp (s.live 0x400102) hys
    let r2 := refreshNext r temp (s.live 0x400101) hys
    let s1 := (s.setObj (b + 1) t.toNat).setObj (b + 2) (maxT (BitVec.ofNat 16 (s.obj (b + 2))) t).toNat
    let s2 := s1.setObj 0x400006 s1.hottestStack
    let s3 := if n = 0 then s2 else s2.bump (b + 5) 1000000
    let s4 := (s3.setObj (b + 4) n2).setObj (b + 3) r2
    if n = n2 ∧ r = r2 then s4 else s4.raiseTemp (k / 5) 0x0307 0 ucHbm k (r2 + n2 * 2 ^ 4) t))
where
  maxT (a b : BitVec 16) : BitVec 16 := if a.toInt < b.toInt then b else a

/-- The stack is in use: ready or being zero-filled, its controller not held in reset (18 R425). -/
def State.stackUp (s : State) (k : Nat) : Bool :=
  !s.trip && (decide (s.obj (0x40100F + 256 * k) = 0) || decide (s.obj (0x40100F + 256 * k) = 3))

def execHbmRequestTimeout (k : Fin 20) (s : State) : Outcome State Fault Refusal :=
  .next (if s.stackUp k then s.uncontained k 3 else s)

def execCaParityError (k : Fin 20) (s : State) : Outcome State Fault Refusal :=
  .next (if s.stackUp k then s.uncontained k 2 else s)

def execPhyLockLoss (k : Fin 20) (s : State) : Outcome State Fault Refusal :=
  .next (if s.stackUp k then s.uncontained k 4 else s)

end Sys2Proof.Machine
end

