-- ==== Sys2Proof/Machine/Roster.lean ====
section
/-! DEFINITION. Who takes part in a job and over which links: rank, link and service entries of the manifest (12 R284 to R287),
queue pairs and their links (11 R249, R253), resending, the peer table (10 R239), the roll call's counts (10 R242), key
derivation (13 R321). -/

namespace Sys2Proof.Machine

open Sys2Proof

/-- Device links of the own rank, ascending. -/
def Part.ownLinks (x : Part) : List Nat := ((List.range x.paths).map x.linkOf).foldl (fun m k => insertSorted k m) []

/-- Ports assigned to the own rank, and the minimum width of a port (12, rank entry). -/
def Part.portsMask (x : Part) : Nat := field (x.rankEntry x.rank) 229 224
def Part.minLanes (x : Part) (port : Nat) : Nat := field (x.rankEntry x.rank) (232 + 4 * port + 3) (232 + 4 * port)

/-- Parties of the job: ranks, then services N + i (13 R321). -/
def Part.parties (x : Part) : Nat := x.ranks + x.services

/-- The other parties. -/
def Part.others (x : Part) : List Nat := (List.range x.parties).filter (fun q => q != x.rank)

/-! ### Links -/

def State.linkLanes (s : State) (k : Nat) : Nat := s.obj (0x504002 + 256 * k)

/-- The links of a port in its mode: numbers and nominal lanes (10 R222). -/
def portLinks (port mode : Nat) : List Nat := (List.range (2 ^ mode)).map (fun j => 8 * port + j * (8 / 2 ^ mode))

def portRef (p sub : Nat) : Nat := 0x500000 + 256 * p + sub
def linkRef (k sub : Nat) : Nat := 0x504000 + 256 * k + sub
def laneRef (l sub : Nat) : Nat := 0x501000 + 256 * l + sub

def State.portMode (s : State) (p : Nat) : Nat := s.obj (portRef p 1)

/-- Links of a port in its mode. -/
def State.linksOf (s : State) (p : Nat) : List Nat := portLinks p (s.portMode p)

/-- A link goes down and stays down: its lanes are no longer in use, frames that waited on it are lost (R226, R231). -/
def State.dropLink (s : State) (k : Nat) : State :=
  let s1 := (List.range' k (s.obj (linkRef k 1))).foldl (fun (t : State) l =>
    if t.obj (laneRef l 1) = 0 then t.setObj (laneRef l 1) 1 else t) s
  ((s1.setObj (linkRef k 2) 0).setObj (linkRef k 4) 0).setLink k
    { s.link k with attempt := none, pauses := 0, xoffSent := 0, waiting := [], asked := [], chassis := none, busy := 0, paced := 0 }

/-- The port stops: its links go down. -/
def State.portStop (s : State) (p : Nat) : State :=
  (s.linksOf p).foldl State.dropLink ((s.setObj (portRef p 5) 3).setObj (portRef p 4) 0)

/-- Links of the ports a partition's job is assigned, ascending. -/
def State.assignedLinks (s : State) (p : Nat) : List Nat :=
  (((List.range 6).filter (fun port => (s.part p).portsMask.testBit port)).map (fun port =>
    portLinks port (s.obj (0x500001 + 256 * port)))).flatten

/-- The first link of an assigned port that is down or narrower than its minimum (10 R232). -/
def State.narrowLink (s : State) (p : Nat) : Option Nat :=
  (s.assignedLinks p).find? (fun k => !s.linkUp k || decide (s.linkLanes k < (s.part p).minLanes (k / 8)))

/-! ### Receive buffers of a port (05 R133; 10 R226) -/

/-- Send XOFF or XON for one priority of a link, once. -/
def State.pfcSend (s : State) (k n : Nat) (xoff : Bool) : State :=
  let x := s.link k
  if x.xoffSent.getLsbD n = xoff then s
  else (s.setLink k { x with xoffSent := x.xoffSent ^^^ BitVec.ofNat 8 (2 ^ n) }).emit (.pfc k n xoff)

/-- XOFF below a quarter of the buffers free, XON above a half, for the priorities with PFC on. -/
def State.pfcCheck (s : State) (p port : Nat) : State :=
  let c := s.cloop (loopId 4 p port)
  let mask := s.obj (0x500007 + 256 * port)
  let links := (portLinks port (s.obj (0x500001 + 256 * port))).filter s.linkUp
  let prios := (List.range 8).filter mask.testBit
  let all (b : Bool) : State :=
    links.foldl (fun (t : State) k => prios.foldl (fun (u : State) n => u.pfcSend k n b) t) s
  let free := c.held.toNat + c.returned.toNat
  if 4 * free < c.issued.toNat then all true
  else if c.issued.toNat < 2 * free then all false else s

/-- The sender of a loop takes n units, when it holds them or their return is on its way (08 R189). -/
def State.loopTake (s : State) (l n : Nat) : State :=
  let c := s.cloop l
  if n ≤ c.held.toNat + c.returned.toNat then
    s.setCloop l { c with
      held := c.held + c.returned - BitVec.ofNat 32 n, returned := 0, lastFreed := c.lastFreed + c.returned
      inFlight := c.inFlight + BitVec.ofNat 32 n } else s

/-- n units of a loop move from in flight to returned. -/
def State.loopFree (s : State) (l n : Nat) : State :=
  let c := s.cloop l
  if n ≤ c.inFlight.toNat then
    s.setCloop l { c with inFlight := c.inFlight - BitVec.ofNat 32 n, returned := c.returned + BitVec.ofNat 32 n } else s

/-- The port has receive buffers for n packets (05 R133). -/
def State.buffersFree (s : State) (p port n : Nat) : Bool :=
  let c := s.cloop (loopId 4 p port)
  decide (n ≤ c.held.toNat + c.returned.toNat)

/-! ### Packets that arrive (10 R246; 17 R412) -/

/-- Loop of the receive buffers that hold a packet. -/
def HeldPacket.loop (h : HeldPacket) : Nat := loopId 4 h.part.val (h.link.val / 8)

/-- Packets go into the port's receive buffers while buffers are free; they are neither processed nor acknowledged. -/
def State.holdPacket (s : State) (h : HeldPacket) : State :=
  if s.buffersFree h.part (h.link.val / 8) h.count then
    ({ s with held := s.held ++ [h] }.loopTake h.loop h.count).pfcCheck h.part (h.link.val / 8)
  else s

/-- They leave the receive buffers. -/
def State.unhold (s : State) (h : HeldPacket) : State :=
  ({ s with held := s.held.erase h }.loopFree h.loop h.count).pfcCheck h.part (h.link.val / 8)

/-- The oldest packet held for a partition whose hub units run. -/
def State.heldNext (s : State) : Option HeldPacket := s.held.find? (fun h => !s.hubStopped h.part)

/-- n frames for partition p arrive on a link of a port: the MAC checks and counts them whatever else stands still, the port's owner takes
them, at once or, behind earlier ones, from its receive buffers once its hub units run (R412). -/
def State.arrives (s : State) (p : Fin 4) (f : Frame) (n : Nat) (cmd : Instr) (run : State → State) : State :=
  let r := s.rxFrame f n
  if !r.2 || decide (s.portOwner (f.k.val / 8) ≠ p) then r.1
  else if s.hubStopped p || s.held.any (fun h => h.part == p) then
    r.1.holdPacket { part := p, link := f.k, count := n, ns := s.ns, cmd := cmd }
  else run r.1

/-! ### Queue pairs (11 R249, 12 R287) -/

/-- Local QPNs of the job: four per rank but the own, L used; then those of the services. -/
def Part.jobQps (x : Part) : List Nat := (x.others.map (fun q => (List.range x.paths).map (fun l => 4 * q + l))).flatten

/-- Create a queue pair on its own link. -/
def Part.newQp (x : Part) (n : Nat) : Part :=
  x.setQp n { Qp.init with live := true, link := BitVec.ofNat 8 (x.linkOf (n % 4)) }

/-- Send again every packet not acknowledged, from the first (R251, R253). -/
def State.resend (s : State) (p qpn : Nat) : State :=
  ((s.part p).qp qpn).unacked.foldl (fun (t : State) m => t.sendMsg p qpn m true) s

/-- The next link up after k among the own links, in ascending order with wrap-around (R253). -/
def State.nextLink (s : State) (p k : Nat) : Option Nat :=
  let ls := (s.part p).ownLinks
  (ls.filter (fun j => decide (k < j)) ++ ls.filter (fun j => decide (j < k))).find? s.linkUp

/-- Move a queue pair off a link that is down. -/
def State.moveQp (s : State) (p qpn : Nat) : State :=
  let x := s.part p
  let q := x.qp qpn
  match s.nextLink p q.link.toNat with
  | none => s
  | some k => (s.setPart p (x.setQp qpn { q with link := BitVec.ofNat 8 k })).resend p qpn

/-- At a step boundary queue pairs return to their own link when it is up. -/
def State.qpsReturn (s : State) (p : Nat) : State :=
  (SMap.keys (s.part p).qps).foldl (fun (t : State) n =>
    let x := t.part p
    let q := x.qp n
    let own := x.linkOf (n % 4)
    if n < 0x4000 ∧ q.link.toNat ≠ own ∧ t.linkUp own then t.setPart p (x.setQp n { q with link := BitVec.ofNat 8 own }) else t) s

/-! ### The peer table (10 R239 to R243) -/

/-- Every entry but self is confirmed. -/
def Part.rollDone (x : Part) : Bool := (List.range x.ranks).all (fun r => r == x.rank || decide ((x.peer r).state = 4))

/-- Ranks not confirmed, ascending. -/
def Part.unconfirmed (x : Part) : List Nat :=
  (List.range x.ranks).filter (fun r => r != x.rank && decide ((x.peer r).state ≠ 4))

/-- A roll call is in progress. -/
def State.rolling (s : State) (p : Nat) : Bool := decide (s.obj (0x515002 + 256 * p) = 1)

/-- A roll call begins. -/
def State.startRoll (s : State) (p : Nat) : State :=
  (s.setObj (0x515002 + 256 * p) 1).modPart p (fun x => { x with rollNs := s.ns, rollMs := s.live 0x510004 })

/-- A confirmed entry becomes silent (R243). -/
def State.silence (s : State) (p r : Nat) : State :=
  let x := s.part p
  if (x.peer r).state = 4 then s.setPart p (x.setPeer r { x.peer r with state := 6 }) else s

/-! ### Keys (13 R321) -/

/-- Secret of a pair from the parties' ciphertexts and cards, a the lower code. -/
def pairKey (ssAb ssBa cardA cardB : Bytes) : Bytes :=
  shake256 (ascii "KWFJ" ++ ssAb ++ ssBa ++ digest256 cardA ++ digest256 cardB) 32

/-- AES-256 key and salt of one direction on a link index. -/
def espKey (k : Bytes) (src dst l : Nat) : Bytes := shake256 (ascii "KWFE" ++ k ++ leBytes 2 src ++ leBytes 2 dst ++ leBytes 1 l) 36

/-- The SPI of a receiver for a local QPN: 0x8000_0000 and the number (11 R254; 12 R287; 13 R318). -/
def rxSpi (qpn : Nat) : BitVec 32 := BitVec.ofNat 32 (0x80000000 + qpn)

/-- Install both directions of an association from a secret: own code, the other party's, link index, the receiver's SPI there. -/
def Part.installSa (x : Part) (k : Bytes) (own other l qpn : Nat) (spi : BitVec 32) : Part :=
  (x.setSa (2 * qpn) { Sa.init with key := espKey k own other l, spi := spi }).setSa (2 * qpn + 1)
    { Sa.init with key := espKey k other own l, spi := rxSpi qpn }

/-- Install the associations with a party of the job, one for each link index (11 R254; 12 R287). A peer receives as R254 states; a
service's SPI for this rank is presumed to follow it (PRESUMED, log 85). -/
def Part.installParty (x : Part) (k : Bytes) (party : Nat) : Part :=
  (List.range x.paths).foldl (fun y l => y.installSa k x.rank party l (4 * party + l) (rxSpi (4 * x.rank + l))) x

/-- Remove the associations with a party. -/
def Part.dropParty (x : Part) (party : Nat) : Part :=
  { x with sas := SMap.drop (fun a => decide (a / 8 = party) && decide (a < 0x8000)) x.sas }

/-- An association with a party is installed. -/
def Part.hasKey (x : Part) (party : Nat) : Bool := SMap.get [] x.pairKeys party != []

/-! ### Amendments at a boundary (10 R244) -/

/-- Key of the exchange with the new holder of a rank, before the boundary. -/
def heldParty (r : Nat) : Nat := 0x10000 + r

def Amend.rank (a : Amend) : Nat := field a.bits.toNat 271 256
def Amend.epoch (a : Amend) : Nat := field a.bits.toNat 287 272
def Amend.start (a : Amend) : Nat := field a.bits.toNat 335 288
def Amend.addr (a : Amend) : Nat := field a.bits.toNat 463 336
def Amend.ident (a : Amend) : Nat := field a.bits.toNat 527 464
def Amend.ckpt (a : Amend) : Nat := field a.bits.toNat 783 528
def Amend.part (a : Amend) : Nat := field a.bits.toNat 791 784
def Amend.roll (a : Amend) : Nat := field a.bits.toNat 807 792

/-- A roll call of an amendment begins: ROLL counts (R244). -/
def State.nextRoll (s : State) (p : Nat) : State := (s.bump (0x515001 + 256 * p) 1).startRoll p

/-- A roll call is in progress, or waits for an association (R242, R244). -/
def State.rollPending (s : State) (p : Nat) : Bool := s.rolling p || (s.part p).rollOwed != []

/-- The amendment takes effect: the departed holder's queue pairs and association go, the entry is listed with the new
holder, its association is installed, ROLL counts and a roll call begins. Where the key exchange with the new holder is not done yet, the
association and what follows it wait for it (DESIGN CHOICE, log 127). -/
def State.amendRank (s : State) (p : Nat) (a : Amend) : State :=
  let r := a.rank
  let mine := fun n => decide (n / 4 = r) && decide (n < 0x4000)
  let s1 := s.modPart p (fun x =>
    let x1 := { x with qps := SMap.drop mine x.qps
                       pairKeys := SMap.set [] (SMap.set [] x.pairKeys r (SMap.get [] x.pairKeys (heldParty r))) (heldParty r) []
                       pairs := SMap.set .init (SMap.set .init x.pairs r (SMap.get .init x.pairs (heldParty r))) (heldParty r) .init
                       amends := x.amends.filter (fun b => b != a) }
    let x2 := (List.range x.paths).foldl (fun y l => y.newQp (4 * r + l)) (if x1.hasKey r then (x1.dropParty r).installParty
      (SMap.get [] x1.pairKeys r) r else x1.dropParty r)
    x2.setPeer r { x2.peer r with addr := BitVec.ofNat 128 a.addr, ident := BitVec.ofNat 64 a.ident, epoch := BitVec.ofNat 16 a.epoch
                                  state := 2, links := 0, heard := 0, part := BitVec.ofNat 8 a.part })
  let s2 := { s1 with cloops := SMap.drop (fun l => l / 2 ^ 24 == 5 && l / 2 ^ 22 % 4 == p && mine (l % 65536)) s1.cloops }
  if (s2.part p).hasKey r then s2.nextRoll p else s2.modPart p (fun x => { x with rollOwed := x.rollOwed ++ [r] })

end Sys2Proof.Machine
end

