-- ==== Sys2Proof/Machine/Queues.lean ====
section
/-! DEFINITION. Dual-clock queues and credit returns (08 R189 to R198), and what the hub does with an item it takes from
a bridge or trace queue (08 R183; 17 R408). -/

namespace Sys2Proof.Machine

open Sys2Proof Host

/-- A loss on a credited path breaks its loop and is reported at once (R136, R197). -/
def State.reportLoss (s : State) (q : Nat) : State :=
  (s.raisePart 0x0403 3 ucQueue q (s.queueHome q) 0 q).violate (s.queueHome q) (s.queueLoop q)

/-- n items of a credited queue's loop were lost or flushed before they were popped. -/
def State.loopLost (s : State) (q n : Nat) : State :=
  let c := s.cloop (s.queueLoop q)
  s.setCloop (s.queueLoop q) { c with inFlight := c.inFlight - BitVec.ofNat 32 n }

/-- A credited queue overwrote an item (R136, R192). -/
def State.creditedLoss (s : State) (q : Nat) : State :=
  (((s.bump 0x804003 1).setObj 0x804005 q).loopLost q 1).reportLoss q

/-- n items of a queue under FLUSH are counted; on a credited path that is a loss too (R196, R197). -/
def State.flushedItems (s : State) (q n : Nat) : State :=
  let s1 := s.bump 0x804006 n
  if queueObserves q ∨ n = 0 then s1 else (s1.loopLost q n).reportLoss q

/-- What a push stores: NV is no matter of the producer (R190), and every item of an observation queue has END set (R197). -/
def storedItem (q : Nat) (i : QItem) : QItem := { i with nv := false, endp := i.endp || queueObserves q }

/-- Push an item (R191, R192): never refused, never waits; a full queue loses its oldest item. -/
def State.pushItem (s : State) (q : Nat) (item : QItem) : State :=
  let i := storedItem q item
  let d := s.dcq q
  let n := queueDepth q
  if n = 0 then s
  else if d.flushing then
    ((s.setDcq q { d with pushed := d.pushed + 1, flushed := d.flushed + 1, inPacket := !i.endp, cut := !i.endp }).loopMoved
      q 1 0).flushedItems q 1
  else if d.cut then s.setDcq q { d with cut := !i.endp, inPacket := !i.endp }
  else
    let s1 := (s.setDcq q (d.push n i)).loopMoved q 1 0
    if d.items.length < n then s1
    else if queueObserves q then s1.bump 0x804004 1 else s1.creditedLoss q

/-- The quadrant on whose clock a queue's producer, or its consumer, stands; none for the hub, a stack, a port or a steward. -/
def queueQuad (q : Nat) (consumer : Bool) : Option Nat :=
  if q ≤ 0x1F then (if (q % 2 = 1) = consumer then some (q / 8) else none)
  else if 0x100 ≤ q ∧ q ≤ 0x127 then (if (q % 2 = 1) = consumer then some ((q - 0x100) / 10) else none)
  else if 0x400 ≤ q ∧ q ≤ 0x403 then (if consumer then none else some (q - 0x400))
  else none

/-- That side of a queue acts: units are out of reset, and its quadrant's clock runs (15 R362; 17 R411; 18 R425). -/
def State.queueSide (s : State) (q : Nat) (consumer : Bool) : Bool :=
  s.pwrok && !s.trip && (match queueQuad q consumer with | some x => s.quadRuns x | none => true)

/-- The producer pushes an item; `lag` is how many of the freed entries its synchronised read pointer still hides (R191). -/
def execQueuePush (q : BitVec 16) (item : QItem) (lag : BitVec 8) (s : State) : Outcome State Fault Refusal :=
  .next (if s.queueSide q.toNat false then
    let d := s.dcq q.toNat
    (s.setDcq q.toNat { d with unfreed := Nat.min d.unfreed lag.toNat }).pushItem q.toNat item
  else s)

/-! ### Words through the hub (R183) -/

/-- A fabric word as a queue item's payload: 512 payload bits, then the sideband. -/
def FWordNat (w : FWord) : Nat := w.payload.toNat + w.side.toNat * 2 ^ 512

def natFWord (x : Nat) : FWord := { payload := BitVec.ofNat 512 x, side := BitVec.ofNat 64 (x / 2 ^ 512) }

def sideClass (w : FWord) : Nat := field w.side.toNat 9 8
def sideStream (w : FWord) : Nat := w.side.toNat % 256
def sidePoison (w : FWord) : Bool := w.side.toNat.testBit 10
def destCol (w : FWord) : Nat := field w.side.toNat 16 12
def destRow (w : FWord) : Nat := field w.side.toNat 21 17
def destQuad (w : FWord) : Nat := field w.side.toNat 23 22
def sideSend (w : FWord) : Nat := field w.side.toNat 39 24

/-- The CRC of a word is right (R175). -/
def crcOk (w : FWord) : Bool := decide (field w.side.toNat 55 40 = fabricCrc w.payload.toNat w.side.toNat)

/-- Give a word the CRC of its payload and sideband. -/
def FWordSeal (payload : Nat) (side : Nat) : FWord :=
  { payload := BitVec.ofNat 512 payload
    side := BitVec.ofNat 64 (side % 2 ^ 40 + fabricCrc (payload % 2 ^ 512) side * 2 ^ 40) }

/-- A word with a poison tag: the tag enters the sideband (R82, R195). -/
def FWordTag (w : FWord) (poison : Bool) : FWord :=
  if poison && !sidePoison w then FWordSeal w.payload.toNat (w.side.toNat + 2 ^ 10) else w

def wordItem (w : FWord) : QItem :=
  { payload := FWordNat w, endp := w.side.toNat.testBit 11, poison := sidePoison w, nv := false, gap := false }

/-- Last logical column of a quadrant under the image that runs (R175). -/
def State.runCols (s : State) (q : Nat) : Nat := if s.runLooms (s.partOfQuad q) = 1600 then 20 else 25

/-- Put a word at a router input. -/
def State.putWord (s : State) (q : Nat) (w : RWord) : State := s.setQuad q { s.quad q with words := (s.quad q).words ++ [w] }

/-- Number of a router's input in the replay tables. -/
def inputKey (r c input : Nat) : Nat := (25 * r + c) * 6 + input

/-- A credited word goes to a router input: the sender keeps the word it sent in its 8-word replay buffer, `got` is what the link
delivers (R176). -/
def State.putCredited (s : State) (q r c input : Nat) (sent got : FWord) : State :=
  let x := s.quad q
  let k := inputKey r c input
  let n := SMap.get 0 x.sent k
  let s1 := s.setQuad q { x with
    sent := SMap.set 0 x.sent k ((n + 1) % 8), replay := SMap.set { payload := 0, side := 0 } x.replay (8 * k + n) sent }
  s1.putWord q { r := Fin.ofNat 20 r, c := Fin.ofNat 25 c, input := BitVec.ofNat 3 input, slot := 0, tag := BitVec.ofNat 3 n, word := got }

/-- The bridge that the hub sends a credited word to: the one of the same index at the quadrant in DEST (DESIGN CHOICE,
log 12). -/
def hubTarget (n : Nat) (w : FWord) : Nat := 4 * destQuad w + n % 4

/-- The hub forwards a credited word to its destination bridge, or drops one for another partition (R183). -/
def State.hubForward (s : State) (n : Nat) (w : FWord) : State :=
  let p := s.partOfQuad (n / 4)
  let s1 := s.freeCredit (s.bridgeLoop n 0)
  if s1.partOfQuad (destQuad w) ≠ p then s1.raisePart 0x0102 3 ucBridge n p 0 0
  else (s1.takeCredit (s1.bridgeLoop (hubTarget n w) 1)).pushItem (2 * hubTarget n w + 1) (wordItem w)

/-- A credited word leaves the hub's queue and enters the mesh at the bridge node. -/
def State.bridgeEnters (s : State) (n : Nat) (w : FWord) : State :=
  let q := n / 4
  let s1 := s.freeCredit (s.bridgeLoop n 1)
  s1.putCredited q (5 * (n % 4) + 2) (s.runCols q - 1) 5 w w

/-- The hub can take the word: it holds a credit of the destination bridge and of the queue to it, or the word is dropped (R189). -/
def State.hubTakes (s : State) (q : Nat) (i : QItem) : Bool :=
  if q < 0x20 ∧ q % 2 = 0 then
    let w := natFWord i.payload
    decide (sideClass w ≠ 1) || decide (s.partOfQuad (destQuad w) ≠ s.partOfQuad (q / 8))
      || (decide (0 < (s.cloop (s.bridgeLoop (hubTarget (q / 2) w) 1)).held.toNat)
        && decide (0 < s.queueCredits (2 * hubTarget (q / 2) w + 1)))
  else true

/-- What the consumer does with the item it took; poison that ECC set travels with a word (R82, R195). -/
def State.consumeItem (s : State) (q : Nat) (i : QItem) : State :=
  let w := FWordTag (natFWord i.payload) i.poison
  if q < 0x20 ∧ sideClass w = 1 then (if q % 2 = 0 then s.hubForward (q / 2) w else s.bridgeEnters (q / 2) w)
  else if queueObserves q then
    let s1 := s.ringPut (i.payload % 2 ^ 256)
    if i.payload / 2 ^ 256 % 2 ^ 256 = 0 then s1 else s1.ringPut (i.payload / 2 ^ 256 % 2 ^ 256)
  else s

/-! ### Pops (R193 to R195) -/

/-- The item a read from an empty queue returns. -/
def nvItem : QItem := { payload := 0, endp := false, poison := false, nv := true, gap := false }

/-- A count that saturates at 0xFFFF_FFFF. -/
def satInc (x : BitVec 32) : BitVec 32 := if x = BitVec.allOnes 32 then x else x + 1

/-- The quadrant on whose die an item is read: that of the bridge or of the stack (01 R12, R22). -/
def readQuad (q : Nat) : Option Nat :=
  if q ≤ 0x1F ∧ q % 2 = 1 then some (q / 8) else if 0x100 ≤ q ∧ q ≤ 0x127 then some ((q - 0x100) / 10) else none

/-- What ECC finds in the item delivered (R195). -/
def State.itemEcc (s : State) (q : Nat) (ecc : Ecc) : State :=
  let d := s.dcq q
  let rec_ (t : State) (code sev detail : Nat) : State :=
    t.raise { code := code, sev := sev, uclass := ucQueue, unit := q, part := s.queueHome q, op := 0, detail := detail, quad := readQuad q }
  match ecc with
  | .single => rec_ ((s.setDcq q { d with corrected := satInc d.corrected }).bump 0x804001 1) 0x0301 1 (q * 2 ^ 32)
  | .multi =>
    rec_ ((s.setDcq q { d with poisoned := satInc d.poisoned }).bump 0x804002 1) 0x0302 2
      (q + d.rptr % Nat.max 1 (queueDepth q) * 2 ^ 32)
  | _ => s

/-- The consumer pops an item; `lag` is how many of the held items its synchronised write pointer still hides (R191). -/
def execQueuePop (q : BitVec 16) (ecc : Ecc) (lag : BitVec 8) (s : State) : Outcome State Fault Refusal :=
  .next (
    let n := q.toNat
    let d0 := s.dcq n
    let d := { d0 with unseen := Nat.min d0.unseen lag.toNat }
    if queueDepth n = 0 ∨ !s.queueSide n true then s
    else match d.items with
      | [] => s.emit (.item n nvItem)
      | i :: t =>
        if d.flushing || d.empty then (s.setDcq n d).emit (.item n nvItem)
        else if !s.hubTakes n i then s
        else
          let out := { i with gap := d.gapOwed, poison := i.poison || decide (ecc = .multi) }
          let s0 := s.itemEcc n ecc
          let s1 := s0.setDcq n { s0.dcq n with
            items := t, rptr := (d.rptr + 1) % (2 * queueDepth n), popped := d.popped + 1, gapOwed := false, unseen := d.unseen
            unfreed := d.unfreed + 1, ghosts := 0 }
          (((s1.loopMoved n 0 1).emit (.item n out)).consumeItem n out).releaseQueue n)

/-! ### FLUSH (R196) -/

/-- FLUSH is set: the items held are dropped; on a credited path the flush itself is a loss that is reported at once, and what the queue drops
from then on belongs to it (R196, R197; DEDUCED, log 108). -/
def execFlush (q : BitVec 16) (s : State) : Outcome State Fault Refusal :=
  .next (s.ifRuns (
    let n := q.toNat
    let d := s.dcq n
    if queueDepth n = 0 ∨ d.flushing then s
    else
      let k := d.items.length
      let s1 := (s.setDcq n { d.flushed_ with flushing := true }).bump 0x804006 k
      if queueObserves n then s1 else (s1.loopLost n k).reportLoss n))

/-- FLUSH ends: a sender that waited for room goes on (R189). -/
def execFlushEnd (q : BitVec 16) (s : State) : Outcome State Fault Refusal :=
  .next (s.ifRuns (if (s.dcq q.toNat).flushing then (s.setDcq q.toNat { s.dcq q.toNat with flushing := false }).releaseQueue q.toNat
    else s))

/-! ### Credit returns (R189) -/

/-- The sender regains the difference between successive readings of the freed count. A queue's loop keeps what was popped in its
returned count, so there only the reading moves (R133, R189); credits of a stack go back to the oldest holders (DESIGN CHOICE, log 22),
and requests that wait for a grant get theirs (09 R207). -/
def execCreditReturn (loop : BitVec 32) (freed : BitVec 32) (s : State) : Outcome State Fault Refusal :=
  .next (s.ifRuns (
    let l := loop.toNat
    let cls := l / 2 ^ 24
    let c := s.cloop l
    let n := freed - c.lastFreed
    if cls = 8 then
      if n ≤ c.returned - c.lastFreed then s.setCloop l { c with lastFreed := freed } else s
    else if n ≤ c.returned ∧ cls ∉ [5, 6] then
      let s1 := s.setCloop l { c with returned := c.returned - n, held := c.held + n, lastFreed := freed }
      let k := l % 2 ^ 16
      if cls = 4 then s1.pfcCheck (l / 2 ^ 22 % 4) k
      else if cls = 1 then (s1.setStack k { s1.stack k with owners := (s1.stack k).owners.drop n.toNat }).serveAsking k
      else if cls = 7 then s1.serveAsking k
      else s1
    else s))

end Sys2Proof.Machine
end

