-- ==== Sys2Proof/Machine/Streams.lean ====
section
/-! DEFINITION. Slots and streams, and the routes that slot tables give a stream through routers and bridges (04 R97, R102;
08 R177 to R183). Every definition that walks a route takes the table as an argument: LOAD walks the image's, a running machine its
looms'. -/

namespace Sys2Proof.Machine

open Sys2Proof

/-- HOP, INJECT, EJECT and BRIDGE of the fabric latency entries (R180). A hop costs the same whatever the repair map: no definition of
the fabric reads the map, and every position is a logical one (01 R11). -/
def hopCycles : Nat := 3
def injectCycles : Nat := 2
def ejectCycles : Nat := 2
def bridgeCycles : Nat := 48

/-- Slots reserved for observation words: the last of every 32 (04 R102). -/
def slotReserved (t : Nat) : Bool := decide (t % 32 = 31)

/-- A slot-table entry without an owner, which an unlisted entry reads as (DESIGN CHOICE, log 8). -/
def noOwner : BitVec 16 := 0x00FF

def entryStream (e : BitVec 16) : Nat := e.toNat % 256
def entryIn (e : BitVec 16) : Nat := field e.toNat 10 8

/-- The router next to (r, c) through an output, with the input it arrives on; none at the mesh's edge. -/
def neighbour (cols r c o : Nat) : Option (Nat × Nat × Nat) :=
  if o = 1 then (if r = 0 then none else some (r - 1, c, 3))
  else if o = 2 then (if c + 1 < cols then some (r, c + 1, 4) else none)
  else if o = 3 then (if r + 1 < 20 then some (r + 1, c, 1) else none)
  else if o = 4 then (if c = 0 then none else some (r, c - 1, 2))
  else none

/-- The loom of a router. -/
def loomAt (q r c : Nat) : LoomId := { q := Fin.ofNat 4 q, r := Fin.ofNat 20 r, c := Fin.ofNat 25 c }

/-- A slot table of every router: the entry of a loom's router, output and slot. -/
abbrev SlotTables := LoomId → Nat → Nat → BitVec 16

/-- Where the hub sends a slotted word of a bridge in a slot of its hub-facing output (R183). -/
def hubDestOf (i : Option Image) (n slot : Nat) : Option Nat :=
  match i with
  | none => none
  | some x => (x.hubDest.find? (fun e => e.1.val == n && e.2.1.toNat == slot)).map (·.2.2.val)

/-- A router's input: quadrant, row, column, input. -/
abbrev RouterInput := Nat × Nat × Nat × Nat

/-- The router input at which bridge m forwards words onto the mesh. -/
def bridgeInput (cols m : Nat) : RouterInput := (m / 4, 5 * (m % 4) + 2, cols - 1, 5)

/-- The entry gives its slot to the stream from the input. -/
def entryNames (e : BitVec 16) (stream inp : Nat) : Bool := entryStream e == stream && entryIn e == inp && stream != 255

/-- Slots in which an output of a router carries a stream from an input. -/
def slotsNaming (tab : SlotTables) (x : RouterInput) (stream o : Nat) : List Nat :=
  (List.range 256).filter (fun t => entryNames (tab (loomAt x.1 x.2.1 x.2.2.1) o t) stream x.2.2.2)

/-- Router inputs that a stream reaches next from one: links of the mesh, and bridges through the hub. -/
def streamNext (tab : SlotTables) (dest : Nat → Nat → Option Nat) (cols stream : Nat) (x : RouterInput) : List RouterInput :=
  let links := [1, 2, 3, 4].filterMap (fun o =>
    if slotsNaming tab x stream o = [] then none
    else (neighbour cols x.2.1 x.2.2.1 o).map (fun y => (x.1, y.1, y.2.1, y.2.2)))
  let bridges := (slotsNaming tab x stream 5).filterMap (fun t =>
    (dest (bridgeOf x.1 x.2.1) ((t + hopCycles) % 256)).map (bridgeInput cols))
  links ++ bridges.eraseDups

/-- Every router input that a stream reaches from a set of them, in at most `fuel` hops. -/
def streamSpread (tab : SlotTables) (dest : Nat → Nat → Option Nat) (cols stream : Nat) :
    Nat → List RouterInput → List RouterInput → List RouterInput
  | 0, _, seen => seen
  | f + 1, front, seen =>
    let next := ((front.map (streamNext tab dest cols stream)).flatten.eraseDups).filter (fun y => !seen.contains y)
    if next = [] then seen else streamSpread tab dest cols stream f next (seen ++ next)

/-- Hops of the longest route: every input of every router once. -/
def routeFuel : Nat := 12000

/-- Looms that a stream reaches from a router input. -/
def streamLooms (tab : SlotTables) (dest : Nat → Nat → Option Nat) (cols stream : Nat) (x : RouterInput) : List LoomId :=
  let seen := streamSpread tab dest cols stream routeFuel [x] [x]
  ((seen.filter (fun y => slotsNaming tab y stream 0 != [])).map (fun y => loomAt y.1 y.2.1 y.2.2.1)).eraseDups

/-- A stream stays in its quadrant and leads to a loom of it (04 R97). -/
def streamStays (tab : SlotTables) (cols stream : Nat) (l : LoomId) : Bool :=
  let x : RouterInput := (l.q.val, l.r.val, l.c.val, 0)
  let seen := streamSpread tab (fun _ _ => none) cols stream routeFuel [x] [x]
  seen.any (fun y => slotsNaming tab y stream 0 != []) && seen.all (fun y => slotsNaming tab y stream 5 == [])

end Sys2Proof.Machine
end

