-- ==== Sys2Proof/Machine/Fabric.lean ====
section
/-! DEFINITION. The quadrant mesh and the die bridges (08 R174 to R185): slotted, credited and observation words. -/

namespace Sys2Proof.Machine

open Sys2Proof Host

/-- The slot of quadrant q's present cycle (04 R102). -/
def State.slotNow (s : State) (q : Nat) : Nat :=
  ((s.quad q).count - (s.part (s.partOfQuad q)).startCount).toNat % 256

/-- Slot-table entry of output o in slot t at a router (R177). -/
def State.slotEntry (s : State) (l : LoomId) (o t : Nat) : BitVec 16 := SMap.get noOwner (s.loom l).streamTab (256 * o + t)

/-! ### Chain words at the loom's own router (03 R71, R72) -/

/-- Stream a chain role sends on; none at the final position. -/
def ChainRole.outStream (x : ChainRole) : Option Nat :=
  if field x.desc.toNat 37 32 = field x.desc.toNat 45 40 then none else some (field x.desc.toNat 79 72)

/-- The chain word of four accumulators, 4 × k onward (R71). -/
def chainPayload (acc : SMap A96) (k : Nat) : Nat :=
  (List.range 4).foldl (fun a j => a + (SMap.get A96.zero acc (4 * k + j)).slot * 2 ^ (128 * j)) 0

/-- Poison of the four accumulators of chain word k: that of their row (R82). -/
def OutSet.wordPoison (x : OutSet) (k : Nat) : Nat := SMap.get 0 x.poison (k / 16)

/-- The next word a loom has ready INJECT cycles before the slot of count `c` for its outgoing stream, its place in the block, and the loom
after it has left (03 R71, R72; R178). -/
def Loom.readyWord (x : Loom) (stream : Nat) (c : BitVec 64) : Option (FWord × BitVec 10 × Loom) :=
  match x.role with
  | none => none
  | some r =>
    if r.outStream ≠ some stream then none
    else if field r.desc.toNat 37 32 = 0 then
      (if x.shadow.full ∧ r.passed < 1024 ∧ r.since.toNat + injectCycles ≤ c.toNat then
        some (FWordSeal (chainPayload x.shadow.acc r.passed) (stream + (if x.shadow.wordPoison r.passed = 0 then 0 else 2 ^ 10)),
          BitVec.ofNat 10 r.passed, { x with role := some { r with passed := r.passed + 1 } })
       else none)
    else match r.held with
      | [] => none
      | h :: t =>
        if h.ready.toNat + injectCycles ≤ c.toNat then
          some (h.word, BitVec.ofNat 10 h.idx, { x with role := some { r with held := t, passed := r.passed + 1 } })
        else none

/-! ### Discarded words and the misses they leave (R176, R179; 04 R103, R104) -/

/-- Where slotted words of quadrant q's partition go from a bridge's hub-facing output. -/
def State.hubDest (s : State) (q n slot : Nat) : Option Nat := hubDestOf (s.part (s.partOfQuad q)).image n slot

/-- A slot miss at a loom: counted, recorded, and the block it belongs to fails its verdict (04 R104). -/
def State.slotMiss (s : State) (l : LoomId) (stream slot : Nat) : State :=
  let s1 := (s.bump (0x30F006 + 0x10000 * l.q.val) 1).raiseQuad l.q 0x0105 2 ucLoom (s.loomNo l) 0 (stream + slot * 2 ^ 24)
  s1.setLoom l { s1.loom l with slotMissed := true }

/-- The looms that a discarded word would have reached from a router input, across bridges too, meet a slot miss. -/
def State.missFrom (s : State) (x : RouterInput) (stream slot : Nat) : State :=
  (streamLooms s.slotEntry (s.hubDest x.1) (s.runCols x.1) stream x).foldl (fun (t : State) d => t.slotMiss d stream slot) s

def State.missBeyond (s : State) (l : LoomId) (stream inp slot : Nat) : State :=
  s.missFrom (l.q.val, l.r.val, l.c.val, inp) stream slot

/-- Sums of a chain hop become ready up to count `c`: each takes a place in the hold of 8, or is discarded (03 R72). -/
def promote (c : BitVec 64) (held : List HeldSum) : List HeldSum → List HeldSum × Nat
  | [] => (held, 0)
  | h :: t =>
    if c < h.ready then promote c held t
    else if held.length < 8 then promote c (held ++ [h]) t
    else ((promote c held t).1, (promote c held t).2 + 1)

/-- Sums that are ready by now enter the hold of a chain hop; one that finds it full is a slot miss (03 R72). -/
def State.promoteSums (s : State) (l : LoomId) : State :=
  let x := s.loom l
  match x.role with
  | none => s
  | some r =>
    let c := (s.quad l.q).count
    let h := promote c r.held r.coming
    let s1 := s.setLoom l { x with role := some { r with held := h.1, coming := r.coming.filter (fun y => decide (c < y.ready)) } }
    (List.range h.2).foldl (fun (t : State) _ => t.slotMiss l (r.outStream.getD 255) (t.slotNow l.q)) s1

/-! ### Words that leave a router -/

/-- What a link delivers of a word: `noise` is the error it adds to the payload. -/
def noisy (w : FWord) (noise : Word512) : FWord := { w with payload := w.payload ^^^ noise }

/-- Key of a router's output in the rotation and in the record of used slots. -/
def rotationKey (l : LoomId) (o : Nat) : Nat := (25 * l.r.val + l.c.val) * 6 + o

/-- A word has left by the output in the slot of the present count (04 R102; R181, R199). -/
def State.outUsed (s : State) (l : LoomId) (o : Nat) : Bool :=
  decide (SMap.get 0 (s.quad l.q).used (rotationKey l o) = (s.quad l.q).count.toNat + 1)

def State.useOut (s : State) (l : LoomId) (o : Nat) : State :=
  s.setQuad l.q { s.quad l.q with used := SMap.set 0 (s.quad l.q).used (rotationKey l o) ((s.quad l.q).count.toNat + 1) }

/-- A slotted word with SEND: the low bits of the count for the slot in which it leaves the bridge node (R175, R184). -/
def FWordSend (w : FWord) (count : Nat) : FWord := FWordSeal w.payload.toNat (w.side.toNat % 2 ^ 24 + count % 2 ^ 16 * 2 ^ 24)

/-- A slotted word leaves its quadrant by the bridge beside the router: stamped, through the queue to the hub, on its way to the bridge
that the slot table of the hub-facing output names. One without such a bridge is a slot collision there; one for another
partition's bridge is dropped and reported (R179, R183, R184). -/
def State.toBridge (s : State) (l : LoomId) (t : Nat) (w got : FWord) : State :=
  let n := bridgeOf l.q l.r
  let slot := (t + hopCycles) % 256
  let sent := FWordSend w ((s.quad l.q).count.toNat + hopCycles)
  let word := if crcOk got then sent else { sent with payload := got.payload }
  match s.hubDest l.q n slot with
  | none => (s.bump (0x30F005 + 0x10000 * l.q.val) 1).raiseQuad l.q 0x0104 2 ucBridge n 0 (sideStream w + 0xFF * 2 ^ 8 + slot * 2 ^ 24)
  | some m =>
    if s.partOfQuad (m / 4) ≠ s.partOfQuad l.q then s.raisePart 0x0102 3 ucBridge n (s.partOfQuad l.q) 0 0
    else if s.queueTakes (2 * n) then
      let s1 := s.passQueue (2 * n) 1
      { s1 with bridgeAir := SMap.set [] s1.bridgeAir m (SMap.get [] s1.bridgeAir m ++ [word]) }
    else (s.pushItem (2 * n) (wordItem word)).missFrom (bridgeInput (s.runCols l.q) m) (sideStream w) slot

/-- Send a slotted or observation word, at its place in its block, out of an output in slot t. -/
def State.leaves (s : State) (l : LoomId) (o t : Nat) (w : FWord) (place : BitVec 10) (noise : Word512) : State :=
  let s1 := s.useOut l o
  if o = 0 then
    s1.setLoom l { s1.loom l with rxBuf := (s1.loom l).rxBuf ++
      [{ stream := BitVec.ofNat 8 (sideStream w), word := w, since := (s1.quad l.q).count + BitVec.ofNat 64 ejectCycles, place := place }] }
  else if o = 5 then s1.toBridge l t w (noisy w noise)
  else match neighbour (s1.runCols l.q) l.r l.c o with
    | some (r, c, i) =>
      s1.putWord l.q { r := Fin.ofNat 20 r, c := Fin.ofNat 25 c, input := BitVec.ofNat 3 i, slot := BitVec.ofNat 8 (t + hopCycles)
                       tag := 0, word := noisy w noise, place := place }
    | none => s1

/-! ### Slotted words (R178, R179) -/

/-- Slotted words waiting at a router whose slot is t. -/
def Quad.slottedAt (x : Quad) (r : Fin 20) (c : Fin 25) (t : Nat) : List RWord :=
  x.words.filter (fun w => decide (w.r = r) && decide (w.c = c) && decide (sideClass w.word = 0) && decide (w.slot.toNat = t))

/-- An output's owner in slot t has a word there. -/
def State.slotOwned (s : State) (l : LoomId) (ws : List RWord) (o t : Nat) : Bool :=
  let e := s.slotEntry l o t
  if entryStream e = 255 then false
  else if entryIn e = 0 then ((s.loom l).readyWord (entryStream e) (s.quad l.q).count).isSome
  else ws.any (fun w => entryNames e (sideStream w.word) w.input.toNat)

/-- The discarded word's report: the stream that owns an output it contends for, or 0xFF (R103, R179). Routers carry the number 500q + 25r + c
in records (DESIGN CHOICE, log 118). -/
def State.collide (s : State) (l : LoomId) (ws : List RWord) (t : Nat) (w : RWord) : State :=
  let x : RouterInput := (l.q.val, l.r.val, l.c.val, w.input.toNat)
  let outs := (List.range 6).filter (fun o => slotsNaming s.slotEntry x (sideStream w.word) o != [])
  let rival := outs.find? (fun o => s.slotOwned l ws o t)
  let other := match rival with | some o => entryStream (s.slotEntry l o t) | none => 255
  let s1 := s.bump (0x30F005 + 0x10000 * l.q.val) 1
  let s2 := s1.raiseQuad l.q 0x0104 2 ucFabric (loomKey l) 0
    (sideStream w.word + other * 2 ^ 8 + rival.getD 0 * 2 ^ 16 + t * 2 ^ 24)
  s2.missBeyond l (sideStream w.word) w.input.toNat t

/-- A slotted word whose CRC fails is discarded (R176). The records of one command enter in the order of their codes (16 R390). -/
def State.crcDrop (s : State) (l : LoomId) (t : Nat) (w : RWord) : State :=
  ((s.bump (0x30F007 + 0x10000 * l.q.val) 1).missBeyond l (sideStream w.word) w.input.toNat t).raiseQuad l.q 0x0401 1 ucFabric
    (loomKey l) 0 0

/-- Some output of the router names the word's stream and input in slot t (R178). -/
def State.slotNamed (s : State) (l : LoomId) (t : Nat) (w : RWord) : Bool :=
  (List.range 6).any (fun o => entryNames (s.slotEntry l o t) (sideStream w.word) w.input.toNat)

/-- Serve one output in slot t: an arriving word, or the loom's own, of which several outputs get copies. `own` holds the words that the
loom has given in this slot, by stream (R178). -/
def State.slotOut (s : State) (l : LoomId) (ws : List RWord) (t : Nat) (noise : Word512) (own : List (Nat × FWord × BitVec 10)) (o : Nat) :
    State × List (Nat × FWord × BitVec 10) :=
  let e := s.slotEntry l o t
  let stream := entryStream e
  if s.outUsed l o || decide (stream = 255) then (s, own)
  else if entryIn e = 0 then
    match own.find? (fun p => p.1 == stream) with
    | some p => (s.leaves l o t p.2.1 p.2.2 noise, own)
    | none =>
      match (s.loom l).readyWord stream (s.quad l.q).count with
      | some (w, i, x) => ((s.setLoom l x).leaves l o t w i noise, (stream, w, i) :: own)
      | none => (s, own)
  else match ws.find? (fun w => entryNames e (sideStream w.word) w.input.toNat) with
    | some w => (s.leaves l o t w.word w.place noise, own)
    | none => (s, own)

/-- What SECDED finds in the slot table as a router reads it (R177; 16 R388). An uncorrectable entry gives its slot to no one: the words
that wait for it are discarded as slot collisions (DESIGN CHOICE, log 68). -/
def State.tableEcc (s : State) (l : LoomId) (ecc : Ecc) : State :=
  match ecc with
  | .single => s.raiseQuad l.q 0x0301 1 ucFabric (loomKey l) 0 ((Config.arrayNumber 1).toNat * 2 ^ 32)
  | .multi => s.raiseQuad l.q 0x0302 2 ucFabric (loomKey l) 0 ((Config.arrayNumber 1).toNat + s.slotNow l.q * 2 ^ 32)
  | _ => s

/-- The router's outputs are served in the slot of the present cycle. Sums of a chain hop that are ready by now enter the hold before a held one
leaves: in the cycle in which a sum leaves a full hold, another that becomes ready is discarded (DESIGN CHOICE, log 106). -/
def execSlotForward (q : Fin 4) (r : Fin 20) (c : Fin 25) (ecc : Ecc) (noise : Word512) (s : State) : Outcome State Fault Refusal :=
  .next (if s.quadRuns q then
    let l : LoomId := { q := q, r := r, c := c }
    let t := s.slotNow q
    let s0 := s.promoteSums l
    let all := (s0.quad q).slottedAt r c t
    let s1 := s0.setQuad q { s0.quad q with words := (s0.quad q).words.filter (fun w => !all.contains w) }
    let good := all.filter (fun w => crcOk w.word)
    let s2 := (all.filter (fun w => !crcOk w.word)).foldl (fun (x : State) w => x.crcDrop l t w) s1
    let lost := if ecc = .multi then good else good.filter (fun w => !s2.slotNamed l t w)
    let s3 := lost.foldl (fun (x : State) w => x.collide l good t w) s2
    if ecc = .multi then s3.tableEcc l ecc
    else ((List.range 6).foldl (fun (x : State × List (Nat × FWord × BitVec 10)) o => x.1.slotOut l good t noise x.2 o) (s3.tableEcc l ecc, [])).1
  else s)

/-! ### Credited words (R181, R183) -/

/-- Output towards a row. -/
def towardsRow (r row here : Nat) : Nat := if row < r then 1 else if r < row then 3 else here

/-- Output of a credited word at a router: dimension order; an HBM node is reached south of row 19, in the column where the word
stands (R175 gives HBM nodes no column; DESIGN CHOICE, log 12), and a word for another quadrant leaves by the nearest bridge row (DESIGN CHOICE, log 12). -/
def State.creditedRoute (s : State) (q r c : Nat) (w : FWord) : Nat :=
  let last := s.runCols q - 1
  if destQuad w ≠ q ∨ destCol w = 31 then
    let row := if destQuad w ≠ q then nearBridgeRow r else destRow w
    if c < last then 2 else towardsRow r row 5
  else if destRow w = 31 then 3
  else if c < destCol w then 2
  else if destCol w < c then 4
  else towardsRow r (destRow w) 0

/-- An observation word's output: east, then along the edge to the nearest bridge row (R182). -/
def State.observationRoute (s : State) (q r c : Nat) : Nat :=
  if c < s.runCols q - 1 then 2 else towardsRow r (nearBridgeRow r) 5

/-- Words of a class waiting at a router. -/
def Quad.wordsAt (x : Quad) (cls : Nat) (r : Fin 20) (c : Fin 25) : List RWord :=
  x.words.filter (fun w => decide (w.r = r) && decide (w.c = c) && decide (sideClass w.word = cls))

/-- Remove one waiting word. -/
def Quad.without (x : Quad) (w : RWord) : Quad := { x with words := x.words.erase w }

/-- The output is free for a credited word in slot t: no owner, or a reserved slot without an observation word (R181). -/
def State.creditedSlot (s : State) (l : LoomId) (o t : Nat) : Bool :=
  if slotReserved t then
    !((s.quad l.q).wordsAt 2 l.r l.c).any (fun _ => s.observationRoute l.q l.r l.c == o)
      && !((s.loom l).trace != [] && s.observationRoute l.q l.r l.c == o)
  else decide (entryStream (s.slotEntry l o t) = 255)

/-- The word next in rotation among the inputs after the last one served. -/
def nextInRotation (last : Nat) (ws : List RWord) : Option RWord :=
  ((List.range 6).map (fun i => (last + 1 + i) % 6)).findSome? (fun i => ws.find? (fun w => w.input.toNat == i))

/-- Where a credited word goes next by output o: a bridge's queue, a stack's request queue, the loom, or a router input. -/
inductive CreditedWay where
  | bridge (n : Nat)
  | stack (k : Nat)
  | loom
  | router (r c input : Nat)
  | edge

def State.creditedWay (s : State) (l : LoomId) (o : Nat) (w : FWord) : CreditedWay :=
  if o = 5 then .bridge (bridgeOf l.q l.r)
  else if o = 3 ∧ l.r.val = 19 then .stack (5 * l.q.val + destCol w % 5)
  else if o = 0 then .loom
  else match neighbour (s.runCols l.q) l.r l.c o with
    | some (r, c, i) => .router r c i
    | none => .edge

/-- The word's next buffer can take it: a credit of the bridge and of the queue, a place among the 8 of the replay buffer, which a word
holds until the next router has sent it on (R176, R185, R189; DEDUCED, log 95). -/
def State.creditedMayLeave (s : State) (l : LoomId) (w : CreditedWay) : Bool :=
  match w with
  | .bridge n => decide (0 < (s.cloop (s.bridgeLoop n 0)).held.toNat) && decide (0 < s.queueCredits (2 * n))
  | .stack k => decide (0 < s.queueCredits (0x100 + 2 * k))
  | .loom => true
  | .router r c i =>
    decide (((s.quad l.q).words.filter (fun w => decide (sideClass w.word = 1)
      && decide (inputKey w.r.val w.c.val w.input.toNat = inputKey r c i))).length < 8)
  | .edge => false

/-- A credited word is resent: counted and recorded (R176). -/
def State.replayed (s : State) (q : Nat) (l : LoomId) : State :=
  (s.bump (0x30F008 + 0x10000 * q) 1).raiseQuad q 0x0401 1 ucFabric (loomKey l) 0 0

/-- A credited word leaves its router. A bridge node or an HBM node that finds it damaged has it sent again: it stays. -/
def State.creditedLeaves (s : State) (l : LoomId) (o t : Nat) (w : RWord) (noise : Word512) : State :=
  let got := noisy w.word noise
  let s0 := s.useOut l o
  let s1 := s0.setQuad l.q { (s0.quad l.q).without w with
    rotation := SMap.set 0 (s0.quad l.q).rotation (rotationKey l o) w.input.toNat }
  let s2 := if slotReserved t then s1.bump (0x30F009 + 0x10000 * l.q.val) 1 else s1
  match s2.creditedWay l o w.word with
  | .bridge n =>
    if crcOk got then (s2.takeCredit (s2.bridgeLoop n 0)).pushItem (2 * n) (wordItem got) else (s2.putWord l.q w).replayed l.q l
  | .stack k => if crcOk got then s2.pushItem (0x100 + 2 * k) (wordItem got) else (s2.putWord l.q w).replayed l.q l
  | .loom => s2.emit (.creditedWord l w.word)
  | .router r c i => s2.putCredited l.q r c i w.word got
  | .edge => s2

/-- The word that the router before sent, from its replay buffer (R176). -/
def Quad.original (x : Quad) (w : RWord) : FWord :=
  SMap.get { payload := 0, side := 0 } x.replay (8 * inputKey w.r w.c w.input.toNat + w.tag.toNat)

def execCreditedForward (q : Fin 4) (r : Fin 20) (c : Fin 25) (out : Fin 6) (noise : Word512) (s : State) :
    Outcome State Fault Refusal :=
  .next (
    let l : LoomId := { q := q, r := r, c := c }
    let t := s.slotNow q
    let o := out.val
    let ws := ((s.quad q).wordsAt 1 r c).filter (fun w => s.creditedRoute q r c w.word == o)
    if s.quadRuns q && s.creditedSlot l o t && !s.outUsed l o then
      match nextInRotation (SMap.get 0 (s.quad q).rotation (rotationKey l o)) ws with
      | none => s
      | some w =>
        if !crcOk w.word then
          let again : RWord := { w with word := (s.quad q).original w }
          (s.setQuad q { (s.quad q).without w with words := ((s.quad q).without w).words ++ [again] }).replayed q l
        else if s.creditedMayLeave l (s.creditedWay l o w.word) then s.creditedLeaves l o t w noise
        else s
    else s)

/-! ### Observation words (R182; 17 R408) -/

/-- Two records of a loom's buffer as an observation word. -/
def Loom.observation (x : Loom) : Option (FWord × Loom) :=
  match x.trace with
  | [] => none
  | a :: t =>
    let b := t.headD 0
    some (FWordSeal (a.toNat + b.toNat * 2 ^ 256) (0xFF + 2 * 2 ^ 8 + 2 ^ 11), { x with trace := t.drop 1 })

/-- An observation word that fails its check is counted with the lost items of its queue (R176): as pushed and lost, so that the
queue's equation stands (R192; DEDUCED, log 95). -/
def State.observationLost (s : State) (l : LoomId) : State :=
  let q := 0x400 + l.q.val
  let d := s.dcq q
  ((s.setDcq q { d with pushed := d.pushed + 1, lost := d.lost + 1, gapOwed := true }).bump 0x804004 1).raiseQuad l.q 0x0401 1 ucFabric
    (loomKey l) 0 0

def State.observationLeaves (s : State) (l : LoomId) (t : Nat) (w : FWord) (noise : Word512) : State :=
  let o := s.observationRoute l.q l.r l.c
  if o = 5 then
    let s1 := s.useOut l o
    if crcOk (noisy w noise) then s1.pushItem (0x400 + l.q.val) { wordItem w with payload := (noisy w noise).payload.toNat, endp := true }
    else s1.observationLost l
  else s.leaves l o t w 0 noise

def execObservationForward (q : Fin 4) (r : Fin 20) (c : Fin 25) (noise : Word512) (s : State) : Outcome State Fault Refusal :=
  .next (
    let l : LoomId := { q := q, r := r, c := c }
    let t := s.slotNow q
    if s.quadRuns q && slotReserved t && !s.outUsed l (s.observationRoute q r c) then
      match (s.quad q).wordsAt 2 r c with
      | w :: _ =>
        let s1 := s.setQuad q ((s.quad q).without w)
        if crcOk w.word then s1.observationLeaves l t w.word noise else s1.observationLost l
      | [] =>
        match (s.loom l).observation with
        | some (w, x) => (s.setLoom l x).observationLeaves l t w noise
        | none => s
    else s)

/-! ### Die bridges (R184, R185) -/

/-- Cycles from the quadrant's count to a 16-bit release count; 0 when it has passed (compared modulo 2^16). -/
def untilCount (count release : Nat) : Nat := (release + 2 ^ 16 - count % 2 ^ 16) % 2 ^ 16

/-- The release count of a word has passed. -/
def lateWord (count : Nat) (w : FWord) : Bool := decide (2 ^ 15 ≤ untilCount count (sideSend w + bridgeCycles))

/-- A word that left a bridge arrives at the release buffer of bridge n. One on the way arrives as it was sent, or damaged, which
stands for the oldest one (DESIGN CHOICE, log 91); nothing else comes (R184, R185). -/
def execBridgeArrival (n : Fin 16) (w : FWord) (s : State) : Outcome State Fault Refusal :=
  .next (s.ifRuns (
    let q := n.val / 4
    let air := SMap.get [] s.bridgeAir n.val
    let buf := SMap.get [] s.bridgeBufs n.val
    let x := bridgeInput (s.runCols q) n.val
    let sent := if air.contains w then some w else if crcOk w then none else air.head?
    match sent with
    | none => s
    | some a =>
      let s0 := { s with bridgeAir := SMap.set [] s.bridgeAir n.val (air.erase a) }
      if !s0.queueTakes (2 * n.val + 1) then (s0.pushItem (2 * n.val + 1) (wordItem a)).missFrom x (sideStream a) 0
      else
        let s1 := s0.passQueue (2 * n.val + 1) 1
        if !crcOk w then ((s1.bump (0x30F007 + 0x10000 * q) 1).missFrom x (sideStream a) 0).raiseQuad q 0x0401 1 ucBridge n 0 0
        else if 32 ≤ buf.length ∨ lateWord (s.quad q).count.toNat w then (s1.missFrom x (sideStream w) 0).slip q ucBridge n 0 n.val
        else { s1 with bridgeBufs := SMap.set [] s1.bridgeBufs n.val (buf ++ [w]) }))

/-- The words whose release count is the quadrant's count are forwarded onto the mesh (R184), while its clock runs (17 R411). -/
def execBridgeRelease (n : Fin 16) (s : State) : Outcome State Fault Refusal :=
  .next (
    let q := n.val / 4
    let buf := SMap.get [] s.bridgeBufs n.val
    let count := (s.quad q).count.toNat
    let due := buf.filter (fun w => untilCount count (sideSend w + bridgeCycles) == 0)
    let s1 := { s with bridgeBufs := SMap.set [] s.bridgeBufs n.val (buf.filter (fun w => untilCount count (sideSend w + bridgeCycles) != 0)) }
    if !s.quadRuns q then s
    else due.foldl (fun (t : State) w => t.putWord q {
      r := Fin.ofNat 20 (5 * (n.val % 4) + 2), c := Fin.ofNat 25 (s.runCols q - 1), input := 5
      slot := BitVec.ofNat 8 (s.slotNow q + hopCycles), tag := 0, word := w }) s1)

end Sys2Proof.Machine
end

