-- ==== Sys2Proof/Machine/Debug.lean ====
section
/-! DEFINITION. Counters' snapshot, eclipse, hang snapshot (17 R405, R410 to R415). The dictionary writes that start
them are functions on the state and a value, with the dictionary status they give. -/

namespace Sys2Proof.Machine

open Sys2Proof Host

/-- The partitions a mask names. -/
def maskParts (v : Nat) : List Nat := (List.range 4).filter (fun p => v.testBit p)

/-! ### Snapshot of the counters -/

def State.snapshotWrite (s : State) (v : Nat) : State × Nat :=
  if v ≠ 1 then (s, 6) else ({ s with latchAt := some (s.ns + 2000) }, 0)

/-- Every domain latches at its first edge after the time that the hub chose (17 R405). -/
def execCounterLatch (s : State) : Outcome State Fault Refusal :=
  .next (match s.latchAt with
    | none => s
    | some t =>
      if s.ns.toNat < t.toNat then s
      else { s with latched := s.countersNow, latchAt := none }.setObj 0x800002 s.ns.toNat)

/-! ### The eclipse -/

def State.setEclipse (s : State) (p v : Nat) : State :=
  s.setObj 0x805005 (s.obj 0x805005 - s.eclipseByte p * 2 ^ (8 * p) + v * 2 ^ (8 * p))

/-- The largest cycle count of the partition's quadrants. -/
def State.maxCount (s : State) (p : Nat) : Nat := (s.quadsOf p).foldl (fun a q => Nat.max a (s.quad q).count.toNat) 0

/-- Request an eclipse of a partition: STATUS 0x01 when one is in progress, 0x02 when AT_CYCLE is too near (17 R410); after a thermal trip no
unit is there that it could stop (18 R425). -/
def State.eclipsePart (s : State) (p : Nat) : State :=
  let c := s.maxCount p
  let at_ := s.obj 0x805001
  if s.trip then s
  else if s.partCount ≤ p ∨ s.eclipseByte p ≠ 0 then s.setObj 0x805008 1
  else if at_ ≠ 0 ∧ at_ ≤ c + 8 then s.setObj 0x805008 2
  else
    let t := if at_ = 0 then c + 8 else at_
    let s1 := (s.quadsOf p).foldl (fun (t1 : State) q =>
      t1.setQuad q { t1.quad q with stopAt := some (BitVec.ofNat 64 t) }) s
    ((s1.setEclipse p 1).setObj 0x805006 t).setObj 0x805008 0

/-- A write of REQUEST; reserved bits are ignored (00 R6). -/
def State.eclipseWrite (s : State) (v : Nat) : State × Nat :=
  ((maskParts v).foldl State.eclipsePart (s.setObj 0x805002 (v % 16)), 0)

/-- Queues at a quadrant's edge: those of its bridges and of its stacks (17 R412). -/
def edgeQueues (q : Nat) : List Nat := List.range' (8 * q) 8 ++ List.range' (0x100 + 10 * q) 10

/-- What the queues at a stopping quadrant's edge have taken so far is noted, and the time. -/
def State.noteStop (s : State) (q : Nat) : State :=
  let s1 := s.setQuad q { s.quad q with stopped := true, stopNs := s.ns }
  (edgeQueues q).foldl (fun (t : State) n => t.setDcq n { t.dcq n with atStop := (t.dcq n).pushed }) s1

/-- A quadrant completes its cycle T; the last one of the partition sets STOP_NS (17 R411). -/
def execEclipseStop (q : Fin 4) (s : State) : Outcome State Fault Refusal :=
  .next (
    let x := s.quad q
    match x.stopAt with
    | none => s
    | some t =>
      if s.trip ∨ x.stopped ∨ t.toNat < x.count.toNat ∨ t.toNat - x.count.toNat > x.room then s
      else
        let s2 := (s.passCycles q (t.toNat - x.count.toNat)).noteStop q
        if (s2.quadsOf (s2.partOfQuad q)).all (fun j => (s2.quad j).stopped) then s2.setObj 0x805007 s2.ns.toNat else s2)

/-- A smear entry: queue, or 0xF000 + link, items held, items that came late, nanoseconds from the quadrant's stop. -/
def smearEntry (no held late ns : Nat) : Nat := no + held % 2 ^ 16 * 2 ^ 16 + late % 2 ^ 16 * 2 ^ 32 + ns % 2 ^ 32 * 2 ^ 64

/-- Packets in the receive buffers that came on a link: held ones, and those of chunks on their way to a tally engine. -/
def State.linkHeld (s : State) (p k : Nat) : Nat :=
  ((s.held.filter (fun h => decide (h.link.val = k))).map (·.count)).sum
    + (((s.part p).tally.filter (fun i => i.link.any (fun j => j.val == k))).map (fun i => packetsOf (64 + i.elems.length))).sum

/-- Packets sent on a link and not acknowledged. -/
def State.linkUnacked (s : State) (p k : Nat) : Nat :=
  (((SMap.keys (s.part p).qps).filter (fun n => decide (((s.part p).qp n).link.toNat = k))).map (fun n =>
    (((s.part p).qp n).unacked.map (fun m => packetsOf m.bytes.length - m.acked)).sum)).sum

/-- The smear of a partition's eclipse: its edge queues, then the links of its ports (17 R412; DESIGN CHOICE, log 19: in this order). -/
def State.smear (s : State) (p : Nat) : List Nat :=
  let queues := ((s.quadsOf p).map (fun q => (edgeQueues q).map (fun n =>
    let d := s.dcq n
    smearEntry n d.items.length (d.pushed - d.atStop) (s.ns - (s.quad q).stopNs).toNat))).flatten
  let links := ((s.portsOf p).map (fun port => (portLinks port (s.obj (0x500001 + 256 * port))).map (fun k =>
    smearEntry (0xF000 + k) (s.linkHeld p k) (s.linkUnacked p k) (s.ns.toNat - s.obj 0x805007)))).flatten
  (queues ++ links).take 128

/-- The edge domains stopped: smear entries, stacks in self-refresh, the scan begins, and an earlier one is gone (17 R412, R413). -/
def execEdgeStop (p : Fin 4) (s : State) : Outcome State Fault Refusal :=
  .next (if !s.trip && s.eclipseByte p = 1 && (s.quadsOf p).all (fun q => (s.quad q).stopped) then
    let s1 := s.setObj 0x805009 (leNat (((s.smear p).map (leBytes 16)).flatten))
    let s2 := (s1.stacksOf p).foldl State.enterSelfRefresh { s1 with scans := SMap.drop (fun k => s1.partOfQuad (k / 501) == p) s1.scans }
    (s2.modPart p (fun x => { x with stopNs := s2.ns })).setEclipse p 2
  else s)

/-- RESUME restarts the edge domains first, whose controllers serve what waited and whose transport sends what it owes (17 R414). -/
def State.resumePart (s : State) (p : Nat) : State :=
  let s1 := (s.stacksOf p).foldl (fun (t : State) k =>
    let u := t.leaveSelfRefresh k
    if u.serves k then u.serveReady k else u) (s.endStop p)
  ((s1.modPart p (fun x => { x with resumeOwed := false })).setEclipse p 4).sendUnsent p

/-- Then all quadrants of the partition are released together, and count on from T. -/
def State.resumeEnds (s : State) (p : Nat) : State :=
  let s1 := (s.quadsOf p).foldl (fun (t : State) q => t.setQuad q { t.quad q with stopAt := none, stopped := false }) s
  (s1.modPart p (fun x => { x with
    hangNs := if x.window || decide (s.jobState p = 6) then x.hangNs else x.hangNs + (s.ns - x.stopNs) })).setEclipse p 0

/-- The lowest partition whose edge domains run again and whose quadrants are still to be released. -/
def State.resuming (s : State) : Option Nat := (List.range 4).find? (fun p => decide (s.eclipseByte p = 4))

def State.resumeOne (s : State) (p : Nat) : State :=
  let b := s.eclipseByte p
  if s.trip then s
  else if b = 0 then s.setObj 0x805008 1
  else if b = 3 then (s.resumePart p).setObj 0x805008 0
  else if b = 4 then s.setObj 0x805008 0
  else (s.modPart p (fun x => { x with resumeOwed := true })).setObj 0x805008 0

def State.resumeWrite (s : State) (v : Nat) : State × Nat :=
  ((maskParts v).foldl State.resumeOne (s.setObj 0x805003 (v % 16)), 0)

def State.releaseOne (s : State) (p : Nat) : State :=
  if s.eclipseByte p = 0 then s.setObj 0x805008 1 else (s.resetPart p).setObj 0x805008 0

def State.releaseWrite (s : State) (v : Nat) : State × Nat :=
  ((maskParts v).foldl State.releaseOne (s.setObj 0x805004 (v % 16)), 0)

/-! ### Hang snapshots (17 R415) -/

/-- TAG of a descriptor: the bits every descriptor keeps it in. -/
def descTag (d : Word512) : Nat := field d.toNat 31 16

/-- The next slot from slot t in which a loom's own stream leaves one of its outputs. -/
def Loom.nextSlot (x : Loom) (stream t : Nat) : Nat :=
  (((List.range 256).map (fun i => (t + i) % 256)).find? (fun u => (List.range 5).any (fun o =>
    let e := SMap.get noOwner x.streamTab (256 * (o + 1) + u)
    decide (entryStream e = stream) && decide (entryIn e = 0)))).getD 0

/-- The first credit loop on the way of a transfer that has no credit: a stack's, or its write tokens'; else the first stack's (05 R134). -/
def State.creditMissing (s : State) (p : Nat) (d : Word512) : Nat :=
  let ls := ((s.dmaStacks p d).map (fun k => if dField d 35 32 = 1 then [loopId 1 p k, loopId 7 p k] else [loopId 1 p k])).flatten
  (ls.find? (fun l => !s.hasCredit l)).getD (ls.headD 0)

/-- The resource that a loom under stall reason `reason` waits for (17 R415): stream and slot, loop, the TAG of a DMA, region, offset. -/
def State.waitOn (s : State) (l : LoomId) (x : Loom) (reason : Nat) : Nat :=
  let p := s.partOfQuad l.q
  if reason = 1 then
    match x.role with
    | some r =>
      let stream := field r.desc.toNat 79 72
      stream + x.nextSlot stream ((s.quad l.q).count - (s.part p).startCount).toNat * 2 ^ 8
    | none => 0
  else if reason = 2 then (match x.lateDma with | some e => s.creditMissing p e.desc | none => 0)
  else if reason = 3 then
    match (nextPass x.arrayQ).bind (fun e =>
        x.dmaQ.find? (fun o => decide (o.nth < e.nth) && (overlaps (e.reads.take 1) o.writes).isSome)) with
    | some o => descTag o.desc
    | none => 0
  else if reason = 4 then (match x.dmaQ.find? (·.waits) with | some e => mRegion e.desc | none => 0)
  else if reason = 9 then (match x.seq with | .waitCycle o => o.toNat % 2 ^ 32 | _ => 0)
  else 0

/-- The 32-byte wait entry of a loom that waits under a stall reason (0 busy or idle) for something since a time. -/
def Loom.waitEntry (x : Loom) (no reason on since : Nat) : Nat :=
  let head := SMap.get 0 x.store x.seqIdx.toNat
  let fly := (if x.arrayQ = [] then 0 else 1) + (if x.vectorQ = [] then 0 else 2) + (if x.dmaQ = [] then 0 else 4)
    + (if x.chainQ = [] then 0 else 8)
  no + x.seqIdx.toNat % 4096 * 2 ^ 16 + reason * 2 ^ 28 + descTag head * 2 ^ 32 + fly * 2 ^ 48
    + (if x.seq = .ended then 2 ^ 52 else 0) + on * 2 ^ 64 + (if reason = 0 then 0 else since * 2 ^ 96)

/-- The wait entry of loom l, number no: its stall reason, and since when it waits (17 R404, R415). -/
def State.waitEntryOf (s : State) (l : LoomId) (no : Nat) : Nat :=
  let x := s.loom l
  let p := s.partOfQuad l.q
  let a := s.loomDoes p (loomKey l)
  let seen := SMap.get (0, 0) s.stalls (loomKey l)
  let since := match x.seq with
    | .waitUnits _ | .waitDesc _ | .waitCycle _ | .commitWait => x.seqSince
    | _ => if x.activity = 1 then s.stepWaitSince p else if seen.1 = a then seen.2 else s.ns
  x.waitEntry no (a - 1) (s.waitOn l x (a - 1)) since.toNat

/-- Write a number of `bytes` bytes at a byte offset (a multiple of 4) of the snapshot. -/
def putWords (m : SMap Nat) (off bytes v : Nat) : SMap Nat :=
  (List.range (bytes / 4)).foldl (fun m i => SMap.set 0 m (off / 4 + i) (v / 2 ^ (32 * i) % 2 ^ 32)) m

/-- The 16-byte queue-head entry of a queue: without a head item its sidebands and CRC are 0. -/
def Dcq.headEntry (d : Dcq) (q : Nat) : Nat :=
  match d.items with
  | [] => q + d.packets % 2 ^ 16 * 2 ^ 48
  | i :: _ =>
    q + d.items.length % 2 ^ 16 * 2 ^ 16
      + ((if i.endp then 1 else 0) + (if i.poison then 2 else 0) + (if i.nv then 4 else 0) + (if i.gap then 8 else 0)) * 2 ^ 32
      + d.packets % 2 ^ 16 * 2 ^ 48 + crc32c (leBytes 64 i.payload) * 2 ^ 64

/-- Take the hang snapshot of a partition with its cause: 1 watchdog, 2 request. -/
def State.hangSnapshot (s : State) (p cause : Nat) : State :=
  let loops := s.loopsOf p
  let hdr := s.ns.toNat + (List.range 4).foldl (fun a q => a + (s.quad q).count.toNat * 2 ^ (64 + 64 * q)) 0
    + cause * 2 ^ 320 + p * 2 ^ 328 + s.stepNo p % 2 ^ 48 * 2 ^ 336 + s.attempt p % 256 * 2 ^ 384
    + (loops.length - 49020) % 2 ^ 32 * 2 ^ 416
  let m0 := putWords [] 0 64 hdr
  let m1 := (List.range (s.runLooms p)).foldl (fun m n =>
    let l := loomOfNumber (s.runLooms p) n
    if s.partOfQuad l.q = p then putWords m (64 + 32 * n) 32 (s.waitEntryOf l n) else m) m0
  let m2 := ((queueNumbers.take 256).zipIdx).foldl (fun m e => putWords m (64064 + 16 * e.2) 16 ((s.dcq e.1).headEntry e.1)) m1
  let m3 := ((loops.drop (loops.length - 49020)).zipIdx).foldl (fun m e =>
    let c := s.cloop e.1
    putWords m (68160 + 20 * e.2) 20 (e.1 + c.issued.toNat * 2 ^ 32 + c.held.toNat * 2 ^ 64 + c.inFlight.toNat * 2 ^ 96
      + c.returned.toNat * 2 ^ 128)) m2
  { s with hangSnap := m3 }.setObj 0x808004 s.ns.toNat

/-- With HANG_ECLIPSE set, the watchdog's snapshot is taken after the eclipse; an eclipse that is refused leaves it to be taken at once. -/
def execHangWatchdogExpiry (p : Fin 4) (s : State) : Outcome State Fault Refusal :=
  .next (
    let ms := s.live 0x808001
    if ms ≠ 0 ∧ s.jobState p = 5 ∧ s.eclipseByte p = 0 ∧ !(s.part p).window then
      let s1 := (s.atLeast ((s.part p).hangNs.toNat + ms * 1000000)).bump 0x808005 1
      let s2 := s1.modPart p (fun x => { x with hangNs := s1.ns })
      let s3 := if s2.live 0x808002 = 1 then s2.eclipsePart p else s2
      if s3.eclipseByte p = 1 then s3.modPart p (fun x => { x with snapAfter := true }) else s3.hangSnapshot p 1
    else s)

def State.hangWrite (s : State) (v : Nat) : State × Nat :=
  (((maskParts v).filter (fun p => decide (p < s.partCount))).foldl (fun (t : State) p => t.hangSnapshot p 2) s, 0)

/-! ### The scan (17 R413) -/

/-- A data word in a queue or buffer appears as its sideband and a CRC-32C of its payload, never as its payload. -/
def scanWord (w : FWord) : List Nat := [w.side.toNat, crc32c (leBytes 64 w.payload.toNat)]

/-- What the scan shows of a sequencer, of a queue of units, of a chain role and of a loom. -/
def SeqState.scan (x : SeqState) : List Nat :=
  match x with
  | .idle => [0]
  | .running => [1]
  | .waitUnits m => [2, m.toNat]
  | .waitDesc n => [3, n]
  | .waitCycle o => [4, o.toNat]
  | .commitWait => [5]
  | .stopped => [6]
  | .ended => [7]

def InFlight.scan (x : InFlight) : List Nat := [x.desc.toNat, x.index.toNat, x.nth, x.phase, if x.waits then 1 else 0]

/-- A list with its length before it. -/
def scanList {α : Type} (l : List α) (f : α → List Nat) : List Nat := l.length :: (l.map f).flatten

def HeldSum.scan (x : HeldSum) : List Nat := [x.idx, x.ready.toNat] ++ scanWord x.word

def ChainRole.scan (x : ChainRole) : List Nat :=
  [x.desc.toNat, x.since.toNat, x.passed] ++ scanList x.coming HeldSum.scan ++ scanList x.held HeldSum.scan
    ++ scanList (SMap.keys x.seen) (fun k => [k])

/-- The architectural state of a loom that a scan covers: sequencer with the open block and the tile preloaded, loop counters, unit queues,
stream positions, chain state, the scale register file, flags, the count of lost trace records. -/
def Loom.scan (x : Loom) : List Nat :=
  x.seq.scan ++ [x.seqIdx.toNat, x.issued, x.lateWaits] ++ scanList x.loops (fun f => [f.body.toNat, f.left])
    ++ scanList x.arrayQ InFlight.scan ++ scanList x.vectorQ InFlight.scan ++ scanList x.dmaQ InFlight.scan
    ++ scanList x.chainQ InFlight.scan ++ scanList x.rxBuf (fun w => [w.stream.toNat, w.since.toNat, w.place.toNat] ++ scanWord w.word)
    ++ (match x.role with | some r => 1 :: r.scan | none => [0])
    ++ (List.range 256).map (fun i => (SMap.get 0xFF x.scaleFile i).toNat)
    ++ (match x.block with | some b => [1, b.1.toNat, b.2.1.toNat, b.2.2] | none => [0])
    ++ (match x.preloaded with | some f => [1, f.toNat] | none => [0])
    ++ (match x.swapDue with | some d => [1, d.toNat] | none => [0]) ++ (match x.firstWord with | some c => [1, c.toNat] | none => [0])
    ++ [if x.active.full then 1 else 0, if x.shadow.full then 1 else 0, if x.slotMissed then 1 else 0, if x.merged then 1 else 0, x.traceLost]

/-- A loom's scan with its activity counters. -/
def State.loomScan (s : State) (k : Nat) : List Nat :=
  (SMap.get Loom.init s.looms k).scan ++ (keyCounts s.counters ucLoom k).map (·.toNat)

/-- Key of a scan: loom k of its quadrant; 500 in the loom's place stands for the looms that the state does not list. -/
def scanKey (q i : Nat) : Nat := 501 * q + i

/-- What the last complete scan found in the loom with a key; nothing before a scan. -/
def State.scanned (s : State) (k : Nat) : List Nat :=
  let x := SMap.get [] s.scans (scanKey (k / 500) (k % 500))
  if x = [] then SMap.get [] s.scans (scanKey (k / 500) 500) else x

/-- The scan of a loom shows something of its own: the state lists it, or an activity counter of it is not zero. -/
def State.scanShows (s : State) (k : Nat) : Bool :=
  (SMap.keys s.looms).contains k || (List.range 17).any (fun i => s.counter (counterKey ucLoom k i) != 0)

/-- A quadrant's looms are scanned. -/
def State.scanQuad (s : State) (q : Nat) : State :=
  let m := SMap.set [] (SMap.drop (fun k => k / 501 == q) s.scans) (scanKey q 500)
    (Loom.init.scan ++ [0, (s.counter (cyclesKey q)).toNat] ++ List.replicate 15 0)
  { s with scans := ((List.range' (500 * q) 500).filter s.scanShows).foldl (fun m k =>
      SMap.set [] m (scanKey q (k % 500)) (s.loomScan k)) m }

/-- The scan ends: the looms' images are readable, a RESUME that waited takes effect (17 R413, R417). -/
def execEclipseScanComplete (p : Fin 4) (s : State) : Outcome State Fault Refusal :=
  .next (if !s.trip && s.eclipseByte p = 2 then
    let s2 := ((s.quadsOf p).foldl State.scanQuad s).setEclipse p 3
    let s3 := if (s2.part p).snapAfter then (s2.hangSnapshot p 1).modPart p (fun x => { x with snapAfter := false }) else s2
    if (s3.part p).resumeOwed then s3.resumePart p else s3
  else s)

end Sys2Proof.Machine
end

