-- ==== Sys2Proof/Machine/Sequencer.lean ====
section
/-! DEFINITION. The sequencer of a loom (04 R85 to R88), detected compiler mistakes (R110, R431), the hazard detector
(R108, R109), loom trace records (17 R408, R409), completion of descriptors (R86). -/

namespace Sys2Proof.Machine

open Sys2Proof Host

/-- Why a descriptor is rejected: a row of the table "Compiler mistakes the device detects", from 1, or an access outside
its region. -/
inductive Reject where
  | row (n : Nat)
  | region (r off : Nat)
  deriving DecidableEq, Repr

def State.loomPart (s : State) (l : LoomId) : Nat := s.partOfQuad l.q

/-- The loom exists under the loom count that runs (01 R9, R10). -/
def State.loomExists (s : State) (l : LoomId) : Bool := decide (l.c.val < 20) || decide (s.runLooms (s.loomPart l) ≠ 1600)

/-- The sequencer may issue: its quadrant is clocked, its partition is in a step, it waits for nothing. A loom of which
the state lists nothing is `idle` and stands at descriptor 0 of the step. -/
def State.seqRuns (s : State) (l : LoomId) : Bool :=
  s.quadRuns l.q && s.loomExists l && (s.part (s.loomPart l)).inStep
    && (decide ((s.loom l).seq = .running) || decide ((s.loom l).seq = .idle))

/-- Charge a detected mistake to the step with its TAG: ABORT with cause 0x08, then halt (R431). -/
def State.chargeMistake (s : State) (p tag : Nat) : State :=
  let s1 := s.modPart p (fun x => { x with chargeTag := BitVec.ofNat 16 tag })
  if s1.uncommitted p then s1.abortStep p 8 else s1

/-- Reject the descriptor at the head: not issued, the loom stops, the job fails (R88, R431). Past descriptor 4,095 there is no head: the
record then carries index 0, what the index field holds of 4,096, and TAG 0 (DESIGN CHOICE, log 72). -/
def State.reject (s : State) (l : LoomId) (why : Reject) : State :=
  let p := s.loomPart l
  let x := s.loom l
  let tag := dTag (SMap.get 0 x.store x.seqIdx.toNat)
  let s1 := s.setLoom l { x with seq := .stopped }
  let s2 := match why with
    | .row n => s1.raiseQuad l.q 0x0101 3 ucLoom (s.loomNo l) tag (x.seqIdx.toNat % 4096 + n * 2 ^ 16)
    | .region r off => s1.raiseQuad l.q 0x0102 3 ucLoom (s.loomNo l) tag (r + off % 2 ^ 40 * 2 ^ 8)
  s2.chargeMistake p tag

/-- The assigned vector operations (R94). -/
def vopAssigned (v : Nat) : Bool :=
  (decide (1 ≤ v) && decide (v ≤ 0x0C)) || (decide (0x10 ≤ v) && decide (v ≤ 0x14))
    || (decide (0x20 ≤ v) && decide (v ≤ 0x24)) || v == 0x30 || v == 0x31

/-- What a descriptor is: its opcode, with the VOP or the DIR; 0 when reserved (R87). -/
def descKind (d : Word512) : Nat :=
  let o := dOp d
  if o = 0x20 then (if vopAssigned (dField d 39 32) then 0x2000 + dField d 39 32 else 0)
  else if o = 0x30 then (if dField d 35 32 ≤ 2 then 0x3000 + dField d 35 32 else 0)
  else if (1 ≤ o ∧ o ≤ 5) ∨ o = 0x10 ∨ o = 0x40 then o else 0

/-! ### What SECDED finds (R84, R99; 16 R388) -/

/-- A unit of a loom used a poisoned value (09 R212). -/
def State.loomPoison (s : State) (l : LoomId) (tag origin : Nat) : State :=
  if origin = 0 then s
  else s.consumePoison (s.loomPart l) (some l.q.val) ucLoom (s.loomNo l) tag ((origin - 1) % 32) ((origin - 1) / 32)

/-- Array and word of a place in a loom, as records 0x0301 and 0x0302 give them (16 R392; log 94). -/
def loomWordPlace (w : LoomWord) : Nat × Nat :=
  match w with
  | .localMemory h => (0, h.toNat)
  | .instructionStore i => (2, i.toNat)
  | .activeSet r => (3, r.val)
  | .shadowSet r => (4, r.val)
  | .scaleFile e => (5, e.toNat)

/-- Mark a word of a loom as poisoned, where it is not marked yet. The instruction store keeps no mark. -/
def Loom.markWord (x : Loom) (w : LoomWord) (origin : Nat) : Loom :=
  let keep (m : SMap Nat) (k : Nat) : SMap Nat := if SMap.get 0 m k = 0 then SMap.set 0 m k origin else m
  match w with
  | .localMemory h => x.mark (32 * h.toNat) 32 origin
  | .instructionStore _ => x
  | .activeSet r => { x with active := { x.active with poison := keep x.active.poison r.val } }
  | .shadowSet r => { x with shadow := { x.shadow with poison := keep x.shadow.poison r.val } }
  | .scaleFile e => { x with scalePoison := keep x.scalePoison e.toNat }

/-- What SECDED finds in a word that a unit reads: corrected, or marked as poison whose origin the spec does not give: a free value. A word
that the unit does not read (`reads`) gives no hit. -/
def State.found (s : State) (l : LoomId) (tag : Nat) (reads : LoomWord → Bool) (hit : Option LoomHit) : State :=
  match hit with
  | none => s
  | some h =>
    if !reads h.word then s
    else
      let arr := (Config.arrayNumber (loomWordPlace h.word).1).toNat
      match h.ecc with
      | .single => s.raiseQuad l.q 0x0301 1 ucLoom (s.loomNo l) tag (arr * 2 ^ 32)
      | .multi =>
        let s1 := s.raiseQuad l.q 0x0302 2 ucLoom (s.loomNo l) tag (arr + (loomWordPlace h.word).2 * 2 ^ 32)
        let o := s1.freeOrigin
        o.2.setLoom l ((o.2.loom l).markWord h.word o.1)
      | _ => s

/-- The hit is an uncorrectable descriptor at index i. -/
def storeLost (hit : Option LoomHit) (i : Nat) : Bool :=
  match hit with
  | some h => decide (h.word = .instructionStore (BitVec.ofNat 12 i)) && decide (h.ecc = .multi)
  | none => false

/-- The descriptor at the head, when the sequencer issues and its kind is `kind`; a reserved one is rejected whatever
command meets it. What a sequencer does with a descriptor that SECDED cannot correct the spec does not say: it does not issue, the
loom stops, and the poison counts as consumed (DESIGN CHOICE, log 99). -/
def State.descriptor (s : State) (l : LoomId) (kind : Nat) (hit : Option LoomHit) (f : State → Word512 → State) : State :=
  if s.seqRuns l then
    let x := s.loom l
    let d := SMap.get 0 x.store x.seqIdx.toNat
    if x.seqIdx = 4096 then s.reject l (.row 8)
    else if descKind d ≠ 0 ∧ descKind d ≠ kind then s
    else
      let s1 := s.found l (dTag d) (fun w => decide (w = .instructionStore (BitVec.ofNat 12 x.seqIdx.toNat))) hit
      if storeLost hit x.seqIdx.toNat then (s1.setLoom l { s1.loom l with seq := .stopped }).loomPoison l 0 s.freeOrigin.1
      else if descKind d = 0 then s1.reject l (.row 1)
      else f s1 d
  else s

/-! ### Trace (17 R408, R409) -/

/-- Put a record into the loom's buffer of 16. -/
def State.loomTrace (s : State) (l : LoomId) (kind nth idx : Nat) (d : Word512) : State :=
  if s.traces kind && decide (nth % 2 ^ s.live 0x801002 = 0) then
    let x := s.loom l
    let r := BitVec.ofNat 256 (s.traceBits kind ucLoom (s.loomNo l) l.q (idx + dOp d * 2 ^ 16 + dTag d * 2 ^ 28)
      (s.stepNo (s.loomPart l)))
    if x.trace.length < 16 then s.setLoom l { x with trace := x.trace ++ [r] }
    else (s.setLoom l { x with trace := x.trace.drop 1 ++ [r], traceLost := x.traceLost + 1 }).bump 0x801006 1
  else s

/-! ### Unit queues (R85) -/

/-- Bit of a unit in a WAIT mask. -/
def unitBit (u : UnitKind) : Nat := match u with | .array => 0 | .vector => 1 | .dma => 2 | .chain => 3

/-- The unit's queue has no room: the sequencer waits. -/
def State.unitFull (s : State) (l : LoomId) (u : UnitKind) : Bool := decide (unitDepth u ≤ ((s.loom l).queue u).length)

/-- Every unit of a mask has completed its descriptors. -/
def Loom.unitsIdle (x : Loom) (mask : BitVec 4) : Bool :=
  [UnitKind.array, .vector, .dma, .chain].all (fun u => !mask.toNat.testBit (unitBit u) || decide (x.queue u = []))

/-! ### The hazard detector (R108, R109) -/

/-- The race between a new entry and one in flight; two vector descriptors do not race. Its first overlapping line is the lowest line
of all the overlaps (DEDUCED, log 70). -/
def raceOf (n : InFlight) (o : InFlight) : Option Nat :=
  if dOp n.desc = 0x20 ∧ dOp o.desc = 0x20 then none
  else (commonLines n.reads o.writes ++ commonLines n.writes o.reads ++ commonLines n.writes o.writes).min?

/-- Report a race and take ACTION (R109). How ACTION 0x02 fails the job the spec does not say: the model fails it as R431 fails a rejected
descriptor, with the TAG of the descriptor that issues (DESIGN CHOICE, log 71). -/
def State.race (s : State) (l : LoomId) (n o : InFlight) (line : Nat) : State :=
  let p := s.loomPart l
  let s1 := (s.bump 0x802004 1).raiseQuad l.q 0x0107 2 ucLoom (s.loomNo l) (dTag o.desc) (dTag n.desc + line % 2 ^ 14 * 2 ^ 16)
  if s1.obj 0x802002 = 1 then s1.eclipsePart p
  else if s1.obj 0x802002 = 2 then s1.chargeMistake p (dTag n.desc)
  else s1

/-- Every descriptor in flight. -/
def Loom.inFlight (x : Loom) : List InFlight := x.arrayQ ++ x.vectorQ ++ x.dmaQ ++ x.chainQ

/-- Compare a new entry with the descriptors that were in flight, while the detector is on. -/
def State.hazards (s : State) (l : LoomId) (n : InFlight) (olds : List InFlight) : State :=
  if (s.obj 0x802001).testBit (s.loomPart l) then
    olds.foldl (fun (t : State) o =>
      match raceOf n o with
      | some line => t.race l n o line
      | none => t) s
  else s

/-! ### Issue -/

/-- The sequencer after a control descriptor (index `next`). -/
def State.controlDone (s : State) (l : LoomId) (d : Word512) (x : Loom) : State :=
  let n := x.issued + 1
  let i := (s.loom l).seqIdx.toNat
  ((s.setLoom l { x with issued := n }).loomTrace l 1 n i d).loomTrace l 2 n i d

/-- The bank waits of a descriptor that issues as the n-th of its step are owed to the loom's counters: a DMA's behind fixed requesters and
behind other transfers, another unit's behind fixed requesters (04 R100, R101; 17 R404; DESIGN CHOICE, log 96). -/
def State.bankWaits (s : State) (l : LoomId) (u : UnitKind) (n : Nat) : State :=
  let k := loomKey l
  if u = .dma then
    (s.owe ucLoom k n 6 (Config.dmaBankWait s.ns k n false)).owe ucLoom k n 7 (Config.dmaBankWait s.ns k n true)
  else s.owe ucLoom k n 6 (Config.fixedBankWait (s.part (s.loomPart l)).image k n)

/-- Issue the head descriptor to a unit: hazards are compared, the entry joins the queue, SYNC holds the sequencer. -/
def State.toUnit (s : State) (l : LoomId) (u : UnitKind) (d : Word512) (phase : Nat) (waits : Bool)
    (reads writes : List (Nat × Nat)) : State :=
  let x := s.loom l
  let n := x.issued + 1
  let e : InFlight := { desc := d, index := x.seqIdx, nth := n, reads := reads, writes := writes, phase := phase, waits := waits }
  let y := (x.setQueue u (x.queue u ++ [e]))
  let s1 := s.setLoom l { y with
    issued := n, seqIdx := x.seqIdx + 1
    seq := if waits then .commitWait else if dSync d then .waitDesc n else .running
    seqSince := s.ns }
  ((s1.loomTrace l 1 n x.seqIdx.toNat d).bankWaits l u n).hazards l e x.inFlight

/-- Cycles since the step's start count in quadrant q (R87, R102). -/
def State.elapsed (s : State) (q : Nat) : Nat := ((s.quad q).count - (s.part (s.partOfQuad q)).startCount).toNat

def execWait (l : LoomId) (hit : Option LoomHit) (s : State) : Outcome State Fault Refusal :=
  .next (s.descriptor l 1 hit (fun s d =>
    let x := s.loom l
    let m := BitVec.ofNat 4 (dField d 35 32)
    if m = 0 then s.reject l (.row 1)
    else s.controlDone l d { x with
      seqIdx := x.seqIdx + 1, seq := if x.unitsIdle m then .running else .waitUnits m, seqSince := s.ns }))

def execWaitCycle (l : LoomId) (hit : Option LoomHit) (s : State) : Outcome State Fault Refusal :=
  .next (s.descriptor l 2 hit (fun s d =>
    let x := s.loom l
    let off := dField d 63 32
    let e := s.elapsed l.q
    if off < e then s.controlDone l d { x with seqIdx := x.seqIdx + 1, seq := .running, lateWaits := x.lateWaits + 1 }
    else if off = e then s.controlDone l d { x with seqIdx := x.seqIdx + 1, seq := .running }
    else s.controlDone l d { x with seqIdx := x.seqIdx + 1, seq := .waitCycle (BitVec.ofNat 64 off), seqSince := s.ns }))

/-- The cycles up to the offset pass; the sequencer proceeds (R87). -/
def execWaitCycleExpiry (l : LoomId) (s : State) : Outcome State Fault Refusal :=
  .next (match (s.loom l).seq with
    | .waitCycle o =>
      let d := o.toNat - s.elapsed l.q
      if s.quadRuns l.q && decide (d ≤ (s.quad l.q).room) then
        let s1 := s.passCycles l.q d
        s1.setLoom l { s1.loom l with seq := .running }
      else s
    | _ => s)

def execLoop (l : LoomId) (hit : Option LoomHit) (s : State) : Outcome State Fault Refusal :=
  .next (s.descriptor l 3 hit (fun s d =>
    let x := s.loom l
    let n := dField d 47 32
    if n = 0 then s.reject l (.row 1)
    else if 4 ≤ x.loops.length then s.reject l (.row 8)
    else s.controlDone l d { x with
      seqIdx := x.seqIdx + 1, seq := .running, loops := { body := x.seqIdx + 1, left := n - 1 } :: x.loops }))

def execLoopEnd (l : LoomId) (hit : Option LoomHit) (s : State) : Outcome State Fault Refusal :=
  .next (s.descriptor l 4 hit (fun s d =>
    let x := s.loom l
    match x.loops with
    | [] => s.reject l (.row 8)
    | f :: t =>
      if f.left = 0 then s.controlDone l d { x with seqIdx := x.seqIdx + 1, seq := .running, loops := t }
      else s.controlDone l d { x with seqIdx := f.body, seq := .running, loops := { f with left := f.left - 1 } :: t }))

/-- END with a loop or a block open is rejected (R88, 03 R60); else the loom reports done. -/
def execEndProgram (l : LoomId) (hit : Option LoomHit) (s : State) : Outcome State Fault Refusal :=
  .next (s.descriptor l 5 hit (fun s d =>
    let x := s.loom l
    if x.loops ≠ [] ∨ x.block ≠ none then s.reject l (.row 8)
    else s.controlDone l d { x with seqIdx := x.seqIdx + 1, seq := .ended, seqSince := s.ns }))

/-- A descriptor's completion releases a sequencer that waits for it or for its unit (R86, R87). -/
def Loom.released (x : Loom) (nth : Nat) : Loom :=
  match x.seq with
  | .waitUnits m => if x.unitsIdle m then { x with seq := .running } else x
  | .waitDesc n => if n = nth then { x with seq := .running } else x
  | _ => x

end Sys2Proof.Machine
end

