-- ==== Sys2Proof/Machine/ArrayUnit.lean ====
section
/-! DEFINITION. The systolic array, its output sets, the shadow drain, the assay verdict, the chain and the FP32 matrix path
(03 R56 to R74, R82; 04 R90 to R97; 16 R382 to R387). -/

namespace Sys2Proof.Machine

open Sys2Proof Host

/-! ### Checks of a MATMUL at issue -/

/-- Formats that a stochastic store accepts (04 R93). -/
def srFmt (f : Nat) : Bool := decide (1 ≤ f) && decide (f ≤ 8)

/-- FRAC written for a block's A96 slots (03 R65). -/
def Loom.blockFrac (x : Loom) (d : Word512) : Int :=
  let sf := dField d 35 32
  let wf := dField d 39 36
  (frac0 sf wf : Int) - x.scaleExp sf (dField d 72 64) - x.scaleExp wf (dField d 81 73)

/-- Reserved values and format codes of a MATMUL. -/
def mmReserved (d : Word512) : Option Reject :=
  let sf := dField d 35 32
  let wf := dField d 39 36
  let of_ := dField d 43 40
  if 10 < sf ∨ 10 < wf ∨ 10 < of_ ∨ of_ = 9 ∨ 6 < dField d 47 44 then some (.row 1)
  else if (mmPath sf wf).isNone then some (.row 2)
  else if of_ = 10 ∧ !dBit d 51 then some (.row 2)
  else if dBit d 51 && dBit d 49 && !dBit d 55 && decide (of_ ≠ 10) then some (.row 2)
  else if dBit d 51 ∧ dField d 47 44 ≠ 4 ∧ dField d 47 44 ≠ 5 then some (.row 4)
  else if dBit d 54 && (!dBit d 49 || !srFmt of_) then some (.row 1)
  else none

/-- Rules of the FP32 path, and the fields that are zero otherwise (04 R92; 03 R69). -/
def mmPathRules (d : Word512) : Option Reject :=
  let k := dField d 468 456
  let wtop := signed 8 (dField d 63 56)
  if dField d 35 32 = 0 then
    if dBit d 48 || dBit d 50 || dBit d 55 || !dBit d 49 || decide (k = 0) || decide (4096 < k) then some (.row 1)
    else if wtop < -50 then some (.row 3) else none
  else if k ≠ 0 ∨ wtop ≠ 0 then some (.row 1) else none

/-- Scale fields (04 R89). The spec does not say whether O_SCALE counts as used where nothing is converted by it, on a LAST pass with
TO_CHAIN, or in a CHAIN that is not the final position: the model checks it there too (DESIGN CHOICE, log 74). -/
def Loom.mmScales (x : Loom) (d : Word512) : Option Reject :=
  if x.unmapped (dField d 72 64) || x.unmapped (dField d 81 73) || x.unmapped (dField d 90 82) then some (.row 8)
  else if !x.scaleOk (dField d 35 32) (dField d 72 64) || !x.scaleOk (dField d 39 36) (dField d 81 73) then some (.row 1)
  else if dBit d 49 && !x.scaleOk (dField d 43 40) (dField d 90 82) then some (.row 1) else none

/-- The last CHAIN descriptor waits for its MATMUL (04 R97). -/
def Loom.chainFree (x : Loom) : Bool := match x.chainQ.getLast? with | some e => e.phase == 0 | none => false

/-- The block of a MATMUL with LAST is written as A96 slots: a wide one to local memory; with TO_CHAIN as the words of a chain of several
positions, or by a chain of one that is wide (03 R65, R71). -/
def Loom.writesSlots (x : Loom) (d : Word512) : Bool :=
  if dBit d 55 then
    match x.chainQ.getLast? with
    | some e => decide (dField e.desc 45 40 ≠ 0) || dBit e.desc 46
    | none => false
  else dBit d 51

/-- Block rules, REUSE, TO_CHAIN and the written FRAC on an array path (03 R59, R60, R65; 04 R97). -/
def Loom.mmBlock (x : Loom) (d : Word512) : Option Reject :=
  let sf := dField d 35 32
  let wf := dField d 39 36
  let fmts : BitVec 4 × BitVec 4 := (BitVec.ofNat 4 sf, BitVec.ofNat 4 wf)
  let deep := if mmPath sf wf = some .paired then 32 else 64
  if dBit d 48 ≠ x.block.isNone then some (.row 8)
  else if (match x.block with | some b => decide ((b.1, b.2.1) ≠ fmts) | none => false) then some (.row 2)
  else if (match x.block with | some b => decide (deep ≤ b.2.2) | none => false) then some (.row 3)
  else if dBit d 49 && x.writesSlots d && (decide (x.blockFrac d < -128) || decide (127 < x.blockFrac d)) then some (.row 3)
  else if dBit d 50 && decide (x.preloaded ≠ some fmts.2) then some (.row 8)
  else if dBit d 55 && !x.chainFree then some (.row 8)
  else none

/-- Line ranges past line 16,383 (04 R98). -/
def rangesOk (l : List (Nat × Nat)) : Bool := l.all (fun r => linesOk r.1 r.2)

def firstReject (l : List (Option Reject)) : Option Reject := l.findSome? id

def Loom.mmCheck (x : Loom) (d : Word512) : Option Reject :=
  firstReject [mmReserved d, mmPathRules d, x.mmScales d, if dField d 35 32 = 0 then none else x.mmBlock d,
    if rangesOk (mmReads d ++ mmWrites d) then none else some (.row 6)]

/-- A MATMUL with TO_CHAIN takes the last CHAIN descriptor (04 R97), whether or not it carries LAST (DESIGN CHOICE, log 121). -/
def takeChain : List InFlight → List InFlight
  | [] => []
  | [e] => [{ e with phase := 1 }]
  | e :: t => e :: takeChain t

/-- The sequencer's record of the open block and of the tile preloaded, after a MATMUL on an array path. TO_CHAIN takes the CHAIN also where LAST
is clear (DESIGN CHOICE, log 121). -/
def Loom.noteMatmul (x : Loom) (d : Word512) : Loom :=
  if dField d 35 32 = 0 then x
  else
    let n := match x.block with | some b => b.2.2 + 1 | none => 1
    let fmts : BitVec 4 × BitVec 4 := (BitVec.ofNat 4 (dField d 35 32), BitVec.ofNat 4 (dField d 39 36))
    { x with
      block := if dBit d 49 then none else some (fmts.1, fmts.2, n)
      preloaded := if dBit d 50 then x.preloaded else some fmts.2
      chainQ := if dBit d 55 then takeChain x.chainQ else x.chainQ }

def execMatmul (l : LoomId) (hit : Option LoomHit) (s : State) : Outcome State Fault Refusal :=
  .next (s.descriptor l 0x10 hit (fun s d =>
    if s.unitFull l .array then s
    else match (s.loom l).mmCheck d with
      | some r => s.reject l r
      | none =>
        let phase := if dBit d 50 || dField d 35 32 = 0 then 1 else 0
        (s.setLoom l ((s.loom l).noteMatmul d)).toUnit l .array d phase false (mmReads d) (mmWrites d)))

/-! ### CHAIN (04 R97) -/

/-- Checks of a CHAIN. The format-code mismatch of WIDE with another O_FMT than A96, or of A96 without WIDE, the spec states for MATMUL:
the model rejects a CHAIN for it too (DESIGN CHOICE, log 103). -/
def Loom.chainCheck (x : Loom) (d : Word512) : Option Reject :=
  let pos := dField d 37 32
  let last := dField d 45 40
  let of_ := dField d 51 48
  let kind := dField d 55 52
  if 10 < of_ ∨ of_ = 9 ∨ 6 < kind ∨ last < pos then some (.row 1)
  else if decide (pos = 0) ≠ decide (dField d 71 64 = 255) ∨ decide (pos = last) ≠ decide (dField d 79 72 = 255) then some (.row 1)
  else if dBit d 46 ≠ decide (of_ = 10) then some (.row 2)
  else if dBit d 46 ∧ kind ≠ 4 ∧ kind ≠ 5 then some (.row 4)
  else if x.unmapped (dField d 88 80) then some (.row 8)
  else if !x.scaleOk of_ (dField d 88 80) then some (.row 1)
  else if !rangesOk (chainWrites d) then some (.row 6) else none

def execChain (l : LoomId) (hit : Option LoomHit) (s : State) : Outcome State Fault Refusal :=
  .next (s.descriptor l 0x40 hit (fun s d =>
    if s.unitFull l .chain then s
    else match (s.loom l).chainCheck d with
      | some r => s.reject l r
      | none => s.toUnit l .chain d 0 false [] (chainWrites d)))

/-! ### Stationary preload (03 R59, R68) -/

/-- Random bits of operand element i in the BF16 window (02 R46, R47). -/
def State.windowBits (s : State) (p kind tensor idx product : Nat) : Nat :=
  srBits (s.part p).seed (s.stepNo p) tensor idx kind product

/-- The plane that a MATMUL's stationary tile fills: element (k, n) at key 64k + n. -/
def State.planeOf (s : State) (l : LoomId) (d : Word512) : Plane :=
  let x := s.loom l
  let wf := dField d 39 36
  let deep := match mmPath (dField d 35 32) wf with | some p => mmDepth p | none => 64
  let line (k : Nat) := dField d 155 142 + k * rowLines wf 64
  let idx (k n : Nat) := (dField d 343 304 + (if dBit d 53 then n * dField d 431 408 + k else k * dField d 431 408 + n)) % 2 ^ 40
  let rows := (List.range deep).map (fun k => x.elems wf (line k) 64)
  { fmt := some (BitVec.ofNat 4 wf)
    elems := ((rows.flatten).zipIdx.map (fun e => (e.2, e.1))).filter (fun e => e.2 != 0)
    ub := if wf = 1 then
        ((List.range 4096).map (fun i => (i, BitVec.ofNat 32 (s.windowBits (s.loomPart l) 2 (dField d 239 216) (idx (i / 64) (i % 64)) (dField d 107 96))))).filter
          (fun e => e.2 != 0)
      else []
    poison := (List.range deep).foldl (fun a k => firstOrigin a (x.elemsPoison wf (line k) 64)) 0 }

/-- The pass that preloads next: the first queued one, once every pass before it has issued. -/
def nextPreload : List InFlight → Option InFlight
  | [] => none
  | e :: t => if 2 ≤ e.phase then nextPreload t else if e.phase = 0 then some e else none

/-- Set the phase of the first entry of a list that satisfies a test. -/
def setPhase (p : InFlight → Bool) (n : Nat) : List InFlight → List InFlight
  | [] => []
  | e :: t => if p e then { e with phase := n } :: t else e :: setPhase p n t

/-- Words of local memory in line ranges. -/
def linesRead (ranges : List (Nat × Nat)) (w : LoomWord) : Bool := match w with | .localMemory h => halfIn ranges h | _ => false

/-- Entries of the scale file that fields name. -/
def scalesRead (flds : List Nat) (w : LoomWord) : Bool := match w with | .scaleFile e => flds.contains (256 + e.toNat) | _ => false

/-- `hit`: what SECDED finds in a half line of the stationary tile. -/
def execStationaryPreload (l : LoomId) (hit : Option LoomHit) (s : State) : Outcome State Fault Refusal :=
  .next (if s.quadRuns l.q then
    match nextPreload (s.loom l).arrayQ with
    | none => s
    | some e =>
      let t := s.found l (dTag e.desc) (linesRead (e.reads.drop 1)) hit
      let x := t.loom l
      t.setLoom l { x with idlePlane := t.planeOf l e.desc, arrayQ := setPhase (fun o => o.phase == 0) 1 x.arrayQ }
  else s)

/-! ### A tile pass (03 R58, R60, R61, R64, R66) -/

/-- A contribution to a sum: an exact integer and the non-finite flags (02 R37). -/
structure Contribution where
  sum  : Int
  nan  : Bool
  pinf : Bool
  ninf : Bool
  deriving DecidableEq, Repr

def Contribution.none : Contribution := { sum := 0, nan := false, pinf := false, ninf := false }

/-- Add one product, as an integer at 2^-frac, with random bits on the BF16 window. -/
def Contribution.product (c : Contribution) (a b : Val) (frac : Int) (u : Option Nat) : Contribution :=
  match a.mul b with
  | .nan => { c with nan := true }
  | .inf s => if s then { c with ninf := true } else { c with pinf := true }
  | .fin s n d e => let x := inUnits n d e (-frac); { c with sum := c.sum + roundInt s x.1 x.2 u }

/-- Add a pass's sum into an accumulator (03 R70). -/
def A96.accumulate (a : A96) (frac : Int) (c : Contribution) : A96 :=
  { value := wrap96 (a.int + c.sum), frac := BitVec.ofInt 8 frac, ovf := a.ovf || past96 (a.int + c.sum)
    pinf := a.pinf || c.pinf, ninf := a.ninf || c.ninf, nan := a.nan || c.nan }

/-- The sum that streaming row m forms in column n of a plane. -/
def passSum (d : Word512) (pl : Plane) (deep : Nat) (row : List Nat) (ua : List Nat) (n : Nat) : Contribution :=
  let sf := dField d 35 32
  let wf := dField d 39 36
  (List.range deep).foldl (fun c k =>
    let u := if sf = 1 then some (ua.getD k 0 ^^^ (SMap.get 0 pl.ub (64 * k + n)).toNat) else none
    c.product (elemVal sf (row.getD k 0)) (elemVal wf (SMap.get 0 pl.elems (64 * k + n))) (frac0 sf wf) u) Contribution.none

/-- Streaming row m of a pass, and its random bits ua. -/
def State.streamRow (s : State) (l : LoomId) (d : Word512) (deep m : Nat) : List Nat × List Nat :=
  let x := s.loom l
  let sf := dField d 35 32
  let idx (k : Nat) := (dField d 303 264 + (if dBit d 52 then k * dField d 407 384 + m else m * dField d 407 384 + k)) % 2 ^ 40
  (x.elems sf (dField d 141 128 + m * rowLines sf deep) deep,
   if sf = 1 then (List.range deep).map (fun k => s.windowBits (s.loomPart l) 1 (dField d 215 192) (idx k) (dField d 107 96)) else [])

/-- The active set after a pass: output (m, n) at key 64m + n. -/
def State.passResult (s : State) (l : LoomId) (d : Word512) (pl : Plane) (deep : Nat) (acc : SMap A96) : SMap A96 :=
  let f : Int := frac0 (dField d 35 32) (dField d 39 36)
  (((List.range 64).map (fun m =>
    let r := s.streamRow l d deep m
    (List.range 64).map (fun n =>
      (64 * m + n, (SMap.get A96.zero acc (64 * m + n)).accumulate f (passSum d pl deep r.1 r.2 n))))).flatten).filter
    (fun e => decide (e.2 ≠ A96.zero))

/-- Positions whose OVF an addition set. A value is reported by the pass, or by the hop, in which it wraps, and not again where a later
pass or hop carries its OVF on; a result of a WADD or WSUM with OVF is reported whichever addition wrapped (DESIGN CHOICE, log 100). -/
def newOvf (old new : SMap A96) : List Nat :=
  (new.filter (fun e => e.2.ovf && !(SMap.get A96.zero old e.1).ovf)).map (·.1)

/-- Report wrapped values: record 0x0204 with column and row (03 R70; 16 R385). -/
def State.overflows (s : State) (l : LoomId) (tag : Nat) (keys : List Nat) : State :=
  keys.foldl (fun (t : State) i =>
    (t.raiseQuad l.q 0x0204 2 ucLoom (t.loomNo l) tag (i % 64 + i / 64 % 64 * 2 ^ 6)).bump 0x702006 1) s

/-- Rewrite every accumulator's FRAC, as a block leaves for a chain (03 R65, R71). -/
def withFrac (acc : SMap A96) (f : Int) : SMap A96 :=
  ((List.range 4096).map (fun i => (i, { SMap.get A96.zero acc i with frac := BitVec.ofInt 8 f }))).filter
    (fun e => decide (e.2 ≠ A96.zero))

/-- The rows of a finished block swap to the empty shadow set; with TO_CHAIN on its last pass the loom takes its chain role at count `c`
(R61, R71). -/
def Loom.swapSets (x : Loom) (d : Word512) (c : BitVec 64) : Loom :=
  let y := { x with
    shadow := { x.active with full := true, desc := d, acc := if dBit d 55 then withFrac x.active.acc (x.blockFrac d) else x.active.acc }
    active := .empty, swapDue := none }
  if dBit d 55 then
    match y.chainQ.find? (fun e => e.phase == 1) with
    | some e =>
      let r : ChainRole := { desc := e.desc, since := c, coming := [], held := [], passed := 0, out := [], seen := [], poison := [] }
      { y with role := some r }
    | none => y
  else y

/-- Origins of the poison that a pass brings to the rows of the active set: the streaming row's, or the plane's (R82). -/
def Loom.passOrigins (x : Loom) (d : Word512) (pl : Plane) (deep : Nat) : List Nat :=
  (List.range 64).map (fun m =>
    firstOrigin pl.poison (x.elemsPoison (dField d 35 32) (dField d 141 128 + m * rowLines (dField d 35 32) deep) deep))

/-- Rows keep the first origin that reached them. -/
def markRows (m : SMap Nat) (origins : List Nat) : SMap Nat :=
  origins.zipIdx.foldl (fun a o => if o.1 = 0 ∨ SMap.get 0 a o.2 ≠ 0 then a else SMap.set 0 a o.2 o.1) m

/-- A block's last pass has added its rows: they swap, or wait until the shadow set has drained; the model's rows swap together (R61; DESIGN
CHOICE, log 122). -/
def Loom.blockEnds (x : Loom) (d : Word512) (c : BitVec 64) : Loom := if x.shadow.full then { x with swapDue := some d } else x.swapSets d c

/-- A pass on an array path. A REUSE between a paired pass of 128 rows and a narrow pass of the same W_FMT the spec does not speak of: the
narrow one takes rows 0 to 63 of the plane, the paired one reads rows that were not preloaded as zeros (DESIGN CHOICE, log 75). -/
def State.arrayPass (s : State) (l : LoomId) (d : Word512) : State :=
  let x := s.loom l
  let deep := match mmPath (dField d 35 32) (dField d 39 36) with | some p => mmDepth p | none => 64
  let pl := if dBit d 50 then x.plane else x.idlePlane
  let acc := s.passResult l d pl deep x.active.acc
  let origins := x.passOrigins d pl deep
  let y := { x with
    plane := pl
    idlePlane := if dBit d 50 then x.idlePlane else .empty
    active := { x.active with acc := acc, poison := markRows x.active.poison origins } }
  let z := if dBit d 49 then y.blockEnds d (s.quad l.q).count else y
  let s1 := s.setLoom l { z with arrayQ := setPhase (fun o => o.phase == 1) (if dBit d 49 then 2 else 3) z.arrayQ }
  (s1.overflows l (dTag d) (newOvf x.active.acc acc)).loomPoison l (dTag d) (firstOf origins)

/-! ### Output of a block (03 R62, R65, R74; 04 R90, R91, R93) -/

/-- Where and how a block's values are written: format, scale field, kind of rounding, first line, index map, TAG. -/
structure OutForm where
  fmt    : Nat
  fld    : Nat
  wide   : Bool
  sr     : Bool
  line   : Nat
  tensor : Nat
  index  : Nat
  stride : Nat
  mb     : Nat

def mmOut (d : Word512) : OutForm :=
  { fmt := dField d 43 40, fld := dField d 90 82, wide := dBit d 51, sr := dBit d 54, line := dField d 169 156
    tensor := dField d 263 240, index := dField d 383 344, stride := dField d 455 432, mb := dField d 119 108 }

def chainOut (d : Word512) : OutForm :=
  { fmt := dField d 51 48, fld := dField d 88 80, wide := dBit d 46, sr := false, line := dField d 102 89
    tensor := dField d 151 128, index := dField d 191 152, stride := dField d 215 192, mb := 0 }

/-- Record a conversion in the accumulator of the register entry that the destination's scale field names (06 R140). -/
def Loom.note (x : Loom) (fld : Nat) (c : ConvClass) (v : Val) : Loom :=
  if fld.testBit 8 then
    { x with eph := SMap.set EphAcc.zero x.eph (fld % 256) ((SMap.get EphAcc.zero x.eph (fld % 256)).record c v) }
  else x

/-- Convert one value for the output: pattern and class. -/
def State.outElem (s : State) (l : LoomId) (o : OutForm) (v : Val) (idx : Nat) : Nat × ConvClass :=
  let u := if o.sr then some (srBits (s.part (s.loomPart l)).seed (s.stepNo (s.loomPart l)) o.tensor (idx % 2 ^ 40) 3 o.mb) else none
  convertTo o.fmt (v.scale (-(s.loom l).scaleExp o.fmt o.fld)) u

/-- Write one output row of values, in order, each with the origin of its poison; a value that never arrived leaves its element as it
was. -/
def State.outRow (s : State) (l : LoomId) (o : OutForm) (m : Nat) (vals : List (Option A96)) (exp : Int) (origins : List Nat) : State :=
  let x := s.loom l
  let f := if o.wide then 10 else o.fmt
  let line := o.line + m * rowLines f vals.length
  let old := x.elems f line vals.length
  let conv := vals.zipIdx.map (fun e =>
    match e.1 with
    | none => (old.getD e.2 0, ConvClass.ordinary, (none : Option Val))
    | some a =>
      if o.wide then (a.slot, ConvClass.ordinary, none)
      else
        let v := a.val.scale exp
        let c := s.outElem l o v (o.index + m * o.stride + e.2)
        (c.1, c.2, some v))
  let y := conv.foldl (fun (z : Loom) c => match c.2.2 with | some v => z.note o.fld c.2.1 v | none => z) x
  s.setLoom l (y.putElems (64 * line) (fmtWidth f) (packElems f (conv.map (·.1))) origins)

/-- Write a block of 64 rows. -/
def State.outBlock (s : State) (l : LoomId) (o : OutForm) (val : Nat → Option A96) (exp : Int) (origin : Nat → Nat) : State :=
  (List.range 64).foldl (fun (t : State) m =>
    t.outRow l o m ((List.range 64).map (fun n => val (64 * m + n))) exp ((List.range 64).map (fun n => origin (64 * m + n)))) s

/-- Scale fields of a MATMUL: the operands' and the destination's. -/
def mmScaleFields (d : Word512) : List Nat := [dField d 72 64, dField d 81 73, dField d 90 82]

/-- Origin of the poison that the scales of a MATMUL bring to its results where they are converted; a wide result takes none. -/
def Loom.mmScaleOrigin (x : Loom) (d : Word512) : Nat :=
  if dBit d 51 then 0 else firstOf ((mmScaleFields d).map x.scaleOrigin)

/-! ### The FP32 matrix path (03 R69; 04 R92) -/

/-- Output j: products rounded to nearest even into the window, one exact addition each. -/
def State.fp32Dot (s : State) (l : LoomId) (d : Word512) (j : Nat) : A96 :=
  let x := s.loom l
  let k := dField d 468 456
  let f : Int := 77 - signed 8 (dField d 63 56)
  let a := x.elems 0 (dField d 141 128 + j * rowLines 0 k) k
  let b := x.elems 0 (dField d 155 142 + j * rowLines 0 k) k
  (a.zip b).foldl (fun acc e => acc.accumulate f (Contribution.none.product (val32 e.1) (val32 e.2) f none))
    { A96.zero with frac := BitVec.ofInt 8 f }

/-- The product writes its 256 values as one row: value j has index O_INDEX + j, and O_STRIDE is not used (DESIGN CHOICE, log 101: the spec
gives neither their place nor their indices). Its products go through the window unit, so it owes a verdict (16 R384). -/
def State.fp32Product (s : State) (l : LoomId) (d : Word512) : State :=
  let x := s.loom l
  let accs := (List.range 256).map (s.fp32Dot l d)
  let k := dField d 468 456
  let origins := ((List.range 256).map (fun j => firstOrigin (x.elemsPoison 0 (dField d 141 128 + j * rowLines 0 k) k)
    (x.elemsPoison 0 (dField d 155 142 + j * rowLines 0 k) k))).map (firstOrigin (x.mmScaleOrigin d))
  let s1 := s.outRow l (mmOut d) 0 (accs.map some) 0 origins
  let v : OwedVerdict := { missed := false, hop := false, pos := 0, window := true, tag := BitVec.ofNat 16 (dTag d)
                           acc := accs.zipIdx.map (fun e => (e.2, e.1)) }
  let s2 := s1.setLoom l { s1.loom l with
    arrayQ := setPhase (fun o => o.phase == 1) 3 (s1.loom l).arrayQ, verdicts := (s1.loom l).verdicts ++ [v] }
  (s2.overflows l (dTag d) ((accs.zipIdx.filter (fun e => e.1.ovf)).map (·.2))).loomPoison l (dTag d) (firstOf origins)

/-! ### Issue of a pass -/

/-- Words that a pass reads: its streaming tile and the active set; on the FP32 path both tiles and the scales. -/
def passReads (e : InFlight) (w : LoomWord) : Bool :=
  if dField e.desc 35 32 = 0 then linesRead e.reads w || scalesRead (mmScaleFields e.desc) w
  else linesRead (e.reads.take 1) w || (match w with | .activeSet _ => true | _ => false)

/-- A row of the active set that SECDED could not correct enters the sums of this pass (R82). -/
def activeLost (hit : Option LoomHit) : Bool :=
  match hit with
  | some h => decide (h.ecc = .multi) && (match h.word with | .activeSet _ => true | _ => false)
  | none => false

/-- The next pass issues once its stationary tile is preloaded, its streaming tile is in local memory, and no rows of the block before wait
for the shadow set (R59, R61). `hit`: what SECDED finds in a word that it reads. -/
def execTilePassIssue (l : LoomId) (hit : Option LoomHit) (s : State) : Outcome State Fault Refusal :=
  .next (if s.quadRuns l.q then
    let x := s.loom l
    match nextPass x.arrayQ with
    | none => s
    | some e =>
      if x.tileWaits e || x.shadowWaits e then s
      else
        let s1 := s.found l (dTag e.desc) (passReads e) hit
        if dField e.desc 35 32 = 0 then s1.fp32Product l e.desc
        else if activeLost hit then (s1.arrayPass l e.desc).loomPoison l (dTag e.desc) (firstOf ((s1.loom l).active.poison.map (·.2)))
        else s1.arrayPass l e.desc
  else s)

/-! ### The shadow drain (03 R62, R71) -/

/-- Scale exponents of the operands together, from the pass that carries LAST (R65). -/
def Loom.operandExp (x : Loom) (d : Word512) : Int :=
  x.scaleExp (dField d 35 32) (dField d 72 64) + x.scaleExp (dField d 39 36) (dField d 81 73)

/-- The verdict owed on the block in the shadow set; at a hop the words that were missed are the hop's (16 R383). -/
def Loom.blockVerdict (x : Loom) (hop : Bool) : OwedVerdict :=
  { missed := x.slotMissed && !hop, hop := false, pos := 0, window := decide (dField x.shadow.desc 35 32 = 1)
    tag := BitVec.ofNat 16 (dTag x.shadow.desc), acc := x.shadow.acc }

/-- The verdict owed on the sums that a hop made (03 R72; 16 R385). -/
def Loom.hopVerdict (x : Loom) (r : ChainRole) : OwedVerdict :=
  { missed := x.slotMissed, hop := true, pos := BitVec.ofNat 6 (dField r.desc 37 32), window := false
    tag := BitVec.ofNat 16 (dTag r.desc), acc := r.out }

/-- The block has left the shadow set: a verdict on it is owed, at a hop one on the sums too; the array and chain entries are finished. -/
def Loom.blockLeft (x : Loom) (hop : Option ChainRole) : Loom :=
  { x with
    verdicts := x.verdicts ++ x.blockVerdict hop.isSome :: (match hop with | some r => [x.hopVerdict r] | none => [])
    slotMissed := false, shadow := .empty, role := none, firstWord := none
    arrayQ := setPhase (fun e => e.phase == 2) 3 x.arrayQ
    chainQ := if x.role.isSome then setPhase (fun e => e.phase == 1) 3 x.chainQ else x.chainQ }

/-- The block has left, and the rows of one that waited for the shadow set swap at count `c` (R61). -/
def Loom.drained (x : Loom) (hop : Option ChainRole) (c : BitVec 64) : Loom :=
  let y := x.blockLeft hop
  match y.swapDue with
  | some d => y.swapSets d c
  | none => y

/-- Drain to local memory from the shadow set. -/
def State.drainLocal (s : State) (l : LoomId) : State :=
  let x := s.loom l
  let d := x.shadow.desc
  let val (i : Nat) : Option A96 :=
    let a := SMap.get A96.zero x.shadow.acc i
    some (if dBit d 51 then { a with frac := BitVec.ofInt 8 (x.blockFrac d) }
          else { a with frac := BitVec.ofInt 8 (frac0 (dField d 35 32) (dField d 39 36)) })
  let o := x.mmScaleOrigin d
  let s1 := s.outBlock l (mmOut d) val (x.operandExp d) (fun i => firstOrigin o (SMap.get 0 x.shadow.poison (i / 64)))
  (s1.setLoom l ((s1.loom l).drained none (s.quad l.q).count)).loomPoison l (dTag d) o

/-- Drain at a chain position: the final one writes the sums that were made; a chain of one position writes its block, whose exact scaled
values a conversion takes without a limit of FRAC (R65, R71). -/
def State.drainChain (s : State) (l : LoomId) (r : ChainRole) : State :=
  let x := s.loom l
  let d := x.shadow.desc
  let pos := dField r.desc 37 32
  let o := if r.outStream.isSome || dBit r.desc 46 then 0 else x.scaleOrigin (dField r.desc 88 80)
  let s1 := if r.outStream.isSome then s
    else
      let val (i : Nat) : Option A96 :=
        if pos = 0 then some { SMap.get A96.zero x.shadow.acc i with frac := BitVec.ofInt 8 (if dBit r.desc 46 then x.blockFrac d else frac0 (dField d 35 32) (dField d 39 36)) }
        else if SMap.get false r.seen (i / 4) then some (SMap.get A96.zero r.out i) else none
      let origin (i : Nat) : Nat := if pos = 0 then SMap.get 0 x.shadow.poison (i / 64) else SMap.get 0 r.poison (i / 4)
      s.outBlock l (chainOut r.desc) val (if pos = 0 then x.operandExp d else 0) (fun i => firstOrigin o (origin i))
  (s1.setLoom l ((s1.loom l).drained (if pos = 0 then none else some r) (s.quad l.q).count)).loomPoison l (dTag r.desc) o

/-- Words of the block that never left or arrived here when its passage ends: slot misses, and the block fails its verdict (04 R104;
DEDUCED, log 69). -/
def State.chainShort (s : State) (l : LoomId) (r : ChainRole) : State :=
  let n := if dField r.desc 37 32 = dField r.desc 45 40 ∧ dField r.desc 37 32 = 0 then 0 else 1024 - r.passed
  if n = 0 then s
  else
    let s1 := s.slotMiss l (r.outStream.getD (dField r.desc 71 64)) (s.slotNow l.q)
    s1.bump (0x30F006 + 0x10000 * l.q.val) (n - 1)

/-- The passage of a chain's block is over: every word has left, or at the final position arrived; or its 1,058 cycles have passed, at
position 0 since the block was in the shadow set, at a hop since its first word arrived, and no sum waits there (R71, R72). -/
def State.passageOver (s : State) (l : LoomId) (r : ChainRole) : Bool :=
  let c := (s.quad l.q).count.toNat
  if dField r.desc 37 32 = 0 then decide (1024 ≤ r.passed) || r.outStream.isNone || decide (r.since.toNat + 1058 ≤ c)
  else
    decide (1024 ≤ r.passed)
      || (decide (r.coming = []) && decide (r.held = [])
        && (match (s.loom l).firstWord with | some f => decide (f.toNat + 1058 ≤ c) | none => false))

/-- The chain role under which the block in the shadow set leaves; none: it drains to local memory. -/
def Loom.drainRole (x : Loom) : Option ChainRole := if dBit x.shadow.desc 55 then x.role else none

/-- Words that a drain reads: the shadow set, where it leaves from it and not by slots, and the scales of a conversion. -/
def Loom.drainReads (x : Loom) (w : LoomWord) : Bool :=
  match x.drainRole with
  | none => (match w with | .shadowSet _ => true | _ => !dBit x.shadow.desc 51 && scalesRead (mmScaleFields x.shadow.desc) w)
  | some r =>
    r.outStream.isNone && (match w with
      | .shadowSet _ => decide (dField r.desc 37 32 = 0)
      | _ => !dBit r.desc 46 && scalesRead [dField r.desc 88 80] w)

/-- A row of the shadow set that SECDED could not correct is converted as it leaves: a use of the poison; a wide drain only moves it
(R82; 09 R212). -/
def Loom.drainUses (x : Loom) (hit : Option LoomHit) : Bool :=
  match hit with
  | some h => decide (h.ecc = .multi) && (match h.word with | .shadowSet _ => x.drainReads h.word | _ => false)
      && !(match x.drainRole with | some r => dBit r.desc 46 | none => dBit x.shadow.desc 51)
  | none => false

/-- The drain completes. `hit`: what SECDED finds in a word that it reads. -/
def execShadowDrainComplete (l : LoomId) (hit : Option LoomHit) (s : State) : Outcome State Fault Refusal :=
  .next (
    let x := s.loom l
    let tag := dTag x.shadow.desc
    if s.quadRuns l.q && x.shadow.full then
      if dBit x.shadow.desc 55 && !(match x.role with | some r => s.passageOver l r | none => false) then s
      else
        let s1 := s.found l tag x.drainReads hit
        let y := s1.loom l
        let s2 := match y.drainRole with
          | some r => (s1.chainShort l r).drainChain l r
          | none => s1.drainLocal l
        if x.drainUses hit then s2.loomPoison l tag (firstOf (y.shadow.poison.map (·.2))) else s2
    else s)

/-! ### Chain hops (03 R71 to R73) -/

/-- A chain word is discarded. -/
def State.chainMiss (s : State) (l : LoomId) (w : FWord) : State := s.slotMiss l (sideStream w) (s.slotNow l.q)

/-- The four sums of an arriving word with the own shadow values. -/
def Loom.hopSums (x : Loom) (idx : Nat) (w : FWord) : List (Nat × A96) :=
  (List.range 4).map (fun j =>
    let i := 4 * idx + j
    let own := { SMap.get A96.zero x.shadow.acc i with frac := BitVec.ofInt 8 (x.blockFrac x.shadow.desc) }
    (i, (A96.ofSlot (w.payload.toNat / 2 ^ (128 * j) % 2 ^ 128)).add own))

/-- Sums whose addition wrapped at this hop. -/
def Loom.hopWraps (x : Loom) (idx : Nat) (w : FWord) : List Nat :=
  (List.range 4).filterMap (fun j =>
    let i := 4 * idx + j
    let own := { SMap.get A96.zero x.shadow.acc i with frac := BitVec.ofInt 8 (x.blockFrac x.shadow.desc) }
    if (A96.ofSlot (w.payload.toNat / 2 ^ (128 * j) % 2 ^ 128)).addWraps own then some i else none)

/-- The sum of an arriving word is made: kept at the final position, else on its way to the hold, ready 12 cycles after the word lay in the
receive buffer (R72). Poison that comes with the word has an origin the word does not carry: a free value (R82; 08 R175). -/
def State.hop (s : State) (l : LoomId) (r : ChainRole) (idx : Nat) (rx : RxWord) : State :=
  let x := s.loom l
  let w := rx.word
  let sums := x.hopSums idx w
  let own := SMap.get 0 x.shadow.poison (idx / 16)
  let o := if own = 0 && sidePoison w then s.freeOrigin else (own, s)
  let base : ChainRole := { r with
    seen := SMap.set false r.seen idx true, poison := SMap.set 0 r.poison idx o.1
    out := sums.foldl (fun m e => SMap.set A96.zero m e.1 e.2) r.out }
  let r2 : ChainRole := match r.outStream with
    | none => { base with passed := r.passed + 1 }
    | some out =>
      let word := FWordSeal (sums.foldr (fun e a => e.2.slot + a * 2 ^ 128) 0) (out + (if o.1 = 0 then 0 else 2 ^ 10))
      { base with coming := r.coming ++ [{ idx := idx, word := word, ready := rx.since + 12 }] }
  let s1 := o.2.setLoom l { x with role := some r2 }
  (s1.overflows l (dTag r.desc) (x.hopWraps idx w)).loomPoison l (dTag r.desc) o.1

/-- The oldest chain word of its stream in the receive buffer is taken, at its place in the block (R71): one that came before the block was in
the shadow set, or to a loom that awaits none, is discarded as a slot miss (R73). `hit`: what SECDED finds in the row of the shadow set that it is added to. -/
def execChainWordArrival (l : LoomId) (idx : Fin 1024) (w : FWord) (hit : Option LoomHit) (s : State) : Outcome State Fault Refusal :=
  .next (
    let x0 := s.loom l
    match x0.rxBuf.find? (fun e => decide (e.stream.toNat = sideStream w)) with
    | none => s
    | some e =>
      if !s.quadRuns l.q || e.word != w || e.place != BitVec.ofFin idx || decide ((s.quad l.q).count < e.since) then s
      else
        let first := match x0.role with | some r => decide (dField r.desc 71 64 = sideStream w) | none => true
        let s0 := s.setLoom l { x0 with
          rxBuf := x0.rxBuf.erase e, firstWord := if first then some (x0.firstWord.getD e.since) else x0.firstWord }
        match x0.role with
        | none => s0.chainMiss l w
        | some r =>
          if dField r.desc 37 32 = 0 ∨ dField r.desc 71 64 ≠ sideStream w ∨ !x0.shadow.full ∨ e.since < r.since then s0.chainMiss l w
          else
            let s1 := (s0.found l (dTag r.desc) (fun v => decide (v = .shadowSet (Fin.ofNat 64 (idx.val / 16)))) hit).promoteSums l
            s1.hop l ((s1.loom l).role.getD r) idx e)

/-! ### The assay (03 R63; 16 R382 to R387) -/

/-- Residue modulo 127 of an accumulator's VALUE. -/
def A96.residue (a : A96) : Nat := (a.int % 127).toNat

/-- Place an upset names. -/
def upsetKey (u : Upset) : Nat :=
  match u with
  | .column r c _ | .split r c _ _ | .decision r c | .flags r c | .hop r c _ => 64 * r.val + c.val
  | .lane _ _ _ | .table _ _ _ _ _ => 0

/-- Lane, datapath and TAG of a lane-check failure; a table word that SECDED corrects is none (R386). -/
def upsetLane (u : Upset) : Option (Nat × Nat × Nat) :=
  match u with
  | .lane a b t => some (a.toNat, b.toNat, t.toNat)
  | .table a b t _ true => some (a.toNat, b.toNat, t.toNat)
  | _ => none

/-- The check sees the upset: residues differ, where OVF is clear; a split or a rounding decision on a window path; the two sets of flags;
a lane (R383 to R386). -/
def upsetSeen (v : OwedVerdict) (u : Upset) : Bool :=
  let a := SMap.get A96.zero v.acc (upsetKey u)
  match u with
  | .column _ _ f => !v.hop && !a.ovf && decide (f.val ≠ a.residue)
  | .split _ _ p f => v.window && decide (p ≠ f)
  | .decision _ _ => v.window
  | .flags _ _ => true
  | .hop _ _ f => v.hop && !a.ovf && decide (f.val ≠ a.residue)
  | _ => (upsetLane u).isSome

/-- Predicted and found residue of a failed verdict. Where no residue differs, as when two decisions or two sets of flags disagree, the
spec does not give them: free values (log 104); the block of a missed slot names its first value with zeros (log 69). -/
def State.upsetResidues (s : State) (v : OwedVerdict) (u : Option Upset) : Nat × Nat :=
  match u with
  | some (.column r c f) => ((SMap.get A96.zero v.acc (upsetKey (.column r c f))).residue, f.val)
  | some (.hop r c f) => ((SMap.get A96.zero v.acc (upsetKey (.hop r c f))).residue, f.val)
  | some (.split _ _ p f) => (p.val, f.val)
  | some _ => (Config.free s.fresh / 2 ^ 32 % 127, Config.free s.fresh / 2 ^ 48 % 127)
  | none => (0, 0)

/-- Record and count a failed lane check (R386, R387). -/
def State.laneFails (s : State) (l : LoomId) (e : Nat × Nat × Nat) : State :=
  ((s.setObj 0x702007 (s.loomNo l)).bump 0x702005 1).raiseQuad l.q 0x0203 2 ucLoom (s.loomNo l) e.2.2 (e.1 + e.2.1 * 2 ^ 8)

/-- Record and count a failed verdict of a block or a hop, with the TAG of its descriptor (R387, R389). -/
def State.verdictFails (s : State) (l : LoomId) (v : OwedVerdict) (u : Option Upset) : State :=
  let no := s.loomNo l
  let key := match u with | some x => upsetKey x | none => 0
  let res := s.upsetResidues v u
  ((s.setObj 0x702007 no).bump 0x702004 1).raiseQuad l.q (if v.hop then 0x0202 else 0x0201) 2 ucLoom no v.tag.toNat
    (key % 64 + key / 64 * 2 ^ 6 + res.1 * 2 ^ 12 + res.2 * 2 ^ 19 + (if v.hop then v.pos.toNat * 2 ^ 26 else 0))

/-- What SECDED finds in the transcendental tables is recorded (R386, R388). -/
def State.tableWord (s : State) (l : LoomId) (u : Option Upset) : State :=
  match u with
  | some (.table _ _ t w double) =>
    let arr := (Config.arrayNumber 6).toNat
    if double then s.raiseQuad l.q 0x0302 2 ucLoom (s.loomNo l) t.toNat (arr + w.toNat * 2 ^ 32)
    else s.raiseQuad l.q 0x0301 1 ucLoom (s.loomNo l) t.toNat (arr * 2 ^ 32)
  | _ => s

/-- A failed verdict is charged to its attempt; one that an aborted attempt still owed leaves its record only (R402). -/
def State.chargeVerdict (s : State) (p : Nat) : State := if s.exState p = 4 then s else s.chargeFault p 1

/-- The oldest verdict owed is given, with the upset that the checks found, if any, while the loom is clocked (17 R411). A lane check fails the
step whether or not the loom owes a verdict (R386); after the step's abort it leaves its record only (R402). While the assay is off every
verdict counts as passed (R382). -/
def execAssayVerdict (l : LoomId) (upset : Option Upset) (s : State) : Outcome State Fault Refusal :=
  .next (if !s.quadRuns l.q then s else
    let p := s.loomPart l
    let s0 := s.tableWord l upset
    let on := (s.obj 0x702001).testBit p
    let lane := upset.bind upsetLane
    match (s0.loom l).verdicts with
    | [] =>
      match lane with
      | some e => if on && ((s.part p).inStep || decide (s.exState p = 4)) then (s0.laneFails l e).chargeVerdict p else s0
      | none => s0
    | v :: t =>
      let s1 := (s0.setLoom l { s0.loom l with verdicts := t }).bump 0x702003 1
      let seen := match upset with | some u => upsetSeen v u | none => false
      if on && (v.missed || seen) then
        (match lane with | some e => s1.laneFails l e | none => s1.verdictFails l v (if seen then upset else none)).chargeVerdict p
      else s1)

end Sys2Proof.Machine
end

