-- ==== Sys2Proof/Machine/BringUp.lean ====
section
/-! DEFINITION. Power, boot, the eight bring-up steps, thermal limits, layout changes (15, 18, 01 R27, 13 R308). -/

namespace Sys2Proof.Machine

open Sys2Proof Host

/-! ### Power (15 R362) -/

/-- Everything but the time base and the secure flash is in reset; the model's own fields go on. -/
def State.heldInReset (s : State) : State :=
  { State.reset with pending := s.pending, out := s.out, fresh := s.fresh, timeLocked := s.timeLocked, ns := s.ns
                     flash := s.flash }

def execPwrokFall (s : State) : Outcome State Fault Refusal :=
  .next (if s.pwrok then s.heldInReset else s)

/-- A STORED write cut short leaves a copy whose CRC does not match: the other one stays in force (14 R344). -/
def Flash.tearSetting (f : Flash) (ref : Nat) (v : Bytes) : Flash :=
  if storedRefs.any (fun e => e.1 == ref) then
    f.putSettings (.torn (SMap.set (objDefault ref) f.settings ref (leNat v)) (f.settingsTurn + 1))
  else f

/-! ### The leaf journal (13 R313) -/

/-- A journal record of END at a slot; its reserved bits [255:192] are 0 (00 R6; 13 R313). -/
def journalRecord (endLeaf slot : Nat) : BitVec 256 :=
  BitVec.ofNat 256 ((Config.journalMac (endLeaf + slot * 2 ^ 32)).toNat * 2 ^ 64 + slot * 2 ^ 32 + endLeaf)

/-- Program and verify a record at the next slot: a failed slot stays spent and holds a bad MAC (DESIGN CHOICE, log 119: one bit of it turned). -/
def State.programLeaves (s : State) (ok : Bool) : State :=
  let n := s.sec.slot.toNat
  let e := s.sec.endLeaf.toNat + 16
  let r := if ok then journalRecord e n else journalRecord e n ^^^ BitVec.ofNat 256 (2 ^ 64)
  { s with
    flash := { s.flash with journal := SMap.set (BitVec.allOnes 256) s.flash.journal n r }
    sec := { s.sec with slot := s.sec.slot + 1, endLeaf := if ok then BitVec.ofNat 21 e else s.sec.endLeaf } }

/-- What the loss of power tears in the flash: a STORED write while the firmware runs, the record of a reservation that a signature
waits for (13 R331; 14 R344; 15 R362). -/
def State.tear (s : State) (torn : Option Torn) : State :=
  match torn with
  | some (.setting ref v) => if s.fwUp then { s with flash := s.flash.tearSetting ref.toNat v } else s
  | some .journal =>
    if s.pwrok && s.sec.queue != [] && s.sec.nxt == s.sec.endLeaf && decide (s.sec.slot.toNat < 65536) then s.programLeaves false else s
  | none => s

/-- The rails leave regulation: the time base ends too; the flash keeps what it held (14 R344). -/
def execPowerLoss (torn : Option Torn) (s : State) : Outcome State Fault Refusal :=
  .next { (s.tear torn).heldInReset with timeLocked := false, ns := 0 }

def execTimeBaseLock (s : State) : Outcome State Fault Refusal :=
  .next (if s.timeLocked then s else { s with timeLocked := true, ns := 0 })

/-! ### Boot (13 R308, R309, R311, R313) -/

/-- A slot the ROM accepts: it verifies, and its version is at least the last of the version journal. -/
def Flash.accepts (f : Flash) (x : FwSlot) : Bool :=
  x.valid && decide ((f.versions.getLast?.getD 0).toNat ≤ x.version.toNat)

/-- The slot the ROM tries first, and the failed-boot count after its increment: at 3 it takes the other slot and resets
the count (13 R309). -/
def Flash.bootChoice (f : Flash) : Bool × Nat :=
  if 3 ≤ f.failed + 1 then (!f.bootB, 0) else (f.bootB, f.failed + 1)

def Flash.slotOf (f : Flash) (b : Bool) : FwSlot := if b then f.slotB else f.slotA

/-- A leaf-journal record is valid: its MAC and its slot number agree (13 R313). -/
def journalEnd (slot : Nat) (r : BitVec 256) : Option Nat :=
  if BitVec.ofNat 128 (field r.toNat 191 64) = Config.journalMac (field r.toNat 63 0) ∧ field r.toNat 63 32 = slot
  then some (field r.toNat 31 0 % 2 ^ 21) else none

/-- The scan of the leaf journal up to the first erased slot (13 R313). -/
def bootLeaves (j : SMap (BitVec 256)) : Nat → Nat → Nat → Nat × Nat
  | 0, slot, nxt => (nxt, slot)
  | fuel + 1, slot, nxt =>
    let r := SMap.get (BitVec.allOnes 256) j slot
    if r = BitVec.allOnes 256 then (nxt, slot)
    else bootLeaves j fuel (slot + 1) (match journalEnd slot r with | some e => Nat.max nxt e | none => nxt)

/-- Identity check and leaf scan of the security block at power-on: the secret is at hand when the PUF response is reconstructed, and
its public key is compared with IDPUB (13 R311, R313); a fresh JTAG nonce (13 R329). -/
def State.bootSecurity (s : State) (pufOk : Bool) : State :=
  let (nonce, s1) := s.draw
  let (nxt, slot) := bootLeaves s1.flash.journal 65536 0 0
  { s1 with
    identityOk := pufOk && decide (s1.flash.identity.pub = leBytes 68 (s1.recBits 799 256))
    sec := { s1.sec with nxt := BitVec.ofNat 21 nxt, endLeaf := BitVec.ofNat 21 nxt, slot := BitVec.ofNat 17 slot
                         jtagNonce := BitVec.ofNat 256 nonce } }

/-- Versions shown by 0x6001 (13 R309): 0 for a slot that does not verify. -/
def State.showFirmware (s : State) : State :=
  let v (x : FwSlot) := if x.valid then x.version.toNat else 0
  ((s.setObj 0x600102 (v s.flash.slotA)).setObj 0x600103 (v s.flash.slotB)).setObj 0x600104
    (s.flash.versions.getLast?.getD 0).toNat

/-- The mask ROM: root key, slots, or hold for recovery (13 R308). -/
def State.bootRom (s : State) : State :=
  let f := s.flash
  let (first, count) := f.bootChoice
  if !f.rootOk then { s with romHold := true }
  else if f.accepts (f.slotOf first) then
    { s with flash := { f with failed := count }, sec := { s.sec with bootedB := first } }
  else if f.accepts (f.slotOf (!first)) then
    { s with flash := { f with failed := count }, sec := { s.sec with bootedB := !first } }
  else { s with romHold := true }

/-- Values the firmware finds at power-on: STORED objects from the settings area (14 R344). -/
def State.loadSettings (s : State) : State :=
  { s with objs := s.flash.settings, inForce := s.flash.settings }

/-- What the firmware image that the ROM started shows: settings, firmware versions, a failed identity check (13 R311). -/
def State.bootFirmware (s : State) : State :=
  let s1 := (s.loadSettings.showFirmware).setObj 0x600101 (if s.sec.bootedB then 1 else 0)
  if s1.identityOk then s1
  else (s1.setObj 0x600506 1).raiseDevice 0x0702 3 ucSecurity 0 (1 + (2 ^ 20 - s1.sec.nxt.toNat) * 2 ^ 32)

def execPwrokRise (mgtId : BitVec 3) (pufOk : Bool) (s : State) : Outcome State Fault Refusal :=
  .next (if s.pwrok then s else
    let s1 := { s.heldInReset with pwrok := true, straps := mgtId, riseNs := s.ns }
    let s2 := (s1.bootSecurity pufOk).bootRom
    if s2.romHold then s2 else s2.bootFirmware)

/-- Result of bring-up step n (15 R363). -/
def State.stepResult (s : State) (n : Nat) : Nat := s.obj (0x210100 + n)

/-- Start step n: running, and its start time. -/
def State.startStep (s : State) (n : Nat) : State :=
  { s.setObj (0x210100 + n) 1 with stepStart := SMap.set 0 s.stepStart n s.ns.toNat }

/-- End step n with a result: result and duration in ms. -/
def State.endStep (s : State) (n result : Nat) : State :=
  (s.setObj (0x210100 + n) result).setObj (0x210110 + n) ((s.ns.toNat - SMap.get 0 s.stepStart n) / 1000000)

def execFirmwareReady (s : State) : Outcome State Fault Refusal :=
  .next (if s.pwrok && !s.romHold && !s.fwUp then
    let s1 := { s with fwUp := true, flash := { s.flash with failed := 0 }
                       stepStart := SMap.set 0 s.stepStart 1 s.riseNs.toNat }
    let idOk := s1.obj 0x600506 == 0 || s1.obj 0x600506 == 2
    if s1.recordOk && idOk then s1.endStep 1 2
    else
      let s2 := s1.endStep 1 4
      let s3 := if s1.recordOk then s2
                else s2.raiseDevice 0x0701 3 ucHub 0 (s2.obj 0x121001 + s2.obj 0x121002 * 2 ^ 32)
      s3.enterFailed 1
  else s)

/-! ### Layout changes (01 R27) -/

/-- The staged owner of a port. -/
def State.stagedOwner (s : State) (port : Nat) : Nat := s.obj (0x900002 + port)

/-- Staged values equal those in force. -/
def State.layoutStaged (s : State) : Bool :=
  s.obj 0x900001 == s.layout && (List.range 6).all (fun x => s.stagedOwner x == s.portOwner x)

/-- The checks of R27 in their order: the refusal code, or none. -/
def State.applyRefusal (s : State) : Option Nat :=
  let n := layoutParts (s.obj 0x900001)
  if s.anyJob then some 4
  else if (List.range 6).any (fun x => decide (n ≤ s.stagedOwner x)) then some 3
  else if (List.range n).any (fun p => (List.range 6).all (fun x => s.stagedOwner x != p)) then some 2
  else none

/-- The staged values: the layout and the six owners. -/
def State.stagedLayout (s : State) : Nat × List Nat := (s.obj 0x900001, (List.range 6).map s.stagedOwner)

/-- Every partition reset, keys zero, a layout and its owners in force, the seal stale. The budgets of R319 and the report counts of
the partitions go on. -/
def State.applyLayout (s : State) (v : Nat × List Nat) : State :=
  let s1 := s.resetAll
  let s2 := (List.range 4).foldl (fun (t : State) p =>
    t.modPart p (fun x => { Part.init with cardTimes := x.cardTimes, reportNo := x.reportNo })) { s1 with applyWaits := none }
  let s3 := s2.setObj 0x90000A v.1
  let s4 := (List.range 6).foldl (fun (t : State) x => t.setLive (0x900002 + x) (v.2.getD x 0)) s3
  { s4.setObj 0x121003 3 with sealArmed := false }

/-- A write of 0x01 to 0x9000:08; the dictionary status it gives. The values checked are those that come into force, also where the
change waits. -/
def State.applyWrite (s : State) (v : Nat) : State × Nat :=
  if v ≠ 1 then (s, 6)
  else if s.obj 0x900009 = 5 then (s, 9)
  else match s.applyRefusal with
    | some c => (s.setObj 0x900009 c, 0x0A)
    | none =>
      let s1 := s.setObj 0x900009 5
      if s1.stepResult 3 = 1 ∨ s1.stepResult 7 = 1 then ({ s1 with applyWaits := some s.stagedLayout }, 0x0A)
      else (s1.applyLayout s.stagedLayout, 0x0A)

/-- A layout change that waited for step 3 or 7 is carried out when the step ends (15 R378). -/
def State.applyIfWaiting (s : State) : State :=
  match s.applyWaits with
  | some v => if s.stepResult 3 = 1 ∨ s.stepResult 7 = 1 then s else s.applyLayout v
  | none => s

/-- The zero-fill of stacks that satisfy `f` ends (09 R214). -/
def State.zeroFillEnds (s : State) (f : Nat → Bool) : State :=
  ((List.range 20).filter (fun k => f k && (s.stack k).zeroFilling)).foldl (fun t k =>
    (t.setStack k (t.stack k).filled).setObj (0x40100F + 256 * k) 0) s

def execLayoutApplyComplete (s : State) : Outcome State Fault Refusal :=
  .next (if !s.trip && s.obj 0x900009 = 5 && s.applyWaits.isNone then (s.zeroFillEnds (fun _ => true)).setObj 0x900009 0 else s)

def execZeroFillComplete (p : Fin 4) (s : State) : Outcome State Fault Refusal :=
  .next (if s.trip then s else s.zeroFillEnds (fun k => s.partOfStack k == p.val))

/-! ### Steps 2 to 7 (15 R364 to R374) -/

def passed (r : Nat) : Bool := r == 2 || r == 3

/-- The prerequisites of a step (15 R363). -/
def State.prereq (s : State) (n : Nat) : Bool :=
  if n = 2 then s.stepResult 1 == 2
  else if n = 3 ∨ n = 5 then s.stepResult 2 == 2
  else if n = 6 then passed (s.stepResult 5)
  else passed (s.stepResult 3) && passed (s.stepResult 6)

/-- Bits set among the low 26 bits of a repair word, ascending: the physical columns usable (01 R10). -/
def usableCols (w : Nat) : List Nat := (List.range 26).filter (fun c => w.testBit c)

/-- BIST result of a row. -/
def State.bistRow (s : State) (q r : Nat) : Nat := s.obj (0x211001 + 256 * q + r)

/-- The map in force of a row under R372. -/
def State.rowMap (s : State) (q r : Nat) : Nat := s.recBits (1024 + 32 * (20 * q + r) + 25) (1024 + 32 * (20 * q + r)) &&& s.bistRow q r

/-- A row holds too few usable looms for the grade. -/
def State.rowShort (s : State) (q r : Nat) : Bool := decide ((usableCols (s.rowMap q r)).length < s.gradeCols)

/-- A row passes: enough usable looms, and its bypass stages passed. -/
def State.rowPasses (s : State) (q r : Nat) : Bool := !s.rowShort q r && !(s.obj (0x211016 + 256 * q)).testBit r

/-- Compute the map of one quadrant. -/
def State.mapQuad (s : State) (q : Nat) : State :=
  let t := (List.range 20).foldl (fun t r => t.setObj (0x212001 + 256 * q + r) (s.rowMap q r)) s
  t.setObj (0x212015 + 256 * q) ((List.range 20).foldl (fun a r => if s.rowShort q r then a + 2 ^ r else a) 0)

def State.quadPasses (s : State) (q : Nat) : Bool := (List.range 20).all (fun r => s.rowPasses q r)

/-- Step 6: the map in force of every row, and the result (15 R372). -/
def State.repairStep (s : State) : State :=
  let s1 := (List.range 4).foldl State.mapQuad (s.startStep 6)
  if (List.range 4).all s1.quadPasses then
    let same := (List.range 4).all (fun q => (List.range 20).all (fun r =>
      s1.rowMap q r == s1.recBits (1024 + 32 * (20 * q + r) + 25) (1024 + 32 * (20 * q + r))))
    s1.endStep 6 (if same then 2 else 3)
  else ((s1.endStep 6 4).raiseDevice 0x0703 2 ucHub 0 6).enterFailed 6

/-- What a loom test (16 R399) or a known-answer run leaves in the instruction store and in local memory: free values. -/
def Loom.tested (x : Loom) (n : Nat) : Loom :=
  { x with
    store := (List.range 4096).foldl (fun m i => SMap.set (0 : Word512) m i (BitVec.ofNat 512 (Config.testFill n i))) []
    mem := (List.range 1048576).foldl (fun m i => SMap.set (0 : Byte) m i (BitVec.ofNat 8 (Config.testFill n (4096 + i)))) [] }

/-- The known-answer run uses a loom's instruction store and local memory: what it leaves there is free (log 90: the spec does
not give the program). -/
def State.katLooms (s : State) (q : Fin 4) : State :=
  let looms := ((List.finRange 20).map (fun r => ((List.finRange 25).filter (fun c => decide (c.val < s.gradeCols))).map (fun c =>
    ({ q := q, r := r, c := c } : LoomId)))).flatten
  { looms.foldl (fun (t : State) l => t.setLoom l ((t.loom l).tested s.fresh)) s with fresh := s.fresh + 1 }

/-- The scratch areas of the stacks that the run used are zero-filled once it ends: their bytes and poison marks, and no others (15 R373;
where they lie is free, log 3). It used every stack that training did not fail, also those whose engine failed in it (ENGINE_FAILS). -/
def State.katScratch (s : State) : State :=
  let used (k : Nat) : Bool := !(s.stack k).failed || (s.obj 0x213002).testBit k
  let scratch (w : Nat) : Bool := used (w / 2 ^ 30) && Config.katScratch (w / 2 ^ 30) (w % 2 ^ 30)
  { s with hbm := SMap.drop (fun a => scratch (a / 64)) s.hbm, hbmPoison := SMap.drop scratch s.hbmPoison }

/-- Start the work of a step by its GO object. -/
def State.runStep (s : State) (n : Nat) : State :=
  if n = 2 then
    { s.startStep 2 with pllsOn := true, clockNs := s.ns, phase := 0, quads := [] }
  else if n = 3 then
    let s1 := s.startStep 3
    let s2 := (List.range 20).foldl (fun t k => (t.setStack k { t.stack k with training := true, failed := false }).setObj (0x40100F + 256 * k) 1) s1
    { s2.setObj 0x400001 0 with hbmLeft := List.finRange 20 }
  else if n = 5 then
    let s1 := (List.range 4).foldl (fun t q => (t.setObj (0x211015 + 256 * q) 0).setObj (0x211016 + 256 * q) 0) (s.startStep 5)
    { s1 with bistGroup := some 0 }
  else if n = 6 then s.repairStep
  else
    { (List.finRange 4).foldl (fun (t : State) q => t.katLooms q) (s.startStep 7) with
      katRound := 1, katQuads := List.finRange 4, katTries := [(0, 1), (1, 1), (2, 1), (3, 1)] }

/-- A write to a GO object: R364's order of tests; the dictionary status. After a thermal trip every unit that a step brings up is held in reset
and no prerequisite is met (18 R425, R429; DESIGN CHOICE, log 111). -/
def State.goWrite (s : State) (n v : Nat) : State × Nat :=
  if v ≠ 1 then (s, 6)
  else if s.obj 0x210001 ≠ 1 then (s.setObj 0x210007 3, 8)
  else if s.stepResult n = 1 || passed (s.stepResult n) then (s.setObj 0x210007 2, 8)
  else if s.trip || !s.prereq n then (s.setObj 0x210007 1, 8)
  else ((s.setObj 0x210007 0).runStep n, 0)

def execClockLockEnd (unlocked : List (BitVec 12)) (s : State) : Outcome State Fault Refusal :=
  .next (if s.stepResult 2 = 1 then
    (if unlocked = [] then s.endStep 2 2
     else
      let s1 := unlocked.foldl (fun t n => t.raiseDevice 0x0703 2 ucHub n.toNat (2 + n.toNat * 2 ^ 4)) (s.endStep 2 4)
      { s1 with pllsOn := false })
  else s)

/-- Training of stack k ended with these channel words (09 R218, R219; 15 R367). -/
def State.stackTrained (s : State) (k : Nat) (chans : List (BitVec 16)) (ms : Nat) : State :=
  let bad := chans.any (fun c => decide (2 ≤ field c.toNat 1 0))
  let rep := chans.any (fun c => decide (field c.toNat 1 0 = 1))
  let s1 := (List.range 32).foldl (fun t n => t.setObj (0x403001 + 256 * k + n) ((chans.getD n 0x0003).toNat)) s
  let s2 := (s1.setObj (0x403021 + 256 * k) ms).setObj (0x403022 + 256 * k) (if bad then 2 else if rep then 1 else 0)
  let s3 := s2.clearHbm (fun j => j == k)
  let s4 := s3.setStack k { (if bad then s3.stack k else (s3.stack k).filled) with training := false, failed := bad }
  let s5 := { s4 with
    hbmLeft := s4.hbmLeft.filter (fun j => j.val != k)
    flash := { s4.flash with repairs :=
      (s4.flash.repairs.filter (fun (e : Nat × Nat × Nat) => e.1 == k)).drop 8 ++ s4.flash.repairs.filter (fun (e : Nat × Nat × Nat) => e.1 != k) } }
  if bad then (s5.setObj (0x40100F + 256 * k) 2).raiseDevice 0x0703 2 ucHbm k (3 + k * 2 ^ 4)
  else (s5.setObj (0x40100F + 256 * k) 0).setObj 0x400001 (s5.obj 0x400001 ||| 2 ^ k)

def execHbmTrainingComplete (k : Fin 20) (chans : List (BitVec 16)) (ms : BitVec 16) (s : State) :
    Outcome State Fault Refusal :=
  .next (if s.hbmLeft.contains k then
    let s1 := s.stackTrained k chans ms.toNat
    if s1.hbmLeft = [] then
      (s1.endStep 3 (if (List.range 20).any (fun j => (s1.stack j).failed) then 3 else 2)).applyIfWaiting
    else s1
  else s)

/-- A physical loom's unit number in records: bit 15 and its position (16 R389). -/
def physUnit (q r c : Nat) : Nat := 0x8000 + 520 * q + 26 * r + c

/-- The number of a part in a record, in the order of the coverage table, from 1 (DESIGN CHOICE, log 90). -/
def bistNumber : BistPart → Nat
  | .array => 1
  | .vectorEngine => 2
  | .dmaEngine => 3
  | .sequencer => 4
  | .router => 5
  | .localMemory => 6
  | .instructionStore => 7
  | .outputSets => 8
  | .scaleRegisters => 9
  | .slotTable => 10
  | .bypass => 11

/-- One entry for each failed loom, the first. -/
def firstFails : List BistFail → List BistFail
  | [] => []
  | f :: t => f :: (firstFails t).filter (fun g => g.r != f.r || g.c != f.c)

/-- The results of group g: quadrant g mod 4, rows 10 × (g div 4) onward; a bypass stage that failed, of a failed loom or of a row's spare
path, fails its row (15 R369 to R371). -/
def State.bistGroupEnds (s : State) (g : Nat) (fails : List BistFail) (bypass : List (Fin 20)) : State :=
  let q := g % 4
  let inGroup (r : Nat) : Bool := r / 10 == g / 4
  let mine := firstFails (fails.filter (fun f => inGroup f.r))
  let s1 := ((List.range 20).filter inGroup).foldl (fun t r =>
    t.setObj (0x211001 + 256 * q + r) (mine.foldl (fun w f => if f.r.val = r then w &&& (0x3FFFFFF ^^^ 2 ^ f.c.val) else w) 0x3FFFFFF)) s
  let stages := bypass ++ (fails.filter (fun f => f.part == .bypass)).map (fun f => f.r)
  let s2 := (stages.filter (fun (r : Fin 20) => inGroup r.val)).foldl (fun (t : State) (r : Fin 20) =>
    t.setObj (0x211016 + 256 * q) (t.obj (0x211016 + 256 * q) ||| 2 ^ r.val)) s1
  let n := ((List.range 20).filter inGroup).foldl (fun a r => a + (26 - (usableCols (s2.bistRow q r)).length)) 0
  let s3 := s2.bump (0x211015 + 256 * q) n
  mine.foldl (fun t f => t.raiseQuad q 0x0703 2 ucLoom (physUnit q f.r f.c) 0
    (5 + (520 * q + 26 * f.r.val + f.c.val) * 2 ^ 4 + bistNumber f.part * 2 ^ 16)) s3

/-- BIST marked a loom or a row. -/
def State.bistLosses (s : State) : Bool :=
  (List.range 4).any (fun q => (List.range 20).any (fun r => s.bistRow q r != 0x3FFFFFF) || s.obj (0x211016 + 256 * q) != 0)

def execBistGroupComplete (fails : List BistFail) (bypass : List (Fin 20)) (s : State) : Outcome State Fault Refusal :=
  .next (match s.bistGroup with
    | none => s
    | some g =>
      let s1 := s.bistGroupEnds g fails bypass
      if h : g.val + 1 < 8 then { s1 with bistGroup := some ⟨g.val + 1, h⟩ }
      else { s1 with bistGroup := none }.endStep 5 (if s1.bistLosses then 3 else 2))

/-- Mark the physical loom behind a logical one failed in its BIST result (15 R374). -/
def State.katLoomFails (s : State) (l : LoomId) : State :=
  let phys := (usableCols (s.obj (0x212001 + 256 * l.q.val + l.r.val))).getD l.c.val 0
  let ref := 0x211001 + 256 * l.q.val + l.r.val
  let s1 := ((s.setObj ref (s.obj ref &&& (0x3FFFFFF ^^^ 2 ^ phys))).bump (0x211015 + 256 * l.q.val) 1).bump 0x213001 1
  s1.raiseQuad l.q 0x0703 2 ucLoom (loomNumber s.grade l) 0 (7 + loomNumber s.grade l % 4096 * 2 ^ 4)

/-- An update engine failed: its stack is failed (15 R374). -/
def State.katEngineFails (s : State) (k : Nat) : State :=
  let s1 := (s.setObj 0x213002 (s.obj 0x213002 ||| 2 ^ k)).setObj 0x400001 (s.obj 0x400001 &&& (0xFFFFF ^^^ 2 ^ k))
  let s2 := (s1.setStack k { s1.stack k with failed := true }).setObj (0x40100F + 256 * k) 2
  s2.raiseQuad (k / 5) 0x0703 2 ucEngine k 0 (7 + k * 2 ^ 4)

/-- Step 7 ends with losses that the device cannot do without: its result is that of every run in which something failed (15 R374). -/
def State.katFailed (s : State) : State :=
  ({ s.katScratch with katQuads := [], katRound := 0 }.endStep 7 3).enterFailed 7

/-- Step 8 runs from the commit of the seal's reference, or from the end of step 7 where the reference is there before (R363, R378). -/
def State.startSeal (s : State) : State :=
  if s.obj 0x210001 = 1 && passed (s.stepResult 7) && s.sealArmed && decide (s.stepResult 8 = 0) then s.startStep 8 else s

/-- A run of steward firmware's program on the looms of the quadrants under test and, in the first round, on the update engines, ends.
`looms`, `engines`: whose fingerprints differ from the firmware's, or whose assay passes the block that the program corrupts (R373). -/
def execKatRunComplete (looms : List LoomId) (engines : List (Fin 20)) (s : State) : Outcome State Fault Refusal :=
  .next (if s.stepResult 7 = 1 then
    let bad := looms.eraseDups.filter (fun l => s.katQuads.contains l.q && decide (l.c.val < s.gradeCols))
    let badEng := if s.katRound = 1 then engines.eraseDups.filter (fun (k : Fin 20) => !(s.stack k.val).failed) else []
    let s1 := badEng.foldl (fun t k => t.katEngineFails k) (bad.foldl State.katLoomFails s)
    let again := s.katQuads.filter (fun q => bad.any (fun l => l.q == q))
    let s2 := again.foldl (fun t q => t.mapQuad q) s1
    if again.any (fun q => !s2.quadPasses q || decide (3 ≤ SMap.get 0 s2.katTries q)) then s2.katFailed.applyIfWaiting
    else if again = [] then
      (({ s2.katScratch with katQuads := [], katRound := 0 }.endStep 7
        (if s2.obj 0x213001 = 0 ∧ s2.obj 0x213002 = 0 then 2 else 3)).applyIfWaiting).startSeal
    else
      { again.foldl (fun (t : State) q => t.katLooms q) (s2.bump 0x213003 again.length) with
        katRound := s2.katRound + 1, katQuads := again
        katTries := again.foldl (fun (m : SMap Nat) (q : Fin 4) => SMap.set 0 m q.val (SMap.get 0 m q.val + 1)) s2.katTries }
  else s)

/-! ### Seconds, sensors, thermal trip (16 R381, 18 R425) -/

/-- The assay is off in a partition that has a job loaded (16 R382). -/
def State.assayOffLoaded (s : State) : Bool :=
  (List.range 4).any (fun p => s.jobLoaded p && !(s.obj 0x702001).testBit p)

/-- Signed larger of two 16-bit temperatures. -/
def maxTemp (a b : BitVec 16) : BitVec 16 := if a.toInt < b.toInt then b else a

/-- A range that leaves an operating range. -/
def outOf (lo hi least most : Nat) : Bool := decide (lo < least) || decide (most < hi)

/-- The operating ranges of `VDD_SD`, `VDDH_SD`, `VAUX18` and `VAUX33` in mV (18 R422). -/
def railRanges : List (Nat × Nat) := [(725, 775), (1164, 1236), (1710, 1890), (3135, 3465)]

/-- A local sensor of a rail read outside its operating range; that of the HBM rails is JEDEC's (18 R422, R423). -/
def railOut (x : Readings) : Bool :=
  (x.mv.zip x.high).any (fun e => outOf e.1.toNat e.2.toNat 665 735)
    || (x.rails.zip railRanges).any (fun e => outOf e.1.1.toNat e.1.2.toNat e.2.1 e.2.2) || x.hbmOut

/-- The measured values of the last second enter 0x2000 (18 R426), and the links' FEC counts (10 R231; DESIGN CHOICE, log 80: once per
second). -/
def State.showReadings (s : State) (x : Readings) : State :=
  let s1 := (List.range 4).foldl (fun t n =>
    (t.setObj (0x200001 + n) (x.mv.getD n 0).toNat).setObj (0x200005 + n) (x.ma.getD n 0).toNat) s
  let s2 := x.fec.foldl (fun (t : State) e =>
    (t.bump (0x504006 + 256 * e.1.val) e.2.1.toNat).bump (0x504007 + 256 * e.1.val) e.2.2.toNat) (s1.setObj 0x200009 x.watts.toNat)
  if s2.tjSecond = 0x8000 then s2 else s2.setObj 0x20000A s2.tjSecond.toNat

/-- A second counts as covered or outside by what failed during it: the assay was off with a job loaded at any moment of it, a junction
was above 95 °C, a rail left its range, or a droop met the heat (16 R381; 18 R423, R429). -/
def execBoundSecond (x : Readings) (s : State) : Outcome State Fault Refusal :=
  .next (if s.fwUp then
    let s0 := s.showReadings x
    let cause := (if s0.assayGap || s0.assayOffLoaded then 1 else 0) + (if s0.hotNow then 2 else 0)
      + (if railOut x || (s0.drooped && s0.hotNow) then 4 else 0)
    let s1 := { s0 with hotNow := false, drooped := false, assayGap := s0.assayOffLoaded, warmNow := false, warned := s0.warned && s0.warmNow, tjSecond := 0x8000
                        wasOutside := decide (cause ≠ 0) }
    if cause = 0 then s1.bump 0x701001 1
    else
      let s2 := (s1.bump 0x701002 1).setObj 0x701003 cause
      if s.wasOutside then s2 else s2.raiseDevice 0x0706 2 ucSensor 0 cause
  else s)

/-- The hottest of the five readings (quadrants 0 to 3, hub), with its unit. -/
def hottest (tj : List Int) : Int × Nat :=
  (List.range 5).foldl (fun a u => let t := tj.getD u (-2000); if a.1 < t then (t, u) else a) (-2000, 0)

def execSensorPoll (tj : List Int) (s : State) : Outcome State Fault Refusal :=
  .next (if s.fwUp then
    let (t, u) := hottest tj
    let b := BitVec.ofInt 16 t
    let s1 := { s with tjSecond := maxTemp s.tjSecond b }.setObj 0x701004 (maxTemp (BitVec.ofNat 16 (s.obj 0x701004)) b).toNat
    let s2 := if (s1.live 0x20000B : Int) * 10 ≤ t then
                (if s1.warned then { s1 with warmNow := true }
                 else { s1 with warned := true, warmNow := true }.raiseDevice 0x070A 1 ucSensor u (b.toNat + u * 2 ^ 16))
              else s1
    let s3 := if 950 < t then { s2 with hotNow := true } else s2
    if 1050 < t ∧ s3.bistGroup ≠ none then { s3 with bistGroup := none }.endStep 5 4 else s3
  else s)

/-- The steps that run end as failed. -/
def State.stopRunningSteps (s : State) : State :=
  [2, 3, 5, 6, 7].foldl (fun t n => if t.stepResult n = 1 then t.endStep n 4 else t) s

/-- A port is held in reset: its links are down (18 R425). -/
def State.portHeld (s : State) (p : Nat) : State :=
  (if s.obj (portRef p 5) = 1 ∨ s.obj (portRef p 5) = 2 then s.portStop p else s).setObj (portRef p 5) 0

/-- Every unit but the always-on logic, the stewards and the management port is held in reset from here on; jobs, the contents of HBM and
scanned state are lost (18 R425, R429). -/
def execThermalTrip (u : TripUnit) (s : State) : Outcome State Fault Refusal :=
  .next (if s.pwrok && !s.trip then
    let s1 := match u with
      | .junction q => (s.setObj 0x20000C 1).setObj 0x20000D q.val
      | .stack k => (s.setObj 0x20000C 2).setObj 0x20000D k.val
    let s2 := (List.range 6).foldl State.portHeld s1.resetAll.stopRunningSteps
    { s2.applyIfWaiting with trip := true, pllsOn := false, bistGroup := none, hbmLeft := [], katQuads := [], katRound := 0
                             hbm := [], hbmPoison := [], scans := [] }
  else s)

end Sys2Proof.Machine
end

