-- ==== Sys2Proof/Machine/Ephemeris.lean ====
section
/-! DEFINITION. The ephemeris: entries and rows (06 R138, R143), slot values (R146, R147), recording and merging (R140,
R141), scale registers (R145), watching (R151). -/

namespace Sys2Proof.Machine

open Sys2Proof Host

/-! ### Entries (R138) -/

/-- T of the loaded image. -/
def Part.slotCount (x : Part) : Nat := match x.image with | some i => i.slots.length | none => 0

def Part.slotRec (x : Part) (t : Nat) : Option SlotRec := match x.image with | some i => i.slots[t]? | none => none

/-- Slot t has JOB scope. -/
def Part.slotJob (x : Part) (t : Nat) : Bool := match x.slotRec t with | some r => r.job | none => false

/-- Byte offset of the entry of slot t for step s. -/
def Part.rowAt (x : Part) (step t : Nat) : Nat := 32 * (x.slotCount * (step % 32) + t)

def ephRowBits (r : EphRow) : Nat :=
  r.localMax.toNat + r.jobMax.toNat * 2 ^ 32 + r.zeros.toNat * 2 ^ 64 + r.sats.toNat * 2 ^ 104 + r.nonfin.toNat * 2 ^ 144
    + r.elems.toNat * 2 ^ 184 + r.scale.toNat * 2 ^ 224 + (if r.carried then 2 ^ 232 else 0)
    + (if r.clamped then 2 ^ 233 else 0) + (if r.watched then 2 ^ 234 else 0) + r.stepLo.toNat * 2 ^ 240

def ephRowOf (x : Nat) : EphRow :=
  { localMax := BitVec.ofNat 32 x, jobMax := BitVec.ofNat 32 (x / 2 ^ 32), zeros := BitVec.ofNat 40 (x / 2 ^ 64)
    sats := BitVec.ofNat 40 (x / 2 ^ 104), nonfin := BitVec.ofNat 40 (x / 2 ^ 144), elems := BitVec.ofNat 40 (x / 2 ^ 184)
    scale := BitVec.ofNat 8 (x / 2 ^ 224), carried := x.testBit 232, clamped := x.testBit 233, watched := x.testBit 234
    stepLo := BitVec.ofNat 16 (x / 2 ^ 240) }

def State.ephRow (s : State) (p step t : Nat) : EphRow :=
  let x := s.part p
  ephRowOf (s.readNat p (x.theRegion 5) (x.rowAt step t) 32)

def State.setEphRow (s : State) (p step t : Nat) (r : EphRow) (poison : Bool := false) : State :=
  let x := s.part p
  s.writeRegion .hub p (x.theRegion 5) (x.rowAt step t) (leBytes 32 (ephRowBits r)) poison

/-- The counting house reads entries of the ephemeris: k slots of a step's row, from slot t (DESIGN CHOICE, log 78: which reads of a row
cost the stacks a request). -/
def State.countRow (s : State) (p step t k : Nat) : State :=
  let x := s.part p
  s.countRead .hub p (x.theRegion 5) (x.rowAt step t) (32 * k)

/-- The first step of a window of 16 that ends before step s, and how many steps it holds (R146). -/
def Part.windowSteps (x : Part) (step : Nat) : Nat × Nat :=
  let lo := Nat.max (step - 16) x.firstStep.toNat
  (lo, step - lo)

/-- Origin of the first poisoned entry of a slot in its window of 16 steps. -/
def State.windowPoison (s : State) (p t step : Nat) : Nat :=
  let x := s.part p
  let n := x.windowSteps step
  (List.range' n.1 n.2).foldl (fun a r => firstOrigin a (s.poisonIn p (x.theRegion 5) (x.rowAt r t) 32)) 0

/-- Origin of the poison of a slot's entry in the row of a step. -/
def State.rowPoison (s : State) (p step t : Nat) : Nat :=
  let x := s.part p
  s.poisonIn p (x.theRegion 5) (x.rowAt step t) 32

/-! ### Recording (R140 to R142) -/

/-- A window that lists this rank as a member names slot t (11 R264). -/
def Part.slotNamed (x : Part) (t : Nat) : Bool :=
  match x.image with
  | some i => i.windows.any (fun w => w.role.toNat == 0 && w.slot.toNat == t && w.members.contains x.rank)
  | none => false

/-- Add an accumulator into a row: maxima by codes, counts by addition; JOB_MAX stays a copy of LOCAL_MAX unless the slot
has JOB scope and a window names it. `poison`: a conversion that it counts was one of a poisoned value (09 R211). -/
def State.recordRow (s : State) (p step t : Nat) (a : EphAcc) (poison : Bool := false) : State :=
  let x := s.part p
  let r := s.ephRow p step t
  let m := if r.localMax < a.max then a.max else r.localMax
  (s.countRow p step t 1).setEphRow p step t { r with
    localMax := m, jobMax := if x.slotJob t && x.slotNamed t then r.jobMax else m
    zeros := r.zeros + a.zeros, sats := r.sats + a.sats, nonfin := r.nonfin + a.nonfin, elems := r.elems + a.elems } poison

/-- A DONE's MAX, or the own window's, enters JOB_MAX of a JOB slot (R142; 11 R264). -/
def State.recordJobMax (s : State) (p t max : Nat) : State :=
  if (s.part p).slotJob t then
    let r := s.ephRow p (s.stepNo p) t
    if r.jobMax.toNat < max then s.setEphRow p (s.stepNo p) t { r with jobMax := BitVec.ofNat 32 max } else s
  else s

/-! ### Slot values (R146, R147) -/

/-- Largest JOB_MAX over the window of step s. -/
def State.windowMax (s : State) (p t step : Nat) : Nat :=
  let n := (s.part p).windowSteps step
  (List.range' n.1 n.2).foldl (fun w r => Nat.max w (s.ephRow p r t).jobMax.toNat) 0

/-- Ef and g of a recipe (the table "Scale recipes"). -/
def recipeEf (recipe fmt : Nat) : Nat :=
  if recipe = 7 then [0, 15, 15, 8, 15, 4, 2, 2, 6].getD fmt 0 else [0, 8, 8, 4, 15, 15].getD recipe 0

def recipeG (recipe : Nat) : Nat := [0, 0, 1, 1, 2, 1, 1, 1].getD recipe 0

/-- Clamp to a range. -/
def clampTo (lo hi x : Int) : Int := if x < lo then lo else if hi < x then hi else x

/-- Value, carried, clamped of a slot whose window maximum is nonzero. -/
def slotFromMax (r : SlotRec) (w : Nat) : BitVec 8 × Bool × Bool :=
  let x : Int := (w / 2 ^ 22 : Nat) - (512 : Int)
  if r.recipe.toNat = 6 then
    let v := x + ceilLog2 r.n.toNat - 29
    let c := clampTo (-128) 127 v
    (BitVec.ofInt 8 c, false, decide (c ≠ v))
  else
    let v := 127 + x + 1 + recipeG r.recipe.toNat - recipeEf r.recipe.toNat r.fmt.toNat
    let c := clampTo 0 254 v
    (BitVec.ofInt 8 c, false, decide (c ≠ v))

def State.slotValue (s : State) (p t step : Nat) (r : SlotRec) : BitVec 8 × Bool × Bool :=
  if r.recipe.toNat = 0 then (r.init, false, false)
  else
    let w := s.windowMax p t step
    if w = 0 then
      (if (s.part p).firstStep.toNat ≤ step - 1 then ((s.ephRow p (step - 1) t).scale, true, false) else (r.init, true, false))
    else slotFromMax r w

/-- What the fill writes for slot t of the row of a step, and whether its value was clamped; a slot without a record reads as zero. -/
def State.filledRow (s : State) (p step t : Nat) : EphRow :=
  let v := match (s.part p).slotRec t with
    | some r => s.slotValue p t step r
    | none => (0, false, false)
  { localMax := 0, jobMax := 0, zeros := 0, sats := 0, nonfin := 0, elems := 0, scale := v.1, carried := v.2.1
    clamped := v.2.2, watched := false, stepLo := BitVec.ofNat 16 step }

/-- The value that the fill writes for slot t comes from a poisoned entry: a fixed value (recipe 0) comes from none (R146; 09 R211). -/
def State.fillPoison (s : State) (p step t : Nat) : Bool :=
  match (s.part p).slotRec t with
  | some r => decide (r.recipe.toNat ≠ 0) && decide (s.windowPoison p t step ≠ 0)
  | none => false

/-- Clear the row of a step and write the values of every slot into it (R143, R147); a value that comes from a poisoned entry is written
poisoned (09 R211). -/
def State.fillRow (s : State) (p step : Nat) : State :=
  let x := s.part p
  let k := x.slotCount
  let n := x.windowSteps step
  let rows := (List.range k).map (s.filledRow p step)
  let s1 := (List.range' n.1 n.2).foldl (fun (t : State) r => t.countRow p r 0 k) s
  let s2 := s1.writeTagged .hub p (x.theRegion 5) (x.rowAt step 0) ((rows.map (fun r => leBytes 32 (ephRowBits r))).flatten) (fun o m =>
    (List.range k).any (fun t =>
      decide (x.rowAt step t < o + m) && decide (o < x.rowAt step t + 32) && s.fillPoison p step t))
  s2.bump (0x904003 + 256 * p) ((rows.filter (·.clamped)).length)

/-! ### Scale registers (R145, R148) -/

/-- Fill a loom's scale register file through its scale map; a value from a poisoned entry keeps its origin (09 R211). -/
def Loom.fillScales (x : Loom) (value : Nat → BitVec 8) (origin : Nat → Nat) : Loom :=
  let slot (i : Nat) : Nat := (SMap.get 0xFFFF x.scaleMap i).toNat
  { x with
    scalePoison := (List.range 256).foldl (fun m i => SMap.set 0 m i (if slot i = 0xFFFF then 0 else origin (slot i))) []
    scaleFile := (List.range 256).foldl (fun m i =>
      SMap.set 0xFF m i (if slot i = 0xFFFF then 0xFF else BitVec.ofNat 9 (256 + (value (slot i)).toNat))) [] }

def State.fillRegisters (s : State) (p step : Nat) : State :=
  (s.countRow p step 0 (s.part p).slotCount).modLooms p (fun x => x.fillScales (fun t => (s.ephRow p step t).scale) (s.rowPoison p step))

/-- Longest duration of a scale fill, ns (R148): a part of 8,192 slots counts as a whole microsecond (DESIGN CHOICE, log 128). -/
def fillBound (slots : Nat) : Nat := 3000 + 1000 * ceilDiv slots 8192

/-! ### Watching (R151) -/

/-- One statistic of a slot of the final row: a crossing sets WATCHED, counts and is raised, with the slot's tensor in DETAIL and ELEMS behind it,
where R391's count leaves DETAIL no room (R151; DESIGN CHOICE, log 115). -/
def State.watchOne (s : State) (p step t stat count threshold elems : Nat) : State :=
  if threshold ≠ 0xFFFFFFFF ∧ threshold * elems < count * 1000000 then
    let r := s.ephRow p step t
    let s1 := (s.setEphRow p step t { r with watched := true }).bump (0x904005 + 256 * p) 1
    let tensor := match (s.part p).slotRec t with | some x => x.tensor.toNat | none => 0
    let s2 := s1.raise { code := 0x0602, sev := 1, uclass := ucPart, unit := p, part := p, op := 0, quad := none
                         detail := t + stat * 2 ^ 16 + count % 2 ^ 40 * 2 ^ 24 + tensor * 2 ^ 64, extra := elems % 2 ^ 40 }
    if s2.live 0x905004 = 1 ∧ !(s2.part p).due.any (fun d => match d with | .halt c _ => c == 8 | _ => false) then
      s2.haltAtBoundary p 8 t
    else s2
  else s

def State.watchSlot (s : State) (p step t : Nat) : State :=
  let r := s.ephRow p step t
  let n := r.elems.toNat
  if n < s.live 0x905005 then s
  else
    let s1 := s.watchOne p step t 0 r.zeros.toNat (s.live 0x905001) n
    let s2 := s1.watchOne p step t 1 r.sats.toNat (s.live 0x905002) n
    s2.watchOne p step t 2 r.nonfin.toNat (s.live 0x905003) n

/-- The row of the step in progress becomes final (R143 item 2). -/
def State.finaliseRow (s : State) (p : Nat) : State :=
  let step := s.stepNo p
  let k := (s.part p).slotCount
  let s1 := (List.range k).foldl (fun (t : State) i => t.watchSlot p step i) (s.countRow p step 0 k)
  (s1.setObj (0x904002 + 256 * p) step).modPart p (fun x => { x with rowFinal := true })

/-! ### Looms of a step -/

/-- The logical looms of a partition under its image. -/
def State.loomIds (s : State) (p : Nat) : List LoomId :=
  let cols := if s.runLooms p = 1600 then 20 else 25
  ((s.quadsOf p).map (fun q => ((List.range 20).map (fun r => (List.range cols).map (fun c =>
    ({ q := Fin.ofNat 4 q, r := Fin.ofNat 20 r, c := Fin.ofNat 25 c } : LoomId)))).flatten)).flatten

/-- Every loom of the partition has reported END, and its accumulators have merged. -/
def State.allEnded (s : State) (p : Nat) : Bool := (s.loomIds p).all (fun l => decide ((s.loom l).seq = .ended))
def State.allMerged (s : State) (p : Nat) : Bool := (s.loomIds p).all (fun l => (s.loom l).merged)

/-- Merge a loom's accumulators into the row of the step (R141). -/
def State.mergeLoom (s : State) (l : LoomId) : State :=
  let p := s.loomPart l
  let x := s.loom l
  let s1 := x.eph.foldl (fun (t : State) e =>
    let slot := (SMap.get 0xFFFF x.scaleMap e.1).toNat
    if slot = 0xFFFF then t else t.recordRow p (t.stepNo p) slot e.2) s
  s1.setLoom l { s1.loom l with eph := [], merged := true }

/-- The merge takes what the accumulators hold at the command, while the loom's quadrant runs (17 R411). Whether END or the merge waits for a drain still to come the spec does not
say: the records of a later drain stay in the loom and enter its next merge (DESIGN CHOICE, log 93). -/
def execEphemerisMergeComplete (l : LoomId) (s : State) : Outcome State Fault Refusal :=
  .next (if decide ((s.loom l).seq = .ended) && !(s.loom l).merged && (s.part (s.loomPart l)).inStep
    && !s.memStopped (s.loomPart l) && s.quadRuns l.q then s.mergeLoom l else s)

/-- Row s is final once the looms have merged and the engines have applied the step; the job-wide maxima are then in it,
because every owner's COMMIT follows its DONEs (R143; 11 R272). -/
def execRowFinal (p : Fin 4) (s : State) : Outcome State Fault Refusal :=
  .next (if (s.part p).applied && !(s.part p).rowFinal && s.allMerged p && !s.memStopped p then s.finaliseRow p else s)

end Sys2Proof.Machine
end

