-- ==== Sys2Proof/Machine/Windows.lean ====
section
/-! DEFINITION. Tally windows: entries, places of elements, ledgers, tokens (11 R255 to R262), fingerprint terms of a tensor
(05 R125). -/

namespace Sys2Proof.Machine

open Sys2Proof Host

/-! ### Window entries (R255) -/

/-- The entry of a window at a rank. -/
def Part.windowAt (x : Part) (rank n : Nat) : Option WindowEnt :=
  match x.image with
  | some i => i.windows.find? (fun w => w.rank.toNat == rank && w.window.toNat == n)
  | none => none

/-- The own window whose element region is r. -/
def Part.windowOfRegion (x : Part) (r : Nat) : Option WindowEnt := x.ownWindows.find? (fun w => w.region.toNat == r)

/-- Elements of data chunk c. -/
def winChunkLen (w : WindowEnt) (c : Nat) : Nat := Nat.min (winChunkElems w) (w.count.toNat - c * winChunkElems w)

/-- Parameters per block under a layout (07 R154). -/
def blockParams (layout : Nat) : Nat := if layout = 0 then 48 else 80

/-- Bits of a window's element. -/
def winWidth (w : WindowEnt) : Nat := if w.etype = 0 then 32 else if w.etype = 1 then 16 else 2

/-- Place of the window's parameter number n (from its BASE): region, byte offset, bit in it. -/
def winPlace (w : WindowEnt) (n : Nat) : Nat × Nat × Nat :=
  let b := blockParams (if w.layout then 1 else 0)
  let g := n / b * 256
  let j := n % b
  if w.etype = 0 then (if j < 64 then (w.region.toNat, g + 4 * j, 0) else (w.region2.toNat, g + 4 * (j - 64), 0))
  else if w.etype = 1 then (w.region.toNat, g + 2 * j, 0)
  else (w.region.toNat, g + j / 4, 2 * (j % 4))

/-- Element n of a window as stored. -/
def State.winElem (s : State) (p : Nat) (w : WindowEnt) (n : Nat) : Nat :=
  let a := winPlace w n
  s.readNat p a.1 a.2.1 (ceilDiv (a.2.2 + winWidth w) 8) / 2 ^ a.2.2 % 2 ^ winWidth w

/-- Elements that lie side by side in one region: the region, the byte of the first with its bit, the first element and how many. -/
structure WinRun where
  region : Nat
  byte   : Nat
  bit    : Nat
  first  : Nat
  count  : Nat
  deriving DecidableEq, Repr

/-- Bytes that a run occupies, in whole or in part. -/
def WinRun.bytes (r : WinRun) (width : Nat) : Nat := ceilDiv (r.bit + width * r.count) 8

/-- Up to k elements from element n to the end of their run: 64 of a T32 block lie in REGION, the others in REGION2. -/
def winRun (w : WindowEnt) (n k : Nat) : WinRun :=
  let b := blockParams (if w.layout then 1 else 0)
  let j := n % b
  let room := if w.etype = 0 ∧ j < 64 then Nat.min b 64 - j else b - j
  let a := winPlace w n
  { region := a.1, byte := a.2.1, bit := a.2.2, first := n, count := Nat.min k room }

/-- The runs of elements n to n + k − 1. -/
def winRuns (w : WindowEnt) : Nat → Nat → Nat → List WinRun
  | 0, _, _ => []
  | f + 1, n, k =>
    if k = 0 then []
    else
      let r := winRun w n k
      r :: winRuns w f (n + r.count) (k - r.count)

def winRunsOf (w : WindowEnt) (n k : Nat) : List WinRun := winRuns w k n k

/-- A unit reads elements of a window: every word it touches is a request (09 R206, R217). -/
def State.countWin (s : State) (who : Requester) (p : Nat) (w : WindowEnt) (n k : Nat) : State :=
  (winRunsOf w n k).foldl (fun (t : State) r => t.countRead who p r.region r.byte (r.bytes (winWidth w))) s

/-- Origin of the first poisoned word among elements of a window. -/
def State.winPoison (s : State) (p : Nat) (w : WindowEnt) (n k : Nat) : Nat :=
  (winRunsOf w n k).foldl (fun a r => if a = 0 then s.poisonIn p r.region r.byte (r.bytes (winWidth w)) else a) 0

/-- Replace k fields of `width` bits from bit `at_` of a number. -/
def replaceFields (x at_ width k : Nat) (v : Nat → Nat) : Nat :=
  x % 2 ^ at_ + (List.range k).foldr (fun i a => v i % 2 ^ width + 2 ^ width * a) 0 * 2 ^ at_
    + x / 2 ^ (at_ + width * k) * 2 ^ (at_ + width * k)

/-- Write elements n to n + k − 1 of a window. Where they are sums with what was there (`keep`), a poisoned word stays poisoned
(09 R206, R211). -/
def State.setWin (s : State) (who : Requester) (p : Nat) (w : WindowEnt) (n k : Nat) (v : Nat → Nat) (keep : Bool) : State :=
  (winRunsOf w n k).foldl (fun (t : State) r =>
    let width := winWidth w
    let len := r.bytes width
    let x := replaceFields (t.readNat p r.region r.byte len) r.bit width r.count (fun i => v (r.first + i))
    t.writeTagged who p r.region r.byte (leBytes len x) (fun o m => keep && decide (t.poisonIn p r.region o m ≠ 0))) s

/-- Sign of an element (07 R157; R268). -/
def winSign (w : WindowEnt) (v : Nat) : Int :=
  if w.etype = 2 then (if v = 1 then 1 else if v = 3 then -1 else 0)
  else
    let x := signed (if w.etype = 0 then 32 else 16) v
    if x < 0 then -1 else if x = 0 then 0 else 1

/-- Result code of a sign (R268). -/
def signCode (x : Int) : Nat := if x < 0 then 3 else if x = 0 then 0 else 1

/-! ### Ledger entries (R257) -/

def State.setLedger (s : State) (p : Nat) (w : WindowEnt) (c : Nat) (l : Ledger) : State :=
  s.writeRegion .hub p w.ledger.toNat (32 * c) (leBytes 32 (ledgerBits l)) false

/-- The tally engine reads entry c of a window's ledger. What else reads a ledger entry (a check of a header, a window's completion) has
it beside the engine and costs the stack no request (DESIGN CHOICE, log 78). -/
def State.countLedger (s : State) (p : Nat) (w : WindowEnt) (c : Nat) : State := s.countRead .hub p w.ledger.toNat (32 * c) 32

/-- Origin of the poison of entry c of a window's ledger. -/
def State.ledgerPoison (s : State) (p : Nat) (w : WindowEnt) (c : Nat) : Nat := s.poisonIn p w.ledger.toNat (32 * c) 32

/-- The entry's contents belong to the step and attempt in progress. -/
def State.ledgerNow (s : State) (p : Nat) (l : Ledger) : Bool :=
  s.ledgerOfAttempt p (s.attempt p) l

/-! ### Tokens (R261) -/

def rankToken (seed r : Nat) : Nat := mixer seed 0 0xFFFFFF r 0

/-- Expected token sum of a window. -/
def expectedTokens (seed : Nat) (w : WindowEnt) : Nat := (w.members.foldl (fun a r => a + rankToken seed r) 0) % 2 ^ 64

/-- A chunk, or the close, is complete for the step and attempt in progress (R262). A RESULT chunk is complete when it
has arrived (R266). -/
def State.chunkComplete (s : State) (p : Nat) (w : WindowEnt) (c : Nat) : Bool :=
  let l := s.ledger p w c
  s.ledgerNow p l && (if w.role = 2 then decide (0 < l.count)
    else decide (l.count = w.n.toNat) && decide (l.tokens = expectedTokens (s.part p).seed w))

/-- Key of a DONE received: sender and its window. -/
def doneKey (sender window : Nat) : Nat := sender * 65536 + window

/-- Every chunk and the close are complete; a RESULT window needs its owner's DONE in place of a close (R262, R266). -/
def State.windowFull (s : State) (p : Nat) (w : WindowEnt) : Bool :=
  (List.range (winChunks w)).all (fun c => s.chunkComplete p w c)
    && (if w.role = 2 then (s.part p).donesIn.any (fun d => d.1 == doneKey w.peer.toNat w.pwindow.toNat)
        else s.chunkComplete p w (winChunks w))

/-- The window's update is skipped under NF_POLICY 0x00 (R264, R279, R281). -/
def State.windowSkips (s : State) (p : Nat) (w : WindowEnt) : Bool :=
  decide ((s.part p).man 103 96 = 0) &&
    (if w.role = 2 then (s.part p).donesIn.any (fun d => d.1 == doneKey w.peer.toNat w.pwindow.toNat && d.2 == 1)
     else decide (0 < (s.ledger p w (winChunks w)).nonfin))

/-! ### Fingerprint keys (05 R125) -/

def Part.fseed (x : Part) : Nat := x.man 831 704

/-- Key of a tensor. -/
def Part.fpKey (x : Part) (tensor : Nat) : Nat := fpKeyOf (leNat (shake256 (leBytes 16 x.fseed ++ leBytes 3 tensor) 8))

/-- Add to a partial fingerprint of the step. -/
def Part.addFp (x : Part) (kind tensor v : Nat) : Part :=
  let k := kind * 2 ^ 24 + tensor
  { x with fpParts := SMap.set 0 x.fpParts k (BitVec.ofNat 64 (((SMap.get 0 x.fpParts k).toNat + v) % fpMod)) }

end Sys2Proof.Machine
end

