-- ==== Sys2Proof/Machine/Checkpoint.lean ====
section
/-! DEFINITION. Fingerprint log entries and the chain (05 R129 to R131), checkpoint descriptors and run records (12 R298 to
R300; 13 R325). -/

namespace Sys2Proof.Machine

open Sys2Proof

/-! ### Log entries (05 R131) -/

def fpEntryBytes (e : FpEntry) : Bytes :=
  leBytes 32 (e.step.toNat + e.kind.toNat * 2 ^ 48 + e.tensor.toNat * 2 ^ 64 + e.seq.toNat * 2 ^ 128 + e.fp.toNat * 2 ^ 192)

def fpEntryOf (b : Bytes) : FpEntry :=
  let x := leNat b
  { step := BitVec.ofNat 48 x, kind := BitVec.ofNat 4 (x / 2 ^ 48), tensor := BitVec.ofNat 24 (x / 2 ^ 64)
    seq := BitVec.ofNat 64 (x / 2 ^ 128), fp := BitVec.ofNat 64 (x / 2 ^ 192) }

/-- Order of the entries of a step: kind, tensor, sequence number (R129). -/
def fpOrder (e : FpEntry) : Nat := e.kind.toNat * 2 ^ 88 + e.tensor.toNat * 2 ^ 64 + e.seq.toNat

def insertEntry (e : FpEntry) (l : List FpEntry) : List FpEntry :=
  match l with
  | [] => [e]
  | h :: t => if fpOrder e < fpOrder h then e :: h :: t else h :: insertEntry e t

def sortEntries (l : List FpEntry) : List FpEntry := l.foldl (fun m e => insertEntry e m) []

def entriesBytes (l : List FpEntry) : Bytes := (l.map fpEntryBytes).flatten

/-- D of a step (R129). -/
def stepDigest (step : Nat) (l : List FpEntry) : Bytes := digest256 (leBytes 8 step ++ leBytes 4 l.length ++ entriesBytes l)

/-- The head of partition p's chain. -/
def State.head (s : State) (p : Nat) : Bytes := leBytes 32 (s.obj (0x903002 + 256 * p))

/-- Entries of the step in progress: completed ring fills, gradients and states of the tensors its commands cover, frozen
tensors. -/
def State.stepEntries (s : State) (p : Nat) : List FpEntry :=
  let x := s.part p
  let n := s.stepNo p
  let tensors := ((s.commands p).filter (fun c => uRule c != 3 && !(x.regionEntry (uRegion c)).testBit 16)).foldl
    (fun m c => insertNat (uTensor c) m) []
  let mk (kind t : Nat) : FpEntry :=
    { step := BitVec.ofNat 48 n, kind := BitVec.ofNat 4 kind, tensor := BitVec.ofNat 24 t, seq := 0
      fp := SMap.get 0 x.fpParts (kind * 2 ^ 24 + t) }
  sortEntries (x.fpEntries.filter (fun e => decide (e.seq.toNat = n)) ++ tensors.map (mk 1) ++ tensors.map (mk 2)
    ++ x.fpFrozen.map (fun e => { e with step := BitVec.ofNat 48 n }))

/-- Steps whose entries are still whole in a log of n entries, newest first. -/
def keepSteps (n : Nat) : List (Nat × Nat) → List (Nat × Nat)
  | [] => []
  | e :: t => if e.2 ≤ n then e :: keepSteps (n - e.2) t else []

/-- Write log slots from a position of the ring of n onward: each crosses steward 0's queue to the hub (01 R18). -/
def State.putLog (s : State) (p pos n : Nat) (l : List Bytes) : State :=
  let r := (s.part p).theRegion 6
  (l.zipIdx).foldl (fun (t : State) e =>
    t.across [fromSteward 0] (fun u => u.writeRegion .hub p r (32 * ((pos + e.2) % n)) e.1 false)) s

/-- Write the entries of a step into the log region. Steps whose entries are not all left are overwritten whole: the slots behind the
new entries, up to the oldest step that is kept, become zero (R131; DEDUCED, log 83). -/
def State.writeLog (s : State) (p step : Nat) (l : List FpEntry) : State :=
  let x := s.part p
  let n := s.regionLen p (x.theRegion 6) / 32
  let all := (step, l.length) :: x.logSteps
  let steps := keepSteps n all
  let rest := if steps.length < all.length then n - (steps.map (·.2)).sum else 0
  let s1 := if n = 0 then s else s.putLog p x.logPos n (l.map fpEntryBytes ++ List.replicate rest (List.replicate 32 0))
  let s2 := s1.modPart p (fun y => { y with logPos := x.logPos + l.length, logSteps := steps, logStep := l })
  (s2.setObj (0x903004 + 256 * p) ((steps.getLast?.map (·.1)).getD step)).setObj (0x903005 + 256 * p) l.length

/-- Fold the step in progress into the chain (R129). -/
def State.foldStep (s : State) (p : Nat) : State :=
  let n := s.stepNo p
  let l := s.stepEntries p
  let h := digest256 (s.head p ++ stepDigest n l)
  let s1 := (s.setObj (0x903001 + 256 * p) n).setObj (0x903002 + 256 * p) (leNat h)
  let s2 := s1.writeLog p n l
  s2.modPart p (fun y =>
    { y with folded := true, jtagSeen := y.jtagSeen || s.sec.jtagSeen
             inputs := y.inputs ++ entriesBytes (l.filter (fun e => decide (e.kind = 0)))
             fpEntries := y.fpEntries.filter (fun e => decide (e.seq.toNat ≠ n)) })

/-! ### The descriptor (12 R300) -/

/-- Kind-0x2 and kind-0x3 entries that a checkpoint carries. -/
def Part.stateEntries (x : Part) : List FpEntry := x.logStep.filter (fun e => decide (e.kind = 2) || decide (e.kind = 3))

/-- The image digest of the manifest. -/
def Part.imageDigest (x : Part) : Nat := x.man 575 320

/-- The 512-byte header. -/
def State.ckptHeader (s : State) (p c rr : Nat) : Bytes :=
  let x := s.part p
  leBytes 512 (0x4B46574B + 1 * 2 ^ 32 + x.ranks * 2 ^ 48 + x.rank * 2 ^ 64 + c % 2 ^ 48 * 2 ^ 96 + x.slotCount * 2 ^ 160
    + x.stateEntries.length * 2 ^ 192 + rr * 2 ^ 224 + leNat x.digest * 2 ^ 256 + x.imageDigest * 2 ^ 512
    + leNat (s.head p) * 2 ^ 768 + x.seed * 2 ^ 1024 + x.fseed * 2 ^ 1152)

/-- Ephemeris rows c − 15 to c, in step order; a row lies at its step modulo 32. -/
def State.ckptRows (s : State) (p c : Nat) : Bytes :=
  let x := s.part p
  ((List.range 16).map (fun i => s.readRegion p (x.theRegion 5) (32 * x.slotCount * ((c + 17 + i) % 32)) (32 * x.slotCount))).flatten

/-- Requests of the 16 rows that a checkpoint copies. -/
def State.countRows (s : State) (p c : Nat) : State :=
  let x := s.part p
  (List.range 16).foldl (fun (t : State) i =>
    t.countRead .hub p (x.theRegion 5) (32 * x.slotCount * ((c + 17 + i) % 32)) (32 * x.slotCount)) s

/-- Poison that the rows bring to the bytes [o, o + k) of the descriptor (09 R211). -/
def State.rowsPoison (s : State) (p c o k : Nat) : Bool :=
  let x := s.part p
  let n := 32 * x.slotCount
  (List.range 16).any (fun i => s.copiedPoison p (x.theRegion 5) (n * ((c + 17 + i) % 32)) (512 + n * i) n o k)

/-- Everything before the run record. -/
def State.ckptBytes (s : State) (p c rr : Nat) : Bytes :=
  s.ckptHeader p c rr ++ s.ckptRows p c ++ entriesBytes (s.part p).stateEntries

/-- Result part and signer part of the run record of checkpoint c (13 R325). -/
def State.runRecordBody (s : State) (p c : Nat) : Bytes :=
  let x := s.part p
  leBytes 256 (0x5246574B + 1 * 2 ^ 32 + x.ranks * 2 ^ 48 + x.rank * 2 ^ 64 + x.rrFirst.toNat % 2 ^ 48 * 2 ^ 80
      + c % 2 ^ 48 * 2 ^ 128 + x.imageDigest * 2 ^ 256 + leNat x.headBefore * 2 ^ 512 + leNat (s.head p) * 2 ^ 768
      + leNat (digest256 x.inputs) * 2 ^ 1024 + leNat (digest256 (entriesBytes x.stateEntries)) * 2 ^ 1280)
    ++ fitBytes 68 s.idPub ++ fitBytes 32 x.digest ++ List.replicate 28 0

/-- The descriptor is complete: the report of its digest leaves (R298). -/
def State.ckptReport (s : State) (p : Nat) (before : Bytes) : State := s.report p (digest256 before)

/-- Take checkpoint c: hold on the state regions, descriptor written, run record to be signed (R298; 13 R325). A record
that cannot be signed leaves RR_BYTES 0 at once. -/
def State.takeCheckpoint (s : State) (p c : Nat) : State :=
  let x := s.part p
  let b := 256 * p
  let s1 := (s.setObj (0x907006 + b) c).setObj (0x907007 + b) 2
  let s2 := s1.modPart p (fun y => { y with hold := some (BitVec.ofNat 64 c) })
  let signs := !x.jtagSeen && decide (s.obj 0x600506 = 0)
  let d := s.ckptBytes p c (if signs then 3204 else 0)
  let s3 := (s2.countRows p c).writeTagged .hub p (x.theRegion 9) 0 d (s.rowsPoison p c)
  let body := s.runRecordBody p c
  let s4 := if signs then
      { s3 with sec := { s3.sec with queue := s3.sec.queue ++ [(.runRecord (Fin.ofNat 4 p) (BitVec.ofNat 64 c), body)] } }
    else s3.ckptReport p d
  if signs then
    s4.modPart p (fun y => { y with rrFirst := BitVec.ofNat 64 (c + 1), headBefore := s.head p, inputs := [] })
  else s4

/-- The run record's signature, or its refusal, ends the descriptor: the record is placed, or RR_BYTES becomes 0. -/
def State.placeRunRecord (s : State) (p : Nat) (record : Option Bytes) : State :=
  let x := s.part p
  let r := x.theRegion 9
  let n := 512 + 512 * s.readNat p r 20 4 + 32 * s.readNat p r 24 4
  let s1 := match record with
    | some b => s.writeRegion .hub p r n b false
    | none => s.writeRegion .hub p r 28 (leBytes 4 0) false
  (s1.countRead .hub p r 0 n).ckptReport p (s1.readRegion p r 0 n)

end Sys2Proof.Machine
end

