-- ==== Sys2Proof/Machine/Update.lean ====
section
/-! DEFINITION. The update engines (07): state blocks (R154), the rules (R157 to R160), learning rates (06 R150), frozen and
skipped commands (R168, R170), the forward copy (R163), partial fingerprints (R172), and the end of the updates of a step
(R165). -/

namespace Sys2Proof.Machine

open Sys2Proof Host

/-! ### State regions (R154) -/

def Part.stateLayout (x : Part) (r : Nat) : Nat := field (x.regionEntry r) 20 17
def Part.stateFrozen (x : Part) (r : Nat) : Bool := (x.regionEntry r).testBit 16
def Part.stateBase (x : Part) (r : Nat) : Nat := field (x.regionEntry r) 139 96

/-- Bytes of a master under a layout, and where the momentum bytes begin. -/
def masterBytes (layout : Nat) : Nat := if layout = 0 then 4 else 2
def momentumAt (layout : Nat) : Nat := if layout = 0 then 192 else 160

/-- Format code of a master. -/
def masterFmt (layout : Nat) : Nat := if layout = 0 then 0 else 1

/-- Replace bytes of a string from an offset. -/
def setBytes (b : Bytes) (off : Nat) (v : Bytes) : Bytes := b.take off ++ v ++ b.drop (off + v.length)

def sliceNat (b : Bytes) (off n : Nat) : Nat := leNat ((b.drop off).take n)

/-- Master bits and momentum byte at slot j of a block. -/
def blockMaster (layout : Nat) (b : Bytes) (j : Nat) : Nat := sliceNat b (masterBytes layout * j) (masterBytes layout)
def blockMomentum (layout : Nat) (b : Bytes) (j : Nat) : Nat := sliceNat b (momentumAt layout + j) 1

/-! ### The rules (R157 to R159; 06 R150) -/

/-- Exponent y of the learning rate before the clamp. -/
def State.lrExp (s : State) (p : Nat) (c : Word512) : Int :=
  let w := if uLrRel c then s.windowMax p (uWslot c) (s.stepNo p) else 0
  uLrExp c + (if w = 0 then 0 else ((w / 2 ^ 22 : Nat) : Int) - 512)

/-- Origin of the poison among the entries that the exponent comes from. -/
def State.lrPoison (s : State) (p : Nat) (c : Word512) : Nat := if uLrRel c then s.windowPoison p (uWslot c) (s.stepNo p) else 0

/-- η of a command: LR_MANT × 2^(y − 15), y clamped. -/
def State.learningRate (s : State) (p : Nat) (c : Word512) : Val :=
  Val.ofInt (uLrMant c) (clampTo (-128) 127 (s.lrExp p c) - 15)

/-- New momentum before the clamp. -/
def newMomentum (c : Word512) (v sign : Int) (u : Nat) : Int :=
  let x : Int := (uBeta c : Int) * v + (256 - (uBeta c : Int)) * 128 * sign
  roundInt (decide (x < 0)) x.natAbs 256 (some u)

/-- An exact number: one that is zero is not negative, so its zero result is +0 (02 R41; DEDUCED, log 14). -/
def valNumber (v : Val) : Val :=
  match v with
  | .fin s n d e => if n = 0 then .fin false 0 1 0 else .fin s n d e
  | w => w

/-- t = w − η × (d + λ × w), exactly (R158). -/
def exactMaster (c : Word512) (w eta d : Val) : Val :=
  let lam := Val.ofInt (uWdMant c) (uWdExp c - 15)
  valNumber (w.add (eta.mul (d.add (lam.mul w))).neg)

/-- A finite value (R160). -/
def valFinite (v : Val) : Bool := match v with | .fin _ _ _ _ => true | _ => false

/-- What updating one parameter gives: master, momentum, whether the master was non-finite, whether the momentum
saturated, class and exact value of the master's rounding. -/
structure ParamResult where
  master : Nat
  mom    : Nat
  nonfin : Bool
  sat    : Bool
  cls    : ConvClass
  exact  : Val

/-- Update one parameter: element index e in its tensor, sign s. -/
def updateParam (seed step layout : Nat) (c : Word512) (eta : Val) (w v e : Nat) (sign : Int) : ParamResult :=
  let f := masterFmt layout
  let wv := floatVal f w
  if !valFinite wv then { master := w, mom := v, nonfin := true, sat := false, cls := .nonfinite, exact := wv }
  else
    let m0 := if uRule c = 0 then signed 8 v
      else newMomentum c (signed 8 v) sign (srBits seed step (uTensor c) (e % 2 ^ 40) 6 0)
    let m := if uRule c = 0 then m0 else clampTo (-127) 127 m0
    let d := if uRule c = 0 then Val.ofInt sign 0 else if uRule c = 1 then Val.ofInt m (-7)
      else Val.ofInt (if m < 0 then -1 else if m = 0 then 0 else 1) 0
    let t := exactMaster c wv eta d
    let u := if layout = 0 then none else some (srBits seed step (uTensor c) (e % 2 ^ 40) 5 0)
    let r := toFloat f t u
    { master := r.1, mom := wrapBits 8 m, nonfin := false, sat := decide (m ≠ m0), cls := r.2, exact := t }

/-! ### Blocks of a command on an engine (R155) -/

/-- Blocks of the state region that a command covers. -/
def Part.cmdBlocks (x : Part) (c : Word512) : List Nat :=
  let b := blockParams (x.stateLayout (uRegion c))
  let lo := (uFirst c - x.stateBase (uRegion c)) / b
  let hi := (uFirst c + uCount c - 1 - x.stateBase (uRegion c)) / b
  List.range' lo (hi + 1 - lo)

/-- Slots of block b that a command covers. -/
def Part.cmdSlots (x : Part) (c : Word512) (b : Nat) : List Nat :=
  let n := blockParams (x.stateLayout (uRegion c))
  (List.range n).filter (fun j =>
    let i := x.stateBase (uRegion c) + b * n + j
    decide (uFirst c ≤ i) && decide (i < uFirst c + uCount c))

/-- Work of an engine on one command so far. -/
structure EngineWork where
  block  : Bytes
  fp1    : Nat
  fp2    : Nat
  params : Nat
  nonfin : Nat
  sats   : Nat
  row    : EphAcc

/-- Unit v of kind 0x1 for a parameter (05 R127; 11 R268). A command whose GSRC does not fit its window's ETYPE is not refused: the sign
follows the window's ETYPE, the unit follows GSRC (DESIGN CHOICE, log 82). -/
def gradUnit (c : Word512) (w : WindowEnt) (v : Nat) : Nat := if uGsrc c = 0 then v else signCode (winSign w v)

/-- Process slot j of a block: the new state when the command is applied, and the terms of both kinds. -/
def State.stepParam (s : State) (p : Nat) (c : Word512) (w : WindowEnt) (eta : Val) (apply : Bool) (key b : Nat)
    (a : EngineWork) (j : Nat) : EngineWork :=
  let x := s.part p
  let layout := x.stateLayout (uRegion c)
  let i := x.stateBase (uRegion c) + b * blockParams layout + j
  let g := s.winElem p w (i - w.base.toNat)
  let m := blockMaster layout a.block j
  let v := blockMomentum layout a.block j
  let fp1 := (a.fp1 + fpTerm (gradUnit c w g) i key) % fpMod
  if apply then
    let r := updateParam x.seed (s.stepNo p) layout c eta m v (i - uTbase c) (winSign w g)
    let blk := setBytes (setBytes a.block (masterBytes layout * j) (leBytes (masterBytes layout) r.master))
      (momentumAt layout + j) (leBytes 1 r.mom)
    { block := blk, fp1 := fp1, fp2 := (a.fp2 + fpTerm (r.master + r.mom * 2 ^ 32) i key) % fpMod
      params := a.params + (if r.nonfin then 0 else 1), nonfin := a.nonfin + (if r.nonfin then 1 else 0)
      sats := a.sats + (if r.sat then 1 else 0), row := a.row.record r.cls r.exact }
  else { a with fp1 := fp1, fp2 := (a.fp2 + fpTerm (m + v * 2 ^ 32) i key) % fpMod }

/-- One block: a block whose state or gradient carries poison is not written and its poison is consumed (R171). The engine reads the whole
256-byte granules of the block's state and window (DESIGN CHOICE, log 129). -/
def State.stepBlock (s : State) (k p : Nat) (c : Word512) (w : WindowEnt) (eta : Val) (apply : Bool) (key b : Nat) : State :=
  let x := s.part p
  let r := uRegion c
  let bad := firstOrigin (s.poisonIn p r (256 * b) 256)
    (firstOrigin (s.poisonIn p w.region.toNat (256 * b) 256)
      (if w.region2.toNat = 255 then 0 else s.poisonIn p w.region2.toNat (256 * b) 256))
  let s0 := (s.countRead .engine p r (256 * b) 256).countRead .engine p w.region.toNat (256 * b) 256
  let s1 := if w.region2.toNat = 255 then s0 else s0.countRead .engine p w.region2.toNat (256 * b) 256
  if bad ≠ 0 then s1.consumePoison p (some (k / 5)) ucEngine k (uTag c) ((bad - 1) % 32) ((bad - 1) / 32)
  else
    let a0 : EngineWork :=
      { block := s.readRegion p r (256 * b) 256, fp1 := 0, fp2 := 0, params := 0, nonfin := 0, sats := 0, row := .zero }
    let a := (x.cmdSlots c b).foldl (fun a j => s1.stepParam p c w eta apply key b a j) a0
    let s2 := s1.modPart p (fun y => (y.addFp 1 (uTensor c) a.fp1).addFp 2 (uTensor c) a.fp2)
    if apply then
      let s3 := s2.writeRegion .engine p r (256 * b) a.block false
      let s4 := ((s3.bump (0x406002 + 256 * k) a.params).bump (0x406005 + 256 * k) a.nonfin).bump (0x406006 + 256 * k) a.sats
      if uMslot c = 0xFFFF then s4 else s4.recordRow p (s4.stepNo p) (uMslot c) a.row
    else s2

/-- Stack that holds block b of a region. -/
def State.blockStack (s : State) (p r b : Nat) : Nat := (s.regionWord p r (256 * b)).1

/-- A lane check of the engine fails on block b: the block is not written and the job halts as for poison (16 R386). -/
def State.laneFault (s : State) (k p : Nat) (c : Word512) (b : Nat) : State :=
  ((s.bump 0x702005 1).raiseQuad (k / 5) 0x0203 2 ucEngine k (uTag c) s.laneDetail).consumePoison p (some (k / 5)) ucEngine k (uTag c) k b

/-- The command's blocks on stack k, in ascending order; the first one meets the lane fault, if there is one. -/
def State.engineRun (s : State) (k p : Nat) (c : Word512) (w : WindowEnt) (apply laneBad : Bool) : State :=
  let x := s.part p
  let eta := s.learningRate p c
  let key := x.fpKey (uTensor c)
  let bs := (x.cmdBlocks c).filter (fun b => s.blockStack p (uRegion c) b == k)
  let run (l : List Nat) (t0 : State) : State := l.foldl (fun (t : State) b => t.stepBlock k p c w eta apply key b) t0
  if apply && laneBad then
    (match bs with
     | [] => s
     | b :: l => run l (s.laneFault k p c b))
  else run bs s

/-! ### UPDATE_START (R165) -/

/-- No engine of the partition has begun command i of the step. -/
def State.firstEngine (s : State) (p i : Nat) : Bool := (s.stacksOf p).all (fun k => !(s.stack k).cmdsDone.contains i)

/-- Engine k has finished command i. -/
def State.cmdFinished (s : State) (k i : Nat) : State :=
  let x := s.stack k
  s.setStack k { x with cmdsDone := x.cmdsDone ++ [i] }

/-- A frozen command: counted at each engine, raised once (R168, R169). -/
def State.frozenWrite (s : State) (k p i : Nat) (c : Word512) : State :=
  let s1 := s.bump (0x406003 + 256 * k) 1
  if s.firstEngine p i then
    let s2 := s1.raiseQuad (k / 5) 0x0106 1 ucEngine k (uTag c) (uTensor c)
    if s2.live (0x906001 + p) = 1 then s2.haltAtBoundary p 9 (uTag c) else s2
  else s1

/-- The step or the command's window is skipped (R170). -/
def State.cmdSkipped (s : State) (p : Nat) (w : WindowEnt) : Bool := (s.part p).skipStep || s.windowSkips p w

/-- Apply or skip a command on engine k. A learning rate that comes from poisoned entries is consumed, and nothing is updated with it (09
R211, R212). -/
def State.runCommand (s : State) (k p i : Nat) (c : Word512) (w : WindowEnt) (laneBad : Bool) : State :=
  if s.cmdSkipped p w then
    let s1 := (s.bump (0x406004 + 256 * k) 1).engineRun k p c w false false
    if s.firstEngine p i && !(s.part p).skipStep then s1.raiseQuad (k / 5) 0x0603 1 ucEngine k (uTag c) w.window.toNat else s1
  else
    let y := s.lrExp p c
    let s1 := if s.firstEngine p i && decide (clampTo (-128) 127 y ≠ y) then s.bump (0x904004 + 256 * p) 1 else s
    let bad := s.lrPoison p c
    if bad ≠ 0 then s1.consumePoison p (some (k / 5)) ucEngine k (uTag c) ((bad - 1) % 32) ((bad - 1) / 32)
    else s1.engineRun k p c w true laneBad

/-- Trace record of a command started (0x03) or ended (0x04) (17 R406). -/
def State.traceCommand (s : State) (k p kind : Nat) (c : Word512) : State :=
  s.traceUnit (0x410 + k) kind ucEngine k (k / 5) (uTag c + uTensor c * 2 ^ 16) (s.stepNo p)

/-- The engine begins command i of its step: the step is committed, the window is complete, no hold is in force, and the
commands before it in the list are finished on this engine. -/
def execUpdateStart (k : Fin 20) (i : BitVec 32) (laneOk : Bool) (s : State) : Outcome State Fault Refusal :=
  .next (
    let p := s.partOfStack k
    let x := s.part p
    let n := i.toNat
    let dn := (s.stack k).cmdsDone
    match (s.commands p)[n]? with
    | none => s
    | some c =>
      if !s.quadRuns (k.val / 5) || s.memStopped p || !x.committed || x.applied || dn.contains n
          || !(List.range n).all (fun j => dn.contains j) || decide ((s.stack k).failed = true) then s
      else if uRule c = 3 then s.cmdFinished k n
      else if x.hold.isSome then s
      else if x.stateFrozen (uRegion c) then (s.frozenWrite k p n c).cmdFinished k n
      else
        match x.windowOfRegion (uWindow c) with
        | none => s
        | some w =>
          if !x.windowsDone.contains w.window.toNat then s
          else
            let bad := !laneOk && (s.obj 0x702001).testBit p
            (((s.traceCommand k p 3 c).runCommand k p n c w bad).cmdFinished k n).traceCommand k p 4 c)

/-- Every engine of the partition has finished every command: the regions are reported applied (R165), by engines whose quadrants run (17
R411). -/
def execUpdateFinish (p : Fin 4) (s : State) : Outcome State Fault Refusal :=
  .next (
    let n := (s.commands p).length
    if (s.part p).committed && !(s.part p).applied && (s.quadsOf p).all s.quadRuns
        && (s.stacksOf p).all (fun k => (List.range n).all (fun i => (s.stack k).cmdsDone.contains i)) then
      let s1 := (s.stacksOf p).foldl (fun (t : State) k => t.setObj (0x406001 + 256 * k) (t.stepNo p)) s
      s1.modPart p (fun x => { x with applied := true })
    else s)

/-! ### The forward copy (R163) -/

/-- Byte in the state region at which the master of parameter i begins. -/
def Part.masterAt (x : Part) (c : Word512) (i : Nat) : Nat :=
  let layout := x.stateLayout (uRegion c)
  let n := i - x.stateBase (uRegion c)
  n / blockParams layout * 256 + masterBytes layout * (n % blockParams layout)

/-- Origin of the poison of parameter i's master. -/
def State.masterPoison (s : State) (p : Nat) (c : Word512) (i : Nat) : Nat :=
  let x := s.part p
  s.poisonIn p (uRegion c) (x.masterAt c i) (masterBytes (x.stateLayout (uRegion c)))

/-- Parameter i's copy: its code, the class of the conversion, the exact master. -/
def State.copyOf (s : State) (p : Nat) (c : Word512) (i : Nat) : (Nat × ConvClass) × Val :=
  let x := s.part p
  let layout := x.stateLayout (uRegion c)
  let v := floatVal (masterFmt layout) (s.readNat p (uRegion c) (x.masterAt c i) (masterBytes layout))
  let e : Int := ((s.ephRow p (s.stepNo p) (uCslot c)).scale.toNat : Int) - 127
  (convertTo (uCfmt c) (v.scale (-e)) none, v)

/-- Elements of the tensor that a command copies: up to the end of the last range that a command of the step copies to that region for
that tensor (02 R32; DEDUCED, log 81). -/
def State.copyElems (s : State) (p : Nat) (c : Word512) : Nat :=
  (s.commands p).foldl (fun a d =>
    if uCopy d && uTensor d == uTensor c && uCregion d == uCregion c then Nat.max a (uFirst d + uCount d - uTbase d) else a) 0

/-- The engine that writes the bytes from offset o of a command's copy: that of the stack with the master of their first parameter, from
element e of the tensor on (R163, R164). -/
def State.copyWho (s : State) (p : Nat) (c : Word512) (e o : Nat) : Requester :=
  let i := uTbase c + Nat.max e (8 * o / fmtWidth (uCfmt c))
  .copy (Fin.ofNat 20 (s.regionWord p (uRegion c) ((s.part p).masterAt c i)).1)

/-- Write k packed elements from element e of the copy region; where they end the tensor, zeros follow to the end of its packed bytes
(R163; 02 R32). An element of index `bad` carries poison. -/
def State.putCopy (s : State) (p : Nat) (c : Word512) (e : Nat) (codes : List Nat) (bad : Option Nat) : State :=
  let w := fmtWidth (uCfmt c)
  let k := codes.length
  let lo := w * e / 8
  let bit := w * e % 8
  let done := decide (e + k = s.copyElems p c)
  let len := (if done then packedBytes (uCfmt c) (e + k) else ceilDiv (w * (e + k)) 8) - lo
  let v := replaceFields (s.readNat p (uCregion c) lo len) bit w k (codes.getD · 0)
  s.writeBy (s.copyWho p c e) p (uCregion c) lo (leBytes len (if done then v % 2 ^ (bit + w * k) else v)) (fun o m =>
    match bad with
    | some j => decide (w * (e + j) / 8 < o + m) && decide (o < ceilDiv (w * (e + j + 1)) 8)
    | none => false)

/-- Requests for the masters of a command's range, block by block. -/
def State.countMasters (s : State) (p : Nat) (c : Word512) : State :=
  let x := s.part p
  let m := masterBytes (x.stateLayout (uRegion c))
  (x.cmdBlocks c).foldl (fun (t : State) b =>
    let l := x.cmdSlots c b
    t.countRead .engine p (uRegion c) (256 * b + m * l.headD 0) (m * l.length)) s

/-- Origin of the poison of parameter i's copy: of its master, or of the entry of the scale. -/
def State.copyPoison (s : State) (p : Nat) (c : Word512) (i : Nat) : Nat :=
  firstOrigin (s.masterPoison p c i) (s.rowPoison p (s.stepNo p) (uCslot c))

/-- Copy the masters of a command, up to the first whose copy carries poison: it is written poisoned, the poison consumed, and the copy
ends (R163, R171; 09 R211, R212). -/
def State.copyCommand (s : State) (p : Nat) (c : Word512) : State :=
  let l := List.range' (uFirst c) (uCount c)
  let bad := l.findIdx? (fun i => decide (s.copyPoison p c i ≠ 0))
  let done := (match bad with | some j => l.take (j + 1) | none => l).map (s.copyOf p c)
  let s1 := (s.countMasters p c).putCopy p c (uFirst c - uTbase c) (done.map (·.1.1)) bad
  let s2 := s1.recordRow p (s1.stepNo p) (uCslot c) (done.foldl (fun a x => a.record x.1.2 x.2) .zero) bad.isSome
  match bad with
  | none => s2
  | some j =>
    let o := s.copyPoison p c (uFirst c + j)
    let k := (s.regionWord p (uRegion c) ((s.part p).masterAt c (uFirst c + j))).1
    s2.consumePoison p (some (k / 5)) ucEngine k (uTag c) ((o - 1) % 32) ((o - 1) / 32)

/-- The copies of a step; none follows a poisoned master. -/
def State.copyAll (s : State) (p : Nat) : State :=
  (s.commands p).foldl (fun (t : State) c => if uCopy c && !(t.part p).poisoned then t.copyCommand p c else t) s

/-- The engines of a partition can write to all of its stacks: their quadrants run, and the ways between them are open (01 R13; 17
R411). -/
def State.copiesGo (s : State) (p : Nat) : Bool :=
  (s.quadsOf p).all s.quadRuns && (s.stacksOf p).all (fun j => (s.stacksOf p).all (fun k =>
    s.wayOpen (.copy (Fin.ofNat 20 j)) k && s.bridgesReady (.copy (Fin.ofNat 20 j)) k))

/-- The copies of the step are written once its scale fill is complete; after an abort, once the looms have stopped
(R163, R164). -/
def execForwardCopy (p : Fin 4) (s : State) : Outcome State Fault Refusal :=
  .next (
    let x := s.part p
    if x.filled && !x.copied && !s.memStopped p && s.copiesGo p then
      let s1 := s.copyAll p
      s1.modPart p (fun y => { y with copied := true })
    else s)

end Sys2Proof.Machine
end

