-- ==== Sys2Proof/Machine/Broadcast.lean ====
section
/-! DEFINITION. The broadcast of an image to the looms of a partition (04 R105 to R107), the failure of an arming, and the
kind-0x3 fingerprints that end it (05 R127; 12 R292). -/

namespace Sys2Proof.Machine

open Sys2Proof Host

/-! ### Arming (12 R292) -/

/-- The arming fails with a control status and a detail; its end is ARM_COMPLETE. -/
def State.armFails (s : State) (p status detail : Nat) : State :=
  s.modPart p (fun x => { x with arming := { x.arming with step := 8, status := BitVec.ofNat 8 status, detail := BitVec.ofNat 16 detail } })

/-- The arming is at a step. -/
def State.armStep (s : State) (p : Nat) : Nat := (s.part p).arming.step

def State.modArming (s : State) (p : Nat) (f : Arming → Arming) : State := s.modPart p (fun x => { x with arming := f x.arming })

/-! ### Fingerprints of states (05 R127) -/

/-- Two commands cover parameter i of one tensor. -/
def sameParam (c d : Word512) (i : Nat) : Bool :=
  uTensor c == uTensor d && uRegion c == uRegion d && decide (uFirst d ≤ i) && decide (i < uFirst d + uCount d)

/-- Fingerprint of the parameters that an update command covers and no command of `before` does, in the state as it stands:
kind 0x2's and 0x3's unit. -/
def State.stateFp (s : State) (p : Nat) (before : List Word512) (c : Word512) : Nat :=
  let x := s.part p
  let r := uRegion c
  let layout := x.stateLayout r
  let key := x.fpKey (uTensor c)
  ((List.range' (uFirst c) (uCount c)).filter (fun i => !before.any (fun d => sameParam c d i))).foldl (fun a i =>
    let n := i - x.stateBase r
    let at_ := n / blockParams layout * 256
    let j := n % blockParams layout
    let m := s.readNat p r (at_ + masterBytes layout * j) (masterBytes layout)
    let v := s.readNat p r (at_ + momentumAt layout + j) 1
    (a + fpTerm (m + v * 2 ^ 32) i key) % fpMod) 0

/-- The sum over a list of commands, each parameter counted once. -/
def State.stateFpSum (s : State) (p : Nat) : List Word512 → List Word512 → Nat
  | _, [] => 0
  | before, c :: t => (s.stateFp p before c + s.stateFpSum p (c :: before) t) % fpMod

/-- One command for each distinct range of a tensor among the image's commands that satisfy `f`. -/
def distinctRanges (cs : List Word512) : List Word512 :=
  cs.foldl (fun (m : List Word512) c =>
    if m.any (fun d => uTensor d == uTensor c && uRegion d == uRegion c && uFirst d == uFirst c && uCount d == uCount c) then m
    else m ++ [c]) []

/-- Entries of a kind over the ranges that commands name: one for each tensor. -/
def State.stateFps (s : State) (p kind step : Nat) (cs : List Word512) : List FpEntry :=
  let ranges := distinctRanges cs
  let tensors := ranges.foldl (fun m c => insertNat (uTensor c) m) []
  sortEntries (tensors.map (fun t =>
    { step := BitVec.ofNat 48 step, kind := BitVec.ofNat 4 kind, tensor := BitVec.ofNat 24 t, seq := 0
      fp := BitVec.ofNat 64 (s.stateFpSum p [] (ranges.filter (fun c => uTensor c == t))) }))

/-- Commands of the image whose state region is frozen, or is not. A frozen region is read whatever command names it; one that is not
frozen is fingerprinted only where a command updates it (R127). -/
def Part.stateCmds (x : Part) (frozen : Bool) : List Word512 :=
  match x.image with
  | some i => i.updCmds.filter (fun c => (frozen || uRule c != 3) && x.stateFrozen (uRegion c) == frozen)
  | none => []

/-- Requests of the update engines for the blocks that commands name. -/
def State.countStates (s : State) (p : Nat) (cs : List Word512) : State :=
  (distinctRanges cs).foldl (fun (t : State) c =>
    ((s.part p).cmdBlocks c).foldl (fun (t : State) b => t.countRead .engine p (uRegion c) (256 * b) 256) t) s

/-- Origin of the first poisoned word that the update engines read for the fingerprints of commands, with the command's TAG. -/
def State.statesPoison (s : State) (p : Nat) (cs : List Word512) : Option (Nat × Nat) :=
  (distinctRanges cs).findSome? (fun c =>
    (((s.part p).cmdBlocks c).find? (fun b => decide (s.poisonIn p (uRegion c) (256 * b) 256 ≠ 0))).map
      (fun b => (s.poisonIn p (uRegion c) (256 * b) 256, uTag c)))

/-- The update engines read the state for fingerprints: a fingerprint of poisoned state consumes the poison (09 R212). -/
def State.useStates (s : State) (p : Nat) (cs : List Word512) : State :=
  let t := s.countStates p cs
  match s.statesPoison p cs with
  | some (o, tag) => t.consumePoison p (some ((o - 1) % 32 / 5)) ucEngine ((o - 1) % 32) tag ((o - 1) % 32) ((o - 1) / 32)
  | none => t

/-- Step 6: the kind-0x3 fingerprints (DESIGN CHOICE, log 30: the frozen tensors are those that commands of the image
name); the arming has then done its work, unless it met poison, which halts the job. -/
def State.armFingerprints (s : State) (p : Nat) : State :=
  let l := s.stateFps p 3 ((s.part p).man 303 256) ((s.part p).stateCmds true)
  let t := s.useStates p ((s.part p).stateCmds true)
  if t.jobState p = 7 then t
  else (t.modPart p (fun x => { x with
    fpFrozen := l, logStep := if x.man 303 256 = 0 then l else x.logStep })).modArming p (fun a => { a with step := 7 })

/-! ### Segments (04 R105) -/

def segLoad (h : Word512) : Nat := field h.toNat 15 0
def segPerLoom (h : Word512) : Bool := h.toNat.testBit 16
def segSeq (h : Word512) : Nat := field h.toNat 35 24
def segTotal (h : Word512) : Nat := field h.toNat 47 36
def segSection (h : Word512) : Nat := field h.toNat 51 48
def segUnit (h : Word512) : Nat := field h.toNat 79 64
def segCrc (h : Word512) : Nat := field h.toNat 127 96

/-- A known section (reserved fields are ignored, 00 R6). -/
def segValid (h : Word512) : Bool :=
  decide (segSection h ≤ 4) || decide (segSection h = 14)

/-- Number of 16-bit or 64-byte units from bytes, each put at its index below a bound. -/
def putUnits {β : Type} (size bound first : Nat) (b : Bytes) (put : Nat → Nat → β → β) (m : β) : β :=
  (List.range (ceilDiv b.length size)).foldl (fun m i =>
    if first + i < bound then put (first + i) (leNat ((b.drop (size * i)).take size)) m else m) m

/-- Place bytes in a section of a loom. -/
def Loom.place (x : Loom) (section_ off : Nat) (b : Bytes) : Loom :=
  if section_ = 0 then
    { x with store := putUnits 64 4096 (off / 64) b (fun i v m => SMap.set (0 : Word512) m i (BitVec.ofNat 512 v)) x.store }
  else if section_ = 1 then
    { x with streamTab := putUnits 2 1536 (off / 2) b (fun i v m => SMap.set (0xFF : BitVec 16) m i (BitVec.ofNat 16 v)) x.streamTab }
  else if section_ = 2 then
    { x with scaleMap := putUnits 2 256 (off / 2) b (fun i v m => SMap.set (0xFFFF : BitVec 16) m i (BitVec.ofNat 16 v)) x.scaleMap }
  else if section_ = 3 then x.put off (b.take (2 ^ 20 - off)) 0
  else if section_ = 4 then { x with microcode := putBytes x.microcode off b }
  else x

/-- n bytes of a section as the loom holds them. -/
def Loom.sectionBytes (x : Loom) (section_ n : Nat) : Bytes :=
  if section_ = 0 then fitBytes n ((List.range (ceilDiv n 64)).map (fun i => leBytes 64 (SMap.get (0 : Word512) x.store i).toNat)).flatten
  else if section_ = 1 then fitBytes n ((List.range (ceilDiv n 2)).map (fun i => leBytes 2 (SMap.get (0xFF : BitVec 16) x.streamTab i).toNat)).flatten
  else if section_ = 2 then fitBytes n ((List.range (ceilDiv n 2)).map (fun i => leBytes 2 (SMap.get (0xFFFF : BitVec 16) x.scaleMap i).toNat)).flatten
  else if section_ = 3 then getBytes x.mem 0 n
  else getBytes x.microcode 0 n

/-! ### Recovery (04 R106) -/

/-- Bitmap and total of a space. -/
def Loom.spaceSeen (x : Loom) (perLoom : Bool) : SMap Bool := if perLoom then x.loomSeen else x.commonSeen
def Loom.spaceTotal (x : Loom) (perLoom : Bool) : Option (BitVec 12) := if perLoom then x.loomTotal else x.commonTotal

/-- Segments of a space the loom lacks. A space of which the loom has learnt no TOTAL may hold 4,095. -/
def Loom.lacks (x : Loom) (perLoom : Bool) : List Nat :=
  (List.range (((x.spaceTotal perLoom).map BitVec.toNat).getD 4095)).filter (fun i => !SMap.get false (x.spaceSeen perLoom) i)

def Loom.spaceEnded (x : Loom) (perLoom : Bool) : Bool := if perLoom then x.loomEnded else x.commonEnded
def Loom.spaceAsked (x : Loom) (perLoom : Bool) : Option Nat := if perLoom then x.loomAsked else x.commonAsked

/-- The open request of a space ends with segment n. -/
def Loom.setAsked (x : Loom) (perLoom : Bool) (n : Option Nat) : Loom :=
  if perLoom then { x with loomAsked := n } else { x with commonAsked := n }

/-- The loom asks the loader for up to 32 segments of a space. -/
def State.askSegments (s : State) (l : LoomId) (perLoom : Bool) : State :=
  let want := ((s.loom l).lacks perLoom).take 32
  (s.setLoom l ((s.loom l).setAsked perLoom want.getLast?)).emit (.segRequest l perLoom want)

/-- The loom records TOTAL and, with a good CRC, the segment. -/
def Loom.takeSegment (x : Loom) (h : Word512) (payload : Bytes) (now : BitVec 64) : Loom :=
  let total := some (BitVec.ofNat 12 (segTotal h))
  let y := if segPerLoom h then { x with loomTotal := total, lastSeg := now } else { x with commonTotal := total, lastSeg := now }
  if segSection h = 14 then (if segPerLoom h then { y with loomEnded := true } else { y with commonEnded := true })
  else if crc32c payload ≠ segCrc h ∨ SMap.get false (x.spaceSeen (segPerLoom h)) (segSeq h) then y
  else
    let z := y.place (segSection h) (64 * segUnit h) payload
    if segPerLoom h then { z with loomSeen := SMap.set false z.loomSeen (segSeq h) true }
    else { z with commonSeen := SMap.set false z.commonSeen (segSeq h) true }

/-- A segment reaches a loom: one of another load is discarded. The end-of-space segment is answered with a request, and the last of the
segments that a request listed with the next one; the loader resends them in the order of the list. -/
def execSegmentReceive (l : LoomId) (header : Word512) (payload : Bytes) (s : State) : Outcome State Fault Refusal :=
  .next (
    let p := s.loomPart l
    if s.armStep p ≠ 5 ∨ !s.loomExists l then s
    else s.viaBridge l 1 65 (fun s =>
      if segLoad header ≠ (s.part p).arming.loadNo.toNat ∨ !segValid header then s
      else
        let x := s.loom l
        let s1 := s.setLoom l (x.takeSegment header (fitBytes 4096 payload) s.ns)
        if segSection header = 14 ∨ x.spaceAsked (segPerLoom header) = some (segSeq header) then s1.askSegments l (segPerLoom header)
        else s1))

/-- A space for which 20 ms without a segment bring a request: its end-of-space segment is not there, or listed segments that were
resent are missing too (R106; the second case DEDUCED, log 84). -/
def Loom.spaceWaits (x : Loom) (perLoom : Bool) : Bool := !x.spaceEnded perLoom || decide (x.lacks perLoom ≠ [])

/-- 20 ms without a segment: the loom asks for what it lacks (04 R106). -/
def execSegmentTimeout (l : LoomId) (s : State) : Outcome State Fault Refusal :=
  .next (
    let p := s.loomPart l
    let x := s.loom l
    if s.armStep p = 5 ∧ s.loomExists l ∧ (x.spaceWaits false ∨ x.spaceWaits true) then
      let s1 := s.atLeast (x.lastSeg.toNat + 20000000)
      let s2 := s1.setLoom l { x with lastSeg := s1.ns }
      let s3 := if x.spaceWaits false then s2.askSegments l false else s2
      if x.spaceWaits true then s3.askSegments l true else s3
    else s)

/-- The loader sends the end-of-space segment of a space, every 5 ms until the loom's first request. -/
def execEndOfSpaceResend (p : Fin 4) (l : Option LoomId) (s : State) : Outcome State Fault Refusal :=
  .next (
    let a := (s.part p).arming
    let asked := match l with
      | some x => SMap.get false a.requested (loomKey x)
      | none => (s.loomIds p).all (fun x => SMap.get false a.requested (loomKey x))
    if a.step = 5 ∧ !asked then
      (s.emit (.segment p l l.isSome 4096)).modArming p (fun b =>
        { b with eosSince := match b.eosSince with | some t => some t | none => some s.ns })
    else s)

/-- Key of a loom and space in the loader's tables. -/
def spaceKey (l : LoomId) (perLoom : Bool) : Nat := 2 * loomKey l + (if perLoom then 1 else 0)

/-- A loom's request reaches the loader: an empty list reports the space complete; otherwise the segments are resent, for up
to 8 rounds. -/
def execSegmentRequest (l : LoomId) (perLoom : Bool) (missing : List (BitVec 12)) (s : State) : Outcome State Fault Refusal :=
  .next (
    let p := s.loomPart l
    let a := (s.part p).arming
    let k := spaceKey l perLoom
    if a.step ≠ 5 ∨ !s.loomExists l then s
    else s.viaBridge l 0 1 (fun s =>
      let s1 := s.modArming p (fun b => { b with requested := SMap.set false b.requested (loomKey l) true })
      if missing = [] then s1.modArming p (fun b => { b with done := SMap.set false b.done k true })
      else if 8 ≤ SMap.get 0 a.rounds k then s1.armFails p 0x0B (s.loomNo l)
      else
        let s2 := s1.modArming p (fun b => { b with rounds := SMap.set 0 b.rounds k (SMap.get 0 b.rounds k + 1) })
        (missing.take 32).foldl (fun (t : State) n => t.emit (.segment p (some l) perLoom n.toNat)) s2))

/-- The loader knows both spaces of a loom to be complete. -/
def Arming.whole (a : Arming) (l : LoomId) : Bool := SMap.get false a.done (spaceKey l false) && SMap.get false a.done (spaceKey l true)

/-- 100 ms after the first end-of-space segment a loom still lacks a segment. -/
def execBroadcastTimeout (p : Fin 4) (s : State) : Outcome State Fault Refusal :=
  .next (
    let a := (s.part p).arming
    match a.step, a.eosSince, (s.loomIds p).find? (fun l => !a.whole l) with
    | 5, some t, some l => (s.atLeast (t.toNat + 100000000)).armFails p 0x0B (s.loomNo l)
    | _, _, _ => s)

/-! ### Digests (04 R107) -/

/-- The sections of a loom in the image. -/
def Part.loomSections (x : Part) (l : LoomId) : List (Nat × Bytes × Bytes) :=
  match x.image with
  | some i => (i.loomImgs.filter (fun e => e.loom == l)).flatMap (·.sections)
  | none => []

/-- The loom's sections have the digests that the image records. -/
def State.digestsMatch (s : State) (l : LoomId) : Bool :=
  ((s.part (s.loomPart l)).loomSections l).all (fun e => digest256 ((s.loom l).sectionBytes e.1 e.2.1.length) == e.2.2)

/-- Every segment of a space of a loom, by unicast, and its end-of-space segment (4,096). -/
def Loom.allSegments (x : Loom) (p : Nat) (l : LoomId) (perLoom : Bool) : List Out :=
  ((List.range (((x.spaceTotal perLoom).map BitVec.toNat).getD 0)) ++ [4096]).map (Out.segment p (some l) perLoom)

/-- Words that a loom reads for its digests: its sections in the instruction store and in local memory. -/
def State.digestReads (s : State) (l : LoomId) (w : LoomWord) : Bool :=
  ((s.part (s.loomPart l)).loomSections l).any (fun e =>
    match w with
    | .instructionStore i => decide (e.1 = 0) && decide (64 * i.toNat < e.2.1.length)
    | .localMemory h => decide (e.1 = 3) && decide (32 * h.toNat < e.2.1.length)
    | _ => false)

/-- A word that the digests are formed over cannot be corrected: the digests differ (DESIGN CHOICE, log 99). -/
def State.digestLost (s : State) (l : LoomId) (hit : Option LoomHit) : Bool :=
  match hit with
  | some h => decide (h.ecc = .multi) && s.digestReads l h.word
  | none => false

/-- A loom's digests reach the loader: after a mismatch its sections are resent once, after a second the LOAD fails; with
every loom's digests right the kind-0x3 fingerprints follow. The loader waits while its partition's memory is stopped (09
R220). `hit`: what SECDED finds in a word that they are formed over. -/
def execDigestReport (l : LoomId) (hit : Option LoomHit) (s : State) : Outcome State Fault Refusal :=
  .next (
    let p := s.loomPart l
    if s.armStep p ≠ 5 ∨ s.memStopped p ∨ !s.loomExists l ∨ !(s.part p).arming.whole l ∨ (s.loom l).digestOk then s
    else s.viaBridge l 0 1 (fun s =>
      let t := s.found l 0 (s.digestReads l) hit
      let x := t.loom l
      if t.digestsMatch l && !s.digestLost l hit then
        let s1 := t.setLoom l { x with digestOk := true }
        if (s1.loomIds p).all (fun j => (s1.loom j).digestOk) then s1.armFingerprints p else s1
      else if x.digestTries = 0 then
        let s1 := t.setLoom l { x with
          digestTries := 1, commonSeen := [], loomSeen := [], commonEnded := false, loomEnded := false, commonAsked := none, loomAsked := none }
        let s2 := s1.modArming p (fun b =>
          { b with done := SMap.set false (SMap.set false b.done (spaceKey l false) false) (spaceKey l true) false
                   rounds := SMap.set 0 (SMap.set 0 b.rounds (spaceKey l false) 0) (spaceKey l true) 0
                   requested := SMap.set false b.requested (loomKey l) false })
        s2.emits (x.allSegments p l false ++ x.allSegments p l true)
      else t.armFails p 0x0B (t.loomNo l)))

/-- Step 5 begins: a new load number, every loom waits for its segments. -/
def State.startBroadcast (s : State) (p : Nat) : State :=
  let s1 := s.modLooms p (fun x => { x with
    commonSeen := [], loomSeen := [], commonTotal := none, loomTotal := none, commonEnded := false, loomEnded := false
    commonAsked := none, loomAsked := none, lastSeg := s.ns
    digestOk := false, digestTries := 0 })
  s1.modArming p (fun a => { a with
    step := 5, loadNo := a.loadNo + 1, eosSince := none, rounds := [], requested := [], done := [] })

/-- The loader rewrites a loom's sections after a field test (16 R399). -/
def State.restoreSections (s : State) (l : LoomId) : State :=
  ((s.part (s.loomPart l)).loomSections l).foldl (fun (t : State) e => t.setLoom l ((t.loom l).place e.1 0 e.2.1)) s

end Sys2Proof.Machine
end

