-- ==== Sys2Proof/Machine/LoadChecks.lean ====
section
/-! DEFINITION. What the device checks of a manifest at LOAD (12 R285, R291; 09 R201) and of a program image at ARM (05 R122,
R123; 06 R138, R145, R146; 07 R161, R162; 08 R180; 11 R255). -/

namespace Sys2Proof.Machine

open Sys2Proof

/-- Bits [hi:lo] are clear. -/
def clear (x hi lo : Nat) : Bool := decide (field x hi lo = 0)

/-! ### Latency profiles (05 R121 to R123) -/

/-- Value of a subindex of a profile object; an undefined one contributes zero. -/
def profileEntry (ident sub : Nat) : Nat := objDefault ((if ident = 0xB0 then 0x221100 else 0x221000) + sub)

/-- Digest of a profile (R122). -/
def profileDigest (ident : Nat) : Nat :=
  leNat (shake256 (leBytes 2 ident ++ ((List.range' 1 0x2F).map (fun i => leBytes 2 (profileEntry ident i))).flatten) 8)

/-- The device supports the profile: A1 its own, B0 both. -/
def State.supports (s : State) (ident : Nat) : Bool := ident == 0xA1 || (ident == 0xB0 && s.stepping == 0xB0)

def State.profileOk (s : State) (ident digest : Nat) : Bool := s.supports ident && decide (digest = profileDigest ident)

/-! ### The manifest -/

/-- Bytes of the body that the header's fields give (R284). -/
def Part.bodyBytes (x : Part) : Nat := 256 + 96 * x.ranks + 64 * x.ranks * x.paths + 64 * x.services + 64 * x.regions

/-- Stage 1: structure. m is the length M. -/
def Part.manStructure (x : Part) (m : Nat) : Bool :=
  decide (256 ≤ x.manifest.length) && decide (x.man 31 0 = 0x4D46574B) && decide (x.man 47 32 = 1)
    && decide (1 ≤ x.ranks) && decide (x.ranks ≤ 4096) && decide (x.ranks + x.services ≤ 4096)
    && decide (1 ≤ x.paths) && decide (x.paths ≤ 4) && decide (1 ≤ x.regions) && decide (m = x.bodyBytes + 2820)

/-- JC_KEY is authorised by object 0x9020 (R285; 13 R318). -/
def State.keyAuthorised (s : State) (key : Bytes) : Bool :=
  (List.range 4).any (fun i => decide (s.obj (0x902001 + i) ≠ 0) && decide (s.obj (0x902001 + i) = leNat (digest256 key)))

def Part.jcKey (x : Part) : Bytes := leBytes 68 (x.man 1439 896)

/-- Ranks whose entry names this device and partition. -/
def State.ownRanks (s : State) (p : Nat) (x : Part) : List Nat :=
  (List.range x.ranks).filter (fun r =>
    decide (field (x.rankEntry r) 191 128 = s.ident64) && decide (field (x.rankEntry r) 199 192 = p))

/-- Ports assigned to the rank belong to the partition, and its links lie on them (0x07). -/
def State.portsOk (s : State) (p : Nat) (x : Part) : Bool :=
  (List.range 6).all (fun port => !x.portsMask.testBit port || s.portOwner port == p)
    && (List.range x.paths).all (fun l => decide (x.linkOf l < 48) && x.portsMask.testBit (x.linkOf l / 8))

/-! ### The region table (0x08) -/

/-- SPAN and slots of a region entry (09 R201). -/
def State.regionFits (s : State) (p e : Nat) : Bool :=
  (decide (field e 7 4 = 15) || (decide (field e 7 4 ≤ 3) && decide (s.partOfQuad (field e 7 4) = p)))
    && decide (field e 54 32 + field e 86 64 ≤ 4194304)

/-- Two regions share a slot of one pseudo-channel. -/
def State.regionsMeet (s : State) (p e f : Nat) : Bool :=
  (s.spanStacks p e).any (fun k => (s.spanStacks p f).contains k)
    && decide (field e 54 32 < field f 54 32 + field f 86 64) && decide (field f 54 32 < field e 54 32 + field e 86 64)

def State.regionsOk (s : State) (p : Nat) (x : Part) : Bool :=
  let es := (List.range x.regions).map x.regionEntry
  es.all (fun e => s.regionFits p e
      && (decide (field e 3 0 ≠ 4) || decide (field e 223 192 * field e 191 160 ≤ field e 86 64 * s.spanChans p e * 256)))
    && (es.zipIdx).all (fun a => (es.zipIdx).all (fun b => decide (a.2 = b.2) || !s.regionsMeet p a.1 b.1))
    && [5, 6, 7, 8, 9].all (fun k => decide ((x.regionsOf k).length = 1))

/-! ### Remaining fields (stage 3). Reserved fields are ignored (00 R6). -/

def headerOk (x : Part) : Bool :=
  decide (x.man 103 96 ≤ 2) && decide (2 ≤ x.man 111 104) && decide (x.man 111 104 ≤ 16)
    && (x.man 207 192 == 1600 || x.man 207 192 == 2000)

/-- A rank entry: partition, minimum widths, CKPT. -/
def rankOk (x : Part) (r : Nat) : Bool :=
  let e := x.rankEntry r
  decide (field e 199 192 ≤ 3)
    && (decide (x.man 303 256 ≠ 0) || clear e 511 256)
    && (List.range 6).all (fun port =>
      let m := field e (235 + 4 * port) (232 + 4 * port)
      if e.testBit (224 + port) then m == 1 || m == 2 || m == 4 || m == 8 else m == 0)

def linkOk (x : Part) (r l : Nat) : Bool :=
  let e := x.linkEntry r l
  decide (field e 7 0 < 48) && (x.rankEntry r).testBit (224 + field e 7 0 / 8) && decide (field e 31 24 ≤ 128)

def regionFieldsOk (e : Nat) : Bool :=
  let kind := field e 3 0
  decide (kind ≤ 9) && decide (1 ≤ field e 86 64)
    && (if kind = 1 then decide (field e 20 17 ≤ 1) else clear e 20 16 && clear e 139 96)
    && (if kind = 4 then decide (0 < field e 191 160) && decide (field e 191 160 % 256 = 0) && decide (2 ≤ field e 223 192)
          && clear e 223 208
        else clear e 223 160)

/-- Minimum widths do not exceed the nominal width of the port's mode. -/
def State.widthsOk (s : State) (x : Part) : Bool :=
  (List.range 6).all (fun port => decide (x.minLanes port ≤ 8 / 2 ^ s.obj (0x500001 + 256 * port)))

def State.fieldsOk (s : State) (x : Part) : Bool :=
  headerOk x && (List.range x.ranks).all (rankOk x)
    && (List.range x.ranks).all (fun r => (List.range x.paths).all (linkOk x r))
    && (List.range x.regions).all (fun i => regionFieldsOk (x.regionEntry i)) && s.widthsOk x

/-- Stages 2 and 3 of R291 on a manifest placed in `x` with its rank: the first failing code, or none. -/
def State.manifestRefusal (s : State) (p : Nat) (x : Part) (sigs : Bool) : Option Nat :=
  if !sigs then some 0x01
  else if !s.keyAuthorised x.jcKey then some 0x02
  else if (s.ownRanks p x).length ≠ 1 then some 0x03
  else if s.grade < x.man 207 192 then some 0x04
  else if !s.profileOk (x.man 127 112) (x.man 191 128) then some 0x05
  else if x.man 215 208 ≠ s.layout ∨ s.obj 0x900009 = 5 then some 0x06
  else if !s.portsOk p x then some 0x07
  else if !s.regionsOk p x then some 0x08
  else if (s.stacksOf p).any (fun k => (s.stack k).failed) then some 0x09
  else if !s.fieldsOk x then some 0x13
  else none

/-! ### The image's tables -/

/-- Slot records (06 R145, R146). -/
def slotOk (r : SlotRec) : Bool :=
  let c := r.recipe.toNat
  decide (r.kind.toNat ≤ 6) && decide (c ≤ 7) && (c == 6 || r.init.toNat != 0xFF)
    && (if c = 7 then decide (1 ≤ r.fmt.toNat) && decide (r.fmt.toNat ≤ 8) else decide (r.fmt = 0))
    && (if c = 6 then decide (1 ≤ r.n.toNat) && decide (r.n.toNat ≤ 4096) else decide (r.n = 0))

/-- Number of slot i of a byte string of 16-bit entries. -/
def entry16 (b : Bytes) (i : Nat) : Nat := leNat ((b.drop (2 * i)).take 2)

/-- A scale map names slots below T (06 R145). -/
def scaleMapOk (slots : Nat) (b : Bytes) : Bool :=
  (List.range (b.length / 2)).all (fun i => decide (entry16 b i = 0xFFFF) || decide (entry16 b i < slots))

/-- A slot table: no reserved value, output 5 only beside a bridge node, no reserved slot to a stream (08 R180). Two streams cannot reach
the receive buffer in one slot: output 0 has one entry for it. -/
def slotTableOk (cols : Nat) (l : LoomId) (b : Bytes) : Bool :=
  (List.range (b.length / 2)).all (fun i =>
    let e := entry16 b i
    decide (field e 10 8 ≤ 5)
      && (decide (e % 256 = 0xFF)
        || (decide (i % 32 ≠ 31) && (decide (i / 256 < 5) || (decide (l.r.val % 5 = 2) && decide (l.c.val + 1 = cols))))))

/-- Section n of a loom in the image. -/
def imgSection (i : Image) (l : LoomId) (n : Nat) : Bytes :=
  match i.loomImgs.find? (fun e => decide (e.loom = l)) with
  | some e => ((e.sections.find? (fun c => decide (c.1 = n))).map (·.2.1)).getD []
  | none => []

/-- The image's slot tables (08 R177); an absent entry has no owner, as at reset. -/
def imgSlots (i : Image) : SlotTables := fun l o t =>
  let b := imgSection i l 1
  if 2 * (256 * o + t) + 2 ≤ b.length then BitVec.ofNat 16 (entry16 b (256 * o + t)) else noOwner

/-- Streams that the CHAIN descriptors of a loom name for their sums: a final position names none (04 R97). -/
def chainStreams (store : Bytes) : List Nat :=
  ((List.range (store.length / 64)).map (fun j => leNat ((store.drop (64 * j)).take 64))).filterMap (fun d =>
    if field d 7 0 = 0x40 ∧ field d 37 32 ≠ field d 45 40 then some (field d 79 72) else none)

/-- Every stream of a loom's CHAIN descriptors leads to a loom of its quadrant (04 R97). -/
def chainsStay (i : Image) (cols : Nat) (e : LoomImage) : Bool :=
  (chainStreams (imgSection i e.loom 0)).all (fun stream => stream == 255 || streamStays (imgSlots i) cols stream e.loom)

/-- The slot tables of the hub-facing outputs: no stream leaves the partition, no reserved slot goes to a stream (04 R102; 08 R180, R183). -/
def State.bridgesStay (s : State) (p : Nat) (i : Image) : Bool :=
  i.hubDest.all (fun e => decide (s.partOfQuad (e.1.val / 4) = p) && decide (s.partOfQuad (e.2.2.val / 4) = p)
    && decide (e.2.1.toNat % 32 ≠ 31))

/-- The sections of one loom. -/
def State.loomImageOk (s : State) (p : Nat) (i : Image) (e : LoomImage) : Bool :=
  let cols := if i.looms.toNat = 1600 then 20 else 25
  decide (s.partOfQuad e.loom.q = p) && decide (e.loom.c.val < cols)
    && e.sections.all (fun c =>
      if c.1 = 1 then slotTableOk cols e.loom c.2.1 else if c.1 = 2 then scaleMapOk i.slots.length c.2.1 else decide (c.1 ≤ 3))

/-- Values reserved in an update command (07 R162; 06 R149). -/
def cmdReserved (i : Image) (c : Word512) : Bool :=
  let slots := i.slots.length
  decide (3 < uRule c) || decide (1 < uGsrc c)
    || (uLrMant c != 0 && decide (uLrMant c < 0x8000)) || (uLrMant c == 0 && !clear c.toNat 151 144)
    || (uLrRel c && decide (slots ≤ uWslot c))
    || (uWdMant c != 0 && decide (uWdMant c < 0x8000)) || (uWdMant c == 0 && !clear c.toNat 215 208)
    || (uRule c == 0 && uBeta c != 0)
    || (if uCopy c then decide (slots ≤ uCslot c) || uCfmt c == 0 || decide (8 < uCfmt c)
          || ((i.slots[uCslot c]?).map (fun r => decide (r.recipe.toNat = 6))).getD false
        else uCfmt c != 0)
    || (uMslot c != 0xFFFF && decide (slots ≤ uMslot c))
    || decide (uCount c = 0) || decide (uFirst c < uTbase c) || decide (2 ^ 40 < uFirst c + uCount c - uTbase c)

/-- Bytes of n packed elements from the region's start, for a copy. -/
def copyBytes (f n : Nat) : Nat := packedBytes f n

/-- A command's regions and range (07 R161). -/
def State.cmdRegionsOk (s : State) (p : Nat) (c : Word512) : Bool :=
  let x := s.part p
  let r := uRegion c
  let e := x.regionEntry r
  let room := s.regionLen p r / 256 * blockParams (field e 20 17)
  x.hasRegion r && decide (x.regionKind r = 1) && decide (uTensor c < 0xFFFF00)
    && decide (field e 139 96 ≤ uFirst c) && decide (uFirst c + uCount c ≤ field e 139 96 + room)
    && (!uCopy c || (x.hasRegion (uCregion c) && decide (x.regionKind (uCregion c) = 0)
          && decide (copyBytes (uCfmt c) (uFirst c + uCount c - uTbase c) ≤ s.regionLen p (uCregion c))))

/-- The window that a command reads lies stack-aligned with its state region (11 R255). -/
def State.cmdWindowOk (s : State) (p : Nat) (i : Image) (c : Word512) : Bool :=
  if uRule c = 3 then true
  else
    let x := s.part p
    match i.windows.find? (fun w => w.rank.toNat == x.rank && w.region.toNat == uWindow c) with
    | none => false
    | some w =>
      let e := x.regionEntry (uRegion c)
      let same (r : Nat) : Bool :=
        let f := x.regionEntry r
        x.hasRegion r && decide (s.spanStacks p f = s.spanStacks p e) && decide (field f 15 8 = field e 15 8)
          && decide (field f 86 64 = field e 86 64)
      decide (w.role ≠ 1) && decide (w.base.toNat = field e 139 96) && decide ((if w.layout then 1 else 0) = field e 20 17)
        && same w.region.toNat && (decide (w.region2.toNat = 0xFF) || same w.region2.toNat)

/-- The ranges of two commands of a list overlap. -/
def rangesMeet (c d : Word512) : Bool :=
  decide (uFirst c < uFirst d + uCount d) && decide (uFirst d < uFirst c + uCount c)

def noneMeet : List Word512 → Bool
  | [] => true
  | c :: t => t.all (fun d => !rangesMeet c d) && noneMeet t

/-- The update table and every list of it (07 R161). -/
def State.updatesOk (s : State) (p : Nat) (i : Image) : Bool :=
  if i.updTable = [] then decide (i.updBase = 0) && decide (i.updLast = 0)
  else
    i.updTable.all (fun e =>
        let l := (i.updCmds.drop (field e.toNat 31 0)).take (field e.toNat 47 32)
        decide (field e.toNat 31 0 + field e.toNat 47 32 ≤ i.updCmds.length)
          && l.all (fun c => !cmdReserved i c && s.cmdRegionsOk p c && s.cmdWindowOk p i c) && noneMeet l)

/-- A window entry: no reserved value, a ROLE and an ETYPE that go together (11 R255, R260). -/
def windowEntryOk (w : WindowEnt) : Bool :=
  let role := w.role.toNat
  let et := w.etype.toNat
  (if role = 2 then et == 2 else decide (role < 2) && decide (et < 2))
    && (role == 0 || !w.results) && decide (1 ≤ w.count.toNat) && decide (1 ≤ w.n.toNat) && decide (w.n.toNat ≤ 4096)
    && decide (w.members.length = w.n.toNat) && decide (w.members.Nodup)
    && (if et = 0 ∧ w.layout then w.region2.toNat != 0xFF else w.region2.toNat == 0xFF)
    && (role != 0 || (decide (w.peer = 0) && (w.results || decide (w.pwindow = 0))))

/-- The window table is one the loader accepts (11 R255, R256). DEDUCED (log 15): a window number that a rank lists twice and a
SLOT at or above T break the entry's definition. -/
def windowsOk (i : Image) : Bool :=
  i.windows.all (fun w => windowEntryOk w && decide (w.slot.toNat < i.slots.length))
    && decide ((i.windows.map (fun w => (w.rank, w.window))).Nodup)

/-- Steps 1 and 2 of ARM find no fault in the image (12 R292). DEDUCED (log 13): the image follows its 8-byte length. -/
def State.imageOk (s : State) (p : Nat) (i : Image) : Bool :=
  let x := s.part p
  let r := x.theRegion 8
  let n := s.readNat p r 0 8
  decide (8 + n ≤ s.regionLen p r) && decide (leNat (digest256 (s.readRegion p r 8 n)) = x.man 575 320)
    && s.profileOk i.profile.toNat i.profileDigest.toNat
    && (i.looms.toNat == 1600 || i.looms.toNat == 2000) && decide (i.looms.toNat ≤ s.grade)
    && s.bridgesStay p i && i.loomImgs.all (fun e => s.loomImageOk p i e && chainsStay i (if i.looms.toNat = 1600 then 20 else 25) e)
    && decide (1 ≤ i.slots.length) && decide (i.slots.length ≤ 65536) && i.slots.all slotOk
    && s.updatesOk p i && windowsOk i
    && decide (1024 * i.slots.length ≤ s.regionLen p (x.theRegion 5))

end Sys2Proof.Machine
end

