-- ==== Sys2Proof/Machine/Keys.lean ====
section
/-! DEFINITION. The security block: signatures and leaves (13 R313, R314), attestation reports (R315), the control channel's
exchange (R318, R319), the keys of a job (R320 to R324). -/

namespace Sys2Proof.Machine

open Sys2Proof Host

/-! ### Reports (R315) -/

/-- Digest over the authorised keys: 0x9020:01 to 04, then 0x6021:01 to 04. -/
def State.authz (s : State) : Bytes :=
  digest256 (((List.range 4).map (fun i => leBytes 32 (s.obj (0x902001 + i)))).flatten
    ++ ((List.range 4).map (fun i => leBytes 32 (s.obj (0x602101 + i)))).flatten)

/-- The version of the firmware that runs. -/
def State.runningVersion (s : State) : Nat := (s.flash.slotOf s.sec.bootedB).version.toNat

def slotDigest (x : FwSlot) : Nat := if x.valid then x.digest.toNat else 0

/-- FLAGS: image B, seal matches, JTAG unlocked since power-on. -/
def State.reportFlags (s : State) : Nat :=
  (if s.sec.bootedB then 1 else 0) + (if s.obj 0x121003 = 1 then 2 else 0) + (if s.sec.jtagSeen then 4 else 0)

/-- The 352-byte body; part 0xFF for none. -/
def State.reportBody (s : State) (purpose part ekBytes nonce : Nat) : Bytes :=
  let loaded := decide (part < 4) && s.jobLoaded part
  let x := s.part part
  leBytes 352 (0x4146574B + 1 * 2 ^ 32 + purpose * 2 ^ 48 + part * 2 ^ 56
    + (if loaded then x.rank * 2 ^ 64 + (x.peer x.rank).epoch.toNat * 2 ^ 80 else 0)
    + s.stepping * 2 ^ 96 + s.reportFlags * 2 ^ 104 + s.grade * 2 ^ 112 + s.obj 0x121002 * 2 ^ 128 + s.runningVersion * 2 ^ 160
    + ekBytes * 2 ^ 192 + (if part < 4 then s.obj (0x903001 + 256 * part) % 2 ^ 48 * 2 ^ 208 else 0)
    + slotDigest s.flash.slotA * 2 ^ 256 + slotDigest s.flash.slotB * 2 ^ 512
    + leNat (digest256 (leBytes 512 s.flash.record.toNat)) * 2 ^ 768
    + (if loaded then leNat x.digest * 2 ^ 1024 else 0) + (if part < 4 then s.obj (0x903002 + 256 * part) * 2 ^ 1280 else 0)
    + nonce * 2 ^ 1536 + leNat s.authz * 2 ^ 1792 + leNat s.idPub * 2 ^ 2048)

/-! ### Key-exchange messages (R317) -/

/-- The amendment held for a rank. -/
def Part.heldFor (x : Part) (r : Nat) : Option Amend := x.amends.find? (fun a => a.rank == r)

/-- Where the messages of an exchange go: the party's address, the new holder's for a held amendment. -/
def Part.keyAddr (x : Part) (k : Nat) : BitVec 128 :=
  match (if k < 0x10000 then none else x.heldFor (k % 0x10000)) with
  | some a => BitVec.ofNat 128 a.addr
  | none => x.partyAddr (k % 0x10000)

/-- Send to a party of the job, by its key of the exchange, on link index 0 (R320). -/
def State.sendJob (s : State) (p k type reason : Nat) (body : Bytes) : State :=
  let x := s.part p
  s.sendKeyx p (x.linkOf 0) (x.linkVid (x.linkOf 0)) (k % 0x10000) (x.keyAddr k)
    (s.keyxHeader p type 1 x.rank (k % 0x10000) reason body.length) body

/-- A received header with a reserved TYPE or CHANNEL. -/
def keyxReserved (h : KeyxHdr) : Bool := decide (h.type = 0) || decide (6 < h.type.toNat) || decide (1 < h.channel.toNat)

/-- The fragments of a datagram with a body of n bytes arrive (17 R412). -/
def State.keyxArrives (s : State) (p : Fin 4) (h : KeyxHdr) (n : Nat) (cmd : Instr) (run : State → State) : State :=
  s.arrives p h.frame (keyxFrames (32 + n)) cmd run

/-- A datagram reassembled from at most 8,192 bytes reaches firmware; `true` when its header is that of the message: type, channel,
sender, target, job, and the body's length. A reserved header is dropped and counted (10 R225). -/
def State.rxKeyx (s : State) (p : Nat) (h : KeyxHdr) (type channel target job len : Nat) : State × Bool :=
  if !s.fwUp || decide (s.partCount ≤ p) then (s, false)
  else if keyxReserved h then (s.rxDrop h.frame.k.val, false)
  else (s, h.type == BitVec.ofNat 8 type && h.channel == BitVec.ofNat 8 channel && h.target == BitVec.ofNat 16 target
    && h.job == BitVec.ofNat 32 job && decide (h.len.toNat = len) && decide (32 + len ≤ 8192))

/-- A message of the job controller on the control channel. -/
def State.rxChannel (s : State) (n : Nat) (h : KeyxHdr) (type len : Nat) : State × Bool :=
  let r := s.rxKeyx n h type 0 (0xFF00 + n) 0 len
  (r.1, r.2 && h.sender == 0xFFFF && h.frame.k.val == s.obj (0x901001 + 256 * n))

/-- A message of a party of the job. -/
def State.rxParty (s : State) (p : Nat) (h : KeyxHdr) (type len : Nat) : State × Bool := s.rxKeyx p h type 1 (s.part p).rank (s.jobField p) len

/-! ### The control channel (12 R288; R318, R319) -/

/-- A STARTING channel of a READY device calls: at once on entry, then once per second. -/
def execCall (n : Fin 4) (s : State) : Outcome State Fault Refusal :=
  .next (if s.calls n then
    let last := (s.part n).lastCall.toNat
    (if last = 0 then s else s.atLeast (last + 1000000000)).sendCall n
  else s)

/-- Requests of the last 24 hours, and the last one 60 s past (R319). -/
def underBudget (now : BitVec 64) (times : List (BitVec 64)) : Bool :=
  let day := times.filter (fun t => decide (now.toNat < t.toNat + 86400000000000))
  decide (day.length < 24) && times.all (fun t => decide (t.toNat + 60000000000 ≤ now.toNat))

/-- An INIT that its header lets through: the key is checked, a key pair is made, a card is to be signed; one that arrives while the
channel is ON starts a new exchange within the budget. -/
def State.initTaken (s : State) (n : Fin 4) (nonce : BitVec 256) (pub : Bytes) (spi : BitVec 32) : State :=
  let on := decide (s.chanState n = 2)
  if !s.ready || !(on || decide (s.chanState n = 1)) then s
  else if !s.keyAuthorised (fitBytes 68 pub) then s.sendControl n 6 1 []
  else if on && !underBudget s.ns (s.part n).cardTimes then s.sendControl n 6 4 []
  else
    let (ek, dk) := Config.kemKeygen s.fresh
    let s1 := { s with
      fresh := s.fresh + 1
      sec := { s.sec with queue := s.sec.queue ++ [(SignReq.chanCard n, leBytes 32 nonce.toNat)] } }
    s1.modPart n (fun y => { y with
      chanInit := leBytes 32 nonce.toNat ++ fitBytes 68 pub, chanEk := fitBytes 1568 ek, chanDk := dk, chanCard := [], chanSpi := spi
      cardTimes := if on then s.ns :: y.cardTimes.take 23 else y.cardTimes })

def State.rxInit (s : State) (n : Fin 4) (h : KeyxHdr) (nonce : BitVec 256) (pub : Bytes) : State :=
  let r := s.rxChannel n h 2 (32 + pub.length)
  if r.2 then r.1.initTaken n nonce pub h.spi else r.1

def execInit (n : Fin 4) (h : KeyxHdr) (nonce : BitVec 256) (pub : Bytes) (s : State) : Outcome State Fault Refusal :=
  .next (s.keyxArrives n h (32 + pub.length) (.init n h nonce pub) (fun t => t.rxInit n h nonce pub))

/-- A FINISH that its header lets through: its signature is verified, the ciphertext gives the channel's key, its association is
installed, and the channel goes ON. -/
def State.finishTaken (s : State) (n : Fin 4) (ct : Bytes) (sigOk : Bool) : State :=
  let x := s.part n
  if x.chanCard = [] ∨ !(s.chanState n = 1 ∨ s.chanState n = 2) then s
  else if !sigOk then s.sendControl n 6 2 []
  else
    let d := digest256 (x.chanInit ++ x.chanCard ++ ct)
    let k := shake256 (ascii "KWFX" ++ Config.kemDecaps x.chanDk ct ++ d) 32
    let s1 := s.modPart n (fun y =>
      { y.installSa k (0xFF00 + n) 0xFFFF 0 0x4000 x.chanSpi with
        chanKey := k, chanInit := [], chanCard := [], chanEk := [], chanDk := [] })
    s1.setObj (0x901009 + 256 * n) 2

def State.rxFinish (s : State) (n : Fin 4) (h : KeyxHdr) (ct : Bytes) (sigOk : Bool) : State :=
  let r := s.rxChannel n h 4 (ct.length + 2820)
  if r.2 then r.1.finishTaken n ct sigOk else r.1

def execFinish (n : Fin 4) (h : KeyxHdr) (ct : Bytes) (sigOk : Bool) (s : State) : Outcome State Fault Refusal :=
  .next (s.keyxArrives n h (ct.length + 2820) (.finish n h ct sigOk) (fun t => t.rxFinish n h ct sigOk))

/-- After a partition reset firmware recreates the control queue pair; the channel is STARTING until its new association
is installed (12 R288). -/
def execControlChannelRecreate (n : Fin 4) (s : State) : Outcome State Fault Refusal :=
  .next (if s.fwUp && decide (s.chanState n = 1) && !((s.part n).qp 0x4000).live && decide (n.val < s.partCount) then
    s.newControlQp n else s)

/-- The channel's key, associations and exchange are erased when it leaves ON (R324). -/
def State.eraseChannel (s : State) (n : Nat) : State :=
  { s with sec := { s.sec with queue := s.sec.queue.filter (fun e => match e.1 with | .chanCard m => m.val != n | _ => true) } }.modPart n
    (fun x => { x with chanKey := [], chanInit := [], chanCard := [], chanEk := [], chanDk := [], lastCall := 0
                       sas := SMap.drop (fun a => decide (0x8000 ≤ a)) x.sas })

/-! ### Peers and services (R320 to R322) -/

/-- ARM step 4: a fresh key pair, one card to be signed. -/
def State.startKeys (s : State) (p : Nat) : State :=
  let (ek, dk) := Config.kemKeygen s.fresh
  let s1 := { s with
    fresh := s.fresh + 1
    sec := { s.sec with queue := s.sec.queue ++ [(SignReq.peerCard (Fin.ofNat 4 p), [])] } }
  s1.modPart p (fun x => { x with
    ownEk := fitBytes 1568 ek, ownDk := dk, ownCard := [], pairs := [], pairKeys := [], sas := SMap.drop (fun a => decide (a < 0x8000)) x.sas
    arming := { x.arming with step := 4, since := s.ns } })

/-- The ARM of the loaded job has reached step 4 or later. -/
def State.keysOpen (s : State) (p : Nat) : Bool :=
  s.jobLoaded p && decide (4 ≤ s.armStep p) && decide (s.armStep p ≤ 7)

def Part.pair (x : Part) (k : Nat) : Pair := SMap.get Pair.init x.pairs k
def Part.setPair (x : Part) (k : Nat) (v : Pair) : Part := { x with pairs := SMap.set Pair.init x.pairs k v }

/-- The pair's secret, when it is complete, and with it the associations with the party (R321); those with the new holder of a held
amendment wait for its boundary (R323). -/
def Part.installPair (x : Part) (k : Nat) : Part :=
  let v := x.pair k
  let party := k % 0x10000
  if v.sent && v.got then
    let key := if x.rank < party then pairKey v.ssOut v.ssIn x.ownCard v.card else pairKey v.ssIn v.ssOut v.card x.ownCard
    let y := { x with pairKeys := SMap.set [] x.pairKeys k key }
    if k < 0x10000 then y.installParty key k else y
  else x

/-- The roll call of an amendment that waited for the association with its new holder (10 R244). -/
def State.rollDue (s : State) (p : Nat) : State :=
  match (s.part p).rollOwed.find? (fun r => (s.part p).hasKey r) with
  | some r =>
    if s.jobState p = 5 ∨ s.jobState p = 6 then (s.modPart p (fun x => { x with rollOwed := x.rollOwed.erase r })).nextRoll p else s
  | none => s

/-- Step 4 ends when every pair is complete (R322): the broadcast begins. Later the roll call begins that waited for a pair. -/
def State.keysDone (s : State) (p : Nat) : State :=
  if s.armStep p = 4 ∧ (s.part p).others.all (fun q => (s.part p).hasKey q) then s.startBroadcast p else s.rollDue p

/-- What a card says of a party: `none` when it is right, else the reason of its REJECT. -/
def State.cardCheck (s : State) (p party : Nat) (b : Nat) (sigOk : Bool) (ident epoch : Nat) : Option Nat :=
  let x := s.part p
  let pub := leBytes 68 (field b 2591 2048)
  let man := decide (field b 1279 1024 = leNat x.digest)
  if !sigOk then some 2
  else if party < x.ranks then
    (if decide (leNat ((digest256 pub).take 8) = ident) && man && decide (field b 79 64 = party) && decide (field b 95 80 = epoch)
      then none else some 3)
  else if decide (leNat (digest256 pub) = field (x.svcEntry (party - x.ranks)) 511 256) && man then none else some 3

/-- Key of the exchange that a card of a party belongs to: the entry's holder, or the new holder of a held amendment. -/
def State.cardFor (s : State) (p party : Nat) (b : Nat) (sigOk : Bool) : Except Nat Nat :=
  let x := s.part p
  match s.cardCheck p party b sigOk (x.peer party).ident.toNat (x.peer party).epoch.toNat with
  | none => .ok party
  | some r =>
    match x.heldFor party with
    | none => .error r
    | some a =>
      match s.cardCheck p party b sigOk a.ident a.epoch with
      | none => .ok (heldParty party)
      | some r2 => .error r2

/-- A card that its header lets through: on the first valid one the device encapsulates to its key; a repeat gets the same ciphertext;
another card of a party already answered changes nothing. -/
def State.cardTaken (s : State) (p : Fin 4) (n : Nat) (body : Bytes) (sigOk : Bool) : State :=
  let x := s.part p
  if !s.keysOpen p || decide (x.parties ≤ n) || n == x.rank || decide (body.length ≠ 4740) then s
  else
    match s.cardFor p n (leNat (body.take 352)) sigOk with
    | .error r => s.sendJob p n 6 r []
    | .ok k =>
      let v := x.pair k
      if v.sent then (if v.card = body then s.sendJob p k 5 0 v.ctSent else s)
      else
        let (ct, ss) := Config.kemEncaps ((body.drop 352).take 1568) s.fresh
        let s1 := { s with fresh := s.fresh + 1 }.modPart p (fun y =>
          (y.setPair k { v with card := body, ctSent := fitBytes 1568 ct, ssOut := fitBytes 32 ss, sent := true }).installPair k)
        (s1.sendJob p k 5 0 (fitBytes 1568 ct)).keysDone p

def State.rxCard (s : State) (p : Fin 4) (h : KeyxHdr) (body : Bytes) (sigOk : Bool) : State :=
  let r := s.rxParty p h 3 body.length
  if r.2 then r.1.cardTaken p h.sender.toNat body sigOk else r.1

def execCard (p : Fin 4) (h : KeyxHdr) (body : Bytes) (sigOk : Bool) (s : State) : Outcome State Fault Refusal :=
  .next (s.keyxArrives p h body.length (.card p h body sigOk) (fun t => t.rxCard p h body sigOk))

/-- A ciphertext of a party to this device's key, that its header lets through. -/
def State.cipherTaken (s : State) (p : Fin 4) (n : Nat) (ct : Bytes) : State :=
  let x := s.part p
  let k := if (x.pair n).got && (x.heldFor n).isSome then heldParty n else n
  if !s.keysOpen p || decide (x.parties ≤ n) || n == x.rank || x.ownCard == [] || decide (ct.length ≠ 1568) || (x.pair k).got then s
  else
    (s.modPart p (fun y =>
      (y.setPair k { y.pair k with ssIn := fitBytes 32 (Config.kemDecaps y.ownDk ct), got := true }).installPair k)).keysDone p

def State.rxCipher (s : State) (p : Fin 4) (h : KeyxHdr) (ct : Bytes) : State :=
  let r := s.rxParty p h 5 ct.length
  if r.2 then r.1.cipherTaken p h.sender.toNat ct else r.1

def execCipher (p : Fin 4) (h : KeyxHdr) (ct : Bytes) (s : State) : Outcome State Fault Refusal :=
  .next (s.keyxArrives p h ct.length (.cipher p h ct) (fun t => t.rxCipher p h ct))

/-- Exchanges still without the party's ciphertext, by their keys. -/
def Part.owedCards (x : Part) : List Nat :=
  x.others.filter (fun q => !(x.pair q).got)
    ++ (x.amends.filter (fun a => !(x.pair (heldParty a.rank)).got)).map (fun a => heldParty a.rank)

/-- Send the card to every party that has not answered it; cards stop in an eclipse (17 R417). -/
def State.sendCards (s : State) (p : Nat) : State :=
  if (s.part p).ownCard = [] ∨ s.hubStopped p then s
  else (s.part p).owedCards.foldl (fun (t : State) q => t.sendJob p q 3 0 (s.part p).ownCard) s

def execCardResend (p : Fin 4) (s : State) : Outcome State Fault Refusal :=
  .next (if s.keysOpen p then s.sendCards p else s)

/-- Step 4 has lasted ROLL_TIMEOUT_MS: status 0x12 with the lowest party whose pair is incomplete. -/
def execKeyExchangeTimeout (p : Fin 4) (s : State) : Outcome State Fault Refusal :=
  .next (
    let x := s.part p
    match s.armStep p, x.others.find? (fun q => !x.hasKey q) with
    | 4, some q => (s.atLeast (x.arming.since.toNat + s.live 0x510004 * 1000000)).armFails p 0x12 q
    | _, _ => s)

/-! ### Signatures (R313, R314) -/

/-- Up to three attempts to reserve sixteen leaves; `true` when leaves are at hand. An outcome that is not given counts as
a success. -/
def State.reserveLeaves (s : State) : Nat → List Bool → State × Bool
  | 0, _ => (s, false)
  | n + 1, l =>
    if 2 ^ 20 ≤ s.sec.endLeaf.toNat ∨ s.sec.slot.toNat = 65536 then (s, false)
    else
      let ok := l.headD true
      let s1 := s.programLeaves ok
      if ok then (s1, true) else s1.reserveLeaves n (l.drop 1)

/-- The leaf that the next signature takes, and the state after its reservation; none when the block refuses. -/
def State.takeLeaf (s : State) (programmed : List Bool) : State × Option Nat :=
  let r := if s.sec.nxt = s.sec.endLeaf then s.reserveLeaves 3 programmed else (s, true)
  if r.2 then
    let i := r.1.sec.nxt
    ({ r.1 with sec := { r.1.sec with nxt := i + 1, signed := i :: r.1.sec.signed } }.bump 0x600504 1, some i.toNat)
  else (r.1, none)

/-- Leaves left. -/
def State.leavesLeft (s : State) : Nat := 2 ^ 20 - s.sec.nxt.toNat

/-- LOW_LEAVES is crossed: an identity event, once. -/
def State.lowLeaves (s : State) : State :=
  if !s.sec.lowRaised && decide (s.leavesLeft < s.live 0x600505) then
    { s.raiseDevice 0x0702 3 ucSecurity 0 (s.obj 0x600506 + s.leavesLeft * 2 ^ 32) with
      sec := { s.sec with lowRaised := true } }
  else s

/-- The run record's signature, or its refusal, is placed, or waits while the memory that it goes to is stopped (09 R220). -/
def State.finishRun (s : State) (p : Fin 4) (record : Option Bytes) : State :=
  if s.memStopped p.val then { s with sec := { s.sec with runs := s.sec.runs ++ [(p, record)] } } else s.placeRunRecord p.val record

/-- The oldest run record that waited and whose memory takes it now. -/
def State.runReady (s : State) : Option (Fin 4 × Option Bytes) := s.sec.runs.find? (fun e => !s.memStopped e.1.val)

/-- A run record that waited is placed. -/
def State.placeWaiting (s : State) (e : Fin 4 × Option Bytes) : State :=
  ({ s with sec := { s.sec with runs := s.sec.runs.erase e } } : State).placeRunRecord e.1.val e.2

/-- What a finished signature becomes. -/
def State.deliver (s : State) (r : SignReq) (b : Bytes) (leaf : Nat) : State :=
  let sign (m : Bytes) : Bytes := m ++ fitBytes 2820 (Config.xmssSign s.flash.identity.bytes leaf m)
  match r with
  | .report part => (s.setObj 0x601003 (leNat (sign (s.reportBody 1 part.toNat 0 (leNat b))))).setObj 0x601004 0
  | .chanCard n =>
    let card := sign (s.reportBody 2 n.val 1568 (leNat b) ++ (s.part n.val).chanEk)
    (s.modPart n.val (fun x => { x with chanCard := card })).sendControl n.val 3 0 card
  | .peerCard p =>
    let card := sign (s.reportBody 3 p.val 1568 0 ++ (s.part p.val).ownEk)
    ((s.modPart p.val (fun x => { x with ownCard := card })).sendCards p.val).keysDone p.val
  | .runRecord p _ => s.finishRun p (some (sign b))

/-- What a refused signature becomes. -/
def State.refuseSignature (s : State) (r : SignReq) : State :=
  match r with
  | .report _ => s.setObj 0x601004 3
  | .chanCard n => s.sendControl n.val 6 5 []
  | .peerCard _ => s
  | .runRecord p _ => s.finishRun p none

/-- The oldest request is signed (R314), after a record has been programmed where the leaves are used up; a block that refuses sets
ID_STATE and raises an identity event. With ID_STATE 0x01 nothing is signed (R311). -/
def execSignatureComplete (programmed : List Bool) (s : State) : Outcome State Fault Refusal :=
  .next (s.ifRuns (match s.sec.queue with
    | [] => s
    | (r, b) :: rest =>
      let s0 : State := { s with sec := { s.sec with queue := rest } }
      if s0.obj 0x600506 = 1 then s0.refuseSignature r
      else
        match s0.takeLeaf programmed with
        | (s1, some i) => (s1.deliver r b i).lowLeaves
        | (s1, none) =>
          let s2 := (s1.setObj 0x600506 2).raiseDevice 0x0702 3 ucSecurity 0 (2 + s1.leavesLeft * 2 ^ 32)
          s2.refuseSignature r))

end Sys2Proof.Machine
end

