-- ==== Sys2Proof/Machine/Jtag.lean ====
section
/-! DEFINITION. Firmware images (13 R308) and the JTAG port (13 R329, R330; 18 R421, R428). -/

namespace Sys2Proof.Machine

open Sys2Proof Host

/-! ### Firmware images (13 R308) -/

/-- Bytes before the payload: header 512, certificate 2,892, signature 2,820. -/
def fwPayloadAt : Nat := 6224

/-- The slot that an image's bytes make: valid when its header, digest, certificate (USAGE 0x01, R305) and signature are. -/
def fwSlotOf (img : Bytes) (v : FwVerdict) : FwSlot :=
  let h := leNat (img.take 512)
  let len := field h 127 96
  let payload := (img.drop fwPayloadAt).take len
  let ok := decide (field h 31 0 = 0x4646574B) && decide (field h 47 32 = 1) && decide (len + fwPayloadAt ≤ 16777216)
    && decide (payload.length = len) && decide (leNat (digest256 payload) = field h 383 128)
    && decide ((img.drop 512).head? = some 1) && v.certOk && v.sigOk
  { valid := ok, version := BitVec.ofNat 32 (field h 95 64), digest := BitVec.ofNat 256 (field h 383 128)
    bytes := (img.zipIdx).foldl (fun m e => SMap.set 0 m e.2 e.1.toNat) [] }

/-! ### The port -/

/-- An instruction is selected and its data register read. -/
def State.jtag (s : State) (ir : BitVec 8) (dr : Nat) : State :=
  { s with sec := { s.sec with jtagIr := ir } }.emit (.jtag ir dr)

/-- A data register whose contents the spec leaves open: boundary scan, debug and state scan. -/
def State.jtagFree (s : State) (ir : BitVec 8) : State := { s with fresh := s.fresh + 1 }.jtag ir (Config.free s.fresh)

/-- BYPASS, by its code or by one that is reserved and behaves so. -/
def execBypass (ir : BitVec 8) (s : State) : Outcome State Fault Refusal := .next (s.ifPowered (s.jtag ir 0))

/-- The identification code: version of the stepping, the order code's number as PART, manufacturer 0x2A7, 1 (18 R428). It
reads zero while the record does not verify, as 0x1000:0E does. -/
def State.idcode (s : State) : Nat :=
  if s.recordOk then
    (if s.stepping = 0xB0 then 2 else 1) * 2 ^ 28 + (if s.grade = 1600 then 0x1600 else 0x2000) * 2 ^ 12 + 0x2A7 * 2 + 1
  else 0

def execIdcode (s : State) : Outcome State Fault Refusal := .next (s.ifPowered (s.jtag 0x01 s.idcode))
def execSamplePreload (s : State) : Outcome State Fault Refusal := .next (s.ifPowered (s.jtagFree 0x02))
def execExtest (s : State) : Outcome State Fault Refusal := .next (s.ifPowered (s.jtagFree 0x03))
def execClamp (s : State) : Outcome State Fault Refusal := .next (s.ifPowered (s.jtag 0x04 0))
def execHighz (s : State) : Outcome State Fault Refusal := .next (s.ifPowered (s.jtag 0x05 0))

/-- The nonce of this power-on. -/
def execKwfChallenge (s : State) : Outcome State Fault Refusal := .next (s.ifPowered (s.jtag 0x20 s.sec.jtagNonce.toNat))

/-- The certificate of a token is accepted (R330). -/
def State.tokenCertOk (s : State) (c : Cert) : Bool :=
  (decide (c.usage = 3) && c.rootSigOk)
    || (decide (c.usage = 4) && c.rootSigZero
        && (List.range 4).any (fun i => decide (s.obj (0x602101 + i) ≠ 0) && decide (s.obj (0x602101 + i) = leNat (digest256 (fitBytes 68 c.key)))))

/-- The token names this device and this power-on, its signature and certificate hold, every partition is EMPTY. -/
def State.tokenOk (s : State) (t : BitVec 1024) (c : Cert) (sigOk : Bool) : Bool :=
  let f := field t.toNat
  decide (f 31 0 = 0x5546574B) && decide (f 47 32 = 1) && decide (f 319 64 = leNat s.identDigest) && decide (f 575 320 = s.sec.jtagNonce.toNat) && sigOk && s.tokenCertOk c
    && !s.anyJob

def execKwfUnlock (token : BitVec 1024) (cert : Cert) (sigOk : Bool) (s : State) : Outcome State Fault Refusal :=
  .next (s.ifPowered (
    let s1 := s.jtag 0x21 0
    if s.tokenOk token cert sigOk then
      { s1 with sec := { s1.sec with jtagScope := BitVec.ofNat 8 (field token.toNat 50 48), jtagSeen := true } }
    else s1))

def execKwfLock (s : State) : Outcome State Fault Refusal :=
  .next (s.ifPowered (
    let s1 := s.jtag 0x22 0
    { s1 with sec := { s1.sec with jtagScope := 0 } }))

/-- An image into slot A, while the ROM holds no valid image; the ROM then boots what it accepts (DEDUCED, log 43). -/
def execKwfRecover (image : Bytes) (v : FwVerdict) (s : State) : Outcome State Fault Refusal :=
  .next (s.ifPowered (
    let s1 := s.jtag 0x23 0
    if s.romHold then
      let s2 := { s1 with romHold := false, flash := { s1.flash with slotA := fwSlotOf image v } }.bootRom
      if s2.romHold then s2 else s2.bootFirmware
    else s1))

/-- Instructions 0x40 to 0x7F: BYPASS while locked. -/
def execStewardDebug (code : BitVec 6) (s : State) : Outcome State Fault Refusal :=
  .next (s.ifPowered (
    let ir := BitVec.ofNat 8 (0x40 + code.toNat)
    if s.sec.jtagScope = 0 then s.jtag ir 0 else s.jtagFree ir))

/-- The test logic is held in reset; IEEE 1149.1 selects IDCODE then (PRESUMED, log 7). -/
def execTestLogicReset (s : State) : Outcome State Fault Refusal :=
  .next (s.ifPowered { s with sec := { s.sec with jtagIr := 0x01 } })

end Sys2Proof.Machine
end

