-- ==== Sys2Proof/Machine/Tally.lean ====
section
/-! DEFINITION. Chunks (11 R258), their posting to a rank (R249, R259), the tally engines (R262 to R266; 16 R386), contributions of
the class-0x06 loops (05 R133). -/

namespace Sys2Proof.Machine

open Sys2Proof Host

/-! ### The chunk header (R258) -/

structure ChunkHdr where
  type    : Nat
  etype   : Nat
  attempt : Nat
  window  : Nat
  step    : Nat
  job     : Nat
  sender  : Nat
  chunk   : Nat
  elems   : Nat
  x       : Nat
  count   : Nat
  tokens  : Nat
  nonfin  : Nat
  max     : Nat
  skip    : Bool
  slot    : Nat
  deriving DecidableEq, Repr

def chunkOf (h : Word512) : ChunkHdr :=
  let f := field h.toNat
  { type := f 511 508, etype := f 507 504, attempt := f 503 496, window := f 495 480, step := f 479 432, job := f 431 400
    sender := f 399 384, chunk := f 383 352, elems := f 351 336, x := f 335 328, count := f 327 312, tokens := f 311 248
    nonfin := f 247 208, max := f 207 176, skip := h.toNat.testBit 168, slot := f 167 152 }

def chunkBits (h : ChunkHdr) : Nat :=
  h.type * 2 ^ 508 + h.etype * 2 ^ 504 + h.attempt % 256 * 2 ^ 496 + h.window % 2 ^ 16 * 2 ^ 480 + h.step % 2 ^ 48 * 2 ^ 432
    + h.job % 2 ^ 32 * 2 ^ 400 + h.sender % 2 ^ 16 * 2 ^ 384 + h.chunk % 2 ^ 32 * 2 ^ 352 + h.elems % 2 ^ 16 * 2 ^ 336
    + h.x % 256 * 2 ^ 328 + h.count % 2 ^ 16 * 2 ^ 312 + h.tokens % 2 ^ 64 * 2 ^ 248 + h.nonfin % 2 ^ 40 * 2 ^ 208
    + h.max % 2 ^ 32 * 2 ^ 176 + (if h.skip then 2 ^ 168 else 0) + h.slot % 2 ^ 16 * 2 ^ 152

/-! ### Elements of a chunk -/

/-- Bits of an element by the header's ETYPE: T32, vote codes, vote counts, result codes. -/
def chunkWidth (etype : Nat) : Nat := if etype = 0 then 32 else if etype = 2 then 16 else 2

/-- Bytes of n elements. -/
def chunkBytes (etype n : Nat) : Nat := ceilDiv (n * chunkWidth etype) 8

/-- Element i of a chunk. -/
def chunkElem (etype : Nat) (b : Bytes) (i : Nat) : Nat :=
  let w := chunkWidth etype
  leNat ((b.drop (i * w / 8)).take (ceilDiv w 8)) / 2 ^ (i * w % 8) % 2 ^ w

/-- Elements packed without gaps. -/
def packChunk (etype : Nat) (l : List Nat) : Bytes :=
  let w := chunkWidth etype
  leBytes (chunkBytes etype l.length) (l.foldr (fun e a => e % 2 ^ w + 2 ^ w * a) 0)

/-! ### Posting (R249, R259, R262) -/

/-- Home engine of chunk c: the port, among those the partition owns. -/
def State.homeEngine (s : State) (p c : Nat) : Nat := (s.portsOf p).getD (c % (s.portsOf p).length) 0

/-- The chunk waits for a credit of engine k. -/
def TallyItem.asks (k : Nat) (i : TallyItem) : Bool := decide (i.engine = k) && !i.credited

/-- The oldest chunk that waits for an input credit of engine k takes one, when there is one (05 R133, R134). -/
def State.tallyGrant (s : State) (p k : Nat) : State :=
  match (s.part p).tally.findIdx? (TallyItem.asks k) with
  | none => s
  | some n =>
    if s.hasCredit (loopId 3 p k) then
      (s.loopTake (loopId 3 p k) 1).modPart p (fun x => { x with tally := x.tally.modify n (fun i => { i with credited := true }) })
    else s

/-- A chunk goes to its home engine under the credit loop of class 0x03; without a credit it waits for one. -/
def State.toTally (s : State) (p : Nat) (h : Word512) (elems : Bytes) (link : Option (Fin 48)) : State :=
  let k := s.homeEngine p (chunkOf h).chunk
  (s.modPart p (fun x => { x with
    tally := x.tally ++ [{ engine := k, header := h, elems := elems, link := link, credited := false }] })).tallyGrant p k

/-- Post a chunk to a rank; the own rank means the own tally engines. -/
def State.postChunk (s : State) (p dest rkey va : Nat) (h : ChunkHdr) (elems : Bytes) : State :=
  let x := s.part p
  let b := BitVec.ofNat 512 (chunkBits h)
  if dest = x.rank then s.toTally p b elems none
  else s.post p (4 * dest + h.chunk % Nat.max 1 x.paths) rkey va 0 h.attempt (beBytes 64 b.toNat ++ elems)

/-- Post a DATA, CLOSE or RESULT chunk to a window of a rank. -/
def State.postToWindow (s : State) (p dest : Nat) (h : ChunkHdr) (elems : Bytes) : State :=
  s.postChunk p dest (0x7A000000 + h.window) (32768 * h.chunk) h elems

/-- A header of this rank for the step and attempt in progress. -/
def State.ownHeader (s : State) (p type etype window chunk : Nat) : ChunkHdr :=
  { type := type, etype := etype, attempt := s.attempt p, window := window, step := s.stepNo p, job := s.jobField p
    sender := (s.part p).rank, chunk := chunk, elems := 0, x := 0, count := 1
    tokens := rankToken (s.part p).seed (s.part p).rank, nonfin := 0, max := 0, skip := false, slot := 0 }

/-! ### Contributions (05 R133) -/

/-- n contributions of the attempt in progress arrive in an open loop. -/
def State.contribute (s : State) (p window n : Nat) : State :=
  let l := loopId 6 p window
  let c := s.cloop l
  if c.issued = 0 then s
  else s.setCloop l { c with held := c.held - BitVec.ofNat 32 n, inFlight := c.inFlight + BitVec.ofNat 32 n }

/-! ### Completion of windows (R264 to R266) -/

/-- Mark a window complete. -/
def State.markDone (s : State) (p : Nat) (w : WindowEnt) : State :=
  s.modPart p (fun x => { x with windowsDone := insertNat w.window.toNat x.windowsDone })

/-- A DONE's SKIP flag under the policy (R264). -/
def Part.doneSkip (x : Part) (nonfin : Nat) : Bool := decide (x.man 103 96 = 0) && decide (0 < nonfin)

/-- Header of the DONE of an OWNER window. -/
def State.doneHeader (s : State) (p : Nat) (w : WindowEnt) : ChunkHdr :=
  let l := s.ledger p w (winChunks w)
  { s.ownHeader p 3 (if w.etype = 0 then 0 else 2) w.window.toNat (winChunks w) with
    x := if w.etype = 0 then l.x else 0, count := l.count, tokens := l.tokens, nonfin := l.nonfin, max := l.max
    skip := (s.part p).doneSkip l.nonfin, slot := w.slot.toNat }

/-- Send the DONE to every other member. -/
def State.sendDones (s : State) (p : Nat) (w : WindowEnt) : State :=
  let h := s.doneHeader p w
  (w.members.filter (fun r => r != (s.part p).rank)).foldl (fun (t : State) r =>
    (t.postChunk p r (0x7A010000 + w.window.toNat) 0 h []).bump (0x522004 + 256 * s.homeEngine p (winChunks w)) 1) s

/-- Result codes of chunk c (of RESULT's length) of a window. -/
def State.resultElems (s : State) (p : Nat) (w : WindowEnt) (c : Nat) : List Nat :=
  (List.range (Nat.min 15360 (w.count.toNat - 15360 * c))).map (fun i => signCode (winSign w (s.winElem p w (15360 * c + i))))

/-- A unit of the tally consumes poison (09 R212). -/
def State.tallyPoison (s : State) (p k bad : Nat) : State := s.consumePoison p none ucTally k 0 ((bad - 1) % 32) ((bad - 1) / 32)

/-- Result chunk c of an OWNER window to every member; poisoned elements are consumed and not sent (R266; 09 R212). -/
def State.sendResult (s : State) (p : Nat) (w : WindowEnt) (c : Nat) : State :=
  let e := s.resultElems p w c
  let bad := s.winPoison p w (15360 * c) e.length
  let t := s.countWin .hub p w (15360 * c) e.length
  if bad ≠ 0 then t.tallyPoison p (s.homeEngine p c) bad
  else
    let h := { t.ownHeader p 4 3 w.pwindow.toNat c with elems := e.length }
    w.members.foldl (fun (u : State) r => u.postToWindow p r h (packChunk 3 e)) t

/-- Send result chunks to window PWINDOW of every member (R266). -/
def State.sendResults (s : State) (p : Nat) (w : WindowEnt) : State :=
  if w.results then
    (List.range (ceilDiv w.count.toNat 15360)).foldl (fun (t : State) c =>
      if (t.part p).poisoned then t else t.sendResult p w c) s
  else s

/-- Note a DONE: its sender's window and SKIP. The own rank's DONEs count for its own RESULT windows. -/
def State.noteDone (s : State) (p sender window : Nat) (skip : Bool) : State :=
  s.modPart p (fun x =>
    if x.donesIn.any (fun d => d.1 == doneKey sender window) then x
    else { x with donesIn := x.donesIn ++ [(doneKey sender window, if skip then 1 else 0)] })

/-- RESULT windows that have become complete. -/
def State.checkResults (s : State) (p : Nat) : State :=
  ((s.part p).ownWindows.filter (fun w => w.role.toNat == 2 && s.windowFull p w)).foldl (fun (t : State) w => t.markDone p w) s

/-- An OWNER window completes for the attempt in progress: own row, DONEs, result chunks. A poisoned close entry is consumed, and nothing
made of it is sent (09 R212). -/
def State.ownerComplete (s : State) (p : Nat) (w : WindowEnt) : State :=
  let l := s.ledger p w (winChunks w)
  let bad := s.ledgerPoison p w (winChunks w)
  if bad ≠ 0 then s.tallyPoison p (s.homeEngine p (winChunks w)) bad else
  let s1 := (s.markDone p w).recordJobMax p w.slot.toNat l.max
  let s2 := (s1.noteDone p (s.part p).rank w.window.toNat ((s.part p).doneSkip l.nonfin)).sendDones p w
  (s2.sendResults p w).checkResults p

/-- Windows of this rank that are complete and not yet dealt with, for the attempt in progress. -/
def State.checkWindows (s : State) (p : Nat) : State :=
  ((s.part p).ownWindows.filter (fun w => w.role.toNat != 2)).foldl (fun (t : State) w =>
    if !(t.part p).windowsDone.contains w.window.toNat && t.windowFull p w then
      (if w.role = 0 then t.ownerComplete p w else t.markDone p w)
    else t) s

/-- Header of the chunk, or the close, that a RELAY window forwards: the ledger's sums (R265). -/
def State.forwardHeader (s : State) (p : Nat) (w : WindowEnt) (c n : Nat) : ChunkHdr :=
  let l := s.ledger p w c
  let et := if w.etype = 0 then 0 else 2
  { s.ownHeader p (if c = winChunks w then 2 else 1) et w.pwindow.toNat c with
    attempt := l.attempt, step := l.step, elems := n, x := if et = 0 then l.x else 0, count := l.count, tokens := l.tokens
    nonfin := l.nonfin, max := l.max }

/-- A RELAY window forwards a complete chunk, or its close; poisoned sums, or a poisoned entry, are consumed and not sent (R265; 09
R212). -/
def State.forward (s : State) (p : Nat) (w : WindowEnt) (c : Nat) : State :=
  let n := if c = winChunks w then 0 else winChunkLen w c
  let bad := firstOrigin (s.ledgerPoison p w c) (s.winPoison p w (c * winChunkElems w) n)
  let t := s.countWin .hub p w (c * winChunkElems w) n
  if bad ≠ 0 then t.tallyPoison p (s.homeEngine p c) bad
  else
    let e := (List.range n).map (fun i => s.winElem p w (c * winChunkElems w + i))
    (t.postToWindow p w.peer.toNat (s.forwardHeader p w c n) (packChunk (if w.etype = 0 then 0 else 2) e)).bump
      (0x522003 + 256 * s.homeEngine p c) 1

/-! ### Addition (R262) -/

/-- What an arriving element adds to a window's element. -/
def elemAdd (w : WindowEnt) (etype v : Nat) : Nat :=
  if w.etype = 0 ∨ etype = 2 then v else if etype = 1 then (if v = 1 then 1 else if v = 3 then 0xFFFF else 0) else v

/-- Store or add the elements of a chunk; an element that stands poisoned makes the sum poisoned (09 R211). -/
def State.addElems (s : State) (p : Nat) (w : WindowEnt) (h : ChunkHdr) (elems : Bytes) (first : Bool) : State :=
  let n := h.chunk * winChunkElems w
  let t := if first then s else s.countWin .hub p w n h.elems
  t.setWin .hub p w n h.elems (fun i =>
    let v := elemAdd w h.etype (chunkElem h.etype elems (i - n))
    if first then v else (s.winElem p w i + v) % 2 ^ winWidth w) (!first)

/-- The ledger entry after a chunk (R262). -/
def ledgerAdd (l : Ledger) (h : ChunkHdr) (first : Bool) : Ledger :=
  if first then
    { step := h.step, attempt := h.attempt, x := h.x, count := h.count, valid := true, tokens := h.tokens, nonfin := h.nonfin
      max := h.max }
  else
    { l with count := l.count + h.count, tokens := (l.tokens + h.tokens) % 2 ^ 64, nonfin := (l.nonfin + h.nonfin) % 2 ^ 40
             max := Nat.max l.max h.max }

/-- A count or token violation on the window's loop. -/
def State.tallyViolation (s : State) (p k window : Nat) : State :=
  (s.bump (0x52200A + 256 * k) 1).violate p (loopId 6 p window)

/-- A chunk of a window is complete: trace record, forwarding, completion of the window; after poison is consumed nothing follows. What early
chunks complete before the attempt's scale fill is dealt with by it, so that JOB_MAX enters the row that the fill left (R142, R274). -/
def State.chunkDone (s : State) (p k : Nat) (w : WindowEnt) (h : ChunkHdr) : State :=
  let s1 := s.traceUnit (0x428 + k) 7 ucTally k (s.lowQuad p) (w.window.toNat + h.chunk * 2 ^ 16) (h.step + h.attempt * 2 ^ 48)
  let s2 := if w.role = 1 then s1.forward p w h.chunk else s1
  if (s2.part p).poisoned then s2 else if w.role = 2 then s2.checkResults p else if (s2.part p).filled then s2.checkWindows p else s2

/-- The checks after an addition: COUNT beyond N, TOKENS other than E_w at N, or the chunk is complete (R262). -/
def State.tallyCheck (s : State) (p k : Nat) (w : WindowEnt) (h : ChunkHdr) (l : Ledger) : State :=
  if w.n.toNat < l.count then s.tallyViolation p k w.window.toNat
  else if l.count = w.n.toNat then
    (if l.tokens = expectedTokens (s.part p).seed w then s.chunkDone p k w h else s.tallyViolation p k w.window.toNat)
  else if w.role = 2 then s.checkResults p
  else s

/-- Add one chunk into its window. What a poisoned element, or a poisoned entry of the ledger, makes of it is consumed by the engine, and
nothing follows it (09 R212). -/
def State.addChunk (s : State) (p k : Nat) (w : WindowEnt) (h : ChunkHdr) (elems : Bytes) : State :=
  let l := s.ledger p w h.chunk
  let first := !(l.valid && decide (l.step = h.step) && decide (l.attempt = h.attempt))
  let bad := firstOrigin (s.ledgerPoison p w h.chunk) (if first then 0 else s.winPoison p w (h.chunk * winChunkElems w) h.elems)
  let l2 := ledgerAdd l h first
  let s1 := ((s.countLedger p w h.chunk).addElems p w h elems first).setLedger p w h.chunk l2
  let s2 := (s1.bump (0x522001 + 256 * k) 1).bump (0x522002 + 256 * k) h.elems
  let now := decide (h.step = s.stepNo p) && decide (h.attempt = s.attempt p)
  let s3 := if now && w.role != 2 then s2.contribute p w.window.toNat h.count else s2
  if bad ≠ 0 then s3.tallyPoison p k bad else s3.tallyCheck p k w h l2

/-- The chunk's attempt is older than that of its ledger entry; a DONE has no entry, the attempt in progress stands for it (R259). -/
def State.chunkOld (s : State) (p : Nat) (h : ChunkHdr) : Bool :=
  if h.type = 3 then decide (h.step = s.stepNo p) && decide (h.attempt < s.attempt p)
  else match (s.part p).windowAt (s.part p).rank h.window with
    | some w =>
      let l := s.ledger p w h.chunk
      decide (h.chunk ≤ winChunks w) && l.valid && decide (l.step = h.step) && decide (h.attempt < l.attempt)
    | none => false

/-- A chunk leaves its way: its tally credit, which the next one takes, and the port's buffers are free again. -/
def State.tallyFreed (s : State) (p : Nat) (i : TallyItem) : State :=
  let t := (s.loopFree (loopId 3 p i.engine) 1).tallyGrant p i.engine
  match i.link with
  | some k => (t.loopFree (loopId 4 p (k.val / 8)) (packetsOf (64 + i.elems.length))).pfcCheck p (k.val / 8)
  | none => t

/-- The chunk reaches its engine: a HALTED job adds none, and one that has become stale on its way is counted (R259). -/
def State.tallyTake (s : State) (p : Nat) (i : TallyItem) : State :=
  let h := chunkOf i.header
  if s.jobState p = 7 then s
  else if h.step < s.stepNo p ∨ s.chunkOld p h then s.bump (0x521007 + 256 * p) 1
  else match (s.part p).windowAt (s.part p).rank h.window with
    | some w => s.addChunk p i.engine w h i.elems
    | none => s

/-- The oldest chunk that has its engine's credit is added; a disagreement of the duplicated adders is charged to the step (16 R386). -/
def execTallyAdd (p : Fin 4) (addersAgree : Bool) (s : State) : Outcome State Fault Refusal :=
  .next (match (s.part p).tally.find? (·.credited) with
    | none => s
    | some i =>
      if s.hubStopped p then s
      else
        let s1 := (s.modPart p (fun x => { x with tally := x.tally.erase i })).tallyFreed p i
        if addersAgree then s1.tallyTake p i
        else (((s1.bump 0x702005 1).raisePart 0x0203 2 ucTally i.engine p 0 s1.laneDetail).tallyTake p i).chargeFault p 1)

end Sys2Proof.Machine
end

