-- ==== Sys2Proof/Machine/Steps.lean ====
section
/-! DEFINITION. A step of a job from its scale fill to its boundary (01 R15; 04 R85; 05 R129, R135; 06 R148; 12 R294, R297; 16
R398). -/

namespace Sys2Proof.Machine

open Sys2Proof Host

/-! ### Beginning a step -/

/-- LIMIT of a partition. -/
def State.limit (s : State) (p : Nat) : Nat := s.obj (0x907004 + 256 * p)

/-- The command stream has no entry for step n. -/
def Part.exhausted (x : Part) (n : Nat) : Bool := match x.image with | some i => imgExhausted i n | none => false

/-- START of the manifest of a partition's job. -/
def State.startBoundary (s : State) (p : Nat) : Nat := s.obj (0x907003 + 256 * p)

/-- No link of an assigned port holds back step n: only the first step of a job waits for links that are down or below their minimum
(10 R232). -/
def State.linksAllow (s : State) (p n : Nat) : Bool := decide (n ≠ s.startBoundary p + 1) || (s.narrowLink p).isNone

/-- The boundary of the step before has passed, LIMIT allows the next step, its links allow it, and no roll call runs or waits (10 R232, R242,
R244, R294). -/
def State.mayBegin (s : State) (p : Nat) : Bool :=
  decide (s.jobState p = 5) && decide (s.exState p = 0) && decide (s.stepNo p < s.limit p) && !s.rollPending p
    && s.linksAllow p (s.stepNo p + 1)

/-- A quadrant of the partition stands in an eclipse. -/
def State.anyStopped (s : State) (p : Nat) : Bool := (s.quadsOf p).any (fun q => (s.quad q).stopped)

/-- Clear and fill the row of the step, and the scale registers (06 R143, R145, R148). The duration is free below its
bound. -/
def State.fillStep (s : State) (p : Nat) : State :=
  let n := s.stepNo p
  let s1 := (s.fillRow p n).fillRegisters p n
  let s2 := s1.setObj (0x904006 + 256 * p) (s1.draw.1 % (fillBound (s.part p).slotCount + 1))
  { s2 with fresh := s2.fresh + 1 }.modPart p (fun x => { x with filled := true, filledNs := s.ns })

/-- An attempt begins with its scale fill: windows that early chunks completed are dealt with, and an ABORT that came before it is handled
(11 R262, R274). -/
def State.beginAttempt (s : State) (p : Nat) : State :=
  let s1 := (s.fillStep p).checkWindows p
  match (s1.part p).early.find? (fun e => e.step == s1.stepNo p && e.attempt == s1.attempt p) with
  | none => s1
  | some e => (s1.modPart p (fun x => { x with early := x.early.filter (fun y => y != e) })).handleAbort p e.cause e.sender false

/-- The scale fill of the next step, whose contribution loops are initialised with it (05 R133), or of the step to be run again after an
abort. -/
def execScaleFill (p : Fin 4) (s : State) : Outcome State Fault Refusal :=
  .next (
    let b := 256 * p.val
    if s.anyStopped p then s
    else if s.mayBegin p && !(s.part p).exhausted (s.stepNo p + 1) then
      (((((s.bump (0x521001 + b) 1).setObj (0x521002 + b) 0).setExState p 1).modPart p (fun x =>
        { x with aborted := false, markers := x.markers.filter (fun m => decide (s.stepNo p < m.step))
                 early := x.early.filter (fun e => decide (s.stepNo p < e.step)) })).openContributions p 0).beginAttempt p
    else if s.jobState p = 5 ∧ s.exState p = 4 ∧ !(s.part p).filled then s.beginAttempt p
    else s)

/-- The partition stands at one orbit boundary: its quadrants run, hold nothing, and agree in their counts (04 R85). -/
def State.atOrbit (s : State) (p : Nat) : Bool :=
  (s.quadsOf p).all (fun q => s.quadRuns q && decide ((s.quad q).count.toNat = 256 * (s.quad q).passed.toNat)
    && decide ((s.quad q).count = (s.quad (s.lowQuad p)).count))

/-- A loom at descriptor 0 of a step: no plane of an earlier step serves (03 R59; 04 R88), and no verdict of an aborted attempt counts in
the next one. What the spec does not say of a step's start (DESIGN CHOICE, log 105): the count of late waits begins again, and a
CHAIN that no MATMUL consumed stays for the next step's TO_CHAIN. -/
def Loom.begin (x : Loom) : Loom :=
  { x with seqIdx := 0, loops := [], seq := .running, issued := 0, merged := false, slotMissed := false, lateWaits := 0, verdicts := []
           plane := .empty, idlePlane := .empty, preloaded := none }

/-- Descriptor 0 of the step runs. -/
def State.beginStep (s : State) (p : Nat) : State :=
  let s1 := ((s.endWait p).setExState p 1).modPart p (fun x => { x with
    inStep := true, startCount := (s.quad (s.lowQuad p)).count, reports := [], opened := [], started := [], closed := [] })
  s1.modLooms p Loom.begin

/-- Step start: the scale fill is complete, every ring is filled, the tests of a window have ended; after an abort the
forward copy is written again (11 R274). A step past the command stream halts the job (07 R161). -/
def execStepStart (p : Fin 4) (s : State) : Outcome State Fault Refusal :=
  .next (
    let x := s.part p
    if s.mayBegin p && x.exhausted (s.stepNo p + 1) then s.haltJob p 2 0
    else if s.jobState p = 5 ∧ (s.exState p = 1 ∨ s.exState p = 4) ∧ x.filled ∧ !x.inStep ∧ (!x.aborted ∨ x.copied)
        ∧ x.windowTests = [] ∧ !s.rollPending p ∧ (x.aborted ∨ s.linksAllow p (s.stepNo p)) ∧ x.ringsFull (s.stepNo p) ∧ s.atOrbit p then s.beginStep p
    else s)

/-! ### Audit and fold -/

/-- held + in flight + returned = issued, modulo 2^32; a class-0x06 loop holds nothing and has nothing in flight (05 R133,
R135). -/
def loopSound (l : Nat) (c : CLoop) : Bool :=
  decide (c.held + c.inFlight + c.returned = c.issued)
    && (decide (l / 2 ^ 24 ≠ 6) || (decide (c.held = 0) && decide (c.inFlight = 0)))

/-- Loops of the partition that the audit finds violated. -/
def State.badLoops (s : State) (p : Nat) : List Nat := (s.loopsOf p).filter (fun l => !loopSound l (s.cloop l))

def execAuditComplete (p : Fin 4) (s : State) : Outcome State Fault Refusal :=
  .next (if (s.part p).applied && !(s.part p).audited then
    let s1 := (s.bump 0x704001 1).setObj 0x704002 (s.loopsOf p).length
    let s2 := (s.badLoops p).foldl (fun (t : State) l => t.violate p l) s1
    s2.modPart p (fun x => { x with audited := true })
  else s)

/-- No step is folded after a violation or consumed poison (05 R137; 07 R171); the log entries wait for a credit of steward 0's queue (01 R18). -/
def execFoldComplete (p : Fin 4) (s : State) : Outcome State Fault Refusal :=
  .next (
    let x := s.part p
    if x.applied && !x.folded && !s.memStopped p && s.queueRoom (fromSteward 0) && !x.violated && !x.poisoned && decide (s.badLoops p = []) then s.foldStep p else s)

/-! ### The boundary -/

/-- What belongs to the step that ends. -/
def Part.endStep (x : Part) : Part :=
  { x with inStep := false, filled := false, copied := false, rowFinal := false, applied := false, folded := false, audited := false
           committed := false, aborted := false, skipStep := false
           opened := [], reports := [], started := [], closed := [], windowsDone := [], donesIn := []
           fpParts := [] }

/-- Class-0x06 loops of the step end with it; the engines' lists of finished commands too. -/
def State.endLoops (s : State) (p : Nat) : State :=
  let s1 := { s with cloops := SMap.drop (fun l => l / 2 ^ 24 == 6 && l / 2 ^ 22 % 4 == p) s.cloops }
  (s1.stacksOf p).foldl (fun (t : State) k => t.setStack k { t.stack k with cmdsDone := [] }) s1

/-- Effects due at the boundary of step n, in their order of arrival (R290, R304). -/
def State.doDue (s : State) (p n : Nat) : List Due → State
  | [] => s
  | .halt c d :: _ => s.haltJob p c.toNat d.toNat
  | .take c :: t =>
    if c.toNat = n then
      (if (s.part p).violated || (s.part p).poisoned then s else s.takeCheckpoint p n).doDue p n t
    else s.doDue p n t
  | .amend a :: t => (if a.start = n then s.amendRank p a else s).doDue p n t

/-- An effect that waits for a later boundary than that of step n. -/
def Due.later (n : Nat) : Due → Bool
  | .halt _ _ => false
  | .take c => decide (c.toNat ≠ n)
  | .amend a => decide (a.start ≠ n)

/-- Longest duration of a unit's test, µs (16 R399). -/
def testUs (unit : BitVec 16) : Nat := if unit.toNat / 4096 = 1 then 2000 else 210000

/-- A test window opens at the boundary of step n: the pending tests that fit are to be started in it (16 R398). -/
def State.openWindow (s : State) (p n : Nat) : State :=
  match (s.part p).image with
  | none => s
  | some i =>
    if i.twPeriod.toNat ≠ 0 ∧ n % i.twPeriod.toNat = 0 ∧ s.jobState p = 5 then
      let ts := (s.tests.filter (fun t => t.part.val == p && decide (testUs t.unit ≤ i.twBudget.toNat))).map (·.unit)
      s.modPart p (fun x => { x with window := decide (ts ≠ []), windowTests := ts })
    else s

/-- The job is at the boundary of LIMIT: HELD with a report (R294). -/
def State.holdAtLimit (s : State) (p n : Nat) : State :=
  if s.jobState p = 5 ∧ s.limit p ≤ n then ((s.setObj (0x907001 + 256 * p) 6).modPart p (fun x => { x with waitNs := s.ns })).report p []
  else s

/-- A checkpoint that a halt overtook is no longer pending. -/
def State.dropPending (s : State) (p : Nat) : State :=
  if s.jobState p = 7 ∧ s.obj (0x907007 + 256 * p) = 1 then
    s.setObj (0x907007 + 256 * p) 0
  else s

/-- The step boundary (01 R15): updates, audit and fold are done. -/
def State.boundary (s : State) (p : Nat) : State :=
  let n := s.stepNo p
  let s0 := if (s.part p).rowFinal then s else s.finaliseRow p
  let due := (s0.part p).due
  let s1 := (s0.traceHub 0xFF 9 p p n).setExState p 0
  let s2 := (s1.endLoops p).modPart p (fun x =>
    { x.endStep with due := due.filter (Due.later n), hangNs := s.ns, waitNs := s.ns })
  let s3 := (s2.doDue p n due).dropPending p
  if s3.jobState p = 7 then s3
  else ((s3.qpsReturn p).holdAtLimit p n).openWindow p n

def execStepBoundary (p : Fin 4) (s : State) : Outcome State Fault Refusal :=
  .next (
    let x := s.part p
    if s.exState p = 3 ∧ x.applied ∧ x.audited ∧ !s.memStopped p ∧ (x.folded ∨ x.violated ∨ x.poisoned) then s.boundary p else s)

end Sys2Proof.Machine
end

