-- ==== Sys2Proof/Machine/Transport.lean ====
section
/-! DEFINITION. The transport (11 R248 to R254): packets as responder, acknowledgements, retransmission, path failure (R278),
congestion (R252). -/

namespace Sys2Proof.Machine

open Sys2Proof Host

/-! ### Packets received (R250, R252, R254) -/

/-- Local QPN of a packet's queue pair, its party, the link it arrived on, and that link's port. -/
def pktQpn (h : PktHdr) : Nat := h.esp.qpn.toNat
def pktParty (h : PktHdr) : Nat := pktQpn h / 4
def pktLink (h : PktHdr) : Nat := h.esp.frame.k.val
def pktPort (h : PktHdr) : Fin 6 := Fin.ofNat 6 (pktLink h / 8)

/-! ### ESP (R254) -/

/-- A sequence number that the anti-replay window has room for, and has not seen. -/
def Sa.accept (a : Sa) (seq : BitVec 64) : Option Sa :=
  if a.seq < seq then some { a with seq := seq, window := (a.window <<< (seq - a.seq).toNat) ||| 1 }
  else
    let d := (a.seq - seq).toNat
    if seq = 0 ∨ 1024 ≤ d ∨ a.window.getLsbD d then none else some { a with window := a.window ||| (1 <<< d) }

/-- n consecutive sequence numbers. -/
def Sa.acceptAll (a : Sa) (seq : BitVec 64) : Nat → Option Sa
  | 0 => some a
  | n + 1 => match a.accept seq with
    | some b => b.acceptAll (seq + 1) n
    | none => none

/-- n packets of an association: they fail ESP without one, with a wrong ICV, or outside the window, and are dropped and counted, with a record
of their port's transport (16 R388, R389). -/
def State.rxEsp (s : State) (p : Nat) (h : EspHdr) (n : Nat) : State × Bool :=
  let x := s.part p
  let i := 2 * h.qpn.toNat + 1
  let a := x.sa i
  match (if h.ok && a.key != [] then a.acceptAll h.seq n else none) with
  | some b => (s.setPart p (x.setSa i b), true)
  | none => ((s.bump (0x522009 + 256 * (h.frame.k.val / 8)) 1).raisePart 0x0506 1 ucTally (h.frame.k.val / 8) p 0 0, false)

/-- n packets of a queue pair arrive (R412). -/
def State.pktArrives (s : State) (p : Fin 4) (h : PktHdr) (n : Nat) (cmd : Instr) (run : State → State) : State :=
  s.arrives p h.esp.frame n cmd run

/-! ### Responder (R250, R252) -/

/-- A NAK, counted: class as in the output. -/
def State.sendNak (s : State) (p : Nat) (h : PktHdr) (psn : BitVec 24) (cls : BitVec 3) : State :=
  (s.putNak p (pktQpn h) psn cls).bump (0x522006 + 256 * (pktPort h).val) 1

/-- A packet marked CE: a CNP at most once per CNP_INTERVAL_US and queue pair. -/
def State.ceMark (s : State) (p : Nat) (h : PktHdr) : State :=
  let x := s.part p
  let n := pktQpn h
  let q := x.qp n
  let due := match q.lastCnp with | none => true | some t => decide (t.toNat + s.obj 0x520004 * 1000 ≤ s.ns.toNat)
  if h.ce && due then
    ((s.setPart p (x.setQp n { q with lastCnp := some s.ns })).sendCnp p n).bump (0x522007 + 256 * (pktPort h).val) 1
  else s

/-- n packets of a queue pair of the partition before their transport headers are looked at: ESP, ICRC, CE mark. A packet whose ICRC is
wrong is dropped (DEDUCED, log 85), with a record of the transport (16 R388, R392). -/
def State.rxRoce (s : State) (p : Nat) (h : PktHdr) (n : Nat) : State × Bool :=
  if !((s.part p).qp (pktQpn h)).live then (s, false)
  else
    match s.rxEsp p h.esp n with
    | (u, false) => (u, false)
    | (u, true) => if h.icrcOk then (u.ceMark p h, true) else (u.raisePart 0x0506 1 ucTally (h.esp.frame.k.val / 8) p 0 0, false)

/-- n packets of a request before its contents are looked at; `true` when they are the next ones of their queue pair. In HALTED a
WRITE or a SEND of a peer rank (`halts`) is answered with remote operational error (R259). -/
def State.rxPacket (s : State) (p : Nat) (h : PktHdr) (n : Nat) (halts : Bool) : State × Bool :=
  match s.rxRoce p h n with
  | (t, false) => (t, false)
  | (t, true) =>
    let q := (t.part p).qp (pktQpn h)
    let d := (h.psn - q.expPsn).toNat
    if halts && decide (t.jobState p = 7) then ((t.bump (0x521007 + 256 * p) 1).sendNak p h h.psn 3, false)
    else if d = 0 then (t, true)
    else if d < 2 ^ 23 then
      (if q.nakSent then t
       else (t.setPart p ((t.part p).setQp (pktQpn h) { q with nakSent := true })).sendNak p h q.expPsn 0, false)
    else (t.sendAck p (pktQpn h) (q.expPsn - 1), false)

/-- A request is accepted: the expected PSN moves on by `psns`, and of its n packets every 16th in sequence is acknowledged (R250). -/
def State.rxTaken (s : State) (p : Nat) (h : PktHdr) (psns n : Nat) : State :=
  let x := s.part p
  let k := pktQpn h
  let q := x.qp k
  let owed := q.owedAcks + n
  let s1 := s.setPart p (x.setQp k { q with expPsn := q.expPsn + BitVec.ofNat 24 psns, nakSent := false, owedAcks := owed % 16 })
  let s2 := (List.range (owed / 16)).foldl (fun (t : State) j =>
    t.sendAck p k (q.expPsn + BitVec.ofNat 24 (16 * j + 15) - BitVec.ofNat 24 q.owedAcks)) s1
  s2.tracePackets p 6 (pktLink h) k ((List.range n).map (fun i => (h.psn.toNat + i) % 2 ^ 24)) false

/-- n packets of a SEND or a WRITE are accepted. -/
def State.rxAccept (s : State) (p : Nat) (h : PktHdr) (n : Nat) : State := s.rxTaken p h n n

/-- A service refuses a request: NAK for remote access error, counted in ACCESS_NAKS (12 R287). -/
def State.svcRefuse (s : State) (p : Nat) (h : PktHdr) : State :=
  (s.sendNak p h ((s.part p).qp (pktQpn h)).expPsn 2).bump (0x90700B + 256 * p) 1

/-- A request that uses a part of RoCEv2 the device does not implement (R248), or a SEND on a service's queue pair (12 R287). -/
def State.rxUnsupported (s : State) (p : Fin 4) (h : PktHdr) : State :=
  let r := s.rxPacket p h 1 false
  let party := pktParty h
  if !r.2 then r.1
  else if (s.part p).ranks ≤ party ∧ party < (s.part p).parties then r.1.svcRefuse p h
  else r.1.sendNak p h h.psn 1

def execUnsupportedRequest (p : Fin 4) (h : PktHdr) (s : State) : Outcome State Fault Refusal :=
  .next (s.pktArrives p h 1 (.unsupportedRequest p h) (fun t => t.rxUnsupported p h))

/-- ACK_COALESCE_NS after the last unacknowledged packet; the acknowledgement logic runs on in an eclipse (17 R412). -/
def execAckCoalesceExpiry (p : Fin 4) (qpn : BitVec 24) (s : State) : Outcome State Fault Refusal :=
  .next (
    let x := s.part p
    let q := x.qp qpn.toNat
    if q.live && decide (q.owedAcks ≠ 0) then
      (s.setPart p (x.setQp qpn.toNat { q with owedAcks := 0 })).sendAck p qpn.toNat (q.expPsn - 1)
    else s)

/-! ### Path failure (R251, R278) -/

/-- A queue pair to a peer rank of the job. -/
def Part.rankQp (x : Part) (qpn : Nat) : Bool := decide (qpn / 4 < x.ranks) && decide (qpn / 4 ≠ x.rank) && decide (qpn < 0x4000)

/-- The path to rank r has failed. -/
def State.pathFailed (s : State) (p r : Nat) : State :=
  (((s.bump (0x521009 + 256 * p) 1).silence p r).raisePart 0x0503 3 ucPart p p 0 r).faultAndHalt p 7 7 r

/-! ### Responses (R251) -/

/-- What is left of a message after an ACK up to a PSN, and the packets it acknowledges. -/
def TxMsg.ackedUpTo (m : TxMsg) (psn : BitVec 24) : Option TxMsg × Nat :=
  let k := (psn - m.firstPsn).toNat + 1
  if (psn - m.lastPsn).toNat < 2 ^ 23 then (none, packetsOf m.bytes.length - m.acked)
  else if k ≤ 2 ^ 23 ∧ m.acked < k then (some { m with acked := k }, k - m.acked)
  else (some m, 0)

/-- A response ends a run of timeouts. -/
def State.responded (s : State) (p qpn : Nat) : State :=
  let x := s.part p
  s.setPart p (x.setQp qpn { x.qp qpn with timeouts := 0 })

/-- A response reaches its queue pair: it has passed frame, ESP and ICRC, and ends a run of timeouts. -/
def State.rxResponse (s : State) (p : Nat) (h : PktHdr) : State × Bool :=
  match s.rxRoce p h 1 with
  | (t, true) => (t.responded p (pktQpn h), true)
  | (t, false) => (t, false)

/-- The queue pair exists and its transport runs. -/
def State.qpRuns (s : State) (p qpn : Nat) : Bool := ((s.part p).qp qpn).live && !s.hubStopped p

/-- An ACK: what is acknowledged leaves its queue pair. -/
def State.rxAck (s : State) (p : Fin 4) (h : PktHdr) : State :=
  let n := pktQpn h
  let r := s.rxResponse p h
  let x := r.1.part p
  let q := x.qp n
  if r.2 && decide ((q.nextPsn - 1 - h.psn).toNat < 2 ^ 23) then
    let rs := q.unacked.map (fun m => m.ackedUpTo h.psn)
    let k := rs.foldl (fun a e => a + e.2) 0
    (r.1.setPart p (x.setQp n { q with unacked := rs.filterMap (·.1), rnrWait := false })).loopFree (loopId 5 p n) k
  else r.1

def execAck (p : Fin 4) (h : PktHdr) (s : State) : Outcome State Fault Refusal :=
  .next (s.pktArrives p h 1 (.ack p h) (fun t => t.rxAck p h))

/-- A NAK: a sequence error makes everything go again, any other fails the path to a peer rank. -/
def State.rxNak (s : State) (p : Fin 4) (h : PktHdr) (cls : NakClass) : State :=
  let n := pktQpn h
  let r := s.rxResponse p h
  if !r.2 then r.1
  else
    match cls with
    | .sequence => r.1.resend p n
    | .invalidRequest | .remoteAccess | .remoteOperational =>
      if (r.1.part p).rankQp n then r.1.pathFailed p (n / 4) else r.1

def execNak (p : Fin 4) (h : PktHdr) (cls : NakClass) (s : State) : Outcome State Fault Refusal :=
  .next (s.pktArrives p h 1 (.nak p h cls) (fun t => t.rxNak p h cls))

/-- An RNR NAK: the message is sent again after 16 µs. -/
def State.rxRnrNak (s : State) (p : Fin 4) (h : PktHdr) : State :=
  let n := pktQpn h
  let r := s.rxResponse p h
  let x := r.1.part p
  if r.2 && (x.qp n).unacked != [] then r.1.setPart p (x.setQp n { x.qp n with rnrWait := true }) else r.1

def execRnrNak (p : Fin 4) (h : PktHdr) (s : State) : Outcome State Fault Refusal :=
  .next (s.pktArrives p h 1 (.rnrNak p h) (fun t => t.rxRnrNak p h))

def execRnrRetry (p : Fin 4) (qpn : BitVec 24) (s : State) : Outcome State Fault Refusal :=
  .next (
    let x := s.part p
    let q := x.qp qpn.toNat
    if s.qpRuns p qpn.toNat && q.rnrWait then
      (s.setPart p (x.setQp qpn.toNat { q with rnrWait := false })).resend p qpn.toNat
    else s)

/-- RTO_US without an acknowledgement: the eighth in a row fails the path to a peer rank. -/
def execRtoExpiry (p : Fin 4) (qpn : BitVec 24) (s : State) : Outcome State Fault Refusal :=
  .next (
    let n := qpn.toNat
    let x := s.part p
    let q := x.qp n
    if !s.qpRuns p n || q.rnrWait || q.unacked == [] then s
    else
      let s1 := s.setPart p (x.setQp n { q with timeouts := q.timeouts + 1 })
      if s1.obj 0x520002 ≤ q.timeouts + 1 ∧ x.rankQp n then s1.pathFailed p (n / 4) else s1.resend p n)

/-! ### Congestion (R252, R269) -/

def Part.pace (x : Part) (r : Nat) : Pace := SMap.get Pace.init x.paces r
def Part.setPace (x : Part) (r : Nat) (v : Pace) : Part := { x with paces := SMap.set Pace.init x.paces r v }

/-- The rate halves, to no less than 1/64 of the plan rate. -/
def Pace.halve (v : Pace) : Pace := if v.num * 32 ≤ 2 ^ v.shift then { v with num := 1, shift := 6 } else { v with shift := v.shift + 1 }

/-- The rate rises by 1/8 of the plan rate, up to the plan rate. -/
def Pace.rise (v : Pace) : Pace :=
  let n := 8 * v.num + 2 ^ v.shift
  if 8 * 2 ^ v.shift ≤ n then { v with num := 1, shift := 0 } else { v with num := n, shift := v.shift + 3 }

/-- The rate is below the plan rate. -/
def Pace.slowed (v : Pace) : Bool := decide (v.num < 2 ^ v.shift)

/-- A CNP is counted, and the pacing rate towards a peer rank halves, at most once per 50 µs. -/
def State.rxCnp (s : State) (p : Fin 4) (h : PktHdr) : State :=
  let n := pktQpn h
  let r := s.rxRoce p h 1
  if !r.2 then r.1
  else
    let t := r.1.bump (0x522008 + 256 * (pktPort h).val) 1
    let x := t.part p
    let v := x.pace (n / 4)
    let due := match v.lastHalf with | none => true | some u => decide (u.toNat + 50000 ≤ s.ns.toNat)
    let v1 := if due then { v.halve with lastHalf := some s.ns, lastCnp := s.ns } else { v with lastCnp := s.ns }
    if x.rankQp n then t.setPart p (x.setPace (n / 4) v1) else t

def execCnp (p : Fin 4) (h : PktHdr) (s : State) : Outcome State Fault Refusal :=
  .next (s.pktArrives p h 1 (.cnp p h) (fun t => t.rxCnp p h))

/-- 100 µs without a CNP: the rate rises by 1/8 of the plan rate, up to the plan rate; the transport stands still in an eclipse (17
R412). -/
def execRateRecovery (p : Fin 4) (rank : BitVec 12) (s : State) : Outcome State Fault Refusal :=
  .next (
    let r := rank.toNat
    let v := (s.part p).pace r
    if v.slowed && !s.hubStopped p then
      let s1 := s.atLeast (v.lastCnp.toNat + 100000)
      s1.modPart p (fun x => x.setPace r { v.rise with lastCnp := s1.ns })
    else s)

end Sys2Proof.Machine
end

