-- ==== Sys2Proof/Machine/Jobs.lean ====
section
/-! DEFINITION. Control messages and the life of a job (12 R289 to R304): LOAD, amendments, ARM, START, STEP-LIMIT, CHECKPOINT,
HALT, QUERY. -/

namespace Sys2Proof.Machine

open Sys2Proof Host

/-! ### Messages (R289) -/

/-- The response to a message, its OP that of the request + 0x80; a refusal is counted, and recorded for LOAD and ARM (16 R392). -/
def State.ctlAnswer (s : State) (p op : Nat) (m : Ctl) (status : Nat) (body : Bytes) : State :=
  let s1 := if status = 0 then s else s.bump (0x90700C + 256 * p) 1
  let s2 := if status ≠ 0 ∧ (op = 1 ∨ op = 2) then s1.raisePart 0x0103 0 ucPart p p op status else s1
  s2.postControl p (s2.ctlHeader p ((op + 0x80) % 256) status m.seq.toNat body.length) body

/-- A message that has arrived whole is checked in the order of R289, by its own rule last, and answered. The rule gives a status, the
state after, and a body; `fin` is what an accepted message still does once its response has left, `shown` the state that the response's
header shows. -/
def State.ctlTaken (s : State) (p op : Nat) (m : Ctl) (job : Nat) (states : List Nat) (own : State → Nat × State × Bytes)
    (shown fin : State → State) : State :=
  match m.reservedOp with
  | some v => s.ctlAnswer p v.toNat m 0x13 []
  | none =>
    if m.len.toNat ≠ m.body.length then s.ctlAnswer p op m 0x13 []
    else if m.job.toNat ≠ job then s.ctlAnswer p op m 0x0E []
    else if !states.contains (s.jobState p) then s.ctlAnswer p op m 0x0D []
    else
      match own s with
      | (0, t, b) => fin (t.postControl p ((shown t).ctlHeader p ((op + 0x80) % 256) 0 m.seq.toNat b.length) b)
      | (c, _, _) => s.ctlAnswer p op m c []

/-- The packets of a control message arrive (17 R412). -/
def State.ctlArrives (s : State) (p : Fin 4) (m : Ctl) (cmd : Instr) (run : State → State) : State :=
  s.pktArrives p m.pkt (packetsOf (32 + m.body.length)) cmd run

/-- The queues to and from steward 0, on which firmware answers, have credits: a message for it waits until then (01 R18; 08 R189; log 97). -/
def State.firmwareHears (s : State) : Bool := s.queueRoom (toSteward 0) && s.queueRoom (fromSteward 0)

/-- A control message is one SEND on the control queue pair, of at most 4 MiB: a longer one is an invalid request (R289; 11 R248;
DEDUCED, log 85). It reaches firmware over steward 0's queue (01 R18). -/
def State.control (s : State) (p op : Nat) (m : Ctl) (job : Nat) (states : List Nat) (own : State → Nat × State × Bytes)
    (shown fin : State → State := id) : State :=
  let n := packetsOf (32 + m.body.length)
  if !s.fwUp || decide (s.partCount ≤ p) || decide (pktQpn m.pkt ≠ 0x4000) || !s.firmwareHears then s
  else
    match s.rxPacket p m.pkt n false with
    | (t, false) => t
    | (t, true) =>
      if 2 ^ 22 < 32 + m.body.length then t.sendNak p m.pkt m.pkt.psn 1
      else (t.rxAccept p m.pkt n).across [toSteward 0] (fun u => u.ctlTaken p op m job states own shown fin)

def State.setJobState (s : State) (p v : Nat) : State := s.setObj (0x907001 + 256 * p) v

/-- The last step boundary that has passed: that of the step a halt cut short has not (01 R16). -/
def State.passedStep (s : State) (p : Nat) : Nat :=
  Nat.max (s.startBoundary p) (if s.exState p = 0 ∧ !(s.part p).cutStep then s.stepNo p else s.stepNo p - 1)

/-! ### LOAD (R291) -/

/-- A LOAD's body: FLAGS, manifest with signature, amendments. -/
structure LoadBody where
  flags    : Nat
  length   : Nat
  manifest : Bytes
  amends   : List Bytes
  whole    : Bool

/-- Cut a byte string into pieces of n bytes. -/
def cutBytes (n : Nat) : Nat → Bytes → List Bytes
  | 0, _ => []
  | k + 1, b => b.take n :: cutBytes n k (b.drop n)

def loadBody (b : Bytes) : LoadBody :=
  let m := sliceNat b 1 4
  let a := sliceNat b (5 + m) 2
  { flags := sliceNat b 0 1, length := m, manifest := (b.drop 5).take m, amends := cutBytes 2948 a (b.drop (7 + m))
    whole := decide (b.length = 7 + m + 2948 * a) }

def amendOf (b : Bytes) : Amend := { bits := BitVec.ofNat 1024 (leNat (b.take 128)) }

/-- Ranges of an amendment. -/
def Amend.sound (a : Amend) (ranks : Nat) : Bool :=
  decide (a.part ≤ 3) && decide (a.rank < ranks)

/-- The rank entry of an amendment's rank, as amended (R302). -/
def amendEntry (x : Part) (a : Amend) : Part :=
  let at_ := 256 + 96 * a.rank
  let m1 := setBytes x.manifest at_ (leBytes 16 a.addr ++ leBytes 8 a.ident ++ leBytes 1 a.part)
  let m2 := setBytes m1 (at_ + 26) (leBytes 2 a.epoch)
  { x with manifest := setBytes m2 (at_ + 32) (leBytes 32 a.ckpt) }

/-- START of the manifest, as the amendment of the own rank replaces it. -/
def withStart (x : Part) (start : Nat) : Part := { x with manifest := setBytes x.manifest 32 (leBytes 6 start) }

/-- The manifest with its amendments, and the own rank. -/
def State.placeManifest (s : State) (p : Nat) (x : Part) (l : LoadBody) : Part × Option Amend :=
  let body := l.manifest.take (l.length - 2820)
  let as := l.amends.map amendOf
  let y := as.foldl amendEntry { x with manifest := body, digest := digest256 body }
  let r := (s.ownRanks p y).headD 0
  let mine := as.find? (fun a => a.rank == r)
  let z := match mine with
    | some a => withStart y a.start
    | none => y
  ({ z with rankIdx := BitVec.ofNat 16 r }, mine)

/-- H of a job that starts at step 0 (05 R130). -/
def headZero (x : Part) : Bytes :=
  digest256 (ascii "KWFC" ++ leBytes 32 (x.man 575 320) ++ leBytes 16 x.seed ++ leBytes 16 x.fseed ++ leBytes 2 x.ranks
    ++ leBytes 2 x.rank)

/-- The peer table as LOAD fills it (10 R239). -/
def fillPeers (x : Part) : Part :=
  (List.range x.ranks).foldl (fun y r =>
    let e := x.rankEntry r
    y.setPeer r { Peer.init with
      addr := BitVec.ofNat 128 e, ident := BitVec.ofNat 64 (field e 191 128), epoch := BitVec.ofNat 16 (field e 223 208)
      state := if r = x.rank then 1 else 2, part := BitVec.ofNat 8 (field e 199 192) }) { x with peers := [] }

/-- Create the job's queue pairs; the control queue pair stays. -/
def fillQps (x : Part) : Part := x.jobQps.foldl (fun y n => y.newQp n) { x with qps := SMap.drop (fun n => n != 0x4000) x.qps }

/-- The loops of a partition start anew; that of the control queue pair with the packets that are not acknowledged yet (05 R133, R137;
DEDUCED, log 113). -/
def State.newLoops (s : State) (p : Nat) : State :=
  let l := loopId 5 p 0x4000
  let n := (((s.part p).qp 0x4000).unacked.map (fun m => (m.lastPsn - m.firstPsn).toNat + 1 - m.acked)).foldl (· + ·) 0
  { s with cloops := SMap.drop (fun j => j / 2 ^ 22 % 4 == p) s.cloops }.setCloop l
    { loopInit l with issued := BitVec.ofNat 32 n, inFlight := BitVec.ofNat 32 n }

/-- A LOAD that passes every check: counters cleared, key, peers, loops and queue pairs set, no fault stands against the job, LOADED. STEP and HEAD of the chain show START with a zero head until ARM restores one (DESIGN CHOICE, log 79). With the assay off the
LOAD raises record 0x0706, and the second is outside the bound (16 R381, R382). -/
def State.loaded (s : State) (p : Nat) (x : Part) (mine : Option Amend) : State :=
  let b := 256 * p
  let start := x.man 303 256
  let head := if start = 0 then headZero x else List.replicate 32 0
  let y := fillQps (fillPeers { x with
    ikey := BitVec.ofNat 64 (x.man 895 832), firstStep := BitVec.ofNat 64 (if start = 0 then 1 else Nat.max (start - 15) 1)
    rrFirst := BitVec.ofNat 64 (start + 1), headBefore := head, violated := false, poisoned := false })
  let s1 := s.clearObjs (loadClears p (s.quadsOf p) (s.stacksOf p))
  let s2 := s1.newLoops p
  let s3 := (((s2.setPart p y).setObj (0x907002 + b) x.rank).setObj (0x907003 + b) start).setObj (0x521001 + b) start
  let s4 := ((s3.setObj (0x907005 + b) start).setObj (0x907009 + b) (leNat x.digest)).setObj (0x220004 + p) (x.man 127 112)
  let s5 := (s4.setObj (0x903003 + b) start).setObj (0x903001 + b) start
  let s6 := (s5.setObj (0x903002 + b) (leNat head)).setObj (0x515001 + b) ((mine.map Amend.roll).getD 0)
  let s7 := if (s6.obj 0x702001).testBit p then s6 else { s6.raisePart 0x0706 2 ucPart p p 1 1 with assayGap := true }
  s7.setJobState p 1

/-- LOAD with a manifest. -/
def State.loadManifest (s : State) (p : Nat) (l : LoadBody) (sigOk : Bool) (amendOk : List Bool) : Nat × State × Bytes :=
  let (x, mine) := s.placeManifest p (s.part p) l
  if !x.manStructure l.length then (0x13, s, [])
  else
    match s.manifestRefusal p x (sigOk && (List.range l.amends.length).all (fun i => amendOk.getD i false)) with
    | some c => (c, s, [])
    | none =>
      if l.amends.all (fun b => (amendOf b).sound x.ranks && decide (field (amendOf b).bits.toNat 255 0 = leNat x.digest)) then
        (0, s.loaded p x mine, [])
      else (0x13, s, [])

/-- One amendment in a running or held job (R302; 10 R244): status 0 accepts it. -/
def State.amendRefusal (s : State) (p : Nat) (a : Amend) (ok : Bool) : Nat :=
  let x := s.part p
  if !ok then 0x01
  else if !s.keyAuthorised x.jcKey then 0x02
  else if !a.sound x.ranks ∨ a.rank = x.rank ∨ field a.bits.toNat 255 0 ≠ leNat x.digest then 0x13
  else if (x.heldFor a.rank).isSome then 0x0D
  else if a.epoch ≠ (x.peer a.rank).epoch.toNat + 1 then 0x13
  else if a.start < s.passedStep p ∨ (a.start = s.passedStep p ∧ s.jobState p ≠ 6) then 0x0F
  else 0

/-- An accepted amendment is held, and the exchange with the new holder begins (13 R323); one for the boundary at which the
job is HELD takes effect at once. -/
def State.acceptAmend (s : State) (p : Nat) (a : Amend) : State :=
  let s1 := s.modPart p (fun x => { x with amends := x.amends ++ [a] })
  let s2 := if (s1.part p).ownCard = [] then s1 else s1.sendJob p (heldParty a.rank) 3 0 (s1.part p).ownCard
  if s2.jobState p = 6 ∧ a.start = s2.passedStep p then s2.amendRank p a
  else s2.modPart p (fun x => { x with due := x.due ++ [.amend a] })

/-- The amendments of a message: all are accepted or none. -/
def State.acceptAmends (s : State) (p : Nat) : List (Amend × Bool) → State → Nat × State × Bytes
  | [], t => (0, t, [])
  | (a, ok) :: r, t =>
    match t.amendRefusal p a ok with
    | 0 => s.acceptAmends p r (t.acceptAmend p a)
    | c => (c, s, [])

/-- A LOAD message, with a manifest or with AMEND; other bits of FLAGS make it malformed (DESIGN CHOICE, log 114). The device refuses LOAD
while JTAG is unlocked (13 R330). -/
def State.loadMessage (s : State) (p : Nat) (m : Ctl) (sigOk : Bool) (amendOk : List Bool) : State :=
  let l := loadBody m.body
  let amend := decide (l.flags % 2 = 1)
  s.control p 1 m (if amend then s.jobField p else 0) (if s.sec.jtagScope ≠ 0 then [] else if amend then [5, 6] else [0]) (fun t =>
    if 1 < l.flags ∨ !l.whole ∨ (amend ∧ l.length ≠ 0) then (0x13, t, [])
    else if amend then t.acceptAmends p ((l.amends.map amendOf).zip (amendOk ++ List.replicate l.amends.length false)) t
    else t.loadManifest p l sigOk amendOk)

def execLoad (p : Fin 4) (m : Ctl) (sigOk : Bool) (amendOk : List Bool) (s : State) : Outcome State Fault Refusal :=
  .next (s.ctlArrives p m (.load p m sigOk amendOk) (fun t => t.loadMessage p m sigOk amendOk))

def execLoadAmend (p : Fin 4) (m : Ctl) (amendOk : List Bool) (s : State) : Outcome State Fault Refusal :=
  .next (s.ctlArrives p m (.loadAmend p m amendOk) (fun t => t.loadMessage p m false amendOk))

/-! ### ARM (R292, R301) -/

/-- Commands of step c whose tensors a restore reads, the frozen ones apart. -/
def Part.restoredCmds (x : Part) (c : Nat) : List Word512 :=
  match x.image with
  | some i => (imgCommands i c).filter (fun d => uRule d != 3 && !x.stateFrozen (uRegion d))
  | none => []

/-- Kind-0x2 and kind-0x3 entries recomputed from the restored state: the commands of step c, and the frozen ones. -/
def State.restoredEntries (s : State) (p c : Nat) : List FpEntry :=
  s.stateFps p 2 c ((s.part p).restoredCmds c) ++ s.stateFps p 3 c ((s.part p).stateCmds true)

/-- The recomputation reads the state that a restore left (09 R212, R217). -/
def State.countRestored (s : State) (p c : Nat) : State :=
  (s.useStates p ((s.part p).restoredCmds c)).useStates p ((s.part p).stateCmds true)

/-- Bytes of the descriptor in the checkpoint region before its run record. -/
def State.ckptLength (s : State) (p : Nat) : Nat :=
  let h := s.readNat p ((s.part p).theRegion 9) 0 512
  512 + 512 * field h 191 160 + 32 * field h 223 192

/-- The hub reads a region from its start: n bytes, as far as the region goes. -/
def State.countStart (s : State) (p r n : Nat) : State := s.countRead .hub p r 0 (Nat.min n (s.regionLen p r))

/-- The descriptor in the checkpoint region matches the rank's CKPT and the job (R301). -/
def State.ckptMatches (s : State) (p c : Nat) : Bool :=
  let x := s.part p
  let r := x.theRegion 9
  let h := s.readNat p r 0 512
  let n := s.ckptLength p
  decide (n ≤ s.regionLen p r) && decide (leNat (digest256 (s.readRegion p r 0 n)) = field (x.rankEntry x.rank) 511 256)
    && decide (field h 63 48 = x.ranks) && decide (field h 79 64 = x.rank) && decide (field h 143 96 = c)
    && decide (field h 191 160 = x.slotCount) && decide (field h 767 512 = x.imageDigest) && decide (field h 1151 1024 = x.seed)
    && decide (field h 1279 1152 = x.fseed)

/-- Entries recorded in the descriptor. -/
def State.ckptEntries (s : State) (p : Nat) : List FpEntry :=
  let x := s.part p
  let r := x.theRegion 9
  (List.range (s.readNat p r 24 4)).map (fun i => fpEntryOf (s.readRegion p r (512 + 512 * x.slotCount + 32 * i) 32))

/-- Rows c − 15 to c return to their places; the chain head is that of the checkpoint. -/
def State.restore (s : State) (p c : Nat) : State :=
  let x := s.part p
  let r := x.theRegion 9
  let n := 32 * x.slotCount
  let s1 := (List.range 16).foldl (fun (t : State) i =>
    let place := n * ((c + 17 + i) % 32)
    (t.countRead .hub p r (512 + n * i) n).writeTagged .hub p (x.theRegion 5) place (t.readRegion p r (512 + n * i) n)
      (fun o k => t.copiedPoison p r (512 + n * i) place n o k)) s
  let head := s.readRegion p r 96 32
  ((s1.setObj (0x903002 + 256 * p) (leNat head)).setObj (0x903001 + 256 * p) c).modPart p (fun y =>
    { y with headBefore := head, logStep := s.ckptEntries p })

/-- Steps 1 to 4 of ARM. -/
def State.armSteps (s : State) (p : Nat) (img : Image) : State :=
  let s1 := (s.setJobState p 2).modPart p (fun x => { x with
    image := some img, arming := { Arming.init with loadNo := x.arming.loadNo, step := 1, since := s.ns } })
  let c := s.startBoundary p
  let r := (s1.part p).theRegion 8
  let s2 := s1.countStart p r (8 + s1.readNat p r 0 8)
  if !s2.imageOk p img then s2.armFails p 0x0A 0
  else
    let s3 := s2.setObj (0x904001 + 256 * p) img.slots.length
    if c = 0 then (s3.startKeys p).keysDone p
    else
      let s4 := s3.countStart p ((s3.part p).theRegion 9) (s3.ckptLength p)
      if !s4.ckptMatches p c then s4.armFails p 0x0C 0
      else
        let s5 := (s4.restore p c).countRestored p c
        if s5.jobState p = 7 then s5
        else if decide ((s5.ckptEntries p).map fpEntryBytes = (s5.restoredEntries p c).map fpEntryBytes) then (s5.startKeys p).keysDone p
        else s5.armFails p 0x0C 0

def State.armMessage (s : State) (p : Nat) (m : Ctl) (img : Image) : State :=
  s.control p 2 m (s.jobField p) [1] (fun t => if m.body = [] then (0, t.armSteps p img, []) else (0x13, t, []))

def execArm (p : Fin 4) (m : Ctl) (img : Image) (s : State) : Outcome State Fault Refusal :=
  .next (s.ctlArrives p m (.arm p m img) (fun t => t.armMessage p m img))

/-- Arming ends: ARMED, or LOADED after a failure, with a report (body: control status, detail). -/
def execArmComplete (p : Fin 4) (s : State) : Outcome State Fault Refusal :=
  .next (
    let a := (s.part p).arming
    if s.jobState p = 2 ∧ a.step = 7 then (s.setJobState p 3).report p [0, 0, 0]
    else if s.jobState p = 2 ∧ a.step = 8 then
      let s1 := (s.setJobState p 1).modArming p (fun b => { b with step := 0 })
      (s1.raisePart 0x0103 0 ucPart p p 2 a.status.toNat).report p (leBytes 1 a.status.toNat ++ leBytes 2 a.detail.toNat)
    else s)

/-! ### START and the roll call's end (R293) -/

/-- Units of the partition whose tests run. -/
def State.runningTests (s : State) (p : Nat) : List (BitVec 16) :=
  (s.tests.filter (fun t => decide (t.part.val = p) && t.running)).map (·.unit)

/-- The roll call is over: a link below its minimum halts the job, ROLL gives RUNNING or HELD; with a report (R290). Tests begun before it
end first (16 R397). -/
def State.rollEnds (s : State) (p : Nat) : State :=
  let b := 256 * p
  let s1 := (s.setObj (0x515002 + b) 2).setObj (0x515006 + b) ((s.ns.toNat - (s.part p).rollNs.toNat) / 1000000)
  match (if s1.jobState p = 4 then s1.narrowLink p else none) with
  | some k => s1.haltJob p 6 k
  | none =>
    if s1.jobState p = 4 then
      ((s1.setJobState p (if s1.limit p = s1.startBoundary p then 6 else 5)).modPart p (fun x =>
        { x with hangNs := s.ns, waitNs := s.ns, windowTests := s1.runningTests p })).report p []
    else s1.report p []

/-- Complete the roll call when every entry is confirmed. -/
def State.rollCheck (s : State) (p : Nat) : State := if s.rolling p && (s.part p).rollDone then s.rollEnds p else s

/-- A U64 body. -/
def bodyNat (m : Ctl) (n : Nat) : Option Nat := if m.body.length = n then some (leNat m.body) else none

/-- START's rule: LIMIT and the links are checked, then the roll call begins. -/
def State.startMsg (s : State) (p : Nat) (m : Ctl) : Nat × State × Bytes :=
  match bodyNat m 8 with
  | none => (0x13, s, [])
  | some v =>
    let start := s.startBoundary p
    if v < start then (0x0F, s, [])
    else if (s.narrowLink p).isSome then (0x11, s, [])
    else
      let s1 := ((s.setObj (0x907004 + 256 * p) v).setObj (0x521001 + 256 * p) start).setJobState p 4
      (0, s1.startRoll p, [])

/-- START: the response leaves first; a roll call that has no peer to confirm is complete at once. -/
def State.startMessage (s : State) (p : Nat) (m : Ctl) : State :=
  s.control p 3 m (s.jobField p) [3] (fun t => t.startMsg p m) id (fun t => t.rollCheck p)

def execStart (p : Fin 4) (m : Ctl) (s : State) : Outcome State Fault Refusal :=
  .next (s.ctlArrives p m (.start p m) (fun t => t.startMessage p m))

/-! ### STEP-LIMIT (R294) -/

/-- HELD or a test window ends: the time that it took does not count for the hang watchdog (17 R415). -/
def State.endPause (s : State) (p : Nat) : State :=
  s.modPart p (fun x => { x with hangNs := x.hangNs + (s.ns - x.waitNs), waitNs := s.ns })

/-- A held job goes on; it waits for the tests that run (16 R402). -/
def State.resumeHeld (s : State) (p : Nat) : State :=
  ((s.setJobState p 5).endPause p).modPart p (fun x => { x with windowTests := s.runningTests p })

def State.stepLimitMessage (s : State) (p : Nat) (m : Ctl) : State :=
  s.control p 4 m (s.jobField p) [4, 5, 6] (fun t =>
    match bodyNat m 8 with
    | none => (0x13, t, [])
    | some v =>
      if v < t.stepNo p then (0x0F, t, [])
      else
        let t1 := t.setObj (0x907004 + 256 * p) v
        if t.jobState p = 6 ∧ t.stepNo p < v then (0, t1.resumeHeld p, [])
        else if t.exState p = 0 then (0, t1.holdAtLimit p (t.stepNo p), [])
        else (0, t1, []))

def execStepLimit (p : Fin 4) (m : Ctl) (s : State) : Outcome State Fault Refusal :=
  .next (s.ctlArrives p m (.stepLimit p m) (fun t => t.stepLimitMessage p m))

/-! ### CHECKPOINT (R298, R299) -/

def State.checkpointTakeMsg (s : State) (p c : Nat) : Nat × State × Bytes :=
  let b := 256 * p
  let held := decide (s.jobState p = 6 ∧ s.stepNo p = c)
  if c ≤ s.passedStep p ∧ !held then (0x0F, s, [])
  else if s.obj (0x907007 + b) = 1 ∨ s.obj (0x907007 + b) = 2 then (0x10, s, [])
  else if held then (0, s.takeCheckpoint p c, [])
  else
    let s1 := (s.setObj (0x907006 + b) c).setObj (0x907007 + b) 1
    (0, s1.modPart p (fun x => { x with due := x.due ++ [.take (BitVec.ofNat 64 c)] }), [])

def State.checkpointReleaseMsg (s : State) (p c : Nat) : Nat × State × Bytes :=
  if (s.part p).hold = some (BitVec.ofNat 64 c) then
    (0, (s.setObj (0x907007 + 256 * p) 3).modPart p (fun x => { x with hold := none }), [])
  else (0x0F, s, [])

/-- A CHECKPOINT message: ACTION, STEP. -/
def State.checkpointMessage (s : State) (p : Nat) (m : Ctl) : State :=
  s.control p 5 m (s.jobField p) [4, 5, 6] (fun t =>
    match bodyNat m 9 with
    | none => (0x13, t, [])
    | some v =>
      if v % 256 = 0 then t.checkpointTakeMsg p (v / 256)
      else if v % 256 = 1 then t.checkpointReleaseMsg p (v / 256)
      else (0x13, t, []))

def execCheckpointTake (p : Fin 4) (m : Ctl) (s : State) : Outcome State Fault Refusal :=
  .next (s.ctlArrives p m (.checkpointTake p m) (fun t => t.checkpointMessage p m))

def execCheckpointRelease (p : Fin 4) (m : Ctl) (s : State) : Outcome State Fault Refusal :=
  .next (s.ctlArrives p m (.checkpointRelease p m) (fun t => t.checkpointMessage p m))

/-! ### HALT (R295) -/

/-- An arming is stopped. -/
def State.stopArming (s : State) (p : Nat) : State :=
  if s.jobState p = 2 then s.modArming p (fun a => { a with step := 0 }) else s

def State.haltMsg (s : State) (p : Nat) : Nat × State × Bytes :=
  let j := s.jobState p
  if j = 7 then (0, s, [])
  else if j = 5 then (0, s.haltAtBoundary p 1 0, [])
  else (0, (s.stopArming p).haltJob p 1 0, [])

/-- UNLOAD 0x01 up to the reset of the partition. -/
def State.unloadMsg (s : State) (p : Nat) : Nat × State × Bytes :=
  let j := s.jobState p
  if j = 4 ∨ j = 5 then (0x0D, s, [])
  else if j = 6 then (0, s.haltJob p 1 0, [])
  else (0, s.stopArming p, [])

/-- An accepted UNLOAD 0x01 resets the partition once its response has left: the reset ends the control queue pair. The response shows the
job state after it, EMPTY (R289, R290, R295). -/
def State.unloaded (s : State) (p : Nat) (m : Ctl) : State := if bodyNat m 1 = some 1 then s.resetPart p else s

/-- A HALT message: UNLOAD. -/
def State.haltMessage (s : State) (p : Nat) (m : Ctl) : State :=
  s.control p 6 m (s.jobField p) [1, 2, 3, 4, 5, 6, 7] (fun t =>
    match bodyNat m 1 with
    | some 0 => t.haltMsg p
    | some 1 => t.unloadMsg p
    | _ => (0x13, t, [])) (fun t => t.unloaded p m) (fun t => t.unloaded p m)

def execHalt (p : Fin 4) (m : Ctl) (s : State) : Outcome State Fault Refusal :=
  .next (s.ctlArrives p m (.halt p m) (fun t => t.haltMessage p m))

def execHaltUnload (p : Fin 4) (m : Ctl) (s : State) : Outcome State Fault Refusal :=
  .next (s.ctlArrives p m (.haltUnload p m) (fun t => t.haltMessage p m))

/-! ### QUERY -/

/-- Subindices 01 to 0C of 0x9070 + n, each at its width. -/
def State.queryBody (s : State) (p : Nat) : Bytes :=
  ((List.range' 1 12).map (fun i => leBytes (objSize (0x907000 + 256 * p + i)) (s.obj (0x907000 + 256 * p + i)))).flatten

def State.queryMessage (s : State) (p : Nat) (m : Ctl) : State :=
  s.control p 7 m 0 [0, 1, 2, 3, 4, 5, 6, 7] (fun t => if m.body = [] then (0, t, t.queryBody p) else (0x13, t, []))

def execQuery (p : Fin 4) (m : Ctl) (s : State) : Outcome State Fault Refusal :=
  .next (s.ctlArrives p m (.query p m) (fun t => t.queryMessage p m))

/-! ### Field tests (16 R396 to R401) -/

def isLoomTest (u : BitVec 16) : Bool := decide (u.toNat < 4096)

/-- The loom that a unit word names, by the partition's own numbering (01 R9); a test keeps the one that it named when it was accepted. -/
def State.testLoom (s : State) (p : Nat) (u : BitVec 16) : LoomId := loomOfNumber (s.runLooms p) u.toNat

/-- A unit word names a unit of the partition; bits outside the fields of the word make it name none (DESIGN CHOICE, log 114). -/
def State.testUnitOk (s : State) (p : Nat) (u : BitVec 16) : Bool :=
  let n := u.toNat
  if isLoomTest u then decide (n < s.runLooms p) && decide (s.partOfQuad (s.testLoom p u).q = p)
  else n / 4096 == 1 && decide (n % 4096 < 20) && decide (s.partOfStack (n % 4096) = p)

/-- Make units pending. -/
def State.addTests (s : State) (p : Nat) (us : List (BitVec 16)) : List FTest :=
  us.foldl (fun (m : List FTest) u =>
    if m.any (fun t => t.unit == u && t.part.val == p) then m
    else m ++ [{ unit := u, part := Fin.ofNat 4 p, loom := s.testLoom p u, accepted := s.ns, running := false, overdue := false }]) s.tests

def State.fieldTestMsg (s : State) (p : Nat) (b : Bytes) : Nat × State × Bytes :=
  let n := sliceNat b 0 2
  let us := (List.range n).map (fun i => BitVec.ofNat 16 (sliceNat b (2 + 2 * i) 2))
  let ts := s.addTests p us
  if b.length ≠ 2 + 2 * n ∨ !us.all (s.testUnitOk p) ∨ 256 < ts.length then (0x13, s, []) else (0, { s with tests := ts }, [])

def State.fieldTestMessage (s : State) (p : Nat) (m : Ctl) : State :=
  s.control p 8 m (s.jobField p) [0, 1, 2, 3, 4, 5, 6, 7] (fun t => t.fieldTestMsg p m.body)

def execFieldTest (p : Fin 4) (m : Ctl) (s : State) : Outcome State Fault Refusal :=
  .next (s.ctlArrives p m (.fieldTest p m) (fun t => t.fieldTestMessage p m))

/-- A pending test may start: at once in EMPTY, LOADED, ARMED, HELD and HALTED, or in its window; at most 260 loom tests run (R397 to
R399). -/
def State.testReady (s : State) (t : FTest) : Bool :=
  let j := s.jobState t.part
  (!isLoomTest t.unit || decide ((s.tests.filter (fun x => x.running && isLoomTest x.unit)).length < 260))
    && ([0, 1, 3, 6, 7].contains j || (j == 5 && (s.part t.part).windowTests.contains t.unit))

/-- Two entries are of one unit of one partition. -/
def FTest.same (t x : FTest) : Bool := x.unit == t.unit && x.part == t.part

/-- The test of a unit that may start starts; what it destroys of a loom is free (R399). -/
def execFieldTestStart (u : BitVec 16) (s : State) : Outcome State Fault Refusal :=
  .next (match s.tests.find? (fun t => !s.trip && t.unit == u && !t.running && s.testReady t) with
    | none => s
    | some t =>
      let s1 := { s with tests := s.tests.map (fun (x : FTest) => if t.same x then { x with running := true } else x) }
      if isLoomTest u then
        let l := t.loom
        { s1.setLoom l ((s1.loom l).tested s1.fresh) with fresh := s1.fresh + 1 }
      else s1)

/-- A loom's digests still differ after its sections were sent twice: the LOAD fails (04 R107), an arming as in R292, an armed job back to
LOADED, and a job past START halts (DESIGN CHOICE, log 112). -/
def State.restoreFails (s : State) (p : Nat) (l : LoomId) : State :=
  let j := s.jobState p
  if j = 2 then s.armFails p 0x0B (s.loomNo l)
  else if j = 3 then ((s.setJobState p 1).raisePart 0x0103 0 ucPart p p 2 0x0B).report p (leBytes 1 0x0B ++ leBytes 2 (s.loomNo l))
  else if 4 ≤ j ∧ j ≤ 6 then s.haltJob p 0x0D 0x0B
  else s

/-- The loader rewrites a loom's sections and checks its digests: after a mismatch it sends them once more (04 R107; R399). -/
def State.restoreLoom (s : State) (p : Nat) (l : LoomId) : State :=
  let t := s.restoreSections l
  if t.digestsMatch l then t
  else
    let u := t.restoreSections l
    if u.digestsMatch l then u else u.restoreFails p l

/-- A test ends: record, counts; a loom of a loaded job gets its sections again. -/
def execFieldTestComplete (u : BitVec 16) (failed : Bool) (part : BitVec 8) (s : State) : Outcome State Fault Refusal :=
  .next (match s.tests.find? (fun t => !s.trip && t.unit == u && t.running) with
    | none => s
    | some t =>
      let p := t.part.val
      let f := if failed then 1 else 0
      let s1 := { s with tests := s.tests.filter (fun x => !t.same x) }
      let s2 := ((s1.bump 0x703003 1).bump 0x703004 f).setObj 0x703005 u.toNat
      let s3 := (s2.setObj 0x703006 f).raisePart 0x0707 (if failed then 3 else 0) (if isLoomTest u then ucLoom else ucEngine)
        (u.toNat % 4096) p 0 (f + u.toNat % 2 ^ 15 * 2 + (if failed then part.toNat * 2 ^ 16 else 0))
      let s4 := s3.modPart p (fun x =>
        { x with windowTests := x.windowTests.erase u, window := x.window && decide (x.windowTests.erase u ≠ []) })
      let s5 := if (s3.part p).window && !(s4.part p).window then s4.endPause p else s4
      if isLoomTest u && s5.jobLoaded p then s5.restoreLoom p t.loom else s5)

/-- A test still pending 24 hours after its acceptance. -/
def execFieldTestOverdue (u : BitVec 16) (s : State) : Outcome State Fault Refusal :=
  .next (match s.tests.find? (fun t => t.unit == u && !t.overdue) with
    | none => s
    | some t =>
      let s1 := s.atLeast (t.accepted.toNat + 86400000000000)
      { s1 with tests := s1.tests.map (fun (x : FTest) => if t.same x then { x with overdue := true } else x) }.raisePart 0x0708 2
        (if isLoomTest u then ucLoom else ucEngine) (u.toNat % 4096) t.part.val 0 u.toNat)

end Sys2Proof.Machine
end

