-- ==== Sys2Proof/Machine/Ports.lean ====
section
/-! DEFINITION. The Ethernet ports: the port function (10 R227; 14 R348), training and fallback (R228 to R233), LLDP (R235 to R237),
gateways (R238), PFC (R225, R226), greetings and the roll call (R240 to R243). -/

namespace Sys2Proof.Machine

open Sys2Proof Host

/-! ### The port function -/

/-- Nominal lanes of a link of a port. -/
def State.nominal (s : State) (p : Nat) : Nat := 8 / 2 ^ s.portMode p

/-- Start training a link at its nominal width. -/
def State.trainLink (s : State) (k : Nat) : State :=
  s.setLink k { s.link k with attempt := some (0, s.nominal (k / 8)) }

/-- The port starts: its links are those of its mode, and all train at once. -/
def State.portStart (s : State) (p : Nat) : State :=
  let links := s.linksOf p
  let s1 := (List.range' (8 * p) 8).foldl (fun (t : State) k =>
    t.setObj (linkRef k 1) (if links.contains k then s.nominal p else 0)) s
  -- a run of step 4 begins with the first port that trains (15 R363)
  let s2 := if (List.range 6).any (fun x => decide (s.obj (portRef x 5) = 1)) then s1
            else { s1 with stepStart := SMap.set 0 s1.stepStart 4 s.ns.toNat }
  links.foldl State.trainLink ((s2.setObj (portRef p 5) 1).setObj (portRef p 4) 1)

/-- A write of 0x01 to ENABLE. -/
def State.portEnable (s : State) (p : Nat) : State :=
  if s.obj (portRef p 5) = 3 then s.setObj (portRef p 6) 2
  else if s.trip || s.stepResult 2 != 2 then s.setObj (portRef p 6) 4
  else
    let s1 := s.setObj (portRef p 6) 0
    if s.obj (portRef p 5) = 0 then s1.portStart p else s1

/-- A write of 0x00 to ENABLE. -/
def State.portDisable (s : State) (p : Nat) : State :=
  if s.jobLoaded (s.portOwner p) then s.setObj (portRef p 6) 3
  else
    let s1 := s.setObj (portRef p 6) 0
    if s.obj (portRef p 5) = 1 ∨ s.obj (portRef p 5) = 2 then s1.portStop p else s1

/-- The port is ON once no link of it trains any more; the run of step 4 has lasted until now (15 R363). -/
def State.portTrained (s : State) (p : Nat) : State :=
  if s.obj (portRef p 5) = 1 ∧ (s.linksOf p).all (fun k => (s.link k).attempt == none) then
    (s.setObj (portRef p 5) 2).setObj 0x210114 ((s.ns.toNat - SMap.get 0 s.stepStart 4) / 1000000)
  else s

/-- A function that stops is OFF; a channel's key and queue pair go (13 R324). -/
def execFunctionStopComplete (f : FunctionId) (s : State) : Outcome State Fault Refusal :=
  .next (match f with
    | .port p => if s.obj (portRef p 5) = 3 then s.setObj (portRef p 5) 0 else s
    | .channel n =>
      if s.chanState n = 3 then
        (((s.setObj (0x901009 + 256 * n.val) 0).eraseChannel n).modPart n (fun x =>
          { x with qps := SMap.set Qp.init x.qps 0x4000 Qp.init })).newLoop (loopId 5 n 0x4000)
      else s)

/-! ### Training (R228 to R233) -/

/-- The next group to try below a width: the widest whole group of trained lanes, the lowest of its width (R229). -/
def fallback (nominal : Nat) (trained : List Nat) : List Nat → Option (Nat × Nat)
  | [] => none
  | w :: ws =>
    match (List.range (nominal / w)).find? (fun j => (List.range' (j * w) w).all trained.contains) with
    | some j => some (j * w, w)
    | none => fallback nominal trained ws

/-- Widths below w. -/
def narrower (w : Nat) : List Nat := [4, 2, 1].filter (fun v => decide (v < w))

/-- Results of an attempt's lanes enter their objects. -/
def State.showLanes (s : State) (k first : Nat) (lanes : List LaneResult) : State :=
  (lanes.zipIdx).foldl (fun (t : State) e =>
    let l := k + first + e.2
    let r := e.1
    ((((t.setObj (laneRef l 1) (if r.step = 0 then 1 else 2)).setObj (laneRef l 2) r.step.toNat).setObj (laneRef l 3)
      r.snr.toNat).setObj (laneRef l 4) r.ber.toNat).setObj (laneRef l 5) r.ms.toNat) s

/-- A link comes up below its minimum in a running or held job: port-width fault (R233). -/
def State.widthCheck (s : State) (k : Nat) : State :=
  let p := s.portOwner (k / 8)
  let x := s.part p
  if (s.jobState p = 5 ∨ s.jobState p = 6) ∧ x.portsMask.testBit (k / 8) ∧ s.linkLanes k < x.minLanes (k / 8) then
    (s.raisePart 0x0502 3 ucLink k p 0 (k + s.linkLanes k * 2 ^ 8)).faultAndHalt p 5 6 k
  else s

/-- Record 0x0501 of a link. -/
def State.linkEvent (s : State) (k : Nat) : State :=
  s.raisePart 0x0501 0 ucLink k (s.portOwner (k / 8)) 0 (k + s.linkLanes k * 2 ^ 8)

/-- The link is up on lanes first to first + w − 1. -/
def State.linkComesUp (s : State) (k first w : Nat) : State :=
  let s1 := ((s.setObj (linkRef k 2) w).setObj (linkRef k 3) first).setObj (linkRef k 4) 1
  let s2 := (List.range' (k + first) w).foldl (fun (t : State) l => t.setObj (laneRef l 1) 0) s1
  let s3 := (s2.setLink k { s2.link k with attempt := none }).setObj (0x511006 + 256 * k) 0
  let s4 := if s.obj (portRef (k / 8) 5) = 2 then s3.linkEvent k else s3
  (s4.portTrained (k / 8)).widthCheck k

/-- An attempt ends: up at its width when every lane of it trained, else the next group, else down (R229). The lanes outside a group that was
tried again stand as their own last attempt left them (DESIGN CHOICE, log 134). -/
def execTrainingAttemptComplete (k : Fin 48) (lanes : List LaneResult) (s : State) : Outcome State Fault Refusal :=
  .next (
    let x := s.link k
    let port := k.val / 8
    match x.attempt with
    | none => s
    | some (first, w) =>
      let ls := lanes.take w
      let s1 := s.showLanes k first ls
      let good := (List.range ls.length).filter (fun i => match ls[i]? with | some r => decide (r.step = 0) | none => false)
      let trained := (x.trained.filter (fun l => decide (w ≠ s.nominal port) && (decide (l < first) || decide (first + w ≤ l))))
        ++ good.map (fun i => first + i)
      let s2 := s1.setLink k { x with trained := trained }
      if good.length = w then s2.linkComesUp k first w
      else
        match (if s.obj (portRef port 3) = 1 then fallback (s.nominal port) trained (narrower w) else none) with
        | some a => s2.setLink k { s2.link k with attempt := some a }
        | none => (s2.dropLink k).portTrained port)

/-- A link loses lock: it retrains from its nominal width, and its queue pairs move (R228; 11 R253). -/
def execLinkDown (k : Fin 48) (s : State) : Outcome State Fault Refusal :=
  .next (if s.linkUp k then
    let s1 := ((s.dropLink k).bump (linkRef k 5) 1).trainLink k
    let s2 := s1.linkEvent k
    let p := s2.portOwner (k.val / 8)
    ((SMap.keys (s2.part p).qps).filter (fun n => decide (n ≠ 0x4000) && decide (((s2.part p).qp n).link.toNat = k.val))).foldl
      (fun (t : State) n => t.moveQp p n) s2
  else s)

/-! ### LLDP (R235 to R237) -/

/-- A TLV: type, value. -/
def lldpTlv (type : Nat) (v : Bytes) : Bytes := beBytes 2 (type * 512 + v.length) ++ v

/-- Upper-case hexadecimal digits of a number. -/
def hexDigits : Nat → Nat → List Char
  | 0, _ => []
  | n + 1, x => hexDigits n (x / 16) ++ [(if x % 16 < 10 then Char.ofNat (48 + x % 16) else Char.ofNat (55 + x % 16))]

/-- The name that the serial number gives (14). -/
def State.defaultName (s : State) : Nat := leNat (ascii ("KWF-" ++ String.ofList (hexDigits 16 (s.recField 191 128))))

/-- SYSTEM_NAME: a value set, else the name from the serial number. -/
def State.nameOf (s : State) (v : Nat) : Nat := if v < 256 ^ 64 then v else s.defaultName

/-- The name in force. -/
def State.systemName (s : State) : Nat := s.nameOf (s.live 0x10000D)

/-- Bytes of a text without its zero padding. -/
def trimZeros (b : Bytes) : Bytes := (b.reverse.dropWhile (· == 0)).reverse

/-- MAC address of link k, or of the management port (63), in network order (R223). -/
def State.macOf (s : State) (k : Nat) : Bytes := beBytes 6 (s.baseMac + k)

def falvouthTlv (sub : Nat) (info : Bytes) : Bytes := lldpTlv 127 ([0x4A, 0xC3, 0x70] ++ leBytes 1 sub ++ info)

/-- Placement information (R236), most significant octet first. -/
def State.placement (s : State) (k : Nat) : Bytes :=
  beBytes 9 (s.stepping * 2 ^ 64 + s.grade * 2 ^ 48 + s.straps.toNat * 2 ^ 40 + k / 8 * 2 ^ 32 + k * 2 ^ 24
    + s.obj (linkRef k 1) * 2 ^ 16 + s.linkLanes k * 2 ^ 8 + s.portOwner (k / 8))

def natText (n : Nat) : Bytes := ascii (toString n)

/-- The LLDPDU of a link. -/
def State.lldpdu (s : State) (k : Nat) : Bytes :=
  lldpTlv 1 ([4] ++ s.macOf 0) ++ lldpTlv 2 ([3] ++ s.macOf k) ++ lldpTlv 3 (beBytes 2 (4 * s.live 0x510002 + 1))
    ++ lldpTlv 4 (ascii "KWF P" ++ natText (k / 8) ++ ascii " link " ++ natText k)
    ++ lldpTlv 5 (trimZeros (leBytes 64 s.systemName)) ++ lldpTlv 7 (beBytes 4 0x00800080)
    ++ (if (s.live 0x510003).testBit 0 then falvouthTlv 1 s.identDigest else [])
    ++ (if (s.live 0x510003).testBit 1 then falvouthTlv 2 (s.placement k) else []) ++ [0, 0]

/-- An untagged frame has no priority that PFC could pause (8). -/
def execLldpTransmit (k : Fin 48) (s : State) : Outcome State Fault Refusal :=
  .next (if s.fwUp && s.linkUp k && (s.live 0x510001).testBit (k.val / 8) then
    s.sendFrame k { prio := 8, count := 1, again := false, out := .lldp k (s.lldpdu k) } else s)

def neighbourRef (k sub : Nat) : Nat := 0x511000 + 256 * k + sub

/-- A change of neighbour is counted and raised. -/
def State.neighbourChange (s : State) (k : Nat) : State := (s.bump (neighbourRef k 5) 1).linkEvent k

/-- An LLDPDU on a link: the record of the link is replaced; a second chassis since the link came up sets MULTI. -/
def State.neighbour (s : State) (k : Nat) (m : Lldp) : State :=
  let old := (s.obj (neighbourRef k 1), s.obj (neighbourRef k 2))
  let new := (leNat (fitBytes 32 m.chassis), leNat (fitBytes 32 m.port))
  let x := s.link k
  let s1 := ((s.setObj (neighbourRef k 1) new.1).setObj (neighbourRef k 2) new.2).setObj (neighbourRef k 3) (leNat (fitBytes 64 m.name))
  let s2 := s1.setLink k { x with ttlUntil := some (s.ns + BitVec.ofNat 64 (m.ttl.toNat * 1000000000))
                                  chassis := some (x.chassis.getD new.1) }
  let s3 := if x.chassis.getD new.1 ≠ new.1 then s2.setObj (neighbourRef k 6) 1 else s2
  if x.ttlUntil != none && old == new then s3 else s3.neighbourChange k

def execLldpReceive (k : Fin 48) (m : Lldp) (s : State) : Outcome State Fault Refusal :=
  .next (if s.fwUp && s.linkUp k then
    (if s.queueTakes (0x200 + 2 * (k.val / 8)) then (s.portIn (k.val / 8) 1).neighbour k m
     else if s.queueRoom (0x200 + 2 * (k.val / 8)) then s.portIn (k.val / 8) 1 else s)
  else s)

def execNeighbourExpiry (k : Fin 48) (s : State) : Outcome State Fault Refusal :=
  .next (match (s.link k).ttlUntil with
    | none => s
    | some t =>
      let s1 := s.atLeast t.toNat
      let s2 := s1.setLink k { s1.link k with ttlUntil := none }
      ([1, 2, 3].foldl (fun (u : State) i => u.setObj (neighbourRef k i) 0) s2).neighbourChange k)

/-! ### Addresses (R238) -/

/-- An address as 16 octets; IPv4 as ::ffff:a.b.c.d. -/
def addr16 (b : Bytes) : Bytes := if b.length = 4 then List.replicate 10 0 ++ [0xFF, 0xFF] ++ b else b

/-- Interface addresses (0) or gateways (1) of a link with their VIDs: of the job's link entries, and of a control channel on it. -/
def State.linkAddrs (s : State) (k which : Nat) : List (Bytes × Nat) :=
  let p := s.portOwner (k / 8)
  let x := s.part p
  let job := if s.jobLoaded p then ((List.range x.paths).filter (fun l => x.linkOf l == k)).map (fun l =>
      (leBytes 16 (field (x.linkEntry x.rank l) (191 + 128 * which) (64 + 128 * which)), x.linkVid k)) else []
  let chan := if s.chanState p ≠ 0 ∧ s.obj (0x901001 + 256 * p) = k then
      [(leBytes 16 (s.obj (0x901003 + 2 * which + 256 * p)), s.obj (0x901002 + 256 * p))] else []
  job ++ chan

/-- Send an ARP or Neighbour Discovery message on a link, at priority 0 (DESIGN CHOICE, log 85). -/
def State.sendArp (s : State) (k vid : Nat) (isReply : Bool) (a : Bytes) : State :=
  s.sendFrame k { prio := 0, count := 1, again := false, out := .arp k (BitVec.ofNat 12 vid) isReply a (BitVec.ofNat 48 (s.baseMac + k)) }

/-- Ask for the MAC address of every gateway of a link. -/
def execGatewayResolve (k : Fin 48) (s : State) : Outcome State Fault Refusal :=
  .next (if s.linkUp k then
    (s.linkAddrs k 1).foldl (fun (t : State) a =>
      let x := t.link k
      (t.setLink k { x with asked := if x.asked.contains a.1 then x.asked else x.asked ++ [a.1] }).sendArp k a.2 false a.1) s
  else s)

/-- A request for an own address of the link is answered; a reply to a question about a gateway is recorded. -/
def State.arpTaken (s : State) (k : Nat) (m : ArpMsg) : State :=
  match m with
  | .request target _ _ =>
    match (s.linkAddrs k 0).find? (fun a => a.1 == addr16 target) with
    | some a => s.sendArp k a.2 true target
    | none => s
  | .reply addr mac =>
    let a := addr16 addr
    let x := s.link k
    if x.asked.contains a then
      s.setLink k { x with gateways := (a, mac) :: x.gateways.filter (fun g => g.1 != a), asked := x.asked.filter (· != a) }
    else s

/-- The management port's address fe80::4b57:46ff:fe00:n (14 R335). -/
def State.mgtAddr (s : State) : Bytes := beBytes 16 (0xFE80 * 2 ^ 112 + 0x4B5746FFFE000000 + s.straps.toNat)

def execArpNdReceive (at_ : ArpPort) (m : ArpMsg) (s : State) : Outcome State Fault Refusal :=
  .next (match at_, m with
    | .link f, _ =>
      if s.linkUp f.k then
        let r := s.rxFrame f 1
        if r.2 then r.1.arpTaken f.k m else r.1
      else s
    | .management, .request target _ _ =>
      if s.portSpeaks && target == s.mgtAddr then s.emit (.arp 48 0 true target (BitVec.ofNat 48 (s.baseMac + 63))) else s
    | .management, .reply _ _ => s)

/-! ### PFC and PAUSE (R225, R226) -/

/-- A PFC frame of a priority with PFC on: XOFF holds back the frames of the priority, XON lets them go. -/
def execPfcReceive (k : Fin 48) (prio : Fin 8) (xoff : Bool) (s : State) : Outcome State Fault Refusal :=
  .next (if !s.linkUp k then s
  else if (s.obj (portRef (k.val / 8) 7)).testBit prio.val then
    let x := s.link k
    let bit := BitVec.ofNat 8 (2 ^ prio.val)
    if xoff then s.setLink k { x with pauses := x.pauses ||| bit }
    else (s.setLink k { x with pauses := x.pauses &&& ~~~bit }).release k
  else s.rxDrop k)

def execPauseFrame (k : Fin 48) (s : State) : Outcome State Fault Refusal := .next (if s.linkUp k then s.rxDrop k else s)

/-! ### Greetings (R240 to R242) -/

/-- Links assigned to a peer, as a mask of device links. -/
def Part.linkMask (x : Part) : Nat := x.ownLinks.foldl (fun a k => a ||| 2 ^ k) 0

/-- The greeting to rank r on link k. -/
def State.makeGreeting (s : State) (p r k : Nat) (answer : Bool) : Word512 :=
  let x := s.part p
  BitVec.ofNat 512 (beNat x.digest * 2 ^ 256 + x.rank * 2 ^ 240 + r * 2 ^ 224 + x.ranks * 2 ^ 208
    + (x.peer x.rank).epoch.toNat * 2 ^ 192 + s.obj (0x515001 + 256 * p) * 2 ^ 176 + k * 2 ^ 168
    + (if answer then 2 ^ 160 else 0) + (x.peer r).heard.toNat * 2 ^ 112 + s.ident64 * 2 ^ 48)

/-- Link index of a device link of the own rank. -/
def Part.linkIndex (x : Part) (k : Nat) : Nat := ((List.range x.paths).find? (fun l => x.linkOf l == k)).getD 0

/-- Send a greeting to rank r on link k: UDP port 5120, PCP_DATA, under the association with the rank on that link (R240); while there is
none, no greeting leaves. -/
def State.greet (s : State) (p r k : Nat) (answer : Bool) : State :=
  let x := s.part p
  let g := s.makeGreeting p r k answer
  let a := 4 * r + x.linkIndex k
  let w : Wire :=
    { link := BitVec.ofNat 8 k, vid := BitVec.ofNat 12 (x.linkVid k), pcp := BitVec.ofNat 3 (s.pcpData k), dst := x.partyAddr r, dscp := 0
      ect := false, source := 5120, port := 5120, icrc := none, esp := some (s.espOf p a 0 (beBytes 64 g.toNat)) }
  if (x.sa (2 * a)).key = [] then s
  else (s.setPart p (x.setSa (2 * a) { x.sa (2 * a) with seq := (x.sa (2 * a)).seq + 1 })).sendFrame k
    { prio := s.pcpData k, count := 1, again := false, out := .greeting p r w g }

/-- The partition handles greetings (R242). -/
def State.greets (s : State) (p : Nat) : Bool :=
  let j := s.jobState p
  j == 3 || j == 4 || j == 5 || j == 6 || (j == 2 && decide (5 ≤ s.armStep p) && decide (s.armStep p ≤ 7))

/-- A greeting that passes ESP is valid (R241). -/
def State.greetingValid (s : State) (p r : Nat) (g : Nat) : Bool :=
  let x := s.part p
  let e := x.peer r
  decide (field g 511 256 = beNat x.digest) && decide (field g 223 208 = x.ranks) && decide (field g 255 240 = r)
    && decide (field g 239 224 = x.rank) && decide (field g 207 192 = e.epoch.toNat) && decide (field g 111 48 = e.ident.toNat)
    && decide (field g 191 176 = s.obj (0x515001 + 256 * p))

/-- The entry after a valid greeting. -/
def Part.heardFrom (x : Part) (r g : Nat) (now : BitVec 64) : Part :=
  let e := x.peer r
  let mask := x.linkMask
  let all := decide (field g 159 112 &&& mask = mask)
  let e1 := { e with seen := now, heard := e.heard ||| BitVec.ofNat 48 (2 ^ field g 175 168) }
  x.setPeer r (
    if e.state = 5 then e1
    else if e.state = 6 then { e1 with state := 4 }
    else if (e.state = 2 ∨ e.state = 3) ∧ all then { e1 with state := 4, links := BitVec.ofNat 48 mask }
    else if e.state = 2 then { e1 with state := 3 }
    else e1)

/-- A greeting with a reserved value (R225). -/
def greetingReserved (g : Nat) : Bool := decide (48 ≤ field g 175 168)

/-- A greeting that has passed ESP, from the rank of its association (R241, R242). -/
def State.greetingTaken (s : State) (p r k : Nat) (g : Word512) : State :=
  let x := s.part p
  if !s.greets p || decide (x.ranks ≤ r) then s
  else if greetingReserved g.toNat then s.rxDrop k
  else if s.greetingValid p r g.toNat then
    let s1 := s.setPart p (x.heardFrom r g.toNat s.ns)
    (if g.getLsbD 160 then s1 else s1.greet p r k true).rollCheck p
  else (s.setPart p (x.setPeer r { x.peer r with state := 5 })).bump (0x515004 + 256 * p) 1

/-- A greeting before its contents are looked at. -/
def State.rxGreeting (s : State) (p : Fin 4) (h : EspHdr) (g : Word512) : State :=
  match s.rxEsp p h 1 with
  | (u, false) => u
  | (u, true) => u.greetingTaken p (h.qpn.toNat / 4) h.frame.k g

def execGreetingReceive (p : Fin 4) (h : EspHdr) (g : Word512) (s : State) : Outcome State Fault Refusal :=
  .next (s.arrives p h.frame 1 (.greetingReceive p h g) (fun t => t.rxGreeting p h g))

/-- During its roll call the device greets each entry that is listed, heard or in mismatch, on each link (R242). -/
def execGreetingPeriod (p : Fin 4) (s : State) : Outcome State Fault Refusal :=
  .next (if s.rolling p && s.greets p && !s.hubStopped p then
    let x := s.part p
    ((List.range x.ranks).filter (fun r => r != x.rank && ((x.peer r).state == 2 || (x.peer r).state == 3 || (x.peer r).state == 5))).foldl
      (fun (t : State) r => (x.ownLinks.filter s.linkUp).foldl (fun (u : State) k => u.greet p r k false) t) s
  else s)

/-- The roll call has not completed in time: FAILED, and the job halts; a link below its minimum comes first (12 R293). -/
def execRollCallTimeout (p : Fin 4) (s : State) : Outcome State Fault Refusal :=
  .next (if s.rolling p then
    let x := s.part p
    let s1 := s.atLeast (x.rollNs.toNat + x.rollMs * 1000000)
    let s2 := (s1.setObj (0x515002 + 256 * p.val) 3).setObj (0x515006 + 256 * p.val) ((s1.ns.toNat - x.rollNs.toNat) / 1000000)
    match (if s2.jobState p = 4 then s2.narrowLink p else none) with
    | some k => s2.haltJob p 6 k
    | none => s2.haltJob p 0x0B (x.unconfirmed.headD 0)
  else s)

end Sys2Proof.Machine
end

