-- ==== Sys2Proof/Machine/Reads.lean ====
section
/-! DEFINITION. What a read of an object gives (14 R339, R345): stored values, and values that the device forms at the read. -/

namespace Sys2Proof.Machine

open Sys2Proof

/-! ### Existence -/

/-- Object 0x2211 exists only on B0 (00 R1, 05 R123). -/
def State.hasRow (s : State) (o : ObjRow) : Bool := decide (o.base ≠ 0x2211) || s.stepping == 0xB0

/-- The row of a reference on this device. -/
def State.row? (s : State) (ref : Nat) : Option ObjRow :=
  match objRow? ref with
  | some o => if s.hasRow o then some o else none
  | none => none

/-- Some object has the index. -/
def State.hasIndex (s : State) (i : Nat) : Bool := objRows.any (fun o => o.hasIndex i && s.hasRow o)

/-- The next existing reference, or 0 (14 R345). -/
def State.nextRef (s : State) (ref : Nat) : Nat :=
  (objRows.filter s.hasRow).foldl (fun a o =>
    match o.nextAfter ref with
    | some x => if a = 0 ∨ x < a then x else a
    | none => a) 0

/-! ### Nodes -/

/-- The node's lock is open: an unlock within the last second (14 R350). -/
def State.unlocked (s : State) (n : Nat) : Bool :=
  match (s.node n).unlockedAt with
  | some t => decide (s.ns.toNat < t.toNat + 1000000000)
  | none => false

/-- The node's staging area is open: a staged frame within the last 10 s (14 R340). -/
def State.stagingOpen (s : State) (n : Nat) : Bool :=
  (s.node n).staging.isSome && decide (s.ns.toNat < (s.node n).stagedAt.toNat + 10000000000)

/-- The operator session of a node is open: an AUTH write within IDLE_S (13 R328). -/
def State.sessionOpen (s : State) (n : Nat) : Bool :=
  decide ((s.node n).session = 2)
    && decide (s.ns.toNat < (s.node n).lastAuth.toNat + (s.node n).idleS.toNat * 1000000000)

/-- What 0x6020:05 shows. -/
def State.sessionState (s : State) (n : Nat) : Nat :=
  if (s.node n).session = 2 ∧ !s.sessionOpen n then 0 else (s.node n).session.toNat

/-! ### The event controller (14 R354) -/

def Source.isPending (x : Source) : Bool := x.asserted && x.enable && x.claimed.isNone

/-- Pending sources, ascending. -/
def State.pendingSources (s : State) : List Nat := (SMap.keys s.sources).filter (fun n => (s.source n).isPending)

/-! ### Values formed at the read -/

/-- Identity objects (14 R345). -/
def State.readIdentity (s : State) (b : Nat) : Nat :=
  if b = 2 then
    (if s.recordOk then
      leNat (ascii ("KWF-" ++ (if s.grade = 1600 then "1600" else "2000") ++ (if s.stepping = 0xB0 then "-B0" else "-A1"))) else 0)
  else if b = 3 then s.stepping
  else if b = 4 then s.grade
  else if b = 5 then s.recField 191 128
  else if b = 6 then s.recField 127 80
  else if b = 7 then (if s.recordOk then leNat s.identDigest else 0)
  else if b = 8 then s.recField 799 256
  else if b = 9 then s.recField 223 192
  else if b = 0x0C then s.straps.toNat
  else if b = 0x0D then s.nameOf (s.obj 0x10000D)
  else if b = 0x0E then s.idcode
  else s.obj (0x100000 + b)

/-- Result of step 4, the sum of the port functions (15 R368). -/
def State.portStepResult (s : State) : Nat :=
  let on := (List.range 6).filter (fun p => s.obj (portRef p 4) == 1)
  if on = [] then 0
  else if on.all (fun p => (s.linksOf p).all (fun k =>
    decide (s.obj (linkRef k 4) = 1) && decide (s.obj (linkRef k 2) = s.obj (linkRef k 1)))) then 2
  else 3

/-- A peer entry as 0x5180 shows it (10 R239). -/
def Peer.entry (x : Peer) : Nat :=
  x.addr.toNat + x.ident.toNat * 2 ^ 128 + x.seen.toNat * 2 ^ 192 + x.state.toNat * 2 ^ 256 + x.epoch.toNat * 2 ^ 264
    + x.links.toNat * 2 ^ 288

/-- Ranks of partition p whose peer entry is in a state. -/
def Part.countState (x : Part) (st : BitVec 4) : Nat := ((List.range x.ranks).filter (fun r => (x.peer r).state == st)).length

/-- The record of the log with a sequence number; 0 when not held. -/
def State.logRecord (s : State) (seq : Nat) : Nat :=
  match s.log.find? (fun r => field r.bits.toNat 319 288 == seq) with
  | some r => r.bits.toNat
  | none => 0

/-- The 17 latched values of a unit word: class [3:0], number [19:4] (17 R405). -/
def State.latchedCounts (s : State) (u : Nat) : Nat :=
  if s.obj 0x800002 = 0 then 0
  else leNat (((s.unitCounts s.latched (u % 16) (u / 16 % 2 ^ 16)).map (fun c => leBytes 8 c.toNat)).flatten)

/-- Objects of a partition's roll call (10). -/
def State.readRoll (s : State) (p b : Nat) : Nat :=
  let x := s.part p
  if b = 3 then x.countState 4
  else if b = 5 then (if s.jobLoaded p then x.unconfirmed.headD 0xFFFF else 0xFFFF)
  else if b = 7 then x.countState 6
  else s.obj (0x515000 + 256 * p + b)

/-- Field tests (16 R396). -/
def State.readTests (s : State) (b : Nat) : Nat :=
  if b = 1 then s.tests.length
  else if b = 2 then (s.tests.filter (·.overdue)).length
  else if b = 7 then
    leNat (((List.range 256).map (fun i => leBytes 2 (match s.tests[i]? with | some t => t.unit.toNat | none => 0xFFFF))).flatten)
  else s.obj (0x703000 + b)

/-- Objects that keep a value for each node. -/
def State.readOfNode (s : State) (n ref : Nat) : Nat :=
  let x := s.node n
  if ref = 0x120002 then (if s.unlocked n then 1 else 0)
  else if ref = 0x120101 then x.query.toNat
  else if ref = 0x602003 then leNat x.challenge
  else if ref = 0x602005 then s.sessionState n
  else if ref = 0x602006 then x.idleS.toNat
  else if ref = 0x700004 then x.readSeq.toNat
  else if ref = 0x700005 then (if x.readSeq = 0 then 0 else s.logRecord x.readSeq.toNat)
  else if ref = 0x800003 then x.unit.toNat
  else if ref = 0x800101 then s.latchedCounts x.unit.toNat
  else x.loomSel.toNat

/-- The value of an object for the reading node, as a number; the description objects and the objects read by the byte are
dealt with apart. -/
def State.readBase (s : State) (n ref : Nat) : Nat :=
  let i := ref / 256
  let b := ref % 256
  if i = 0x1000 then s.readIdentity b
  else if i = 0x1001 then s.recField (1024 + 32 * (b - 1) + 25) (1024 + 32 * (b - 1))
  else if i = 0x1002 then s.flash.record.toNat + leNat (s.flash.recordTail.take 5712) * 2 ^ 4096
  else if ref = 0x110001 then leNat (s.macOf 63)
  else if ref = 0x112003 then s.notices.length
  else if ref = 0x120002 ∨ ref = 0x120101 ∨ i = 0x6020 ∨ ref = 0x700004 ∨ ref = 0x700005 ∨ ref = 0x800003 ∨ i = 0x8001 ∨ i = 0x8060
    then s.readOfNode n ref
  else if ref = 0x120207 then ((List.range 8).filter s.stagingOpen).foldl (fun a j => a + 2 ^ j) 0
  else if ref = 0x121005 then coveredRefs.length
  else if ref = 0x123001 then s.pendingSources.length
  else if ref = 0x201001 then s.ns.toNat
  else if i = 0x2010 then (s.quad (b - 2)).count.toNat
  else if ref = 0x210104 then s.portStepResult
  else if ref = 0x220001 then (if s.stepping = 0xB0 then 0xB0 else 0xA1)
  else if ref = 0x220003 then (if s.stepping = 0xB0 then 0xB0 else 0)
  else if ref = 0x221030 then profileDigest 0xA1
  else if ref = 0x221130 then profileDigest 0xB0
  else if 0x5110 ≤ i ∧ i < 0x5140 ∧ b = 4 then
    (match (s.link (i - 0x5110)).ttlUntil with
      | some t => (t.toNat - s.ns.toNat + 999999999) / 1000000000
      | none => 0)
  else if 0x5150 ≤ i ∧ i < 0x5154 then s.readRoll (i - 0x5150) b
  else if ref = 0x600501 then s.leavesLeft
  else if ref = 0x600502 then s.sec.nxt.toNat
  else if ref = 0x600503 then 65536 - s.sec.slot.toNat
  else if i = 0x7030 then s.readTests b
  else if ref = 0x900009 then (if s.obj ref = 0 && !s.layoutStaged then 1 else s.obj ref)
  else s.obj ref

/-- DEFAULT of a description: values taken from the record, the ROM and the straps are their own defaults (14 R345). -/
def State.shownDefault (s : State) (o : ObjRow) (n ref : Nat) : Nat :=
  if o.access = 1 then s.readBase n ref % 2 ^ 64
  else if ref = 0x10000D then s.defaultName % 2 ^ 64
  else if ref = 0x121005 then coveredRefs.length
  else o.deflt % 2 ^ 64

/-- The 24-byte descriptor of a reference; zero when it does not exist. -/
def State.objDescriptor (s : State) (n ref : Nat) : Nat :=
  match s.row? ref with
  | some o => o.type + o.access * 2 ^ 8 + o.wclass * 2 ^ 16 + o.persist * 2 ^ 20 + o.unit * 2 ^ 24 + o.size * 2 ^ 32
      + s.shownDefault o n ref * 2 ^ 64
  | none => 0

/-- The value of an object for the reading node, as a number. -/
def State.objNat (s : State) (n ref : Nat) : Nat :=
  if ref = 0x120102 then s.objDescriptor n (s.node n).query.toNat
  else if ref = 0x120103 then s.nextRef (s.node n).query.toNat
  else s.readBase n ref

/-! ### Objects read by the byte -/

/-- Objects that are read by the byte. -/
def readsByByte (i : Nat) : Bool :=
  (decide (0x5180 ≤ i) && decide (i < 0x5184)) || i == 0x7001 || i == 0x8011 || i == 0x8061 || i == 0x8081

/-- Byte k of the record whose SEQ lies at its place in the ring (16 R393). -/
def State.ringByte (s : State) (k : Nat) : Byte :=
  match s.log.find? (fun r => field r.bits.toNat 319 288 % 4096 == k / 64) with
  | some r => BitVec.ofNat 8 (r.bits.toNat / 256 ^ (k % 64))
  | none => 0

/-- Byte k of an object read by the byte. -/
def State.bigByte (s : State) (n i k : Nat) : Byte :=
  if i < 0x5184 then BitVec.ofNat 8 (((s.part (i - 0x5180)).peer (k / 48)).entry / 256 ^ (k % 48))
  else if i = 0x7001 then s.ringByte k
  else if i = 0x8011 then BitVec.ofNat 8 ((SMap.get 0 s.traceRing (k / 32)).toNat / 256 ^ (k % 32))
  else if i = 0x8061 then
    match s.loomOfNo (s.node n).loomSel.toNat with
    | some l => if s.scanned (loomKey l) = [] then 0 else Config.scanByte (s.scanned (loomKey l)) k
    | none => 0
  else BitVec.ofNat 8 (SMap.get 0 s.hangSnap (k / 4) / 256 ^ (k % 4))

/-- The slot that does not run (13 R309). -/
def State.idleSlot (s : State) : FwSlot := s.flash.slotOf (!s.sec.bootedB)

/-- `len` bytes of an object from a byte offset, cut at its end. A WO object reads as zeros (14 R339). -/
def State.readBytes (s : State) (n ref off len : Nat) : Bytes :=
  match s.row? ref with
  | none => []
  | some o =>
    let cut := Nat.min len (o.size - off)
    if o.access = 4 then List.replicate cut 0
    else if readsByByte (ref / 256) then (List.range cut).map (fun k => s.bigByte n (ref / 256) (off + k))
    else if ref = 0x600105 then (List.range cut).map (fun k => BitVec.ofNat 8 (SMap.get 0 s.idleSlot.bytes (off + k)))
    else ((leBytes o.size (s.objNat n ref)).drop off).take cut

/-- The references of an index, ascending. -/
def State.refsOfIndex (s : State) (i : Nat) : List Nat :=
  (((objRows.filter s.hasRow).map (fun o => o.refs.filter (fun r => r / 256 == i))).flatten).foldl (fun l x => insertSorted x l) []

/-- Bytes of a whole index: the values of its subindices in ascending order (14 R339). -/
def State.readIndex (s : State) (n i off len : Nat) : Bytes :=
  (((s.refsOfIndex i).foldl (fun (a : Nat × Bytes) ref =>
    -- a.1: bytes of the index before this object; keep what falls into the range
    let sz := objSize ref
    let lo := Nat.max off a.1
    let hi := Nat.min (off + len) (a.1 + sz)
    (a.1 + sz, if lo < hi then a.2 ++ s.readBytes n ref (lo - a.1) (hi - lo) else a.2)) (0, [])).2)

/-- Bytes of a whole index together. -/
def State.indexSize (s : State) (i : Nat) : Nat := (s.refsOfIndex i).foldl (fun a ref => a + objSize ref) 0

end Sys2Proof.Machine
end

