-- ==== Sys2Proof/Machine/Writes.lean ====
section
/-! DEFINITION. What a dictionary write does to the unit that owns the object (14 R346 to R353 and the rules of the units).
Every function answers the state and the dictionary status. -/

namespace Sys2Proof.Machine

open Sys2Proof

/-- Change what is kept for a node. -/
def State.modNode (s : State) (n : Nat) (f : Node → Node) : State := s.setNode n (f (s.node n))

/-! ### Guards (14 R350, R351) -/

/-- A guard fault, or a session refused: record 0x0709 with the dictionary OP. -/
def State.guardRecord (s : State) (op n : Nat) : State :=
  s.raise { code := 0x0709, sev := 1, uclass := ucHub, unit := 0, part := 7, op := op, detail := n % 256, quad := none }

/-- A wrong key or a wrong complement. -/
def State.guardFault (s : State) (op n : Nat) : State := (s.bump 0x120003 1).guardRecord op n

/-- A write of UNLOCK. -/
def State.unlockWrite (s : State) (op n v : Nat) : State × Nat :=
  if v = 0x6D3A then (s.modNode n (fun x => { x with unlockedAt := some s.ns }), 0)
  else ((s.modNode n (fun x => { x with unlockedAt := none })).guardFault op n, 6)

/-- The compatibility sequence is forgotten. -/
def State.dropCompat (s : State) (n : Nat) : State := s.modNode n (fun x => { x with target := none, value := none })

def State.targetWrite (s : State) (n v : Nat) : State × Nat :=
  (s.modNode n (fun x => { x with target := some (BitVec.ofNat 32 v), value := none, compatAt := s.ns }), 0)

/-- VALUE counts only as the second write of the sequence. -/
def State.valueWrite (s : State) (n v : Nat) : State × Nat :=
  match (s.node n).target, (s.node n).value with
  | some _, none => (s.modNode n (fun x => { x with value := some (BitVec.ofNat 64 v) }), 0)
  | _, _ => (s.dropCompat n, 0)

/-! ### Bring-up, layout, functions -/

/-- A write of ENABLE of a control channel (12 R288; 14 R348); leaving ON erases its keys (13 R324). -/
def State.channelEnable (s : State) (n v : Nat) : State :=
  let st := s.chanState n
  let ok := s.setObj (0x90100A + 256 * n) 0
  if v = 1 then
    if st = 3 then s.setObj (0x90100A + 256 * n) 2
    else if st = 0 then (((ok.setObj (0x901008 + 256 * n) 1).setObj (0x901009 + 256 * n) 1).newControlQp n) else ok
  else if st = 1 ∨ st = 2 then ((ok.setObj (0x901008 + 256 * n) 0).setObj (0x901009 + 256 * n) 3).eraseChannel n else ok

/-- A write of ENABLE of a port. -/
def State.portWrite (s : State) (p v : Nat) : State := if v = 1 then s.portEnable p else s.portDisable p

/-! ### Class D (14 R346) -/

/-- A covered write was accepted: the seal is stale (14 R353). -/
def State.coveredWrite (s : State) : State := { s.setObj 0x121003 3 with sealArmed := false }

/-- A structural write: accepted while its function is disabled, else ignored, flagged, 0x08. -/
def State.structuralWrite (s : State) (ref v status : Nat) (disabled : Bool) : State × Nat :=
  if disabled then ((s.setObj ref v).coveredWrite, 0) else (s.setObj status 1, 8)

/-- Some partition with a job loaded has its bit changed by writing v over w. -/
def State.touchesLoaded (s : State) (v w : Nat) : Bool :=
  (List.range 4).any (fun p => s.jobLoaded p && v.testBit p != w.testBit p)

/-- The bits of v for partitions without a job, those of w for the others. -/
def State.mergeUnloaded (s : State) (v w : Nat) : Nat :=
  (List.range 4).foldl (fun a p => if (if s.jobLoaded p then w.testBit p else v.testBit p) then a + 2 ^ p else a) 0

/-- ASSAY_ENABLE (16 R382): a write that affects a partition with a job loaded is ignored. -/
def State.assayWrite (s : State) (v : Nat) : State × Nat :=
  if s.touchesLoaded v (s.obj 0x702001) then (s.setObj 0x702002 1, 8)
  else (((s.setObj 0x702001 v).setObj 0x702002 0).coveredWrite, 0)

/-- ENABLE of the hazard detector (04 R109): it takes effect for the partitions that have no job loaded. -/
def State.hazardEnableWrite (s : State) (v : Nat) : State × Nat :=
  let hit := s.touchesLoaded v (s.obj 0x802001)
  let w := s.mergeUnloaded v (s.obj 0x802001)
  let s1 := if hit && w == s.obj 0x802001 then s else (s.setObj 0x802001 w).coveredWrite
  (s1.setObj 0x802003 (if hit then 1 else 0), if hit then 8 else 0)

/-- ACTION of the hazard detector: one value for all partitions, so a job loaded in any of them is affected. -/
def State.hazardActionWrite (s : State) (v : Nat) : State × Nat :=
  if s.anyJob && decide (v ≠ s.obj 0x802002) then (s.setObj 0x802003 1, 8)
  else (((s.setObj 0x802002 v).setObj 0x802003 0).coveredWrite, 0)

/-- The status object of an accepted structural write of 0x5200 returns to accepted. -/
def State.settingsWrite (s : State) (ref v : Nat) : State × Nat :=
  if s.anyJob then (s.setObj 0x520006 1, 8) else (((s.setObj ref v).setObj 0x520006 0).coveredWrite, 0)

/-- A write to a class-D object. -/
def State.classDWrite (s : State) (ref v : Nat) : State × Nat :=
  let i := ref / 256
  if i < 0x5006 then
    let p := i - 0x5000
    if s.obj (portRef p 5) = 0 then (((s.setObj ref v).setObj (portRef p 6) 0).coveredWrite, 0)
    else s.structuralWrite ref v (portRef p 6) false
  else if i = 0x5200 then s.settingsWrite ref v
  else if i = 0x7020 then s.assayWrite v
  else if ref = 0x802001 then s.hazardEnableWrite v
  else if ref = 0x802002 then s.hazardActionWrite v
  else
    let n := i - 0x9010
    if s.chanState n = 0 then (((s.setObj ref v).setObj (0x90100A + 256 * n) 0).coveredWrite, 0)
    else s.structuralWrite ref v (0x90100A + 256 * n) false

/-! ### Firmware (13 R308, R309) -/

/-- Entries of the version journal: 64 KiB of 4 bytes each. -/
def versionJournalSize : Nat := 16384

/-- Replace the slot that does not run. -/
def State.setIdleSlot (s : State) (x : FwSlot) : State :=
  ({ s with flash := if s.sec.bootedB then { s.flash with slotA := x } else { s.flash with slotB := x } }).showFirmware

/-- A firmware image committed: verified as R308 states into the slot that does not run; an image older than the version
journal is refused. -/
def State.imageWrite (s : State) (img : Bytes) (v : FwVerdict) : State × Nat :=
  let x := fwSlotOf img v
  let ok := s.flash.accepts x
  ((s.setIdleSlot { x with valid := ok }).setObj 0x600108 (if ok then 0 else 1), 0x0A)

def State.selectWrite (s : State) (v : Nat) : State × Nat :=
  if s.flash.accepts (s.flash.slotOf (decide (v = 1))) then
    (({ s with flash := { s.flash with bootB := decide (v = 1) } }.setObj 0x600106 v).setObj 0x600108 0, 0)
  else (s, 6)

def State.firmwareCommitWrite (s : State) : State × Nat :=
  if versionJournalSize ≤ s.flash.versions.length then (s.setObj 0x600108 2, 0)
  else
    let s1 := { s with flash := { s.flash with versions := s.flash.versions ++ [BitVec.ofNat 32 s.runningVersion] } }
    (((s1.setObj 0x600107 1).setObj 0x600108 0).showFirmware, 0)

/-! ### Attestation (13 R315, R316) -/

/-- A report waits for its signature. -/
def State.reportWaits (s : State) : Bool :=
  s.sec.queue.any (fun e => match e.1 with | .report _ => true | _ => false)

def State.nonceWrite (s : State) (data : Bytes) : State × Nat :=
  if s.reportWaits then (s.setObj 0x601004 4, 9)
  else if !underBudget s.ns s.sec.reportTimes then (s.setObj 0x601004 2, 0)
  else
    ({ s with sec := { s.sec with
        queue := s.sec.queue ++ [(SignReq.report (BitVec.ofNat 8 (s.obj 0x601001)), fitBytes 32 data)]
        reportTimes := s.ns :: s.sec.reportTimes.take 23 } }.setObj 0x601004 1, 0)

/-! ### Operator sessions (13 R327, R328) -/

/-- OPEN_EK: a new challenge, a nonce and a ciphertext to the key. -/
def State.openEkWrite (s : State) (n : Nat) (ek : Bytes) : State × Nat :=
  let nonce := Config.free s.fresh
  let (ct, ss) := Config.kemEncaps ek (s.fresh + 1)
  ({ s with fresh := s.fresh + 2 }.modNode n (fun x => { x with
    openEk := ek, challenge := leBytes 32 nonce ++ fitBytes 1568 ct, ss := ss, ks := [], session := 1 }), 0)

/-- The digest that the operator signs. -/
def State.challengeDigest (s : State) (n : Nat) : Bytes :=
  let x := s.node n
  digest256 (s.identDigest ++ [BitVec.ofNat 8 n] ++ fitBytes 68 x.openPub ++ x.openEk ++ x.challenge)

/-- Operator keys of 0x6021. -/
def State.operatorKeys (s : State) : List Nat := (List.range 4).map (fun i => s.obj (0x602101 + i))

/-- The session of a node opens under its challenge. -/
def State.openSession (s : State) (n : Nat) : State :=
  s.modNode n (fun x => { x with
    ks := shake256 (ascii "KWFO" ++ x.ss ++ s.challengeDigest n) 32, session := 2, lastAuth := s.ns, lastSeq := none })

/-- Store a STORED object in the settings area of the flash: the copy not in force is written (14 R344). -/
def State.storeSetting (s : State) (ref v : Nat) : State :=
  let x := Settings.whole (SMap.set (objDefault ref) s.flash.settings ref v) (s.flash.settingsTurn + 1)
  { s with flash := s.flash.putSettings x }

/-- RESPONSE: the session opens, or the device is claimed, or the session is refused. -/
def State.responseWrite (s : State) (op n : Nat) (sigOk : Bool) : State × Nat :=
  let pub := leNat (digest256 (fitBytes 68 (s.node n).openPub))
  let refuse := ((s.modNode n (fun x => { x with session := 3, ks := [] })).guardRecord op n, 0)
  if (s.node n).session ≠ 1 ∨ !sigOk then refuse
  else if s.operatorKeys.all (· == 0) then (((s.setObj 0x602101 pub).storeSetting 0x602101 pub).openSession n, 0)
  else if pub ≠ 0 ∧ s.operatorKeys.contains pub then (s.openSession n, 0)
  else refuse

/-- A session ends. -/
def State.closeNode (s : State) (n : Nat) : State := s.modNode n (fun x => { x with session := 0, ks := [], lastSeq := none })

/-! ### Class T (14 R346) -/

/-- A tick-buffered write: read back at once, applied at the next tick. -/
def State.bufferWrite (s : State) (ref v : Nat) : State := { s.setObj ref v with buffered := s.buffered ++ [(ref, v)] }

/-! ### Reserved values (00 R7) -/

/-- An entry of the publication list names a readable object of 8 bytes or fewer (14 R358). -/
def State.publishable (s : State) (v : Nat) : Bool :=
  v == 0 || (match s.row? v with | some o => o.access != 4 && decide (o.size ≤ 8) | none => false)

/-- Objects whose value has a reserved field above its named bits, with the number of those (R6; log 87). -/
def namedBits : List (Nat × Nat) :=
  [(0x112001, 5), (0x112002, 5), (0x120101, 24), (0x510001, 6), (0x510003, 2), (0x702001, 4), (0x800003, 20), (0x801001, 9),
   (0x802001, 4), (0x805002, 4), (0x805003, 4), (0x805004, 4), (0x808003, 4)]

/-- The value without the reserved field that is ignored (R6). -/
def keptValue (o : ObjRow) (ref v : Nat) : Nat :=
  if o.base = 0x1110 then v % 2 ^ 24
  else match namedBits.find? (fun e => e.1 == ref) with
    | some e => v % 2 ^ e.2
    | none => v

/-- A value that the object's table marks reserved. -/
def State.reservedValue (s : State) (o : ObjRow) (ref v : Nat) : Bool :=
  if o.type = 16 then false
  else if o.base = 0x1110 then !s.publishable v
  else if ref = 0x808001 then !(v == 0 || (decide (100 ≤ v) && decide (v ≤ 3600000)))
  else if ref = 0x800003 then !([0, 1, 5, 6].contains (v % 16))
  else decide (v < o.lo) || decide (o.hi < v)

/-! ### Every object -/

/-- Objects of which each node has its own. -/
def State.nodeWrite (s : State) (n ref v : Nat) (data : Bytes) : State × Nat :=
  if ref = 0x120101 then (s.modNode n (fun x => { x with query := BitVec.ofNat 32 v }), 0)
  else if ref = 0x602001 then (s.modNode n (fun x => { x with openPub := data }), 0)
  else if ref = 0x602006 then (s.modNode n (fun x => { x with idleS := BitVec.ofNat 16 v }), 0)
  else if ref = 0x602007 then (s.closeNode n, 0)
  else if ref = 0x700004 then (s.modNode n (fun x => { x with readSeq := BitVec.ofNat 32 v }), 0)
  else if ref = 0x800003 then (s.modNode n (fun x => { x with unit := BitVec.ofNat 32 v }), 0)
  else (s.modNode n (fun x => { x with loomSel := BitVec.ofNat 16 v }), 0)

/-- An immediate write of a command object. -/
def State.commandWrite (s : State) (op n ref v : Nat) (data : Bytes) (fw : FwVerdict) : State × Nat :=
  if ref = 0x210002 then s.goWrite 2 v
  else if ref = 0x210003 then s.goWrite 3 v
  else if ref = 0x210004 then s.goWrite 5 v
  else if ref = 0x210005 then s.goWrite 6 v
  else if ref = 0x210006 then s.goWrite 7 v
  else if ref = 0x900008 then s.applyWrite v
  else if ref = 0x120001 then s.unlockWrite op n v
  else if ref = 0x121002 then ({ s.setObj ref v with sealArmed := true }.startSeal, 0)
  else if ref = 0x600105 then s.imageWrite data fw
  else if ref = 0x600106 then s.selectWrite v
  else if ref = 0x600107 then s.firmwareCommitWrite
  else if ref = 0x601002 then s.nonceWrite data
  else if ref = 0x602002 then s.openEkWrite n data
  else if ref = 0x602004 then s.responseWrite op n fw.sigOk
  else if ref = 0x800001 then s.snapshotWrite v
  else if ref = 0x805002 then s.eclipseWrite v
  else if ref = 0x805003 then s.resumeWrite v
  else if ref = 0x805004 then s.releaseWrite v
  else s.hangWrite v

/-- Command objects: their writes go to their units. -/
def commandObjects : List Nat :=
  [0x210002, 0x210003, 0x210004, 0x210005, 0x210006, 0x900008, 0x120001, 0x121002, 0x600105, 0x600106, 0x600107, 0x601002,
   0x602002, 0x602004, 0x800001, 0x805002, 0x805003, 0x805004, 0x808003]

/-- Objects of which each node has its own, and that a write changes. -/
def nodeObjects : List Nat := [0x120101, 0x602001, 0x602006, 0x602007, 0x700004, 0x800003, 0x806001]

/-- A write whose access, guard, size and value are in order reaches the unit. -/
def State.unitWrite (s : State) (op n : Nat) (o : ObjRow) (ref : Nat) (data : Bytes) (fw : FwVerdict) : State × Nat :=
  let v := leNat data
  if commandObjects.contains ref then s.commandWrite op n ref v data fw
  else if nodeObjects.contains ref then s.nodeWrite n ref v data
  else if ref / 256 < 0x5006 ∧ 0x5000 ≤ ref / 256 ∧ ref % 256 = 4 then (s.portWrite (ref / 256 - 0x5000) v, 0)
  else if ref / 256 < 0x9014 ∧ 0x9010 ≤ ref / 256 ∧ ref % 256 = 8 then (s.channelEnable (ref / 256 - 0x9010) v, 0)
  else if o.wclass = 1 then s.classDWrite ref v
  else
    let s1 := if o.persist = 2 then s.storeSetting ref v else s
    if o.wclass = 2 then (s1.bufferWrite ref v, 0) else (s1.setObj ref v, 0)

/-- The bytes that reach the unit: an octet string as it is, a number without its ignored field. -/
def keptData (o : ObjRow) (ref : Nat) (data : Bytes) : Bytes :=
  if o.type = 16 then data else leBytes o.size (keptValue o ref (leNat data))

/-- Write a value past the checks of size and value; a GUARDED write that is accepted counts (14 R349). -/
def State.valueChecked (s : State) (op n : Nat) (o : ObjRow) (ref : Nat) (data : Bytes) (fw : FwVerdict) : State × Nat :=
  let d := keptData o ref data
  if s.reservedValue o ref (leNat d) then (s, 6)
  else
    let r := s.unitWrite op n o ref d fw
    if o.access = 5 ∧ (r.2 = 0 ∨ r.2 = 0x0A) then (r.1.bump 0x120004 1, r.2) else r

/-- COMPLEMENT (14 R351): the target is checked in the order of the rule, then the sequence and the complement. -/
def State.complementWrite (s : State) (op n v : Nat) (fw : FwVerdict) : State × Nat :=
  let x := s.node n
  let s1 := s.dropCompat n
  match x.target with
  | none => (s1.guardFault op n, 4)
  | some t =>
    let ref := t.toNat
    match s.row? ref with
    | none => (s1, if s.hasIndex (ref / 256) then 2 else 1)
    | some o =>
      if o.access ≠ 5 then (s1, 3)
      else if 8 < o.size then (s1, 7)
      else
        match (if x.compatAt.toNat + 1000000000 ≤ s.ns.toNat then none else x.value) with
        | some val =>
          if val.toNat < 256 ^ o.size ∧ v = 256 ^ o.size - 1 - val.toNat then
            s1.valueChecked op n o ref (leBytes o.size val.toNat) fw
          else (s1.guardFault op n, 4)
        | none => (s1.guardFault op n, 4)

end Sys2Proof.Machine
end

