-- ==== Sys2Proof/Machine/Dict.lean ====
section
/-! DEFINITION. Dictionary frames (14 R335 to R341) and the commands that are frames: a row with an object of its own fixes the
frame's INDEX and SUB to that object. -/

namespace Sys2Proof.Machine

open Sys2Proof Host

/-! ### Operations (14 R336) -/

abbrev opRead : Nat := 1
abbrev opWrite : Nat := 2
abbrev opBlockRead : Nat := 3
abbrev opStaged : Nat := 4
abbrev opCommit : Nat := 5

/-- The reference of a request. -/
def reqRef (r : Req) : Nat := 256 * r.index.toNat + r.sub.toNat

/-- The port of dictionary frames (14 R335). -/
abbrev dictPort : BitVec 16 := 5119

/-- A frame to the port is dropped and counted: address, NODE, VERSION, a reserved OP, a response, a ninth request outstanding (00 R7;
14 R335 to R337). -/
def reqDropped (r : Req) : Bool :=
  !r.addrOk || decide (r.node.toNat ≠ r.src.val) || decide (r.version ≠ 1) || r.reservedOp.isSome || r.resp || decide (8 ≤ r.ahead.toNat)

/-- The frame contradicts its own LEN, its operation's data or its AUTH bit. -/
def reqMalformed (op : Nat) (r : Req) : Bool :=
  decide (1024 < r.len.toNat)
    || (if op = opWrite ∨ op = opStaged then decide (r.data.length ≠ r.len.toNat) else decide (r.data ≠ []))
    || ((op = opRead ∨ op = opCommit) && decide (r.len ≠ 0))
    || decide (r.trailer.length ≠ (if r.auth then 16 else 0))

/-- Header of a request as received. -/
def reqHeader (op : Nat) (r : Req) : Bytes :=
  dictHeader op false r.auth r.seq.toNat r.index.toNat r.sub.toNat 0 r.offset.toNat r.len.toNat r.node.toNat

/-- Trailer of a frame under a session key (13 R328; 14 R341). -/
def dictTrailer (ks header data : Bytes) : Bytes := shake256 (ks ++ header ++ data) 16

/-! ### Access (14 R341, R343, R350) -/

/-- The frame passes the checks of AUTH: session open, trailer, rising SEQ. -/
def State.authPasses (s : State) (op : Nat) (r : Req) : Bool :=
  let x := s.node r.src
  s.sessionOpen r.src && r.auth && decide (r.trailer = dictTrailer x.ks (reqHeader op r) r.data)
    && (match x.lastSeq with | some l => decide (l.toNat < r.seq.toNat) | none => true)

/-- An accepted AUTH frame: its SEQ is the last, the idle time starts again. -/
def State.authTaken (s : State) (r : Req) : State :=
  s.modNode r.src (fun x => { x with lastSeq := some r.seq, lastAuth := s.ns })

/-- A status with its data; the last component tells an AUTH frame that failed, which is not kept (14 R341). -/
abbrev Answer : Type := State × Nat × Bytes × Bool

def answer (s : State) (status : Nat) : Answer := (s, status, [], false)

/-- A WRITE or COMMIT of a value to an existing object: access, session, length, guard, value, unit (14 R339 to R353). `sizeOk`: the
value has the object's size, and the operation serves the object; `open_`: the node was unlocked when the frame came. -/
def State.writeValue (s : State) (op : Nat) (r : Req) (o : ObjRow) (data : Bytes) (sizeOk open_ : Bool) (fw : FwVerdict) : Answer :=
  let n := r.src.val
  let ref := reqRef r
  if o.access = 1 ∨ o.access = 2 then answer s 3
  else if o.access = 6 ∧ !s.authPasses op r then (s, 5, [], true)
  else
    let s1 := if o.access = 6 then s.authTaken r else s
    if !sizeOk then answer s1 7
    else if o.access = 5 ∧ !open_ then answer s1 4
    else
      let w := if ref = 0x12F001 then s1.valueWrite n (leNat data)
        else if ref = 0x12F002 then s1.complementWrite op n (leNat data) fw
        else if ref = 0x12F003 then s1.targetWrite n (leNat data)
        else s1.valueChecked op n o ref data fw
      answer w.1 w.2

/-! ### Staging (14 R340) -/

/-- Bytes of an open area's object that a staging area holds: 64 KiB, IMAGE its whole size. -/
def stagingRoom (ref : Nat) : Nat := if ref = 0x600105 then 16777216 else 65536

/-- Put bytes into a map of byte + 1 by offset. -/
def stageBytes (m : SMap Nat) (off : Nat) (b : Bytes) : SMap Nat :=
  (b.zipIdx).foldl (fun (t : SMap Nat) e => SMap.set 0 t (off + e.2) (e.1.toNat + 1)) m

/-- Bytes staged straight into the slot that does not run; the slot holds no verified image then. -/
def State.stageImage (s : State) (fresh : Bool) (off : Nat) (b : Bytes) : State :=
  let x := s.idleSlot
  s.setIdleSlot { x with
    valid := false
    bytes := (b.zipIdx).foldl (fun (t : SMap Nat) e => SMap.set 0 t (off + e.2) e.1.toNat) (if fresh then [] else x.bytes) }

def State.stagedFrame (s : State) (r : Req) (o : ObjRow) : Answer :=
  let n := r.src.val
  let ref := reqRef r
  if o.access = 6 ∧ !s.authPasses opStaged r then (s, 5, [], true)
  else
    let s1 := if o.access = 6 then s.authTaken r else s
    let off := r.offset.toNat
    if o.size < off + r.data.length then answer s1 0x0D
    else if stagingRoom ref < off + r.data.length then answer s1 7
    else
      let old := if s1.stagingOpen n then (s1.node n).staging else none
      let m := match old with | some (w, m) => if w = ref then m else [] | none => []
      let isNew := match old with | some (w, _) => w != ref | none => true
      let s2 := s1.modNode n (fun x => { x with staging := some (ref, stageBytes m off r.data), stagedAt := s.ns })
      answer (if ref = 0x600105 then s2.stageImage isNew off r.data else s2) 0

/-- Every byte below L is staged. -/
def stagedWhole (m : SMap Nat) (l : Nat) : Bool := (List.range l).all (fun i => SMap.get 0 m i != 0)

/-- The bytes staged below L; zero from L onward. -/
def stagedValue (m : SMap Nat) (l size : Nat) : Bytes :=
  (List.range l).map (fun i => BitVec.ofNat 8 (SMap.get 0 m i - 1)) ++ List.replicate (size - l) 0

/-- The open area of a node for an object, with every byte below L staged. -/
def State.stagedArea (s : State) (n ref l : Nat) : Option (SMap Nat) :=
  if s.stagingOpen n then
    match (s.node n).staging with
    | some (w, m) => if w = ref ∧ stagedWhole m l then some m else none
    | none => none
  else none

def State.commitFrame (s : State) (r : Req) (o : ObjRow) (open_ : Bool) (fw : FwVerdict) : Answer :=
  let n := r.src.val
  let l := r.offset.toNat
  if o.size < l then s.writeValue opCommit r o [] false open_ fw
  else
    match s.stagedArea n (reqRef r) l with
    | none =>
      if o.access = 6 ∧ !s.authPasses opCommit r then (s, 5, [], true)
      else answer (if o.access = 6 then s.authTaken r else s) 0x0B
    | some m =>
      let value := if reqRef r = 0x600105 then stagedValue m l l else stagedValue m l o.size
      let a := s.writeValue opCommit r o value true open_ fw
      if a.2.1 = 0 ∨ a.2.1 = 0x0A then (a.1.modNode n (fun x => { x with staging := none }), a.2) else a

/-! ### Reads (14 R339) -/

def State.readFrame (s : State) (r : Req) (o : ObjRow) : Answer :=
  if o.access = 4 then answer s 3
  else if 1024 < o.size then answer s 7
  else (s, 0, s.readBytes r.src (reqRef r) 0 o.size, false)

def State.blockFrame (s : State) (r : Req) : Answer :=
  let off := r.offset.toNat
  if r.sub = 0 then
    if !s.hasIndex r.index.toNat then answer s 1
    else if s.indexSize r.index.toNat < off then answer s 0x0D
    else (s, 0, s.readIndex r.src r.index.toNat off r.len.toNat, false)
  else
    match s.row? (reqRef r) with
    | none => answer s (if s.hasIndex r.index.toNat then 2 else 1)
    | some o =>
      if o.access = 4 then answer s 3
      else if o.size < off then answer s 0x0D
      else (s, 0, s.readBytes r.src (reqRef r) off r.len.toNat, false)

/-! ### A request -/

/-- The frame writes: WRITE, STAGED WRITE, COMMIT. -/
def opWrites (op : Nat) : Bool := op == opWrite || op == opStaged || op == opCommit

/-- A WRITE of the compatibility sequence itself (14 R351). -/
def reqCompat (op : Nat) (r : Req) : Bool :=
  op == opWrite && !reqMalformed op r && r.index == 0x12F0
    && (match objRow? (reqRef r) with | some o => decide (r.data.length = o.size) | none => false)

/-- What a frame does before it is looked at further: a WRITE or COMMIT to a GUARDED object re-arms the lock of the node, and any write
of the node but its own ends a compatibility sequence, whatever becomes of it (14 R350, R351). -/
def State.frameArrives (s : State) (op : Nat) (r : Req) : State :=
  let guarded := match s.row? (reqRef r) with | some o => decide (o.access = 5) | none => false
  let s1 := if (op == opWrite || op == opCommit) && guarded then s.modNode r.src (fun x => { x with unlockedAt := none }) else s
  if opWrites op && !reqCompat op r then s1.dropCompat r.src else s1

/-- The operation of a well-received frame. -/
def State.handle (s : State) (op : Nat) (r : Req) (fw : FwVerdict) : Answer :=
  let open_ := s.unlocked r.src
  let t := s.frameArrives op r
  if reqMalformed op r then answer t 0x0C
  else if op = opBlockRead then t.blockFrame r
  else
    match t.row? (reqRef r) with
    | none => answer t (if t.hasIndex r.index.toNat then 2 else 1)
    | some o =>
      if op = opRead then t.readFrame r o
      else if op = opWrite then t.writeValue opWrite r o r.data (decide (r.data.length = o.size) && decide (o.size ≤ 1024)) open_ fw
      else if op = opStaged then t.stagedFrame r o
      else t.commitFrame r o open_ fw

/-- The key that a response's trailer is made with: that of the session the frame came under, else of the one it opened (14 R341). -/
def State.trailerKey (s t : State) (n : Nat) : Bytes := if (s.node n).ks ≠ [] then (s.node n).ks else (t.node n).ks

/-- The response frame; its trailer under a session key where the request carried AUTH (14 R341). -/
def responseFrame (ks : Bytes) (op : Nat) (r : Req) (status : Nat) (data : Bytes) : Bytes :=
  let auth := r.auth && decide (ks ≠ [])
  let h := dictHeader op true auth r.seq.toNat r.index.toNat r.sub.toNat status
    (if 3 ≤ op then r.offset.toNat else 0) data.length r.src.val
  h ++ data ++ (if auth then dictTrailer ks h data else [])

/-- A request: dropped, answered from the last 8 responses, or executed and answered (14 R335 to R341). It crosses the queues between the
management port, a steward and the hub (01 R18): one without a free entry holds it back, one under FLUSH loses it (08 R189, R196; DESIGN
CHOICE, log 97). -/
def State.serve (s : State) (op : Nat) (r : Req) (fw : FwVerdict) : State :=
  if !s.portSpeaks || r.port != dictPort then s
  else if reqDropped r then s.bump 0x110007 1
  else if !(dictIn ++ dictOut).all s.queueRoom then s
  else if !dictIn.all s.queueOpen then s.crossQueues dictIn
  else
    let s0 := (s.crossQueues dictIn).bump 0x110005 1
    match (s0.node r.src).responses.find? (fun e => e.1 == r.seq) with
    | some e => (s0.bump 0x120206 1).sendDict r.src e.2
    | none =>
      let a := s0.handle op r fw
      let s1 := a.1.bump 0x120204 1
      let s2 := if a.2.1 = 0 ∨ a.2.1 = 0x0A then s1 else s1.bump 0x120205 1
      let f := responseFrame (s0.trailerKey s2 r.src) op r a.2.1 a.2.2.1
      let s3 := if a.2.2.2 then s2 else s2.modNode r.src (fun x => { x with responses := (r.seq, f) :: x.responses.take 7 })
      s3.sendDict r.src f

/-- A verdict for frames that need none. -/
def noVerdict : FwVerdict := { certOk := false, sigOk := false }

/-- A request for a given object. -/
def reqAt (r : Req) (ref : Nat) : Req := { r with index := BitVec.ofNat 16 (ref / 256), sub := BitVec.ofNat 8 (ref % 256) }

/-- A WRITE of the frame's data to an object. -/
def State.writeTo (s : State) (r : Req) (ref : Nat) : State := s.serve opWrite (reqAt r ref) noVerdict

/-! ### Rows that are any frame -/

def execRead (r : Req) (s : State) : Outcome State Fault Refusal := .next (s.serve opRead r noVerdict)
def execWrite (r : Req) (s : State) : Outcome State Fault Refusal := .next (s.serve opWrite r noVerdict)
def execBlockRead (r : Req) (s : State) : Outcome State Fault Refusal := .next (s.serve opBlockRead r noVerdict)
def execStagedWrite (r : Req) (s : State) : Outcome State Fault Refusal := .next (s.serve opStaged r noVerdict)
def execCommit (r : Req) (v : FwVerdict) (s : State) : Outcome State Fault Refusal := .next (s.serve opCommit r v)

/-! ### Rows of one object -/

def execClockGo (r : Req) (s : State) : Outcome State Fault Refusal := .next (s.writeTo r 0x210002)
def execHbmGo (r : Req) (s : State) : Outcome State Fault Refusal := .next (s.writeTo r 0x210003)
def execBistGo (r : Req) (s : State) : Outcome State Fault Refusal := .next (s.writeTo r 0x210004)
def execRepairGo (r : Req) (s : State) : Outcome State Fault Refusal := .next (s.writeTo r 0x210005)
def execKatGo (r : Req) (s : State) : Outcome State Fault Refusal := .next (s.writeTo r 0x210006)
def execApply (r : Req) (s : State) : Outcome State Fault Refusal := .next (s.writeTo r 0x900008)
def execUnlock (r : Req) (s : State) : Outcome State Fault Refusal := .next (s.writeTo r 0x120001)
def execComplement (r : Req) (s : State) : Outcome State Fault Refusal := .next (s.writeTo r 0x12F002)
def execSealReference (r : Req) (s : State) : Outcome State Fault Refusal := .next (s.writeTo r 0x121002)
def execSelect (r : Req) (s : State) : Outcome State Fault Refusal := .next (s.writeTo r 0x600106)
def execFirmwareCommit (r : Req) (s : State) : Outcome State Fault Refusal := .next (s.writeTo r 0x600107)
def execNonce (r : Req) (s : State) : Outcome State Fault Refusal := .next (s.writeTo r 0x601002)
def execCloseSession (r : Req) (s : State) : Outcome State Fault Refusal := .next (s.writeTo r 0x602007)
def execAssayEnable (r : Req) (s : State) : Outcome State Fault Refusal := .next (s.writeTo r 0x702001)
def execSnapshot (r : Req) (s : State) : Outcome State Fault Refusal := .next (s.writeTo r 0x800001)
def execEclipseRequest (r : Req) (s : State) : Outcome State Fault Refusal := .next (s.writeTo r 0x805002)
def execResume (r : Req) (s : State) : Outcome State Fault Refusal := .next (s.writeTo r 0x805003)
def execRelease (r : Req) (s : State) : Outcome State Fault Refusal := .next (s.writeTo r 0x805004)
def execHangRequest (r : Req) (s : State) : Outcome State Fault Refusal := .next (s.writeTo r 0x808003)

/-- ENABLE or ACTION, by the frame's SUB. -/
def execHazardDetectorWrite (r : Req) (s : State) : Outcome State Fault Refusal :=
  .next (s.writeTo r (0x802000 + r.sub.toNat))

/-- A setting of 0x5200, by the frame's SUB. -/
def execExchangeSettingsWrite (r : Req) (s : State) : Outcome State Fault Refusal :=
  .next (s.writeTo r (0x520000 + r.sub.toNat))

/-- OPEN_EK has 1,568 bytes, so it is staged; the row is the COMMIT of its staged value (14 R339). -/
def execOpenEk (r : Req) (s : State) : Outcome State Fault Refusal := .next (s.serve opCommit (reqAt r 0x602002) noVerdict)

/-- The COMMIT of RESPONSE; `sigOk`: the operator's signature verifies. -/
def execResponse (r : Req) (sigOk : Bool) (s : State) : Outcome State Fault Refusal :=
  .next (s.serve opCommit (reqAt r 0x602004) { certOk := false, sigOk := sigOk })

/-- The COMMIT of IMAGE. -/
def execFirmwareImage (r : Req) (v : FwVerdict) (s : State) : Outcome State Fault Refusal :=
  .next (s.serve opCommit (reqAt r 0x600105) v)

/-- A frame with one data byte. -/
def reqByte (r : Req) (v : Nat) : Req := { r with data := [BitVec.ofNat 8 v], len := 1 }

def execEnablePort (p : Fin 6) (r : Req) (s : State) : Outcome State Fault Refusal :=
  .next (s.writeTo (reqByte r 1) (portRef p 4))
def execStopPort (p : Fin 6) (r : Req) (s : State) : Outcome State Fault Refusal :=
  .next (s.writeTo (reqByte r 0) (portRef p 4))
def execEnableControlChannel (n : Fin 4) (r : Req) (s : State) : Outcome State Fault Refusal :=
  .next (s.writeTo (reqByte r 1) (0x901008 + 256 * n.val))
def execStopControlChannel (n : Fin 4) (r : Req) (s : State) : Outcome State Fault Refusal :=
  .next (s.writeTo (reqByte r 0) (0x901008 + 256 * n.val))

/-! ### Time outs of a node -/

/-- 10 s after the last staged frame the area is discarded (14 R340). -/
def execStagingExpiry (n : Fin 8) (s : State) : Outcome State Fault Refusal :=
  .next (if (s.node n).staging.isSome then
    (s.atLeast ((s.node n).stagedAt.toNat + 10000000000)).modNode n (fun x => { x with staging := none }) else s)

/-- 1 s after the unlock the lock re-arms (14 R350). -/
def execGuardTimeout (n : Fin 8) (s : State) : Outcome State Fault Refusal :=
  .next (match (s.node n).unlockedAt with
    | some t => (s.atLeast (t.toNat + 1000000000)).modNode n (fun x => { x with unlockedAt := none })
    | none => s)

/-- IDLE_S seconds without an AUTH write close the session (13 R328). -/
def execSessionIdleExpiry (n : Fin 8) (s : State) : Outcome State Fault Refusal :=
  .next (if (s.node n).session = 2 then
    (s.atLeast ((s.node n).lastAuth.toNat + (s.node n).idleS.toNat * 1000000000)).closeNode n else s)

end Sys2Proof.Machine
end

