-- ==== Sys2Proof/Machine/Dma.lean ====
section
/-! DEFINITION. The loom's DMA engine (03 R81, R82; 04 R95, R96; 07 R156, R164; 01 R17, R24): checks at issue, transfers,
the commit wait, completion reports of stores (11 R269). -/

namespace Sys2Proof.Machine

open Sys2Proof Host

/-! ### Checks at issue -/

/-- Formats and shapes (R81 and the table "DMA descriptor"). ROWS of zero, and ROW_BYTES or LPITCH out of range, count as misaligned fields,
row 6 of the mistakes, and not as reserved values, row 1 (DESIGN CHOICE, log 77). -/
def dmaShape (dir : Nat) (d : Word512) : Option Reject :=
  let rb := mRowBytes d
  if 10 < mFmt d then some (.row 1)
  else if dir = 2 ∧ (mFmt d = 10 ∨ mRows d ≠ 64 ∨ rb ≠ packedBytes (mFmt d) 64) then some (.row 5)
  else if dir ≠ 2 ∧ (rb % 32 ≠ 0 ∨ rb < 32 ∨ 8192 < rb ∨ mRows d = 0) then some (.row 6)
  else if mOffset d % 32 ≠ 0 ∨ mStride d % 32 ≠ 0 ∨ mPitch d < ceilDiv rb 64 then some (.row 6)
  else if !linesOk (dmaLines d).1 (dmaLines d).2 then some (.row 6)
  else none

/-- The HBM bytes lie in a region that looms may use this way (R24, R96, R138, R156). -/
def State.dmaRegion (s : State) (p dir : Nat) (d : Word512) : Option Reject :=
  let x := s.part p
  let r := mRegion d
  if !x.hasRegion r || x.regionKind r == 5 || (dir == 1 && x.regionKind r == 1)
      || !s.inRegion p r (mOffset d) ((mRows d - 1) * mStride d + mRowBytes d) then some (.region r (mOffset d))
  else none

def State.dmaCheck (s : State) (p dir : Nat) (d : Word512) : Option Reject :=
  firstReject [dmaShape dir d, s.dmaRegion p dir d]

/-! ### Transfers -/

/-- Row i into local memory; each local half line takes the poison of the word it comes from (03 R82). -/
def State.rowIn (s : State) (l : LoomId) (d : Word512) (i : Nat) : State :=
  let p := s.loomPart l
  let r := mRegion d
  let a := dmaAt d i
  let x := (piecesOf a (mRowBytes d)).foldl (fun (y : Loom) c =>
    y.put (64 * (mLine d + i * mPitch d) + (c.1 - a)) (s.readRegion p r c.1 c.2) (s.poisonIn p r c.1 c.2)) (s.loom l)
  (s.setLoom l x).countRead (.loom l) p r a (mRowBytes d)

/-- Row i out to HBM; moving a poisoned value carries the tag and does not consume it (03 R82; 09 R211). -/
def State.rowOut (s : State) (l : LoomId) (d : Word512) (i : Nat) : State :=
  let p := s.loomPart l
  let a := dmaAt d i
  (piecesOf a (mRowBytes d)).foldl (fun (t : State) c =>
    let from_ := 64 * (mLine d + i * mPitch d) + (c.1 - a)
    t.writeRegion (.loom l) p (mRegion d) c.1 (getBytes (t.loom l).mem from_ c.2) (decide ((t.loom l).poisonAt from_ c.2 ≠ 0))) s

/-- Destination row k of a transposed transfer: element n of it is element k of source row n (R81). -/
def State.transposeRow (s : State) (l : LoomId) (d : Word512) (k : Nat) : State :=
  let p := s.loomPart l
  let r := mRegion d
  let f := mFmt d
  let b := elemBytes (fmtWidth f) k
  let row (n : Nat) := unpackElems f 64 (s.readRegion p r (dmaAt d n) (mRowBytes d))
  let a := 64 * (mLine d + k * mPitch d)
  let origins := (List.range 64).map (fun n => s.poisonIn p r (dmaAt d n + b.1) (b.2 + 1 - b.1))
  s.setLoom l ((s.loom l).putElems a (fmtWidth f) (packElems f ((List.range 64).map (fun n => (row n).getD k 0))) origins)

/-- The whole transfer of a descriptor. -/
def State.transfer (s : State) (l : LoomId) (dir : Nat) (d : Word512) : State :=
  if dir = 1 then (List.range (mRows d)).foldl (fun (t : State) i => t.rowOut l d i) s
  else if dir = 0 then (List.range (mRows d)).foldl (fun (t : State) i => t.rowIn l d i) s
  else
    let s1 := (List.range 64).foldl (fun (t : State) k => t.transposeRow l d k) s
    (List.range 64).foldl (fun (t : State) n => t.countRead (.loom l) (t.loomPart l) (mRegion d) (dmaAt d n) (mRowBytes d)) s1

/-! ### Commands -/

/-- Every stack of the transfer can be asked now (R189, R207). -/
def State.dmaReady (s : State) (l : LoomId) (dir : Nat) (d : Word512) : Bool :=
  (s.dmaStacks (s.loomPart l) d).all (fun k => s.reachable (.loom l) k (decide (dir = 1)))

/-- Issue of a DMA descriptor. A read of a copy region waits until the copy of the step is written (07 R164); reads of a
state region find the previous step applied, because the step boundary comes after every update (01 R15, R17). A transfer that
cannot get its credits yet stays in the queue as phase 0, and moves its data before it completes. `hit`: what SECDED finds in its
descriptor, or in a half line that a store reads. -/
def State.dmaOp (s : State) (l : LoomId) (dir : Nat) (hit : Option LoomHit) : State :=
  s.descriptor l (0x3000 + dir) hit (fun s d =>
    let p := s.loomPart l
    if s.unitFull l .dma then s
    else match s.dmaCheck p dir d with
      | some r => s.reject l r
      | none =>
        let lines := [dmaLines d]
        let waits := decide (dir ≠ 1) && s.isCopyRegion p (mRegion d) && !(s.part p).copied
        let held := waits || !s.dmaReady l dir d
        let s0 := s.found l (dTag d) (linesRead (if dir = 1 then lines else [])) hit
        let s1 := s0.toUnit l .dma d (if held then 0 else 3) waits (if dir = 1 then lines else []) (if dir = 1 then [] else lines)
        if held then s1 else s1.transfer l dir d)

def execDmaToLocal (l : LoomId) (hit : Option LoomHit) (s : State) : Outcome State Fault Refusal := .next (s.dmaOp l 0 hit)
def execDmaToHbm (l : LoomId) (hit : Option LoomHit) (s : State) : Outcome State Fault Refusal := .next (s.dmaOp l 1 hit)
def execDmaTransposed (l : LoomId) (hit : Option LoomHit) (s : State) : Outcome State Fault Refusal := .next (s.dmaOp l 2 hit)

/-- Release every waiting entry of a queue. -/
def releaseWaits (phase : Nat) (q : List InFlight) : List InFlight :=
  q.map (fun e => if e.waits then { e with waits := false, phase := phase } else e)

/-- The region's copy is written: the waiting read moves its data and the sequencer goes on (01 R17; 07 R164). -/
def execCommitWaitEnd (l : LoomId) (s : State) : Outcome State Fault Refusal :=
  .next (
    let x := s.loom l
    let p := s.loomPart l
    if s.quadRuns l.q && decide (x.seq = .commitWait) && (s.part p).copied then
      match x.dmaQ.find? (fun e => e.waits) with
      | none => s
      | some e =>
        let ready := s.dmaReady l (dField e.desc 35 32) e.desc
        let s1 := if ready then s.transfer l (dField e.desc 35 32) e.desc else s
        s1.setLoom l { s1.loom l with
          dmaQ := releaseWaits (if ready then 3 else 0) (s1.loom l).dmaQ
          seq := if dSync e.desc then .waitDesc e.nth else .running
          seqSince := s.ns }
    else s)

/-- The entry that a unit finishes: the k-th of the DMA queue, which completes in any order, the oldest of the others (R85). -/
def Loom.finishing (x : Loom) (u : UnitKind) (k : Nat) : Option InFlight :=
  match u with
  | .dma => x.dmaQ[k]?
  | _ => (x.queue u).head?

/-- The latency profile in force delays this completion: a DMA read or a reciprocal, the entries in which the profiles differ (05 R124). -/
def padsOn (d : Word512) : Bool :=
  (dOp d == 0x30 && dField d 35 32 != 1) || (dOp d == 0x20 && dField d 39 32 == 0x12)

/-- The unit finishes a descriptor: one whose transfer waited for credits moves its data first; the entry is freed, a store's report sets
out, waits are released (R86; 11 R269). -/
def execDescriptorComplete (l : LoomId) (u : UnitKind) (k : Fin 16) (s : State) : Outcome State Fault Refusal :=
  .next (if s.quadRuns l.q then
    match (s.loom l).finishing u k with
    | none => s
    | some e =>
      let dir := dField e.desc 35 32
      let late := decide (u = .dma) && decide (e.phase = 0)
      if e.waits || (!late && decide (e.phase ≠ 3)) || (late && !s.dmaReady l dir e.desc) then s
      else
        let s0 := if late then s.transfer l dir e.desc else s
        let x0 := (s0.loom l).setQueue u (((s0.loom l).queue u).erase e)
        let x := if dOp e.desc = 0x30 ∧ dir = 1 then { x0 with stores := x0.stores ++ [BitVec.ofNat 16 (dTag e.desc)] } else x0
        let s1 := (s0.setLoom l (x.released e.nth)).loomTrace l 2 e.nth e.index.toNat e.desc
        if padsOn e.desc then s1.pad (s.loomPart l) (some (ucLoom, loomKey l)) e.nth else s1
  else s)

/-- The report of a completed store with this TAG reaches the hub over the loom's bridge (01 R18; 11 R269), while both run (17 R411). -/
def execStoreReport (l : LoomId) (tag : BitVec 16) (s : State) : Outcome State Fault Refusal :=
  .next (
    if (s.loom l).stores.contains tag && s.quadRuns l.q && !s.hubStopped (s.loomPart l) then
      s.viaBridge l 0 1
        (fun t => t.modPart (t.loomPart l) (fun y =>
          { y with reports := if y.reports.contains (loomKey l, tag) then y.reports else y.reports ++ [(loomKey l, tag)] }))
        (fun t => t.setLoom l { t.loom l with stores := (t.loom l).stores.erase tag })
    else s)

end Sys2Proof.Machine
end

