-- ==== Sys2Proof/Machine/Events.lean ====
section
/-! DEFINITION. The event controller (14 R354 to R356), device faults (16 R395), the beacon and collisions of the management port
(14 R334), notifications (14 R357), the management tick (14 R347, R353, R358; 15 R375). -/

namespace Sys2Proof.Machine

open Sys2Proof Host

/-! ### The event controller -/

/-- Source numbers that have a unit (14 R354). -/
def sourceExists (n : Nat) : Bool :=
  decide (n ≤ 0x127) || (decide (0x140 ≤ n) && decide (n ≤ 0x16F)) || (decide (0x170 ≤ n) && decide (n ≤ 0x175))
    || (decide (0x180 ≤ n) && decide (n ≤ 0x183)) || (decide (0x190 ≤ n) && decide (n ≤ 0x1DF))

/-- A pending source targeted to a steward. -/
def State.pendingFor (s : State) (m : Nat) : List Nat := s.pendingSources.filter (fun n => (s.source n).target.toNat.testBit m)

/-- The controller restores what it retained for a steward, the sources' configuration and the steward's own claims, and the steward
wakes. -/
def State.wakeSteward (s : State) (m : Nat) : State :=
  let s1 := (s.steward m).retained.foldl (fun (t : State) e =>
    t.setSource e.1 { t.source e.1 with
      target := e.2.target, enable := e.2.enable
      claimed := if e.2.claimed = some (Fin.ofNat 4 m) then e.2.claimed else (t.source e.1).claimed }) s
  (s1.setSteward m Steward.init).bump 0x123004 1

/-- Every sleeping steward in the mask of a pending source wakes. -/
def State.wakeAll (s : State) : State :=
  ((List.range 4).filter (fun m => (s.steward m).asleep && (s.pendingFor m != []))).foldl State.wakeSteward s

/-- The level of a source's condition. -/
def State.setLevel (s : State) (n : Nat) (level : Bool) : State :=
  if sourceExists n then s.setSource n { s.source n with asserted := level } else s

/-- A source's level changes; `cfg`: firmware writes TARGET [3:0] and ENABLE [4] of the source with it, over steward 0's queue (01 R18). -/
def execEventAssert (src : BitVec 10) (level : Bool) (cfg : Option (BitVec 5)) (s : State) : Outcome State Fault Refusal :=
  let n := src.toNat
  .next (if !s.pwrok || n == 0x3FF then s else
    let s1 := match cfg with
      | some c => s.across [fromSteward 0] (fun t =>
          t.setSource n { t.source n with target := BitVec.ofNat 4 c.toNat, enable := c.toNat.testBit 4 })
      | none => s
    (s1.setLevel n level).wakeAll)

/-- One steward reads its claim register: the read crosses its queue to the hub, what it returns the queue back (01 R18). -/
def State.claim (s : State) (m : Fin 4) : State :=
  if !s.queueRoom (toSteward m) then s
  else s.across [fromSteward m] (fun s =>
    match s.pendingFor m with
    | n :: _ =>
      ((s.setSource n { s.source n with claimed := some m }).bump 0x123002 1).across [toSteward m] (fun t => t.emit (.claim m (BitVec.ofNat 10 n)))
    | [] => (s.bump 0x123003 1).across [toSteward m] (fun t => t.emit (.claim m 0x3FF)))

/-- Stewards that claim in one hub cycle, served in ascending order; a sleeping steward reads nothing. -/
def execEventClaim (stewards : List (Fin 4)) (s : State) : Outcome State Fault Refusal :=
  .next (s.ifPowered (((List.finRange 4).filter (fun m => stewards.contains m && !(s.steward m).asleep)).foldl State.claim s))

/-- A steward completes an event it claimed: the write crosses its queue to the hub (01 R18). -/
def execEventComplete (m : Fin 4) (src : BitVec 10) (s : State) : Outcome State Fault Refusal :=
  .next (if s.pwrok && (s.source src.toNat).claimed == some m then
    s.across [fromSteward m] (fun t => (t.setSource src.toNat { t.source src.toNat with claimed := none }).wakeAll) else s)

/-- The sources that the controller retains for a steward: those that target it, and those it claimed. -/
def State.retainedFor (s : State) (m : Fin 4) : List (Nat × Source) :=
  ((SMap.keys s.sources).filter (fun n =>
    (s.source n).target.toNat.testBit m || (s.source n).claimed == some m)).map (fun n => (n, s.source n))

def execStewardSleep (m : Fin 4) (s : State) : Outcome State Fault Refusal :=
  .next (if !s.pwrok || (s.steward m).asleep then s
    else (s.setSteward m { asleep := true, retained := s.retainedFor m }).wakeAll)

/-! ### Device faults (16 R395) -/

/-- Unit class of a record and unit of a failed part. -/
def deviceUnitClass (u : DeviceUnit) : Nat :=
  match u with
  | .stewardMemory => ucSteward
  | .eventController => ucHub
  | .countingHouse => ucHub
  | .keyStore => ucSecurity

def deviceUnitNo (u : DeviceUnit) : Nat :=
  match u with
  | .stewardMemory => 0
  | .eventController => 1
  | .countingHouse => 2
  | .keyStore => 0

def execStewardMemoryUncorrectable (u : DeviceUnit) (stillVerifies : Bool) (s : State) : Outcome State Fault Refusal :=
  .next (if s.fwUp then s.deviceFault (deviceUnitClass u) (deviceUnitNo u) stillVerifies else s)

def execStewardWatchdogExpiry (m : Fin 4) (stillVerifies : Bool) (s : State) : Outcome State Fault Refusal :=
  .next (if s.fwUp then s.deviceFault ucSteward m stillVerifies else s)

/-! ### The management port (14 R334) -/

/-- A condition of the management port raises an event. -/
def State.portEvent (s : State) (c : Nat) : State := (s.setLevel (0x1B0 + (Config.portSource c).val) true).wakeAll

def execBeaconLoss (s : State) : Outcome State Fault Refusal :=
  .next (if s.portSpeaks && decide (s.obj 0x110002 = 0) then ((s.setObj 0x110002 1).bump 0x110003 1).portEvent 0 else s)

def execBeacon (s : State) : Outcome State Fault Refusal :=
  .next (if s.portSpeaks then s.setObj 0x110002 0 else s)

def execManagementCollision (s : State) : Outcome State Fault Refusal :=
  .next (if s.portSpeaks then
    let s1 := s.bump 0x110004 1
    if s.collided then s1 else { s1 with collided := true }.portEvent 1
  else s)

/-! ### Notifications (14 R357) -/

/-- A NOTIFY frame with RESP set: node 0 acknowledges the notification with its SEQ (14 R335, R336, R357). It crosses the queues that a
request crosses. -/
def execNotifyAck (r : Req) (s : State) : Outcome State Fault Refusal :=
  .next (if !s.portSpeaks || r.port != dictPort then s
    else if !r.addrOk || decide (r.node.toNat ≠ r.src.val) || decide (r.version ≠ 1) || r.reservedOp.isSome || !r.resp then s.bump 0x110007 1
    else if !dictIn.all s.queueRoom then s
    else if !dictIn.all s.queueOpen then s.crossQueues dictIn
    else
      let s1 := (s.crossQueues dictIn).bump 0x110005 1
      if r.src = 0 then { s1 with notices := s1.notices.filter (fun n => n.seq != r.seq) } else s1)

/-- The NOTIFY frame of a notice. -/
def Notice.frame (n : Notice) : Bytes := dictHeader 8 false false n.seq.toNat 0 0 0 0 64 0 ++ leBytes 64 n.bits.toNat

/-- RETRY_S seconds after it was last sent, an unacknowledged notification is sent again. -/
def execNotifyRetry (seq : BitVec 16) (s : State) : Outcome State Fault Refusal :=
  .next (match s.notices.find? (fun n => n.seq == seq) with
    | none => s
    | some n =>
      let s1 := s.atLeast (n.sent.toNat + s.live 0x112005 * 1000000000)
      { s1 with notices := s1.notices.map (fun (x : Notice) => if x.seq = seq then { x with sent := s1.ns } else x) }.sendDict 0 n.frame)

/-! ### The management tick -/

/-- Records of severity 0 and 1 of the second that ends become notifications, with their final counts (14 R357). -/
def State.secondEnds (s : State) : State :=
  let due := (s.log.reverse).filter (fun r =>
    s.mergedNow.contains (field r.bits.toNat 319 288) && (s.live 0x112001).testBit (recSeverity r.bits))
  { due.foldl (fun (t : State) r => t.notify r.bits) s with mergedNow := [], collided := false }

/-- The busiest pseudo-channel of a stack and its bytes: the lowest number among equals (09 R217; DESIGN CHOICE, log 132). -/
def Stack.busiest (x : Stack) : Nat × Nat := x.pcBytes.foldl (fun a e => if a.2 < e.2 then e else a) (0, 0)

/-- The byte counts of the second that ends (09 R217). -/
def State.stackSecond (s : State) (k : Nat) : State :=
  let x := s.stack k
  let b := x.busiest
  (((s.setObj (0x40100B + 256 * k) x.bytesNow).setObj (0x40100C + 256 * k) b.2).setObj (0x40100D + 256 * k) b.1).setStack k
    { x with bytesNow := 0, pcBytes := [] }

/-- IMBALANCE of a partition: largest BYTES_1S × 1,000 over the mean; 1,000 when nothing moved. -/
def State.imbalance (s : State) (p : Nat) : Nat :=
  let l := (s.stacksOf p).map (fun k => s.obj (0x40100B + 256 * k))
  let sum := l.foldl (· + ·) 0
  if sum = 0 then 1000 else l.foldl Nat.max 0 * 1000 * l.length / sum

def State.bytesSecond (s : State) : State :=
  let s1 := (List.range 20).foldl State.stackSecond s
  (List.range s1.partCount).foldl (fun (t : State) p => t.setObj (0x400002 + p) (s1.imbalance p)) s1

/-- The writes buffered for the tick take effect in order of arrival. -/
def State.applyBuffered (s : State) : State :=
  { s.buffered.foldl (fun (t : State) e => t.setLive e.1 e.2) s with buffered := [] }

/-- The seal value over the covered set (14 R352). -/
def State.sealValue (s : State) : Nat :=
  crc32c ((coveredRefs.map (fun ref => leBytes 2 (ref / 256) ++ leBytes 1 ref ++ leBytes (objSize ref) (s.obj ref))).flatten)

/-- CURRENT is recomputed, and compared with a committed reference (14 R353). -/
def State.sealTick (s : State) : State :=
  let s1 := s.setObj 0x121001 s.sealValue
  if s1.sealArmed then
    if s1.obj 0x121001 = s1.obj 0x121002 then s1.setObj 0x121003 1
    else
      let s2 := s1.bump 0x121004 1
      if s1.obj 0x121003 = 2 then s2
      else (s2.setObj 0x121003 2).raiseDevice 0x0701 3 ucHub 0 (s1.obj 0x121001 + s1.obj 0x121002 * 2 ^ 32)
  else s1

/-- Entry into READY (15 R375): a channel that waits in STARTING calls at once (R376). -/
def State.readyTick (s : State) : State :=
  if s.obj 0x210001 = 1 && [2, 3, 5, 6, 7].all (fun n => passed (s.stepResult n)) && decide (s.obj 0x121003 = 1) then
    let s1 := (((s.setObj 0x210001 2).endStep 8 2).setObj 0x210009 s.ns.toNat).raiseDevice 0x070B 0 ucHub 0 s.ns.toNat
    (List.range 4).foldl (fun (t : State) n => if t.calls n then t.sendCall n else t) s1
  else s

/-- The publication frame, when any entry is used (14 R358). -/
def State.publish (s : State) : State :=
  let refs := ((List.range 32).map (fun i => s.live (0x111001 + i))).filter (· != 0)
  if refs = [] then s
  else
    let data := (refs.map (fun ref => s.readBytes 0 ref 0 (objSize ref))).flatten
    { s with notifySeq := s.notifySeq + 1 }.sendDict 0
      (dictHeader 9 false false s.notifySeq.toNat 0 0 0 (s.obj 0x120203 % 2 ^ 32) data.length 0 ++ data)

/-- SECDED corrected a word of steward memory or of the hub's shared state (16 R388, R392). -/
def State.hubCorrected (s : State) (w : HubWord) : State :=
  match w with
  | .steward m => s.raiseDevice 0x0301 1 ucSteward m ((Config.arrayNumber 7).toNat * 2 ^ 32)
  | .hub => s.raiseDevice 0x0301 1 ucHub 0 ((Config.arrayNumber 8).toNat * 2 ^ 32)

/-- The time base passes the next multiple of 1,000,000,000 ns; `corrected`: words that SECDED has corrected in the second (DESIGN CHOICE,
log 116: they are reported at its end). -/
def execManagementTick (corrected : List HubWord) (s : State) : Outcome State Fault Refusal :=
  .next (if s.timeLocked && s.fwUp then
    let s1 := (s.atLeast ((s.ns.toNat / 1000000000 + 1) * 1000000000)).bump 0x120203 1
    corrected.foldl State.hubCorrected (((((s1.secondEnds.bytesSecond).applyBuffered).sealTick).readyTick).publish)
  else s)

end Sys2Proof.Machine
end

