-- ==== Sys2Proof/Machine/Exchange.lean ====
section
/-! DEFINITION. The exchange of a step (11): chunks received (R259, R260), exchange windows and send entries (R269), CLOSE (R263),
the commit and abort protocol (R270 to R281). -/

namespace Sys2Proof.Machine

open Sys2Proof Host

/-! ### Chunks received (R259, R260) -/

/-- The header holds a reserved value (R259 item 1). -/
def chunkReserved (h : ChunkHdr) : Bool :=
  decide (h.type = 0) || decide (4 < h.type) || decide (3 < h.etype)
    || ((h.type == 2 || h.type == 3) && decide (field h.max 31 22 = 0) && decide (h.max ≠ 0))

/-- The header's ETYPE is one the window accepts (R260). -/
def etypeFits (w : WindowEnt) (etype : Nat) : Bool :=
  if w.role = 2 then etype == 3 else if w.etype = 0 then etype == 0 else etype == 1 || etype == 2

/-- The receiver's value of a window's slot, as the header's X spells it. -/
def State.slotX (s : State) (p slot : Nat) : Nat := (s.ephRow p (s.stepNo p) slot).scale.toNat

/-- A DATA, CLOSE or RESULT chunk fits the window that its R_Key names. -/
def State.chunkFits (s : State) (p : Nat) (c : Chunk) (h : ChunkHdr) (w : WindowEnt) : Bool :=
  decide (c.rkey.toNat = 0x7A000000 + h.window) && decide (c.va.toNat = 32768 * h.chunk)
    && (if w.role = 2 then h.type == 4 else h.type == 1 || h.type == 2) && etypeFits w h.etype
    && (h.etype != 0 || decide (h.x = s.slotX p w.slot.toNat))
    && (if h.type = 2 then decide (h.chunk = winChunks w) && decide (h.elems = 0)
        else decide (h.chunk < winChunks w) && decide (h.elems = winChunkLen w h.chunk))
    && decide (c.elems.length = chunkBytes h.etype h.elems)
    && (if w.role = 2 then decide (h.sender = w.peer.toNat) && decide (h.sender < (s.part p).ranks)
        else w.members.contains h.sender)

/-- A DONE fits the owner's window (R259, R260). -/
def State.doneFits (s : State) (p : Nat) (c : Chunk) (h : ChunkHdr) : Bool :=
  let x := s.part p
  decide (h.sender < x.ranks) && (h.etype != 0 || decide (h.x = s.slotX p h.slot)) && decide (c.rkey.toNat = 0x7A010000 + h.window) && decide (c.va = 0) && c.elems == []
    && decide (h.elems = 0) && decide (h.slot < x.slotCount)
    && (match x.windowAt h.sender h.window with
        | some w => w.role == 0 && decide (h.chunk = winChunks w) && decide (h.etype = if w.etype = 0 then 0 else 2)
        | none => false)

/-- Nothing about an acceptable chunk is a mismatch (R259 item 4). -/
def State.chunkRight (s : State) (p : Nat) (c : Chunk) (h : ChunkHdr) : Bool :=
  decide (h.job = s.jobField p) && decide (h.step = s.stepNo p) && decide (h.count ≠ 0)
    && (if h.type = 3 then s.doneFits p c h
        else match (s.part p).windowAt (s.part p).rank h.window with
          | some w => s.chunkFits p c h w
          | none => false)

/-- A header mismatch is counted, recorded and charged to the step (R259 item 4, R278). -/
def State.headerMismatch (s : State) (p : Nat) (k : PktHdr) (h : ChunkHdr) : State :=
  ((s.bump (0x521008 + 256 * p) 1).raisePart 0x0505 2 ucTally (pktPort k).val p 0 (h.window + h.sender * 2 ^ 16)).chargeFault p 6

/-- A DONE that is right: JOB_MAX, the skip decision, RESULT windows (R264, R266). -/
def State.doneArrived (s : State) (p : Nat) (h : ChunkHdr) : State :=
  ((s.recordJobMax p h.slot h.max).noteDone p h.sender h.window h.skip).checkResults p

/-- A chunk that is right goes to its tally engine from the port's receive buffers. -/
def State.chunkTaken (s : State) (p : Nat) (c : Chunk) (h : ChunkHdr) : State :=
  if h.type = 3 then s.doneArrived p h
  else
    let port := pktPort c.pkt
    ((s.loopTake (loopId 4 p port.val) (packetsOf (64 + c.elems.length))).toTally p c.header c.elems (some c.pkt.esp.frame.k)).pfcCheck p
      port.val

/-- A chunk message of a TYPE, in the order of R259. A chunk that finds no free receive buffer is lost, and its sender retransmits it
(10 R226); a DONE keeps none. -/
def State.rxChunk (s : State) (p type : Nat) (c : Chunk) : State :=
  let h := chunkOf c.header
  let bad := chunkReserved h
  let n := packetsOf (64 + c.elems.length)
  if (h.type ≠ type ∧ !bad) ∨ (s.part p).ranks ≤ pktParty c.pkt ∨ (h.type ≠ 3 ∧ s.jobState p ≠ 7 ∧ !s.buffersFree p (pktPort c.pkt).val n) then s
  else
    let r := s.rxPacket p c.pkt n true
    let t := r.1
    if !r.2 then t
    else if bad then t.rxDrop (pktLink c.pkt)
    else if h.step = t.stepNo p + 1 then t.sendNak p c.pkt c.pkt.psn 4
    else if h.step < t.stepNo p ∨ t.chunkOld p h then (t.rxAccept p c.pkt n).bump (0x521007 + 256 * p) 1
    else if t.chunkRight p c h then (t.rxAccept p c.pkt n).chunkTaken p c h
    else (t.rxAccept p c.pkt n).headerMismatch p c.pkt h

/-- The packets of a chunk arrive (17 R412). -/
def State.chunkArrives (s : State) (p : Fin 4) (type : Nat) (c : Chunk) (cmd : Instr) : State :=
  s.pktArrives p c.pkt (packetsOf (64 + c.elems.length)) cmd (fun t => t.rxChunk p type c)

def execData (p : Fin 4) (c : Chunk) (s : State) : Outcome State Fault Refusal := .next (s.chunkArrives p 1 c (.data p c))
def execClose (p : Fin 4) (c : Chunk) (s : State) : Outcome State Fault Refusal := .next (s.chunkArrives p 2 c (.close p c))
def execDone (p : Fin 4) (c : Chunk) (s : State) : Outcome State Fault Refusal := .next (s.chunkArrives p 3 c (.done p c))
def execResult (p : Fin 4) (c : Chunk) (s : State) : Outcome State Fault Refusal := .next (s.chunkArrives p 4 c (.result p c))

/-! ### Exchange windows and send entries (R269) -/

/-- The device computes: descriptor 0 has run and the own COMMIT is not sent. -/
def State.computing (s : State) (p : Nat) : Bool := decide (s.exState p = 1) && (s.part p).inStep && !s.hubStopped p

/-- An exchange window opens once the lowest quadrant has counted OPEN cycles since the step's start. -/
def execExchangeWindowOpen (p : Fin 4) (i : BitVec 8) (s : State) : Outcome State Fault Refusal :=
  .next (
    let x := s.part p
    match x.image with
    | none => s
    | some img =>
      match img.xwins[i.toNat]? with
      | none => s
      | some w =>
        let c := (s.quad (s.lowQuad p)).count.toNat
        if s.computing p && !x.opened.contains i.toNat && decide (x.startCount.toNat + w.opens.toNat ≤ c) then
          s.setPart p { x with opened := x.opened ++ [i.toNat] }
        else s)

def sndField (e : SendEnt) (hi lo : Nat) : Nat := field e.bits.toNat hi lo

/-- Send entries of the own rank with their numbers. -/
def Part.ownSends (x : Part) : List (SendEnt × Nat) :=
  match x.image with
  | some i => i.sends.zipIdx.filter (fun e => e.1.rank.toNat == x.rank)
  | none => []

/-- DATA header and source range (region offset, bytes) of chunk c of a send entry to window w. -/
def State.sendChunk (s : State) (p : Nat) (e : SendEnt) (w : WindowEnt) (c : Nat) : ChunkHdr × Nat × Nat :=
  let et := sndField e 11 8
  let n := winChunkLen w c
  ({ s.ownHeader p 1 et (sndField e 47 32) c with
      elems := n, x := if et = 0 then s.slotX p (sndField e 63 48) else 0 },
   sndField e 111 72 + chunkBytes et (winChunkElems w) * (c - sndField e 143 112), chunkBytes et n)

/-- Post every chunk of an entry. A poisoned source is consumed by the transmit path and nothing of it is sent (09 R212). -/
def State.sendEntry (s : State) (p : Nat) (e : SendEnt) (w : WindowEnt) : State :=
  let r := sndField e 71 64
  let cs := (List.range' (sndField e 143 112) (sndField e 175 144)).map (s.sendChunk p e w)
  let scale := if sndField e 11 8 = 0 then s.rowPoison p (s.stepNo p) (sndField e 63 48) else 0
  let bad := cs.foldl (fun a c => firstOrigin a (s.poisonIn p r c.2.1 c.2.2)) scale
  let k := s.homeEngine p 0
  let s1 := cs.foldl (fun (t : State) c => t.countRead .hub p r c.2.1 c.2.2) s
  if bad ≠ 0 then s1.consumePoison p none ucTally k (sndField e 207 192) ((bad - 1) % 32) ((bad - 1) / 32)
  else cs.foldl (fun (t : State) c => t.postToWindow p (sndField e 31 16) c.1 (t.readRegion p r c.2.1 c.2.2)) s1

/-- A send entry starts when its exchange window has opened and its ready report has arrived. -/
def execSendEntryStart (p : Fin 4) (i : BitVec 16) (s : State) : Outcome State Fault Refusal :=
  .next (
    let x := s.part p
    match x.ownSends.find? (fun e => e.2 == i.toNat) with
    | none => s
    | some (e, n) =>
      let report := (loomKey (loomOfNumber (s.runLooms p) (sndField e 187 176)), BitVec.ofNat 16 (sndField e 207 192))
      match x.windowAt (sndField e 31 16) (sndField e 47 32) with
      | none => s
      | some w =>
        if s.computing p && x.opened.contains (sndField e 7 0) && x.reports.contains report && !x.started.contains n then
          (s.setPart p { x with started := x.started ++ [n] }).sendEntry p e w
        else s)

/-! ### CLOSE (R263) -/

/-- The looms of the partition that take part in the job and that the state lists. -/
def State.partLooms (s : State) (p : Nat) : List Loom :=
  ((SMap.keys s.looms).filter (fun k => s.partOfQuad (k / 500) == p && s.loomUsed k)).map (SMap.get Loom.init s.looms)

/-- Own send entries to a window. -/
def Part.sendsTo (x : Part) (dest window : Nat) : List (SendEnt × Nat) :=
  x.ownSends.filter (fun e => sndField e.1 31 16 == dest && sndField e.1 47 32 == window)

/-- The CLOSE to a window: sent after the looms have merged and the last DATA chunk is posted. A poisoned row is consumed by the transmit
path, and no CLOSE is made of it (09 R212). -/
def execCloseSend (p : Fin 4) (dest : BitVec 12) (window : BitVec 16) (s : State) : Outcome State Fault Refusal :=
  .next (
    let x := s.part p
    let d := dest.toNat
    let n := window.toNat
    match x.sendsTo d n, x.windowAt d n with
    | (e, i) :: t, some w =>
      if s.computing p && (s.partLooms p).all (·.merged) && (((e, i) :: t).all (fun a => x.started.contains a.2))
          && !x.closed.contains (d, n) then
        let et := sndField e 11 8
        let slot := sndField e 63 48
        let row := s.ephRow p (s.stepNo p) slot
        let h := { s.ownHeader p 2 et n (winChunks w) with
          x := if et = 0 then s.slotX p slot else 0, nonfin := row.nonfin.toNat, max := row.localMax.toNat }
        let bad := s.rowPoison p (s.stepNo p) slot
        let s1 := s.setPart p { x with closed := x.closed ++ [(d, n)] }
        if bad ≠ 0 then s1.consumePoison p none ucTally (s.homeEngine p 0) 0 ((bad - 1) % 32) ((bad - 1) / 32)
        else s1.postToWindow p d h []
      else s
    | _, _ => s)

/-! ### Commit (R271, R272, R277 to R281) -/

/-- Every loom has ended and merged, its units are empty, every verdict has come (R272 item 1). -/
def Loom.finished (x : Loom) : Bool :=
  decide (x.seq = .ended) && x.merged && x.arrayQ == [] && x.vectorQ == [] && x.dmaQ == [] && x.chainQ == [] && x.verdicts == []

/-- Everything this rank sends for the attempt is sent, and acknowledged (R272 item 2). -/
def State.allSent (s : State) (p : Nat) : Bool :=
  let x := s.part p
  x.ownSends.all (fun e => x.started.contains e.2 && x.closed.contains (sndField e.1 31 16, sndField e.1 47 32))
    && (x.ownWindows.filter (fun w => w.role.toNat != 2)).all (fun w => x.windowsDone.contains w.window.toNat)
    && (SMap.keys x.qps).all (fun n => (x.qp n).unacked.all (fun m => m.kind != 0 || decide (m.att.toNat ≠ s.attempt p)))

/-- The distinct slots named by the own send entries. -/
def Part.sentSlots (x : Part) : List Nat := (x.ownSends.map (fun e => sndField e.1 63 48)).foldl (fun m t => insertNat t m) []

/-- Sum of NONFIN over the distinct slots named by the own send entries (R270). -/
def State.nonfinTotal (s : State) (p : Nat) : Nat :=
  ((s.part p).sentSlots.foldl (fun a t => a + (s.ephRow p (s.stepNo p) t).nonfin.toNat) 0) % 2 ^ 40

/-- Origin of the poison among the entries of that sum. -/
def State.nonfinPoison (s : State) (p : Nat) : Nat :=
  (s.part p).sentSlots.foldl (fun a t => firstOrigin a (s.rowPoison p (s.stepNo p) t)) 0

/-- Markers of the step and attempt in progress. -/
def State.markersNow (s : State) (p : Nat) : List Marker :=
  (s.part p).markers.filter (fun m => m.step == s.stepNo p && m.attempt == s.attempt p)

/-- Keep a marker, once. -/
def State.addMarker (s : State) (p : Nat) (m : Marker) : State :=
  s.modPart p (fun x =>
    if x.markers.any (fun n => n.step == m.step && n.attempt == m.attempt && n.rank == m.rank) then x
    else { x with markers := x.markers ++ [m] })

/-- Class-0x06 contributions are committed (05 R133). -/
def State.commitLoops (s : State) (p : Nat) : State :=
  ((SMap.keys s.cloops).filter (fun l => l / 2 ^ 24 == 6 && l / 2 ^ 22 % 4 == p)).foldl (fun (t : State) l =>
    let c := t.cloop l
    t.setCloop l { c with inFlight := 0, returned := c.returned + c.inFlight }) s

/-- The step is committed: the policy's decision is taken (R279, R281). -/
def State.commitStep (s : State) (p : Nat) : State :=
  let b := 256 * p
  let total := (s.markersNow p).foldl (fun a m => a + m.nonfin.toNat) 0
  let policy := (s.part p).man 103 96
  let skip := decide (policy ≠ 0) && decide (0 < total)
  let s1 := ((s.setExState p 3).setObj (0x907005 + b) (s.stepNo p)).setObj (0x52100B + b) total
  let s2 := (s1.commitLoops p).modPart p (fun x => { x with committed := true, skipStep := skip })
  if skip then
    let s3 := (s2.bump (0x52100A + b) 1).raisePart 0x0603 1 ucPart p p 0 0xFFFF
    if policy = 2 then s3.haltAtBoundary p 0x0A 0 else s3
  else s2

/-- Commit once COMMIT has come from every rank, the own included (R271). -/
def State.commitCheck (s : State) (p : Nat) : State :=
  if s.exState p = 2 ∧ (List.range (s.part p).ranks).all (fun r => (s.markersNow p).any (fun m => m.rank == r)) then s.commitStep p
  else s

/-- COMMIT leaves once everything is done and acknowledged; a poisoned entry of the sum that it carries is consumed, and the marker
withheld (R272; 09 R212). -/
def execCommitSend (p : Fin 4) (s : State) : Outcome State Fault Refusal :=
  .next (if s.computing p && (s.partLooms p).all Loom.finished && s.allSent p then
    let n := s.nonfinTotal p
    let bad := s.nonfinPoison p
    if bad ≠ 0 then s.consumePoison p none ucTally (s.homeEngine p 0) 0 ((bad - 1) % 32) ((bad - 1) / 32) else
    let s1 := (s.sendMarker p 1 0 n).setExState p 2
    let s2 := s1.modPart p (fun x => { x with commitNs := s1.ns })
    (s2.addMarker p { step := s.stepNo p, attempt := s.attempt p, rank := (s.part p).rank, nonfin := BitVec.ofNat 40 n }).commitCheck p
  else s)

/-! ### Markers received (R270, R271, R274) -/

/-- A marker of a KIND as R248 to R251 deliver it: `some` with the state when it is to be handled. -/
def State.rxMarker (s : State) (p kind : Nat) (k : PktHdr) (m : Word512) : State × Bool :=
  let f := field m.toNat
  let bad := decide (f 511 504 = 0) || decide (2 < f 511 504) || (decide (f 511 504 = 2) && decide (f 399 392 = 0 ∨ 8 < f 399 392))
  if (f 511 504 ≠ kind ∧ !bad) ∨ (s.part p).ranks ≤ pktParty k then (s, false)
  else
    let r := s.rxPacket p k 1 true
    if !r.2 then (r.1, false)
    else if bad then (r.1.rxDrop (pktLink k), false)
    else ((r.1.rxAccept p k 1).traceHub (pktLink k) 8 p (kind + 2 ^ 8 + pktParty k * 2 ^ 16) (f 495 448), decide (f 447 416 = s.jobField p) && decide (f 415 400 = pktParty k))

/-- A COMMIT of a peer rank (R271). -/
def State.rxCommit (s : State) (p : Fin 4) (h : PktHdr) (m : Word512) : State :=
  let f := field m.toNat
  let r := s.rxMarker p 1 h m
  if r.2 && decide (s.stepNo p ≤ f 495 448) then
    (r.1.addMarker p { step := f 495 448, attempt := f 503 496, rank := pktParty h, nonfin := BitVec.ofNat 40 (f 391 352) }).commitCheck p
  else r.1

def execCommitReceive (p : Fin 4) (h : PktHdr) (m : Word512) (s : State) : Outcome State Fault Refusal :=
  .next (s.pktArrives p h 1 (.commitReceive p h m) (fun t => t.rxCommit p h m))

/-- An ABORT that is ignored and counted (07 R166), by every update engine of the partition (DESIGN CHOICE, log 130). -/
def State.lateAbort (s : State) (p : Nat) : State :=
  (s.stacksOf p).foldl (fun (t : State) k => t.bump (0x406007 + 256 * k) 1) s

/-- An ABORT(st, a) from a rank: of an attempt dealt with, ignored; after the commit or that rank's own COMMIT, ignored and
counted; of the attempt in progress, handled; of one that has not begun here, kept until it does. -/
def State.abortArrived (s : State) (p st a cause r : Nat) : State :=
  let n := s.stepNo p
  let e := s.exState p
  if st < n ∨ (st = n ∧ (e = 0 ∨ e = 3)) ∨ (s.part p).markers.any (fun m => m.step == st && m.attempt == a && m.rank == r) then
    s.lateAbort p
  else if st = n ∧ a < s.attempt p then s
  else if st = n ∧ a = s.attempt p then s.handleAbort p cause r false
  else if st ≤ n + 1 then
    s.modPart p (fun x =>
      if x.early.any (fun y => y.step == st && y.attempt == a) then x
      else { x with early := x.early ++ [{ step := st, attempt := a, cause := cause, sender := r }] })
  else s

/-- An ABORT of a peer rank (R274). -/
def State.rxAbort (s : State) (p : Fin 4) (h : PktHdr) (m : Word512) : State :=
  let f := field m.toNat
  let r := s.rxMarker p 2 h m
  if r.2 then r.1.abortArrived p (f 495 448) (f 503 496) (f 399 392) (pktParty h) else r.1

def execAbortReceive (p : Fin 4) (h : PktHdr) (m : Word512) (s : State) : Outcome State Fault Refusal :=
  .next (s.pktArrives p h 1 (.abortReceive p h m) (fun t => t.rxAbort p h m))

/-- No COMMIT or ABORT from some rank within MARKER_TIMEOUT_MS of the own COMMIT (R278). -/
def execMarkerTimeout (p : Fin 4) (s : State) : Outcome State Fault Refusal :=
  .next (
    let x := s.part p
    if s.exState p = 2 ∧ !s.hubStopped p then
      match (List.range x.ranks).find? (fun r => !(s.markersNow p).any (fun m => m.rank == r)) with
      | none => s
      | some r =>
        let s1 := s.atLeast (x.commitNs.toNat + s.obj 0x520005 * 1000000)
        ((s1.silence p r).raisePart 0x0503 3 ucPart p p 0 r).haltJob p 7 r
    else s)

end Sys2Proof.Machine
end

