-- ==== Sys2Proof/Machine/Services.lean ====
section
/-! DEFINITION. Service peers (12 R287, R291, R297, R298): writes, ring fills and reads of regions. -/

namespace Sys2Proof.Machine

open Sys2Proof Host

/-- The request came on a service's queue pair. -/
def State.svcParty (s : State) (p : Nat) (w : SvcReq) : Bool :=
  s.jobLoaded p && decide ((s.part p).ranks ≤ pktParty w.pkt) && decide (pktParty w.pkt < (s.part p).parties)

/-- A service's request of n packets before its contents are looked at (11 R248 to R254). -/
def State.svcTaken (s : State) (p : Nat) (w : SvcReq) (n : Nat) : State × Bool :=
  if s.svcParty p w then s.rxPacket p w.pkt n false else (s, false)

/-- The service entry grants a right: 0 ring write, 1 restore write, 2 checkpoint read, 3 image write. -/
def State.svcRight (s : State) (p : Nat) (w : SvcReq) (bit : Nat) : Bool :=
  ((s.part p).svcEntry (pktParty w.pkt - (s.part p).ranks)).testBit (128 + bit)

/-- The region an R_Key names. -/
def State.svcRegion (s : State) (p : Nat) (w : SvcReq) : Option Nat :=
  let r := w.rkey.toNat - 0x7B000000
  if 0x7B000000 ≤ w.rkey.toNat ∧ (s.part p).hasRegion r then some r else none

/-! ### Rings (R297; 05 R127) -/

def Part.ringBytes (x : Part) (r : Nat) : Nat := field (x.regionEntry r) 191 160
def Part.ringEntries (x : Part) (r : Nat) : Nat := field (x.regionEntry r) 223 192

/-- Key of an entry of a ring. -/
def ringKey (r e : Nat) : Nat := r * 65536 + e

/-- The step that entry e of a ring waits for: the first one past the last boundary that falls on it. -/
def State.ringStep (s : State) (p r e : Nat) : Nat :=
  let n := Nat.max 1 ((s.part p).ringEntries r)
  let first := s.passedStep p + 1
  first + (e + n - first % n) % n

/-- Entry e is free: its last fill was for a step whose boundary has passed. -/
def State.ringFree (s : State) (p r e : Nat) : Bool := decide ((SMap.get 0 (s.part p).ringFull (ringKey r e)).toNat ≤ s.passedStep p)

/-- A write may land in entry va / ENTRY_BYTES. -/
def State.ringWriteOk (s : State) (p r : Nat) (w : SvcReq) : Bool :=
  let b := (s.part p).ringBytes r
  let e := w.va.toNat / Nat.max 1 b
  decide (0 < b) && decide (e < (s.part p).ringEntries r) && decide (w.va.toNat % Nat.max 1 b + w.data.length ≤ b) && s.ringFree p r e

/-- Bytes land in an entry: stored, and added to the fill's fingerprint. -/
def State.ringLand (s : State) (p r : Nat) (w : SvcReq) : State :=
  let x := s.part p
  let b := x.ringBytes r
  let k := ringKey r (w.va.toNat / b)
  let key := x.fpKey (0xFFFF00 + r)
  let f := (w.data.zipIdx).foldl (fun a e => (a + fpTerm e.1.toNat (w.va.toNat % b + e.2) key) % fpMod) (SMap.get 0 x.ringFp k).toNat
  (s.writeRegion .hub p r w.va.toNat w.data false).modPart p (fun y => { y with ringFp := SMap.set 0 y.ringFp k (BitVec.ofNat 64 f) })

/-- The fill of an entry for step n is complete. -/
def State.ringDone (s : State) (p r e n : Nat) : State :=
  let k := ringKey r e
  let waits := decide (s.stepNo p = n) && decide (s.exState p ≠ 0)
  s.modPart p (fun x =>
    let entry : FpEntry :=
      { step := BitVec.ofNat 48 n, kind := 0, tensor := BitVec.ofNat 24 (0xFFFF00 + r), seq := BitVec.ofNat 64 n, fp := SMap.get 0 x.ringFp k }
    { x with ringFull := SMap.set 0 x.ringFull k (BitVec.ofNat 64 n), fpEntries := x.fpEntries ++ [entry]
             ringFp := SMap.set 0 x.ringFp k 0, ringWaitNs := if waits then s.ns else x.ringWaitNs })

/-! ### The requests -/

/-- A WRITE into a region that the rights and the job state allow (R291): image and restore writes in LOADED only. -/
def State.svcMayWrite (s : State) (p r : Nat) (w : SvcReq) : Bool :=
  let kind := (s.part p).regionKind r
  (if kind = 8 then s.svcRight p w 3 else (kind == 1 || kind == 9) && s.svcRight p w 1)
    && decide (s.jobState p = 1) && s.inRegion p r w.va.toNat w.data.length

/-- A WRITE of a service: into a ring entry, or into a region that it may write. -/
def State.rxServiceWrite (s : State) (p : Fin 4) (w : SvcReq) : State :=
  let n := packetsOf w.data.length
  match s.svcTaken p w n with
  | (t, false) => t
  | (t, true) =>
    match t.svcRegion p w with
    | none => t.svcRefuse p w.pkt
    | some r =>
      if (t.part p).regionKind r = 4 then
        (if t.svcRight p w 0 && t.ringWriteOk p r w then (t.rxAccept p w.pkt n).ringLand p r w else t.svcRefuse p w.pkt)
      else if t.svcMayWrite p r w then (t.rxAccept p w.pkt n).writeRegion .hub p r w.va.toNat w.data false
      else t.svcRefuse p w.pkt

def execServiceRdmaWrite (p : Fin 4) (w : SvcReq) (s : State) : Outcome State Fault Refusal :=
  .next (s.pktArrives p w.pkt (packetsOf w.data.length) (.serviceRdmaWrite p w) (fun t => t.rxServiceWrite p w))

/-- A WRITE with immediate completes a ring fill; its own bytes land first. -/
def State.rxRingFill (s : State) (p : Fin 4) (w : SvcReq) (imm : BitVec 32) : State :=
  let n := packetsOf w.data.length
  match s.svcTaken p w n with
  | (t, false) => t
  | (t, true) =>
    match t.svcRegion p w with
    | none => t.svcRefuse p w.pkt
    | some r =>
      let e := w.va.toNat / Nat.max 1 ((t.part p).ringBytes r)
      let k := t.ringStep p r e
      if (t.part p).regionKind r = 4 && t.svcRight p w 0 && t.ringWriteOk p r w && decide (imm.toNat = k % 2 ^ 32) then
        ((t.rxAccept p w.pkt n).ringLand p r w).ringDone p r e k
      else t.svcRefuse p w.pkt

def execRingFillComplete (p : Fin 4) (w : SvcReq) (imm : BitVec 32) (s : State) : Outcome State Fault Refusal :=
  .next (s.pktArrives p w.pkt (packetsOf w.data.length) (.ringFillComplete p w imm) (fun t => t.rxRingFill p w imm))

/-- A READ of a state region or of the checkpoint region is granted under a hold or in HALTED (R298). -/
def State.svcMayRead (s : State) (p r : Nat) (w : SvcReq) : Bool :=
  let x := s.part p
  (x.regionKind r == 1 || x.regionKind r == 9) && s.svcRight p w 2 && (x.hold.isSome || decide (s.jobState p = 7))
    && s.inRegion p r w.va.toNat w.len.toNat

/-- A READ request; the response takes as many PSNs as it has packets. A poisoned payload is not sent: the transmit path consumes it
(09 R212). -/
def State.rxReadRequest (s : State) (p : Fin 4) (w : SvcReq) : State :=
  match s.svcTaken p w 1 with
  | (t, false) => t
  | (t, true) =>
    match t.svcRegion p w with
    | none => t.svcRefuse p w.pkt
    | some r =>
      let n := w.len.toNat
      if t.svcMayRead p r w then
        let u := (t.rxTaken p w.pkt (packetsOf n) 1).countRead .hub p r w.va.toNat n
        let bad := u.poisonIn p r w.va.toNat n
        if bad = 0 then u.sendRead p (pktQpn w.pkt) w.pkt.psn (u.readRegion p r w.va.toNat n)
        else u.consumePoison p none ucTally (((u.part p).qp (pktQpn w.pkt)).link.toNat / 8) 0 ((bad - 1) % 32) ((bad - 1) / 32)
      else t.svcRefuse p w.pkt

def execRdmaReadRequest (p : Fin 4) (w : SvcReq) (s : State) : Outcome State Fault Refusal :=
  .next (s.pktArrives p w.pkt 1 (.rdmaReadRequest p w) (fun t => t.rxReadRequest p w))

end Sys2Proof.Machine
end

