-- ==== Sys2Proof/Machine/Transcendental.lean ====
section
/-! DEFINITION. The transcendental unit, bit for bit (03 R77, R78). -/

namespace Sys2Proof

/-- The largest x below 2^n that satisfies a downward-closed test. -/
def bitSearch (p : Nat → Bool) : Nat → Nat → Nat
  | 0, x => x
  | n + 1, x => bitSearch p n (if p (x + 2 ^ n) then x + 2 ^ n else x)

/-- EXP[j] = rne(2^(j/64) × 2^31): the nearest 64th root of 2^(1984 + j). -/
def expTab (j : Nat) : Nat :=
  let r := bitSearch (fun x => decide (x ^ 64 ≤ 2 ^ (1984 + j))) 32 0
  if (2 * r + 1) ^ 64 ≤ 2 ^ (2048 + j) then r + 1 else r

/-- RCP[j] = rne(2^38 / (64 + j)), with 2^31 at 63. -/
def rcpTab (j : Nat) : Nat := if j = 63 then 2 ^ 31 else rneNat (2 ^ 38) (64 + j)

/-- Bits of log2 by repeated squaring of a value y × 2^-200 in [1, 2). -/
def log2Bits : Nat → Nat → Nat → Nat
  | 0, _, acc => acc
  | n + 1, y, acc =>
    let z := y * y / 2 ^ 200
    if 2 ^ 201 ≤ z then log2Bits n (z / 2) (2 * acc + 1) else log2Bits n z (2 * acc)

/-- LOG[j] = rne(2^32 × log2(2^32 / RCP[j])): 34 bits of the logarithm, rounded. -/
def logTab (j : Nat) : Nat :=
  if j = 63 then 2 ^ 32 else (log2Bits 34 (2 ^ 232 / rcpTab j) 0 + 2) / 4

/-- RSQ[j] = rne(2^32 × sqrt(64 / (64 + j))). -/
def rsqTab (j : Nat) : Nat :=
  let r := bitSearch (fun x => decide (x ^ 2 * (64 + j) ≤ 2 ^ 70)) 33 0
  if (2 * r + 1) ^ 2 * (64 + j) ≤ 2 ^ 72 then r + 1 else r

/-- Sign, exponent and mantissa of a finite nonzero FP32 pattern: m × 2^(e − 23) with 2^23 ≤ m < 2^24. -/
def unpack32 (p : Nat) : Bool × Int × Nat :=
  let e := field p 30 23
  let f := p % 2 ^ 23
  if e = 0 then
    let k := 23 - Nat.log2 f
    (p.testBit 31, -126 - (k : Int), f * 2 ^ k)
  else (p.testBit 31, (e : Int) - 127, 2 ^ 23 + f)

/-- Integer part and Q2.63 mantissa of 2^(t / 2^30). -/
def exp2Core (t : Int) : Int × Nat :=
  let j := (t / 2 ^ 24 % 64).toNat
  let f := (t % 2 ^ 24).toNat * 4
  let p1 := 0x3D7F7BFF + f * 0x0E35846C / 2 ^ 32
  let p2 := 0xB17217F8 + f * p1 / 2 ^ 32
  let q := 2 ^ 32 + f * p2 / 2 ^ 32
  (t / 2 ^ 30, expTab j * q)

def exp2Fn (p : Nat) : Nat :=
  match val32 p with
  | .nan => nan32
  | .inf s => if s then 0 else 0x7F800000
  | .fin s n d e =>
    if n = 0 then 0x3F800000
    else if !((Val.fin s n d e).lt (Val.ofInt 128 0)) then 0x7F800000
    else if (Val.fin s n d e).lt (Val.ofInt (-160) 0) then 0
    else
      let x := inUnits n d (e + 30) 0
      let c := exp2Core (roundInt s x.1 x.2 none)
      to32 (.fin false c.2 1 (c.1 - 63))

def log2Fn (p : Nat) : Nat :=
  match val32 p with
  | .nan => nan32
  | .inf s => if s then nan32 else 0x7F800000
  | .fin s n _ _ =>
    if n = 0 then 0xFF800000
    else if s then nan32
    else
      let u := unpack32 p
      let j := u.2.2 / 2 ^ 17 % 64
      let r : Int := (u.2.2 * rcpTab j : Nat) - 2 ^ 55
      let p1 : Int := 0x3D8E13B8 - r * 0x2E2A8ECA / 2 ^ 55
      let p2 : Int := 0x5C551D95 - r * p1 / 2 ^ 55
      let p3 : Int := 0xB8AA3B29 - r * p2 / 2 ^ 55
      let y := r * p3 / 2 ^ 31
      to32 (Val.ofInt (u.2.1 * 2 ^ 55 + (logTab j * 2 ^ 23 : Nat) + y) (-55))

def rcpFn (p : Nat) : Nat :=
  match val32 p with
  | .nan => nan32
  | .inf s => withSign 0 s 0
  | .fin s n _ _ =>
    if n = 0 then withSign 0 s 0x7F800000
    else
      let u := unpack32 p
      let j := u.2.2 / 2 ^ 17 % 64
      let r : Int := (u.2.2 * rcpTab j : Nat) - 2 ^ 55
      let q := [0, 0, 0, 0].foldl (fun (q : Int) _ => 2 ^ 55 - r * q / 2 ^ 55) (2 ^ 55 : Int)
      to32 (.fin s (rcpTab j * q.toNat) 1 (-87 - u.2.1))

def rsqrtFn (p : Nat) : Nat :=
  match val32 p with
  | .nan => nan32
  | .inf s => if s then nan32 else 0
  | .fin s n _ _ =>
    if n = 0 then withSign 0 s 0x7F800000
    else if s then nan32
    else
      let u := unpack32 p
      let odd := u.2.1 % 2 ≠ 0
      let m := if odd then 2 * u.2.2 else u.2.2
      let e := if odd then u.2.1 - 1 else u.2.1
      let j := (m - 2 ^ 23) / 2 ^ 17
      let r : Int := (m * rsqTab j * rsqTab j / 2 ^ 32 : Nat) - 2 ^ 55
      let q := ([5 * 2 ^ 51, 3 * 2 ^ 52, 2 ^ 54, 2 ^ 55] : List Int).foldl (fun (q : Int) c => c - r * q / 2 ^ 55) (35 * 2 ^ 48 : Int)
      to32 (.fin false (rsqTab j * q.toNat) 1 (-87 - e / 2))

def tanhFn (p : Nat) : Nat :=
  match val32 p with
  | .nan => nan32
  | .inf s => withSign 0 s 0x3F800000
  | .fin s n _ _ =>
    if n = 0 then p
    else
      let u := unpack32 p
      let m := u.2.2
      if u.2.1 < -4 then
        let k := (23 - u.2.1).toNat
        let x := 15 * m * 2 ^ (4 * k) - 5 * m ^ 3 * 2 ^ (2 * k) + 2 * m ^ 5
        to32 (.fin s x 15 (-5 * (k : Int)))
      else if !((val32 (p % 2 ^ 31)).lt (Val.ofInt 10 0)) then withSign 0 s 0x3F800000
      else
        let t : Nat := m * 2 ^ (u.2.1 + 7).toNat * 0xB8AA3B29 / 2 ^ 30
        let c := exp2Core (t : Int)
        let big := c.2 * 2 ^ c.1.toNat
        to32 (.fin s (big - 2 ^ 63) (big + 2 ^ 63) 0)

end Sys2Proof
end

