-- ==== Sys2Proof/Machine/Vector.lean ====
section
/-! DEFINITION. The vector engine (03 R74 to R79; 04 R94, R95; 05 R118; 11 R267): checks at issue, operands, results, and
one meaning for each vector operation. A vector descriptor's data effects take place at issue. -/

namespace Sys2Proof.Machine

open Sys2Proof Host

/-! ### Fields -/

def vFmtC (d : Word512) : Nat := dField d 51 48
def vFmtD (d : Word512) : Nat := dField d 55 52
def vWide (d : Word512) : Bool := dBit d 56
def vCount (d : Word512) : Nat := dField d 211 192
def vScaleA (d : Word512) : Nat := dField d 136 128
def vScaleB (d : Word512) : Nat := dField d 145 137
def vScaleD (d : Word512) : Nat := dField d 154 146

/-! ### Checks at issue -/

/-- Reserved codes and ranges of a VECTOR (R93 to R95; 03 R75). -/
def vecReserved (vop : Nat) (d : Word512) : Option Reject :=
  if 10 < dField d 43 40 ∨ 10 < dField d 47 44 ∨ 10 < vFmtC d ∨ 10 < vFmtD d ∨ 6 < dField d 215 212 ∨ vCount d = 0 then some (.row 1)
  else if vWide d ≠ (vop == 0x23 || vop == 0x24) then some (.row 4)
  else if vWide d ∧ dField d 215 212 ≠ 4 ∧ dField d 215 212 ≠ 5 then some (.row 4)
  else if dBit d 57 && !srFmt (vFmtD d) then some (.row 1)
  else if vop = 0x30 then (if vFmtD d ≠ 9 ∨ dField d 292 280 = 0 ∨ 4096 < dField d 292 280 then some (.row 1) else none)
  else if vop = 0x31 then (if vFmtD d ≠ 0 then some (.row 1) else none)
  else if vFmtD d = 9 then some (.row 1)
  else if (vop = 9 ∨ vop = 0x0A) ∧ 8 < vFmtD d then some (.row 1)
  else if (vFmtD d == 10) ≠ vWide d then some (.row 2)
  else none

/-- Scale fields (R89): no field names an unmapped entry; a field used as a scale exponent is not 0xFF. -/
def Loom.vecScales (x : Loom) (vop : Nat) (d : Word512) : Option Reject :=
  if x.unmapped (vScaleA d) || x.unmapped (vScaleB d) || x.unmapped (vScaleD d) then some (.row 8)
  else if !x.scaleOk (vFmtA d) (vScaleA d) then some (.row 1)
  else if decide (2 ≤ vopSources vop) && !x.scaleOk (vFmtB d) (vScaleB d) then some (.row 1)
  else if !(vop == 9 || vop == 0x0A || vop == 0x31) && !x.scaleOk (vFmtD d) (vScaleD d) then some (.row 1)
  else none

def Loom.vecCheck (x : Loom) (vop : Nat) (d : Word512) : Option Reject :=
  firstReject [vecReserved vop d, x.vecScales vop d, if rangesOk (vecReads d ++ vecWrites d) then none else some (.row 6)]

/-! ### Operands -/

/-- Exact values of a source: its elements with their scale. -/
def Loom.source (x : Loom) (fmt line n : Nat) (exp : Int) : List Val :=
  (x.elems fmt line n).map (fun p => (slotVal fmt p).scale exp)

def Loom.sourceA (x : Loom) (d : Word512) : List Val :=
  x.source (vFmtA d) (dField d 77 64) (vCount d) (x.scaleExp (vFmtA d) (vScaleA d))

def Loom.sourceB (x : Loom) (d : Word512) : List Val :=
  x.source (vFmtB d) (dField d 91 78) (vCount d) (x.scaleExp (vFmtB d) (vScaleB d))

/-- The third source has no scale field (R75). -/
def Loom.sourceC (x : Loom) (d : Word512) : List Val := x.source (vFmtC d) (dField d 105 92) (vCount d) 0

/-- A source as FP32 lanes: each element converted by R38. -/
def lanes (l : List Val) : List Nat := l.map to32

/-- Origins of the poison of each result of a VECTOR: that of its element in the sources, in a reduction of every element, and that of the
scales it names (03 R82; 16 R388). -/
def Loom.vecPoison (x : Loom) (vop : Nat) (d : Word512) : List Nat :=
  let n := vCount d
  let src := ([(vFmtA d, dField d 77 64), (vFmtB d, dField d 91 78), (vFmtC d, dField d 105 92)]).take (vopSources vop)
  let each := src.foldl (fun a s => (a.zip (x.elemOrigins s.1 s.2 n)).map (fun e => firstOrigin e.1 e.2)) (List.replicate n 0)
  let o := firstOf ([vScaleA d, vScaleB d, vScaleD d].map x.scaleOrigin)
  if vopReduces vop then [firstOrigin (firstOf each) o] else each.map (fun e => firstOrigin e o)

/-! ### Results -/

/-- Results of the lane operations on FP32 patterns (R75, R77). -/
def laneOp1 (f : Nat → Nat) (x : Loom) (d : Word512) : List Val := ((lanes (x.sourceA d)).map f).map val32

def laneOp2 (f : Nat → Nat → Nat) (x : Loom) (d : Word512) : List Val :=
  (((lanes (x.sourceA d)).zip (lanes (x.sourceB d))).map (fun e => f e.1 e.2)).map val32

def laneFma (x : Loom) (d : Word512) : List Val :=
  ((((lanes (x.sourceA d)).zip (lanes (x.sourceB d))).zip (lanes (x.sourceC d))).map (fun e => fma32 e.1.1 e.1.2 e.2)).map val32

/-- An element is zero when its value is ±0 (R75). -/
def valIsZero (v : Val) : Bool := match v with | .fin _ n _ _ => decide (n = 0) | _ => false

def laneSel (x : Loom) (d : Word512) : List Val :=
  ((((lanes (x.sourceA d)).zip (lanes (x.sourceB d))).zip (x.sourceC d)).map
    (fun e => if valIsZero e.2 then e.1.2 else e.1.1)).map val32

/-- The compare masks: +1 or +0 in the destination format (R75). -/
def laneMask (f : Val → Val → Bool) (x : Loom) (d : Word512) : List Nat :=
  ((lanes (x.sourceA d)).zip (lanes (x.sourceB d))).map (fun e => if f (val32 e.1) (val32 e.2) then oneOf (vFmtD d) else 0)

/-- Reductions of FP32 elements (R76; 05 R118). -/
def laneSum (x : Loom) (d : Word512) : List Val := [val32 (refSum 21 (lanes (x.sourceA d)))]

def laneFold (f : Nat → Nat → Nat) (x : Loom) (d : Word512) : List Val :=
  match lanes (x.sourceA d) with
  | [] => []
  | h :: t => [val32 (t.foldl f h)]

/-- Wide sum: each FP32 element into A96 at FRAC, summed exactly (R74). The order of the additions, which decides OVF when a partial sum
wraps, the spec does not fix: from element 0 upwards (DESIGN CHOICE, log 76). -/
def wideSum (x : Loom) (d : Word512) : A96 :=
  let f := signed 8 (dField d 162 155)
  (lanes (x.sourceA d)).foldl (fun a p => a.add (A96.ofVal (val32 p) f none)) { A96.zero with frac := BitVec.ofInt 8 f }

/-- Wide addition of slots (R74). -/
def wideAdd (x : Loom) (d : Word512) : List A96 :=
  ((x.elems 10 (dField d 77 64) (vCount d)).zip (x.elems 10 (dField d 91 78) (vCount d))).map
    (fun e => (A96.ofSlot e.1).add (A96.ofSlot e.2))

/-- Vote code of a value (11 R267). -/
def voteCode (v : Val) (x : Int) : Nat × ConvClass :=
  match v with
  | .fin s n d e =>
    let u := inUnits n d (e - x) 0
    if rneNat u.1 u.2 = 0 then (0, .zero) else (if s then 3 else 1, .ordinary)
  | _ => (2, .nonfinite)

/-! ### Writing results -/

/-- Store packed results of width w at the destination with their poison, and act on it. -/
def State.vecStore (s : State) (l : LoomId) (d : Word512) (x : Loom) (w : Nat) (b : Bytes) (origins : List Nat) : State :=
  (s.setLoom l (x.putElems (64 * dField d 119 106) w b origins)).loomPoison l (dTag d) (firstOf origins)

/-- SR_STORE rounds the result stochastically; a CVT from T32 rounds to nearest even whatever it says (02 R51; 04 R93, R95). -/
def vecStochastic (d : Word512) : Bool := dBit d 57 && !(dField d 39 32 == 0x0C && dField d 43 40 == 9)

/-- Convert the results to the destination format, record them, store them (R38, R93; 06 R140). -/
def State.vecConvert (s : State) (l : LoomId) (d : Word512) (vals : List Val) (origins : List Nat) : State :=
  let x := s.loom l
  let p := s.loomPart l
  let e := x.scaleExp (vFmtD d) (vScaleD d)
  let out := vals.zipIdx.map (fun v =>
    let u := if vecStochastic d then
        some (srBits (s.part p).seed (s.stepNo p) (dField d 239 216) ((dField d 279 240 + v.2) % 2 ^ 40) 3 (dField d 174 163))
      else none
    (convertTo (vFmtD d) (v.1.scale (-e)) u, v.1))
  let y := out.foldl (fun (z : Loom) c => z.note (vScaleD d) c.1.2 c.2) x
  s.vecStore l d y (fmtWidth (vFmtD d)) (packElems (vFmtD d) (out.map (fun c => c.1.1))) origins

def State.vecMask (s : State) (l : LoomId) (d : Word512) (m : List Nat) (origins : List Nat) : State :=
  s.vecStore l d (s.loom l) (fmtWidth (vFmtD d)) (packElems (vFmtD d) m) origins

/-- Store A96 slots; a value with OVF is reported (03 R70): element i as column i mod 64, row (i div 64) mod 64 (DESIGN CHOICE, log 120). -/
def State.vecWide (s : State) (l : LoomId) (d : Word512) (a : List A96) (origins : List Nat) : State :=
  (s.vecStore l d (s.loom l) 128 (packElems 10 (a.map A96.slot)) origins).overflows l (dTag d)
    ((a.zipIdx.filter (fun e => e.1.ovf)).map (·.2))

/-- TO_T32: clamp limit of N, chunk exponent X of D_SCALE, random bits of kind 0x4 with the rank (02 R46, R50). -/
def State.vecT32 (s : State) (l : LoomId) (d : Word512) (origins : List Nat) : State :=
  let x := s.loom l
  let p := s.loomPart l
  let e := x.scaleExp 9 (vScaleD d)
  let out := (x.sourceA d).zipIdx.map (fun v =>
    let u := srBits (s.part p).seed (s.stepNo p) (dField d 239 216) ((dField d 279 240 + v.2) % 2 ^ 40) 4 (s.part p).rank
    (toT32Elem (v.1.scale (-e)) (dField d 292 280) u, v.1))
  let y := out.foldl (fun (z : Loom) c => z.note (vScaleD d) c.1.2 c.2) x
  s.vecStore l d y 32 (packElems 9 (out.map (fun c => c.1.1))) origins

def State.vecVote (s : State) (l : LoomId) (d : Word512) (origins : List Nat) : State :=
  let x := s.loom l
  let e := x.scaleExp 9 (vScaleD d)
  let out := (x.sourceA d).map (fun v => (voteCode v e, v))
  let y := out.foldl (fun (z : Loom) c => z.note (vScaleD d) c.1.2 c.2) x
  s.vecStore l d y 2 (packVotes (out.map (fun c => c.1.1))) origins

/-! ### The operations -/

/-- Words that a VECTOR reads beside its descriptor: its sources and the scales it names. -/
def vecWords (d : Word512) (w : LoomWord) : Bool :=
  linesRead (vecReads d) w || scalesRead [vScaleA d, vScaleB d, vScaleD d] w

/-- Issue of a vector descriptor of operation `vop`: wait for room, check, queue it, carry out its data effect. `hit`: what SECDED finds in
a word that it reads. -/
def State.vectorOp (s : State) (l : LoomId) (vop : Nat) (hit : Option LoomHit) (f : Loom → Word512 → List Nat → State → State) : State :=
  s.descriptor l (0x2000 + vop) hit (fun s d =>
    if s.unitFull l .vector then s
    else match (s.loom l).vecCheck vop d with
      | some r => s.reject l r
      | none =>
        let s1 := s.found l (dTag d) (vecWords d) hit
        let x := s1.loom l
        f x d (x.vecPoison vop d) (s1.toUnit l .vector d 3 false (vecReads d) (vecWrites d)))

/-- A vector operation whose results are values to convert. -/
def State.vectorVals (s : State) (l : LoomId) (vop : Nat) (hit : Option LoomHit) (f : Loom → Word512 → List Val) : State :=
  s.vectorOp l vop hit (fun x d o t => t.vecConvert l d (f x d) o)

def execAdd (l : LoomId) (hit : Option LoomHit) (s : State) : Outcome State Fault Refusal := .next (s.vectorVals l 0x01 hit (laneOp2 add32))
def execSub (l : LoomId) (hit : Option LoomHit) (s : State) : Outcome State Fault Refusal := .next (s.vectorVals l 0x02 hit (laneOp2 sub32))
def execMul (l : LoomId) (hit : Option LoomHit) (s : State) : Outcome State Fault Refusal := .next (s.vectorVals l 0x03 hit (laneOp2 mul32))
def execFma (l : LoomId) (hit : Option LoomHit) (s : State) : Outcome State Fault Refusal := .next (s.vectorVals l 0x04 hit laneFma)
def execMin (l : LoomId) (hit : Option LoomHit) (s : State) : Outcome State Fault Refusal := .next (s.vectorVals l 0x05 hit (laneOp2 min32))
def execMax (l : LoomId) (hit : Option LoomHit) (s : State) : Outcome State Fault Refusal := .next (s.vectorVals l 0x06 hit (laneOp2 max32))
def execAbs (l : LoomId) (hit : Option LoomHit) (s : State) : Outcome State Fault Refusal := .next (s.vectorVals l 0x07 hit (laneOp1 abs32))
def execNeg (l : LoomId) (hit : Option LoomHit) (s : State) : Outcome State Fault Refusal := .next (s.vectorVals l 0x08 hit (laneOp1 neg32))

def execCmplt (l : LoomId) (hit : Option LoomHit) (s : State) : Outcome State Fault Refusal :=
  .next (s.vectorOp l 0x09 hit (fun x d o t => t.vecMask l d (laneMask Val.lt x d) o))

def execCmpeq (l : LoomId) (hit : Option LoomHit) (s : State) : Outcome State Fault Refusal :=
  .next (s.vectorOp l 0x0A hit (fun x d o t => t.vecMask l d (laneMask Val.eqv x d) o))

def execSel (l : LoomId) (hit : Option LoomHit) (s : State) : Outcome State Fault Refusal := .next (s.vectorVals l 0x0B hit laneSel)

/-- One rounding from the exact source value (02 R38, R51). -/
def execCvt (l : LoomId) (hit : Option LoomHit) (s : State) : Outcome State Fault Refusal := .next (s.vectorVals l 0x0C hit Loom.sourceA)

def execExp2 (l : LoomId) (hit : Option LoomHit) (s : State) : Outcome State Fault Refusal := .next (s.vectorVals l 0x10 hit (laneOp1 exp2Fn))
def execLog2 (l : LoomId) (hit : Option LoomHit) (s : State) : Outcome State Fault Refusal := .next (s.vectorVals l 0x11 hit (laneOp1 log2Fn))
def execRcp (l : LoomId) (hit : Option LoomHit) (s : State) : Outcome State Fault Refusal := .next (s.vectorVals l 0x12 hit (laneOp1 rcpFn))
def execRsqrt (l : LoomId) (hit : Option LoomHit) (s : State) : Outcome State Fault Refusal := .next (s.vectorVals l 0x13 hit (laneOp1 rsqrtFn))
def execTanh (l : LoomId) (hit : Option LoomHit) (s : State) : Outcome State Fault Refusal := .next (s.vectorVals l 0x14 hit (laneOp1 tanhFn))

def execRsum (l : LoomId) (hit : Option LoomHit) (s : State) : Outcome State Fault Refusal := .next (s.vectorVals l 0x20 hit laneSum)
def execRmin (l : LoomId) (hit : Option LoomHit) (s : State) : Outcome State Fault Refusal := .next (s.vectorVals l 0x21 hit (laneFold min32))
def execRmax (l : LoomId) (hit : Option LoomHit) (s : State) : Outcome State Fault Refusal := .next (s.vectorVals l 0x22 hit (laneFold max32))

def execWsum (l : LoomId) (hit : Option LoomHit) (s : State) : Outcome State Fault Refusal :=
  .next (s.vectorOp l 0x23 hit (fun x d o t => t.vecWide l d [wideSum x d] o))

def execWadd (l : LoomId) (hit : Option LoomHit) (s : State) : Outcome State Fault Refusal :=
  .next (s.vectorOp l 0x24 hit (fun x d o t => t.vecWide l d (wideAdd x d) o))

def execToT32 (l : LoomId) (hit : Option LoomHit) (s : State) : Outcome State Fault Refusal :=
  .next (s.vectorOp l 0x30 hit (fun _ d o t => t.vecT32 l d o))

def execToVote (l : LoomId) (hit : Option LoomHit) (s : State) : Outcome State Fault Refusal :=
  .next (s.vectorOp l 0x31 hit (fun _ d o t => t.vecVote l d o))

end Sys2Proof.Machine
end

