-- ==== Sys2Proof/Machine/Dispatch.lean ====
section
/-! DEFINITION. The dispatch: one arm for each command, one direct call of its meaning. -/

namespace Sys2Proof.Machine

open Sys2Proof

def exec (i : Instr) (s : State) : Host.Outcome State Fault Refusal :=
  match i with
  | .pwrokRise mgtId pufOk => Sys2Proof.Machine.execPwrokRise mgtId pufOk s
  | .pwrokFall => Sys2Proof.Machine.execPwrokFall s
  | .timeBaseLock => Sys2Proof.Machine.execTimeBaseLock s
  | .firmwareReady => Sys2Proof.Machine.execFirmwareReady s
  | .clockGo r => Sys2Proof.Machine.execClockGo r s
  | .clockLockEnd unlocked => Sys2Proof.Machine.execClockLockEnd unlocked s
  | .hbmGo r => Sys2Proof.Machine.execHbmGo r s
  | .hbmTrainingComplete k chans ms => Sys2Proof.Machine.execHbmTrainingComplete k chans ms s
  | .bistGo r => Sys2Proof.Machine.execBistGo r s
  | .bistGroupComplete fails bypass => Sys2Proof.Machine.execBistGroupComplete fails bypass s
  | .repairGo r => Sys2Proof.Machine.execRepairGo r s
  | .katGo r => Sys2Proof.Machine.execKatGo r s
  | .katRunComplete looms engines => Sys2Proof.Machine.execKatRunComplete looms engines s
  | .managementTick corrected => Sys2Proof.Machine.execManagementTick corrected s
  | .boundSecond x => Sys2Proof.Machine.execBoundSecond x s
  | .sensorPoll tj => Sys2Proof.Machine.execSensorPoll tj s
  | .thermalTrip u => Sys2Proof.Machine.execThermalTrip u s
  | .droopStretch q => Sys2Proof.Machine.execDroopStretch q s
  | .boundaryMark q => Sys2Proof.Machine.execBoundaryMark q s
  | .orbitBoundary q => Sys2Proof.Machine.execOrbitBoundary q s
  | .orbitHoldRelease q periods => Sys2Proof.Machine.execOrbitHoldRelease q periods s
  | .apply r => Sys2Proof.Machine.execApply r s
  | .layoutApplyComplete => Sys2Proof.Machine.execLayoutApplyComplete s
  | .zeroFillComplete p => Sys2Proof.Machine.execZeroFillComplete p s
  | .stepStart p => Sys2Proof.Machine.execStepStart p s
  | .scaleFill p => Sys2Proof.Machine.execScaleFill p s
  | .wait l hit => Sys2Proof.Machine.execWait l hit s
  | .waitCycle l hit => Sys2Proof.Machine.execWaitCycle l hit s
  | .waitCycleExpiry l => Sys2Proof.Machine.execWaitCycleExpiry l s
  | .loop l hit => Sys2Proof.Machine.execLoop l hit s
  | .loopEnd l hit => Sys2Proof.Machine.execLoopEnd l hit s
  | .endProgram l hit => Sys2Proof.Machine.execEndProgram l hit s
  | .matmul l hit => Sys2Proof.Machine.execMatmul l hit s
  | .chain l hit => Sys2Proof.Machine.execChain l hit s
  | .dmaToLocal l hit => Sys2Proof.Machine.execDmaToLocal l hit s
  | .dmaToHbm l hit => Sys2Proof.Machine.execDmaToHbm l hit s
  | .dmaTransposed l hit => Sys2Proof.Machine.execDmaTransposed l hit s
  | .add l hit => Sys2Proof.Machine.execAdd l hit s
  | .sub l hit => Sys2Proof.Machine.execSub l hit s
  | .mul l hit => Sys2Proof.Machine.execMul l hit s
  | .fma l hit => Sys2Proof.Machine.execFma l hit s
  | .min l hit => Sys2Proof.Machine.execMin l hit s
  | .max l hit => Sys2Proof.Machine.execMax l hit s
  | .abs l hit => Sys2Proof.Machine.execAbs l hit s
  | .neg l hit => Sys2Proof.Machine.execNeg l hit s
  | .cmplt l hit => Sys2Proof.Machine.execCmplt l hit s
  | .cmpeq l hit => Sys2Proof.Machine.execCmpeq l hit s
  | .sel l hit => Sys2Proof.Machine.execSel l hit s
  | .cvt l hit => Sys2Proof.Machine.execCvt l hit s
  | .exp2 l hit => Sys2Proof.Machine.execExp2 l hit s
  | .log2 l hit => Sys2Proof.Machine.execLog2 l hit s
  | .rcp l hit => Sys2Proof.Machine.execRcp l hit s
  | .rsqrt l hit => Sys2Proof.Machine.execRsqrt l hit s
  | .tanh l hit => Sys2Proof.Machine.execTanh l hit s
  | .rsum l hit => Sys2Proof.Machine.execRsum l hit s
  | .rmin l hit => Sys2Proof.Machine.execRmin l hit s
  | .rmax l hit => Sys2Proof.Machine.execRmax l hit s
  | .wsum l hit => Sys2Proof.Machine.execWsum l hit s
  | .wadd l hit => Sys2Proof.Machine.execWadd l hit s
  | .toT32 l hit => Sys2Proof.Machine.execToT32 l hit s
  | .toVote l hit => Sys2Proof.Machine.execToVote l hit s
  | .stationaryPreload l hit => Sys2Proof.Machine.execStationaryPreload l hit s
  | .tilePassIssue l hit => Sys2Proof.Machine.execTilePassIssue l hit s
  | .shadowDrainComplete l hit => Sys2Proof.Machine.execShadowDrainComplete l hit s
  | .assayVerdict l upset => Sys2Proof.Machine.execAssayVerdict l upset s
  | .chainWordArrival l idx w hit => Sys2Proof.Machine.execChainWordArrival l idx w hit s
  | .descriptorComplete l u k => Sys2Proof.Machine.execDescriptorComplete l u k s
  | .commitWaitEnd l => Sys2Proof.Machine.execCommitWaitEnd l s
  | .slotForward q r c ecc noise => Sys2Proof.Machine.execSlotForward q r c ecc noise s
  | .creditedForward q r c out noise => Sys2Proof.Machine.execCreditedForward q r c out noise s
  | .observationForward q r c noise => Sys2Proof.Machine.execObservationForward q r c noise s
  | .bridgeArrival n w => Sys2Proof.Machine.execBridgeArrival n w s
  | .bridgeRelease n => Sys2Proof.Machine.execBridgeRelease n s
  | .creditReturn loop freed => Sys2Proof.Machine.execCreditReturn loop freed s
  | .queuePush q item lag => Sys2Proof.Machine.execQueuePush q item lag s
  | .queuePop q ecc lag => Sys2Proof.Machine.execQueuePop q ecc lag s
  | .flush q => Sys2Proof.Machine.execFlush q s
  | .flushEnd q => Sys2Proof.Machine.execFlushEnd q s
  | .hbmRead k word half who ecc => Sys2Proof.Machine.execHbmRead k word half who ecc s
  | .hbmWrite k word half data poison who => Sys2Proof.Machine.execHbmWrite k word half data poison who s
  | .writeBack k word => Sys2Proof.Machine.execWriteBack k word s
  | .patrolScrub k word ecc => Sys2Proof.Machine.execPatrolScrub k word ecc s
  | .refresh k => Sys2Proof.Machine.execRefresh k s
  | .hbmTempPoll k temp => Sys2Proof.Machine.execHbmTempPoll k temp s
  | .hbmRequestTimeout k => Sys2Proof.Machine.execHbmRequestTimeout k s
  | .phyLockLoss k => Sys2Proof.Machine.execPhyLockLoss k s
  | .caParityError k => Sys2Proof.Machine.execCaParityError k s
  | .ephemerisMergeComplete l => Sys2Proof.Machine.execEphemerisMergeComplete l s
  | .rowFinal p => Sys2Proof.Machine.execRowFinal p s
  | .forwardCopy p => Sys2Proof.Machine.execForwardCopy p s
  | .updateStart k cmd laneOk => Sys2Proof.Machine.execUpdateStart k cmd laneOk s
  | .updateFinish p => Sys2Proof.Machine.execUpdateFinish p s
  | .foldComplete p => Sys2Proof.Machine.execFoldComplete p s
  | .auditComplete p => Sys2Proof.Machine.execAuditComplete p s
  | .stepBoundary p => Sys2Proof.Machine.execStepBoundary p s
  | .segmentReceive l header payload => Sys2Proof.Machine.execSegmentReceive l header payload s
  | .endOfSpaceResend p l => Sys2Proof.Machine.execEndOfSpaceResend p l s
  | .segmentTimeout l => Sys2Proof.Machine.execSegmentTimeout l s
  | .segmentRequest l perLoom missing => Sys2Proof.Machine.execSegmentRequest l perLoom missing s
  | .broadcastTimeout p => Sys2Proof.Machine.execBroadcastTimeout p s
  | .digestReport l hit => Sys2Proof.Machine.execDigestReport l hit s
  | .load p m sigOk amendOk => Sys2Proof.Machine.execLoad p m sigOk amendOk s
  | .loadAmend p m amendOk => Sys2Proof.Machine.execLoadAmend p m amendOk s
  | .arm p m img => Sys2Proof.Machine.execArm p m img s
  | .armComplete p => Sys2Proof.Machine.execArmComplete p s
  | .start p m => Sys2Proof.Machine.execStart p m s
  | .stepLimit p m => Sys2Proof.Machine.execStepLimit p m s
  | .checkpointTake p m => Sys2Proof.Machine.execCheckpointTake p m s
  | .checkpointRelease p m => Sys2Proof.Machine.execCheckpointRelease p m s
  | .halt p m => Sys2Proof.Machine.execHalt p m s
  | .haltUnload p m => Sys2Proof.Machine.execHaltUnload p m s
  | .query p m => Sys2Proof.Machine.execQuery p m s
  | .fieldTest p m => Sys2Proof.Machine.execFieldTest p m s
  | .fieldTestStart u => Sys2Proof.Machine.execFieldTestStart u s
  | .fieldTestComplete u failed part => Sys2Proof.Machine.execFieldTestComplete u failed part s
  | .fieldTestOverdue u => Sys2Proof.Machine.execFieldTestOverdue u s
  | .serviceRdmaWrite p w => Sys2Proof.Machine.execServiceRdmaWrite p w s
  | .ringFillComplete p w imm => Sys2Proof.Machine.execRingFillComplete p w imm s
  | .rdmaReadRequest p w => Sys2Proof.Machine.execRdmaReadRequest p w s
  | .enableControlChannel n r => Sys2Proof.Machine.execEnableControlChannel n r s
  | .stopControlChannel n r => Sys2Proof.Machine.execStopControlChannel n r s
  | .controlChannelRecreate n => Sys2Proof.Machine.execControlChannelRecreate n s
  | .call n => Sys2Proof.Machine.execCall n s
  | .init n h nonce pub => Sys2Proof.Machine.execInit n h nonce pub s
  | .finish n h ct sigOk => Sys2Proof.Machine.execFinish n h ct sigOk s
  | .card p h body sigOk => Sys2Proof.Machine.execCard p h body sigOk s
  | .cipher p h ct => Sys2Proof.Machine.execCipher p h ct s
  | .cardResend p => Sys2Proof.Machine.execCardResend p s
  | .keyExchangeTimeout p => Sys2Proof.Machine.execKeyExchangeTimeout p s
  | .signatureComplete programmed => Sys2Proof.Machine.execSignatureComplete programmed s
  | .enablePort p r => Sys2Proof.Machine.execEnablePort p r s
  | .stopPort p r => Sys2Proof.Machine.execStopPort p r s
  | .functionStopComplete f => Sys2Proof.Machine.execFunctionStopComplete f s
  | .trainingAttemptComplete k lanes => Sys2Proof.Machine.execTrainingAttemptComplete k lanes s
  | .linkDown k => Sys2Proof.Machine.execLinkDown k s
  | .lldpTransmit k => Sys2Proof.Machine.execLldpTransmit k s
  | .lldpReceive k m => Sys2Proof.Machine.execLldpReceive k m s
  | .neighbourExpiry k => Sys2Proof.Machine.execNeighbourExpiry k s
  | .gatewayResolve k => Sys2Proof.Machine.execGatewayResolve k s
  | .arpNdReceive at_ m => Sys2Proof.Machine.execArpNdReceive at_ m s
  | .pfcReceive k prio xoff => Sys2Proof.Machine.execPfcReceive k prio xoff s
  | .greetingReceive p h g => Sys2Proof.Machine.execGreetingReceive p h g s
  | .greetingPeriod p => Sys2Proof.Machine.execGreetingPeriod p s
  | .rollCallTimeout p => Sys2Proof.Machine.execRollCallTimeout p s
  | .data p c => Sys2Proof.Machine.execData p c s
  | .close p c => Sys2Proof.Machine.execClose p c s
  | .done p c => Sys2Proof.Machine.execDone p c s
  | .result p c => Sys2Proof.Machine.execResult p c s
  | .tallyAdd p addersAgree => Sys2Proof.Machine.execTallyAdd p addersAgree s
  | .exchangeWindowOpen p x => Sys2Proof.Machine.execExchangeWindowOpen p x s
  | .storeReport l tag => Sys2Proof.Machine.execStoreReport l tag s
  | .sendEntryStart p idx => Sys2Proof.Machine.execSendEntryStart p idx s
  | .closeSend p dest window => Sys2Proof.Machine.execCloseSend p dest window s
  | .commitSend p => Sys2Proof.Machine.execCommitSend p s
  | .commitReceive p h m => Sys2Proof.Machine.execCommitReceive p h m s
  | .abortReceive p h m => Sys2Proof.Machine.execAbortReceive p h m s
  | .markerTimeout p => Sys2Proof.Machine.execMarkerTimeout p s
  | .ack p h => Sys2Proof.Machine.execAck p h s
  | .nak p h cls => Sys2Proof.Machine.execNak p h cls s
  | .rnrNak p h => Sys2Proof.Machine.execRnrNak p h s
  | .rnrRetry p qpn => Sys2Proof.Machine.execRnrRetry p qpn s
  | .rtoExpiry p qpn => Sys2Proof.Machine.execRtoExpiry p qpn s
  | .ackCoalesceExpiry p qpn => Sys2Proof.Machine.execAckCoalesceExpiry p qpn s
  | .cnp p h => Sys2Proof.Machine.execCnp p h s
  | .rateRecovery p rank => Sys2Proof.Machine.execRateRecovery p rank s
  | .read r => Sys2Proof.Machine.execRead r s
  | .write r => Sys2Proof.Machine.execWrite r s
  | .blockRead r => Sys2Proof.Machine.execBlockRead r s
  | .stagedWrite r => Sys2Proof.Machine.execStagedWrite r s
  | .commit r v => Sys2Proof.Machine.execCommit r v s
  | .stagingExpiry n => Sys2Proof.Machine.execStagingExpiry n s
  | .notifyAck r => Sys2Proof.Machine.execNotifyAck r s
  | .notifyRetry seq => Sys2Proof.Machine.execNotifyRetry seq s
  | .beaconLoss => Sys2Proof.Machine.execBeaconLoss s
  | .beacon => Sys2Proof.Machine.execBeacon s
  | .unlock r => Sys2Proof.Machine.execUnlock r s
  | .guardTimeout n => Sys2Proof.Machine.execGuardTimeout n s
  | .complement r => Sys2Proof.Machine.execComplement r s
  | .sealReference r => Sys2Proof.Machine.execSealReference r s
  | .eventAssert src level cfg => Sys2Proof.Machine.execEventAssert src level cfg s
  | .eventClaim stewards => Sys2Proof.Machine.execEventClaim stewards s
  | .eventComplete m src => Sys2Proof.Machine.execEventComplete m src s
  | .stewardSleep m => Sys2Proof.Machine.execStewardSleep m s
  | .stewardWatchdogExpiry m stillVerifies => Sys2Proof.Machine.execStewardWatchdogExpiry m stillVerifies s
  | .firmwareImage r v => Sys2Proof.Machine.execFirmwareImage r v s
  | .select r => Sys2Proof.Machine.execSelect r s
  | .firmwareCommit r => Sys2Proof.Machine.execFirmwareCommit r s
  | .nonce r => Sys2Proof.Machine.execNonce r s
  | .openEk r => Sys2Proof.Machine.execOpenEk r s
  | .response r sigOk => Sys2Proof.Machine.execResponse r sigOk s
  | .closeSession r => Sys2Proof.Machine.execCloseSession r s
  | .sessionIdleExpiry n => Sys2Proof.Machine.execSessionIdleExpiry n s
  | .assayEnable r => Sys2Proof.Machine.execAssayEnable r s
  | .hazardDetectorWrite r => Sys2Proof.Machine.execHazardDetectorWrite r s
  | .exchangeSettingsWrite r => Sys2Proof.Machine.execExchangeSettingsWrite r s
  | .snapshot r => Sys2Proof.Machine.execSnapshot r s
  | .counterLatch => Sys2Proof.Machine.execCounterLatch s
  | .eclipseRequest r => Sys2Proof.Machine.execEclipseRequest r s
  | .eclipseStop q => Sys2Proof.Machine.execEclipseStop q s
  | .edgeStop p => Sys2Proof.Machine.execEdgeStop p s
  | .eclipseScanComplete p => Sys2Proof.Machine.execEclipseScanComplete p s
  | .resume r => Sys2Proof.Machine.execResume r s
  | .release r => Sys2Proof.Machine.execRelease r s
  | .hangWatchdogExpiry p => Sys2Proof.Machine.execHangWatchdogExpiry p s
  | .hangRequest r => Sys2Proof.Machine.execHangRequest r s
  | .bypass ir => Sys2Proof.Machine.execBypass ir s
  | .idcode => Sys2Proof.Machine.execIdcode s
  | .samplePreload => Sys2Proof.Machine.execSamplePreload s
  | .extest => Sys2Proof.Machine.execExtest s
  | .clamp => Sys2Proof.Machine.execClamp s
  | .highz => Sys2Proof.Machine.execHighz s
  | .kwfChallenge => Sys2Proof.Machine.execKwfChallenge s
  | .kwfUnlock token cert sigOk => Sys2Proof.Machine.execKwfUnlock token cert sigOk s
  | .kwfLock => Sys2Proof.Machine.execKwfLock s
  | .kwfRecover image v => Sys2Proof.Machine.execKwfRecover image v s
  | .stewardDebug code => Sys2Proof.Machine.execStewardDebug code s
  | .powerLoss torn => Sys2Proof.Machine.execPowerLoss torn s
  | .stewardMemoryUncorrectable u stillVerifies => Sys2Proof.Machine.execStewardMemoryUncorrectable u stillVerifies s
  | .managementCollision => Sys2Proof.Machine.execManagementCollision s
  | .unsupportedRequest p h => Sys2Proof.Machine.execUnsupportedRequest p h s
  | .pauseFrame k => Sys2Proof.Machine.execPauseFrame k s
  | .testLogicReset => Sys2Proof.Machine.execTestLogicReset s

end Sys2Proof.Machine
end

