-- ==== Sys2Proof/Machine/Idle.lean ====
section
/-! DEFINITION. What happens while no command waits: packets that receive buffers held through a stop are processed (17 R412), an eclipse that
resumes ends (17 R414), a run record is placed that waited for its memory (09 R220), and otherwise one nanosecond passes (01 R19, R21). -/

namespace Sys2Proof.Machine

open Sys2Proof

/-- The contents of a packet that a receive buffer held; other commands hold none. -/
def runHeld (c : Instr) (s : State) : State :=
  match c with
  | .data p c => s.rxChunk p 1 c
  | .close p c => s.rxChunk p 2 c
  | .done p c => s.rxChunk p 3 c
  | .result p c => s.rxChunk p 4 c
  | .commitReceive p h m => s.rxCommit p h m
  | .abortReceive p h m => s.rxAbort p h m
  | .load p m sigOk amendOk => s.loadMessage p m sigOk amendOk
  | .loadAmend p m amendOk => s.loadMessage p m false amendOk
  | .arm p m img => s.armMessage p m img
  | .start p m => s.startMessage p m
  | .stepLimit p m => s.stepLimitMessage p m
  | .checkpointTake p m => s.checkpointMessage p m
  | .checkpointRelease p m => s.checkpointMessage p m
  | .halt p m => s.haltMessage p m
  | .haltUnload p m => s.haltMessage p m
  | .query p m => s.queryMessage p m
  | .fieldTest p m => s.fieldTestMessage p m
  | .init n h nonce pub => s.rxInit n h nonce pub
  | .finish n h ct sigOk => s.rxFinish n h ct sigOk
  | .card p h body sigOk => s.rxCard p h body sigOk
  | .cipher p h ct => s.rxCipher p h ct
  | .greetingReceive p h g => s.rxGreeting p h g
  | .serviceRdmaWrite p w => s.rxServiceWrite p w
  | .ringFillComplete p w imm => s.rxRingFill p w imm
  | .rdmaReadRequest p w => s.rxReadRequest p w
  | .unsupportedRequest p h => s.rxUnsupported p h
  | .ack p h => s.rxAck p h
  | .nak p h cls => s.rxNak p h cls
  | .rnrNak p h => s.rxRnrNak p h
  | .cnp p h => s.rxCnp p h
  | _ => s

/-- A held packet leaves its buffer and is processed, as one that passed the MAC when it arrived (17 R407, R412). -/
def State.takeHeld (s : State) (h : HeldPacket) : State :=
  { runHeld h.cmd { s.unhold h with macTime := some h.ns } with macTime := none }

/-- The oldest packet held for a partition whose hub units run leaves its buffer and is processed; with none, an eclipse that resumes
ends; then a run record is placed that waited for its memory; with none of these, one nanosecond passes (DESIGN CHOICE, log 1: in this
order, one at a time). -/
def State.idle (s : State) : State :=
  match s.heldNext with
  | some h => s.takeHeld h
  | none =>
    match s.resuming with
    | some p => s.resumeEnds p
    | none =>
      match s.runReady with
      | some e => s.placeWaiting e
      | none => s.idleTick

end Sys2Proof.Machine
end

