-- ==== Sys2Proof/Safety.lean ====
section
/-! DEFINITION. The terms statements use: the areas of the state and what a command may change, and the invariants that every
step keeps. -/

namespace Sys2Proof.Machine

open Sys2Proof

/-! ### Areas -/

/-- The areas of the state. -/
inductive Area where
  /-- the commands that wait -/
  | queue
  /-- what has left the ports -/
  | sent
  /-- the count of free values drawn -/
  | free
  /-- rails, straps, firmware, PLLs and the trip -/
  | power
  /-- the time base -/
  | time
  /-- the fraction of a cycle -/
  | phase
  /-- bring-up in progress -/
  | bringUp
  /-- the sensors' second -/
  | sensors
  /-- a collision in this second -/
  | collision
  /-- the seal awaits its reference -/
  | seal
  /-- the secure flash -/
  | flash
  /-- the security block -/
  | security
  /-- the objects of the dictionary -/
  | objects
  /-- class-T values in force -/
  | inForce
  /-- class-T values that wait for the tick -/
  | buffered
  /-- the management nodes -/
  | nodes
  /-- notifications not acknowledged -/
  | notices
  /-- the error log -/
  | log
  /-- event sources -/
  | sources
  /-- stewards -/
  | stewards
  /-- field tests -/
  | tests
  /-- quadrant clocks and fabric words -/
  | quads
  /-- looms -/
  | looms
  /-- stack controllers -/
  | stackCtl
  /-- the bytes of the stacks -/
  | hbm
  /-- poison marks of the stacks -/
  | poison
  /-- links -/
  | links
  /-- packets that receive buffers hold through a stop, and when the one that is processed arrived -/
  | held
  /-- partitions -/
  | parts
  /-- dual-clock queues -/
  | queues
  /-- credit loops -/
  | loops
  /-- bridge buffers, and words on their way to them -/
  | bridges
  /-- activity counters, what they still owe, and what the looms were last found doing -/
  | counters
  /-- the latched set -/
  | latched
  /-- the trace ring -/
  | trace
  /-- the hang snapshot -/
  | hang
  /-- scans -/
  | scans
  deriving DecidableEq, Repr

/-- What an area holds. -/
abbrev Area.Ty (g : Area) : Type :=
  match g with
  | .queue => List Instr
  | .sent => List Out
  | .free => Nat
  | .power => Bool × Bool × (BitVec 3) × Bool × Bool × Bool × Bool × (BitVec 64) × (BitVec 64)
  | .time => BitVec 64
  | .phase => Nat
  | .bringUp => (Option (Fin 8)) × (List (Fin 20)) × Nat × (List (Fin 4)) × (SMap Nat) × (Option (Nat × List Nat)) × (SMap Nat) × Bool
  | .sensors => Bool × Bool × Bool × (BitVec 16) × Bool × Bool × Bool
  | .collision => Bool
  | .seal => Bool
  | .flash => Flash
  | .security => Security
  | .objects => SMap Nat
  | .inForce => SMap Nat
  | .buffered => List (Nat × Nat)
  | .nodes => SMap Node
  | .notices => (BitVec 16) × (List Notice)
  | .log => (List Rec) × (List Nat)
  | .sources => SMap Source
  | .stewards => SMap Steward
  | .tests => List FTest
  | .quads => SMap Quad
  | .looms => SMap Loom
  | .stackCtl => SMap Stack
  | .hbm => List Host.Cell
  | .poison => SMap Bool
  | .links => SMap Link
  | .held => (List HeldPacket) × (Option (BitVec 64))
  | .parts => SMap Part
  | .queues => SMap Dcq
  | .loops => SMap CLoop
  | .bridges => (SMap (List FWord)) × (SMap (List FWord))
  | .counters => (SMap (BitVec 48)) × (SMap (List OwedStall)) × (SMap (Nat × BitVec 64))
  | .latched => (SMap (BitVec 48)) × (Option (BitVec 64))
  | .trace => SMap (BitVec 256)
  | .hang => SMap Nat
  | .scans => SMap (List Nat)

/-- The contents of an area. -/
def view (g : Area) (s : State) : g.Ty :=
  match g with
  | .queue => s.pending
  | .sent => s.out
  | .free => s.fresh
  | .power => (s.timeLocked, s.pwrok, s.straps, s.fwUp, s.romHold, s.pllsOn, s.trip, s.clockNs, s.riseNs)
  | .time => s.ns
  | .phase => s.phase
  | .bringUp => (s.bistGroup, s.hbmLeft, s.katRound, s.katQuads, s.katTries, s.applyWaits, s.stepStart, s.identityOk)
  | .sensors => (s.hotNow, s.wasOutside, s.warned, s.tjSecond, s.warmNow, s.drooped, s.assayGap)
  | .collision => s.collided
  | .seal => s.sealArmed
  | .flash => s.flash
  | .security => s.sec
  | .objects => s.objs
  | .inForce => s.inForce
  | .buffered => s.buffered
  | .nodes => s.nodes
  | .notices => (s.notifySeq, s.notices)
  | .log => (s.log, s.mergedNow)
  | .sources => s.sources
  | .stewards => s.stewards
  | .tests => s.tests
  | .quads => s.quads
  | .looms => s.looms
  | .stackCtl => s.stackCtl
  | .hbm => s.hbm
  | .poison => s.hbmPoison
  | .links => s.links
  | .held => (s.held, s.macTime)
  | .parts => s.parts
  | .queues => s.dcqs
  | .loops => s.cloops
  | .bridges => (s.bridgeBufs, s.bridgeAir)
  | .counters => (s.counters, s.owedStalls, s.stalls)
  | .latched => (s.latched, s.latchAt)
  | .trace => s.traceRing
  | .hang => s.hangSnap
  | .scans => s.scans

/-- Only the areas of `l` differ between two states. -/
def Only (l : List Area) (s t : State) : Prop := ∀ ar, ar ∉ l → view ar t = view ar s

/-- Whatever next state command `c` gives, only the areas of `l` differ. -/
def Keeps (c : Instr) (l : List Area) : Prop := ∀ s t, exec c s = .next t → Only l s t

/-- What raising an error record can change (16 R389 to R393): its notification crosses queues (01 R18). -/
abbrev Area.raising : List Area := [.sent, .free, .objects, .notices, .log, .queues, .loops]

/-- What a READ can change: counts, the answer kept for repeats, the queues that frames cross (14 R335 to R339). -/
abbrev Area.answering : List Area := [.sent, .objects, .nodes, .queues, .loops]

/-- What posting a message or a frame of a partition can change (10 R226; 11 R249). -/
abbrev Area.posting : List Area := [.sent, .objects, .links, .parts, .queues, .loops]

/-- What a fault charged to a step can change: ABORT to the other ranks, looms stopped, or a halt (11 R273, R278). -/
abbrev Area.charging : List Area := Area.raising ++ [.looms, .links, .parts, .trace]

/-- What a request to a stack's controller can change: it serves those that wait first (09 R206 to R212). -/
abbrev Area.accessing : List Area := Area.raising ++ [.flash, .stackCtl, .hbm, .poison]

/-- What a partition reset can change (01 R26). -/
abbrev Area.resetting : List Area :=
  Area.raising ++ [.seal, .security, .tests, .quads, .looms, .stackCtl, .hbm, .poison, .held, .parts, .bridges, .counters]

/-- What a dictionary frame can change, whichever object it names (14 R335 to R353). -/
abbrev Area.commanding : List Area :=
  Area.resetting ++ [.power, .phase, .bringUp, .flash, .inForce, .buffered, .nodes, .links, .latched, .hang]

/-! ### What stays the same inside an area -/

/-- Objects that raising a record can change: those of the log, the counts of frames sent, and of items that a queue under FLUSH drops (08
R196; 14 R357; 16 R393). -/
abbrev raisedObjs : List Nat :=
  [0x700001, 0x700002, 0x700003, 0x700006, 0x700007, 0x700008, 0x700009, 0x70000A, 0x70000B, 0x112004, 0x804006, 0x110006]

/-- Only objects of `l` differ. -/
def OnlyObjs (l : List Nat) (s t : State) : Prop := ∀ r, r ∉ l → t.obj r = s.obj r
/-- Only looms of `l` differ. -/
def OnlyLooms (l : List LoomId) (s t : State) : Prop := ∀ j, j ∉ l → t.loom j = s.loom j
/-- Only partitions of `l` differ. -/
def OnlyParts (l : List Nat) (s t : State) : Prop := ∀ p, p ∉ l → t.part p = s.part p
/-- Only quadrants of `l` differ. -/
def OnlyQuads (l : List Nat) (s t : State) : Prop := ∀ q, q ∉ l → t.quad q = s.quad q
/-- Only stack controllers of `l` differ. -/
def OnlyStacks (l : List Nat) (s t : State) : Prop := ∀ k, k ∉ l → t.stack k = s.stack k
/-- Only links of `l` differ. -/
def OnlyLinks (l : List Nat) (s t : State) : Prop := ∀ k, k ∉ l → t.link k = s.link k
/-- Only nodes of `l` differ. -/
def OnlyNodes (l : List Nat) (s t : State) : Prop := ∀ n, n ∉ l → t.node n = s.node n
/-- Only dual-clock queues of `l` differ. -/
def OnlyQueues (l : List Nat) (s t : State) : Prop := ∀ q, q ∉ l → t.dcq q = s.dcq q
/-- Queues that a record crosses as a notification (08 R189; 14 R357; log 97). -/
abbrev raisedQueues : List Nat := dictOut
/-- Their credit loops. -/
abbrev State.raisedLoops (s : State) : List Nat := dictOut.map s.queueLoop
/-- Only credit loops of `l` differ. -/
def OnlyLoops (l : List Nat) (s t : State) : Prop := ∀ i, i ∉ l → t.cloop i = s.cloop i
/-- A link may hold back frames that wait for XON, and its counter owes the cycles of those that leave; otherwise only links of `l` differ. -/
def OnlyWaits (l : List Nat) (s t : State) : Prop :=
  ∀ k, k ∉ l → t.link k = { s.link k with waiting := (t.link k).waiting, busy := (t.link k).busy, paced := (t.link k).paced }
/-- Only bytes whose addresses satisfy `f` differ: address 2^36 × stack + offset (09 R201). -/
def OnlyBytes (f : Nat → Prop) (s t : State) : Prop :=
  ∀ a, ¬ f a → SMap.get 0 t.hbm a = SMap.get 0 s.hbm a

/-! ### Dictionary requests -/

/-- Request `r` gets to the stewards as a new one: the port speaks, the frame is to its UDP port, for this device and node, the queues
between the management port, a steward and the hub take it and its response, and no response is kept for its SEQ (01 R18; 08 R189; 14 R335
to R338). -/
abbrev State.reachedBy (s : State) (r : Req) : Prop :=
  s.portSpeaks = true ∧ r.port = dictPort ∧ reqDropped r = false ∧ (dictIn ++ dictOut).all s.queueTakes = true
    ∧ (s.node r.src).responses.all (fun e => e.1 != r.seq) = true

/-- The device takes request `r` as a new one of operation `op`: it gets to the stewards, and is well formed (14 R335 to R338). -/
abbrev State.takes (s : State) (op : Nat) (r : Req) : Prop := s.reachedBy r ∧ reqMalformed op r = false

/-- The newest frame sent answers request `r` with a status and data, that frame is kept for repeats, and no other node's
entry changed (14 R336, R338). -/
def Served (s t : State) (op : Nat) (r : Req) (status : Nat) (data : Bytes) : Prop :=
  t.out.head? = some (.dict r.src.val (responseFrame (s.trailerKey t r.src) op r status data))
    ∧ (t.node r.src).responses.head? = some (r.seq, responseFrame (s.trailerKey t r.src) op r status data)
    ∧ OnlyNodes [r.src.val] s t

/-- Counts that every request which is done changes: frames received and sent, requests, guarded writes. -/
abbrev servedObjs : List Nat := [0x110005, 0x110006, 0x120204, 0x120004]

/-- A value that a write of reference `ref` puts into the object itself, at once or at the tick: not a command, not an object of
the node, not class D, not an ENABLE. -/
abbrev plainObject (o : ObjRow) (ref : Nat) : Prop :=
  commandObjects.contains ref = false ∧ nodeObjects.contains ref = false ∧ ref ∉ [0x12F001, 0x12F002, 0x12F003]
    ∧ ¬(ref / 256 < 0x5006 ∧ 0x5000 ≤ ref / 256 ∧ ref % 256 = 4) ∧ ¬(ref / 256 < 0x9014 ∧ 0x9010 ≤ ref / 256 ∧ ref % 256 = 8)
    ∧ o.wclass ≠ 1

/-! ### Packets -/

/-- A frame of partition `p` gets to it at once: its link is up and carries it, belongs to a port of the partition, the port's queue takes
it, and no stop holds it or an earlier one back (08 R189; 10 R224 to R226; 17 R412). -/
abbrev State.admits (s : State) (p : Nat) (f : Frame) : Prop :=
  s.portOwner (f.k.val / 8) = p ∧ s.hubStopped p = false ∧ (∀ h ∈ s.held, h.part.val ≠ p) ∧ s.linkUp f.k = true ∧ s.frameBad f = false
    ∧ s.queueTakes (0x200 + 2 * (f.k.val / 8)) = true

/-- `n` packets of an association of partition `p` reach its queue pair: they get to it, and pass ESP and the ICRC; no CE mark (11 R248,
R252, R254). -/
abbrev State.receives (s : State) (p : Nat) (h : PktHdr) (n : Nat) : Prop :=
  s.admits p h.esp.frame ∧ ((s.part p).qp (pktQpn h)).live = true ∧ h.esp.ok = true ∧ ((s.part p).sa (2 * pktQpn h + 1)).key ≠ []
    ∧ (((s.part p).sa (2 * pktQpn h + 1)).acceptAll h.esp.seq n).isSome = true ∧ h.icrcOk = true ∧ h.ce = false

/-- They are the next ones of their queue pair (11 R250). -/
abbrev State.inOrder (s : State) (p : Nat) (h : PktHdr) (n : Nat) : Prop :=
  s.receives p h n ∧ h.psn = ((s.part p).qp (pktQpn h)).expPsn

/-- Partition `p` sends on the device link of queue pair `qpn`: the link is up, its port's queue takes items, its priorities are not paused
and no frame waits. -/
abbrev State.sends (s : State) (p qpn : Nat) : Prop :=
  ((s.part p).qp qpn).link.toNat < 48 ∧ s.linkUp ((s.part p).qp qpn).link.toNat = true
    ∧ s.queueTakes (0x201 + 2 * (((s.part p).qp qpn).link.toNat / 8)) = true ∧ (s.link ((s.part p).qp qpn).link.toNat).pauses = 0
    ∧ (s.link ((s.part p).qp qpn).link.toNat).waiting = []

/-- The frame at the head of what was sent is a message of partition `p` on queue pair `qpn` whose packets carry `b`, the first with PSN
`psn` (11 R248, R249). -/
def PostedLast (t : State) (p qpn : Nat) (psn : BitVec 24) (b : Bytes) : Prop :=
  ∃ l, t.out.head? = some (.roce p (BitVec.ofNat 24 qpn) l) ∧ (l.map (fun x => x.payload)).flatten = b
    ∧ (l.map (fun x => x.psn)).head? = some psn

/-- Queue pair `qpn` of partition `p` has taken a message of these bytes, which waits for acknowledgement (11 R249, R251). -/
def Posted (t : State) (p qpn : Nat) (b : Bytes) : Prop :=
  ((t.part p).qp qpn).unacked.getLast?.map (fun m => m.bytes) = some b

/-- Counts that the passage of packets can raise: items that a queue under FLUSH drops, trace records that a full queue loses (08 R192,
R196; 17 R408). -/
abbrev movedObjs : List Nat := [0x804004, 0x804006]

/-- A frame of a priority leaves on link `k` at once: the link is up, its port's queue takes items, the priority is not paused and none of
it waits (08 R189; 10 R226). -/
abbrev State.linkOpen (s : State) (k prio : Nat) : Prop :=
  k < 48 ∧ s.linkUp k = true ∧ s.queueTakes (0x201 + 2 * (k / 8)) = true ∧ (s.link k).pauses.getLsbD prio = false
    ∧ (s.link k).waiting.all (fun f => f.prio != prio) = true

/-- No request waits at a stack's controller: what a unit reads is what stands there (09 R208). -/
def State.quiet (s : State) : Prop := ∀ k, (s.stack k).waiting = []

/-- The words that hold bytes [va, va + n) of region r are different ones. -/
def State.wordsApart (s : State) (p r va n : Nat) : Prop :=
  ∀ c ∈ piecesOf va n, ∀ d ∈ piecesOf va n, s.regionWord p r c.1 = s.regionWord p r d.1 → c = d

/-- Addresses of bytes [va, va + n) of region r, word by word (09 R201, R202). -/
def State.regionBytes (s : State) (p r va n b : Nat) : Prop :=
  ∃ c ∈ piecesOf va n, ∃ k w, s.regionWord p r c.1 = (k, w) ∧ hbmKey k (64 * w + c.1 % 64) ≤ b ∧ b < hbmKey k (64 * w + c.1 % 64) + c.2

/-! ### Control messages -/

/-- Partition `p` hears control message `m`: its channel is ON, the message arrives whole and in order on the control queue pair, is
sound, names the job and comes in one of the states its table gives (12 R289); the queues between the hub and steward 0, on which
firmware runs, take it and its answer (01 R18; 08 R189). -/
abbrev State.hears (s : State) (p : Nat) (m : Ctl) (job : Nat) (states : List Nat) : Prop :=
  s.fwUp = true ∧ s.queueTakes (toSteward 0) = true ∧ s.queueTakes (fromSteward 0) = true ∧ s.chanState p = 2 ∧ p < s.partCount ∧ pktQpn m.pkt = 0x4000 ∧ 32 + m.body.length ≤ 2 ^ 22
    ∧ s.inOrder p m.pkt (packetsOf (32 + m.body.length)) ∧ m.reservedOp = none ∧ m.len.toNat = m.body.length
    ∧ m.job.toNat = job ∧ s.jobState p ∈ states

/-- The control queue pair has taken the answer to control message `m` of operation `op` (12 R289). -/
def Told (t : State) (p : Fin 4) (op : Nat) (m : Ctl) (status : Nat) (body : Bytes) : Prop :=
  Posted t p 0x4000 (beBytes 32 (t.ctlHeader p.val (op + 0x80) status m.seq.toNat body.length).toNat ++ body)

/-- The partition that `q` is after a message: `x` but for its queue pairs and associations, which carried the message and its answer, and
messages that leave when its transport runs again (17 R412). -/
def PartIs (q x : Part) : Prop := q = { x with qps := q.qps, sas := q.sas, reportNo := q.reportNo, unsent := q.unsent }

/-- The control queue pair has taken a report of partition `p`: STATUS zero, SEQ its report count, these bytes (12 R289); where steward
0's queue to the hub takes it (01 R18). -/
def Reported (s t : State) (p : Nat) (body : Bytes) : Prop :=
  (t.part p).reportNo = (s.part p).reportNo + 1
    ∧ (((s.part p).qp 0x4000).live = true → s.chanState p = 2 → s.queueTakes (fromSteward 0) = true →
        Posted t p 0x4000 (beBytes 32 (t.ctlHeader p 0xC0 0 (s.part p).reportNo.toNat body.length).toNat ++ body))

/-! ### Greetings -/

/-- A greeting reaches partition `p`: it gets to it and passes ESP (10 R240, R241; 11 R254). -/
abbrev State.hearsGreeting (s : State) (p : Nat) (h : EspHdr) : Prop :=
  s.admits p h.frame ∧ h.ok = true ∧ ((s.part p).sa (2 * h.qpn.toNat + 1)).key ≠ []
    ∧ (((s.part p).sa (2 * h.qpn.toNat + 1)).acceptAll h.seq 1).isSome = true

/-! ### Partitions -/

/-- Objects of partition j's job, exchange, roll call, ephemeris, chain and control channel, and of its stacks (09; 10; 11; 12). -/
def State.statusOf (s : State) (j ref : Nat) : Prop :=
  ref / 256 ∈ [0x5150 + j, 0x5210 + j, 0x9010 + j, 0x9030 + j, 0x9040 + j, 0x9070 + j]
    ∨ ∃ k ∈ s.stacksOf j, ref / 256 = 0x4010 + k ∨ ref / 256 = 0x4030 + k

/-! ### The repair maps -/

/-- The map in force of every row is the record's (15 R372). -/
def State.mapIsRecord (s : State) : Bool :=
  (List.range 4).all (fun q => (List.range 20).all (fun r =>
    s.rowMap q r == s.recBits (1024 + 32 * (20 * q + r) + 25) (1024 + 32 * (20 * q + r))))

/-! ### Counts -/

/-- The counter object `ref` is `n` higher; it wraps at its size. -/
def Counted (s t : State) (ref n : Nat) : Prop := t.obj ref = (s.obj ref + n) % 256 ^ objSize ref

/-! ### Looms -/

/-- The sequencer of loom `l` issues, and a descriptor `d` of kind `k` stands at its head (04 R85). -/
abbrev State.atHead (s : State) (l : LoomId) (k : Nat) (d : Word512) : Prop :=
  s.seqRuns l = true ∧ (s.loom l).seqIdx ≠ 4096 ∧ SMap.get 0 (s.loom l).store (s.loom l).seqIdx.toNat = d ∧ descKind d = k

/-- SECDED found nothing that it could not correct (04 R99; 16 R388). -/
abbrev harmless (hit : Option LoomHit) : Prop := ∀ h, hit = some h → h.ecc ≠ .multi

/-- No race can be found for a descriptor that issues: the detector is off for the partition, or nothing is in flight
(04 R108). -/
abbrev State.raceFree (s : State) (l : LoomId) : Prop :=
  (s.obj 0x802001).testBit (s.loomPart l) = false ∨ (s.loom l).inFlight = []

/-- Loom `l` is `x`, whatever its trace buffer holds; no other loom changed. -/
def LoomBecomes (s t : State) (l : LoomId) (x : Loom) : Prop :=
  t.loom l = { x with trace := (t.loom l).trace, traceLost := (t.loom l).traceLost } ∧ OnlyLooms [l] s t

/-- A loom whose sequencer goes on after a control descriptor (04 R86, R87). -/
def Loom.controlled (x : Loom) (next : BitVec 13) (seq : SeqState) : Loom :=
  { x with issued := x.issued + 1, seqIdx := next, seq := seq }

/-- A loom that has issued descriptor `d` to unit `u`: it joins the queue; SYNC holds the sequencer until the descriptor completes, a
commit wait until the copy is written (04 R85, R86; 01 R17). -/
def Loom.joins (x : Loom) (u : UnitKind) (d : Word512) (ns : BitVec 64) (phase : Nat) (waits : Bool)
    (reads writes : List (Nat × Nat)) : Loom :=
  { x.setQueue u (x.queue u ++ [{ desc := d, index := x.seqIdx, nth := x.issued + 1, reads := reads, writes := writes,
                                  phase := phase, waits := waits }]) with
    issued := x.issued + 1, seqIdx := x.seqIdx + 1, seqSince := ns
    seq := if waits then .commitWait else if dSync d then .waitDesc (x.issued + 1) else .running }

/-- Conversions of a vector descriptor's results to its destination format, with its random bits (02 R38, R46; 04 R94). -/
def State.converted (s : State) (l : LoomId) (d : Word512) (vals : List Val) : List ((Nat × ConvClass) × Val) :=
  let p := s.loomPart l
  vals.zipIdx.map (fun v =>
    (convertTo (vFmtD d) (v.1.scale (-(s.loom l).scaleExp (vFmtD d) (vScaleD d)))
      (if vecStochastic d then
        some (srBits (s.part p).seed (s.stepNo p) (dField d 239 216) ((dField d 279 240 + v.2) % 2 ^ 40) 3 (dField d 174 163))
       else none), v.1))

/-- The bytes of converted results. -/
def State.convertedBytes (s : State) (l : LoomId) (d : Word512) (vals : List Val) : Bytes :=
  packElems (vFmtD d) ((s.converted l d vals).map (fun c => c.1.1))

/-- Elements of a TO_T32 with their classes (02 R46, R50). -/
def State.t32Out (s : State) (l : LoomId) (d : Word512) : List ((Nat × ConvClass) × Val) :=
  let p := s.loomPart l
  ((s.loom l).sourceA d).zipIdx.map (fun v =>
    (toT32Elem (v.1.scale (-(s.loom l).scaleExp 9 (vScaleD d))) (dField d 292 280)
      (srBits (s.part p).seed (s.stepNo p) (dField d 239 216) ((dField d 279 240 + v.2) % 2 ^ 40) 4 (s.part p).rank), v.1))

/-- Codes of a TO_VOTE with their classes (11 R267). -/
def State.voteOut (s : State) (l : LoomId) (d : Word512) : List ((Nat × ConvClass) × Val) :=
  ((s.loom l).sourceA d).map (fun v => (voteCode v ((s.loom l).scaleExp 9 (vScaleD d)), v))

/-- A vector operation `vop` whose checks pass and whose sources hold no poison issues, and writes the bytes `f` gives from
line D on: the half lines it writes whole lose their marks (03 R74 to R82; 04 R94). -/
def VectorWrites (c : LoomId → Option LoomHit → Instr) (vop : Nat) (f : State → LoomId → Word512 → Bytes) : Prop :=
  ∀ (l : LoomId) hit (d : Word512) (s : State), s.atHead l (0x2000 + vop) d → harmless hit → (s.loom l).vectorQ.length < 8 →
    (s.loom l).vecCheck vop d = none → (∀ o ∈ (s.loom l).vecPoison vop d, o = 0) → s.raceFree l →
    ∃ t, exec (c l hit) s = .next t
      ∧ LoomBecomes s t l { ((s.loom l).joins .vector d s.ns 3 false (vecReads d) (vecWrites d)).put
          (64 * dField d 119 106) (f s l d) 0 with eph := (t.loom l).eph }
      ∧ OnlyObjs ([0x801006, 0x702006] ++ raisedObjs) s t

/-- A vector operation `vop` records each conversion of `f` in the accumulator of the scale register that its D_SCALE names, and
in no other; a literal D_SCALE records nothing (06 R140). -/
def VectorCounts (c : LoomId → Option LoomHit → Instr) (vop : Nat) (f : State → LoomId → Word512 → List ((Nat × ConvClass) × Val)) : Prop :=
  ∀ (l : LoomId) hit (d : Word512) (s : State), s.atHead l (0x2000 + vop) d → harmless hit → (s.loom l).vectorQ.length < 8 →
    (s.loom l).vecCheck vop d = none → (∀ o ∈ (s.loom l).vecPoison vop d, o = 0) → s.raceFree l →
    ∃ t, exec (c l hit) s = .next t
      ∧ ((vScaleD d).testBit 8 = false → (t.loom l).eph = (s.loom l).eph)
      ∧ ((vScaleD d).testBit 8 = true →
          SMap.get EphAcc.zero (t.loom l).eph (vScaleD d % 256)
              = (f s l d).foldl (fun a e => a.record e.1.2 e.2) (SMap.get EphAcc.zero (s.loom l).eph (vScaleD d % 256))
            ∧ ∀ i, i ≠ vScaleD d % 256 → SMap.get EphAcc.zero (t.loom l).eph i = SMap.get EphAcc.zero (s.loom l).eph i)

/-- A descriptor whose check fails does not issue: the loom stops at it, and the job of a partition that computes halts
(04 R88, R431). -/
def Rejects (c : LoomId → Option LoomHit → Instr) (kind : Nat) (u : UnitKind) (check : State → LoomId → Word512 → Bool) : Prop :=
  ∀ (l : LoomId) hit (d : Word512) (s : State), s.atHead l kind d → harmless hit → ((s.loom l).queue u).length < unitDepth u →
    check s l d = true →
    ∃ t, exec (c l hit) s = .next t ∧ (t.loom l).seq = .stopped ∧ (t.loom l).seqIdx = (s.loom l).seqIdx
      ∧ (t.loom l).mem = (s.loom l).mem ∧ t.hbm = s.hbm
      ∧ (s.exState (s.loomPart l) = 1 → t.jobState (s.loomPart l) = 7)

/-! ### Fabric and queues -/

/-- The loom at a router. -/
abbrev routerOf (q : Fin 4) (r : Fin 20) (c : Fin 25) : LoomId := { q := q, r := r, c := c }

/-- In every queue, items pushed are those popped, lost, flushed and held (08 R192); a queue of the device holds at most its depth,
and its pointers stand that many apart modulo twice the depth (08 R191). -/
def State.queuesAddUp (s : State) : Prop :=
  ∀ q, (s.dcq q).pushed = (s.dcq q).popped + (s.dcq q).lost + (s.dcq q).flushed + (s.dcq q).items.length
    ∧ (queueDepth q ≠ 0 → (s.dcq q).items.length ≤ queueDepth q ∧ (s.dcq q).rptr < 2 * queueDepth q
        ∧ (s.dcq q).wptr = ((s.dcq q).rptr + (s.dcq q).items.length) % (2 * queueDepth q))

/-- No frame waits on a link for room in queue `q`, one of a port towards its MAC (08 R189). -/
abbrev State.noneWaits (s : State) (q : Nat) : Prop := ∀ k : Fin 48, q = 0x201 + 2 * (k.val / 8) → (s.link k).waiting = []

/-! ### Transport and exchange -/

/-- A chunk `k` for partition `p` of the job in progress arrives in order from a rank, and finds its receive buffers (11 R250, R259). -/
abbrev State.chunkIn (s : State) (p : Nat) (k : Chunk) : Prop :=
  s.inOrder p k.pkt (packetsOf (64 + k.elems.length)) ∧ s.jobState p ≠ 7 ∧ pktParty k.pkt < (s.part p).ranks
    ∧ s.buffersFree p (pktPort k.pkt).val (packetsOf (64 + k.elems.length)) = true

/-- A chunk of a TYPE that is right for the step in progress is accepted and goes to its tally engine, with an input credit of it when there
is one (05 R133; 11 R259, R262). -/
def ChunkAccepted (c : Fin 4 → Chunk → Instr) (type : Nat) : Prop :=
  ∀ (p : Fin 4) (k : Chunk) (s : State), s.chunkIn p k → (chunkOf k.header).type = type →
    chunkReserved (chunkOf k.header) = false → s.chunkOld p (chunkOf k.header) = false →
    s.chunkRight p k (chunkOf k.header) = true →
    ∃ t, exec (c p k) s = .next t
      ∧ (t.part p).tally.map (fun i => { i with credited := false })
          = (s.part p).tally.map (fun i => { i with credited := false })
            ++ [{ engine := s.homeEngine p (chunkOf k.header).chunk, header := k.header, elems := k.elems, link := some k.pkt.esp.frame.k
                  credited := false }]
      ∧ ((s.part p).tally.all (fun i => !TallyItem.asks (s.homeEngine p (chunkOf k.header).chunk) i) = true →
          (t.part p).tally.getLast?.map (·.credited) = some (s.hasCredit (loopId 3 p (s.homeEngine p (chunkOf k.header).chunk))))
      ∧ ((t.part p).qp (pktQpn k.pkt)).expPsn = k.pkt.psn + BitVec.ofNat 24 (packetsOf (64 + k.elems.length))
      ∧ t.exState p = s.exState p ∧ OnlyParts [p.val] s t

/-- Marker `m` of a KIND from the peer that the packet names belongs to the job (11 R270). -/
abbrev State.markerFits (s : State) (p kind : Nat) (h : PktHdr) (m : Word512) : Prop :=
  s.inOrder p h 1 ∧ s.jobState p ≠ 7 ∧ pktParty h < (s.part p).ranks ∧ field m.toNat 511 504 = kind
    ∧ (kind = 2 → field m.toNat 399 392 ∈ [1, 2, 3, 4, 5, 6, 7, 8])
    ∧ field m.toNat 447 416 = s.jobField p ∧ field m.toNat 415 400 = pktParty h

/-! ### Invariants -/

/-- The canonical form of stored bytes: addresses strictly rising, and no entry equal to what an unlisted address reads as
(zero, logs 9 and 10). -/
def Memory.wf (m : List Host.Cell) : Bool := SMap.wf 0 m

/-- The bytes of the stacks, and those of every loom's local memory, are in canonical form. -/
def State.memoryCanonical (s : State) : Prop := Memory.wf s.hbm = true ∧ ∀ l : LoomId, Memory.wf (s.loom l).mem = true

/-- No leaf has signed twice since power-on, every leaf that signed lies below the next one, and the next one lies at or below
the end of the leaves that the journal has set aside (13 R313); without power nothing has signed. -/
def State.leavesOnce (s : State) : Prop :=
  s.sec.signed.Nodup ∧ (∀ i ∈ s.sec.signed, i.toNat < s.sec.nxt.toNat) ∧ s.sec.nxt.toNat ≤ s.sec.endLeaf.toNat
    ∧ (s.pwrok = false → s.sec.signed = [])

/-- No unit is pending twice for a partition (16 R396). -/
def State.testsOnce (s : State) : Prop := (s.tests.map (fun t => (t.unit, t.part))).Nodup

/-- Test `x` of unit word `u` is the one of that word that waits to start. -/
abbrev State.testWaits (s : State) (u : BitVec 16) (x : FTest) : Prop :=
  x ∈ s.tests ∧ x.unit = u ∧ x.running = false ∧ ∀ y ∈ s.tests, y.unit = u → y.running = false → y = x

/-- Test `x` of unit word `u` is the one of that word that runs. -/
abbrev State.testRuns (s : State) (u : BitVec 16) (x : FTest) : Prop :=
  x ∈ s.tests ∧ x.unit = u ∧ x.running = true ∧ ∀ y ∈ s.tests, y.unit = u → y.running = true → y = x

/-- The state of its partition lets a test run: EMPTY, LOADED, ARMED, HELD or HALTED, or its window is open (16 R397, R398). -/
abbrev State.testAllowed (s : State) (x : FTest) : Prop :=
  s.jobState x.part ∈ [0, 1, 3, 6, 7] ∨ (s.jobState x.part = 5 ∧ x.unit ∈ (s.part x.part).windowTests)

/-- Loom tests that run. -/
abbrev State.loomTests (s : State) : Nat := (s.tests.filter (fun t => t.running && decide (t.unit.toNat < 4096))).length

/-- The leaf journal has no erased slot before a written one, and while the device has power a scan of it finds the end of the
leaves set aside and the next slot (13 R313). -/
def State.journalCovers (s : State) : Prop :=
  (∀ k, SMap.get (BitVec.allOnes 256) s.flash.journal k = BitVec.allOnes 256 →
      SMap.get (BitVec.allOnes 256) s.flash.journal (k + 1) = BitVec.allOnes 256)
    ∧ (s.pwrok = true → bootLeaves s.flash.journal 65536 0 0 = (s.sec.endLeaf.toNat, s.sec.slot.toNat))

end Sys2Proof.Machine
end

