-- ==== Sys2Proof/Certificates/Slice0/Obligations.lean ====
section
/-! DEFINITION. The statements for the provers: what the commands do, what they leave as it was, and what every step keeps. -/

open Sys2Proof Sys2Proof.Machine

/-! ### The block -/

/-- A step takes the command at the front of the queue and carries it out on the rest. On an empty queue the oldest packet that a receive
buffer held through a stop leaves it and is processed once its partition's hub units run (17 R412); with none, an eclipse that resumes ends
(17 R414); then a run record is placed that waited for its memory (09 R220); with none of these, one nanosecond passes (01 R19, R21). The
queue, and the order of the four, are the model's: log 1. -/
def Obligations.StepRunsTheFrontCommand : Prop :=
  (∀ c (s : State), step { s with pending := c :: s.pending } = exec c s)
  ∧ (∀ (s : State) h, s.pending = [] → s.heldNext = some h → step s = .next (s.takeHeld h))
  ∧ (∀ (s : State) p, s.pending = [] → s.heldNext = none → s.resuming = some p → step s = .next (s.resumeEnds p))
  ∧ (∀ (s : State) e, s.pending = [] → s.heldNext = none → s.resuming = none → s.runReady = some e → step s = .next (s.placeWaiting e))
  ∧ (∀ s : State, s.pending = [] → s.heldNext = none → s.resuming = none → s.runReady = none → step s = .next s.idleTick)
  ∧ (∀ c (s t : State), exec c s = .next t → t.pending = s.pending)

/-- After reset: no command waits, PWROK is low, the time base has not locked, every object reads its default, every
partition is EMPTY, and what every step keeps holds. The contents of the flash, the stacks and the looms are the
model's choice (logs 6, 9, 10). -/
def Obligations.ResetState : Prop :=
  State.reset.pending = [] ∧ State.reset.pwrok = false ∧ State.reset.timeLocked = false ∧ State.reset.ns = 0
    ∧ State.reset.fwUp = false ∧ (∀ r, State.reset.obj r = objDefault r) ∧ State.reset.obj 0x210001 = 1
    ∧ State.reset.obj 0x702001 = 15 ∧ State.reset.obj 0x802001 = 0
    ∧ (∀ p, p < 4 → State.reset.jobState p = 0) ∧ (∀ a, SMap.get 0 State.reset.hbm a = 0) ∧ (∀ l, State.reset.loom l = Loom.init)
    ∧ State.reset.memoryCanonical ∧ State.reset.leavesOnce ∧ State.reset.journalCovers ∧ State.reset.queuesAddUp
    ∧ State.reset.testsOnce

/-! ### What every step keeps -/

/-- Stored bytes stay in canonical form, in the stacks and in every loom, whatever the step (the model's form of memory:
logs 9 and 10). -/
def Obligations.MemoryCanonicalKept : Prop :=
  ∀ s t : State, s.memoryCanonical → step s = .next t → t.memoryCanonical

/-- No leaf signs twice, and the journal covers every leaf that has signed: every step keeps both (13 R313). -/
def Obligations.LeavesOnceKept : Prop :=
  ∀ s t : State, s.leavesOnce → s.journalCovers → step s = .next t → t.leavesOnce ∧ t.journalCovers

/-- A leaf that has signed is never taken again after power is lost or PWROK falls: the next one that the device finds
when PWROK rises lies above it (13 R313). -/
def Obligations.NoLeafReusedAfterPowerLoss : Prop :=
  ∀ (s s1 t : State) m ok, s.leavesOnce → s.journalCovers → (exec .pwrokFall s = .next s1 ∨ ∃ torn, exec (.powerLoss torn) s = .next s1) →
    exec (.pwrokRise m ok) s1 = .next t → ∀ i ∈ s.sec.signed, i.toNat < t.sec.nxt.toNat

/-- Items pushed are those popped, lost, flushed and held, and no queue of the device holds more than its depth: every
step keeps it (08 R191, R192). -/
def Obligations.QueuesAddUpKept : Prop :=
  ∀ s t : State, s.queuesAddUp → step s = .next t → t.queuesAddUp

/-- No unit is pending twice for a partition, and every step keeps it so (16 R396). -/
def Obligations.TestsListedOnceKept : Prop :=
  ∀ s t : State, s.testsOnce → step s = .next t → t.testsOnce

/-! ### What commands leave as it was -/

/-- Areas of the state that commands of power, bring-up, clocks, events, stewards, debug, JTAG and the dictionary leave as
they were. -/
def Obligations.DeviceCommandsKeep : Prop :=
  (∀ m ok (s t : State), s.pwrok = false → exec (.pwrokRise m ok) s = .next t →
      Only (Area.raising.append [.power, .bringUp, .flash, .security, .inForce]) s.heldInReset t)
  ∧ Keeps .timeBaseLock [.power, .time]
  ∧ Keeps .firmwareReady (Area.raising.append [.power, .bringUp, .flash])
  ∧ (∀ unlocked, Keeps (.clockLockEnd unlocked) (Area.raising.append [.power]))
  ∧ (∀ k chans ms, Keeps (.hbmTrainingComplete k chans ms) (Area.resetting.append [.bringUp, .flash, .inForce]))
  ∧ (∀ fails bypass, Keeps (.bistGroupComplete fails bypass) (Area.raising.append [.bringUp]))
  ∧ (∀ looms engines, Keeps (.katRunComplete looms engines) (Area.resetting.append [.bringUp, .inForce]))
  ∧ (∀ corrected, Keeps (.managementTick corrected) (Area.raising.append [.time, .collision, .inForce, .buffered, .stackCtl, .links, .parts]))
  ∧ (∀ x, Keeps (.boundSecond x) (Area.raising.append [.sensors]))
  ∧ (∀ tj, Keeps (.sensorPoll tj) (Area.raising.append [.bringUp, .sensors]))
  ∧ (∀ u, Keeps (.thermalTrip u) (Area.resetting.append [.power, .bringUp, .inForce, .links, .scans]))
  ∧ (∀ q, Keeps (.droopStretch q) [.sensors, .objects, .quads])
  ∧ (∀ q, Keeps (.boundaryMark q) [.quads, .counters])
  ∧ (∀ q, Keeps (.orbitBoundary q) [.quads, .counters])
  ∧ (∀ q periods, Keeps (.orbitHoldRelease q periods) (Area.raising.append [.quads, .looms, .links, .parts]))
  ∧ Keeps .layoutApplyComplete [.objects, .stackCtl]
  ∧ (∀ p, Keeps (.zeroFillComplete p) [.objects, .stackCtl])
  ∧ (∀ n, Keeps (.stagingExpiry n) [.time, .nodes])
  ∧ (∀ r, Keeps (.notifyAck r) [.objects, .notices, .queues, .loops])
  ∧ (∀ seq, Keeps (.notifyRetry seq) [.sent, .time, .objects, .notices, .queues, .loops])
  ∧ Keeps .beaconLoss [.objects, .sources, .stewards]
  ∧ Keeps .beacon [.objects]
  ∧ (∀ n, Keeps (.guardTimeout n) [.time, .nodes])
  ∧ (∀ src level cfg, Keeps (.eventAssert src level cfg) [.objects, .sources, .stewards, .queues, .loops])
  ∧ (∀ stewards, Keeps (.eventClaim stewards) [.sent, .objects, .sources, .queues, .loops])
  ∧ (∀ m src, Keeps (.eventComplete m src) [.objects, .sources, .stewards, .queues, .loops])
  ∧ (∀ m, Keeps (.stewardSleep m) [.objects, .sources, .stewards])
  ∧ (∀ m stillVerifies, Keeps (.stewardWatchdogExpiry m stillVerifies) (Area.resetting.append [.stewards]))
  ∧ (∀ n, Keeps (.sessionIdleExpiry n) [.time, .nodes])
  ∧ Keeps .counterLatch [.objects, .latched]
  ∧ (∀ q, Keeps (.eclipseStop q) [.objects, .quads, .queues, .counters])
  ∧ (∀ p, Keeps (.edgeStop p) (Area.raising.append [.stackCtl, .parts, .scans]))
  ∧ (∀ p, Keeps (.eclipseScanComplete p) (Area.accessing.append [.links, .parts, .counters, .hang, .scans]))
  ∧ (∀ p, Keeps (.hangWatchdogExpiry p) [.time, .objects, .quads, .parts, .hang])
  ∧ (∀ ir, Keeps (.bypass ir) [.sent, .security])
  ∧ Keeps .idcode [.sent, .security]
  ∧ Keeps .samplePreload [.sent, .free, .security]
  ∧ Keeps .extest [.sent, .free, .security]
  ∧ Keeps .clamp [.sent, .security]
  ∧ Keeps .highz [.sent, .security]
  ∧ Keeps .kwfChallenge [.sent, .security]
  ∧ (∀ token cert sigOk, Keeps (.kwfUnlock token cert sigOk) [.sent, .security])
  ∧ Keeps .kwfLock [.sent, .security]
  ∧ (∀ image v, Keeps (.kwfRecover image v) (Area.raising.append [.power, .flash, .security, .inForce]))
  ∧ (∀ code, Keeps (.stewardDebug code) [.sent, .free, .security])
  ∧ (∀ u stillVerifies, Keeps (.stewardMemoryUncorrectable u stillVerifies) (Area.resetting.append [.stewards]))
  ∧ Keeps .managementCollision [.collision, .objects, .sources, .stewards]
  ∧ (∀ p h, Keeps (.unsupportedRequest p h) (Area.raising.append [.links, .held, .parts]))
  ∧ (∀ k, Keeps (.pauseFrame k) [.objects])
  ∧ Keeps .testLogicReset [.security]
  ∧ (∀ r, Keeps (.clockGo r) Area.commanding)
  ∧ (∀ r, Keeps (.hbmGo r) Area.commanding)
  ∧ (∀ r, Keeps (.bistGo r) Area.commanding)
  ∧ (∀ r, Keeps (.repairGo r) Area.commanding)
  ∧ (∀ r, Keeps (.katGo r) Area.commanding)
  ∧ (∀ r, Keeps (.apply r) Area.commanding)
  ∧ (∀ n r, Keeps (.enableControlChannel n r) Area.commanding)
  ∧ (∀ n r, Keeps (.stopControlChannel n r) Area.commanding)
  ∧ (∀ p r, Keeps (.enablePort p r) Area.commanding)
  ∧ (∀ p r, Keeps (.stopPort p r) Area.commanding)
  ∧ (∀ r, Keeps (.read r) Area.answering)
  ∧ (∀ r, Keeps (.write r) Area.commanding)
  ∧ (∀ r, Keeps (.blockRead r) Area.answering)
  ∧ (∀ r, Keeps (.stagedWrite r) Area.commanding)
  ∧ (∀ r v, Keeps (.commit r v) Area.commanding)
  ∧ (∀ r, Keeps (.unlock r) (Area.raising.append [.nodes]))
  ∧ (∀ r, Keeps (.complement r) Area.commanding)
  ∧ (∀ r, Keeps (.sealReference r) Area.commanding)
  ∧ (∀ r v, Keeps (.firmwareImage r v) Area.commanding)
  ∧ (∀ r, Keeps (.select r) Area.commanding)
  ∧ (∀ r, Keeps (.firmwareCommit r) Area.commanding)
  ∧ (∀ r, Keeps (.nonce r) Area.commanding)
  ∧ (∀ r, Keeps (.openEk r) Area.commanding)
  ∧ (∀ r sigOk, Keeps (.response r sigOk) Area.commanding)
  ∧ (∀ r, Keeps (.closeSession r) Area.commanding)
  ∧ (∀ r, Keeps (.assayEnable r) Area.commanding)
  ∧ (∀ r, Keeps (.hazardDetectorWrite r) Area.commanding)
  ∧ (∀ r, Keeps (.exchangeSettingsWrite r) Area.commanding)
  ∧ (∀ r, Keeps (.snapshot r) Area.commanding)
  ∧ (∀ r, Keeps (.eclipseRequest r) Area.commanding)
  ∧ (∀ r, Keeps (.resume r) Area.commanding)
  ∧ (∀ r, Keeps (.release r) Area.commanding)
  ∧ (∀ r, Keeps (.hangRequest r) Area.commanding)

/-- Areas of the state that commands of steps, looms, the fabric, dual-clock queues, stacks, the ephemeris and update
engines leave as they were. -/
def Obligations.LoomCommandsKeep : Prop :=
  (∀ p, Keeps (.stepStart p) (Area.raising.append [.looms, .links, .parts]))
  ∧ (∀ p, Keeps (.scaleFill p) (Area.accessing.append [.looms, .links, .parts, .counters]))
  ∧ (∀ l hit, Keeps (.wait l hit) (Area.raising.append [.looms, .links, .parts]))
  ∧ (∀ l hit, Keeps (.waitCycle l hit) (Area.raising.append [.looms, .links, .parts]))
  ∧ (∀ l, Keeps (.waitCycleExpiry l) [.quads, .looms, .counters])
  ∧ (∀ l hit, Keeps (.loop l hit) (Area.raising.append [.looms, .links, .parts]))
  ∧ (∀ l hit, Keeps (.loopEnd l hit) (Area.raising.append [.looms, .links, .parts]))
  ∧ (∀ l hit, Keeps (.endProgram l hit) (Area.raising.append [.looms, .links, .parts]))
  ∧ (∀ l hit, Keeps (.matmul l hit) (Area.raising.append [.quads, .looms, .links, .parts, .counters]))
  ∧ (∀ l hit, Keeps (.chain l hit) (Area.raising.append [.quads, .looms, .links, .parts, .counters]))
  ∧ (∀ l hit, Keeps (.dmaToLocal l hit) (Area.accessing.append [.quads, .looms, .links, .parts, .counters]))
  ∧ (∀ l hit, Keeps (.dmaToHbm l hit) (Area.accessing.append [.quads, .looms, .links, .parts, .counters]))
  ∧ (∀ l hit, Keeps (.dmaTransposed l hit) (Area.accessing.append [.quads, .looms, .links, .parts, .counters]))
  ∧ (∀ l hit, Keeps (.add l hit) (Area.raising.append [.quads, .looms, .links, .parts, .counters]))
  ∧ (∀ l hit, Keeps (.sub l hit) (Area.raising.append [.quads, .looms, .links, .parts, .counters]))
  ∧ (∀ l hit, Keeps (.mul l hit) (Area.raising.append [.quads, .looms, .links, .parts, .counters]))
  ∧ (∀ l hit, Keeps (.fma l hit) (Area.raising.append [.quads, .looms, .links, .parts, .counters]))
  ∧ (∀ l hit, Keeps (.min l hit) (Area.raising.append [.quads, .looms, .links, .parts, .counters]))
  ∧ (∀ l hit, Keeps (.max l hit) (Area.raising.append [.quads, .looms, .links, .parts, .counters]))
  ∧ (∀ l hit, Keeps (.abs l hit) (Area.raising.append [.quads, .looms, .links, .parts, .counters]))
  ∧ (∀ l hit, Keeps (.neg l hit) (Area.raising.append [.quads, .looms, .links, .parts, .counters]))
  ∧ (∀ l hit, Keeps (.cmplt l hit) (Area.raising.append [.quads, .looms, .links, .parts, .counters]))
  ∧ (∀ l hit, Keeps (.cmpeq l hit) (Area.raising.append [.quads, .looms, .links, .parts, .counters]))
  ∧ (∀ l hit, Keeps (.sel l hit) (Area.raising.append [.quads, .looms, .links, .parts, .counters]))
  ∧ (∀ l hit, Keeps (.cvt l hit) (Area.raising.append [.quads, .looms, .links, .parts, .counters]))
  ∧ (∀ l hit, Keeps (.exp2 l hit) (Area.raising.append [.quads, .looms, .links, .parts, .counters]))
  ∧ (∀ l hit, Keeps (.log2 l hit) (Area.raising.append [.quads, .looms, .links, .parts, .counters]))
  ∧ (∀ l hit, Keeps (.rcp l hit) (Area.raising.append [.quads, .looms, .links, .parts, .counters]))
  ∧ (∀ l hit, Keeps (.rsqrt l hit) (Area.raising.append [.quads, .looms, .links, .parts, .counters]))
  ∧ (∀ l hit, Keeps (.tanh l hit) (Area.raising.append [.quads, .looms, .links, .parts, .counters]))
  ∧ (∀ l hit, Keeps (.rsum l hit) (Area.raising.append [.quads, .looms, .links, .parts, .counters]))
  ∧ (∀ l hit, Keeps (.rmin l hit) (Area.raising.append [.quads, .looms, .links, .parts, .counters]))
  ∧ (∀ l hit, Keeps (.rmax l hit) (Area.raising.append [.quads, .looms, .links, .parts, .counters]))
  ∧ (∀ l hit, Keeps (.wsum l hit) (Area.raising.append [.quads, .looms, .links, .parts, .counters]))
  ∧ (∀ l hit, Keeps (.wadd l hit) (Area.raising.append [.quads, .looms, .links, .parts, .counters]))
  ∧ (∀ l hit, Keeps (.toT32 l hit) (Area.raising.append [.quads, .looms, .links, .parts, .counters]))
  ∧ (∀ l hit, Keeps (.toVote l hit) (Area.raising.append [.quads, .looms, .links, .parts, .counters]))
  ∧ (∀ l hit, Keeps (.stationaryPreload l hit) (Area.raising.append [.looms]))
  ∧ (∀ l hit, Keeps (.tilePassIssue l hit) (Area.raising.append [.looms, .links, .parts]))
  ∧ (∀ l hit, Keeps (.shadowDrainComplete l hit) (Area.raising.append [.looms, .links, .parts]))
  ∧ (∀ l upset, Keeps (.assayVerdict l upset) (Area.raising.append [.looms, .links, .parts]))
  ∧ (∀ l idx w hit, Keeps (.chainWordArrival l idx w hit) (Area.raising.append [.looms, .links, .parts]))
  ∧ (∀ l u k, Keeps (.descriptorComplete l u k) (Area.accessing.append [.looms, .counters]))
  ∧ (∀ l, Keeps (.commitWaitEnd l) (Area.accessing.append [.looms, .counters]))
  ∧ (∀ q r c ecc noise, Keeps (.slotForward q r c ecc noise) (Area.raising.append [.quads, .looms, .links, .parts, .bridges]))
  ∧ (∀ q r c out noise, Keeps (.creditedForward q r c out noise) (Area.raising.append [.quads, .looms, .links, .parts]))
  ∧ (∀ q r c noise, Keeps (.observationForward q r c noise) (Area.raising.append [.quads, .looms, .links, .parts, .bridges]))
  ∧ (∀ n w, Keeps (.bridgeArrival n w) (Area.raising.append [.looms, .links, .parts, .bridges]))
  ∧ (∀ n, Keeps (.bridgeRelease n) [.quads, .bridges])
  ∧ (∀ loop freed, Keeps (.creditReturn loop freed) (Area.accessing.append [.links, .counters]))
  ∧ (∀ q item lag, Keeps (.queuePush q item lag) (Area.raising.append [.looms, .links, .parts]))
  ∧ (∀ q ecc lag, Keeps (.queuePop q ecc lag) (Area.charging.append [.quads]))
  ∧ (∀ q, Keeps (.flush q) (Area.raising.append [.looms, .links, .parts]))
  ∧ (∀ q, Keeps (.flushEnd q) [.sent, .objects, .links, .queues, .loops])
  ∧ (∀ k word half who ecc, Keeps (.hbmRead k word half who ecc) (Area.resetting.append [.flash]))
  ∧ (∀ k word half data poison who, Keeps (.hbmWrite k word half data poison who) (Area.accessing.append [.counters]))
  ∧ (∀ k word, Keeps (.writeBack k word) [.stackCtl])
  ∧ (∀ k word ecc, Keeps (.patrolScrub k word ecc) (Area.accessing.append [.counters]))
  ∧ (∀ k, Keeps (.refresh k) (Area.accessing.append [.counters]))
  ∧ (∀ k temp, Keeps (.hbmTempPoll k temp) Area.raising)
  ∧ (∀ k, Keeps (.hbmRequestTimeout k) Area.resetting)
  ∧ (∀ k, Keeps (.phyLockLoss k) Area.resetting)
  ∧ (∀ k, Keeps (.caParityError k) Area.resetting)
  ∧ (∀ l, Keeps (.ephemerisMergeComplete l) (Area.accessing.append [.looms, .counters]))
  ∧ (∀ p, Keeps (.rowFinal p) (Area.accessing.append [.parts, .counters]))
  ∧ (∀ p, Keeps (.forwardCopy p) (Area.accessing.append [.looms, .links, .parts, .counters]))
  ∧ (∀ k i laneOk, Keeps (.updateStart k i laneOk) (Area.accessing.append [.looms, .links, .parts, .counters]))
  ∧ (∀ p, Keeps (.updateFinish p) [.objects, .parts])
  ∧ (∀ p, Keeps (.foldComplete p) (Area.accessing.append [.parts, .counters]))
  ∧ (∀ p, Keeps (.auditComplete p) (Area.raising.append [.looms, .links, .parts]))
  ∧ (∀ p, Keeps (.stepBoundary p) (Area.accessing.append [.security, .links, .parts, .counters]))

/-- Areas of the state that commands of the broadcast, jobs, field tests, services, keys, ports, greetings, the exchange
and transport leave as they were. -/
def Obligations.JobCommandsKeep : Prop :=
  (∀ l header payload, Keeps (.segmentReceive l header payload) [.sent, .objects, .looms, .queues, .loops])
  ∧ (∀ p l, Keeps (.endOfSpaceResend p l) [.sent, .parts])
  ∧ (∀ l, Keeps (.segmentTimeout l) [.sent, .time, .looms])
  ∧ (∀ l perLoom missing, Keeps (.segmentRequest l perLoom missing) [.sent, .objects, .parts, .queues, .loops])
  ∧ (∀ p, Keeps (.broadcastTimeout p) [.time, .parts])
  ∧ (∀ l hit, Keeps (.digestReport l hit) (Area.accessing.append [.looms, .links, .parts, .counters]))
  ∧ (∀ p m sigOk amendOk, Keeps (.load p m sigOk amendOk) (Area.raising.append [.sensors, .links, .held, .parts]))
  ∧ (∀ p m amendOk, Keeps (.loadAmend p m amendOk) (Area.raising.append [.sensors, .links, .held, .parts]))
  ∧ (∀ p m img, Keeps (.arm p m img) (Area.accessing.append [.security, .looms, .links, .held, .parts, .counters]))
  ∧ (∀ p, Keeps (.armComplete p) (Area.raising.append [.links, .parts]))
  ∧ (∀ p m, Keeps (.start p m) (Area.raising.append [.links, .held, .parts]))
  ∧ (∀ p m, Keeps (.stepLimit p m) (Area.raising.append [.links, .held, .parts]))
  ∧ (∀ p m, Keeps (.checkpointTake p m) (Area.accessing.append [.security, .links, .held, .parts, .counters]))
  ∧ (∀ p m, Keeps (.checkpointRelease p m) (Area.accessing.append [.security, .links, .held, .parts, .counters]))
  ∧ (∀ p m, Keeps (.halt p m) (Area.resetting.append [.links]))
  ∧ (∀ p m, Keeps (.haltUnload p m) (Area.resetting.append [.links]))
  ∧ (∀ p m, Keeps (.query p m) (Area.raising.append [.links, .held, .parts]))
  ∧ (∀ p m, Keeps (.fieldTest p m) (Area.raising.append [.tests, .links, .held, .parts]))
  ∧ (∀ u, Keeps (.fieldTestStart u) [.free, .tests, .looms])
  ∧ (∀ u failed part, Keeps (.fieldTestComplete u failed part) (Area.raising.append [.tests, .looms, .links, .parts]))
  ∧ (∀ u, Keeps (.fieldTestOverdue u) (Area.raising.append [.time, .tests]))
  ∧ (∀ p w, Keeps (.serviceRdmaWrite p w) (Area.accessing.append [.links, .held, .parts, .counters]))
  ∧ (∀ p w imm, Keeps (.ringFillComplete p w imm) (Area.accessing.append [.links, .held, .parts, .counters]))
  ∧ (∀ p w, Keeps (.rdmaReadRequest p w) (Area.accessing.append [.looms, .links, .held, .parts, .counters]))
  ∧ (∀ n, Keeps (.controlChannelRecreate n) Area.posting)
  ∧ (∀ n, Keeps (.call n) (Area.posting.append [.time]))
  ∧ (∀ n h nonce pub, Keeps (.init n h nonce pub) (Area.posting.append [.free, .security, .held]))
  ∧ (∀ n h ct sigOk, Keeps (.finish n h ct sigOk) (Area.posting.append [.held]))
  ∧ (∀ p h body sigOk, Keeps (.card p h body sigOk) (Area.posting.append [.free, .looms, .held]))
  ∧ (∀ p h ct, Keeps (.cipher p h ct) (Area.posting.append [.looms, .held]))
  ∧ (∀ p, Keeps (.cardResend p) [.sent, .objects, .links, .queues, .loops])
  ∧ (∀ p, Keeps (.keyExchangeTimeout p) [.time, .parts])
  ∧ (∀ programmed, Keeps (.signatureComplete programmed) (Area.accessing.append [.security, .looms, .links, .parts, .counters]))
  ∧ (∀ f, Keeps (.functionStopComplete f) [.security, .objects, .parts, .loops])
  ∧ (∀ k lanes, Keeps (.trainingAttemptComplete k lanes) (Area.raising.append [.looms, .links, .parts]))
  ∧ (∀ k, Keeps (.linkDown k) (Area.raising.append [.links, .parts]))
  ∧ (∀ k, Keeps (.lldpTransmit k) [.sent, .objects, .links, .queues, .loops])
  ∧ (∀ k m, Keeps (.lldpReceive k m) (Area.raising.append [.links]))
  ∧ (∀ k, Keeps (.neighbourExpiry k) (Area.raising.append [.time, .links]))
  ∧ (∀ k, Keeps (.gatewayResolve k) [.sent, .objects, .links, .queues, .loops])
  ∧ (∀ at_ m, Keeps (.arpNdReceive at_ m) [.sent, .objects, .links, .queues, .loops])
  ∧ (∀ k prio xoff, Keeps (.pfcReceive k prio xoff) [.sent, .objects, .links, .queues, .loops])
  ∧ (∀ p h g, Keeps (.greetingReceive p h g) (Area.raising.append [.links, .held, .parts]))
  ∧ (∀ p, Keeps (.greetingPeriod p) Area.posting)
  ∧ (∀ p, Keeps (.rollCallTimeout p) (Area.raising.append [.time, .links, .parts]))
  ∧ (∀ p c, Keeps (.data p c) (Area.accessing.append [.looms, .links, .held, .parts, .counters]))
  ∧ (∀ p c, Keeps (.close p c) (Area.accessing.append [.looms, .links, .held, .parts, .counters]))
  ∧ (∀ p c, Keeps (.done p c) (Area.accessing.append [.looms, .links, .held, .parts, .counters]))
  ∧ (∀ p c, Keeps (.result p c) (Area.accessing.append [.looms, .links, .held, .parts, .counters]))
  ∧ (∀ p addersAgree, Keeps (.tallyAdd p addersAgree) (Area.accessing.append [.looms, .links, .parts, .counters]))
  ∧ (∀ p x, Keeps (.exchangeWindowOpen p x) [.parts])
  ∧ (∀ l tag, Keeps (.storeReport l tag) [.objects, .looms, .parts, .queues, .loops])
  ∧ (∀ p i, Keeps (.sendEntryStart p i) (Area.accessing.append [.looms, .links, .parts, .counters]))
  ∧ (∀ p dest window, Keeps (.closeSend p dest window) (Area.raising.append [.looms, .links, .parts]))
  ∧ (∀ p, Keeps (.commitSend p) (Area.raising.append [.looms, .links, .parts]))
  ∧ (∀ p h m, Keeps (.commitReceive p h m) (Area.raising.append [.links, .held, .parts]))
  ∧ (∀ p h m, Keeps (.abortReceive p h m) (Area.raising.append [.looms, .links, .held, .parts]))
  ∧ (∀ p, Keeps (.markerTimeout p) (Area.raising.append [.time, .links, .parts]))
  ∧ (∀ p h, Keeps (.ack p h) (Area.raising.append [.links, .held, .parts]))
  ∧ (∀ p h cls, Keeps (.nak p h cls) (Area.raising.append [.looms, .links, .held, .parts]))
  ∧ (∀ p h, Keeps (.rnrNak p h) (Area.raising.append [.links, .held, .parts]))
  ∧ (∀ p qpn, Keeps (.rnrRetry p qpn) Area.posting)
  ∧ (∀ p qpn, Keeps (.rtoExpiry p qpn) (Area.raising.append [.looms, .links, .parts]))
  ∧ (∀ p qpn, Keeps (.ackCoalesceExpiry p qpn) Area.posting)
  ∧ (∀ p h, Keeps (.cnp p h) (Area.raising.append [.links, .held, .parts]))
  ∧ (∀ p rank, Keeps (.rateRecovery p rank) [.time, .parts])

/-! ### Power, bring-up and clocks -/

/-- The rise of PWROK samples the straps, checks the identity, finds the leaf where the journal's records end, and starts the slot that
the ROM chooses; where it accepts none, it holds. The firmware finds the STORED values of the settings in force (13 R308, R309, R311,
R313; 14 R344; 15 R362). Its fall, or a loss of the rails, puts everything but the secure flash (and the time base, while the rails
hold) in reset; a STORED write that the loss cuts short leaves the other copy in force, a record of the leaf journal stays spent
(13 R331; 14 R344). The bits that a torn record holds are the model's choice (log 119), and its own fields are the queue, what was sent and
the count of free values (logs 1, 2, 3). -/
def Obligations.PowerEdges : Prop :=
  (∀ m ok (s : State), s.pwrok = false → ∃ t, exec (.pwrokRise m ok) s = .next t
    ∧ t.pwrok = true ∧ t.straps = m ∧ t.riseNs = s.ns ∧ t.fwUp = false
    ∧ t.identityOk = (ok && decide (s.flash.identity.pub = leBytes 68 (s.recBits 799 256)))
    ∧ t.sec.nxt = BitVec.ofNat 21 (bootLeaves s.flash.journal 65536 0 0).1 ∧ t.sec.endLeaf = t.sec.nxt
    ∧ t.sec.slot = BitVec.ofNat 17 (bootLeaves s.flash.journal 65536 0 0).2 ∧ t.flash.journal = s.flash.journal
    ∧ ((s.flash.rootOk = true ∧ s.flash.accepts (s.flash.slotOf s.flash.bootChoice.1) = true) →
        t.sec.bootedB = s.flash.bootChoice.1 ∧ t.flash.failed = s.flash.bootChoice.2 ∧ t.romHold = false
        ∧ ∀ r, r ∉ [0x600101, 0x600102, 0x600103, 0x600104, 0x600506] ++ raisedObjs →
            t.obj r = SMap.get (objDefault r) s.flash.settings r)
    ∧ ((s.flash.rootOk = true ∧ s.flash.accepts (s.flash.slotOf s.flash.bootChoice.1) = false
          ∧ s.flash.accepts (s.flash.slotOf (!s.flash.bootChoice.1)) = true) →
        t.sec.bootedB = (!s.flash.bootChoice.1) ∧ t.flash.failed = s.flash.bootChoice.2 ∧ t.romHold = false)
    ∧ ((s.flash.rootOk = false ∨ (s.flash.accepts s.flash.slotA = false ∧ s.flash.accepts s.flash.slotB = false)) →
        t.romHold = true ∧ t.objs = State.reset.objs ∧ t.flash = s.flash))
  ∧ (∀ s : State, s.pwrok = true → exec .pwrokFall s =
      .next { State.reset with pending := s.pending, out := s.out, fresh := s.fresh, timeLocked := s.timeLocked, ns := s.ns, flash := s.flash })
  ∧ (∀ s : State, exec (.powerLoss none) s =
      .next { State.reset with pending := s.pending, out := s.out, fresh := s.fresh, flash := s.flash })
  ∧ (∀ ref v (s : State), s.fwUp = true → ∃ t, exec (.powerLoss (some (.setting ref v))) s = .next t
    ∧ t = { State.reset with pending := s.pending, out := s.out, fresh := s.fresh, flash := s.flash.tearSetting ref.toNat v }
    ∧ (s.flash.copyA.ok = true ∨ s.flash.copyB.ok = true → t.flash.settings = s.flash.settings))
  ∧ (∀ s : State, s.pwrok = true → s.sec.queue ≠ [] → s.sec.nxt = s.sec.endLeaf → s.sec.slot.toNat < 65536 → ∃ t,
      exec (.powerLoss (some .journal)) s = .next t
    ∧ t = { State.reset with pending := s.pending, out := s.out, fresh := s.fresh, flash := t.flash }
    ∧ (∀ b, b = journalRecord (s.sec.endLeaf.toNat + 16) s.sec.slot.toNat ^^^ BitVec.ofNat 256 (2 ^ 64) →
        t.flash = { s.flash with journal := SMap.set (BitVec.allOnes 256) s.flash.journal s.sec.slot.toNat b }))
  ∧ (∀ s : State, s.timeLocked = false → exec .timeBaseLock s = .next { s with timeLocked := true, ns := 0 })

/-- R365: when the dictionary first answers, STEP_1 reads 0x02 if the record verifies and ID_STATE is 0x00 or 0x02;
otherwise 0x04, and the device enters FAILED (DEVICE_STATE 3). -/
def Obligations.FirmwareStepOne : Prop :=
  ∀ s : State, s.pwrok = true → s.romHold = false → s.fwUp = false → ∃ t, exec .firmwareReady s = .next t
    ∧ t.fwUp = true ∧ t.flash.failed = 0
    ∧ (if s.recordOk = true ∧ (s.obj 0x600506 = 0 ∨ s.obj 0x600506 = 2) then
        t.obj 0x210101 = 2 ∧ OnlyObjs [0x210101, 0x210111] s t
      else t.obj 0x210101 = 4 ∧ t.obj 0x210001 = 3 ∧ t.obj 0x210008 = 1
        ∧ OnlyObjs ([0x210101, 0x210111, 0x210001, 0x210008] ++ raisedObjs) s t)

/-- The GO objects start their steps when the device is in bring-up, the step's prerequisite stands and it has neither
passed nor runs (15 R363, R364): the PLLs and cleared counters (step 2), training of every stack (3), BIST group 0
(5), the repair maps and their result, 0x02 where they equal the record's and 0x03 where BIST removed looms (6; R372), the known-answer run
of every quadrant (7). The ends of bring-up steps 2, 3, 5 and 7 (15 R366, R367, R369, R370, R371, R373, R374): what each enters, and the
step's result; a loom or an update engine that fails the known-answer run. What a known-answer run leaves in a loom is free (log 90), as are
the places of the scratch areas and the values drawn (log 3). -/
def Obligations.BringUpSteps : Prop :=
  (∀ r (s : State), s.takes opWrite r → r.data = [1] → s.trip = false → s.obj 0x210001 = 1 → s.stepResult 2 ∉ [1, 2, 3]
      → s.stepResult 1 = 2 → ∃ t,
      exec (.clockGo r) s = .next t ∧ Served s t opWrite (reqAt r 0x210002) 0 []
    ∧ t.stepResult 2 = 1 ∧ t.pllsOn = true ∧ t.clockNs = s.ns ∧ t.phase = 0 ∧ t.quads = []
    ∧ OnlyObjs ([0x210007, 0x210102] ++ servedObjs) s t)
  ∧ (∀ r (s : State), s.takes opWrite r → r.data = [1] → s.trip = false → s.obj 0x210001 = 1 → s.stepResult 3 ∉ [1, 2, 3]
      → s.stepResult 2 = 2 → ∃ t,
      exec (.hbmGo r) s = .next t ∧ Served s t opWrite (reqAt r 0x210003) 0 []
    ∧ t.stepResult 3 = 1 ∧ t.hbmLeft = List.finRange 20 ∧ (∀ k, k < 20 → t.stack k = { s.stack k with training := true, failed := false })
    ∧ OnlyObjs ([0x210007, 0x210103, 0x400001] ++ servedObjs ++ (List.range 20).map (fun k => 0x40100F + 256 * k)) s t)
  ∧ (∀ r (s : State), s.takes opWrite r → r.data = [1] → s.trip = false → s.obj 0x210001 = 1 → s.stepResult 5 ∉ [1, 2, 3]
      → s.stepResult 2 = 2 → ∃ t,
      exec (.bistGo r) s = .next t ∧ Served s t opWrite (reqAt r 0x210004) 0 []
    ∧ t.stepResult 5 = 1 ∧ t.bistGroup = some 0
    ∧ OnlyObjs ([0x210007, 0x210105, 0x211015, 0x211115, 0x211215, 0x211315, 0x211016, 0x211116, 0x211216, 0x211316] ++ servedObjs) s t)
  ∧ (∀ r (s : State), s.takes opWrite r → r.data = [1] → s.trip = false → s.obj 0x210001 = 1 → s.stepResult 6 ∉ [1, 2, 3]
      → passed (s.stepResult 5) = true → ∃ t,
      exec (.repairGo r) s = .next t ∧ Served s t opWrite (reqAt r 0x210005) 0 []
    ∧ (∀ q i, q < 4 → i < 20 → t.obj (0x212001 + 256 * q + i) = s.rowMap q i)
    ∧ (if (List.range 4).all s.quadPasses then
        t.stepResult 6 = (if s.mapIsRecord then 2 else 3) ∧ t.obj 0x210001 = 1
       else t.stepResult 6 = 4 ∧ t.obj 0x210001 = 3 ∧ t.obj 0x210008 = 6))
  ∧ (∀ r (s : State), s.takes opWrite r → r.data = [1] → s.trip = false → s.obj 0x210001 = 1 → s.stepResult 7 ∉ [1, 2, 3]
      → passed (s.stepResult 3) = true → passed (s.stepResult 6) = true → ∃ t,
      exec (.katGo r) s = .next t ∧ Served s t opWrite (reqAt r 0x210006) 0 []
    ∧ t.stepResult 7 = 1 ∧ t.katRound = 1 ∧ t.katQuads = List.finRange 4 ∧ t.fresh = s.fresh + 4
    ∧ (∀ l : LoomId, s.gradeCols ≤ l.c.val → t.loom l = s.loom l) ∧ OnlyObjs ([0x210007, 0x210107] ++ servedObjs) s t)
  ∧ (∀ s : State, s.stepResult 2 = 1 → ∃ t, exec (.clockLockEnd []) s = .next t
    ∧ t.stepResult 2 = 2 ∧ t.pllsOn = s.pllsOn ∧ OnlyObjs [0x210102, 0x210112] s t)
  ∧ (∀ n l (s : State), s.stepResult 2 = 1 → ∃ t, exec (.clockLockEnd (n :: l)) s = .next t
    ∧ t.stepResult 2 = 4 ∧ t.pllsOn = false ∧ OnlyObjs ([0x210102, 0x210112] ++ raisedObjs) s t)
  ∧ (∀ (k : Fin 20) chans ms (s : State), k ∈ s.hbmLeft → s.applyWaits = none → ∃ t,
      exec (.hbmTrainingComplete k chans ms) s = .next t
    ∧ t.hbmLeft = s.hbmLeft.filter (fun j => j.val != k.val)
    ∧ (t.stack k.val).training = false ∧ (t.stack k.val).failed = chans.any (fun c => decide (2 ≤ field c.toNat 1 0))
    ∧ (∀ n, n < 32 → t.obj (0x403001 + 256 * k.val + n) = (chans.getD n 0x0003).toNat)
    ∧ t.obj (0x403021 + 256 * k.val) = ms.toNat
    ∧ (∀ o, o < 2 ^ 36 → SMap.get 0 t.hbm (hbmKey k.val o) = 0)
    ∧ OnlyStacks [k.val] s t
    ∧ (t.hbmLeft = [] → t.stepResult 3 = if (List.range 20).any (fun j => (t.stack j).failed) then 3 else 2)
    ∧ (t.hbmLeft ≠ [] → t.stepResult 3 = s.stepResult 3))
  ∧ (∀ fails bypass (g : Fin 8) (s : State), s.bistGroup = some g → ∃ t, exec (.bistGroupComplete fails bypass) s = .next t
    ∧ (∀ (r : Fin 20) (c : Fin 26), r.val / 10 = g.val / 4 →
        (t.bistRow (g.val % 4) r.val).testBit c.val = fails.all (fun f => f.r != r || f.c != c))
    ∧ (∀ r : Fin 20, r.val / 10 = g.val / 4 →
        (t.obj (0x211016 + 256 * (g.val % 4))).testBit r.val = ((s.obj (0x211016 + 256 * (g.val % 4))).testBit r.val || bypass.contains r
          || fails.any (fun f => f.r == r && f.part == .bypass)))
    ∧ (∀ h : g.val + 1 < 8, t.bistGroup = some ⟨g.val + 1, h⟩ ∧ t.stepResult 5 = s.stepResult 5)
    ∧ (g = 7 → t.bistGroup = none ∧ t.stepResult 5 = if t.bistLosses then 3 else 2))
  ∧ (∀ s : State, s.stepResult 7 = 1 → s.applyWaits = none → ∃ t, exec (.katRunComplete [] []) s = .next t
    ∧ t.katQuads = [] ∧ t.katRound = 0 ∧ t.stepResult 7 = (if s.obj 0x213001 = 0 ∧ s.obj 0x213002 = 0 then 2 else 3)
    ∧ (∀ k o, k < 20 → o < 2 ^ 36 → SMap.get 0 t.hbm (hbmKey k o)
        = if ((s.stack k).failed = false ∨ (s.obj 0x213002).testBit k = true) ∧ Config.katScratch k (o / 64) = true then 0 else SMap.get 0 s.hbm (hbmKey k o))
    ∧ t.stepResult 8 = (if s.obj 0x210001 = 1 ∧ s.sealArmed = true ∧ s.stepResult 8 = 0 then 1 else s.stepResult 8)
    ∧ OnlyObjs [0x210107, 0x210117, 0x210108] s t)
  ∧ (∀ (l : LoomId) (s : State), s.stepResult 7 = 1 → s.applyWaits = none → l.q ∈ s.katQuads → l.c.val < s.gradeCols → ∃ t,
      exec (.katRunComplete [l] []) s = .next t
    ∧ (∀ c, c < 26 → (t.bistRow l.q.val l.r.val).testBit c = ((s.bistRow l.q.val l.r.val).testBit c
        && c != (usableCols (s.obj (0x212001 + 256 * l.q.val + l.r.val))).getD l.c.val 0))
    ∧ Counted s t (0x211015 + 256 * l.q.val) 1 ∧ Counted s t 0x213001 1
    ∧ (∀ i, i < 20 → t.obj (0x212001 + 256 * l.q.val + i) = t.rowMap l.q.val i)
    ∧ (if t.quadPasses l.q.val = true ∧ SMap.get 0 s.katTries l.q.val < 3 then
        t.stepResult 7 = 1 ∧ t.katQuads = s.katQuads.filter (fun q => l.q == q) ∧ t.katRound = s.katRound + 1
        ∧ Counted s t 0x213003 t.katQuads.length ∧ t.obj 0x210001 = s.obj 0x210001
       else t.stepResult 7 = 3 ∧ t.katQuads = [] ∧ t.katRound = 0 ∧ t.obj 0x210001 = 3 ∧ t.obj 0x210008 = 7))
  ∧ (∀ (k : Fin 20) (s : State), s.stepResult 7 = 1 → s.applyWaits = none → s.katRound = 1 → (s.stack k.val).failed = false → ∃ t,
      exec (.katRunComplete [] [k]) s = .next t
    ∧ t.stack k.val = { s.stack k.val with failed := true } ∧ OnlyStacks [k.val] s t ∧ t.obj (0x40100F + 256 * k.val) = 2
    ∧ (∀ j, j < 20 → (t.obj 0x213002).testBit j = ((s.obj 0x213002).testBit j || j == k.val)
        ∧ (t.obj 0x400001).testBit j = ((s.obj 0x400001).testBit j && j != k.val))
    ∧ t.stepResult 7 = 3 ∧ t.katQuads = [] ∧ t.katRound = 0)

/-- A management tick takes place at the next full second: it applies every buffered write (14 R346, R347), shows the bytes that the
stacks moved (09 R217), compares the seal with its reference (14 R353), and enters READY once every step has passed and the seal is good
(15 R375). The measured second enters SECONDS_IN or SECONDS_OUT with its cause, what failed at any moment of it: the assay, the heat, a
rail, a droop that met the heat (16 R381; 18 R423, R429); the readings enter their objects (18 R426), and the links' FEC counts (10 R231;
DESIGN CHOICE, log 80: once per second). A sensor poll keeps the hottest junction of the second and of all time, warns at the threshold,
and above 105 °C ends a BIST (18 R425; 15 R371). -/
def Obligations.SecondsAndSensors : Prop :=
  (∀ corrected (s : State), s.timeLocked = true → s.fwUp = true → s.ns.toNat + 1000000000 < 2 ^ 64 → ∃ t,
      exec (.managementTick corrected) s = .next t
    ∧ t.ns.toNat = (s.ns.toNat / 1000000000 + 1) * 1000000000 ∧ t.buffered = [] ∧ (corrected = [] → t.mergedNow = []) ∧ t.collided = false
    ∧ Counted s t 0x120203 1
    ∧ (∀ l ref v, s.buffered = l ++ [(ref, v)] → t.live ref = v % 256 ^ objSize ref)
    ∧ (∀ ref, ref ∉ s.buffered.map (·.1) → t.live ref = s.live ref)
    ∧ (∀ k, k < 20 → t.obj (0x40100B + 256 * k) = (s.stack k).bytesNow % 256 ^ objSize (0x40100B + 256 * k) ∧ (t.stack k).bytesNow = 0)
    ∧ (s.sealArmed = true → t.obj 0x121003 = if t.obj 0x121001 = s.obj 0x121002 then 1 else 2)
    ∧ (s.obj 0x210001 = 1 → (∀ n ∈ [2, 3, 5, 6, 7], passed (s.stepResult n) = true) → t.obj 0x121003 = 1 →
        t.obj 0x210001 = 2 ∧ t.stepResult 8 = 2))
  ∧ (∀ x (s : State), s.fwUp = true → ∃ t, exec (.boundSecond x) s = .next t
    ∧ t.tjSecond = 0x8000 ∧ t.hotNow = false ∧ t.drooped = false ∧ t.assayGap = s.assayOffLoaded ∧ t.warmNow = false
    ∧ t.warned = (s.warned && s.warmNow)
    ∧ (∀ n, n < 4 → t.obj (0x200001 + n) = (x.mv.getD n 0).toNat ∧ t.obj (0x200005 + n) = (x.ma.getD n 0).toNat)
    ∧ t.obj 0x200009 = x.watts.toNat ∧ t.obj 0x20000A = (if s.tjSecond = 0x8000 then s.obj 0x20000A else s.tjSecond.toNat)
    ∧ (∀ k a b, x.fec = [(k, a, b)] → Counted s t (0x504006 + 256 * k.val) a.toNat ∧ Counted s t (0x504007 + 256 * k.val) b.toNat)
    ∧ (if s.assayGap = false ∧ s.assayOffLoaded = false ∧ s.hotNow = false ∧ railOut x = false then
        t.wasOutside = false ∧ Counted s t 0x701001 1 ∧ t.obj 0x701002 = s.obj 0x701002
      else t.wasOutside = true ∧ Counted s t 0x701002 1 ∧ t.obj 0x701001 = s.obj 0x701001
        ∧ t.obj 0x701003 = (if s.assayGap || s.assayOffLoaded then 1 else 0) + (if s.hotNow then 2 else 0)
            + (if railOut x || (s.drooped && s.hotNow) then 4 else 0))
    ∧ (∀ n lo hi, n < 4 → x.mv[n]? = some lo → x.high[n]? = some hi → lo.toNat < 665 ∨ 735 < hi.toNat →
        t.wasOutside = true ∧ (t.obj 0x701003).testBit 2 = true))
  ∧ (∀ tj (s : State), s.fwUp = true → ∃ t, exec (.sensorPoll tj) s = .next t
    ∧ t.tjSecond = maxTemp s.tjSecond (BitVec.ofInt 16 (hottest tj).1)
    ∧ t.obj 0x701004 = (maxTemp (BitVec.ofNat 16 (s.obj 0x701004)) (BitVec.ofInt 16 (hottest tj).1)).toNat
    ∧ t.hotNow = (s.hotNow || decide (950 < (hottest tj).1))
    ∧ ((s.live 0x20000B : Int) * 10 ≤ (hottest tj).1 → t.warned = true ∧ t.warmNow = true)
    ∧ ((hottest tj).1 < (s.live 0x20000B : Int) * 10 → t.warned = s.warned ∧ t.warmNow = s.warmNow)
    ∧ ((hottest tj).1 ≤ 1050 → t.bistGroup = s.bistGroup)
    ∧ (1050 < (hottest tj).1 → s.bistGroup ≠ none → t.bistGroup = none ∧ t.stepResult 5 = 4))

/-- The clocks (01 R19; 08 R186 to R188): a stretched period is owed to the clock and counted; at the mark count the
quadrant raises its mark; at the boundary it passes or holds, and its count is the boundary's multiple of 256; a hold
ends when the quadrant sees the mark of every quadrant of its partition, and the periods held are counted. A mark is seen 2 or 3 cycles
after it was raised, so the other quadrants are then at most one cycle short of the boundary. One idle nanosecond
(01 R18, R19, R21): the time base counts once it has locked; a quadrant whose clock stands still does not count; one
that runs counts at most two cycles. That a nanosecond passes while no command waits, the phase between the clocks, and which of the two
cycles shows a mark, are the model's choices: logs 1, 4 and 123. -/
def Obligations.ClocksAndOrbits : Prop :=
  (∀ (q : Fin 4) (s : State), s.quadRuns q = true → ∃ t, exec (.droopStretch q) s = .next t
    ∧ t.quad q = { s.quad q with owed := (s.quad q).owed + 1 } ∧ OnlyQuads [q.val] s t ∧ t.drooped = true
    ∧ Counted s t (0x30F001 + 0x10000 * q.val) 1
    ∧ OnlyObjs [0x30F001 + 0x10000 * q.val] s t)
  ∧ (∀ (q : Fin 4) (s : State), s.quadRuns q = true → (s.quad q).marked.toNat < (s.quad q).next →
      (s.quad q).next < 2 ^ 55 → (s.quad q).count.toNat ≤ 256 * (s.quad q).next - 3 →
      (s.quad q).mayReach (256 * (s.quad q).next - 3) = true → ∃ t, exec (.boundaryMark q) s = .next t
    ∧ t.quad q = { s.quad q with marked := BitVec.ofNat 64 (s.quad q).next, count := BitVec.ofNat 64 (256 * (s.quad q).next - 3) }
    ∧ OnlyQuads [q.val] s t)
  ∧ (∀ (q : Fin 4) (s : State), s.quadRuns q = true → (s.quad q).marked.toNat = (s.quad q).next →
      (s.quad q).next < 2 ^ 55 → (s.quad q).count.toNat ≤ 256 * (s.quad q).next →
      (s.quad q).mayReach (256 * (s.quad q).next) = true → ∃ t, exec (.orbitBoundary q) s = .next t
    ∧ t.quad q = (if s.allSeen q (s.quad q).next then
        { s.quad q with passed := BitVec.ofNat 64 (s.quad q).next, count := BitVec.ofNat 64 (256 * (s.quad q).next) }
      else { s.quad q with holding := true, count := BitVec.ofNat 64 (256 * (s.quad q).next) })
    ∧ OnlyQuads [q.val] s t)
  ∧ (∀ (q : Fin 4) periods (s : State), (s.quad q).holding = true → s.allSeen q (s.quad q).next = true → ∃ t,
      exec (.orbitHoldRelease q periods) s = .next t
    ∧ t.quad q = { s.quad q with holding := false, passed := BitVec.ofNat 64 (s.quad q).next } ∧ OnlyQuads [q.val] s t
    ∧ (periods.toNat ≤ 6 → OnlyObjs [0x30F002 + 0x10000 * q.val, 0x30F003 + 0x10000 * q.val] s t
        ∧ Counted s t (0x30F002 + 0x10000 * q.val) periods.toNat
        ∧ t.obj (0x30F003 + 0x10000 * q.val)
            = Nat.max (s.obj (0x30F003 + 0x10000 * q.val)) periods.toNat % 256 ^ objSize (0x30F003 + 0x10000 * q.val))
    ∧ (6 < periods.toNat → Counted s t (0x30F004 + 0x10000 * q.val) 1))
  ∧ (∀ (q : Fin 4) k (s : State), 0 < k → s.allSeen q k = true → ∀ j ∈ s.quadsOf (s.partOfQuad q), k ≤ (s.quad j).marked.toNat
    ∧ (j ≠ q.val → 256 * k - 1 ≤ (s.quad j).count.toNat))
  ∧ (∀ s : State, s.phase < 5 →
    s.idleTick.ns = (if s.timeLocked then s.ns + 1 else s.ns)
    ∧ s.idleTick.phase < 5
    ∧ (∀ q, q < 4 → s.quadRuns q = false ∨ s.pllsOn = false → (s.idleTick.quad q).count = (s.quad q).count)
    ∧ (∀ q, q < 4 → ((s.idleTick.quad q).count - (s.quad q).count).toNat ≤ 2)
    ∧ s.idleTick.objs = s.objs ∧ s.idleTick.hbm = s.hbm ∧ s.idleTick.looms = s.looms ∧ s.idleTick.out = s.out)

/-- APPLY with the lock open and R27's checks passed resets every partition of the layout in force, erases the keys, and
puts the staged layout and owners in force; status 0x0A, APPLY_STATE 5 until the stacks are zero. While bring-up step 3 or 7 runs it
waits, and the values checked come into force when the step ends (15 R378). A layout change is complete when the stacks are zero, and a
partition's zero-fill makes its stacks serve again (01 R27; 09 R214); the bytes written count where it ends (09 R217; DESIGN CHOICE, log
124). After a thermal trip no fill ends (18 R425). -/
def Obligations.LayoutChanges : Prop :=
  (∀ r (s : State), s.takes opWrite r → r.data = [1] → s.unlocked r.src = true → s.obj 0x900009 ≠ 5 → s.applyRefusal = none
      → s.stepResult 3 ≠ 1 → s.stepResult 7 ≠ 1 → ∃ t,
      exec (.apply r) s = .next t ∧ Served s t opWrite (reqAt r 0x900008) 0x0A []
    ∧ t.obj 0x900009 = 5 ∧ t.layout = s.obj 0x900001 % 256 ∧ (∀ x, x < 6 → t.portOwner x = s.stagedOwner x)
    ∧ (∀ p, p < 4 → t.part p = { Part.init with cardTimes := (s.part p).cardTimes, reportNo := (s.part p).reportNo })
    ∧ t.obj 0x121003 = 3 ∧ (t.node r.src).unlockedAt = none)
  ∧ (∀ r (s : State), s.takes opWrite r → r.data = [1] → s.unlocked r.src = true → s.obj 0x900009 ≠ 5 → s.applyRefusal = none
      → (s.stepResult 3 = 1 ∨ s.stepResult 7 = 1) → ∃ t,
      exec (.apply r) s = .next t ∧ Served s t opWrite (reqAt r 0x900008) 0x0A []
    ∧ t.obj 0x900009 = 5 ∧ t.applyWaits = some s.stagedLayout ∧ t.parts = s.parts ∧ t.layout = s.layout
    ∧ OnlyObjs (0x900009 :: servedObjs) s t)
  ∧ (∀ s : State, s.trip = false → s.obj 0x900009 = 5 → s.applyWaits = none → ∃ t, exec .layoutApplyComplete s = .next t
    ∧ t.obj 0x900009 = 0 ∧ (∀ k, k < 20 → (t.stack k).zeroFilling = false)
    ∧ OnlyObjs (0x900009 :: (List.range 20).map (fun k => 0x40100F + 256 * k)) s t)
  ∧ (∀ (p : Fin 4) (s : State), s.trip = false → ∃ t, exec (.zeroFillComplete p) s = .next t
    ∧ (∀ k, k < 20 → s.partOfStack k = p.val → t.stack k = if (s.stack k).zeroFilling then (s.stack k).filled else s.stack k)
    ∧ (∀ k, (s.stack k).filled.zeroFilling = false ∧ (s.stack k).filled.bytesNow = (s.stack k).bytesNow + 2 ^ 36)
    ∧ (∀ k, k < 20 → s.partOfStack k = p.val → (s.stack k).zeroFilling = true → t.obj (0x40100F + 256 * k) = 0)
    ∧ (∀ k, s.partOfStack k ≠ p.val → t.stack k = s.stack k)
    ∧ OnlyObjs ((List.range 20).map (fun k => 0x40100F + 256 * k)) s t)

/-- A thermal trip records its unit, resets every partition, holds the ports in reset, stops the clocks and every bring-up step that runs, and
the stacks lose their contents (18 R425; a BIST: 15 R371, R378); no step starts after it (18 R429; log 111), and a GO for one that passed
still answers so (15 R364). A device fault (16 R395): every
partition of the layout is reset to EMPTY, the stewards restart, and the device goes on in its state, or enters FAILED with 0x09 when the
record or the identity no longer verifies. -/
def Obligations.DeviceStops : Prop :=
  (∀ u (s : State), s.pwrok = true → s.trip = false → s.applyWaits = none → ∃ t, exec (.thermalTrip u) s = .next t
    ∧ t.trip = true ∧ t.pllsOn = false ∧ t.hbm = [] ∧ t.hbmPoison = [] ∧ t.scans = [] ∧ t.bistGroup = none ∧ t.hbmLeft = []
    ∧ (∀ p, p < 6 → t.obj (portRef p 5) = 0) ∧ (∀ q, t.quadRuns q = false)
    ∧ (match u with
      | .junction q => t.obj 0x20000C = 1 ∧ t.obj 0x20000D = q.val
      | .stack k => t.obj 0x20000C = 2 ∧ t.obj 0x20000D = k.val)
    ∧ (∀ n ∈ [2, 3, 5, 6, 7], t.stepResult n = if s.stepResult n = 1 then 4 else s.stepResult n)
    ∧ (∀ p, p < s.partCount → t.jobState p = 0 ∧ t.part p =
        { Part.init with ikey := (s.part p).ikey, reportNo := (s.part p).reportNo, cardTimes := (s.part p).cardTimes }))
  ∧ (∀ r (s : State), s.takes opWrite r → r.data = [1] → s.trip = true → s.obj 0x210001 = 1 → s.stepResult 2 ∉ [1, 2, 3] → ∃ t,
      exec (.clockGo r) s = .next t ∧ Served s t opWrite (reqAt r 0x210002) 8 [] ∧ t.obj 0x210007 = 1 ∧ t.pllsOn = s.pllsOn
    ∧ OnlyObjs ([0x210007, 0x120205] ++ servedObjs) s t)
  ∧ (∀ r (s : State), s.takes opWrite r → r.data = [1] → s.trip = true → s.obj 0x210001 = 1 → s.stepResult 2 = 2 → ∃ t,
      exec (.clockGo r) s = .next t ∧ Served s t opWrite (reqAt r 0x210002) 8 [] ∧ t.obj 0x210007 = 2 ∧ t.pllsOn = s.pllsOn
    ∧ OnlyObjs ([0x210007, 0x120205] ++ servedObjs) s t)
  ∧ (∀ (m : Fin 4) ok (s : State), s.fwUp = true → ∃ t, exec (.stewardWatchdogExpiry m ok) s = .next t
    ∧ t.stewards = [] ∧ (∀ p, p < s.partCount → t.jobState p = 0 ∧ t.part p =
        { Part.init with ikey := (s.part p).ikey, reportNo := (s.part p).reportNo, cardTimes := (s.part p).cardTimes })
    ∧ (if ok then t.obj 0x210001 = s.obj 0x210001 else t.obj 0x210001 = 3 ∧ t.obj 0x210008 = 9))
  ∧ (∀ u ok (s : State), s.fwUp = true → ∃ t, exec (.stewardMemoryUncorrectable u ok) s = .next t
    ∧ t.stewards = [] ∧ (∀ p, p < s.partCount → t.jobState p = 0 ∧ t.part p =
        { Part.init with ikey := (s.part p).ikey, reportNo := (s.part p).reportNo, cardTimes := (s.part p).cardTimes })
    ∧ (if ok then t.obj 0x210001 = s.obj 0x210001 else t.obj 0x210001 = 3 ∧ t.obj 0x210008 = 9))

/-! ### The dictionary -/

/-- READ answers the object's bytes, BLOCK_READ the bytes from OFFSET on, of one object or (SUB 0) of the index (14 R336,
R339). A read changes no object but the counts of frames. A WRITE of an object that holds the value itself sets it, without a reserved
field (00 R6), at once (the value in force follows at the tick for class T), and a STORED object reaches the settings area (14 R344,
R346); one of a CONST or RO object is refused with 0x03 and changes nothing; a value the table reserves is refused
with 0x06 (00 R7). A STAGED_WRITE keeps its bytes at their offset in the node's area; a COMMIT of a whole area writes
the value, zero from L on, and closes the area; 10 s without a staged frame discard it (14 R340). A frame with a reserved OP, or a
response, is dropped and counted (00 R7; 14 R336). Firmware on steward 0 answers, through the queues between the management port, a steward
and the hub (log 97). -/
def Obligations.DictionaryReadsAndWrites : Prop :=
  (∀ r (s : State) o, s.takes opRead r → s.row? (reqRef r) = some o → o.access ≠ 4 → o.size ≤ 1024 → ∃ t,
      exec (.read r) s = .next t
    ∧ Served s t opRead r 0 (((s.crossQueues dictIn).bump 0x110005 1).readBytes r.src (reqRef r) 0 o.size) ∧ OnlyObjs servedObjs s t)
  ∧ (∀ r (s : State) o, s.takes opBlockRead r → r.sub ≠ 0 → s.row? (reqRef r) = some o → o.access ≠ 4 → r.offset.toNat ≤ o.size → ∃ t,
      exec (.blockRead r) s = .next t
    ∧ Served s t opBlockRead r 0 (((s.crossQueues dictIn).bump 0x110005 1).readBytes r.src (reqRef r) r.offset.toNat r.len.toNat)
    ∧ OnlyObjs servedObjs s t)
  ∧ (∀ r (s : State), s.takes opBlockRead r → r.sub = 0 → s.hasIndex r.index.toNat = true → r.offset.toNat ≤ s.indexSize r.index.toNat → ∃ t,
      exec (.blockRead r) s = .next t
    ∧ Served s t opBlockRead r 0 (((s.crossQueues dictIn).bump 0x110005 1).readIndex r.src r.index.toNat r.offset.toNat r.len.toNat)
    ∧ OnlyObjs servedObjs s t)
  ∧ (∀ r (s : State) o, s.takes opWrite r → s.row? (reqRef r) = some o → plainObject o (reqRef r)
      → o.access ∉ [1, 2, 5] → (o.access = 6 → s.authPasses opWrite r = true)
      → r.data.length = o.size → o.size ≤ 1024 → s.reservedValue o (reqRef r) (leNat (keptData o (reqRef r) r.data)) = false → ∃ t,
      exec (.write r) s = .next t
    ∧ Served s t opWrite r 0 [] ∧ t.obj (reqRef r) = leNat (keptData o (reqRef r) r.data) ∧ OnlyObjs (reqRef r :: servedObjs) s t
    ∧ t.inForce = s.inForce
    ∧ t.buffered = (if o.wclass = 2 then s.buffered ++ [(reqRef r, leNat (keptData o (reqRef r) r.data))] else s.buffered)
    ∧ (o.persist = 2 → SMap.get (objDefault (reqRef r)) t.flash.settings (reqRef r) = leNat (keptData o (reqRef r) r.data)))
  ∧ (∀ r (s : State) o, s.takes opWrite r → s.row? (reqRef r) = some o → o.access = 1 ∨ o.access = 2 → ∃ t,
      exec (.write r) s = .next t
    ∧ Served s t opWrite r 3 [] ∧ OnlyObjs (0x120205 :: servedObjs) s t ∧ t.inForce = s.inForce ∧ t.flash = s.flash)
  ∧ (∀ r (s : State) o, s.takes opWrite r → s.row? (reqRef r) = some o → plainObject o (reqRef r) → o.access ∉ [1, 2, 5, 6]
      → r.data.length = o.size → o.size ≤ 1024 → s.reservedValue o (reqRef r) (leNat (keptData o (reqRef r) r.data)) = true → ∃ t,
      exec (.write r) s = .next t
    ∧ Served s t opWrite r 6 [] ∧ OnlyObjs (0x120205 :: servedObjs) s t ∧ t.inForce = s.inForce ∧ t.flash = s.flash)
  ∧ (∀ r (s : State) o, s.takes opStaged r → s.row? (reqRef r) = some o → (o.access = 6 → s.authPasses opStaged r = true)
      → r.offset.toNat + r.data.length ≤ o.size → r.offset.toNat + r.data.length ≤ stagingRoom (reqRef r) → ∃ t,
      exec (.stagedWrite r) s = .next t ∧ Served s t opStaged r 0 []
    ∧ (∃ m, (t.node r.src).staging = some (reqRef r, m) ∧ (t.node r.src).stagedAt = s.ns
        ∧ ∀ i (h : i < r.data.length), SMap.get 0 m (r.offset.toNat + i) = (r.data[i]).toNat + 1))
  ∧ (∀ r v (s : State) o m, s.takes opCommit r → s.row? (reqRef r) = some o → plainObject o (reqRef r)
      → o.access ∉ [1, 2, 5] → (o.access = 6 → s.authPasses opCommit r = true) → r.offset.toNat ≤ o.size
      → s.stagedArea r.src (reqRef r) r.offset.toNat = some m
      → s.reservedValue o (reqRef r) (leNat (keptData o (reqRef r) (stagedValue m r.offset.toNat o.size))) = false → ∃ t,
      exec (.commit r v) s = .next t ∧ Served s t opCommit r 0 []
    ∧ t.obj (reqRef r) = leNat (keptData o (reqRef r) (stagedValue m r.offset.toNat o.size)) ∧ OnlyObjs (reqRef r :: servedObjs) s t
    ∧ (t.node r.src).staging = none)
  ∧ (∀ (n : Fin 8) (s : State), (s.node n).staging.isSome = true → (s.node n).stagedAt.toNat + 10000000000 < 2 ^ 64 → ∃ t,
      exec (.stagingExpiry n) s = .next t
    ∧ t.node n = { s.node n with staging := none } ∧ OnlyNodes [n.val] s t
    ∧ (s.node n).stagedAt.toNat + 10000000000 ≤ t.ns.toNat ∧ Only [.nodes, .time] s t)
  ∧ (∀ r (s : State), s.portSpeaks = true → r.port = dictPort → (r.reservedOp.isSome = true ∨ r.resp = true) → ∃ t,
      exec (.read r) s = .next t ∧ Counted s t 0x110007 1 ∧ OnlyObjs [0x110007] s t ∧ Only [.objects] s t)

/-- Locks and the compatibility sequence (14 R350, R351): UNLOCK with 0x6D3A opens the node's lock, any other value closes
it and is a guard fault; a WRITE to a GUARDED object re-arms it also where it is malformed; a COMPLEMENT within 1 s of TARGET whose value
is the bitwise complement writes the target as a GUARDED write with the lock open would; the lock and the sequence are the node's own. The
commit of the seal's reference starts bring-up step 8 where the steps before it have passed (15 R363). -/
def Obligations.LocksAndComplement : Prop :=
  (∀ r (s : State), s.takes opWrite r → r.data = [0x3A, 0x6D] → ∃ t,
      exec (.unlock r) s = .next t ∧ Served s t opWrite (reqAt r 0x120001) 0 []
    ∧ (t.node r.src).unlockedAt = some s.ns ∧ t.unlocked r.src = true ∧ OnlyObjs servedObjs s t)
  ∧ (∀ r (s : State), s.takes opWrite r → r.data.length = 2 → r.data ≠ [0x3A, 0x6D] → ∃ t,
      exec (.unlock r) s = .next t ∧ (t.node r.src).unlockedAt = none
    ∧ t.obj 0x120003 = (s.obj 0x120003 + 1) % 256 ^ objSize 0x120003
    ∧ OnlyObjs ([0x120003, 0x120205] ++ servedObjs ++ raisedObjs) s t)
  ∧ (∀ (n : Fin 8) (s : State) u, (s.node n).unlockedAt = some u → u.toNat + 1000000000 < 2 ^ 64 → ∃ t, exec (.guardTimeout n) s = .next t
    ∧ t.node n = { s.node n with unlockedAt := none } ∧ OnlyNodes [n.val] s t
    ∧ u.toNat + 1000000000 ≤ t.ns.toNat ∧ Only [.nodes, .time] s t)
  ∧ (∀ r (s : State) o, s.reachedBy r → reqMalformed opWrite r = true → s.row? (reqRef r) = some o → o.access = 5 → ∃ t,
      exec (.write r) s = .next t ∧ Served s t opWrite r 0x0C [] ∧ (t.node r.src).unlockedAt = none
    ∧ OnlyObjs (0x120205 :: servedObjs) s t)
  ∧ (∀ r (s : State) v, s.takes opWrite r → (s.node r.src).target = some 0x121002 → (s.node r.src).value = some v
      → s.ns.toNat < (s.node r.src).compatAt.toNat + 1000000000 → v.toNat < 2 ^ 32 → r.data.length = 8
      → leNat r.data = 2 ^ 32 - 1 - v.toNat → ∃ t,
      exec (.complement r) s = .next t ∧ Served s t opWrite (reqAt r 0x12F002) 0 []
    ∧ t.obj 0x121002 = v.toNat ∧ t.sealArmed = true ∧ (t.node r.src).target = none ∧ (t.node r.src).value = none
    ∧ t.obj 0x120004 = (s.obj 0x120004 + 1) % 256 ^ objSize 0x120004 ∧ OnlyObjs ([0x121002, 0x210108] ++ servedObjs) s t)
  ∧ (∀ r (s : State), s.takes opWrite r → r.data.length = 4 → s.unlocked r.src = true → ∃ t,
      exec (.sealReference r) s = .next t ∧ Served s t opWrite (reqAt r 0x121002) 0 []
    ∧ t.obj 0x121002 = leNat r.data ∧ t.sealArmed = true ∧ (t.node r.src).unlockedAt = none
    ∧ t.stepResult 8 = (if s.obj 0x210001 = 1 ∧ passed (s.stepResult 7) = true ∧ s.stepResult 8 = 0 then 1 else s.stepResult 8)
    ∧ OnlyObjs ([0x121002, 0x210108] ++ servedObjs) s t)

/-- Firmware (13 R308, R309): the COMMIT of IMAGE verifies it into the slot that does not run; SELECT chooses the slot of
the next boot when it verifies; COMMIT of the firmware appends the running version to the journal. -/
def Obligations.FirmwareObjects : Prop :=
  (∀ r v (s : State) m, s.takes opCommit r → s.unlocked r.src = true → r.offset.toNat ≤ 16777216
      → s.stagedArea r.src 0x600105 r.offset.toNat = some m → ∃ t,
      exec (.firmwareImage r v) s = .next t ∧ Served s t opCommit (reqAt r 0x600105) 0x0A []
    ∧ t.idleSlot = { fwSlotOf (stagedValue m r.offset.toNat r.offset.toNat) v with
        valid := s.flash.accepts (fwSlotOf (stagedValue m r.offset.toNat r.offset.toNat) v) }
    ∧ t.flash.slotOf s.sec.bootedB = s.flash.slotOf s.sec.bootedB
    ∧ t.obj 0x600108 = (if s.flash.accepts (fwSlotOf (stagedValue m r.offset.toNat r.offset.toNat) v) then 0 else 1))
  ∧ (∀ r b (s : State), s.takes opWrite r → s.unlocked r.src = true → r.data = [if b then 1 else 0]
      → s.flash.accepts (s.flash.slotOf b) = true → ∃ t,
      exec (.select r) s = .next t ∧ Served s t opWrite (reqAt r 0x600106) 0 [] ∧ t.flash = { s.flash with bootB := b })
  ∧ (∀ r (s : State), s.takes opWrite r → r.data = [1] → s.authPasses opWrite (reqAt r 0x600107) = true
      → s.flash.versions.length < versionJournalSize → ∃ t,
      exec (.firmwareCommit r) s = .next t ∧ Served s t opWrite (reqAt r 0x600107) 0 []
    ∧ t.flash = { s.flash with versions := s.flash.versions ++ [BitVec.ofNat 32 s.runningVersion] }
    ∧ (t.node r.src).lastSeq = some r.seq)

/-- Attestation and operator sessions. A NONCE while no report waits and the budget allows makes the report of the kind asked for
wait for its signature, and counts in the budget (13 R315, R319). OPEN_EK makes the challenge, a random value and a ciphertext to the
key given; a RESPONSE that verifies under an authorised operator's key sets the session's key and opens the session; CLOSE, and IDLE_S
seconds without an authenticated frame, end it and erase the key (13 R327, R328). That OPEN_EK with a session open closes it is the model's
reading (log 29). -/
def Obligations.ReportsAndSessions : Prop :=
  (∀ r (s : State), s.takes opWrite r → r.data.length = 32 → s.reportWaits = false → underBudget s.ns s.sec.reportTimes = true → ∃ t,
      exec (.nonce r) s = .next t ∧ Served s t opWrite (reqAt r 0x601002) 0 []
    ∧ t.sec.queue = s.sec.queue ++ [(.report (BitVec.ofNat 8 (s.obj 0x601001)), r.data)] ∧ t.obj 0x601004 = 1
    ∧ t.sec.reportTimes = s.ns :: s.sec.reportTimes.take 23)
  ∧ (∀ r (s : State) m, s.takes opCommit r → r.offset.toNat = 1568 → s.stagedArea r.src 0x602002 1568 = some m → ∃ t,
      exec (.openEk r) s = .next t ∧ Served s t opCommit (reqAt r 0x602002) 0 []
    ∧ (t.node r.src).openEk = stagedValue m 1568 1568 ∧ (t.node r.src).session = 1 ∧ (t.node r.src).ks = []
    ∧ (t.node r.src).challenge = leBytes 32 (Config.free s.fresh)
        ++ fitBytes 1568 (Config.kemEncaps (stagedValue m 1568 1568) (s.fresh + 1)).1
    ∧ (t.node r.src).ss = (Config.kemEncaps (stagedValue m 1568 1568) (s.fresh + 1)).2)
  ∧ (∀ r (s : State) m, s.takes opCommit r → r.offset.toNat = 2820 → s.stagedArea r.src 0x602004 2820 = some m
      → (s.node r.src).session = 1 → s.operatorKeys.contains (leNat (digest256 (fitBytes 68 (s.node r.src).openPub))) = true
      → leNat (digest256 (fitBytes 68 (s.node r.src).openPub)) ≠ 0 → ∃ t,
      exec (.response r true) s = .next t
    ∧ (t.node r.src).session = 2 ∧ (t.node r.src).lastAuth = s.ns ∧ (t.node r.src).lastSeq = none
    ∧ (t.node r.src).ks = shake256 (ascii "KWFO" ++ (s.node r.src).ss ++ s.challengeDigest r.src) 32
    ∧ OnlyNodes [r.src.val] s t ∧ OnlyObjs servedObjs s t)
  ∧ (∀ r (s : State), s.takes opWrite r → r.data = [1] → ∃ t,
      exec (.closeSession r) s = .next t ∧ Served s t opWrite (reqAt r 0x602007) 0 []
    ∧ (t.node r.src).session = 0 ∧ (t.node r.src).ks = [])
  ∧ (∀ (n : Fin 8) (s : State), (s.node n).session = 2 → (s.node n).lastAuth.toNat + (s.node n).idleS.toNat * 1000000000 < 2 ^ 64 → ∃ t,
      exec (.sessionIdleExpiry n) s = .next t
    ∧ t.node n = { s.node n with session := 0, ks := [], lastSeq := none } ∧ OnlyNodes [n.val] s t
    ∧ (s.node n).lastAuth.toNat + (s.node n).idleS.toNat * 1000000000 ≤ t.ns.toNat)

/-- Class-D settings (14 R346): ASSAY_ENABLE, the hazard detector and the exchange settings take a value while no job they
affect is loaded, and the seal is stale then; with a job loaded the exchange settings and the assay bits of that
partition stay, with status 0x08. -/
def Obligations.StructuralSettings : Prop :=
  (∀ r v (s : State), s.takes opWrite r → r.data = [BitVec.ofNat 8 v] → v < 16 → s.touchesLoaded v (s.obj 0x702001) = false → ∃ t,
      exec (.assayEnable r) s = .next t ∧ Served s t opWrite (reqAt r 0x702001) 0 []
    ∧ t.obj 0x702001 = v ∧ t.obj 0x702002 = 0 ∧ t.obj 0x121003 = 3 ∧ OnlyObjs ([0x702001, 0x702002, 0x121003] ++ servedObjs) s t)
  ∧ (∀ r v (s : State), s.takes opWrite r → r.data = [BitVec.ofNat 8 v] → v < 16 → s.touchesLoaded v (s.obj 0x702001) = true → ∃ t,
      exec (.assayEnable r) s = .next t ∧ Served s t opWrite (reqAt r 0x702001) 8 []
    ∧ t.obj 0x702002 = 1 ∧ OnlyObjs ([0x702002, 0x120205] ++ servedObjs) s t)
  ∧ (∀ r v (s : State), s.takes opWrite r → r.sub = 1 → r.data = [BitVec.ofNat 8 v] → v < 16
      → s.touchesLoaded v (s.obj 0x802001) = false → ∃ t,
      exec (.hazardDetectorWrite r) s = .next t ∧ Served s t opWrite (reqAt r 0x802001) 0 []
    ∧ t.obj 0x802001 = v ∧ t.obj 0x121003 = 3 ∧ OnlyObjs ([0x802001, 0x802003, 0x121003] ++ servedObjs) s t)
  ∧ (∀ r v (s : State), s.takes opWrite r → r.sub = 2 → r.data = [BitVec.ofNat 8 v] → v < 3 → s.anyJob = false → ∃ t,
      exec (.hazardDetectorWrite r) s = .next t ∧ Served s t opWrite (reqAt r 0x802002) 0 []
    ∧ t.obj 0x802002 = v ∧ t.obj 0x121003 = 3 ∧ OnlyObjs ([0x802002, 0x802003, 0x121003] ++ servedObjs) s t)
  ∧ (∀ r o (s : State), s.takes opWrite r → objRow? (0x520000 + r.sub.toNat) = some o → o.access = 3 → r.data.length = o.size
      → o.lo ≤ leNat r.data → leNat r.data ≤ o.hi → s.anyJob = false → ∃ t,
      exec (.exchangeSettingsWrite r) s = .next t ∧ Served s t opWrite (reqAt r (0x520000 + r.sub.toNat)) 0 []
    ∧ t.obj (0x520000 + r.sub.toNat) = leNat r.data ∧ OnlyObjs ([0x520000 + r.sub.toNat, 0x520006, 0x121003] ++ servedObjs) s t)
  ∧ (∀ r o (s : State), s.takes opWrite r → objRow? (0x520000 + r.sub.toNat) = some o → o.access = 3 → r.data.length = o.size
      → o.lo ≤ leNat r.data → leNat r.data ≤ o.hi → s.anyJob = true → ∃ t,
      exec (.exchangeSettingsWrite r) s = .next t ∧ Served s t opWrite (reqAt r (0x520000 + r.sub.toNat)) 8 []
    ∧ t.obj 0x520006 = 1 ∧ OnlyObjs ([0x520006, 0x120205] ++ servedObjs) s t)

/-- The event controller (14 R354 to R356), no steward asleep or none that wakes, where the queues between the stewards and the hub take
items (01 R18; 08 R189): a source's level and configuration; a claim gives the lowest pending source that targets the steward, or 0x3FF; of stewards that claim in one cycle the lower one is served
first, and the next receives another source while one remains; completion ends a claim; a steward asleep
wakes when a pending source targets it, and the controller restores what it retained. The management port's beacon and
collisions (14 R334) and its notifications (14 R357): a loss and the first collision of a second raise the port's
event source and are counted; an acknowledged notice goes; one not acknowledged is sent again no sooner than RETRY_S
seconds after it was last sent; an answer that is not from a node's own address is dropped and counted (14 R335). -/
def Obligations.EventsAndNotices : Prop :=
  (∀ (src : BitVec 10) level cfg (s : State), s.pwrok = true → sourceExists src.toNat = true → src ≠ 0x3FF → (∀ m, m < 4 → (s.steward m).asleep = false) →
      (cfg = none ∨ s.queueTakes (fromSteward 0) = true) → ∃ t, exec (.eventAssert src level cfg) s = .next t
    ∧ t.source src.toNat = (match cfg with
        | some c => { s.source src.toNat with target := BitVec.ofNat 4 c.toNat, enable := c.toNat.testBit 4, asserted := level }
        | none => { s.source src.toNat with asserted := level })
    ∧ (∀ n, n ≠ src.toNat → t.source n = s.source n) ∧ Only [.sources, .queues, .loops] s t ∧ (cfg = none → Only [.sources] s t))
  ∧ (∀ (m : Fin 4) n rest (s : State), s.pwrok = true → (s.steward m).asleep = false → s.queueTakes (fromSteward m) = true →
      s.queueTakes (toSteward m) = true → s.pendingFor m = n :: rest → ∃ t, exec (.eventClaim [m]) s = .next t
    ∧ t.source n = { s.source n with claimed := some m } ∧ (∀ j, j ≠ n → t.source j = s.source j)
    ∧ t.out = .claim m (BitVec.ofNat 10 n) :: s.out ∧ Counted s t 0x123002 1 ∧ OnlyObjs [0x123002] s t
    ∧ Only [.sources, .objects, .sent, .queues, .loops] s t)
  ∧ (∀ (m : Fin 4) (s : State), s.pwrok = true → (s.steward m).asleep = false → s.queueTakes (fromSteward m) = true →
      s.queueTakes (toSteward m) = true → s.pendingFor m = [] → ∃ t, exec (.eventClaim [m]) s = .next t
    ∧ t.out = .claim m 0x3FF :: s.out ∧ Counted s t 0x123003 1 ∧ OnlyObjs [0x123003] s t
    ∧ Only [.objects, .sent, .queues, .loops] s t)
  ∧ (∀ (a b : Fin 4) n rest (s : State), a < b → s.pwrok = true → (s.steward a).asleep = false → (s.steward b).asleep = false →
      (∀ m : Fin 4, m = a ∨ m = b → s.queueTakes (fromSteward m) = true ∧ s.queueTakes (toSteward m) = true) → s.pendingFor a = n :: rest → ∃ t, exec (.eventClaim [b, a]) s = .next t
    ∧ t.source n = { s.source n with claimed := some a }
    ∧ (∀ m l, (s.pendingFor b).filter (· != n) = m :: l → t.source m = { s.source m with claimed := some b }
        ∧ (∀ j, j ≠ n → j ≠ m → t.source j = s.source j)
        ∧ t.out = .claim b (BitVec.ofNat 10 m) :: .claim a (BitVec.ofNat 10 n) :: s.out ∧ Counted s t 0x123002 2 ∧ OnlyObjs [0x123002] s t)
    ∧ ((s.pendingFor b).filter (· != n) = [] → (∀ j, j ≠ n → t.source j = s.source j)
        ∧ t.out = .claim b 0x3FF :: .claim a (BitVec.ofNat 10 n) :: s.out
        ∧ Counted s t 0x123002 1 ∧ Counted s t 0x123003 1 ∧ OnlyObjs [0x123002, 0x123003] s t))
  ∧ (∀ (m : Fin 4) (src : BitVec 10) (s : State), s.pwrok = true → (s.source src.toNat).claimed = some m → (∀ j, j < 4 → (s.steward j).asleep = false) →
      s.queueTakes (fromSteward m) = true → ∃ t, exec (.eventComplete m src) s = .next t
    ∧ t.source src.toNat = { s.source src.toNat with claimed := none } ∧ (∀ n, n ≠ src.toNat → t.source n = s.source n)
    ∧ Only [.sources, .queues, .loops] s t)
  ∧ (∀ (m : Fin 4) (s : State), s.queueRoom (fromSteward m) = false ∨ s.queueRoom (toSteward m) = false → exec (.eventClaim [m]) s = .next s)
  ∧ (∀ (m : Fin 4) (s : State), s.pwrok = true → (∀ j, j < 4 → (s.steward j).asleep = false) → s.pendingFor m = [] → ∃ t, exec (.stewardSleep m) s = .next t
    ∧ t.steward m = { asleep := true, retained := s.retainedFor m } ∧ (∀ j, j ≠ m.val → t.steward j = s.steward j) ∧ Only [.stewards] s t)
  ∧ (∀ (m : Fin 4) (src : BitVec 10) (s : State), s.pwrok = true → sourceExists src.toNat = true → src ≠ 0x3FF → (s.steward m).asleep = true →
      (s.steward m).retained = [(src.toNat, s.source src.toNat)] → (s.source src.toNat).target.toNat.testBit m = true →
      (s.source src.toNat).enable = true → (s.source src.toNat).claimed = none → (∀ j, j < 4 → j ≠ m.val → (s.steward j).asleep = false) →
      src.toNat ∈ SMap.keys s.sources → ∃ t, exec (.eventAssert src true none) s = .next t
    ∧ t.steward m = Steward.init ∧ (t.source src.toNat).isPending = true)
  ∧ (∀ s : State, s.portSpeaks = true → s.obj 0x110002 = 0 → (∀ m, m < 4 → (s.steward m).asleep = false) → ∃ t,
      exec .beaconLoss s = .next t
    ∧ t.obj 0x110002 = 1 ∧ t.obj 0x110003 = (s.obj 0x110003 + 1) % 256 ^ objSize 0x110003 ∧ OnlyObjs [0x110002, 0x110003] s t
    ∧ (t.source (0x1B0 + (Config.portSource 0).val)).asserted = true)
  ∧ (∀ s : State, s.portSpeaks = true → ∃ t, exec .beacon s = .next t
    ∧ t.obj 0x110002 = 0 ∧ OnlyObjs [0x110002] s t ∧ Only [.objects] s t)
  ∧ (∀ s : State, s.portSpeaks = true → s.collided = false → (∀ m, m < 4 → (s.steward m).asleep = false) → ∃ t,
      exec .managementCollision s = .next t
    ∧ t.obj 0x110004 = (s.obj 0x110004 + 1) % 256 ^ objSize 0x110004 ∧ t.collided = true ∧ OnlyObjs [0x110004] s t
    ∧ (t.source (0x1B0 + (Config.portSource 1).val)).asserted = true)
  ∧ (∀ r (s : State), s.portSpeaks = true → r.port = dictPort → r.addrOk = true → r.node.toNat = r.src.val → r.version = 1
      → r.reservedOp = none → r.resp = true → r.src = 0 → dictIn.all s.queueTakes = true → exec (.notifyAck r) s =
      .next { (s.crossQueues dictIn).bump 0x110005 1 with notices := s.notices.filter (fun n => n.seq != r.seq) })
  ∧ (∀ r (s : State), s.portSpeaks = true → r.port = dictPort → r.addrOk = false ∨ r.node.toNat ≠ r.src.val →
      exec (.notifyAck r) s = .next (s.bump 0x110007 1))
  ∧ (∀ seq n (s : State), s.portSpeaks = true → dictOut.all s.queueTakes = true → s.notices.find? (fun x => x.seq == seq) = some n →
      n.sent.toNat + s.live 0x112005 * 1000000000 < 2 ^ 64 → ∃ t, exec (.notifyRetry seq) s = .next t
    ∧ t.out = .dict 0 n.frame :: s.out ∧ n.sent.toNat + s.live 0x112005 * 1000000000 ≤ t.ns.toNat
    ∧ t.notices = s.notices.map (fun x => if x.seq = seq then { x with sent := t.ns } else x)
    ∧ OnlyObjs [0x110006] s t)

/-! ### Security and debug -/

/-- The JTAG port while the device is powered (13 R329, R330; 18 R428): each instruction selects its data register. What
boundary scan and debug read is free (log 3). A token that R330 accepts sets the scope and is remembered until power
is lost; KWF_LOCK clears the scope; KWF_RECOVER while the ROM holds puts an image into slot A, which runs when it verifies, at once (the
model's reading: log 43); a debug instruction is BYPASS while locked, and so is every code that the table reserves. IDCODE without a record
that verifies reads the model's 0 (log 56); TEST_LOGIC_RESET selects IDCODE (PRESUMED, log 7). -/
def Obligations.JtagInstructions : Prop :=
  (∀ s : State, s.pwrok = true →
      (∀ ir, exec (.bypass ir) s = .next { s with sec := { s.sec with jtagIr := ir }, out := .jtag ir 0 :: s.out })
    ∧ exec .idcode s = .next { s with sec := { s.sec with jtagIr := 0x01 }, out := .jtag 0x01 s.idcode :: s.out }
    ∧ exec .samplePreload s =
        .next { s with sec := { s.sec with jtagIr := 0x02 }, fresh := s.fresh + 1, out := .jtag 0x02 (Config.free s.fresh) :: s.out }
    ∧ exec .extest s =
        .next { s with sec := { s.sec with jtagIr := 0x03 }, fresh := s.fresh + 1, out := .jtag 0x03 (Config.free s.fresh) :: s.out }
    ∧ exec .clamp s = .next { s with sec := { s.sec with jtagIr := 0x04 }, out := .jtag 0x04 0 :: s.out }
    ∧ exec .highz s = .next { s with sec := { s.sec with jtagIr := 0x05 }, out := .jtag 0x05 0 :: s.out }
    ∧ exec .kwfChallenge s =
        .next { s with sec := { s.sec with jtagIr := 0x20 }, out := .jtag 0x20 s.sec.jtagNonce.toNat :: s.out }
    ∧ exec .kwfLock s = .next { s with sec := { s.sec with jtagIr := 0x22, jtagScope := 0 }, out := .jtag 0x22 0 :: s.out })
  ∧ (∀ tok cert ok (s : State), s.pwrok = true → s.tokenOk tok cert ok = true → exec (.kwfUnlock tok cert ok) s =
      .next { s with sec := { s.sec with jtagIr := 0x21, jtagScope := BitVec.ofNat 8 (field tok.toNat 50 48), jtagSeen := true },
                     out := .jtag 0x21 0 :: s.out })
  ∧ (∀ tok cert ok (s : State), s.pwrok = true → s.tokenOk tok cert ok = false → exec (.kwfUnlock tok cert ok) s =
      .next { s with sec := { s.sec with jtagIr := 0x21 }, out := .jtag 0x21 0 :: s.out })
  ∧ (∀ img v (s : State), s.pwrok = true → s.romHold = true → ∃ t, exec (.kwfRecover img v) s = .next t
    ∧ t.flash.slotA = fwSlotOf img v ∧ t.flash.slotB = s.flash.slotB ∧ t.flash.journal = s.flash.journal
    ∧ (s.flash.rootOk = true → s.flash.accepts (fwSlotOf img v) = true → t.romHold = false)
    ∧ (s.flash.accepts (fwSlotOf img v) = false → s.flash.accepts s.flash.slotB = false → t.romHold = true))
  ∧ (∀ code (s : State), s.pwrok = true → exec (.stewardDebug code) s =
      .next (if s.sec.jtagScope = 0 then
        { s with sec := { s.sec with jtagIr := BitVec.ofNat 8 (0x40 + code.toNat) }, out := .jtag (BitVec.ofNat 8 (0x40 + code.toNat)) 0 :: s.out }
      else { s with sec := { s.sec with jtagIr := BitVec.ofNat 8 (0x40 + code.toNat) }, fresh := s.fresh + 1,
                    out := .jtag (BitVec.ofNat 8 (0x40 + code.toNat)) (Config.free s.fresh) :: s.out }))
  ∧ (∀ s : State, s.pwrok = true → exec .testLogicReset s = .next { s with sec := { s.sec with jtagIr := 0x01 } })

/-- Latching and eclipses (17 R404, R405, R410 to R415): SNAPSHOT latches the counters 2,000 ns later; a requested eclipse
gives every quadrant of the partition its stop count, at least 8 cycles ahead; a quadrant stops at exactly that count;
with all stopped the edge domains stop, the smear is recorded, and the stacks keep their contents in self-refresh; the scan ends, and shows
each loom's state; RESUME restarts the edge domains and then lets the quadrants count on from there; RELEASE resets the partition; a hang
snapshot is taken on request and by the watchdog, which counts. After a thermal trip no quadrant stops, and no scan ends (18 R425). The order of the smear's entries and the layout of a scan are the model's
(log 19), as are the commands that name a moment and end the resumption on an empty queue (log 1), and where the watchdog's time begins
(log 98). -/
def Obligations.SnapshotsAndEclipses : Prop :=
  (∀ r (s : State), s.takes opWrite r → r.data = [1] → ∃ t, exec (.snapshot r) s = .next t
    ∧ Served s t opWrite (reqAt r 0x800001) 0 [] ∧ t.latchAt = some (s.ns + 2000) ∧ t.latched = s.latched ∧ OnlyObjs servedObjs s t)
  ∧ (∀ (s : State) u, s.latchAt = some u → u.toNat ≤ s.ns.toNat → ∃ t, exec .counterLatch s = .next t
    ∧ t.latchAt = none ∧ t.obj 0x800002 = s.ns.toNat ∧ OnlyObjs [0x800002] s t ∧ Only [.objects, .latched] s t
    ∧ (∀ k, k < 2 ^ 42 → SMap.get 0 t.latched k = s.counter k) ∧ (∀ k, k < 6 → SMap.get 0 t.latched (hubKey k) = s.hubCycles k))
  ∧ (∀ (s : State) u, s.latchAt = some u → s.ns.toNat < u.toNat → exec .counterLatch s = .next s)
  ∧ (∀ r (p : Fin 4) (s : State), s.takes opWrite r → r.data = [BitVec.ofNat 8 (2 ^ p.val)] →
      s.authPasses opWrite (reqAt r 0x805002) = true → p.val < s.partCount → s.trip = false → s.obj 0x805005 = 0 → s.obj 0x805001 = 0 →
      s.maxCount p + 8 < 2 ^ 64 → ∃ t, exec (.eclipseRequest r) s = .next t
    ∧ Served s t opWrite (reqAt r 0x805002) 0 [] ∧ t.eclipseByte p = 1 ∧ t.obj 0x805006 = s.maxCount p + 8
    ∧ (∀ q ∈ s.quadsOf p, t.quad q = { s.quad q with stopAt := some (BitVec.ofNat 64 (s.maxCount p + 8)) })
    ∧ OnlyQuads (s.quadsOf p) s t)
  ∧ (∀ (q : Fin 4) (s : State) u, s.trip = false → (s.quad q).stopAt = some u → (s.quad q).stopped = false → (s.quad q).count.toNat ≤ u.toNat →
      u.toNat - (s.quad q).count.toNat ≤ (s.quad q).room → ∃ t, exec (.eclipseStop q) s = .next t
    ∧ t.quad q = { s.quad q with count := u, stopped := true, stopNs := s.ns } ∧ OnlyQuads [q.val] s t ∧ OnlyObjs [0x805007] s t
    ∧ (∀ n ∈ edgeQueues q, t.dcq n = { s.dcq n with atStop := (s.dcq n).pushed }) ∧ OnlyQueues (edgeQueues q) s t)
  ∧ (∀ (p : Fin 4) (s : State), s.trip = false → s.eclipseByte p = 1 → s.obj 0x805005 < 2 ^ 32 → (s.quadsOf p).all (fun q => (s.quad q).stopped) = true →
      (∀ k ∈ s.stacksOf p, (s.stack k).selfRefresh = false) → ∃ t,
      exec (.edgeStop p) s = .next t
    ∧ t.eclipseByte p = 2 ∧ (∀ k ∈ s.stacksOf p, t.obj (0x401003 + 256 * k) = 2
        ∧ t.stack k = { s.stack k with selfRefresh := true, refreshWas := s.obj (0x401003 + 256 * k) })
    ∧ t.obj 0x805009 = leNat (((s.smear p).map (leBytes 16)).flatten) % 256 ^ objSize 0x805009
    ∧ (∀ q ∈ s.quadsOf p, ∀ n ∈ edgeQueues q,
        smearEntry n (s.dcq n).items.length ((s.dcq n).pushed - (s.dcq n).atStop) (s.ns - (s.quad q).stopNs).toNat ∈ s.smear p)
    ∧ OnlyStacks (s.stacksOf p) s t ∧ t.hbm = s.hbm ∧ (t.part p).stopNs = s.ns
    ∧ (∀ k, SMap.get [] t.scans k = if s.partOfQuad (k / 501) = p then [] else SMap.get [] s.scans k))
  ∧ (∀ (p : Fin 4) (s : State), s.trip = false → s.eclipseByte p = 2 → s.obj 0x805005 < 2 ^ 32 → (s.part p).snapAfter = false → (s.part p).resumeOwed = false → ∃ t,
      exec (.eclipseScanComplete p) s = .next t
    ∧ t.eclipseByte p = 3 ∧ OnlyObjs [0x805005] s t
    ∧ (∀ l : LoomId, l.q.val ∈ s.quadsOf p → t.scanned (loomKey l) = s.loomScan (loomKey l))
    ∧ (∀ l : LoomId, l.q.val ∉ s.quadsOf p → t.scanned (loomKey l) = s.scanned (loomKey l)))
  ∧ (∀ r (p : Fin 4) (s : State), s.takes opWrite r → r.data = [BitVec.ofNat 8 (2 ^ p.val)] →
      s.authPasses opWrite (reqAt r 0x805003) = true → s.trip = false → s.obj 0x805005 < 2 ^ 32 → s.eclipseByte p = 3 → ∃ t, exec (.resume r) s = .next t
    ∧ Served s t opWrite (reqAt r 0x805003) 0 [] ∧ t.eclipseByte p = 4 ∧ t.quads = s.quads
    ∧ (∀ k ∈ s.stacksOf p, (t.stack k).selfRefresh = false ∧ (t.stack k).waiting.length ≤ (s.stack k).waiting.length)
    ∧ (∀ k ∈ s.stacksOf p, (s.stack k).waiting = [] → (s.stack k).writeBacks = [] → (s.stack k).refreshDue = false →
        t.stack k = { s.stack k with selfRefresh := false }))
  ∧ (∀ (p : Fin 4) (s : State), s.pending = [] → s.heldNext = none → s.resuming = some p.val → s.obj 0x805005 < 2 ^ 32 → ∃ t,
      step s = .next t ∧ t.eclipseByte p = 0
    ∧ (∀ q ∈ s.quadsOf p, t.quad q = { s.quad q with stopAt := none, stopped := false }) ∧ OnlyQuads (s.quadsOf p) s t
    ∧ OnlyObjs [0x805005] s t ∧ Only [.objects, .quads, .parts] s t)
  ∧ (∀ r (p : Fin 4) (s : State), s.takes opWrite r → r.data = [BitVec.ofNat 8 (2 ^ p.val)] →
      s.authPasses opWrite (reqAt r 0x805004) = true → s.obj 0x805005 < 2 ^ 32 → s.eclipseByte p ≠ 0 → ∃ t, exec (.release r) s = .next t
    ∧ Served s t opWrite (reqAt r 0x805004) 0 [] ∧ t.eclipseByte p = 0 ∧ t.jobState p = 0
    ∧ t.part p = { Part.init with ikey := (s.part p).ikey, reportNo := (s.part p).reportNo, cardTimes := (s.part p).cardTimes }
    ∧ OnlyParts [p.val] s t)
  ∧ (∀ (q p : Fin 4) (s : State), s.trip = true → exec (.eclipseStop q) s = .next s ∧ exec (.edgeStop p) s = .next s
    ∧ exec (.eclipseScanComplete p) s = .next s)
  ∧ (∀ (p : Fin 4) (s : State), s.live 0x808001 ≠ 0 → s.live 0x808002 ≠ 1 → s.jobState p = 5 → s.eclipseByte p = 0 → (s.part p).window = false →
      (s.part p).hangNs.toNat + s.live 0x808001 * 1000000 < 2 ^ 64 → ∃ t, exec (.hangWatchdogExpiry p) s = .next t
    ∧ (s.part p).hangNs.toNat + s.live 0x808001 * 1000000 ≤ t.ns.toNat ∧ t.obj 0x808004 = t.ns.toNat ∧ (t.part p).hangNs = t.ns
    ∧ Counted s t 0x808005 1
    ∧ SMap.get 0 t.hangSnap 0 = t.ns.toNat % 2 ^ 32 ∧ OnlyObjs [0x808004, 0x808005] s t ∧ OnlyParts [p.val] s t)
  ∧ (∀ r (p : Fin 4) (s : State), s.takes opWrite r → r.data = [BitVec.ofNat 8 (2 ^ p.val)] → p.val < s.partCount → ∃ t,
      exec (.hangRequest r) s = .next t
    ∧ Served s t opWrite (reqAt r 0x808003) 0 [] ∧ t.obj 0x808004 = s.ns.toNat ∧ SMap.get 0 t.hangSnap 0 = s.ns.toNat % 2 ^ 32
    ∧ OnlyObjs (0x808004 :: servedObjs) s t)

/-- R313: a signature takes the next leaf, which no later signature takes; where none is left, a record that ends 16
leaves higher is programmed into the journal first, a failed one leaves its slot spent and the next slot is tried, after three failures or
the last slot the block refuses, and nothing is signed before a record verifies. A finished report is readable and its state IDLE; the
requests are signed in their order, and a signed run record waits while its memory is stopped (R314; 09 R220); with ID_STATE 0x01 nothing is signed (R311). -/
def Obligations.SignaturesTakeLeaves : Prop :=
  (∀ prog part b rest (s : State), s.pwrok = true → s.trip = false → s.sec.queue = (.report part, b) :: rest → s.obj 0x600506 ≠ 1
      → s.sec.nxt ≠ s.sec.endLeaf → ∃ t,
      exec (.signatureComplete prog) s = .next t
    ∧ t.sec.nxt = s.sec.nxt + 1 ∧ t.sec.signed = s.sec.nxt :: s.sec.signed ∧ t.sec.queue = rest ∧ t.flash = s.flash
    ∧ t.obj 0x601003 = leNat (s.reportBody 1 part.toNat 0 (leNat b)
        ++ fitBytes 2820 (Config.xmssSign s.flash.identity.bytes s.sec.nxt.toNat (s.reportBody 1 part.toNat 0 (leNat b)))) % 256 ^ objSize 0x601003
    ∧ t.obj 0x601004 = 0)
  ∧ (∀ n l r b rest (s : State), s.pwrok = true → s.trip = false → s.sec.queue = (r, b) :: rest → s.obj 0x600506 ≠ 1
      → s.sec.nxt = s.sec.endLeaf → s.sec.endLeaf.toNat < 2 ^ 20 → n < 3 → s.sec.slot.toNat + n < 65536 → ∃ t,
      exec (.signatureComplete (List.replicate n false ++ true :: l)) s = .next t
    ∧ t.sec.nxt = s.sec.nxt + 1 ∧ t.sec.endLeaf = s.sec.endLeaf + 16 ∧ t.sec.slot.toNat = s.sec.slot.toNat + n + 1
    ∧ t.sec.signed = s.sec.nxt :: s.sec.signed
    ∧ (∀ j, j < n → journalEnd (s.sec.slot.toNat + j)
        (SMap.get (BitVec.allOnes 256) t.flash.journal (s.sec.slot.toNat + j)) = none)
    ∧ SMap.get (BitVec.allOnes 256) t.flash.journal (s.sec.slot.toNat + n)
        = journalRecord (s.sec.endLeaf.toNat + 16) (s.sec.slot.toNat + n))
  ∧ (∀ n l part b rest (s : State), s.pwrok = true → s.trip = false → s.sec.queue = (.report part, b) :: rest → s.obj 0x600506 ≠ 1
      → s.sec.nxt = s.sec.endLeaf → s.sec.endLeaf.toNat < 2 ^ 20 → (n = 3 ∧ s.sec.slot.toNat + n ≤ 65536) ∨ (n < 3 ∧ s.sec.slot.toNat + n = 65536)
      → ∃ t, exec (.signatureComplete (List.replicate n false ++ l)) s = .next t
    ∧ t.obj 0x600506 = 2 ∧ t.obj 0x601004 = 3 ∧ t.sec.queue = rest ∧ t.sec.signed = s.sec.signed ∧ t.sec.nxt = s.sec.nxt
    ∧ t.sec.endLeaf = s.sec.endLeaf ∧ t.sec.slot.toNat = s.sec.slot.toNat + n)
  ∧ (∀ prog part b rest (s : State), s.pwrok = true → s.trip = false → s.sec.queue = (.report part, b) :: rest → s.obj 0x600506 ≠ 1
      → s.sec.nxt = s.sec.endLeaf → 2 ^ 20 ≤ s.sec.endLeaf.toNat → ∃ t, exec (.signatureComplete prog) s = .next t
    ∧ t.obj 0x600506 = 2 ∧ t.obj 0x601004 = 3 ∧ t.sec.signed = s.sec.signed ∧ t.sec.nxt = s.sec.nxt ∧ t.flash = s.flash)
  ∧ (∀ prog (s t : State), exec (.signatureComplete prog) s = .next t → t.sec.signed = s.sec.signed
      ∨ (t.sec.signed = s.sec.nxt :: s.sec.signed ∧ (s.sec.nxt = s.sec.endLeaf → ∃ n, n < 3 ∧ (∀ j, j < n → prog.getD j true = false)
          ∧ prog.getD n true = true ∧ SMap.get (BitVec.allOnes 256) t.flash.journal (s.sec.slot + BitVec.ofNat 17 n).toNat
              = journalRecord (s.sec.endLeaf.toNat + 16) (s.sec.slot + BitVec.ofNat 17 n).toNat)))
  ∧ (∀ prog (p : Fin 4) n b rest (s : State), s.pwrok = true → s.trip = false → s.sec.queue = (.runRecord p n, b) :: rest
      → s.memStopped p.val = true → s.obj 0x600506 ≠ 1 → s.sec.nxt ≠ s.sec.endLeaf → ∃ t, exec (.signatureComplete prog) s = .next t
    ∧ t.sec.nxt = s.sec.nxt + 1 ∧ t.sec.signed = s.sec.nxt :: s.sec.signed ∧ t.sec.queue = rest
    ∧ t.sec.runs = s.sec.runs ++ [(p, some (b ++ fitBytes 2820 (Config.xmssSign s.flash.identity.bytes s.sec.nxt.toNat b)))]
    ∧ t.hbm = s.hbm)
  ∧ (∀ prog part b rest (s : State), s.pwrok = true → s.trip = false → s.sec.queue = (.report part, b) :: rest → s.obj 0x600506 = 1 → ∃ t,
      exec (.signatureComplete prog) s = .next t
    ∧ t.obj 0x601004 = 3 ∧ t.sec.queue = rest ∧ t.sec.signed = s.sec.signed ∧ t.sec.nxt = s.sec.nxt ∧ t.flash = s.flash)

/-! ### Jobs -/

/-- A control message of partition p touches no other partition, whatever it asks: neither its job, looms and quadrants, nor the bytes,
poison marks and controllers of its stacks, the queues of its quadrants and stacks, its credit loops, its status objects (01 R23; 12 R303
keeps partitions apart). -/
def Obligations.ControlMessagesStayInside : Prop :=
  ∀ (p : Fin 4) (s t : State),
    (∃ m, (∃ ok oks, exec (.load p m ok oks) s = .next t) ∨ (∃ oks, exec (.loadAmend p m oks) s = .next t)
      ∨ (∃ img, exec (.arm p m img) s = .next t) ∨ exec (.start p m) s = .next t ∨ exec (.stepLimit p m) s = .next t
      ∨ exec (.checkpointTake p m) s = .next t ∨ exec (.checkpointRelease p m) s = .next t ∨ exec (.halt p m) s = .next t
      ∨ exec (.haltUnload p m) s = .next t ∨ exec (.query p m) s = .next t ∨ exec (.fieldTest p m) s = .next t) →
    OnlyParts [p.val] s t
      ∧ (∀ l : LoomId, s.partOfQuad l.q ≠ p.val → t.loom l = s.loom l)
      ∧ (∀ q, s.partOfQuad q ≠ p.val → t.quad q = s.quad q)
      ∧ (∀ j : Fin 4, j ≠ p → t.jobState j = s.jobState j)
      ∧ (∀ k o, s.partOfStack k ≠ p.val → o < 2 ^ 36 → SMap.get 0 t.hbm (hbmKey k o) = SMap.get 0 s.hbm (hbmKey k o))
      ∧ (∀ k w, s.partOfStack k ≠ p.val → w < 2 ^ 30 → t.poisoned k w = s.poisoned k w)
      ∧ (∀ k, s.partOfStack k ≠ p.val → t.stack k = s.stack k)
      ∧ (∀ q j, s.queuePart q = some j → j ≠ p.val → (q < 0x200 ∨ 0x400 ≤ q ∧ q ≤ 0x423) →
          t.dcq q = s.dcq q ∧ t.cloop (s.queueLoop q) = s.cloop (s.queueLoop q))
      ∧ (∀ l, l / 2 ^ 22 % 4 ≠ p.val → l / 2 ^ 24 ≠ 8 → t.cloop l = s.cloop l)
      ∧ (∀ (j : Fin 4) ref, j ≠ p → s.statusOf j ref → t.obj ref = s.obj ref)

/-- LOAD, amendment and ARM (12 R291, R292, R302): a LOAD of an EMPTY partition that passes every check is LOADED with
START as its last step; an amendment in a RUNNING job is held until its boundary, one for the boundary at which the job is HELD takes
effect, and its roll call begins once the association with the new holder is there (10 R244; DESIGN CHOICE, log 127); ARM makes the partition ARMING with the image, at step 4 (keys) where the image is sound and the job starts at 0, and failing
with 0x0A where it is not; ARM_COMPLETE gives ARMED, or LOADED after a failure, with a report. The bytes of a report (log 47), an
amendment that takes effect at once in HELD (log 48) and the step number that STATUS shows from START on (log 58) are the model's. -/
def Obligations.LoadAndArm : Prop :=
  (∀ (p : Fin 4) m ok oks (s : State) x mine, s.hears p m 0 [0] → s.sec.jtagScope = 0 → (loadBody m.body).flags = 0
      → (loadBody m.body).whole = true → s.placeManifest p (s.part p) (loadBody m.body) = (x, mine)
      → x.manStructure (loadBody m.body).length = true
      → s.manifestRefusal p x (ok && (List.range (loadBody m.body).amends.length).all (fun i => oks.getD i false)) = none
      → (loadBody m.body).amends.all (fun b => (amendOf b).sound x.ranks && decide (field (amendOf b).bits.toNat 255 0 = leNat x.digest)) = true
      → ∃ t, exec (.load p m ok oks) s = .next t ∧ Told t p 1 m 0 []
    ∧ t.jobState p = 1 ∧ t.stepNo p = x.man 303 256 ∧ t.obj (0x907003 + 256 * p.val) = x.man 303 256
    ∧ t.obj (0x907002 + 256 * p.val) = x.rank ∧ (t.part p).manifest = x.manifest ∧ (t.part p).digest = x.digest
    ∧ (t.part p).ikey = BitVec.ofNat 64 (x.man 895 832) ∧ OnlyParts [p.val] s t)
  ∧ (∀ (p : Fin 4) m b (s : State), s.hears p m (s.jobField p) [5] → s.sec.jtagScope = 0 → (loadBody m.body).flags = 1
      → (loadBody m.body).whole = true → (loadBody m.body).length = 0 → (loadBody m.body).amends = [b]
      → s.amendRefusal p (amendOf b) true = 0 → ∃ t, exec (.loadAmend p m [true]) s = .next t ∧ Told t p 1 m 0 []
    ∧ t.jobState p = 5 ∧ OnlyParts [p.val] s t ∧ Only Area.posting s t ∧ OnlyObjs movedObjs s t
    ∧ PartIs (t.part p)
        { s.part p with amends := (s.part p).amends ++ [amendOf b], due := (s.part p).due ++ [.amend (amendOf b)] })
  ∧ (∀ (p : Fin 4) m b (s : State), s.hears p m (s.jobField p) [6] → s.sec.jtagScope = 0 → (loadBody m.body).flags = 1
      → (loadBody m.body).whole = true → (loadBody m.body).length = 0 → (loadBody m.body).amends = [b]
      → s.amendRefusal p (amendOf b) true = 0 → (amendOf b).start = s.passedStep p → ∃ t,
      exec (.loadAmend p m [true]) s = .next t ∧ Told t p 1 m 0 []
    ∧ t.jobState p = 6
    ∧ (if (s.part p).hasKey (heldParty (amendOf b).rank) then
        t.rolling p = true ∧ Counted s t (0x515001 + 256 * p.val) 1 ∧ (t.part p).rollOwed = (s.part p).rollOwed
       else t.rolling p = s.rolling p ∧ t.obj (0x515001 + 256 * p.val) = s.obj (0x515001 + 256 * p.val)
        ∧ (t.part p).rollOwed = (s.part p).rollOwed ++ [(amendOf b).rank])
    ∧ (t.part p).peer (amendOf b).rank = { (s.part p).peer (amendOf b).rank with
        addr := BitVec.ofNat 128 (amendOf b).addr, ident := BitVec.ofNat 64 (amendOf b).ident
        epoch := BitVec.ofNat 16 (amendOf b).epoch, state := 2, links := 0, heard := 0, part := BitVec.ofNat 8 (amendOf b).part }
    ∧ (∀ r, r ≠ (amendOf b).rank → (t.part p).peer r = (s.part p).peer r) ∧ OnlyParts [p.val] s t)
  ∧ (∀ (p : Fin 4) m img (s : State), s.hears p m (s.jobField p) [1] → m.body = [] → s.quiet
      → ∃ t, exec (.arm p m img) s = .next t ∧ Told t p 2 m 0 []
    ∧ t.jobState p = 2 ∧ (t.part p).image = some img ∧ OnlyParts [p.val] s t
    ∧ (s.imageOk p img = false → (t.part p).arming.step = 8 ∧ (t.part p).arming.status = 0x0A)
    ∧ (s.imageOk p img = true → s.startBoundary p = 0 → (s.part p).others ≠ [] →
        t.armStep p = 4 ∧ (t.part p).ownEk = fitBytes 1568 (Config.kemKeygen s.fresh).1 ∧ (t.part p).ownCard = []
        ∧ t.sec.queue = s.sec.queue ++ [(.peerCard p, [])]))
  ∧ (∀ (p : Fin 4) (s : State), s.jobState p = 2 → s.armStep p = 7 → ∃ t, exec (.armComplete p) s = .next t
    ∧ t.jobState p = 3 ∧ OnlyObjs ((0x907001 + 256 * p.val) :: movedObjs) s t ∧ PartIs (t.part p) (s.part p)
    ∧ Reported s t p [0, 0, 0] ∧ OnlyParts [p.val] s t)
  ∧ (∀ (p : Fin 4) (s : State), s.jobState p = 2 → s.armStep p = 8 → ∃ t, exec (.armComplete p) s = .next t
    ∧ t.jobState p = 1 ∧ t.armStep p = 0 ∧ OnlyObjs ((0x907001 + 256 * p.val) :: movedObjs ++ raisedObjs) s t
    ∧ Reported s t p (leBytes 1 (s.part p).arming.status.toNat ++ leBytes 2 (s.part p).arming.detail.toNat) ∧ OnlyParts [p.val] s t)

/-- START and STEP-LIMIT (12 R293, R294): a START whose LIMIT is not below the boundary it starts from, with every link
wide enough, begins the roll call, and ends it at once when every peer is confirmed; STEP-LIMIT moves LIMIT, a job at the boundary it
names is HELD, and a HELD job whose limit rises goes on. CHECKPOINT, HALT and QUERY (12 R295, R298, R299): a checkpoint of a later
step is pending until its boundary; RELEASE of the held one ends the hold; HALT of a RUNNING job waits for the boundary and
otherwise takes place at once with cause 1; UNLOAD is answered and empties the partition, whose channel starts again; QUERY changes
nothing. The empty body of a report (log 47), LIMIT in force at the boundary it names (log 51), the channel's STARTING after the reset (log
61), what a reset keeps (log 86) and the time that a hold takes off the hang watchdog (log 98) are the model's. -/
def Obligations.StartLimitAndHalt : Prop :=
  (∀ (p : Fin 4) m v (s : State), s.hears p m (s.jobField p) [3] → bodyNat m 8 = some v → s.startBoundary p ≤ v
      → s.narrowLink p = none → (s.part p).rollDone = false → ∃ t, exec (.start p m) s = .next t ∧ Told t p 3 m 0 []
    ∧ t.jobState p = 4 ∧ t.limit p = v % 2 ^ 64 ∧ t.stepNo p = s.startBoundary p % 2 ^ 64 ∧ t.rolling p = true
    ∧ (t.part p).rollNs = s.ns ∧ (t.part p).rollMs = s.live 0x510004 ∧ OnlyParts [p.val] s t)
  ∧ (∀ (p : Fin 4) m v (s : State), s.hears p m (s.jobField p) [3] → bodyNat m 8 = some v → s.startBoundary p ≤ v
      → s.narrowLink p = none → (s.part p).rollDone = true → ∃ t, exec (.start p m) s = .next t
    ∧ t.jobState p = (if v % 2 ^ 64 = s.startBoundary p then 6 else 5) ∧ t.limit p = v % 2 ^ 64 ∧ t.rolling p = false
    ∧ Reported s t p [] ∧ OnlyParts [p.val] s t)
  ∧ (∀ (p : Fin 4) m v (s : State), s.hears p m (s.jobField p) [4, 5, 6] → bodyNat m 8 = some v → s.stepNo p ≤ v
      → s.exState p ≠ 0 → s.jobState p ≠ 6 → ∃ t, exec (.stepLimit p m) s = .next t ∧ Told t p 4 m 0 []
    ∧ t.limit p = v ∧ OnlyObjs ((0x907004 + 256 * p.val) :: movedObjs) s t ∧ Only Area.posting s t
    ∧ PartIs (t.part p) (s.part p) ∧ OnlyParts [p.val] s t)
  ∧ (∀ (p : Fin 4) m v (s : State), s.hears p m (s.jobField p) [5] → bodyNat m 8 = some v → s.stepNo p ≤ v
      → s.exState p = 0 → ∃ t, exec (.stepLimit p m) s = .next t ∧ Told t p 4 m 0 []
    ∧ t.limit p = v ∧ t.jobState p = (if v = s.stepNo p then 6 else 5)
    ∧ OnlyObjs ([0x907004 + 256 * p.val, 0x907001 + 256 * p.val] ++ movedObjs) s t ∧ OnlyParts [p.val] s t
    ∧ PartIs (t.part p) (if v = s.stepNo p then { s.part p with waitNs := s.ns } else s.part p))
  ∧ (∀ (p : Fin 4) m v (s : State), s.hears p m (s.jobField p) [6] → bodyNat m 8 = some v → s.stepNo p < v → ∃ t,
      exec (.stepLimit p m) s = .next t ∧ Told t p 4 m 0 []
    ∧ t.limit p = v ∧ t.jobState p = 5 ∧ OnlyObjs ([0x907004 + 256 * p.val, 0x907001 + 256 * p.val] ++ movedObjs) s t
    ∧ PartIs (t.part p) { s.part p with
        hangNs := (s.part p).hangNs + (s.ns - (s.part p).waitNs), waitNs := s.ns
        windowTests := (s.tests.filter (fun x => decide (x.part = p) && x.running)).map (fun x => x.unit) }
    ∧ OnlyParts [p.val] s t)
  ∧ (∀ (p : Fin 4) m c (s : State), s.hears p m (s.jobField p) [4, 5, 6] → bodyNat m 9 = some (256 * c) → s.passedStep p < c
      → s.obj (0x907007 + 256 * p.val) ∉ [1, 2] → ¬(s.jobState p = 6 ∧ s.stepNo p = c) → ∃ t,
      exec (.checkpointTake p m) s = .next t ∧ Told t p 5 m 0 []
    ∧ t.obj (0x907006 + 256 * p.val) = c ∧ t.obj (0x907007 + 256 * p.val) = 1
    ∧ PartIs (t.part p) { s.part p with due := (s.part p).due ++ [.take (BitVec.ofNat 64 c)] } ∧ OnlyParts [p.val] s t
    ∧ OnlyObjs ([0x907006 + 256 * p.val, 0x907007 + 256 * p.val] ++ movedObjs) s t)
  ∧ (∀ (p : Fin 4) m c (s : State), s.hears p m (s.jobField p) [4, 5, 6] → bodyNat m 9 = some (256 * c + 1)
      → (s.part p).hold = some (BitVec.ofNat 64 c) → ∃ t, exec (.checkpointRelease p m) s = .next t ∧ Told t p 5 m 0 []
    ∧ t.obj (0x907007 + 256 * p.val) = 3 ∧ PartIs (t.part p) { s.part p with hold := none } ∧ OnlyParts [p.val] s t
    ∧ OnlyObjs ((0x907007 + 256 * p.val) :: movedObjs) s t)
  ∧ (∀ (p : Fin 4) m (s : State), s.hears p m (s.jobField p) [5] → bodyNat m 1 = some 0 → ∃ t, exec (.halt p m) s = .next t
    ∧ Told t p 6 m 0 [] ∧ t.jobState p = 5 ∧ PartIs (t.part p) { s.part p with due := (s.part p).due ++ [.halt 1 0] }
    ∧ OnlyParts [p.val] s t ∧ OnlyObjs movedObjs s t)
  ∧ (∀ (p : Fin 4) m (s : State), s.hears p m (s.jobField p) [1, 2, 3, 4, 6] → bodyNat m 1 = some 0 → ∃ t, exec (.halt p m) s = .next t
    ∧ Told t p 6 m 0 [] ∧ t.jobState p = 7 ∧ t.obj (0x907008 + 256 * p.val) = 1 ∧ t.exState p = 0 ∧ (t.part p).inStep = false
    ∧ t.rolling p = false ∧ OnlyParts [p.val] s t)
  ∧ (∀ (p : Fin 4) m (s : State), s.hears p m (s.jobField p) [1, 2, 3, 6, 7] → bodyNat m 1 = some 1 → ∃ t, exec (.haltUnload p m) s = .next t
    ∧ t.jobState p = 0 ∧ (t.part p).manifest = [] ∧ (t.part p).image = none ∧ t.chanState p = 1 ∧ (t.part p).qp 0x4000 = Qp.init
    ∧ (s.jobState p ≠ 6 → s.sends p 0x4000 → ∃ l, Out.roce p 0x4000 l ∈ t.out
        ∧ (l.map (fun x => x.payload)).flatten = beBytes 32 (t.ctlHeader p 0x86 0 m.seq.toNat 0).toNat
        ∧ (l.map (fun x => x.psn)).head? = some ((s.part p).qp 0x4000).nextPsn)
    ∧ (t.part p).ikey = (s.part p).ikey ∧ (t.part p).cardTimes = (s.part p).cardTimes ∧ OnlyParts [p.val] s t)
  ∧ (∀ (p : Fin 4) m (s : State), s.hears p m 0 [0, 1, 2, 3, 4, 5, 6, 7] → m.body = [] → ∃ t, exec (.query p m) s = .next t
    ∧ Told t p 7 m 0 (s.queryBody p) ∧ Only Area.posting s t ∧ OnlyObjs movedObjs s t ∧ PartIs (t.part p) (s.part p)
    ∧ OnlyParts [p.val] s t)

/-- Field tests (16 R396 to R400): FIELD_TEST makes the units pending; a pending test runs at once in EMPTY, LOADED,
ARMED, HELD and HALTED or in its window, and waits in any other state, a loom test also while 260 run, and after a thermal trip none runs
(18 R425); its end is counted and shown, and a
loom of a loaded job gets its sections again, whose digests are checked: when they differ twice, the job halts. What a loom holds during
its test is free, drawn at its start (logs 3, 20); a loom's number is its partition's when the test is accepted (log 73); the halt is the model's (log 112). -/
def Obligations.FieldTests : Prop :=
  (∀ (p : Fin 4) m (u : BitVec 16) (s : State), s.hears p m (s.jobField p) [0, 1, 2, 3, 4, 5, 6, 7]
      → m.body = leBytes 2 1 ++ leBytes 2 u.toNat → s.testUnitOk p u = true
      → s.tests.all (fun t => t.unit != u || t.part != p) = true
      → s.tests.length < 256 → ∃ t, exec (.fieldTest p m) s = .next t ∧ Told t p 8 m 0 []
    ∧ t.tests = s.tests ++ [{ unit := u, part := p, loom := s.testLoom p u, accepted := s.ns, running := false, overdue := false }]
    ∧ Only (.tests :: Area.posting) s t ∧ OnlyObjs movedObjs s t ∧ PartIs (t.part p) (s.part p) ∧ OnlyParts [p.val] s t)
  ∧ (∀ (u : BitVec 16) (x : FTest) (s : State), s.trip = false → s.testsOnce → s.testWaits u x → ¬ u.toNat < 4096 → s.testAllowed x → ∃ t,
      exec (.fieldTestStart u) s = .next t
    ∧ t.tests = s.tests.map (fun y => if y = x then { y with running := true } else y) ∧ Only [.tests] s t)
  ∧ (∀ (u : BitVec 16) (x : FTest) l (s : State), s.trip = false → s.testsOnce → s.testWaits u x → u.toNat < 4096 → s.testAllowed x → s.loomTests < 260
      → l = x.loom → ∃ t, exec (.fieldTestStart u) s = .next t
    ∧ t.tests = s.tests.map (fun y => if y = x then { y with running := true } else y) ∧ t.fresh = s.fresh + 1
    ∧ t.loom l = { s.loom l with store := (t.loom l).store, mem := (t.loom l).mem }
    ∧ OnlyLooms [l] s t ∧ Only [.tests, .looms, .free] s t)
  ∧ (∀ (u : BitVec 16) (x : FTest) (s : State), s.testWaits u x → ¬ s.testAllowed x ∨ (u.toNat < 4096 ∧ 260 ≤ s.loomTests) →
      exec (.fieldTestStart u) s = .next s)
  ∧ (∀ u failed part (s : State), s.trip = true →
      exec (.fieldTestStart u) s = .next s ∧ exec (.fieldTestComplete u failed part) s = .next s)
  ∧ (∀ (u : BitVec 16) (x : FTest) failed part (s : State), s.trip = false → s.testsOnce → s.testRuns u x → ∃ t,
      exec (.fieldTestComplete u failed part) s = .next t
    ∧ t.tests = s.tests.filter (fun y => decide (y ≠ x)) ∧ Counted s t 0x703003 1 ∧ Counted s t 0x703004 (if failed then 1 else 0)
    ∧ t.obj 0x703005 = u.toNat ∧ t.obj 0x703006 = (if failed then 1 else 0)
    ∧ (t.part x.part).windowTests = (s.part x.part).windowTests.erase u
    ∧ (¬ u.toNat < 4096 ∨ s.jobLoaded x.part = false → t.looms = s.looms))
  ∧ (∀ (u : BitVec 16) (x : FTest) failed part l (s : State), s.trip = false → s.testRuns u x → u.toNat < 4096 → s.jobLoaded x.part = true
      → l = x.loom → (s.restoreSections l).digestsMatch l = true → ∃ t,
      exec (.fieldTestComplete u failed part) s = .next t
    ∧ t.loom l = (s.restoreSections l).loom l ∧ OnlyLooms [l] s t ∧ t.jobState x.part = s.jobState x.part)
  ∧ (∀ (u : BitVec 16) (x : FTest) failed part l (s : State), s.trip = false → s.testRuns u x → u.toNat < 4096 → s.jobState x.part ∈ [4, 5, 6]
      → l = x.loom → (s.restoreSections l).digestsMatch l = false
      → ((s.restoreSections l).restoreSections l).digestsMatch l = false → ∃ t,
      exec (.fieldTestComplete u failed part) s = .next t
    ∧ t.jobState x.part = 7 ∧ t.obj (0x907008 + 256 * x.part.val) = 0x0D ∧ OnlyLooms [l] s t)

/-- R400: a test still pending 24 hours (time base) after its acceptance is overdue: it raises record 0x0708, counts in
OVERDUE (0x7030:02), and remains pending; a second expiry of the same test changes nothing. -/
def Obligations.OverdueTests : Prop :=
  (∀ (u : BitVec 16) (x : FTest) (s : State), s.testsOnce → x ∈ s.tests → x.unit = u → x.overdue = false
      → (∀ y ∈ s.tests, y.unit = u → y.overdue = false → y = x)
      → x.accepted.toNat + 86400000000000 < 2 ^ 64 → ∃ t, exec (.fieldTestOverdue u) s = .next t
    ∧ x.accepted.toNat + 86400000000000 ≤ t.ns.toNat
    ∧ t.tests = s.tests.map (fun y => if y = x then { y with overdue := true } else y)
    ∧ t.readTests 2 = s.readTests 2 + 1 ∧ t.readTests 1 = s.readTests 1
    ∧ (∃ r, t.log = r :: s.log.take 4095 ∧ field r.bits.toNat 15 0 = 0x0708 ∧ field r.bits.toNat 18 16 = 2
        ∧ field r.bits.toNat 39 24 = u.toNat % 4096))
  ∧ (∀ (u : BitVec 16) (s : State), (∀ x ∈ s.tests, x.unit = u → x.overdue = true) → exec (.fieldTestOverdue u) s = .next s)

/-- A control channel's life (12 R288; 13 R318, R319, R321, R324): ENABLE makes an OFF channel STARTING with its queue pair; a
READY device calls; an INIT of an authorised key gets a key pair and a card to be signed; a FINISH that verifies sets
the key, installs the channel's association in both directions and the channel is ON; STOP erases key and associations, and the end
of the stop the queue pair; after a partition reset the queue pair is recreated. The association's link index 0 is the model's (log 85). -/
def Obligations.ControlChannels : Prop :=
  (∀ (n : Fin 4) r (s : State), s.takes opWrite (reqByte r 1) → s.chanState n = 0 → ∃ t,
      exec (.enableControlChannel n r) s = .next t
    ∧ Served s t opWrite (reqAt (reqByte r 1) (0x901008 + 256 * n.val)) 0 [] ∧ t.chanState n = 1 ∧ t.obj (0x901008 + 256 * n.val) = 1
    ∧ (t.part n).qp 0x4000 = { Qp.init with live := true, link := BitVec.ofNat 8 (s.obj (0x901001 + 256 * n.val)) }
    ∧ OnlyParts [n.val] s t)
  ∧ (∀ (n : Fin 4) r (s : State), s.takes opWrite (reqByte r 0) → s.chanState n = 1 ∨ s.chanState n = 2 → ∃ t,
      exec (.stopControlChannel n r) s = .next t
    ∧ Served s t opWrite (reqAt (reqByte r 0) (0x901008 + 256 * n.val)) 0 [] ∧ t.chanState n = 3 ∧ t.obj (0x901008 + 256 * n.val) = 0
    ∧ (t.part n).chanKey = [] ∧ (t.part n).chanDk = [] ∧ (t.part n).sa 0x8000 = Sa.init ∧ (t.part n).sa 0x8001 = Sa.init
    ∧ OnlyParts [n.val] s t)
  ∧ (∀ (n : Fin 4) (s : State), s.chanState n = 3 → ∃ t, exec (.functionStopComplete (.channel n)) s = .next t
    ∧ t.chanState n = 0 ∧ (t.part n).chanKey = [] ∧ (t.part n).chanDk = [] ∧ (t.part n).qp 0x4000 = Qp.init ∧ OnlyParts [n.val] s t
    ∧ OnlyObjs [0x901009 + 256 * n.val] s t)
  ∧ (∀ (n : Fin 4) (s : State), s.fwUp = true → s.chanState n = 1 → ((s.part n).qp 0x4000).live = false → n.val < s.partCount → ∃ t,
      exec (.controlChannelRecreate n) s = .next t
    ∧ (t.part n).qp 0x4000 = { Qp.init with live := true, link := BitVec.ofNat 8 (s.obj (0x901001 + 256 * n.val)) }
    ∧ (t.part n).lastCall = (if s.ready then s.ns else 0) ∧ t.chanState n = 1 ∧ OnlyParts [n.val] s t ∧ Only Area.posting s t)
  ∧ (∀ (n : Fin 4) (s : State), s.fwUp = true → s.ready = true → s.chanState n = 1 → n.val < s.partCount →
      (s.part n).lastCall.toNat + 1000000000 < 2 ^ 64 → ∃ t, exec (.call n) s = .next t
    ∧ (s.linkOpen (s.obj (0x901001 + 256 * n.val)) (s.pcpData (s.obj (0x901001 + 256 * n.val))) → ∃ w,
        t.out = .keyx n.val 0xFFFF w [beBytes 32 (s.keyxHeader n 1 0 (0xFF00 + n.val) 0xFFFF 0 0).toNat] :: s.out
        ∧ w.source = 5121 ∧ w.port = 5121 ∧ w.esp = none)
    ∧ t.part n = { s.part n with lastCall := t.ns }
    ∧ ((s.part n).lastCall ≠ 0 → (s.part n).lastCall.toNat + 1000000000 ≤ t.ns.toNat) ∧ Only (.time :: Area.posting) s t
    ∧ OnlyParts [n.val] s t)
  ∧ (∀ (n : Fin 4) h nonce pub (s : State), s.admits n h.frame → (s.rxChannel n h 2 (32 + pub.length)).2 = true → s.ready = true
      → s.chanState n = 1 ∨ (s.chanState n = 2 ∧ underBudget s.ns (s.part n).cardTimes = true)
      → s.keyAuthorised (fitBytes 68 pub) = true → ∃ t, exec (.init n h nonce pub) s = .next t
    ∧ t.sec.queue = s.sec.queue ++ [(.chanCard n, leBytes 32 nonce.toNat)] ∧ t.fresh = s.fresh + 1
    ∧ t.part n = { s.part n with
        chanEk := fitBytes 1568 (Config.kemKeygen s.fresh).1, chanDk := (Config.kemKeygen s.fresh).2
        chanInit := leBytes 32 nonce.toNat ++ fitBytes 68 pub, chanCard := [], chanSpi := h.spi
        cardTimes := if s.chanState n = 2 then s.ns :: (s.part n).cardTimes.take 23 else (s.part n).cardTimes }
    ∧ OnlyParts [n.val] s t ∧ Only [.free, .security, .parts, .queues, .loops] s t)
  ∧ (∀ (n : Fin 4) h ct (s : State), s.admits n h.frame → (s.rxChannel n h 4 (ct.length + 2820)).2 = true → (s.part n).chanCard ≠ []
      → s.chanState n = 1 ∨ s.chanState n = 2 →
      ∀ k, k = shake256 (ascii "KWFX" ++ Config.kemDecaps (s.part n).chanDk ct
        ++ digest256 ((s.part n).chanInit ++ (s.part n).chanCard ++ ct)) 32 → ∃ t,
      exec (.finish n h ct true) s = .next t
    ∧ t.chanState n = 2 ∧ (t.part n).chanKey = k
    ∧ (t.part n).sa 0x8000 = { Sa.init with key := espKey k (0xFF00 + n.val) 0xFFFF 0, spi := (s.part n).chanSpi }
    ∧ (t.part n).sa 0x8001 = { Sa.init with key := espKey k 0xFFFF (0xFF00 + n.val) 0, spi := 0x80004000 }
    ∧ (t.part n).chanCard = [] ∧ (t.part n).chanDk = [] ∧ OnlyObjs [0x901009 + 256 * n.val] s t ∧ OnlyParts [n.val] s t)

/-- The keys of a job (13 R320 to R322): the first valid card of a party is answered with a ciphertext to its key and
kept; a party's ciphertext gives the other half, and the pair that is complete its secret and its associations, and where a new holder's
roll call waited for it, that begins (10 R244; DESIGN CHOICE, log 127); the own card goes
again to those who owe an answer; 4 without an end fails the arming with 0x12 and the lowest party that lacks a key. The SPI of an
association of a service's, and the link index of its packets, are the model's (log 85). -/
def Obligations.JobKeys : Prop :=
  (∀ (p : Fin 4) h body ok k (s : State), s.admits p h.frame → (s.rxParty p h 3 body.length).2 = true → s.keysOpen p = true
      → h.sender.toNat < (s.part p).parties → h.sender.toNat ≠ (s.part p).rank
      → body.length = 4740 → s.cardFor p h.sender.toNat (leNat (body.take 352)) ok = .ok k → ((s.part p).pair k).sent = false → ∃ t,
      exec (.card p h body ok) s = .next t
    ∧ (t.part p).pair k = { (s.part p).pair k with
        sent := true, card := body
        ctSent := fitBytes 1568 (Config.kemEncaps ((body.drop 352).take 1568) s.fresh).1
        ssOut := fitBytes 32 (Config.kemEncaps ((body.drop 352).take 1568) s.fresh).2 }
    ∧ (s.linkOpen ((s.part p).linkOf 0) (s.pcpData ((s.part p).linkOf 0)) → ∃ w f,
        Out.keyx p.val (BitVec.ofNat 16 (k % 0x10000)) w f ∈ t.out
        ∧ f.flatten.drop 32 = fitBytes 1568 (Config.kemEncaps ((body.drop 352).take 1568) s.fresh).1)
    ∧ t.fresh = s.fresh + 1 ∧ OnlyParts [p.val] s t)
  ∧ (∀ (p : Fin 4) h ct (s : State), s.admits p h.frame → (s.rxParty p h 5 ct.length).2 = true → s.keysOpen p = true
      → h.sender.toNat < (s.part p).parties → h.sender.toNat ≠ (s.part p).rank
      → (s.part p).ownCard ≠ [] → ct.length = 1568 → ((s.part p).pair h.sender.toNat).got = false →
      ∀ v, v = (s.part p).pair h.sender.toNat → ∀ ss, ss = fitBytes 32 (Config.kemDecaps (s.part p).ownDk ct) →
      ∀ key, key = (if (s.part p).rank < h.sender.toNat then pairKey v.ssOut ss (s.part p).ownCard v.card
        else pairKey ss v.ssOut v.card (s.part p).ownCard) → ∃ t,
      exec (.cipher p h ct) s = .next t
    ∧ (t.part p).pair h.sender.toNat = { v with got := true, ssIn := ss }
    ∧ (v.sent = true → SMap.get [] (t.part p).pairKeys h.sender.toNat = key
        ∧ (∀ l, l < (s.part p).paths →
            (t.part p).sa (2 * (4 * h.sender.toNat + l))
              = { Sa.init with key := espKey key (s.part p).rank h.sender.toNat l, spi := rxSpi (4 * (s.part p).rank + l) }
            ∧ (t.part p).sa (2 * (4 * h.sender.toNat + l) + 1)
              = { Sa.init with key := espKey key h.sender.toNat (s.part p).rank l, spi := rxSpi (4 * h.sender.toNat + l) }))
    ∧ (v.sent = false → (t.part p).pairKeys = (s.part p).pairKeys ∧ (t.part p).sas = (s.part p).sas)
    ∧ (v.sent = true → key ≠ [] → s.armStep p = 7 → s.jobState p = 5 ∨ s.jobState p = 6 → (s.part p).rollOwed = [h.sender.toNat] →
        t.rolling p = true ∧ (t.part p).rollNs = s.ns ∧ (t.part p).rollOwed = [] ∧ Counted s t (0x515001 + 256 * p.val) 1)
    ∧ OnlyParts [p.val] s t)
  ∧ (∀ (p : Fin 4) (s : State), s.keysOpen p = true → (s.part p).ownCard ≠ [] → ∃ t, exec (.cardResend p) s = .next t
    ∧ (s.linkOpen ((s.part p).linkOf 0) (s.pcpData ((s.part p).linkOf 0)) → ∀ q ∈ (s.part p).owedCards, ∃ w f,
        Out.keyx p.val (BitVec.ofNat 16 (q % 0x10000)) w f ∈ t.out ∧ f.flatten.drop 32 = (s.part p).ownCard)
    ∧ t.parts = s.parts ∧ Only Area.posting s t ∧ OnlyObjs [0x804006] s t)
  ∧ (∀ (p : Fin 4) q (s : State), s.armStep p = 4 → (s.part p).others.find? (fun j => !(s.part p).hasKey j) = some q
      → (s.part p).arming.since.toNat + s.live 0x510004 * 1000000 < 2 ^ 64 → ∃ t, exec (.keyExchangeTimeout p) s = .next t
    ∧ (t.part p).arming = { (s.part p).arming with step := 8, status := 0x12, detail := BitVec.ofNat 16 q }
    ∧ (s.part p).arming.since.toNat + s.live 0x510004 * 1000000 ≤ t.ns.toNat ∧ OnlyParts [p.val] s t ∧ Only [.time, .parts] s t)

/-- Service peers (12 R287, R291, R297, R298): a write of one word or of many that its rights and the job state allow reaches the region,
one to a free ring entry the entry, and joins the fill's fingerprint; a ring fill completes with the step as immediate, a read under a hold
is answered; anything else is refused and counted. -/
def Obligations.ServicePeers : Prop :=
  (∀ (p : Fin 4) w r (s : State), s.svcParty p w = true → s.inOrder p w.pkt 1 → s.svcRegion p w = some r →
      (s.part p).regionKind r ≠ 4 → s.svcMayWrite p r w = true → 0 < w.data.length → w.va.toNat % 64 + w.data.length ≤ 64 → s.quiet →
      ∀ a, a = s.regionWord p r w.va.toNat → ∃ t,
      exec (.serviceRdmaWrite p w) s = .next t
    ∧ t.readRegion p r w.va.toNat w.data.length = w.data
    ∧ OnlyBytes (fun b => hbmKey a.1 (64 * a.2 + w.va.toNat % 64) ≤ b ∧ b < hbmKey a.1 (64 * a.2 + w.va.toNat % 64) + w.data.length) s t
    ∧ ((t.part p).qp (pktQpn w.pkt)).expPsn = w.pkt.psn + 1 ∧ PartIs (t.part p) (s.part p) ∧ OnlyParts [p.val] s t)
  ∧ (∀ (p : Fin 4) w r (s : State), s.svcParty p w = true → s.inOrder p w.pkt (packetsOf w.data.length) → s.svcRegion p w = some r →
      (s.part p).regionKind r ≠ 4 → s.svcMayWrite p r w = true → s.wordsApart p r w.va.toNat w.data.length → s.quiet → ∃ t,
      exec (.serviceRdmaWrite p w) s = .next t
    ∧ t.readRegion p r w.va.toNat w.data.length = w.data ∧ OnlyBytes (s.regionBytes p r w.va.toNat w.data.length) s t
    ∧ ((t.part p).qp (pktQpn w.pkt)).expPsn = w.pkt.psn + BitVec.ofNat 24 (packetsOf w.data.length) ∧ PartIs (t.part p) (s.part p)
    ∧ OnlyParts [p.val] s t)
  ∧ (∀ (p : Fin 4) w r (s : State), s.svcParty p w = true → s.inOrder p w.pkt (packetsOf w.data.length) → s.svcRegion p w = some r →
      (s.part p).regionKind r = 4 → s.svcRight p w 0 = true → s.ringWriteOk p r w = true →
      s.wordsApart p r w.va.toNat w.data.length → s.quiet →
      ∀ k, k = ringKey r (w.va.toNat / (s.part p).ringBytes r) → ∃ t,
      exec (.serviceRdmaWrite p w) s = .next t
    ∧ t.readRegion p r w.va.toNat w.data.length = w.data ∧ OnlyBytes (s.regionBytes p r w.va.toNat w.data.length) s t
    ∧ SMap.get 0 (t.part p).ringFp k
        = BitVec.ofNat 64 ((w.data.zipIdx).foldl (fun a e =>
            (a + fpTerm e.1.toNat (w.va.toNat % (s.part p).ringBytes r + e.2) ((s.part p).fpKey (0xFFFF00 + r))) % fpMod)
            (SMap.get 0 (s.part p).ringFp k).toNat)
    ∧ (t.part p).ringFull = (s.part p).ringFull ∧ (t.part p).fpEntries = (s.part p).fpEntries
    ∧ ((t.part p).qp (pktQpn w.pkt)).expPsn = w.pkt.psn + BitVec.ofNat 24 (packetsOf w.data.length) ∧ OnlyParts [p.val] s t)
  ∧ (∀ (p : Fin 4) w (s : State), s.svcParty p w = true → s.inOrder p w.pkt (packetsOf w.data.length) → s.svcRegion p w = none → ∃ t,
      exec (.serviceRdmaWrite p w) s = .next t
    ∧ (s.sends p (pktQpn w.pkt) → ∃ u, t.out.head? = some (.nak p u (BitVec.ofNat 24 (pktQpn w.pkt)) w.pkt.psn 2))
    ∧ Counted s t (0x90700B + 256 * p.val) 1 ∧ Counted s t (0x522006 + 256 * (pktPort w.pkt).val) 1
    ∧ ((t.part p).qp (pktQpn w.pkt)).expPsn = w.pkt.psn ∧ PartIs (t.part p) (s.part p) ∧ OnlyParts [p.val] s t ∧ t.hbm = s.hbm)
  ∧ (∀ (p : Fin 4) w r (imm : BitVec 32) n (s : State), s.svcParty p w = true → s.inOrder p w.pkt (packetsOf w.data.length) →
      s.svcRegion p w = some r → (s.part p).regionKind r = 4 → s.svcRight p w 0 = true → s.ringWriteOk p r w = true → w.data = [] →
      n = s.ringStep p r (w.va.toNat / (s.part p).ringBytes r) → imm.toNat = n % 2 ^ 32 →
      ∀ k, k = ringKey r (w.va.toNat / (s.part p).ringBytes r) → ∃ t,
      exec (.ringFillComplete p w imm) s = .next t
    ∧ SMap.get 0 (t.part p).ringFull k = BitVec.ofNat 64 n ∧ SMap.get 0 (t.part p).ringFp k = 0
    ∧ (t.part p).fpEntries = (s.part p).fpEntries ++
        [{ step := BitVec.ofNat 48 n, kind := 0, tensor := BitVec.ofNat 24 (0xFFFF00 + r), seq := BitVec.ofNat 64 n
           fp := SMap.get 0 (s.part p).ringFp k }]
    ∧ t.hbm = s.hbm ∧ OnlyParts [p.val] s t)
  ∧ (∀ (p : Fin 4) w r (imm : BitVec 32) n (s : State), s.svcParty p w = true → s.inOrder p w.pkt (packetsOf w.data.length) →
      s.svcRegion p w = some r → (s.part p).regionKind r = 4 → s.svcRight p w 0 = true → s.ringWriteOk p r w = true →
      n = s.ringStep p r (w.va.toNat / (s.part p).ringBytes r) → imm.toNat = n % 2 ^ 32 → ∃ t,
      exec (.ringFillComplete p w imm) s = .next t
    ∧ SMap.get 0 (t.part p).ringFull (ringKey r (w.va.toNat / (s.part p).ringBytes r)) = BitVec.ofNat 64 n
    ∧ (t.part p).fpEntries.length = (s.part p).fpEntries.length + 1 ∧ OnlyParts [p.val] s t)
  ∧ (∀ (p : Fin 4) w r (imm : BitVec 32) (s : State), s.svcParty p w = true → s.inOrder p w.pkt (packetsOf w.data.length) →
      s.svcRegion p w = some r → (s.part p).regionKind r = 4 →
      imm.toNat ≠ s.ringStep p r (w.va.toNat / Nat.max 1 ((s.part p).ringBytes r)) % 2 ^ 32 → ∃ t,
      exec (.ringFillComplete p w imm) s = .next t ∧ Counted s t (0x90700B + 256 * p.val) 1 ∧ PartIs (t.part p) (s.part p)
    ∧ OnlyParts [p.val] s t ∧ t.hbm = s.hbm)
  ∧ (∀ (p : Fin 4) w r (s : State), s.svcParty p w = true → s.inOrder p w.pkt 1 → s.svcRegion p w = some r →
      s.svcMayRead p r w = true → s.quiet → s.poisonIn p r w.va.toNat w.len.toNat = 0 → ∃ t,
      exec (.rdmaReadRequest p w) s = .next t
    ∧ (s.sends p (pktQpn w.pkt) → PostedLast t p (pktQpn w.pkt) w.pkt.psn (s.readRegion p r w.va.toNat w.len.toNat))
    ∧ ((t.part p).qp (pktQpn w.pkt)).expPsn = w.pkt.psn + BitVec.ofNat 24 (packetsOf w.len.toNat)
    ∧ t.hbm = s.hbm ∧ PartIs (t.part p) (s.part p) ∧ OnlyParts [p.val] s t)
  ∧ (∀ (p : Fin 4) w r (s : State), s.svcParty p w = true → s.inOrder p w.pkt 1 → s.svcRegion p w = some r →
      s.svcMayRead p r w = false → ∃ t,
      exec (.rdmaReadRequest p w) s = .next t ∧ Counted s t (0x90700B + 256 * p.val) 1 ∧ PartIs (t.part p) (s.part p)
    ∧ OnlyParts [p.val] s t ∧ t.hbm = s.hbm)

/-! ### Ports -/

/-- Port functions and training (10 R227 to R233): ENABLE starts the port, whose links all train at their nominal width;
an attempt whose lanes all trained brings the link up; otherwise the next narrower whole group is tried where fallback
is allowed, or the link stays down; STOP takes the links down, and the port is OFF when it has stopped; a link that
loses lock trains again. Neighbours and addresses (10 R235 to R238): the LLDPDU sent; the neighbour heard is shown
until its time to live ends, a change is counted, a second chassis since the link came up sets MULTI; gateways are asked for,
requests for own addresses are answered and answers recorded. PFC and PAUSE (10 R225, R226): a PFC frame of an enabled priority holds
its frames back and lets them go; one of another priority, and every PAUSE frame, is dropped and counted. That an expiry counts as a change
(log 59) and that what waits on a link that goes down is lost (log 60) are the model's. -/
def Obligations.PortsAndNeighbours : Prop :=
  (∀ (p : Fin 6) r (s : State), s.takes opWrite (reqByte r 1) → s.obj (portRef p 5) = 0 → s.trip = false → s.stepResult 2 = 2 → ∃ t,
      exec (.enablePort p r) s = .next t
    ∧ Served s t opWrite (reqAt (reqByte r 1) (portRef p 4)) 0 [] ∧ t.obj (portRef p 5) = 1 ∧ t.obj (portRef p 4) = 1 ∧ t.obj (portRef p 6) = 0
    ∧ (∀ k ∈ s.linksOf p, (t.link k).attempt = some (0, s.nominal p)) ∧ OnlyLinks (s.linksOf p) s t)
  ∧ (∀ (p : Fin 6) r (s : State), s.takes opWrite (reqByte r 0) → s.jobLoaded (s.portOwner p) = false
      → s.obj (portRef p 5) = 1 ∨ s.obj (portRef p 5) = 2 → ∃ t, exec (.stopPort p r) s = .next t
    ∧ Served s t opWrite (reqAt (reqByte r 0) (portRef p 4)) 0 [] ∧ t.obj (portRef p 5) = 3 ∧ t.obj (portRef p 4) = 0
    ∧ (∀ k ∈ s.linksOf p, t.linkUp k = false ∧ (t.link k).attempt = none ∧ (t.link k).waiting = []) ∧ OnlyLinks (s.linksOf p) s t)
  ∧ (∀ (p : Fin 6) (s : State), s.obj (portRef p 5) = 3 → ∃ t, exec (.functionStopComplete (.port p)) s = .next t
    ∧ t.obj (portRef p 5) = 0 ∧ OnlyObjs [portRef p 5] s t ∧ Only [.objects] s t)
  ∧ (∀ (k : Fin 48) lanes first w (s : State), (s.link k).attempt = some (first, w) → w ≤ lanes.length
      → (lanes.take w).all (fun r => r.step == 0) = true → ∃ t, exec (.trainingAttemptComplete k lanes) s = .next t
    ∧ t.obj (linkRef k 2) = w % 256 ∧ t.obj (linkRef k 3) = first % 256 ∧ t.linkUp k = true ∧ (t.link k).attempt = none
    ∧ OnlyWaits [k.val] s t)
  ∧ (∀ (k : Fin 48) lanes first w (good trained : List Nat) (s : State), (s.link k).attempt = some (first, w)
      → good = (List.range (lanes.take w).length).filter (fun i => ((lanes.take w)[i]?).any (fun r => r.step == 0)) → good.length ≠ w
      → trained = ((s.link k).trained.filter (fun l => decide (w ≠ s.nominal (k.val / 8)) && (decide (l < first) || decide (first + w ≤ l))))
          ++ good.map (fun i => first + i) → ∃ t, exec (.trainingAttemptComplete k lanes) s = .next t
    ∧ (t.link k).trained = trained
    ∧ (t.link k).attempt = (if s.obj (portRef (k.val / 8) 3) = 1 then fallback (s.nominal (k.val / 8)) trained (narrower w) else none)
    ∧ ((t.link k).attempt = none → t.linkUp k = false) ∧ OnlyLinks [k.val] s t)
  ∧ (∀ (k : Fin 48) (s : State), s.linkUp k = true → ∃ t, exec (.linkDown k) s = .next t
    ∧ t.linkUp k = false ∧ (t.link k).attempt = some (0, s.nominal (k.val / 8)) ∧ (t.link k).pauses = 0 ∧ (t.link k).waiting = []
    ∧ Counted s t (linkRef k 5) 1 ∧ OnlyWaits [k.val] s t)
  ∧ (∀ (k : Fin 48) (s : State), s.fwUp = true → s.linkOpen k 8 → (s.live 0x510001).testBit (k.val / 8) = true → ∃ t,
      exec (.lldpTransmit k) s = .next t
    ∧ t.out = .lldp k (s.lldpdu k) :: s.out ∧ OnlyWaits [] s t ∧ Only [.sent, .links, .queues, .loops] s t)
  ∧ (∀ (k : Fin 48) m chassis (s : State), s.fwUp = true → s.linkUp k = true → s.queueTakes (0x200 + 2 * (k.val / 8)) = true →
      chassis = leNat (fitBytes 32 m.chassis) → ∃ t, exec (.lldpReceive k m) s = .next t
    ∧ t.obj (neighbourRef k 1) = chassis ∧ t.obj (neighbourRef k 2) = leNat (fitBytes 32 m.port)
    ∧ t.obj (neighbourRef k 3) = leNat (fitBytes 64 m.name)
    ∧ t.link k = { s.link k with
        ttlUntil := some (s.ns + BitVec.ofNat 64 (m.ttl.toNat * 1000000000)), chassis := some ((s.link k).chassis.getD chassis) }
    ∧ OnlyLinks [k.val] s t
    ∧ t.obj (neighbourRef k 6) = (if (s.link k).chassis.getD chassis = chassis then s.obj (neighbourRef k 6) else 1)
    ∧ (if (s.link k).ttlUntil ≠ none ∧ s.obj (neighbourRef k 1) = chassis
          ∧ s.obj (neighbourRef k 2) = leNat (fitBytes 32 m.port) then t.obj (neighbourRef k 5) = s.obj (neighbourRef k 5)
        else Counted s t (neighbourRef k 5) 1))
  ∧ (∀ (k : Fin 48) (s : State) u, (s.link k).ttlUntil = some u → ∃ t, exec (.neighbourExpiry k) s = .next t
    ∧ t.obj (neighbourRef k 1) = 0 ∧ t.obj (neighbourRef k 2) = 0 ∧ t.obj (neighbourRef k 3) = 0
    ∧ t.link k = { s.link k with ttlUntil := none } ∧ Counted s t (neighbourRef k 5) 1
    ∧ u.toNat ≤ t.ns.toNat ∧ OnlyLinks [k.val] s t)
  ∧ (∀ (k : Fin 48) (s : State), s.linkUp k = true → ∃ t, exec (.gatewayResolve k) s = .next t
    ∧ (∀ a ∈ s.linkAddrs k 1, a.1 ∈ (t.link k).asked
        ∧ (s.linkOpen k 0 → Out.arp k.val (BitVec.ofNat 12 a.2) false a.1 (BitVec.ofNat 48 (s.baseMac + k)) ∈ t.out))
    ∧ OnlyLinks [k.val] s t ∧ OnlyObjs [0x804006] s t ∧ Only [.sent, .objects, .links, .queues, .loops] s t)
  ∧ (∀ (f : Frame) target sender mac a (s : State), s.linkUp f.k = true → s.frameBad f = false →
      s.queueTakes (0x200 + 2 * (f.k.val / 8)) = true → (s.linkAddrs f.k 0).find? (fun a => a.1 == addr16 target) = some a → ∃ t,
      exec (.arpNdReceive (.link f) (.request target sender mac)) s = .next t
    ∧ (s.linkOpen f.k 0 → t.out = .arp f.k (BitVec.ofNat 12 a.2) true target (BitVec.ofNat 48 (s.baseMac + f.k)) :: s.out)
    ∧ OnlyWaits [] s t ∧ OnlyObjs [0x804006] s t ∧ Only [.sent, .objects, .links, .queues, .loops] s t)
  ∧ (∀ (f : Frame) addr mac (s : State), s.linkUp f.k = true → s.frameBad f = false →
      s.queueTakes (0x200 + 2 * (f.k.val / 8)) = true → (s.link f.k).asked.contains (addr16 addr) = true → ∃ t,
      exec (.arpNdReceive (.link f) (.reply addr mac)) s = .next t
    ∧ t.link f.k = { s.link f.k with
        gateways := (addr16 addr, mac) :: (s.link f.k).gateways.filter (fun g => g.1 != addr16 addr)
        asked := (s.link f.k).asked.filter (fun g => g != addr16 addr) }
    ∧ OnlyLinks [f.k.val] s t ∧ Only [.links, .queues, .loops] s t)
  ∧ (∀ (k : Fin 48) (prio : Fin 8) xoff (s : State), s.linkUp k = true → (s.obj (portRef (k.val / 8) 7)).testBit prio.val = true → ∃ t,
      exec (.pfcReceive k prio xoff) s = .next t
    ∧ (∀ i : Fin 8, (t.link k).pauses.getLsbD i.val = if i = prio then xoff else (s.link k).pauses.getLsbD i.val)
    ∧ (xoff = true → t.out = s.out ∧ (t.link k).waiting = (s.link k).waiting)
    ∧ (xoff = false → s.queueTakes (0x201 + 2 * (k.val / 8)) = true →
        t.out = (((s.link k).waiting.filter (fun e => !(t.link k).pauses.getLsbD e.prio)).map (fun e => e.out)).reverse ++ s.out
        ∧ (t.link k).waiting = (s.link k).waiting.filter (fun e => (t.link k).pauses.getLsbD e.prio))
    ∧ (xoff = false → s.queueRoom (0x201 + 2 * (k.val / 8)) = false → t.out = s.out ∧ (t.link k).waiting = (s.link k).waiting)
    ∧ OnlyLinks [k.val] s t ∧ OnlyObjs movedObjs s t ∧ Only [.sent, .objects, .links, .queues, .loops] s t)
  ∧ (∀ (k : Fin 48) (prio : Fin 8) xoff (s : State), s.linkUp k = true → (s.obj (portRef (k.val / 8) 7)).testBit prio.val = false →
      exec (.pfcReceive k prio xoff) s = .next (s.rxDrop k))
  ∧ (∀ (k : Fin 48) (s : State), s.linkUp k = true → exec (.pauseFrame k) s = .next (s.rxDrop k))

/-- Greetings and the roll call (10 R240 to R243): a valid greeting is entered, and answered unless it is an answer; one
that contradicts the table puts the entry in MISMATCH and is counted; in a roll call every entry not confirmed is
greeted on every link that is up on which an association with it is installed; a roll call that runs out FAILS and the job halts. -/
def Obligations.GreetingsAndRollCall : Prop :=
  (∀ (p : Fin 4) h r g (s : State), s.hearsGreeting p h → s.greets p = true → r = h.qpn.toNat / 4 → r < (s.part p).ranks
      → greetingReserved g.toNat = false → s.greetingValid p r g.toNat = true → ∃ t, exec (.greetingReceive p h g) s = .next t
    ∧ (t.part p).peers = ((s.part p).heardFrom r g.toNat s.ns).peers
    ∧ (g.getLsbD 160 = false → s.linkOpen h.frame.k (s.pcpData h.frame.k) →
        ((s.part p).sa (2 * (4 * r + (s.part p).linkIndex h.frame.k))).key ≠ [] → ∃ w a, Out.greeting p.val r w a ∈ t.out
        ∧ w.link.toNat = h.frame.k.val ∧ w.port = 5120 ∧ a.getLsbD 160 = true) ∧ OnlyParts [p.val] s t)
  ∧ (∀ (p : Fin 4) h r g (s : State), s.hearsGreeting p h → s.greets p = true → r = h.qpn.toNat / 4 → r < (s.part p).ranks
      → greetingReserved g.toNat = false → s.greetingValid p r g.toNat = false → ∃ t, exec (.greetingReceive p h g) s = .next t
    ∧ ((t.part p).peer r) = { (s.part p).peer r with state := 5 } ∧ Counted s t (0x515004 + 256 * p.val) 1
    ∧ OnlyObjs [0x515004 + 256 * p.val] s t ∧ OnlyParts [p.val] s t ∧ Only [.objects, .parts, .queues, .loops] s t)
  ∧ (∀ (p : Fin 4) (s : State), s.rolling p = true → s.greets p = true → s.hubStopped p = false → ∃ t, exec (.greetingPeriod p) s = .next t
    ∧ (∀ r k, r < (s.part p).ranks → r ≠ (s.part p).rank → ((s.part p).peer r).state ∈ [2, 3, 5] → k ∈ (s.part p).ownLinks →
        s.linkOpen k (s.pcpData k) → ((s.part p).sa (2 * (4 * r + (s.part p).linkIndex k))).key ≠ [] →
        ∃ w a, Out.greeting p.val r w a ∈ t.out ∧ w.link.toNat = k ∧ w.port = 5120 ∧ a.getLsbD 160 = false)
    ∧ (∀ r, (∀ k ∈ (s.part p).ownLinks, ((s.part p).sa (2 * (4 * r + (s.part p).linkIndex k))).key = []) →
        ∀ w a, Out.greeting p.val r w a ∈ t.out → Out.greeting p.val r w a ∈ s.out)
    ∧ PartIs (t.part p) (s.part p) ∧ OnlyParts [p.val] s t ∧ OnlyObjs [0x804006] s t ∧ Only Area.posting s t)
  ∧ (∀ (p : Fin 4) (s : State), s.rolling p = true → (s.part p).rollNs.toNat + (s.part p).rollMs * 1000000 < 2 ^ 64 → ∃ t,
      exec (.rollCallTimeout p) s = .next t
    ∧ t.obj (0x515002 + 256 * p.val) = 3 ∧ t.jobState p = 7 ∧ t.exState p = 0 ∧ t.rolling p = false
    ∧ t.obj (0x907008 + 256 * p.val) = (if s.jobState p = 4 ∧ s.narrowLink p ≠ none then 6 else 0x0B)
    ∧ (s.part p).rollNs.toNat + (s.part p).rollMs * 1000000 ≤ t.ns.toNat ∧ OnlyParts [p.val] s t)

/-! ### Arithmetic -/

/-- R40: NaN and infinities convert as the table says, to every format, whatever the rounding, and are classified as
non-finite. -/
def Obligations.NonFiniteConversions : Prop :=
  (∀ u, [0, 1, 2, 3, 4, 5, 6, 7, 8].map (fun f => convertTo f .nan u)
      = [0x7FC00000, 0x7FC0, 0x7E00, 0x7F, 0x7E, 0, 0, 0, 0].map (fun c => (c, ConvClass.nonfinite)))
  ∧ (∀ u, [0, 1, 2, 3, 4, 5, 6, 7, 8].map (fun f => convertTo f (.inf false) u)
      = [0x7F800000, 0x7F80, 0x7C00, 0x7E, 0x7B, 0x1F, 0x1F, 0x7, 0x7F].map (fun c => (c, ConvClass.nonfinite)))
  ∧ (∀ u, [0, 1, 2, 3, 4, 5, 6, 7, 8].map (fun f => convertTo f (.inf true) u)
      = [0xFF800000, 0xFF80, 0xFC00, 0xFE, 0xFB, 0x3F, 0x3F, 0xF, 0x81].map (fun c => (c, ConvClass.nonfinite)))
  ∧ (∀ n u, toT32Elem .nan n u = (0, .nonfinite) ∧ toT32Elem (.inf false) n u = (0, .nonfinite)
      ∧ toT32Elem (.inf true) n u = (0, .nonfinite))

/-- R78: the special inputs of the five functions, and every NaN result is the canonical NaN. -/
def Obligations.TranscendentalSpecials : Prop :=
  (∀ p, p < 2 ^ 32 → val32 p = .nan →
    exp2Fn p = 0x7FC00000 ∧ log2Fn p = 0x7FC00000 ∧ rcpFn p = 0x7FC00000 ∧ rsqrtFn p = 0x7FC00000 ∧ tanhFn p = 0x7FC00000)
  ∧ (exp2Fn 0x7F800000 = 0x7F800000 ∧ log2Fn 0x7F800000 = 0x7F800000 ∧ rcpFn 0x7F800000 = 0 ∧ rsqrtFn 0x7F800000 = 0
    ∧ tanhFn 0x7F800000 = 0x3F800000)
  ∧ (exp2Fn 0xFF800000 = 0 ∧ log2Fn 0xFF800000 = 0x7FC00000 ∧ rcpFn 0xFF800000 = 0x80000000 ∧ rsqrtFn 0xFF800000 = 0x7FC00000
    ∧ tanhFn 0xFF800000 = 0xBF800000)
  ∧ (exp2Fn 0 = 0x3F800000 ∧ log2Fn 0 = 0xFF800000 ∧ rcpFn 0 = 0x7F800000 ∧ rsqrtFn 0 = 0x7F800000 ∧ tanhFn 0 = 0)
  ∧ (exp2Fn 0x80000000 = 0x3F800000 ∧ log2Fn 0x80000000 = 0xFF800000 ∧ rcpFn 0x80000000 = 0xFF800000
    ∧ rsqrtFn 0x80000000 = 0xFF800000 ∧ tanhFn 0x80000000 = 0x80000000)
  ∧ (∀ p n d e, p < 2 ^ 32 → val32 p = .fin true n d e → n ≠ 0 → log2Fn p = 0x7FC00000 ∧ rsqrtFn p = 0x7FC00000)
  ∧ (∀ f ∈ [exp2Fn, log2Fn, rcpFn, rsqrtFn, tanhFn], ∀ p, p < 2 ^ 32 → val32 (f p) = .nan → f p = 0x7FC00000)

/-! ### Looms -/

/-- Control descriptors (04 R86, R87; 03 R60): the loom goes on, waits for the units named, waits for the cycle named, or
ends; a late WAIT_CYCLE is counted; LOOP opens a loop and LOOP_END repeats or closes it. MATMUL and CHAIN issue to
their queues (03 R59, R60, R71; 04 R85, R86, R92, R97); a full queue makes the sequencer wait. -/
def Obligations.SequencerIssues : Prop :=
  (∀ l hit d (s : State), s.atHead l 1 d → harmless hit → dField d 35 32 ≠ 0 → ∃ t, exec (.wait l hit) s = .next t
    ∧ LoomBecomes s t l { (s.loom l).controlled ((s.loom l).seqIdx + 1)
        (if (s.loom l).unitsIdle (BitVec.ofNat 4 (dField d 35 32)) then .running else .waitUnits (BitVec.ofNat 4 (dField d 35 32))) with
        seqSince := s.ns })
  ∧ (∀ l hit d (s : State), s.atHead l 2 d → harmless hit → ∃ t, exec (.waitCycle l hit) s = .next t
    ∧ (dField d 63 32 < s.elapsed l.q → LoomBecomes s t l
        { (s.loom l).controlled ((s.loom l).seqIdx + 1) .running with lateWaits := (s.loom l).lateWaits + 1 })
    ∧ (dField d 63 32 = s.elapsed l.q → LoomBecomes s t l ((s.loom l).controlled ((s.loom l).seqIdx + 1) .running))
    ∧ (s.elapsed l.q < dField d 63 32 → LoomBecomes s t l
        { (s.loom l).controlled ((s.loom l).seqIdx + 1) (.waitCycle (BitVec.ofNat 64 (dField d 63 32))) with seqSince := s.ns }))
  ∧ (∀ l o (s : State), (s.loom l).seq = .waitCycle o → s.quadRuns l.q = true →
      o.toNat - s.elapsed l.q ≤ (s.quad l.q).room → ∃ t, exec (.waitCycleExpiry l) s = .next t
    ∧ t.loom l = { s.loom l with seq := .running } ∧ OnlyLooms [l] s t
    ∧ t.quad l.q = { s.quad l.q with count := (s.quad l.q).count + BitVec.ofNat 64 (o.toNat - s.elapsed l.q) }
    ∧ OnlyQuads [l.q.val] s t)
  ∧ (∀ l hit d (s : State), s.atHead l 3 d → harmless hit → dField d 47 32 ≠ 0 → (s.loom l).loops.length < 4 → ∃ t, exec (.loop l hit) s = .next t
    ∧ LoomBecomes s t l { (s.loom l).controlled ((s.loom l).seqIdx + 1) .running with
        loops := { body := (s.loom l).seqIdx + 1, left := dField d 47 32 - 1 } :: (s.loom l).loops })
  ∧ (∀ l hit d f r (s : State), s.atHead l 4 d → harmless hit → (s.loom l).loops = f :: r → ∃ t, exec (.loopEnd l hit) s = .next t
    ∧ (f.left = 0 → LoomBecomes s t l { (s.loom l).controlled ((s.loom l).seqIdx + 1) .running with loops := r })
    ∧ (f.left ≠ 0 → LoomBecomes s t l
        { (s.loom l).controlled f.body .running with loops := { f with left := f.left - 1 } :: r }))
  ∧ (∀ l hit d (s : State), s.atHead l 5 d → harmless hit → (s.loom l).loops = [] → (s.loom l).block = none → ∃ t, exec (.endProgram l hit) s = .next t
    ∧ LoomBecomes s t l { (s.loom l).controlled ((s.loom l).seqIdx + 1) .ended with seqSince := s.ns })
  ∧ (∀ l hit d (s : State), s.atHead l 0x10 d → harmless hit → (s.loom l).arrayQ.length < 4 → (s.loom l).mmCheck d = none → s.raceFree l → ∃ t,
      exec (.matmul l hit) s = .next t
    ∧ LoomBecomes s t l (((s.loom l).noteMatmul d).joins .array d s.ns (if dBit d 50 || dField d 35 32 = 0 then 1 else 0) false
        (mmReads d) (mmWrites d))
    ∧ OnlyObjs [0x801006] s t)
  ∧ (∀ l hit d (s : State), s.atHead l 0x40 d → harmless hit → (s.loom l).chainQ.length < 2 → (s.loom l).chainCheck d = none → s.raceFree l → ∃ t,
      exec (.chain l hit) s = .next t
    ∧ LoomBecomes s t l ((s.loom l).joins .chain d s.ns 0 false [] (chainWrites d)) ∧ OnlyObjs [0x801006] s t)
  ∧ (∀ c kind u, (c, kind, u) ∈ [(Instr.matmul, 0x10, UnitKind.array), (Instr.chain, 0x40, .chain), (Instr.add, 0x2001, .vector),
        (Instr.dmaToLocal, 0x3000, .dma), (Instr.dmaToHbm, 0x3001, .dma)] →
      ∀ l hit d (s : State), s.atHead l kind d → harmless hit → unitDepth u ≤ ((s.loom l).queue u).length → ∃ t, exec (c l hit) s = .next t
    ∧ Only Area.raising s t ∧ OnlyObjs raisedObjs s t ∧ (hit = none → t = s))

/-- A descriptor that the tables do not allow stops its loom where it stands, and the job of a partition that computes
halts (04 R87 to R89, R431; 07 R156): a MATMUL, a CHAIN, a DMA and every VECTOR code, a LOOP with COUNT zero or inside four others, a
LOOP_END or END where no loop or a block is open, and a head with a reserved kind or past the store. That such a head is rejected whichever
row is sent (log 22), that O_FMT T32 is whatever LAST says, and a D_FMT that differs from WIDE (log 41), that O_SCALE is checked where
nothing is converted (log 74), and a CHAIN whose WIDE and O_FMT differ (log 103), are the model's. -/
def Obligations.MistakesStopTheLoom : Prop :=
  Rejects .matmul 0x10 .array (fun s l d => ((s.loom l).mmCheck d).isSome)
  ∧ Rejects .chain 0x40 .chain (fun s l d => ((s.loom l).chainCheck d).isSome)
  ∧ Rejects .dmaToLocal 0x3000 .dma (fun s l d => (s.dmaCheck (s.loomPart l) 0 d).isSome)
  ∧ Rejects .dmaToHbm 0x3001 .dma (fun s l d => (s.dmaCheck (s.loomPart l) 1 d).isSome)
  ∧ Rejects .dmaTransposed 0x3002 .dma (fun s l d => (s.dmaCheck (s.loomPart l) 2 d).isSome)
  ∧ (∀ c vop, (c, vop) ∈ [(Instr.add, 0x01), (Instr.sub, 0x02), (Instr.mul, 0x03), (Instr.fma, 0x04), (Instr.min, 0x05),
        (Instr.max, 0x06), (Instr.abs, 0x07), (Instr.neg, 0x08), (Instr.cmplt, 0x09), (Instr.cmpeq, 0x0A), (Instr.sel, 0x0B),
        (Instr.cvt, 0x0C), (Instr.exp2, 0x10), (Instr.log2, 0x11), (Instr.rcp, 0x12), (Instr.rsqrt, 0x13), (Instr.tanh, 0x14),
        (Instr.rsum, 0x20), (Instr.rmin, 0x21), (Instr.rmax, 0x22), (Instr.wsum, 0x23), (Instr.wadd, 0x24), (Instr.toT32, 0x30),
        (Instr.toVote, 0x31)] →
      Rejects c (0x2000 + vop) .vector (fun s l d => ((s.loom l).vecCheck vop d).isSome))
  ∧ (∀ l hit d (s : State), s.atHead l 3 d → harmless hit → dField d 47 32 = 0 ∨ 4 ≤ (s.loom l).loops.length → ∃ t,
      exec (.loop l hit) s = .next t
      ∧ (t.loom l).seq = .stopped ∧ (t.loom l).seqIdx = (s.loom l).seqIdx ∧ (t.loom l).loops = (s.loom l).loops
      ∧ (s.exState (s.loomPart l) = 1 → t.jobState (s.loomPart l) = 7))
  ∧ (∀ l hit (s : State), s.seqRuns l = true → harmless hit → (s.loom l).seqIdx = 4096
        ∨ descKind (SMap.get 0 (s.loom l).store (s.loom l).seqIdx.toNat) = 0 → ∃ t,
      exec (.wait l hit) s = .next t
      ∧ (t.loom l).seq = .stopped ∧ (t.loom l).seqIdx = (s.loom l).seqIdx
      ∧ (s.exState (s.loomPart l) = 1 → t.jobState (s.loomPart l) = 7))
  ∧ (∀ l hit d (s : State), s.atHead l 4 d → harmless hit → (s.loom l).loops = [] → ∃ t,
      exec (.loopEnd l hit) s = .next t ∧ (t.loom l).seq = .stopped)
  ∧ (∀ l hit d (s : State), s.atHead l 5 d → harmless hit → ((s.loom l).loops ≠ [] ∨ (s.loom l).block ≠ none) → ∃ t,
      exec (.endProgram l hit) s = .next t ∧ (t.loom l).seq = .stopped)

/-- The lane operations of two and three sources (03 R75, R77): FP32 lanes, converted to the destination format. Compares
write masks, SEL chooses by the third source, CVT rounds once from the exact source value (03 R75; 02 R38, R51). The
five functions (03 R78, R79). Reductions, wide sums and wide additions (03 R74, R76; 05 R118). T32 elements and votes
of a chunk (02 R46, R50; 11 R267). That the issue writes the results (log 17), and the order of a wide sum's additions (log 76), are the
model's. -/
def Obligations.VectorOperations : Prop :=
  VectorWrites .add 0x01 (fun s l d => s.convertedBytes l d (laneOp2 add32 (s.loom l) d))
  ∧ VectorWrites .sub 0x02 (fun s l d => s.convertedBytes l d (laneOp2 sub32 (s.loom l) d))
  ∧ VectorWrites .mul 0x03 (fun s l d => s.convertedBytes l d (laneOp2 mul32 (s.loom l) d))
  ∧ VectorWrites .fma 0x04 (fun s l d => s.convertedBytes l d (laneFma (s.loom l) d))
  ∧ VectorWrites .min 0x05 (fun s l d => s.convertedBytes l d (laneOp2 min32 (s.loom l) d))
  ∧ VectorWrites .max 0x06 (fun s l d => s.convertedBytes l d (laneOp2 max32 (s.loom l) d))
  ∧ VectorWrites .abs 0x07 (fun s l d => s.convertedBytes l d (laneOp1 abs32 (s.loom l) d))
  ∧ VectorWrites .neg 0x08 (fun s l d => s.convertedBytes l d (laneOp1 neg32 (s.loom l) d))
  ∧ VectorWrites .cmplt 0x09 (fun s l d => packElems (vFmtD d) (laneMask Val.lt (s.loom l) d))
  ∧ VectorWrites .cmpeq 0x0A (fun s l d => packElems (vFmtD d) (laneMask Val.eqv (s.loom l) d))
  ∧ VectorWrites .sel 0x0B (fun s l d => s.convertedBytes l d (laneSel (s.loom l) d))
  ∧ VectorWrites .cvt 0x0C (fun s l d => s.convertedBytes l d ((s.loom l).sourceA d))
  ∧ VectorWrites .exp2 0x10 (fun s l d => s.convertedBytes l d (laneOp1 exp2Fn (s.loom l) d))
  ∧ VectorWrites .log2 0x11 (fun s l d => s.convertedBytes l d (laneOp1 log2Fn (s.loom l) d))
  ∧ VectorWrites .rcp 0x12 (fun s l d => s.convertedBytes l d (laneOp1 rcpFn (s.loom l) d))
  ∧ VectorWrites .rsqrt 0x13 (fun s l d => s.convertedBytes l d (laneOp1 rsqrtFn (s.loom l) d))
  ∧ VectorWrites .tanh 0x14 (fun s l d => s.convertedBytes l d (laneOp1 tanhFn (s.loom l) d))
  ∧ VectorWrites .rsum 0x20 (fun s l d => s.convertedBytes l d (laneSum (s.loom l) d))
  ∧ VectorWrites .rmin 0x21 (fun s l d => s.convertedBytes l d (laneFold min32 (s.loom l) d))
  ∧ VectorWrites .rmax 0x22 (fun s l d => s.convertedBytes l d (laneFold max32 (s.loom l) d))
  ∧ VectorWrites .wsum 0x23 (fun s l d => packElems 10 [(wideSum (s.loom l) d).slot])
  ∧ VectorWrites .wadd 0x24 (fun s l d => packElems 10 ((wideAdd (s.loom l) d).map A96.slot))
  ∧ VectorWrites .toT32 0x30 (fun s l d => packElems 9 ((s.t32Out l d).map (fun c => c.1.1)))
  ∧ VectorWrites .toVote 0x31 (fun s l d => packVotes ((s.voteOut l d).map (fun c => c.1.1)))

/-- Conversions feed the accumulator of the scale register that the descriptor names (06 R140, R141). An ADD that reads a
poisoned word is recorded, counted, and marks the job (03 R82; 09 R212). That conversions happen at issue (log 17), that a half line keeps
its mark until it is written (log 40), and what follows a descriptor that SECDED cannot correct (log 99; 04 R84), are the model's. -/
def Obligations.ConversionsAndPoisonAreCounted : Prop :=
  VectorCounts .cvt 0x0C (fun s l d => s.converted l d ((s.loom l).sourceA d))
  ∧ VectorCounts .fma 0x04 (fun s l d => s.converted l d (laneFma (s.loom l) d))
  ∧ VectorCounts .rsum 0x20 (fun s l d => s.converted l d (laneSum (s.loom l) d))
  ∧ VectorCounts .toT32 0x30 State.t32Out
  ∧ VectorCounts .toVote 0x31 State.voteOut
  ∧ (∀ l i d (s : State), s.atHead l 0x2001 d → i = BitVec.ofNat 12 (s.loom l).seqIdx.toNat → ∃ t,
      exec (.add l (some { word := .instructionStore i, ecc := .multi })) s = .next t
    ∧ (t.loom l).seq = .stopped ∧ (t.loom l).seqIdx = (s.loom l).seqIdx ∧ (t.loom l).mem = (s.loom l).mem
    ∧ ((s.part (s.loomPart l)).poisoned = false → s.jobLive (s.loomPart l) = true →
        (t.part (s.loomPart l)).poisoned = true ∧ Counted s t 0x400007 1))
  ∧ (∀ l hit d o (s : State), s.atHead l 0x2001 d → harmless hit → (s.loom l).vectorQ.length < 8 → (s.loom l).vecCheck 1 d = none →
    o = (s.loom l).vecPoison 1 d → firstOf o ≠ 0 → s.raceFree l → ∃ t, exec (.add l hit) s = .next t
    ∧ (∀ i h, o.getD i 0 ≠ 0 → h ∈ halfLines (64 * dField d 119 106 + (elemBytes (fmtWidth (vFmtD d)) i).1)
        ((elemBytes (fmtWidth (vFmtD d)) i).2 + 1 - (elemBytes (fmtWidth (vFmtD d)) i).1) → SMap.get 0 (t.loom l).poison h ≠ 0)
    ∧ ((s.part (s.loomPart l)).poisoned = false → s.jobLive (s.loomPart l) = true →
        (t.part (s.loomPart l)).poisoned = true ∧ Counted s t 0x400007 1
        ∧ (s.exState (s.loomPart l) ∈ [1, 4] → t.jobState (s.loomPart l) = 7))
    ∧ ((s.part (s.loomPart l)).poisoned = true → t.obj 0x400007 = s.obj 0x400007
        ∧ t.jobState (s.loomPart l) = s.jobState (s.loomPart l)))

/-- DMA (03 R81, R82; 04 R85, R95, R96): rows move between a region and local memory, or transposed into local memory; bytes
outside the rows stay. A read of a copy region waits until the copy of the step is written, then moves its rows and the sequencer
goes on (01 R17; 07 R164); a transfer whose stacks cannot be asked yet waits in its queue, and moves its rows before it completes
(08 R189; 09 R207). That rows move at issue (log 17), and that only reads of copy regions wait (log 65), are the model's. -/
def Obligations.DmaMovesRows : Prop :=
  (∀ l hit d (s : State), s.atHead l 0x3000 d → harmless hit → (s.loom l).dmaQ.length < 16 → s.dmaCheck (s.loomPart l) 0 d = none →
      (s.isCopyRegion (s.loomPart l) (mRegion d) = false ∨ (s.part (s.loomPart l)).copied = true) → s.raceFree l → s.quiet →
      s.dmaReady l 0 d = true → ∃ t, exec (.dmaToLocal l hit) s = .next t
    ∧ LoomBecomes s t l { (s.loom l).joins .dma d s.ns 3 false [] [dmaLines d] with mem := (t.loom l).mem, poison := (t.loom l).poison }
    ∧ (∀ i, i < mRows d → getBytes (t.loom l).mem (64 * (mLine d + i * mPitch d)) (mRowBytes d)
        = s.readRegion (s.loomPart l) (mRegion d) (dmaAt d i) (mRowBytes d))
    ∧ (∀ a, (∀ i, i < mRows d → a < 64 * (mLine d + i * mPitch d) ∨ 64 * (mLine d + i * mPitch d) + mRowBytes d ≤ a) →
        SMap.get 0 (t.loom l).mem a = SMap.get 0 (s.loom l).mem a)
    ∧ t.hbm = s.hbm)
  ∧ (∀ l hit d (s : State), s.atHead l 0x3001 d → harmless hit → (s.loom l).dmaQ.length < 16 → s.dmaCheck (s.loomPart l) 1 d = none →
      s.raceFree l → s.quiet → s.dmaReady l 1 d = true → ∃ t, exec (.dmaToHbm l hit) s = .next t
    ∧ LoomBecomes s t l ((s.loom l).joins .dma d s.ns 3 false [dmaLines d] [])
    ∧ t.hbm = (((List.range (mRows d)).map (fun i => (piecesOf (dmaAt d i) (mRowBytes d)).map (fun c => (i, c)))).flatten).foldl
        (fun m e =>
          let w := s.regionWord (s.loomPart l) (mRegion d) e.2.1
          putBytes m (hbmKey w.1 (64 * w.2 + e.2.1 % 64))
            (getBytes (s.loom l).mem (64 * (mLine d + e.1 * mPitch d) + (e.2.1 - dmaAt d e.1)) e.2.2)) s.hbm)
  ∧ (∀ l hit d (s : State), s.atHead l 0x3002 d → harmless hit → (s.loom l).dmaQ.length < 16 → s.dmaCheck (s.loomPart l) 2 d = none →
      (s.isCopyRegion (s.loomPart l) (mRegion d) = false ∨ (s.part (s.loomPart l)).copied = true) → s.raceFree l → s.quiet →
      s.dmaReady l 2 d = true → ∃ t, exec (.dmaTransposed l hit) s = .next t
    ∧ LoomBecomes s t l { (s.loom l).joins .dma d s.ns 3 false [] [dmaLines d] with mem := (t.loom l).mem, poison := (t.loom l).poison }
    ∧ (∀ k n, k < 64 → n < 64 → ((t.loom l).elems (mFmt d) (mLine d + k * mPitch d) 64).getD n 0
        = (unpackElems (mFmt d) 64 (s.readRegion (s.loomPart l) (mRegion d) (dmaAt d n) (mRowBytes d))).getD k 0)
    ∧ t.hbm = s.hbm)
  ∧ (∀ l hit d (s : State), s.atHead l 0x3000 d → harmless hit → (s.loom l).dmaQ.length < 16 → s.dmaCheck (s.loomPart l) 0 d = none →
      s.isCopyRegion (s.loomPart l) (mRegion d) = true → (s.part (s.loomPart l)).copied = false → s.raceFree l → ∃ t,
      exec (.dmaToLocal l hit) s = .next t
    ∧ LoomBecomes s t l ((s.loom l).joins .dma d s.ns 0 true [] [dmaLines d]))
  ∧ (∀ l e (s : State), (s.loom l).seq = .commitWait → s.quadRuns l.q = true → (s.part (s.loomPart l)).copied = true →
      (s.loom l).dmaQ.find? (fun e => e.waits) = some e → dField e.desc 35 32 = 0 → ceilDiv (mRowBytes e.desc) 64 ≤ mPitch e.desc →
      s.quiet → s.dmaReady l 0 e.desc = true → ∃ t, exec (.commitWaitEnd l) s = .next t
    ∧ (t.loom l).seq = (if dSync e.desc then .waitDesc e.nth else .running)
    ∧ (t.loom l).dmaQ = (s.loom l).dmaQ.map (fun o => if o.waits then { o with waits := false, phase := 3 } else o)
    ∧ (∀ i, i < mRows e.desc → getBytes (t.loom l).mem (64 * (mLine e.desc + i * mPitch e.desc)) (mRowBytes e.desc)
        = s.readRegion (s.loomPart l) (mRegion e.desc) (dmaAt e.desc i) (mRowBytes e.desc))
    ∧ OnlyLooms [l] s t)
  ∧ (∀ l hit d (s : State), s.atHead l 0x3000 d → harmless hit → (s.loom l).dmaQ.length < 16 → s.dmaCheck (s.loomPart l) 0 d = none →
      (s.isCopyRegion (s.loomPart l) (mRegion d) = false ∨ (s.part (s.loomPart l)).copied = true) → s.raceFree l →
      s.dmaReady l 0 d = false → ∃ t,
      exec (.dmaToLocal l hit) s = .next t
    ∧ LoomBecomes s t l ((s.loom l).joins .dma d s.ns 0 false [] [dmaLines d]) ∧ t.hbm = s.hbm)
  ∧ (∀ l (k : Fin 16) e (s : State), s.quadRuns l.q = true → (s.loom l).dmaQ[k.val]? = some e → e.phase = 0 → e.waits = false →
      dField e.desc 35 32 = 0 → ceilDiv (mRowBytes e.desc) 64 ≤ mPitch e.desc → s.quiet → s.dmaReady l 0 e.desc = true → ∃ t,
      exec (.descriptorComplete l .dma k) s = .next t
    ∧ (t.loom l).dmaQ = (s.loom l).dmaQ.erase e
    ∧ (∀ i, i < mRows e.desc → getBytes (t.loom l).mem (64 * (mLine e.desc + i * mPitch e.desc)) (mRowBytes e.desc)
        = s.readRegion (s.loomPart l) (mRegion e.desc) (dmaAt e.desc i) (mRowBytes e.desc))
    ∧ OnlyLooms [l] s t)

/-- A stationary preload fills the idle plane with the tile's elements (03 R59, R68). A tile pass adds its 4,096 sums to
the active set; the last pass of a block swaps the set to shadow, or the swap waits for the drain and the next pass waits for it (03 R58,
R60, R61, R64, R66, R70). A product of FP32 matrices writes 256 results (03 R69; 04 R92). The shadow set drains: 64 rows of 64 results reach
local memory, also under a chain of one position, the set is empty or takes the block that waited, and a verdict is owed, at a chain's hop
one on the block and one on the sums (03 R62, R65, R71; 04 R90, R93; 16 R383, R385). A word that SECDED cannot correct marks what reads it
(04 R99; 16 R388; log 99). The model's own are: that a pass makes its sums when it issues, and that the drain's results are there when it
completes (log 17); that the rows of a block swap together (log 122); that the 256 results of an FP32 product stand as one row from O_LINE,
value j with index O_INDEX + j, and O_STRIDE is not used (log 101: R69 and R92 do not say); what a REUSE between a paired and a narrow pass
of one W_FMT finds in the plane (log 75). -/
def Obligations.ArrayPasses : Prop :=
  (∀ l hit e (s : State), s.quadRuns l.q = true → nextPreload (s.loom l).arrayQ = some e → harmless hit → ∃ t,
    exec (.stationaryPreload l hit) s = .next t
    ∧ t.loom l = { s.loom l with idlePlane := (t.loom l).idlePlane, arrayQ := setPhase (fun o => o.phase == 0) 1 (s.loom l).arrayQ }
    ∧ (t.loom l).idlePlane.fmt = some (BitVec.ofNat 4 (dField e.desc 39 36))
    ∧ (∀ k n, k < (match mmPath (dField e.desc 35 32) (dField e.desc 39 36) with | some p => mmDepth p | none => 64) → n < 64 →
        SMap.get 0 (t.loom l).idlePlane.elems (64 * k + n)
          = ((s.loom l).elems (dField e.desc 39 36) (dField e.desc 155 142 + k * rowLines (dField e.desc 39 36) 64) 64).getD n 0)
    ∧ OnlyLooms [l] s t)
  ∧ (∀ l h e (s : State), s.quadRuns l.q = true → nextPreload (s.loom l).arrayQ = some e → halfIn (e.reads.drop 1) h = true → ∃ t,
    exec (.stationaryPreload l (some { word := .localMemory h, ecc := .multi })) s = .next t
    ∧ SMap.get 0 (t.loom l).poison h.toNat ≠ 0 ∧ (t.loom l).mem = (s.loom l).mem
    ∧ (t.loom l).arrayQ = setPhase (fun o => o.phase == 0) 1 (s.loom l).arrayQ ∧ OnlyLooms [l] s t)
  ∧ (∀ l r e (s : State), s.quadRuns l.q = true → nextPass (s.loom l).arrayQ = some e → dField e.desc 35 32 ≠ 0 →
      (s.loom l).tileWaits e = false → (s.loom l).shadowWaits e = false → ∃ t,
      exec (.tilePassIssue l (some { word := .activeSet r, ecc := .multi })) s = .next t
    ∧ ((s.part (s.loomPart l)).poisoned = true ∨ s.jobLive (s.loomPart l) = false →
        (t.loom l).plane = (if dBit e.desc 50 then (s.loom l).plane else (s.loom l).idlePlane))
    ∧ ((s.part (s.loomPart l)).poisoned = false → s.jobLive (s.loomPart l) = true →
        (t.part (s.loomPart l)).poisoned = true ∧ Counted s t 0x400007 1))
  ∧ (∀ l hit e (s : State), s.quadRuns l.q = true → nextPass (s.loom l).arrayQ = some e → harmless hit → dField e.desc 35 32 ≠ 0 →
      dBit e.desc 55 = false → (s.loom l).tileWaits e = false → (s.loom l).shadowWaits e = false →
      (if dBit e.desc 50 then (s.loom l).plane else (s.loom l).idlePlane).poison = 0 →
      (∀ m, m < 64 → (s.loom l).elemsPoison (dField e.desc 35 32) (dField e.desc 141 128 + m * rowLines (dField e.desc 35 32)
        (match mmPath (dField e.desc 35 32) (dField e.desc 39 36) with | some p => mmDepth p | none => 64))
        (match mmPath (dField e.desc 35 32) (dField e.desc 39 36) with | some p => mmDepth p | none => 64) = 0) → ∃ t,
      exec (.tilePassIssue l hit) s = .next t
    ∧ (∀ m n, m < 64 → n < 64 →
        SMap.get A96.zero (if dBit e.desc 49 && !(s.loom l).shadow.full then (t.loom l).shadow else (t.loom l).active).acc (64 * m + n)
          = (SMap.get A96.zero (s.loom l).active.acc (64 * m + n)).accumulate (frac0 (dField e.desc 35 32) (dField e.desc 39 36))
              (passSum e.desc (if dBit e.desc 50 then (s.loom l).plane else (s.loom l).idlePlane)
                (match mmPath (dField e.desc 35 32) (dField e.desc 39 36) with | some p => mmDepth p | none => 64)
                (s.streamRow l e.desc (match mmPath (dField e.desc 35 32) (dField e.desc 39 36) with | some p => mmDepth p | none => 64) m).1
                (s.streamRow l e.desc (match mmPath (dField e.desc 35 32) (dField e.desc 39 36) with | some p => mmDepth p | none => 64) m).2 n))
    ∧ (dBit e.desc 49 = true → (s.loom l).shadow.full = false →
        (t.loom l).active = .empty ∧ (t.loom l).shadow.full = true ∧ (t.loom l).shadow.desc = e.desc ∧ (t.loom l).swapDue = none)
    ∧ (dBit e.desc 49 = true → (s.loom l).shadow.full = true →
        (t.loom l).shadow = (s.loom l).shadow ∧ (t.loom l).swapDue = some e.desc)
    ∧ (dBit e.desc 49 = false → (t.loom l).shadow = (s.loom l).shadow ∧ (t.loom l).swapDue = (s.loom l).swapDue)
    ∧ (t.loom l).plane = (if dBit e.desc 50 then (s.loom l).plane else (s.loom l).idlePlane)
    ∧ (t.loom l).mem = (s.loom l).mem ∧ OnlyLooms [l] s t)
  ∧ (∀ l hit e c (s : State), s.quadRuns l.q = true → nextPass (s.loom l).arrayQ = some e → harmless hit → dField e.desc 35 32 ≠ 0 →
      dBit e.desc 49 = true → dBit e.desc 55 = true → (s.loom l).tileWaits e = false → (s.loom l).shadow.full = false →
      (s.loom l).shadowWaits e = false →
      (s.loom l).chainQ.find? (fun o => o.phase == 1) = some c → firstOf ((s.loom l).passOrigins e.desc
        (if dBit e.desc 50 then (s.loom l).plane else (s.loom l).idlePlane)
        (match mmPath (dField e.desc 35 32) (dField e.desc 39 36) with | some p => mmDepth p | none => 64)) = 0 → ∃ t,
      exec (.tilePassIssue l hit) s = .next t
    ∧ (t.loom l).role = some { desc := c.desc, since := (s.quad l.q).count, coming := [], held := [], passed := 0, out := [],
                               seen := [], poison := [] }
    ∧ (t.loom l).shadow.full = true ∧ (t.loom l).shadow.desc = e.desc ∧ (t.loom l).active = .empty
    ∧ (∀ i, i < 4096 → (SMap.get A96.zero (t.loom l).shadow.acc i).frac = BitVec.ofInt 8 ((s.loom l).blockFrac e.desc)
        ∨ SMap.get A96.zero (t.loom l).shadow.acc i = A96.zero)
    ∧ OnlyLooms [l] s t)
  ∧ (∀ l hit e (s : State), s.quadRuns l.q = true → nextPass (s.loom l).arrayQ = some e → harmless hit → dField e.desc 35 32 = 0 →
      (s.loom l).tileWaits e = false → (s.loom l).mmScaleOrigin e.desc = 0 →
      (∀ r ∈ mmReads e.desc, (s.loom l).poisonAt (64 * r.1) (64 * r.2) = 0) → ∃ t,
      exec (.tilePassIssue l hit) s = .next t
    ∧ (t.loom l).mem = putBytes (s.loom l).mem (64 * dField e.desc 169 156)
        (packElems (if dBit e.desc 51 then 10 else dField e.desc 43 40) ((List.range 256).map (fun j =>
          if dBit e.desc 51 then (s.fp32Dot l e.desc j).slot
          else (s.outElem l (mmOut e.desc) ((s.fp32Dot l e.desc j).val.scale 0) (dField e.desc 383 344 + j)).1)))
    ∧ (∃ v, (t.loom l).verdicts = (s.loom l).verdicts ++ [v] ∧ v.window = true ∧ v.missed = false ∧ v.hop = false
        ∧ v.tag = BitVec.ofNat 16 (dTag e.desc))
    ∧ OnlyLooms [l] s t)
  ∧ (∀ l r (s : State), s.quadRuns l.q = true → (s.loom l).shadow.full = true → dBit (s.loom l).shadow.desc 55 = false →
      dBit (s.loom l).shadow.desc 51 = false → (s.loom l).swapDue = none → ∃ t,
    exec (.shadowDrainComplete l (some { word := .shadowSet r, ecc := .multi })) s = .next t
    ∧ (t.loom l).shadow = .empty
    ∧ ((s.part (s.loomPart l)).poisoned = false → s.jobLive (s.loomPart l) = true →
        (t.part (s.loomPart l)).poisoned = true ∧ Counted s t 0x400007 1))
  ∧ (∀ l hit r (s : State), s.quadRuns l.q = true → (s.loom l).shadow.full = true → dBit (s.loom l).shadow.desc 55 = true →
      harmless hit → (s.loom l).role = some r → dField r.desc 37 32 ≠ 0 → 1024 ≤ r.passed → (s.loom l).swapDue = none →
      (s.loom l).scaleOrigin (dField r.desc 88 80) = 0 → ∃ t,
    exec (.shadowDrainComplete l hit) s = .next t
    ∧ (t.loom l).shadow = .empty ∧ (t.loom l).role = none
    ∧ (t.loom l).verdicts = (s.loom l).verdicts
        ++ [{ missed := false, hop := false, pos := 0, window := decide (dField (s.loom l).shadow.desc 35 32 = 1)
              tag := BitVec.ofNat 16 (dTag (s.loom l).shadow.desc), acc := (s.loom l).shadow.acc },
            { missed := (s.loom l).slotMissed, hop := true, pos := BitVec.ofNat 6 (dField r.desc 37 32), window := false
              tag := BitVec.ofNat 16 (dTag r.desc), acc := r.out }]
    ∧ (t.loom l).chainQ = setPhase (fun e => e.phase == 1) 3 (s.loom l).chainQ ∧ OnlyLooms [l] s t)
  ∧ (∀ l hit (s : State), s.quadRuns l.q = true → (s.loom l).shadow.full = true → dBit (s.loom l).shadow.desc 55 = false →
      harmless hit → (s.loom l).mmScaleOrigin (s.loom l).shadow.desc = 0 → ∃ t,
    exec (.shadowDrainComplete l hit) s = .next t
    ∧ ((s.loom l).swapDue = none → (t.loom l).shadow = .empty)
    ∧ (∀ d, (s.loom l).swapDue = some d → dBit d 55 = false →
        (t.loom l).shadow = { (s.loom l).active with full := true, desc := d } ∧ (t.loom l).active = .empty ∧ (t.loom l).swapDue = none)
    ∧ (t.loom l).verdicts = (s.loom l).verdicts
        ++ [{ missed := (s.loom l).slotMissed, hop := false, pos := 0, window := decide (dField (s.loom l).shadow.desc 35 32 = 1)
              tag := BitVec.ofNat 16 (dTag (s.loom l).shadow.desc), acc := (s.loom l).shadow.acc }]
    ∧ (t.loom l).arrayQ = setPhase (fun e => e.phase == 2) 3 (s.loom l).arrayQ
    ∧ (∀ m, m < 64 → ∀ d, d = (s.loom l).shadow.desc → ∀ f, f = (if dBit d 51 then 10 else dField d 43 40) →
        getBytes (t.loom l).mem (64 * (dField d 169 156 + m * rowLines f 64)) (packedBytes f 64)
          = packElems f ((List.range 64).map (fun n =>
              let a := SMap.get A96.zero (s.loom l).shadow.acc (64 * m + n)
              if dBit d 51 then ({ a with frac := BitVec.ofInt 8 ((s.loom l).blockFrac d) } : A96).slot
              else (s.outElem l (mmOut d)
                (({ a with frac := BitVec.ofInt 8 (frac0 (dField d 35 32) (dField d 39 36)) } : A96).val.scale ((s.loom l).operandExp d))
                (dField d 383 344 + m * dField d 455 432 + n)).1)))
    ∧ OnlyLooms [l] s t)
  ∧ (∀ l hit r (s : State), s.quadRuns l.q = true → (s.loom l).shadow.full = true → dBit (s.loom l).shadow.desc 55 = true →
      harmless hit → (s.loom l).role = some r → dField r.desc 37 32 = 0 → dField r.desc 45 40 = 0 → dBit r.desc 46 = false →
      (s.loom l).scaleOrigin (dField r.desc 88 80) = 0 → (s.loom l).swapDue = none → ∃ t, exec (.shadowDrainComplete l hit) s = .next t
    ∧ (t.loom l).role = none ∧ (t.loom l).shadow = .empty
    ∧ (∀ m, m < 64 → ∀ d, d = (s.loom l).shadow.desc → ∀ f, f = dField r.desc 51 48 →
        getBytes (t.loom l).mem (64 * (dField r.desc 102 89 + m * rowLines f 64)) (packedBytes f 64)
          = packElems f ((List.range 64).map (fun n =>
              (s.outElem l (chainOut r.desc)
                (({ SMap.get A96.zero (s.loom l).shadow.acc (64 * m + n) with
                    frac := BitVec.ofInt 8 (frac0 (dField d 35 32) (dField d 39 36)) } : A96).val.scale ((s.loom l).operandExp d))
                (dField r.desc 191 152 + m * dField r.desc 215 192 + n)).1)))
    ∧ OnlyLooms [l] s t)

/-- A verdict is counted; one that fails while the assay is enabled is counted as a failure of its kind, names its loom,
and aborts the step of a partition that computes (03 R63; 16 R382 to R387). The oldest chain word of its
stream adds four sums to the loom's own at its place (03 R71 to R73); one that the loom cannot take is a slot miss (04 R103, R104). A unit that finishes its oldest
descriptor frees the entry; a store to HBM owes its report; a sequencer that waits for units goes on when they are
idle (04 R86; 11 R269). A lane check that fails while no verdict is owed fails the step too, and after the step's abort leaves its record
only (16 R386, R402). That an event which cannot be leaves the state as it is (log 22), the place of a verdict's upset (log 42), and the code
0x0201 of a verdict that fails in the array because two sets of flags disagree (log 104: R385 and R392 do not say), are the model's. -/
def Obligations.VerdictsChainsAndCompletions : Prop :=
  (∀ l v r (s : State), s.quadRuns l.q = true → (s.loom l).verdicts = v :: r → v.missed = false → ∃ t, exec (.assayVerdict l none) s = .next t
    ∧ t.loom l = { s.loom l with verdicts := r } ∧ OnlyLooms [l] s t
    ∧ t.obj 0x702003 = (s.obj 0x702003 + 1) % 256 ^ objSize 0x702003 ∧ OnlyObjs [0x702003] s t)
  ∧ (∀ l u v r (s : State), s.quadRuns l.q = true → (s.loom l).verdicts = v :: r → (s.obj 0x702001).testBit (s.loomPart l) = true →
      upsetSeen v u = true → ∃ t, exec (.assayVerdict l (some u)) s = .next t
    ∧ t.obj 0x702007 = s.loomNo l % 256 ^ objSize 0x702007
    ∧ (if (upsetLane u).isSome then Counted s t 0x702005 1 else Counted s t 0x702004 1)
    ∧ (upsetLane u = none → ∃ e ∈ t.log, field e.bits.toNat 15 0 = (if v.hop then 0x0202 else 0x0201)
        ∧ field e.bits.toNat 63 48 = v.tag.toNat)
    ∧ (s.exState (s.loomPart l) = 1 → (t.part (s.loomPart l)).aborted = true
        ∧ t.obj (0x521005 + 256 * s.loomPart l) = 1))
  ∧ (∀ l u e (s : State), s.quadRuns l.q = true → (s.loom l).verdicts = [] → (s.obj 0x702001).testBit (s.loomPart l) = true →
      upsetLane u = some e → (s.part (s.loomPart l)).inStep = true ∨ s.exState (s.loomPart l) = 4 → ∃ t,
      exec (.assayVerdict l (some u)) s = .next t
    ∧ Counted s t 0x702005 1 ∧ (s.exState (s.loomPart l) = 4 → t.parts = s.parts) ∧ (s.exState (s.loomPart l) = 1 → (t.part (s.loomPart l)).aborted = true))
  ∧ (∀ l v r (s : State), s.quadRuns l.q = true → (s.loom l).verdicts = v :: r → (s.obj 0x702001).testBit (s.loomPart l) = true → v.missed = true → ∃ t,
      exec (.assayVerdict l none) s = .next t
    ∧ t.obj 0x702004 = (s.obj 0x702004 + 1) % 256 ^ objSize 0x702004
    ∧ (s.exState (s.loomPart l) = 1 → (t.part (s.loomPart l)).aborted = true))
  ∧ (∀ (l : LoomId) (i : Fin 1024) w rx r hit (s : State), s.quadRuns l.q = true → harmless hit →
      (s.loom l).rxBuf.find? (fun x => decide (x.stream.toNat = sideStream w)) = some rx → rx.word = w → rx.place = BitVec.ofFin i →
      rx.since ≤ (s.quad l.q).count → (s.loom l).role = some r → dField r.desc 37 32 ≠ 0 → dField r.desc 71 64 = sideStream w → (s.loom l).shadow.full = true →
      r.since ≤ rx.since → sidePoison w = false → SMap.get 0 (s.loom l).shadow.poison (i.val / 16) = 0 → ∃ t r2,
      exec (.chainWordArrival l i w hit) s = .next t ∧ (t.loom l).role = some r2
    ∧ (∀ j, j < 4 → SMap.get A96.zero r2.out (4 * i.val + j)
        = (A96.ofSlot (w.payload.toNat / 2 ^ (128 * j) % 2 ^ 128)).add
            { SMap.get A96.zero (s.loom l).shadow.acc (4 * i.val + j) with
              frac := BitVec.ofInt 8 ((s.loom l).blockFrac (s.loom l).shadow.desc) })
    ∧ (∀ k, (k < 4 * i.val ∨ 4 * i.val + 4 ≤ k) → SMap.get A96.zero r2.out k = SMap.get A96.zero r.out k)
    ∧ SMap.get false r2.seen i = true ∧ r2.held = (promote (s.quad l.q).count r.held r.coming).1
    ∧ (r.outStream = none → r2.passed = r.passed + 1
        ∧ r2.coming = r.coming.filter (fun y => decide ((s.quad l.q).count < y.ready)))
    ∧ (∀ out, r.outStream = some out → r2.passed = r.passed
        ∧ r2.coming = r.coming.filter (fun y => decide ((s.quad l.q).count < y.ready)) ++
            [{ idx := i, ready := rx.since + 12,
               word := FWordSeal (((s.loom l).hopSums i w).foldr (fun e a => e.2.slot + a * 2 ^ 128) 0) out }])
    ∧ (t.loom l).rxBuf = (s.loom l).rxBuf.erase rx ∧ OnlyLooms [l] s t)
  ∧ (∀ (l : LoomId) (i : Fin 1024) w rx hit (s : State), s.quadRuns l.q = true →
      (s.loom l).rxBuf.find? (fun x => decide (x.stream.toNat = sideStream w)) = some rx → rx.word = w → rx.place = BitVec.ofFin i →
      rx.since ≤ (s.quad l.q).count → (∀ r, (s.loom l).role = some r → dField r.desc 37 32 = 0 ∨ dField r.desc 71 64 ≠ sideStream w
        ∨ (s.loom l).shadow.full = false ∨ rx.since < r.since) → ∃ t,
      exec (.chainWordArrival l i w hit) s = .next t
    ∧ t.loom l = { s.loom l with rxBuf := (s.loom l).rxBuf.erase rx, slotMissed := true, firstWord := (t.loom l).firstWord }
    ∧ ((s.loom l).role = none → (t.loom l).firstWord = some ((s.loom l).firstWord.getD rx.since))
    ∧ Counted s t (0x30F006 + 0x10000 * l.q.val) 1 ∧ OnlyLooms [l] s t)
  ∧ (∀ l u (k : Fin 16) e (s : State), s.quadRuns l.q = true → (s.loom l).finishing u k = some e → e.phase = 3 → e.waits = false → ∃ t,
      exec (.descriptorComplete l u k) s = .next t
    ∧ (t.loom l).queue u = ((s.loom l).queue u).erase e
    ∧ (t.loom l).stores = (if dOp e.desc = 0x30 ∧ dField e.desc 35 32 = 1 then
        (s.loom l).stores ++ [BitVec.ofNat 16 (dTag e.desc)] else (s.loom l).stores)
    ∧ (∀ m, (s.loom l).seq = .waitUnits m → (t.loom l).seq =
        if ((s.loom l).setQueue u (((s.loom l).queue u).erase e)).unitsIdle m then .running else .waitUnits m)
    ∧ (∀ n, (s.loom l).seq = .waitDesc n → (t.loom l).seq = if n = e.nth then .running else .waitDesc n)
    ∧ ((∀ m, (s.loom l).seq ≠ .waitUnits m) → (∀ n, (s.loom l).seq ≠ .waitDesc n) → (t.loom l).seq = (s.loom l).seq)
    ∧ (padsOn e.desc = true → s.padded (s.loomPart l) = true → Counted s t 0x220008 1)
    ∧ (t.loom l).mem = (s.loom l).mem ∧ OnlyLooms [l] s t)
  ∧ (∀ l u (k : Fin 16) e (s : State), (s.loom l).finishing u k = some e → (e.waits = true ∨ (u ≠ .dma ∧ e.phase ≠ 3)) →
      exec (.descriptorComplete l u k) s = .next s)

/-! ### Fabric, queues and stacks -/

/-- A slotted word leaves by the output that owns it in its slot, towards the next router, its loom or the bridge, and a loom's own
chain word leaves the same way (03 R71, R72; 08 R177, R178, R183, R184); one whose CRC fails is discarded and counted, and so is one
that no output names in its slot, or whose slot table cannot be read: the looms that it would have reached meet a slot miss (08 R176,
R179; 04 R104; an unreadable entry: log 68). A credited word goes one router on its way in dimension order, in a slot that no stream
owns, the inputs taking turns, into a bridge's or a stack's queue or to its loom; one whose CRC fails is resent from the replay buffer
(08 R176, R181, R183). An observation word uses the reserved slots; one whose CRC fails is lost and counted (08 R182). The way of a
credited word to another quadrant or to an HBM node (log 12), its place in the replay buffer (log 39), and where a lost observation word is
counted (log 95), are the model's. -/
def Obligations.FabricWords : Prop :=
  (∀ (q : Fin 4) (r : Fin 20) (c : Fin 25) (o : Fin 6) noise w (s : State), s.quadRuns q = true →
      (s.quad q).slottedAt r c (s.slotNow q) = [w] → crcOk w.word = true → w.input ≠ 0 →
      (∀ x, (s.loom (routerOf q r c)).role = some x → x.coming = []) →
      (∀ u, u < 6 → u ≠ o.val → entryStream (s.slotEntry (routerOf q r c) u (s.slotNow q)) = 255) →
      entryStream (s.slotEntry (routerOf q r c) o (s.slotNow q)) = sideStream w.word → sideStream w.word ≠ 255 →
      entryIn (s.slotEntry (routerOf q r c) o (s.slotNow q)) = w.input.toNat → s.outUsed (routerOf q r c) o = false → ∃ t,
      exec (.slotForward q r c .clean noise) s = .next t
    ∧ (t.quad q).used = SMap.set 0 (s.quad q).used (rotationKey (routerOf q r c) o) ((s.quad q).count.toNat + 1)
    ∧ (o = 0 → LoomBecomes s t (routerOf q r c) { s.loom (routerOf q r c) with
          rxBuf := (s.loom (routerOf q r c)).rxBuf ++
            [{ stream := BitVec.ofNat 8 (sideStream w.word), word := w.word, since := (s.quad q).count + 2, place := w.place }] }
        ∧ (t.quad q).words = (s.quad q).words.filter (fun x => x != w) ∧ OnlyObjs [] s t)
    ∧ (∀ r2 c2 i, neighbour (s.runCols q) r c o = some (r2, c2, i) → OnlyLooms [] s t
        ∧ (t.quad q).words = (s.quad q).words.filter (fun x => x != w) ++ [{
            r := Fin.ofNat 20 r2, c := Fin.ofNat 25 c2, input := BitVec.ofNat 3 i, slot := BitVec.ofNat 8 (s.slotNow q + 3),
            tag := 0, word := noisy w.word noise, place := w.place }] ∧ OnlyObjs [] s t)
    ∧ (∀ m, o = 5 → s.hubDest q (bridgeOf q r) ((s.slotNow q + 3) % 256) = some m → s.partOfQuad (m / 4) = s.partOfQuad q →
        s.queueTakes (2 * bridgeOf q r) = true →
        (t.quad q).words = (s.quad q).words.filter (fun x => x != w)
        ∧ SMap.get [] t.bridgeAir m = SMap.get [] s.bridgeAir m ++
            [if crcOk (noisy w.word noise) then FWordSend w.word ((s.quad q).count.toNat + 3)
             else { FWordSend w.word ((s.quad q).count.toNat + 3) with payload := (noisy w.word noise).payload }])
    ∧ OnlyQuads [q.val] s t)
  ∧ (∀ (q : Fin 4) (r : Fin 20) (c : Fin 25) (o : Fin 6) noise w place x stream (s : State), s.quadRuns q = true →
      (s.quad q).slottedAt r c (s.slotNow q) = [] →
      (∀ y, (s.loom (routerOf q r c)).role = some y → y.coming = []) →
      (∀ u, u < 6 → u ≠ o.val → entryStream (s.slotEntry (routerOf q r c) u (s.slotNow q)) = 255) →
      entryStream (s.slotEntry (routerOf q r c) o (s.slotNow q)) = stream → stream ≠ 255 →
      entryIn (s.slotEntry (routerOf q r c) o (s.slotNow q)) = 0 → s.outUsed (routerOf q r c) o = false →
      (s.loom (routerOf q r c)).readyWord stream (s.quad q).count = some (w, place, x) →
      ∀ r2 c2 i, neighbour (s.runCols q) r c o = some (r2, c2, i) → ∃ t, exec (.slotForward q r c .clean noise) s = .next t
    ∧ LoomBecomes s t (routerOf q r c) x
    ∧ (t.quad q).words = (s.quad q).words ++ [{
        r := Fin.ofNat 20 r2, c := Fin.ofNat 25 c2, input := BitVec.ofNat 3 i, slot := BitVec.ofNat 8 (s.slotNow q + 3),
        tag := 0, word := noisy w noise, place := place }]
    ∧ OnlyQuads [q.val] s t ∧ OnlyObjs [] s t)
  ∧ (∀ (q : Fin 4) (r : Fin 20) (c : Fin 25) noise w (s : State), s.quadRuns q = true →
      (s.quad q).slottedAt r c (s.slotNow q) = [w] → crcOk w.word = false →
      (∀ u, u < 6 → entryStream (s.slotEntry (routerOf q r c) u (s.slotNow q)) = 255) → ∃ t,
      exec (.slotForward q r c .clean noise) s = .next t
    ∧ t.quad q = { s.quad q with words := (s.quad q).words.filter (fun x => x != w) }
    ∧ (∀ d ∈ streamLooms s.slotEntry (s.hubDest q) (s.runCols q) (sideStream w.word) (q.val, r.val, c.val, w.input.toNat),
        (t.loom d).slotMissed = true)
    ∧ Counted s t (0x30F007 + 0x10000 * q.val) 1)
  ∧ (∀ (q : Fin 4) (r : Fin 20) (c : Fin 25) ecc noise w (s : State), s.quadRuns q = true →
      (s.quad q).slottedAt r c (s.slotNow q) = [w] → crcOk w.word = true →
      (ecc = .multi ∨ ∀ u, u < 6 → entryStream (s.slotEntry (routerOf q r c) u (s.slotNow q)) = 255) → ∃ t,
      exec (.slotForward q r c ecc noise) s = .next t
    ∧ t.quad q = { s.quad q with words := (s.quad q).words.filter (fun x => x != w) }
    ∧ (∀ d ∈ streamLooms s.slotEntry (s.hubDest q) (s.runCols q) (sideStream w.word) (q.val, r.val, c.val, w.input.toNat),
        (t.loom d).slotMissed = true)
    ∧ Counted s t (0x30F005 + 0x10000 * q.val) 1)
  ∧ (∀ (q : Fin 4) (r : Fin 20) (c : Fin 25) (o : Fin 6) noise w l (s : State), l = routerOf q r c → s.quadRuns q = true →
      s.creditedSlot l o (s.slotNow q) = true → s.outUsed l o = false →
      nextInRotation (SMap.get 0 (s.quad q).rotation (rotationKey l o))
        (((s.quad q).wordsAt 1 r c).filter (fun x => s.creditedRoute q r c x.word == o.val)) = some w →
      (crcOk w.word = true → ∀ r2 c2 i k, neighbour (s.runCols q) r c o = some (r2, c2, i) →
        s.creditedMayLeave l (s.creditedWay l o w.word) = true → k = inputKey r2 c2 i → ∃ t,
        exec (.creditedForward q r c o noise) s = .next t
        ∧ t.quad q = { s.quad q with
            used := SMap.set 0 (s.quad q).used (rotationKey l o) ((s.quad q).count.toNat + 1)
            rotation := SMap.set 0 (s.quad q).rotation (rotationKey l o) w.input.toNat
            sent := SMap.set 0 (s.quad q).sent k ((SMap.get 0 (s.quad q).sent k + 1) % 8)
            replay := SMap.set { payload := 0, side := 0 } (s.quad q).replay (8 * k + SMap.get 0 (s.quad q).sent k) w.word
            words := (s.quad q).words.erase w ++ [{
              r := Fin.ofNat 20 r2, c := Fin.ofNat 25 c2, input := BitVec.ofNat 3 i, slot := 0
              tag := BitVec.ofNat 3 (SMap.get 0 (s.quad q).sent k), word := noisy w.word noise }] }
        ∧ (slotReserved (s.slotNow q) = false → OnlyObjs [] s t)
        ∧ (slotReserved (s.slotNow q) = true → Counted s t (0x30F009 + 0x10000 * q.val) 1) ∧ OnlyQuads [q.val] s t)
      ∧ (crcOk w.word = true → o = 0 → ∃ t, exec (.creditedForward q r c o noise) s = .next t
        ∧ t.out = .creditedWord l w.word :: s.out
        ∧ (t.quad q).words = (s.quad q).words.erase w ∧ OnlyQuads [q.val] s t)
      ∧ (crcOk w.word = true → crcOk (noisy w.word noise) = true → ∀ n, (o = 5 ∧ n = 2 * bridgeOf q r ∨
            o = 3 ∧ r = 19 ∧ n = 0x100 + 2 * (5 * q.val + destCol w.word % 5)) →
          s.creditedMayLeave l (s.creditedWay l o w.word) = true →
          (s.dcq n).flushing = false → (s.dcq n).cut = false → (s.dcq n).items.length < queueDepth n → ∃ t,
        exec (.creditedForward q r c o noise) s = .next t
        ∧ (t.dcq n).items = (s.dcq n).items ++ [wordItem (noisy w.word noise)] ∧ OnlyQueues [n] s t
        ∧ (t.quad q).words = (s.quad q).words.erase w ∧ OnlyQuads [q.val] s t)
      ∧ (crcOk w.word = false → ∃ t, exec (.creditedForward q r c o noise) s = .next t
        ∧ t.quad q = { s.quad q with words := (s.quad q).words.erase w ++ [{ w with word := (s.quad q).original w }] }
        ∧ Counted s t (0x30F008 + 0x10000 * q.val) 1))
  ∧ (∀ (q : Fin 4) (r : Fin 20) (c : Fin 25) noise l o (s : State), l = routerOf q r c → o = s.observationRoute q r c →
      s.quadRuns q = true → slotReserved (s.slotNow q) = true → s.outUsed l o = false →
      (∀ w x, (s.quad q).wordsAt 2 r c = w :: x →
        (crcOk w.word = false → ∃ t, exec (.observationForward q r c noise) s = .next t
          ∧ t.quad q = { s.quad q with words := (s.quad q).words.erase w }
          ∧ (t.dcq (0x400 + q.val)).lost = (s.dcq (0x400 + q.val)).lost + 1 ∧ Counted s t 0x804004 1)
        ∧ (crcOk w.word = true → ∀ r2 c2 i, neighbour (s.runCols q) r c o = some (r2, c2, i) → ∃ t,
          exec (.observationForward q r c noise) s = .next t
          ∧ t.quad q = { s.quad q with
              used := SMap.set 0 (s.quad q).used (rotationKey l o) ((s.quad q).count.toNat + 1)
              words := (s.quad q).words.erase w ++ [{
                r := Fin.ofNat 20 r2, c := Fin.ofNat 25 c2, input := BitVec.ofNat 3 i, slot := BitVec.ofNat 8 (s.slotNow q + 3)
                tag := 0, word := noisy w.word noise }] }
          ∧ OnlyQuads [q.val] s t ∧ OnlyObjs [] s t)
        ∧ (crcOk w.word = true → crcOk (noisy w.word noise) = true → o = 5 → (s.dcq (0x400 + q.val)).flushing = false →
            (s.dcq (0x400 + q.val)).cut = false → (s.dcq (0x400 + q.val)).items.length < 256 → ∃ t,
          exec (.observationForward q r c noise) s = .next t
          ∧ (t.quad q).words = (s.quad q).words.erase w
          ∧ (t.dcq (0x400 + q.val)).items = (s.dcq (0x400 + q.val)).items ++
              [{ wordItem w.word with payload := (noisy w.word noise).payload.toNat, endp := true }]))
      ∧ (∀ w x, (s.quad q).wordsAt 2 r c = [] → (s.loom l).observation = some (w, x) →
          ∀ r2 c2 i, neighbour (s.runCols q) r c o = some (r2, c2, i) → ∃ t, exec (.observationForward q r c noise) s = .next t
        ∧ t.loom l = x ∧ OnlyLooms [l] s t
        ∧ (t.quad q).words = (s.quad q).words ++ [{
            r := Fin.ofNat 20 r2, c := Fin.ofNat 25 c2, input := BitVec.ofNat 3 i, slot := BitVec.ofNat 8 (s.slotNow q + 3)
            tag := 0, word := noisy w noise }]))

/-- A bridge holds arriving slotted words up to 32 until the quadrant's count is SEND + 48, and then they enter the mesh
at the bridge node; a late word, or one that finds the buffer full, is a slip; one whose CRC fails is discarded and
counted (08 R176, R184, R185, R188). A damaged word stands for the oldest on its way (the model's: log 91). The sender regains the
credits that the freed count has advanced by, and a requester that waits for a stack's credit is then granted it (08 R189; 09 R207). That a
stack's credits go back to their oldest holders, and that a count which would return more than is owed changes nothing, are the model's (log
22). -/
def Obligations.BridgesAndCredits : Prop :=
  (∀ (n : Fin 16) w (s : State), s.pwrok = true → s.trip = false → w ∈ SMap.get [] s.bridgeAir n.val → crcOk w = true →
      s.queueTakes (2 * n.val + 1) = true → (SMap.get [] s.bridgeBufs n.val).length < 32 →
      untilCount (s.quad (n.val / 4)).count.toNat (sideSend w + 48) < 2 ^ 15 → ∃ t, exec (.bridgeArrival n w) s = .next t
    ∧ SMap.get [] t.bridgeBufs n.val = SMap.get [] s.bridgeBufs n.val ++ [w]
    ∧ SMap.get [] t.bridgeAir n.val = (SMap.get [] s.bridgeAir n.val).erase w
    ∧ (∀ m, m ≠ n.val → SMap.get [] t.bridgeBufs m = SMap.get [] s.bridgeBufs m) ∧ OnlyObjs [] s t)
  ∧ (∀ (n : Fin 16) w (s : State), s.pwrok = true → s.trip = false → w ∈ SMap.get [] s.bridgeAir n.val → crcOk w = true →
      s.queueTakes (2 * n.val + 1) = true →
      (32 ≤ (SMap.get [] s.bridgeBufs n.val).length ∨ 2 ^ 15 ≤ untilCount (s.quad (n.val / 4)).count.toNat (sideSend w + 48)) → ∃ t,
      exec (.bridgeArrival n w) s = .next t
    ∧ Counted s t (0x30F004 + 0x10000 * (n.val / 4)) 1 ∧ t.bridgeBufs = s.bridgeBufs
    ∧ SMap.get [] t.bridgeAir n.val = (SMap.get [] s.bridgeAir n.val).erase w
    ∧ (s.exState (s.partOfQuad (n.val / 4)) = 1 → (t.part (s.partOfQuad (n.val / 4))).aborted = true))
  ∧ (∀ (n : Fin 16) w a (s : State), s.pwrok = true → s.trip = false → crcOk w = false → s.queueTakes (2 * n.val + 1) = true →
      (if (SMap.get [] s.bridgeAir n.val).contains w then some w else (SMap.get [] s.bridgeAir n.val).head?) = some a → ∃ t,
      exec (.bridgeArrival n w) s = .next t
    ∧ Counted s t (0x30F007 + 0x10000 * (n.val / 4)) 1 ∧ t.bridgeBufs = s.bridgeBufs
    ∧ SMap.get [] t.bridgeAir n.val = (SMap.get [] s.bridgeAir n.val).erase a
    ∧ (∀ d ∈ streamLooms s.slotEntry (s.hubDest (n.val / 4)) (s.runCols (n.val / 4)) (sideStream a)
        (bridgeInput (s.runCols (n.val / 4)) n.val), (t.loom d).slotMissed = true))
  ∧ (∀ (n : Fin 16) w (s : State), w ∉ SMap.get [] s.bridgeAir n.val → (crcOk w = true ∨ SMap.get [] s.bridgeAir n.val = []) →
      exec (.bridgeArrival n w) s = .next s)
  ∧ (∀ (n : Fin 16) (s : State), s.quadRuns (n.val / 4) = true → ∃ t, exec (.bridgeRelease n) s = .next t
    ∧ SMap.get [] t.bridgeBufs n.val = (SMap.get [] s.bridgeBufs n.val).filter
        (fun w => untilCount (s.quad (n.val / 4)).count.toNat (sideSend w + 48) != 0)
    ∧ (t.quad (n.val / 4)).words = (s.quad (n.val / 4)).words ++ ((SMap.get [] s.bridgeBufs n.val).filter
        (fun w => untilCount (s.quad (n.val / 4)).count.toNat (sideSend w + 48) == 0)).map (fun w =>
          {
            r := Fin.ofNat 20 (5 * (n.val % 4) + 2), c := Fin.ofNat 25 (s.runCols (n.val / 4) - 1), input := 5,
            slot := BitVec.ofNat 8 (s.slotNow (n.val / 4) + 3), tag := 0, word := w })
    ∧ OnlyQuads [n.val / 4] s t)
  ∧ (∀ (n : Fin 16) (s : State), s.quadRuns (n.val / 4) = false → exec (.bridgeRelease n) s = .next s)
  ∧ (∀ (i f n : BitVec 32) (s : State), s.pwrok = true → s.trip = false → i.toNat / 2 ^ 24 ∉ [5, 6, 8] → n = f - (s.cloop i.toNat).lastFreed →
      n ≤ (s.cloop i.toNat).returned → (i.toNat / 2 ^ 24 = 1 ∨ i.toNat / 2 ^ 24 = 7 →
        (s.stack (i.toNat % 2 ^ 16)).asking = [] ∧ (s.stack (i.toNat % 2 ^ 16)).waiting = []) → ∃ t, exec (.creditReturn i f) s = .next t
    ∧ t.cloop i.toNat = { s.cloop i.toNat with
        returned := (s.cloop i.toNat).returned - n, held := (s.cloop i.toNat).held + n, lastFreed := f }
    ∧ (i.toNat / 2 ^ 24 = 1 → (t.stack (i.toNat % 2 ^ 16)).owners = (s.stack (i.toNat % 2 ^ 16)).owners.drop n.toNat)
    ∧ OnlyLoops [i.toNat] s t ∧ OnlyObjs [] s t)
  ∧ (∀ (k : Fin 20) (i f n : BitVec 32) r c (s u : State), s.pwrok = true → s.serves k = true → i.toNat = loopId 1 (s.partOfStack k) k →
      c = s.cloop i.toNat → n = f - c.lastFreed → n ≤ c.returned → (s.stack k).asking = [r] → (s.stack k).waiting = [] →
      r.write = none → r.ecc = .clean →
      u = (s.setCloop i.toNat { c with returned := c.returned - n, held := c.held + n, lastFreed := f }).setStack k
        { s.stack k with owners := (s.stack k).owners.drop n.toNat } → u.mayRequest k r = true → ∃ t, exec (.creditReturn i f) s = .next t
    ∧ (t.stack k).asking = [] ∧ (t.stack k).waiting = [] ∧ (t.stack k).owners = (s.stack k).owners.drop n.toNat ++ [r.who]
    ∧ t.out.head? = some (.hbmWord k (halfOf r.half (s.wordData k r.word.toNat)) (s.poisoned k r.word.toNat)) ∧ t.hbm = s.hbm)
  ∧ (∀ (i f : BitVec 32) (s : State), s.pwrok = true → s.trip = false → i.toNat / 2 ^ 24 = 8 →
      f - (s.cloop i.toNat).lastFreed ≤ (s.cloop i.toNat).returned - (s.cloop i.toNat).lastFreed → ∃ t,
      exec (.creditReturn i f) s = .next t
    ∧ t.cloop i.toNat = { s.cloop i.toNat with lastFreed := f } ∧ OnlyLoops [i.toNat] s t ∧ OnlyObjs [] s t)
  ∧ (∀ (i f : BitVec 32) (s : State), i.toNat / 2 ^ 24 ≠ 8 → (s.cloop i.toNat).returned < f - (s.cloop i.toNat).lastFreed →
      exec (.creditReturn i f) s = .next s)

/-- R193: a read from an empty queue returns an item with NV set, payload zero and the other sidebands zero; it moves no
pointer and counts nothing. EMPTY is what the synchronised write pointer shows: items that it hides are not read (R191). -/
def Obligations.EmptyQueueReads : Prop :=
  (∀ (q : BitVec 16) ecc lag (s : State), s.queueSide q.toNat true = true → queueDepth q.toNat ≠ 0 → (s.dcq q.toNat).items = [] →
    exec (.queuePop q ecc lag) s = .next { s with
      out := .item q.toNat { payload := 0, endp := false, poison := false, nv := true, gap := false } :: s.out })
  ∧ (∀ (q : BitVec 16) ecc (lag : BitVec 8) (s : State), s.queueSide q.toNat true = true → queueDepth q.toNat ≠ 0 → (s.dcq q.toNat).items ≠ [] →
    (s.dcq q.toNat).items.length ≤ Nat.min (s.dcq q.toNat).unseen lag.toNat → ∃ t, exec (.queuePop q ecc lag) s = .next t
    ∧ t.out = .item q.toNat { payload := 0, endp := false, poison := false, nv := true, gap := false } :: s.out
    ∧ t.dcq q.toNat = { s.dcq q.toNat with unseen := Nat.min (s.dcq q.toNat).unseen lag.toNat }
    ∧ OnlyQueues [q.toNat] s t ∧ OnlyObjs [] s t)

/-- A push is never refused (08 R191, R192): the item joins the queue, NV clear (R190) and on an observation queue END set (R197), or
overwrites the oldest item, which is counted as lost;
under FLUSH it is dropped and counted (R196); a loss on a credited path is a violation of its loop (R136, R197). A
read takes the oldest item with GAP where items were lost before it, corrects a single-bit error, poisons a multi-bit
one, and counts both (08 R192, R195). A credited word that reaches the hub goes to the bridge of its quadrant, and one that
reaches the quadrant enters its mesh at the bridge node, with the poison that the check set (08 R183, R195). FLUSH empties the queue
and counts what it held; reads return NV and pushes are dropped until it ends (08 R196). The bridge that the hub sends a credited word to is
the model's (log 12). -/
def Obligations.QueuePushesAndPops : Prop :=
  (∀ (q : BitVec 16) i (lag : BitVec 8) (s : State), s.queueSide q.toNat false = true → (s.dcq q.toNat).items.length < queueDepth q.toNat →
      (s.dcq q.toNat).flushing = false → (s.dcq q.toNat).cut = false → ∃ t, exec (.queuePush q i lag) s = .next t
    ∧ t.dcq q.toNat = { s.dcq q.toNat with
        items := (s.dcq q.toNat).items ++ [storedItem q.toNat i], pushed := (s.dcq q.toNat).pushed + 1,
        inPacket := !(storedItem q.toNat i).endp, wptr := ((s.dcq q.toNat).wptr + 1) % (2 * queueDepth q.toNat)
        unseen := (s.dcq q.toNat).unseen + 1, unfreed := Nat.min (s.dcq q.toNat).unfreed lag.toNat }
    ∧ OnlyQueues [q.toNat] s t ∧ OnlyObjs [] s t
    ∧ (queueObserves q.toNat = false → t.cloop (s.queueLoop q.toNat) = { s.cloop (s.queueLoop q.toNat) with
        issued := (s.cloop (s.queueLoop q.toNat)).issued + 1, inFlight := (s.cloop (s.queueLoop q.toNat)).inFlight + 1 }))
  ∧ (∀ (q : BitVec 16) i (lag : BitVec 8) (s : State), s.queueSide q.toNat false = true → queueObserves q.toNat = true → queueDepth q.toNat ≠ 0 →
      queueDepth q.toNat ≤ (s.dcq q.toNat).items.length → (s.dcq q.toNat).flushing = false → (s.dcq q.toNat).cut = false → ∃ t,
      exec (.queuePush q i lag) s = .next t
    ∧ t.dcq q.toNat = { s.dcq q.toNat with
        items := (s.dcq q.toNat).items.drop 1 ++ [{ i with nv := false, endp := true }], pushed := (s.dcq q.toNat).pushed + 1,
        lost := (s.dcq q.toNat).lost + 1, gapOwed := true, inPacket := false,
        wptr := ((s.dcq q.toNat).wptr + 1) % (2 * queueDepth q.toNat), rptr := ((s.dcq q.toNat).rptr + 1) % (2 * queueDepth q.toNat)
        unseen := Nat.min (queueDepth q.toNat) ((s.dcq q.toNat).unseen + 1)
        unfreed := Nat.min (s.dcq q.toNat).unfreed lag.toNat
        ghosts := (s.dcq q.toNat).ghosts + (match (s.dcq q.toNat).items with | x :: _ => if x.endp then 1 else 0 | [] => 0) }
    ∧ OnlyQueues [q.toNat] s t ∧ Counted s t 0x804004 1 ∧ OnlyObjs [0x804004] s t)
  ∧ (∀ (q : BitVec 16) i lag (s : State), s.queueSide q.toNat false = true → queueObserves q.toNat = false → queueDepth q.toNat ≠ 0 →
      queueDepth q.toNat ≤ (s.dcq q.toNat).items.length → (s.dcq q.toNat).flushing = false → (s.dcq q.toNat).cut = false → ∃ t,
      exec (.queuePush q i lag) s = .next t
    ∧ (t.dcq q.toNat).lost = (s.dcq q.toNat).lost + 1 ∧ (t.dcq q.toNat).gapOwed = true
    ∧ Counted s t 0x804003 1 ∧ t.obj 0x804005 = q.toNat % 256 ^ objSize 0x804005 ∧ Counted s t 0x704003 1
    ∧ (t.part (s.queueHome q.toNat)).violated = true)
  ∧ (∀ (q : BitVec 16) i (lag : BitVec 8) (s : State), s.queueSide q.toNat false = true → queueDepth q.toNat ≠ 0 → (s.dcq q.toNat).flushing = true → ∃ t,
      exec (.queuePush q i lag) s = .next t
    ∧ (t.dcq q.toNat).items = (s.dcq q.toNat).items
    ∧ (queueObserves q.toNat = true → t.dcq q.toNat = { s.dcq q.toNat with
          pushed := (s.dcq q.toNat).pushed + 1, flushed := (s.dcq q.toNat).flushed + 1, inPacket := false, cut := false
          unfreed := Nat.min (s.dcq q.toNat).unfreed lag.toNat } ∧ Counted s t 0x804006 1)
    ∧ (queueObserves q.toNat = false → (s.dcq q.toNat).flushed < (t.dcq q.toNat).flushed
        ∧ (t.part (s.queueHome q.toNat)).violated = true ∧ Counted s t 0x704003 1))
  ∧ (∀ (q : BitVec 16) ecc (lag : BitVec 8) i r (s : State), s.queueSide q.toNat true = true → queueDepth q.toNat ≠ 0 → 0x20 ≤ q.toNat →
      (s.dcq q.toNat).items = i :: r → Nat.min (s.dcq q.toNat).unseen lag.toNat ≤ r.length → (s.dcq q.toNat).flushing = false →
      s.noneWaits q.toNat → ∃ t,
      exec (.queuePop q ecc lag) s = .next t
    ∧ (ecc = .clean ∨ q.toNat ∉ raisedQueues → t.dcq q.toNat = { s.dcq q.toNat with
        items := r, popped := (s.dcq q.toNat).popped + 1, gapOwed := false,
        rptr := ((s.dcq q.toNat).rptr + 1) % (2 * queueDepth q.toNat),
        corrected := if ecc = .single then satInc (s.dcq q.toNat).corrected else (s.dcq q.toNat).corrected,
        poisoned := if ecc = .multi then satInc (s.dcq q.toNat).poisoned else (s.dcq q.toNat).poisoned
        unseen := Nat.min (s.dcq q.toNat).unseen lag.toNat, unfreed := (s.dcq q.toNat).unfreed + 1, ghosts := 0 })
    ∧ (.item q.toNat { i with gap := (s.dcq q.toNat).gapOwed, poison := i.poison || decide (ecc = .multi) }) ∈ t.out
    ∧ (ecc = .single → Counted s t 0x804001 1) ∧ (ecc = .multi → Counted s t 0x804002 1)
    ∧ OnlyQueues (q.toNat :: raisedQueues) s t ∧ (ecc = .clean → OnlyQueues [q.toNat] s t))
  ∧ (∀ (q : BitVec 16) (lag : BitVec 8) i r (s : State), s.queueSide q.toNat true = true → q.toNat < 0x20 → q.toNat % 2 = 1 →
      (s.dcq q.toNat).items = i :: r → Nat.min (s.dcq q.toNat).unseen lag.toNat ≤ r.length → (s.dcq q.toNat).flushing = false →
      sideClass (natFWord i.payload) = 1 → ∀ row, row = 5 * (q.toNat / 2 % 4) + 2 → ∃ t, exec (.queuePop q .clean lag) s = .next t
    ∧ (t.dcq q.toNat).items = r
    ∧ (t.quad (q.toNat / 8)).words = (s.quad (q.toNat / 8)).words ++ [{
        r := Fin.ofNat 20 row, c := Fin.ofNat 25 (s.runCols (q.toNat / 8) - 1), input := 5, slot := 0,
        tag := BitVec.ofNat 3 (SMap.get 0 (s.quad (q.toNat / 8)).sent (inputKey row (s.runCols (q.toNat / 8) - 1) 5)),
        word := FWordTag (natFWord i.payload) i.poison }])
  ∧ (∀ (q : BitVec 16) (lag : BitVec 8) i r w m (s : State), s.queueSide q.toNat true = true → q.toNat < 0x20 → q.toNat % 2 = 0 →
      (s.dcq q.toNat).items = i :: r → Nat.min (s.dcq q.toNat).unseen lag.toNat ≤ r.length → (s.dcq q.toNat).flushing = false →
      w = natFWord i.payload → sideClass w = 1 → s.hubTakes q.toNat i = true →
      s.partOfQuad (destQuad w) = s.partOfQuad (q.toNat / 8) → m = 2 * hubTarget (q.toNat / 2) w + 1 →
      (s.dcq m).items.length < 64 → (s.dcq m).flushing = false → (s.dcq m).cut = false → ∃ t, exec (.queuePop q .clean lag) s = .next t
    ∧ (t.dcq q.toNat).items = r ∧ (t.dcq m).items = (s.dcq m).items ++ [wordItem (FWordTag w i.poison)])
  ∧ (∀ (q : BitVec 16) (s : State), s.pwrok = true → s.trip = false → queueDepth q.toNat ≠ 0 → (s.dcq q.toNat).flushing = false → ∃ t,
      exec (.flush q) s = .next t
    ∧ (t.dcq q.toNat).items = [] ∧ (t.dcq q.toNat).flushing = true ∧ (t.dcq q.toNat).rptr = (s.dcq q.toNat).wptr
    ∧ (t.dcq q.toNat).wptr = (s.dcq q.toNat).wptr
    ∧ (queueObserves q.toNat = true → (t.dcq q.toNat).flushed = (s.dcq q.toNat).flushed + (s.dcq q.toNat).items.length
        ∧ Counted s t 0x804006 (s.dcq q.toNat).items.length)
    ∧ (queueObserves q.toNat = false → (s.dcq q.toNat).items ≠ [] →
        (t.part (s.queueHome q.toNat)).violated = true ∧ Counted s t 0x704003 1))
  ∧ (∀ (q : BitVec 16) (s : State), s.pwrok = true → s.trip = false → (s.dcq q.toNat).flushing = true → s.noneWaits q.toNat → ∃ t,
      exec (.flushEnd q) s = .next t
    ∧ t.dcq q.toNat = { s.dcq q.toNat with flushing := false } ∧ OnlyQueues [q.toNat] s t)
  ∧ (∀ (q : BitVec 16) ecc lag (s : State), s.queueSide q.toNat true = true → queueDepth q.toNat ≠ 0 → (s.dcq q.toNat).flushing = true → ∃ t,
      exec (.queuePop q ecc lag) s = .next t
    ∧ t.out = .item q.toNat { payload := 0, endp := false, poison := false, nv := true, gap := false } :: s.out
    ∧ (t.dcq q.toNat).items = (s.dcq q.toNat).items ∧ OnlyQueues [q.toNat] s t ∧ OnlyObjs [] s t)

/-- A controller that serves delivers the word or the half asked for with its check's result, and writes the whole word or one
half; a whole write clears a poison mark, a partial one keeps it and is counted (09 R201, R206, R209 to R211). A request spends a
credit, comes back when it is served, and waits while its requester holds none, or its controller stands still (09 R207, R220). One of a loom
or an update engine of another partition goes nowhere and is recorded (01 R24; what the record holds is the model's: log 126). A word that
SECDED cannot correct is rewritten, 64 bytes that count (09 R210, R217). Refresh and write-backs go first
(09 R208). An uncorrectable error in a request buffer is an uncontained fault, or starts a zero-fill again (09 R213, R220).
Write-back, scrub and refresh (09 R209, R216, R220): a corrected word is written back once; a scrub counts what it finds and the pass
it ends; a refresh changes nothing that a program could read. Each second the temperature moves the throttle level by one and sets the
refresh mode, with their hysteresis (09 R215). The second uncorrectable error of a row queues its repair (09, the text after R214); which
words a row holds is the model's (log 11). -/
def Obligations.StackWords : Prop :=
  (∀ (k : Fin 20) (w : BitVec 30) half who ecc (s : State), s.pwrok = true → s.ownStack who k = true → s.serves k = true → (s.stack k).waiting = [] → (s.stack k).asking = [] →
      ecc ≠ .buffer → s.mayRequest k { who := who, word := w, half := half, write := none, ecc := ecc } = true → ∃ t,
      exec (.hbmRead k w half who ecc) s = .next t
    ∧ t.out.head? = some (.hbmWord k (halfOf half (s.wordData k w.toNat)) (s.poisoned k w.toNat || decide (ecc = .multi)))
    ∧ (t.stack k).bytesNow = (s.stack k).bytesNow
        + 64 * ((s.stack k).writeBacks.length + (if s.poisoned k w.toNat = false ∧ ecc = .multi then 2 else 1))
    ∧ (t.stack k).waiting = [] ∧ (t.stack k).refreshDue = false ∧ (t.stack k).owners = (s.stack k).owners ++ [who]
    ∧ (t.cloop (loopId 1 (s.partOfStack k) k)).held = (s.cloop (loopId 1 (s.partOfStack k) k)).held - 1
    ∧ (t.cloop (loopId 1 (s.partOfStack k) k)).returned = (s.cloop (loopId 1 (s.partOfStack k) k)).returned + 1
    ∧ t.hbm = s.hbm ∧ OnlyStacks [k.val] s t
    ∧ (s.poisoned k w.toNat = true → Counted s t (0x401009 + 256 * k.val) 1)
    ∧ (s.poisoned k w.toNat = false → ecc = .clean → t.poisoned k w.toNat = false ∧ OnlyObjs [0x220008] s t)
    ∧ (s.poisoned k w.toNat = false → ecc = .onDie → Counted s t (0x401006 + 256 * k.val) 1)
    ∧ (s.poisoned k w.toNat = false → ecc = .single → w.toNat ∈ (t.stack k).writeBacks ∧ Counted s t (0x401007 + 256 * k.val) 1)
    ∧ (s.poisoned k w.toNat = false → ecc = .multi → t.poisoned k w.toNat = true ∧ Counted s t (0x401008 + 256 * k.val) 1
        ∧ (SMap.get 0 (s.stack k).badRows (wordRow w.toNat) = 1 →
            t.flash.repairs = s.flash.repairs ++ [(k.val, w.toNat / 2 ^ 24, wordRow w.toNat)])))
  ∧ (∀ (k : Fin 20) (w : BitVec 30) half who (s : State), s.pwrok = true → s.ownStack who k = true → s.serves k = true → (s.stack k).zeroFilling = false → ∃ t,
      exec (.hbmRead k w half who .buffer) s = .next t ∧ Counted s t 0x400008 1 ∧ t.jobState (s.partOfStack k) = 0)
  ∧ (∀ (k : Fin 20) (w : BitVec 30) half who (s : State), s.pwrok = true → s.ownStack who k = true → s.serves k = true → (s.stack k).zeroFilling = true → ∃ t,
      exec (.hbmRead k w half who .buffer) s = .next t
    ∧ (∀ o, o < 2 ^ 36 → SMap.get 0 t.hbm (hbmKey k o) = 0)
    ∧ (∀ j o, j ≠ k.val → o < 2 ^ 36 → SMap.get 0 t.hbm (hbmKey j o) = SMap.get 0 s.hbm (hbmKey j o)) ∧ OnlyObjs [] s t)
  ∧ (∀ (k : Fin 20) (w : BitVec 30) half who ecc r (s : State), s.pwrok = true → s.trip = false → s.ownStack who k = true → ecc ≠ .buffer →
      (s.stack k).waiting = [] → (s.stack k).asking = [] → r = { who := who, word := w, half := half, write := none, ecc := ecc } →
      s.mayRequest k r = false → ∃ t, exec (.hbmRead k w half who ecc) s = .next t
    ∧ (t.stack k).asking = [r] ∧ (t.stack k).waiting = [] ∧ (t.stack k).owners = (s.stack k).owners ∧ t.out = s.out ∧ t.hbm = s.hbm
    ∧ OnlyStacks [k.val] s t ∧ OnlyLoops [] s t ∧ OnlyObjs [] s t)
  ∧ (∀ (k : Fin 20) (w : BitVec 30) half who ecc r (s : State), s.pwrok = true → s.trip = false → s.ownStack who k = true → ecc ≠ .buffer →
      (s.stack k).asking = [] → r = { who := who, word := w, half := half, write := none, ecc := ecc } →
      s.mayRequest k r = true → s.serves k = false → ∃ t, exec (.hbmRead k w half who ecc) s = .next t
    ∧ (t.stack k).asking = [] ∧ (t.stack k).waiting = (s.stack k).waiting ++ [r] ∧ (t.stack k).owners = (s.stack k).owners ++ [who]
    ∧ t.out = s.out ∧ t.hbm = s.hbm ∧ OnlyStacks [k.val] s t ∧ OnlyObjs [] s t)
  ∧ (∀ (k : Fin 20) (w : BitVec 30) h data poison who (s : State), s.pwrok = true → s.ownStack who k = true → s.serves k = true → (s.stack k).waiting = [] →
      (s.stack k).asking = [] → s.mayRequest k { who := who, word := w, half := h, write := some (data, poison), ecc := .clean } = true → ∃ t,
      exec (.hbmWrite k w h data poison who) s = .next t
    ∧ (match h with
      | none => getBytes t.hbm (hbmKey k (64 * w.toNat)) 64 = leBytes 64 data.toNat ∧ t.poisoned k w.toNat = poison ∧ OnlyObjs [] s t
      | some false => getBytes t.hbm (hbmKey k (64 * w.toNat)) 32 = (leBytes 64 data.toNat).take 32
          ∧ t.poisoned k w.toNat = (poison || s.poisoned k w.toNat) ∧ Counted s t (0x40100A + 256 * k.val) 1
      | some true => getBytes t.hbm (hbmKey k (64 * w.toNat + 32)) 32 = (leBytes 64 data.toNat).drop 32
          ∧ t.poisoned k w.toNat = (poison || s.poisoned k w.toNat) ∧ Counted s t (0x40100A + 256 * k.val) 1)
    ∧ OnlyBytes (fun a => match h with
        | none => hbmKey k (64 * w.toNat) ≤ a ∧ a < hbmKey k (64 * w.toNat) + 64
        | some false => hbmKey k (64 * w.toNat) ≤ a ∧ a < hbmKey k (64 * w.toNat) + 32
        | some true => hbmKey k (64 * w.toNat) + 32 ≤ a ∧ a < hbmKey k (64 * w.toNat) + 64) s t
    ∧ (t.stack k).writeBacks = [] ∧ OnlyStacks [k.val] s t
    ∧ (t.cloop (loopId 1 (s.partOfStack k) k)).held = (s.cloop (loopId 1 (s.partOfStack k) k)).held - 1
    ∧ (t.cloop (loopId 7 (s.partOfStack k) k)).held = (s.cloop (loopId 7 (s.partOfStack k) k)).held - 1
    ∧ (∀ j x, (j, x) ≠ (k.val, w.toNat) → j < 20 → x < 2 ^ 30 → t.poisoned j x = s.poisoned j x))
  ∧ (∀ (k : Fin 20) (w : BitVec 30) h data poison who r (s : State), s.pwrok = true → s.trip = false → s.ownStack who k = true → (s.stack k).waiting = [] →
      (s.stack k).asking = [] → r = { who := who, word := w, half := h, write := some (data, poison), ecc := .clean } →
      s.mayRequest k r = false → ∃ t, exec (.hbmWrite k w h data poison who) s = .next t
    ∧ (t.stack k).asking = [r] ∧ (t.stack k).waiting = [] ∧ (t.stack k).owners = (s.stack k).owners ∧ t.out = s.out ∧ t.hbm = s.hbm
    ∧ OnlyStacks [k.val] s t ∧ OnlyLoops [] s t ∧ OnlyObjs [] s t)
  ∧ (∀ (k : Fin 20) (w : BitVec 30) h data poison who ecc (s : State), s.pwrok = true → s.trip = false → s.ownStack who k = false → ∃ t,
      exec (.hbmRead k w h who ecc) s = .next t ∧ exec (.hbmWrite k w h data poison who) s = .next t
    ∧ (∃ e ∈ t.log, field e.bits.toNat 15 0 = 0x0102) ∧ Only Area.raising s t ∧ OnlyObjs raisedObjs s t)
  ∧ (∀ (k : Fin 20) (w : BitVec 30) (s : State), s.serves k = true → w.toNat ∈ (s.stack k).writeBacks → ∃ t,
      exec (.writeBack k w) s = .next t
    ∧ (t.stack k).writeBacks = (s.stack k).writeBacks.filter (fun x => x != w.toNat) ∧ t.hbm = s.hbm ∧ OnlyStacks [k.val] s t)
  ∧ (∀ (k : Fin 20) (w : BitVec 30) (s : State), w.toNat ∉ (s.stack k).writeBacks → exec (.writeBack k w) s = .next s)
  ∧ (∀ (k : Fin 20) (w : BitVec 30) (s : State), s.serves k = true → (s.stack k).waiting = [] → s.poisoned k w.toNat = false → ∃ t,
      exec (.patrolScrub k w .single) s = .next t ∧ w.toNat ∈ (t.stack k).writeBacks ∧ Counted s t (0x401007 + 256 * k.val) 1
    ∧ (w = BitVec.allOnes 30 → Counted s t (0x40100E + 256 * k.val) 1))
  ∧ (∀ (k : Fin 20) (s : State), s.pwrok = true → s.serves k = true → (s.stack k).waiting = [] → ∃ t, exec (.refresh k) s = .next t
    ∧ (t.stack k).refreshDue = false ∧ (t.stack k).writeBacks = [] ∧ t.hbm = s.hbm ∧ t.hbmPoison = s.hbmPoison
    ∧ OnlyStacks [k.val] s t ∧ OnlyObjs [] s t)
  ∧ (∀ (k : Fin 20) (s : State), s.pwrok = true → s.trip = false → s.serves k = false → ∃ t, exec (.refresh k) s = .next t
    ∧ t.stack k = { s.stack k with refreshDue := true } ∧ OnlyStacks [k.val] s t ∧ Only [.stackCtl] s t)
  ∧ (∀ (k : Fin 20) temp (s : State), s.pwrok = true → s.trip = false → (-32768 : Int) ≤ temp → temp < 32768 → s.obj (0x401004 + 256 * k.val) ≤ 4 → ∃ t,
    exec (.hbmTempPoll k temp) s = .next t
    ∧ t.obj (0x401001 + 256 * k.val) = (BitVec.ofInt 16 temp).toNat
    ∧ ((s.live 0x400102 : Int) * 10 ≤ temp → t.obj (0x401004 + 256 * k.val) = Nat.min 4 (s.obj (0x401004 + 256 * k.val) + 1))
    ∧ (temp < ((s.live 0x400102 : Int) - (s.live 0x400103 : Int)) * 10 →
        t.obj (0x401004 + 256 * k.val) = s.obj (0x401004 + 256 * k.val) - 1)
    ∧ (((s.live 0x400102 : Int) - (s.live 0x400103 : Int)) * 10 ≤ temp → temp < (s.live 0x400102 : Int) * 10 →
        t.obj (0x401004 + 256 * k.val) = s.obj (0x401004 + 256 * k.val))
    ∧ (s.obj (0x401003 + 256 * k.val) = 0 → (s.live 0x400101 : Int) * 10 ≤ temp → t.obj (0x401003 + 256 * k.val) = 1)
    ∧ (s.obj (0x401003 + 256 * k.val) = 2 → t.obj (0x401003 + 256 * k.val) = 2)
    ∧ (0 < s.obj (0x401004 + 256 * k.val) → Counted s t (0x401005 + 256 * k.val) 1000000))

/-- A request that does not complete, a parity error on the command bus and a PHY that loses lock are uncontained faults:
counted, recorded, and the partition is reset (09 R213; 01 R26). -/
def Obligations.UncontainedFaultsReset : Prop :=
  ∀ (k : Fin 20) (c : Instr), c ∈ [.hbmRequestTimeout k, .caParityError k, .phyLockLoss k] → ∀ s : State, s.stackUp k = true → ∃ t,
    exec c s = .next t
    ∧ Counted s t 0x400008 1
    ∧ t.part (s.partOfStack k) = { Part.init with
        ikey := (s.part (s.partOfStack k)).ikey, reportNo := (s.part (s.partOfStack k)).reportNo
        cardTimes := (s.part (s.partOfStack k)).cardTimes }
    ∧ t.jobState (s.partOfStack k) = 0 ∧ OnlyParts [s.partOfStack k] s t
    ∧ (∀ l : LoomId, s.partOfQuad l.q = s.partOfStack k → t.loom l = Loom.init)
    ∧ (∀ l : LoomId, s.partOfQuad l.q ≠ s.partOfStack k → t.loom l = s.loom l)
    ∧ (∀ j o, j < 20 → o < 2 ^ 36 → s.partOfStack j = s.partOfStack k → SMap.get 0 t.hbm (hbmKey j o) = 0)
    ∧ (∀ j o, j < 20 → o < 2 ^ 36 → s.partOfStack j ≠ s.partOfStack k → SMap.get 0 t.hbm (hbmKey j o) = SMap.get 0 s.hbm (hbmKey j o))

/-! ### Steps -/

/-- A step begins with its scale fill (06 R143, R145, R148; 12 R294): the step in progress is the next one at attempt 0, and every
loom's scale registers hold the values of the row, or read unmapped; after an abort the fill runs again. Descriptor 0 runs on every
loom of the partition that takes part in the job (00 R2), with no plane of an earlier step (03 R59; 04 R85; 12 R294, R297); the first
step waits for links that are narrow (10 R232), and past its command stream the job halts (07 R161). That the count of late waits begins
again with the step, and that its chain queue stays, are the model's choices (log 105). -/
def Obligations.StepsBegin : Prop :=
  (∀ (p : Fin 4) (s : State), s.anyStopped p = false → s.mayBegin p = true → (s.part p).exhausted (s.stepNo p + 1) = false →
      (s.part p).early = [] → (∀ w ∈ (s.part p).ownWindows, w.results = false) → ∃ t, exec (.scaleFill p) s = .next t
    ∧ Counted s t (0x521001 + 256 * p.val) 1 ∧ t.attempt p = 0 ∧ t.exState p = 1
    ∧ (t.part p).filled = true ∧ (t.part p).filledNs = s.ns ∧ (t.part p).aborted = false ∧ OnlyParts [p.val] s t)
  ∧ (∀ (p : Fin 4) (s : State), s.anyStopped p = false → s.mayBegin p = true → (s.part p).exhausted (s.stepNo p + 1) = false →
      (s.part p).early = [] → (s.part p).ownWindows = [] → s.quiet → ∃ t, exec (.scaleFill p) s = .next t
    ∧ (∀ (l : LoomId) i, s.loomPart l = p.val → s.loomExists l = true → i < 256 → SMap.get 0xFF (t.loom l).scaleFile i =
        (if SMap.get 0xFFFF (s.loom l).scaleMap i = 0xFFFF then 0xFF
         else BitVec.ofNat 9 (256 + (t.ephRow p (t.stepNo p) (SMap.get 0xFFFF (s.loom l).scaleMap i).toNat).scale.toNat)))
    ∧ (∀ l : LoomId, s.loomPart l ≠ p.val ∨ s.loomExists l = false → t.loom l = s.loom l))
  ∧ (∀ (p : Fin 4) (s : State), s.anyStopped p = false → s.jobState p = 5 → s.exState p = 4 → (s.part p).filled = false →
      (s.part p).early = [] → (∀ w ∈ (s.part p).ownWindows, w.results = false) → ∃ t, exec (.scaleFill p) s = .next t
    ∧ t.stepNo p = s.stepNo p ∧ t.attempt p = s.attempt p ∧ t.exState p = 4
    ∧ (t.part p).filled = true ∧ (t.part p).filledNs = s.ns ∧ OnlyParts [p.val] s t)
  ∧ (∀ (p : Fin 4) (s : State), s.jobState p = 5 → (s.exState p = 1 ∨ s.exState p = 4) → (s.part p).filled = true →
      (s.part p).inStep = false → ((s.part p).aborted = false ∨ (s.part p).copied = true) → (s.part p).windowTests = [] →
      s.rollPending p = false → ((s.part p).aborted = true ∨ s.linksAllow p (s.stepNo p) = true) →
      (s.part p).ringsFull (s.stepNo p) = true → s.atOrbit p = true → ∃ t, exec (.stepStart p) s = .next t
    ∧ t.exState p = 1 ∧ (t.part p).inStep = true ∧ (t.part p).startCount = (s.quad (s.lowQuad p)).count ∧ (t.part p).hangNs = (s.part p).hangNs
    ∧ (t.part p).opened = [] ∧ (t.part p).started = [] ∧ (t.part p).closed = [] ∧ (t.part p).reports = []
    ∧ Counted s t (0x90700A + 256 * p.val) ((s.part p).ringWaitNs.toNat - (s.part p).filledNs.toNat)
    ∧ (∀ l : LoomId, s.loomPart l = p.val → s.loomExists l = true → (s.loom l = Loom.init ∧ t.loom l = Loom.init) ∨ t.loom l = { s.loom l with
        seqIdx := 0, loops := [], seq := .running, issued := 0, merged := false, slotMissed := false, lateWaits := 0, verdicts := []
        plane := .empty, idlePlane := .empty, preloaded := none })
    ∧ (∀ l : LoomId, s.loomPart l ≠ p.val ∨ s.loomExists l = false → t.loom l = s.loom l) ∧ OnlyParts [p.val] s t)
  ∧ (∀ (p : Fin 4) (s : State), s.exState p = 1 → (s.part p).aborted = false → s.stepNo p = s.startBoundary p + 1 →
      (s.narrowLink p).isSome = true → exec (.stepStart p) s = .next s)
  ∧ (∀ (p : Fin 4) (s : State), s.mayBegin p = true → (s.part p).exhausted (s.stepNo p + 1) = true → ∃ t,
      exec (.stepStart p) s = .next t ∧ t.jobState p = 7 ∧ t.obj (0x907008 + 256 * p.val) = 2 ∧ t.exState p = 0)

/-- A loom that has ended merges its accumulators into the row of the step, once (06 R140, R141); the row is final when
all have merged and the updates are applied (06 R143). The forward copy converts each master once to the copy's format
with the slot's scale (07 R163), where neither is poisoned (09 R211). Nothing of it happens while the stacks stand in self-refresh (09
R220) or a way of an engine to a stack is shut (01 R13; 17 R411). -/
def Obligations.EphemerisAndForwardCopies : Prop :=
  (∀ l (s : State), (s.loom l).seq = .ended → (s.loom l).merged = false → (s.part (s.loomPart l)).inStep = true →
      s.memStopped (s.loomPart l) = false → s.quadRuns l.q = true → ∃ t, exec (.ephemerisMergeComplete l) s = .next t
    ∧ t.loom l = { s.loom l with eph := [], merged := true } ∧ OnlyLooms [l] s t
    ∧ (∀ i a, (s.loom l).eph = [(i, a)] → SMap.get 0xFFFF (s.loom l).scaleMap i ≠ 0xFFFF →
        ∀ slot, slot = (SMap.get 0xFFFF (s.loom l).scaleMap i).toNat → ∀ r, r = s.ephRow (s.loomPart l) (s.stepNo (s.loomPart l)) slot →
        t.ephRow (s.loomPart l) (s.stepNo (s.loomPart l)) slot = { r with
          localMax := if r.localMax < a.max then a.max else r.localMax
          jobMax := if (s.part (s.loomPart l)).slotJob slot && (s.part (s.loomPart l)).slotNamed slot then r.jobMax
            else if r.localMax < a.max then a.max else r.localMax
          zeros := r.zeros + a.zeros, sats := r.sats + a.sats, nonfin := r.nonfin + a.nonfin, elems := r.elems + a.elems }))
  ∧ (∀ l (s : State), (s.loom l).merged = true ∨ s.quadRuns l.q = false → exec (.ephemerisMergeComplete l) s = .next s)
  ∧ (∀ (p : Fin 4) (s : State), (s.part p).applied = true → (s.part p).rowFinal = false → s.allMerged p = true →
      s.memStopped p = false → ∃ t, exec (.rowFinal p) s = .next t
    ∧ (t.part p).rowFinal = true ∧ t.obj (0x904002 + 256 * p.val) = s.stepNo p % 256 ^ objSize (0x904002 + 256 * p.val)
    ∧ OnlyParts [p.val] s t)
  ∧ (∀ (p : Fin 4) (s : State), s.allMerged p = false ∨ s.memStopped p = true → exec (.rowFinal p) s = .next s)
  ∧ (∀ (p : Fin 4) (s : State), s.memStopped p = true ∨ s.copiesGo p = false → exec (.forwardCopy p) s = .next s)
  ∧ (∀ (p : Fin 4) (s : State), (s.part p).filled = true → (s.part p).copied = false → s.memStopped p = false →
      s.copiesGo p = true → ∃ t, exec (.forwardCopy p) s = .next t
    ∧ (t.part p).copied = true ∧ OnlyParts [p.val] s t
    ∧ ((s.commands p).all (fun c => !uCopy c) = true → t.hbm = s.hbm ∧ t.part p = { s.part p with copied := true }))
  ∧ (∀ (p : Fin 4) c (s : State), (s.part p).filled = true → (s.part p).copied = false → s.memStopped p = false →
      s.copiesGo p = true → s.rowPoison p (s.stepNo p) (uCslot c) = 0 → (s.part p).poisoned = false → s.commands p = [c] → uCopy c = true → uCount c = 1 → fmtWidth (uCfmt c) = 8 →
      ∀ m, m = (uFirst c - (s.part p).stateBase (uRegion c)) / blockParams ((s.part p).stateLayout (uRegion c)) * 256
          + masterBytes ((s.part p).stateLayout (uRegion c))
            * ((uFirst c - (s.part p).stateBase (uRegion c)) % blockParams ((s.part p).stateLayout (uRegion c))) →
      s.poisonIn p (uRegion c) m (masterBytes ((s.part p).stateLayout (uRegion c))) = 0 →
      (∀ rw cw, rw = s.regionWord p ((s.part p).theRegion 5) ((s.part p).rowAt (s.stepNo p) (uCslot c)) →
        cw = s.regionWord p (uCregion c) (uFirst c - uTbase c) → ∀ j, j < 32 →
        hbmKey rw.1 (64 * rw.2 + (s.part p).rowAt (s.stepNo p) (uCslot c) % 64 + j)
          ≠ hbmKey cw.1 (64 * cw.2 + (uFirst c - uTbase c) % 64)) → ∃ t, exec (.forwardCopy p) s = .next t
    ∧ t.readNat p (uCregion c) (uFirst c - uTbase c) 1 =
        (convertTo (uCfmt c)
          ((floatVal (masterFmt ((s.part p).stateLayout (uRegion c)))
            (s.readNat p (uRegion c) m (masterBytes ((s.part p).stateLayout (uRegion c))))).scale
              (-(((s.ephRow p (s.stepNo p) (uCslot c)).scale.toNat : Int) - 127))) none).1 % 256)

/-- Update engines (07 R155, R157 to R161, R165, R168, R170): a no-operation only finishes; a frozen or skipped command is
counted and writes nothing; an applied one gives every parameter of its blocks the rule's result; a failed lane check leaves the block
unwritten (16 R386), and a learning rate that comes from a poisoned entry is consumed and updates nothing (09 R212). When every engine has finished every command, the step is applied. -/
def Obligations.UpdateEngines : Prop :=
  (∀ (k : Fin 20) (i : BitVec 32) ok c (s : State), (s.commands (s.partOfStack k))[i.toNat]? = some c → s.quadRuns (k.val / 5) = true →
      s.memStopped (s.partOfStack k) = false → (s.part (s.partOfStack k)).committed = true → (s.part (s.partOfStack k)).applied = false →
      i.toNat ∉ (s.stack k).cmdsDone → (∀ j, j < i.toNat → j ∈ (s.stack k).cmdsDone) → (s.stack k).failed = false →
      (uRule c = 3 → ∃ t, exec (.updateStart k i ok) s = .next t
        ∧ t.stack k = { s.stack k with cmdsDone := (s.stack k).cmdsDone ++ [i.toNat] } ∧ OnlyStacks [k.val] s t ∧ Only [.stackCtl] s t)
      ∧ (uRule c ≠ 3 → (s.part (s.partOfStack k)).hold ≠ none → exec (.updateStart k i ok) s = .next s)
      ∧ (uRule c ≠ 3 → (s.part (s.partOfStack k)).hold = none → (s.part (s.partOfStack k)).stateFrozen (uRegion c) = true → ∃ t,
        exec (.updateStart k i ok) s = .next t
        ∧ (t.stack k).cmdsDone = (s.stack k).cmdsDone ++ [i.toNat] ∧ Counted s t (0x406003 + 256 * k.val) 1 ∧ t.hbm = s.hbm)
      ∧ (∀ w, uRule c ≠ 3 → (s.part (s.partOfStack k)).hold = none → (s.part (s.partOfStack k)).stateFrozen (uRegion c) = false →
          (s.part (s.partOfStack k)).windowOfRegion (uWindow c) = some w →
          w.window.toNat ∈ (s.part (s.partOfStack k)).windowsDone → s.cmdSkipped (s.partOfStack k) w = true → ∃ t,
        exec (.updateStart k i ok) s = .next t
        ∧ (t.stack k).cmdsDone = (s.stack k).cmdsDone ++ [i.toNat] ∧ Counted s t (0x406004 + 256 * k.val) 1
        ∧ (s.quiet → t.hbm = s.hbm))
      ∧ (∀ w b, uRule c ≠ 3 → (s.part (s.partOfStack k)).hold = none → (s.part (s.partOfStack k)).stateFrozen (uRegion c) = false →
          (s.part (s.partOfStack k)).windowOfRegion (uWindow c) = some w →
          w.window.toNat ∈ (s.part (s.partOfStack k)).windowsDone → s.cmdSkipped (s.partOfStack k) w = false →
          ((s.part (s.partOfStack k)).cmdBlocks c).filter (fun b => s.blockStack (s.partOfStack k) (uRegion c) b == k.val) = [b] →
          (s.lrPoison (s.partOfStack k) c ≠ 0 → s.exState (s.partOfStack k) = 3 → s.jobLive (s.partOfStack k) = true → s.quiet → ∃ t, exec (.updateStart k i ok) s = .next t
            ∧ (t.stack k).cmdsDone = (s.stack k).cmdsDone ++ [i.toNat] ∧ (t.part (s.partOfStack k)).poisoned = true ∧ t.hbm = s.hbm)
          ∧ (s.lrPoison (s.partOfStack k) c = 0 → ok = false → (s.obj 0x702001).testBit (s.partOfStack k) = true → ∃ t, exec (.updateStart k i ok) s = .next t
            ∧ (t.stack k).cmdsDone = (s.stack k).cmdsDone ++ [i.toNat] ∧ Counted s t 0x702005 1 ∧ t.hbm = s.hbm)
          ∧ (s.lrPoison (s.partOfStack k) c = 0 → ok = true → s.quiet → uMslot c = 0xFFFF → s.poisonIn (s.partOfStack k) (uRegion c) (256 * b) 256 = 0 →
            s.poisonIn (s.partOfStack k) w.region.toNat (256 * b) 256 = 0 →
            (w.region2 = 255 ∨ s.poisonIn (s.partOfStack k) w.region2.toNat (256 * b) 256 = 0) → ∃ t,
            exec (.updateStart k i ok) s = .next t
            ∧ (t.stack k).cmdsDone = (s.stack k).cmdsDone ++ [i.toNat]
            ∧ (∀ a, a = ((s.part (s.partOfStack k)).cmdSlots c b).foldl
                  (fun a j => s.stepParam (s.partOfStack k) c w (s.learningRate (s.partOfStack k) c) true
                    ((s.part (s.partOfStack k)).fpKey (uTensor c)) b a j)
                  {
                    block := s.readRegion (s.partOfStack k) (uRegion c) (256 * b) 256, fp1 := 0, fp2 := 0, params := 0, nonfin := 0,
                    sats := 0, row := .zero } →
                t.readRegion (s.partOfStack k) (uRegion c) (256 * b) 256 = a.block
                ∧ Counted s t (0x406002 + 256 * k.val) a.params ∧ Counted s t (0x406005 + 256 * k.val) a.nonfin
                ∧ Counted s t (0x406006 + 256 * k.val) a.sats))))
  ∧ (∀ (p : Fin 4) (s : State), (s.part p).committed = true → (s.part p).applied = false → (∀ q ∈ s.quadsOf p, s.quadRuns q = true) →
      (∀ k ∈ s.stacksOf p, ∀ i, i < (s.commands p).length → i ∈ (s.stack k).cmdsDone) → ∃ t, exec (.updateFinish p) s = .next t
    ∧ t.part p = { s.part p with applied := true } ∧ OnlyParts [p.val] s t
    ∧ (∀ k ∈ s.stacksOf p, t.obj (0x406001 + 256 * k) = s.stepNo p % 256 ^ objSize (0x406001 + 256 * k)))
  ∧ (∀ (p : Fin 4) k i (s : State), k ∈ s.stacksOf p → i < (s.commands p).length → i ∉ (s.stack k).cmdsDone →
      exec (.updateFinish p) s = .next s)
  ∧ (∀ (p : Fin 4) q (s : State), q ∈ s.quadsOf p → s.quadRuns q = false → exec (.updateFinish p) s = .next s)

/-- The audit counts itself and finds broken loops (05 R135 to R137); the step's entries are folded into the chain, never
after a violation or consumed poison (05 R129, R137; 07 R171). At the boundary (01 R15; 10 R244; 12 R290, R294, R295, R298) the
step is over: a halt that was due takes place, a checkpoint that was due is taken, an amendment that was due takes effect, and a job at
LIMIT is HELD. The log entries of a fold cross steward 0's queue (01 R18). That a boundary passes with a violation or poison unfolded is the model's
reading (log 44), and so are the time from which the hang watchdog measures (log 98), and that an amendment's association and roll call
wait where the exchange with the new holder is not done (log 127). -/
def Obligations.AuditFoldAndBoundary : Prop :=
  (∀ (p : Fin 4) (s : State), (s.part p).applied = true → (s.part p).audited = false → s.badLoops p = [] → ∃ t,
      exec (.auditComplete p) s = .next t
    ∧ t.part p = { s.part p with audited := true } ∧ Counted s t 0x704001 1
    ∧ t.obj 0x704002 = (s.loopsOf p).length % 256 ^ objSize 0x704002 ∧ OnlyObjs [0x704001, 0x704002] s t ∧ OnlyParts [p.val] s t)
  ∧ (∀ (p : Fin 4) l (s : State), (s.part p).applied = true → (s.part p).audited = false → s.badLoops p = [l] → ∃ t,
      exec (.auditComplete p) s = .next t
    ∧ (t.part p).audited = true ∧ (t.part p).violated = true ∧ Counted s t 0x704003 1 ∧ t.obj 0x704004 = l % 256 ^ objSize 0x704004
    ∧ OnlyParts [p.val] s t)
  ∧ (∀ (p : Fin 4) (s : State), (s.part p).applied = true → (s.part p).folded = false → (s.part p).violated = false →
      (s.part p).poisoned = false → s.badLoops p = [] → s.memStopped p = false → s.queueTakes (fromSteward 0) = true → ∃ t,
      exec (.foldComplete p) s = .next t
    ∧ (t.part p).folded = true ∧ t.obj (0x903001 + 256 * p.val) = s.stepNo p % 256 ^ objSize (0x903001 + 256 * p.val)
    ∧ t.obj (0x903002 + 256 * p.val) = leNat (digest256 (s.head p ++ stepDigest (s.stepNo p) (s.stepEntries p)))
        % 256 ^ objSize (0x903002 + 256 * p.val)
    ∧ (t.part p).logStep = s.stepEntries p ∧ (t.part p).logPos = (s.part p).logPos + (s.stepEntries p).length ∧ OnlyParts [p.val] s t)
  ∧ (∀ (p : Fin 4) (s : State), (s.part p).violated = true ∨ (s.part p).poisoned = true ∨ s.queueRoom (fromSteward 0) = false →
      exec (.foldComplete p) s = .next s)
  ∧ (∀ (p : Fin 4) (s : State), s.exState p = 3 → (s.part p).applied = true → (s.part p).audited = true → s.memStopped p = false →
    ((s.part p).folded = true ∨ (s.part p).violated = true ∨ (s.part p).poisoned = true) → (s.part p).rowFinal = true →
    s.jobState p = 5 →
    ((s.part p).due = [] → ∃ t, exec (.stepBoundary p) s = .next t
      ∧ t.exState p = 0 ∧ t.stepNo p = s.stepNo p ∧ t.jobState p = (if s.limit p ≤ s.stepNo p then 6 else 5)
      ∧ (t.part p).inStep = false ∧ (t.part p).committed = false ∧ (t.part p).applied = false ∧ (t.part p).windowsDone = []
      ∧ (t.part p).hangNs = s.ns ∧ (t.part p).waitNs = s.ns
      ∧ (∀ k ∈ s.stacksOf p, (t.stack k).cmdsDone = []) ∧ OnlyParts [p.val] s t)
    ∧ (∀ c d r, (s.part p).due = .halt c d :: r → ∃ t, exec (.stepBoundary p) s = .next t
      ∧ t.jobState p = 7 ∧ t.obj (0x907008 + 256 * p.val) = c.toNat ∧ t.exState p = 0 ∧ (t.part p).inStep = false
      ∧ t.obj (0x907007 + 256 * p.val) = (if s.obj (0x907007 + 256 * p.val) = 1 then 0 else s.obj (0x907007 + 256 * p.val)))
    ∧ (∀ c : BitVec 64, (s.part p).due = [.take c] → c.toNat = s.stepNo p → (s.part p).violated = false →
        (s.part p).poisoned = false → ∃ t, exec (.stepBoundary p) s = .next t
      ∧ (t.part p).hold = some c ∧ t.obj (0x907006 + 256 * p.val) = c.toNat ∧ t.obj (0x907007 + 256 * p.val) = 2 ∧ t.exState p = 0)
    ∧ (∀ a : Amend, (s.part p).due = [.amend a] → a.start = s.stepNo p → ∃ t, exec (.stepBoundary p) s = .next t
      ∧ (t.part p).peer a.rank = { (s.part p).peer a.rank with
          addr := BitVec.ofNat 128 a.addr, ident := BitVec.ofNat 64 a.ident, epoch := BitVec.ofNat 16 a.epoch, state := 2
          links := 0, heard := 0, part := BitVec.ofNat 8 a.part }
      ∧ (∀ r, r ≠ a.rank → (t.part p).peer r = (s.part p).peer r) ∧ t.exState p = 0
      ∧ ((s.part p).hasKey (heldParty a.rank) = true → Counted s t (0x515001 + 256 * p.val) 1 ∧ t.rolling p = true)
      ∧ ((s.part p).hasKey (heldParty a.rank) = false → (t.part p).rollOwed = (s.part p).rollOwed ++ [a.rank]
        ∧ Counted s t (0x515001 + 256 * p.val) 0 ∧ t.rollPending p = true)))

/-- Segments (04 R105, R106): one of the load in progress with a good CRC is placed and noted; one with a bad CRC is not;
one of another load is discarded; the end of a space, the last segment of a request, and 20 ms without a segment are answered with what
the loom lacks. The loader (04 R106, R107; 12 R292): the end of a space is sent until the loom asks; an empty request completes
the space, another is answered with its segments for 8 rounds; a loom that still lacks segments, or whose digests are
wrong twice, fails the arming; after the first wrong digest its sections are sent again. That the bitmaps are cleared for it is the
model's choice (log 50), that a timeout repeats itself while segments lack (log 84), that a word which SECDED cannot correct makes the
digests differ (log 99), and that segments, requests and digests take the loom's bridge (01 R18; log 12), waiting without its credits. -/
def Obligations.SegmentsAndLoader : Prop :=
  (∀ (l : LoomId) h b (s : State), s.armStep (s.loomPart l) = 5 → s.loomExists l = true →
      segLoad h = (s.part (s.loomPart l)).arming.loadNo.toNat → segSection h = 0 → segPerLoom h = false →
      crc32c (fitBytes 4096 b) = segCrc h → SMap.get false (s.loom l).commonSeen (segSeq h) = false → s.bridgeTakes l 1 = true →
      ∃ t, exec (.segmentReceive l h b) s = .next t
    ∧ (∀ i, i < 64 → segUnit h + i < 4096 → SMap.get 0 (t.loom l).store (segUnit h + i)
        = BitVec.ofNat 512 (leNat (((fitBytes 4096 b).drop (64 * i)).take 64)))
    ∧ SMap.get false (t.loom l).commonSeen (segSeq h) = true ∧ (t.loom l).commonTotal = some (BitVec.ofNat 12 (segTotal h))
    ∧ (t.loom l).lastSeg = s.ns ∧ (t.loom l).mem = (s.loom l).mem ∧ OnlyLooms [l] s t
    ∧ t.out = if (s.loom l).commonAsked = some (segSeq h) then .segRequest l false (((t.loom l).lacks false).take 32) :: s.out else s.out)
  ∧ (∀ (l : LoomId) h b (s : State), s.armStep (s.loomPart l) = 5 → s.loomExists l = true →
      segLoad h = (s.part (s.loomPart l)).arming.loadNo.toNat → segSection h ≤ 4 → crc32c (fitBytes 4096 b) ≠ segCrc h →
      s.bridgeTakes l 1 = true → ∃ t, exec (.segmentReceive l h b) s = .next t
    ∧ (t.loom l).store = (s.loom l).store ∧ (t.loom l).mem = (s.loom l).mem ∧ (t.loom l).commonSeen = (s.loom l).commonSeen
    ∧ (t.loom l).loomSeen = (s.loom l).loomSeen ∧ OnlyLooms [l] s t)
  ∧ (∀ (l : LoomId) h b (s : State), segLoad h ≠ (s.part (s.loomPart l)).arming.loadNo.toNat → ∃ t,
      exec (.segmentReceive l h b) s = .next t ∧ Only [.objects, .queues, .loops] s t)
  ∧ (∀ (l : LoomId) h b (s : State), s.hasCredit (s.bridgeLoop (bridgeOf l.q l.r) 1) = false
      ∨ s.queueRoom (2 * bridgeOf l.q l.r + 1) = false → exec (.segmentReceive l h b) s = .next s)
  ∧ (∀ (l : LoomId) h b (s : State), s.armStep (s.loomPart l) = 5 → s.loomExists l = true →
      segLoad h = (s.part (s.loomPart l)).arming.loadNo.toNat → segSection h = 14 → s.bridgeTakes l 1 = true → ∃ t,
      exec (.segmentReceive l h b) s = .next t
    ∧ (t.loom l).spaceEnded (segPerLoom h) = true ∧ OnlyLooms [l] s t
    ∧ t.out = .segRequest l (segPerLoom h) (((t.loom l).lacks (segPerLoom h)).take 32) :: s.out)
  ∧ (∀ (l : LoomId) (s : State), s.armStep (s.loomPart l) = 5 → s.loomExists l = true →
      ((s.loom l).spaceEnded false = false ∨ (s.loom l).lacks false ≠ []) → ((s.loom l).spaceEnded true = false ∨ (s.loom l).lacks true ≠ []) →
      (s.loom l).lastSeg.toNat + 20000000 < 2 ^ 64 → ∃ t, exec (.segmentTimeout l) s = .next t
    ∧ t.out = .segRequest l true (((s.loom l).lacks true).take 32) :: .segRequest l false (((s.loom l).lacks false).take 32) :: s.out
    ∧ (s.loom l).lastSeg.toNat + 20000000 ≤ t.ns.toNat
    ∧ t.loom l = { s.loom l with
        lastSeg := t.ns, commonAsked := (((s.loom l).lacks false).take 32).getLast?, loomAsked := (((s.loom l).lacks true).take 32).getLast? }
    ∧ OnlyLooms [l] s t)
  ∧ (∀ (l : LoomId) b (s : State), s.armStep (s.loomPart l) = 5 → s.loomExists l = true →
      ((s.loom l).spaceEnded b = false ∨ (s.loom l).lacks b ≠ []) → (s.loom l).spaceEnded (!b) = true → (s.loom l).lacks (!b) = [] → ∃ t,
      exec (.segmentTimeout l) s = .next t
    ∧ t.out = .segRequest l b (((s.loom l).lacks b).take 32) :: s.out ∧ OnlyLooms [l] s t)
  ∧ (∀ (p : Fin 4) (l : LoomId) (s : State), (s.part p).arming.step = 5 → SMap.get false (s.part p).arming.requested (loomKey l) = false → ∃ t,
      exec (.endOfSpaceResend p (some l)) s = .next t
    ∧ t.out = .segment p (some l) true 4096 :: s.out ∧ (t.part p).arming.eosSince = some ((s.part p).arming.eosSince.getD s.ns)
    ∧ OnlyParts [p.val] s t)
  ∧ (∀ (p : Fin 4) (l : LoomId) (s : State), (s.part p).arming.step = 5 → l ∈ s.loomIds p →
      SMap.get false (s.part p).arming.requested (loomKey l) = false → ∃ t, exec (.endOfSpaceResend p none) s = .next t
    ∧ t.out = .segment p none false 4096 :: s.out ∧ (t.part p).arming.eosSince = some ((s.part p).arming.eosSince.getD s.ns))
  ∧ (∀ (p : Fin 4) (l : LoomId) (s : State), SMap.get false (s.part p).arming.requested (loomKey l) = true →
      exec (.endOfSpaceResend p (some l)) s = .next s)
  ∧ (∀ (l : LoomId) b (s : State), (s.part (s.loomPart l)).arming.step = 5 → s.loomExists l = true → s.bridgeTakes l 0 = true → ∃ t,
      exec (.segmentRequest l b []) s = .next t
    ∧ SMap.get false (t.part (s.loomPart l)).arming.done (spaceKey l b) = true
    ∧ SMap.get false (t.part (s.loomPart l)).arming.requested (loomKey l) = true ∧ t.out = s.out)
  ∧ (∀ (l : LoomId) b m (s : State), (s.part (s.loomPart l)).arming.step = 5 → s.loomExists l = true → m ≠ [] →
      s.bridgeTakes l 0 = true → SMap.get 0 (s.part (s.loomPart l)).arming.rounds (spaceKey l b) < 8 → ∃ t, exec (.segmentRequest l b m) s = .next t
    ∧ t.out = ((m.take 32).map (fun n : BitVec 12 => Out.segment (s.loomPart l) (some l) b n.toNat)).reverse ++ s.out
    ∧ SMap.get 0 (t.part (s.loomPart l)).arming.rounds (spaceKey l b)
        = SMap.get 0 (s.part (s.loomPart l)).arming.rounds (spaceKey l b) + 1)
  ∧ (∀ (l : LoomId) b m (s : State), (s.part (s.loomPart l)).arming.step = 5 → s.loomExists l = true → m ≠ [] →
      s.bridgeTakes l 0 = true → 8 ≤ SMap.get 0 (s.part (s.loomPart l)).arming.rounds (spaceKey l b) → ∃ t, exec (.segmentRequest l b m) s = .next t
    ∧ (t.part (s.loomPart l)).arming.step = 8 ∧ (t.part (s.loomPart l)).arming.status = 0x0B
    ∧ (t.part (s.loomPart l)).arming.detail = BitVec.ofNat 16 (s.loomNo l) ∧ t.out = s.out)
  ∧ (∀ (p : Fin 4) t0 l (s : State), (s.part p).arming.step = 5 → (s.part p).arming.eosSince = some t0 →
      (s.loomIds p).find? (fun l => !(s.part p).arming.whole l) = some l → t0.toNat + 100000000 < 2 ^ 64 → ∃ t,
      exec (.broadcastTimeout p) s = .next t
    ∧ (t.part p).arming = { (s.part p).arming with step := 8, status := 0x0B, detail := BitVec.ofNat 16 (s.loomNo l) }
    ∧ t0.toNat + 100000000 ≤ t.ns.toNat ∧ OnlyParts [p.val] s t)
  ∧ (∀ (l : LoomId) (s : State), s.armStep (s.loomPart l) = 5 → s.loomExists l = true →
      (s.part (s.loomPart l)).arming.whole l = true → (s.loom l).digestOk = false → s.memStopped (s.loomPart l) = false →
      s.bridgeTakes l 0 = true →
      (∀ hit, harmless hit → s.digestsMatch l = true → ∃ t, exec (.digestReport l hit) s = .next t
        ∧ t.loom l = { s.loom l with digestOk := true } ∧ OnlyLooms [l] s t
        ∧ ((∃ j ∈ s.loomIds (s.loomPart l), j ≠ l ∧ (s.loom j).digestOk = false) → t.parts = s.parts)
        ∧ ((∀ j ∈ s.loomIds (s.loomPart l), j ≠ l → (s.loom j).digestOk = true) → t.armStep (s.loomPart l) = 7))
      ∧ (∀ hit, harmless hit → s.digestsMatch l = false → (s.loom l).digestTries = 0 → ∃ t, exec (.digestReport l hit) s = .next t
        ∧ t.loom l = { s.loom l with
            digestTries := 1, commonSeen := [], loomSeen := [], commonEnded := false, loomEnded := false, commonAsked := none
            loomAsked := none }
        ∧ (hit = none → t.out = ((s.loom l).allSegments (s.loomPart l) l false ++ (s.loom l).allSegments (s.loomPart l) l true).reverse ++ s.out)
        ∧ (t.part (s.loomPart l)).arming.whole l = false ∧ t.armStep (s.loomPart l) = 5)
      ∧ (∀ hit, s.digestLost l hit = true → (s.loom l).digestTries = 0 → ∃ t, exec (.digestReport l hit) s = .next t
        ∧ (t.loom l).digestTries = 1 ∧ (t.part (s.loomPart l)).arming.whole l = false ∧ t.armStep (s.loomPart l) = 5)
      ∧ (∀ hit, (harmless hit ∧ s.digestsMatch l = false) ∨ s.digestLost l hit = true → (s.loom l).digestTries ≠ 0 → ∃ t,
        exec (.digestReport l hit) s = .next t
        ∧ t.armStep (s.loomPart l) = 8 ∧ (t.part (s.loomPart l)).arming.status = 0x0B))

/-! ### Exchange and transport -/

/-- Chunks (11 R258 to R260, R264): right ones go to their tally engine, a DONE is noted and raises JOB_MAX; a chunk of an older step is
counted, one of the next step is not ready, one that does not fit is a mismatch, one with a reserved TYPE is dropped, one that finds no
receive buffer is lost (10 R226), and a HALTED job answers with a NAK. A tally engine adds a chunk once (11 R257, R261, R262): the
ledger entry takes its count, tokens, NONFIN and MAX, and the element takes its value or its sum; stale chunks and those of a HALTED job
are not added (R259); adders that disagree are recorded and charged (16 R386). A chunk is added once it holds its engine's credit; with
the credit it frees the oldest chunk that waits goes on (05 R133; 08 R189). -/
def Obligations.ChunksAndTally : Prop :=
  ChunkAccepted .data 1 ∧ ChunkAccepted .close 2 ∧ ChunkAccepted .result 4
  ∧ (∀ (p : Fin 4) k (s : State), s.inOrder p k.pkt (packetsOf (64 + k.elems.length)) → s.jobState p ≠ 7 → pktParty k.pkt < (s.part p).ranks →
      (chunkOf k.header).type = 3 → chunkReserved (chunkOf k.header) = false →
      s.chunkOld p (chunkOf k.header) = false → s.chunkRight p k (chunkOf k.header) = true →
      (s.part p).donesIn.any (fun d => d.1 == doneKey (chunkOf k.header).sender (chunkOf k.header).window) = false → ∃ t,
      exec (.done p k) s = .next t
    ∧ (t.part p).donesIn = (s.part p).donesIn ++ [(doneKey (chunkOf k.header).sender (chunkOf k.header).window,
        if (chunkOf k.header).skip then 1 else 0)]
    ∧ ((s.part p).slotJob (chunkOf k.header).slot = true → (t.ephRow p (s.stepNo p) (chunkOf k.header).slot).jobMax.toNat
        = Nat.max (s.ephRow p (s.stepNo p) (chunkOf k.header).slot).jobMax.toNat (chunkOf k.header).max)
    ∧ (t.part p).tally = (s.part p).tally ∧ OnlyParts [p.val] s t)
  ∧ (∀ (p : Fin 4) k (s : State), s.chunkIn p k → (chunkOf k.header).type = 1 → chunkReserved (chunkOf k.header) = false →
      ((chunkOf k.header).step < s.stepNo p → ∃ t, exec (.data p k) s = .next t
        ∧ Counted s t (0x521007 + 256 * p.val) 1 ∧ (t.part p).tally = (s.part p).tally
        ∧ ((t.part p).qp (pktQpn k.pkt)).expPsn = k.pkt.psn + BitVec.ofNat 24 (packetsOf (64 + k.elems.length)))
      ∧ ((chunkOf k.header).step = s.stepNo p + 1 → ∃ t, exec (.data p k) s = .next t
        ∧ (t.part p).tally = (s.part p).tally ∧ (t.part p).qps = (s.part p).qps ∧ Counted s t (0x522006 + 256 * (pktPort k.pkt).val) 1
        ∧ (s.sends p (pktQpn k.pkt) → ∃ w, t.out.head? = some (.nak p w (BitVec.ofNat 24 (pktQpn k.pkt)) k.pkt.psn 4)))
      ∧ (s.stepNo p ≤ (chunkOf k.header).step → (chunkOf k.header).step ≠ s.stepNo p + 1 → s.chunkOld p (chunkOf k.header) = false →
          s.chunkRight p k (chunkOf k.header) = false → ∃ t, exec (.data p k) s = .next t
        ∧ Counted s t (0x521008 + 256 * p.val) 1 ∧ (t.part p).tally = (s.part p).tally
        ∧ (s.exState p = 1 → (t.part p).aborted = true)))
  ∧ (∀ (p : Fin 4) k (s : State), s.chunkIn p k → (chunkOf k.header).type = 0 → ∃ t, exec (.data p k) s = .next t
    ∧ Counted s t (0x504008 + 256 * pktLink k.pkt) 1 ∧ (t.part p).tally = (s.part p).tally ∧ (t.part p).qps = (s.part p).qps
    ∧ OnlyParts [p.val] s t)
  ∧ (∀ (p : Fin 4) k (s : State), s.receives p k.pkt (packetsOf (64 + k.elems.length)) → s.jobState p = 7 →
      pktParty k.pkt < (s.part p).ranks → (chunkOf k.header).type = 1 → ∃ t, exec (.data p k) s = .next t
    ∧ Counted s t (0x521007 + 256 * p.val) 1 ∧ Counted s t (0x522006 + 256 * (pktPort k.pkt).val) 1
    ∧ (t.part p).tally = (s.part p).tally ∧ (t.part p).qps = (s.part p).qps
    ∧ (s.sends p (pktQpn k.pkt) → ∃ w, t.out.head? = some (.nak p w (BitVec.ofNat 24 (pktQpn k.pkt)) k.pkt.psn 3)))
  ∧ (∀ (p : Fin 4) k (s : State), s.jobState p ≠ 7 → (chunkOf k.header).type = 1 →
      s.admits p k.pkt.esp.frame → s.buffersFree p (pktPort k.pkt).val (packetsOf (64 + k.elems.length)) = false → ∃ t,
      exec (.data p k) s = .next t ∧ (t.part p).tally = (s.part p).tally ∧ (t.part p).qps = (s.part p).qps ∧ t.out = s.out
    ∧ OnlyParts [p.val] s t)
  ∧ (∀ (p : Fin 4) i w (s : State), (s.part p).tally.find? (·.credited) = some i → s.hubStopped p = false → s.jobState p ≠ 7 →
      s.stepNo p ≤ (chunkOf i.header).step → s.chunkOld p (chunkOf i.header) = false → s.quiet →
      (s.part p).windowAt (s.part p).rank (chunkOf i.header).window = some w → w.role ≠ 2 → w.etype = 0 →
      (chunkOf i.header).elems = 1 →
      ∀ l, l = s.ledger p w (chunkOf i.header).chunk →
      s.ledgerPoison p w (chunkOf i.header).chunk = 0 → s.winPoison p w ((chunkOf i.header).chunk * 960) 1 = 0 →
      ∀ first, first = !(l.valid && decide (l.step = (chunkOf i.header).step) && decide (l.attempt = (chunkOf i.header).attempt)) →
      (ledgerAdd l (chunkOf i.header) first).count < w.n.toNat →
      ∀ a, a = winPlace w ((chunkOf i.header).chunk * 960) →
      (∀ ew lw, ew = s.regionWord p a.1 a.2.1 → lw = s.regionWord p w.ledger.toNat (32 * (chunkOf i.header).chunk) →
        ∀ x y, x < 4 → y < 32 → hbmKey ew.1 (64 * ew.2 + a.2.1 % 64 + x)
          ≠ hbmKey lw.1 (64 * lw.2 + 32 * (chunkOf i.header).chunk % 64 + y)) → ∃ t,
      exec (.tallyAdd p true) s = .next t
    ∧ (t.part p).tally.map (fun j => { j with credited := false })
        = ((s.part p).tally.erase i).map (fun j => { j with credited := false })
    ∧ t.ledger p w (chunkOf i.header).chunk = ledgerAdd l (chunkOf i.header) first
    ∧ t.winElem p w ((chunkOf i.header).chunk * 960) =
        (if first then chunkElem (chunkOf i.header).etype i.elems 0 % 2 ^ 32
         else (s.winElem p w ((chunkOf i.header).chunk * 960) + chunkElem (chunkOf i.header).etype i.elems 0) % 2 ^ 32)
    ∧ OnlyParts [p.val] s t)
  ∧ (∀ (p : Fin 4) i (s : State), (s.part p).tally.find? (·.credited) = some i → s.hubStopped p = false →
      (s.jobState p = 7 → ∃ t, exec (.tallyAdd p true) s = .next t ∧ t.hbm = s.hbm
        ∧ (t.part p).tally.map (fun j => { j with credited := false })
            = ((s.part p).tally.erase i).map (fun j => { j with credited := false })
        ∧ (∀ n, ((s.part p).tally.erase i).findIdx? (TallyItem.asks i.engine) = some n →
            0 < (s.cloop (loopId 3 p i.engine)).inFlight.toNat → (s.cloop (loopId 3 p i.engine)).returned = 0 →
            (t.part p).tally = ((s.part p).tally.erase i).modify n (fun j => { j with credited := true })))
      ∧ (s.jobState p ≠ 7 → (chunkOf i.header).step < s.stepNo p → ∃ t, exec (.tallyAdd p true) s = .next t
        ∧ t.hbm = s.hbm ∧ Counted s t (0x521007 + 256 * p.val) 1
        ∧ (t.part p).tally.map (fun j => { j with credited := false })
            = ((s.part p).tally.erase i).map (fun j => { j with credited := false }))
      ∧ (∃ t, exec (.tallyAdd p false) s = .next t ∧ Counted s t 0x702005 1 ∧ OnlyParts [p.val] s t))
  ∧ (∀ (p : Fin 4) b (s : State), (s.part p).tally.find? (·.credited) = none → exec (.tallyAdd p b) s = .next s)

/-- Sending (11 R263, R269): a window opens by the cycle count; a store's report crosses the loom's bridge (01 R18) while both sides run
(17 R411) and is kept for its entry; an entry whose
window is open and whose report has come posts its chunks, to the own tally engines where the own rank is named; CLOSE follows the last
DATA with the row's NONFIN and MAX. Poison in what would be sent is consumed: the job halts (09 R212), and nothing of the entry is
sent (the model's reading, log 54). -/
def Obligations.SendsOfAStep : Prop :=
  (∀ (p : Fin 4) (i : BitVec 8) img w (s : State), (s.part p).image = some img → img.xwins[i.toNat]? = some w → s.computing p = true →
      i.toNat ∉ (s.part p).opened → (s.part p).startCount.toNat + w.opens.toNat ≤ (s.quad (s.lowQuad p)).count.toNat → ∃ t,
      exec (.exchangeWindowOpen p i) s = .next t
    ∧ t.part p = { s.part p with opened := (s.part p).opened ++ [i.toNat] } ∧ OnlyParts [p.val] s t ∧ Only [.parts] s t)
  ∧ (∀ l tag (s : State), tag ∈ (s.loom l).stores → s.quadRuns l.q = true → s.hubStopped (s.loomPart l) = false →
      s.bridgeTakes l 0 = true → ∃ t, exec (.storeReport l tag) s = .next t
    ∧ t.loom l = { s.loom l with stores := (s.loom l).stores.erase tag } ∧ (loomKey l, tag) ∈ (t.part (s.loomPart l)).reports
    ∧ OnlyLooms [l] s t ∧ Only [.objects, .queues, .looms, .parts, .loops] s t)
  ∧ (∀ l tag (s : State), s.quadRuns l.q = false ∨ s.hubStopped (s.loomPart l) = true → exec (.storeReport l tag) s = .next s)
  ∧ (∀ (p : Fin 4) (i : BitVec 16) e w (s : State), (s.part p).ownSends.find? (fun x => x.2 == i.toNat) = some (e, i.toNat) →
      (s.part p).windowAt (sndField e 31 16) (sndField e 47 32) = some w → s.computing p = true →
      sndField e 7 0 ∈ (s.part p).opened →
      (loomKey (loomOfNumber (s.runLooms p) (sndField e 187 176)), BitVec.ofNat 16 (sndField e 207 192)) ∈ (s.part p).reports →
      i.toNat ∉ (s.part p).started → sndField e 175 144 = 1 →
      ∀ c, c = s.sendChunk p e w (sndField e 143 112) →
      ((s.poisonIn p (sndField e 71 64) c.2.1 c.2.2 ≠ 0 ∨ (sndField e 11 8 = 0 ∧ s.rowPoison p (s.stepNo p) (sndField e 63 48) ≠ 0)) →
        s.jobLive p = true → (s.part p).poisoned = false → ∃ t, exec (.sendEntryStart p i) s = .next t ∧ t.jobState p = 7)
      ∧ (s.poisonIn p (sndField e 71 64) c.2.1 c.2.2 = 0 → (sndField e 11 8 = 0 → s.rowPoison p (s.stepNo p) (sndField e 63 48) = 0) →
          s.quiet →
      (sndField e 31 16 ≠ (s.part p).rank → ∀ n, n = 4 * sndField e 31 16 + c.1.chunk % Nat.max 1 (s.part p).paths →
        ∀ b, b = beBytes 64 (chunkBits c.1 % 2 ^ 512) ++ s.readRegion p (sndField e 71 64) c.2.1 c.2.2 → ∃ t,
        exec (.sendEntryStart p i) s = .next t
        ∧ (t.part p).started = (s.part p).started ++ [i.toNat] ∧ Posted t p n b
        ∧ (s.sends p n → PostedLast t p n ((s.part p).qp n).nextPsn b) ∧ OnlyParts [p.val] s t)
      ∧ (sndField e 31 16 = (s.part p).rank → ∀ h, h = BitVec.ofNat 512 (chunkBits c.1) → ∃ t, exec (.sendEntryStart p i) s = .next t
        ∧ (t.part p).started = (s.part p).started ++ [i.toNat]
        ∧ (t.part p).tally.map (fun j => { j with credited := false })
            = (s.part p).tally.map (fun j => { j with credited := false }) ++ [{
                engine := s.homeEngine p (chunkOf h).chunk, header := h
                elems := s.readRegion p (sndField e 71 64) c.2.1 c.2.2, link := none, credited := false }]
        ∧ OnlyParts [p.val] s t)))
  ∧ (∀ (p : Fin 4) (d : BitVec 12) (n : BitVec 16) e i r w (s : State), (s.part p).sendsTo d.toNat n.toNat = (e, i) :: r →
      (s.part p).windowAt d.toNat n.toNat = some w → s.computing p = true → (s.partLooms p).all (·.merged) = true →
      (∀ a ∈ (e, i) :: r, a.2 ∈ (s.part p).started) → (d.toNat, n.toNat) ∉ (s.part p).closed → d.toNat ≠ (s.part p).rank →
      ∀ h, h = { s.ownHeader p 2 (sndField e 11 8) n.toNat (winChunks w) with
        x := if sndField e 11 8 = 0 then s.slotX p (sndField e 63 48) else 0
        nonfin := (s.ephRow p (s.stepNo p) (sndField e 63 48)).nonfin.toNat
        max := (s.ephRow p (s.stepNo p) (sndField e 63 48)).localMax.toNat } →
      (s.rowPoison p (s.stepNo p) (sndField e 63 48) ≠ 0 → s.jobLive p = true → (s.part p).poisoned = false → ∃ t,
        exec (.closeSend p d n) s = .next t ∧ t.jobState p = 7)
      ∧ ∀ k, k = 4 * d.toNat + winChunks w % Nat.max 1 (s.part p).paths → s.rowPoison p (s.stepNo p) (sndField e 63 48) = 0 → ∃ t,
      exec (.closeSend p d n) s = .next t
    ∧ (t.part p).closed = (s.part p).closed ++ [(d.toNat, n.toNat)]
    ∧ Posted t p k (beBytes 64 (chunkBits h % 2 ^ 512))
    ∧ (s.sends p k → PostedLast t p k ((s.part p).qp k).nextPsn (beBytes 64 (chunkBits h % 2 ^ 512)))
    ∧ OnlyParts [p.val] s t)

/-- COMMIT (11 R270 to R272, R279): sent once everything is sent, acknowledged, and every verdict has come; the step is committed when
the COMMIT of every rank is there, and not before. ABORT (11 R273, R274, R276): one of the attempt in progress
discards it and the next attempt is to begin, until the attempts are used up; one after the commit is ignored and
counted (07 R166); one of the next step waits for it; a compiler mistake of a peer halts the job (04 R431). The loops of the attempt
after it are initialised with the abort, also where it is the last, and a wait for rings that it ends is counted (12 R297). The verdicts that are still
owed at an abort come all the same (16 R402), and a marker is withheld where its NONFIN comes from a poisoned entry (09 R212). That an
ABORT which comes before its attempt waits is the model's choice (log 54). -/
def Obligations.StepsCommitOrAbort : Prop :=
  (∀ (p : Fin 4) (s : State), s.computing p = true → (s.partLooms p).all Loom.finished = true → s.allSent p = true →
      s.nonfinPoison p = 0 → s.markersNow p = [] → (∃ r, r < (s.part p).ranks ∧ r ≠ (s.part p).rank) → ∃ t, exec (.commitSend p) s = .next t
    ∧ t.exState p = 2 ∧ (t.part p).committed = (s.part p).committed ∧ (t.part p).commitNs = s.ns
    ∧ (∀ r, r < (s.part p).ranks → r ≠ (s.part p).rank → ((s.part p).peer r).state ≠ 6 →
        Posted t p (4 * r) (beBytes 64 (s.markerBits p 1 0 (s.nonfinTotal p))))
    ∧ OnlyParts [p.val] s t)
  ∧ (∀ (p : Fin 4) (s : State), s.computing p = true → (s.partLooms p).all Loom.finished = true → s.allSent p = true →
      (s.part p).ranks = 1 → (s.part p).rank = 0 → s.nonfinPoison p = 0 → s.nonfinTotal p = 0 → s.markersNow p = [] → ∃ t, exec (.commitSend p) s = .next t
    ∧ t.exState p = 3 ∧ (t.part p).committed = true ∧ (t.part p).skipStep = false
    ∧ t.obj (0x907005 + 256 * p.val) = s.stepNo p % 256 ^ objSize (0x907005 + 256 * p.val))
  ∧ (∀ (p : Fin 4) (s : State), s.allSent p = false → exec (.commitSend p) s = .next s)
  ∧ (∀ (p : Fin 4) h m (s : State), s.markerFits p 1 h m → field m.toNat 495 448 = s.stepNo p → field m.toNat 503 496 = s.attempt p →
      s.exState p = 2 → (∀ n ∈ s.markersNow p, n.rank ≠ pktParty h) →
      ((∀ r, r < (s.part p).ranks → r ≠ pktParty h → ∃ n ∈ s.markersNow p, n.rank = r) → ∃ t, exec (.commitReceive p h m) s = .next t
        ∧ t.exState p = 3 ∧ (t.part p).committed = true
        ∧ t.obj (0x907005 + 256 * p.val) = s.stepNo p % 256 ^ objSize (0x907005 + 256 * p.val))
      ∧ ((∃ r, r < (s.part p).ranks ∧ r ≠ pktParty h ∧ ∀ n ∈ s.markersNow p, n.rank ≠ r) → ∃ t,
        exec (.commitReceive p h m) s = .next t
        ∧ t.exState p = 2 ∧ (t.part p).committed = (s.part p).committed
        ∧ ({ step := s.stepNo p, attempt := s.attempt p, rank := pktParty h, nonfin := BitVec.ofNat 40 (field m.toNat 391 352) }
            : Marker) ∈ (t.part p).markers))
  ∧ (∀ (p : Fin 4) r (s : State), s.exState p = 2 → s.hubStopped p = false →
      (List.range (s.part p).ranks).find? (fun r => !(s.markersNow p).any (fun m => m.rank == r)) = some r →
      (s.part p).commitNs.toNat + s.obj 0x520005 * 1000000 < 2 ^ 64 → ∃ t, exec (.markerTimeout p) s = .next t
    ∧ t.jobState p = 7 ∧ t.obj (0x907008 + 256 * p.val) = 7 ∧ t.exState p = 0
    ∧ (s.part p).commitNs.toNat + s.obj 0x520005 * 1000000 ≤ t.ns.toNat)
  ∧ (∀ (p : Fin 4) h m (s : State), s.markerFits p 2 h m → field m.toNat 495 448 = s.stepNo p → field m.toNat 503 496 = s.attempt p →
      s.exState p ∈ [1, 2, 4] →
      (s.part p).markers.any (fun n => n.step == s.stepNo p && n.attempt == s.attempt p && n.rank == pktParty h) = false →
      (field m.toNat 399 392 ≠ 8 → s.attempt p + 1 < (s.part p).man 111 104 → ∃ t, exec (.abortReceive p h m) s = .next t
        ∧ t.exState p = 4 ∧ t.attempt p = (s.attempt p + 1) % 256 ^ objSize (0x521002 + 256 * p.val)
        ∧ t.stepNo p = s.stepNo p ∧ (t.part p).aborted = true ∧ (t.part p).inStep = false
        ∧ Counted s t (0x521004 + 256 * p.val) 1 ∧ t.obj (0x521005 + 256 * p.val) = field m.toNat 399 392
        ∧ t.obj (0x521006 + 256 * p.val) = pktParty h
        ∧ (∀ l : LoomId, s.loomPart l = p.val → s.loomExists l = true →
            (t.loom l).arrayQ = [] ∧ (t.loom l).eph = [] ∧ (t.loom l).verdicts = (s.loom l).verdicts)
        ∧ OnlyParts [p.val] s t)
      ∧ (field m.toNat 399 392 ≠ 8 → (s.part p).man 111 104 ≤ s.attempt p + 1 → ∃ t, exec (.abortReceive p h m) s = .next t
        ∧ t.jobState p = 7 ∧ t.obj (0x907008 + 256 * p.val) = 5)
      ∧ (field m.toNat 399 392 = 8 → ∃ t, exec (.abortReceive p h m) s = .next t
        ∧ t.jobState p = 7 ∧ t.obj (0x907008 + 256 * p.val) = 0x0C)
      ∧ (∃ t, exec (.abortReceive p h m) s = .next t
        ∧ ((s.part p).filled = true → (s.part p).inStep = false → (s.part p).ringsFull (s.stepNo p) = false →
            Counted s t (0x90700A + 256 * p.val) (s.ns.toNat - (s.part p).filledNs.toNat))
        ∧ (∀ w, (s.part p).ownWindows.filter (fun w => w.role.toNat != 2) = [w] → ∀ n, n = w.n.toNat * (winChunks w + 1) →
            ∀ a, a = s.arrived p (s.attempt p + 1) w → t.cloop (loopId 6 p w.window.toNat) = { CLoop.init with
              issued := BitVec.ofNat 32 n, held := BitVec.ofNat 32 n - BitVec.ofNat 32 a, inFlight := BitVec.ofNat 32 a })))
  ∧ (∀ (p : Fin 4) h m (s : State), s.markerFits p 2 h m →
      (field m.toNat 495 448 = s.stepNo p → s.exState p = 3 → ∃ t, exec (.abortReceive p h m) s = .next t
        ∧ t.exState p = 3 ∧ (∀ k ∈ s.stacksOf p, Counted s t (0x406007 + 256 * k) 1))
      ∧ (field m.toNat 495 448 = s.stepNo p + 1 → (s.part p).markers = [] → (s.part p).early = [] → ∃ t,
        exec (.abortReceive p h m) s = .next t
        ∧ t.exState p = s.exState p ∧ (t.part p).early = [{
            step := s.stepNo p + 1, attempt := field m.toNat 503 496, cause := field m.toNat 399 392, sender := pktParty h }]))

/-- Responses and timers of a queue pair (11 R250 to R253, R278): an ACK releases the packets it covers, a sequence NAK
and a timeout send them again, an RNR NAK delays them, other NAKs and the last timeout in a row fail the path; a late
acknowledgement is sent; packets out of order are answered once, those seen before are acknowledged again. Congestion (11 R248, R252,
R269): a CNP is counted, and one of a rank's queue pair halves the rate towards the peer at most once in 50 µs; 100 µs without one raise it by an eighth of the plan rate; a part
of RoCEv2 that the device lacks is refused, and so is a SEND to a service (12 R287). -/
def Obligations.QueuePairsAndCongestion : Prop :=
  (∀ (p : Fin 4) (h : PktHdr) m (s : State), s.receives p h 1 → ((s.part p).qp (pktQpn h)).unacked = [m] →
      (((s.part p).qp (pktQpn h)).nextPsn - 1 - h.psn).toNat < 2 ^ 23 →
      (∀ k, k = packetsOf m.bytes.length - m.acked → (h.psn - m.lastPsn).toNat < 2 ^ 23 →
        k ≤ (s.cloop (loopId 5 p (pktQpn h))).inFlight.toNat → ∃ t, exec (.ack p h) s = .next t
        ∧ (t.part p).qp (pktQpn h) = { (s.part p).qp (pktQpn h) with unacked := [], timeouts := 0, rnrWait := false }
        ∧ t.cloop (loopId 5 p (pktQpn h)) = { s.cloop (loopId 5 p (pktQpn h)) with
            inFlight := (s.cloop (loopId 5 p (pktQpn h))).inFlight - BitVec.ofNat 32 k
            returned := (s.cloop (loopId 5 p (pktQpn h))).returned + BitVec.ofNat 32 k }
        ∧ OnlyParts [p.val] s t ∧ OnlyLoops [loopId 5 p (pktQpn h), s.queueLoop (0x200 + 2 * (pktLink h / 8))] s t)
      ∧ (∀ k, k = (h.psn - m.firstPsn).toNat + 1 → 2 ^ 23 ≤ (h.psn - m.lastPsn).toNat → k ≤ 2 ^ 23 → m.acked < k → ∃ t,
        exec (.ack p h) s = .next t ∧ ((t.part p).qp (pktQpn h)).unacked = [{ m with acked := k }]))
  ∧ (∀ (p : Fin 4) (h : PktHdr) m (s : State), s.receives p h 1 → ((s.part p).qp (pktQpn h)).unacked = [m] →
      m.acked < packetsOf m.bytes.length → ∃ t, exec (.nak p h .sequence) s = .next t
    ∧ (t.part p).qp (pktQpn h) = { (s.part p).qp (pktQpn h) with timeouts := 0 }
    ∧ Counted s t (0x522005 + 256 * (((s.part p).qp (pktQpn h)).link.toNat / 8)) (packetsOf m.bytes.length - m.acked)
    ∧ (s.sends p (pktQpn h) → PostedLast t p (pktQpn h) (m.firstPsn + BitVec.ofNat 24 m.acked) (m.bytes.drop (4096 * m.acked))))
  ∧ (∀ (p : Fin 4) (h : PktHdr) c (s : State), s.receives p h 1 → c ≠ .sequence → (s.part p).rankQp (pktQpn h) = true → ∃ t,
      exec (.nak p h c) s = .next t
    ∧ Counted s t (0x521009 + 256 * p.val) 1
    ∧ (((s.part p).peer (pktQpn h / 4)).state = 4 → ((t.part p).peer (pktQpn h / 4)).state = 6))
  ∧ (∀ (p : Fin 4) (h : PktHdr) (s : State), s.receives p h 1 → ((s.part p).qp (pktQpn h)).unacked ≠ [] → ∃ t,
      exec (.rnrNak p h) s = .next t
    ∧ (t.part p).qp (pktQpn h) = { (s.part p).qp (pktQpn h) with timeouts := 0, rnrWait := true } ∧ OnlyParts [p.val] s t)
  ∧ (∀ (p : Fin 4) (n : BitVec 24) m (s : State), s.qpRuns p n.toNat = true → ((s.part p).qp n.toNat).rnrWait = true →
      ((s.part p).qp n.toNat).unacked = [m] → m.acked < packetsOf m.bytes.length → ∃ t, exec (.rnrRetry p n) s = .next t
    ∧ (t.part p).qp n.toNat = { (s.part p).qp n.toNat with rnrWait := false }
    ∧ (s.sends p n.toNat → PostedLast t p n.toNat (m.firstPsn + BitVec.ofNat 24 m.acked) (m.bytes.drop (4096 * m.acked))))
  ∧ (∀ (p : Fin 4) (n : BitVec 24) m (s : State), s.qpRuns p n.toNat = true → ((s.part p).qp n.toNat).rnrWait = false →
      ((s.part p).qp n.toNat).unacked = [m] → m.acked < packetsOf m.bytes.length →
      (((s.part p).qp n.toNat).timeouts + 1 < s.obj 0x520002 → ∃ t, exec (.rtoExpiry p n) s = .next t
        ∧ (t.part p).qp n.toNat = { (s.part p).qp n.toNat with timeouts := ((s.part p).qp n.toNat).timeouts + 1 }
        ∧ (s.sends p n.toNat → PostedLast t p n.toNat (m.firstPsn + BitVec.ofNat 24 m.acked) (m.bytes.drop (4096 * m.acked))))
      ∧ (s.obj 0x520002 ≤ ((s.part p).qp n.toNat).timeouts + 1 → (s.part p).rankQp n.toNat = true → ∃ t,
        exec (.rtoExpiry p n) s = .next t ∧ Counted s t (0x521009 + 256 * p.val) 1
        ∧ (((s.part p).peer (n.toNat / 4)).state = 4 → ((t.part p).peer (n.toNat / 4)).state = 6)))
  ∧ (∀ (p : Fin 4) (n : BitVec 24) (s : State), ((s.part p).qp n.toNat).live = true → ((s.part p).qp n.toNat).owedAcks ≠ 0 → ∃ t,
      exec (.ackCoalesceExpiry p n) s = .next t
    ∧ (t.part p).qp n.toNat = { (s.part p).qp n.toNat with owedAcks := 0 } ∧ OnlyParts [p.val] s t
    ∧ (s.sends p n.toNat → ∃ w, t.out.head? = some (.ack p w (BitVec.ofNat 24 n.toNat) (((s.part p).qp n.toNat).expPsn - 1))))
  ∧ (∀ (p : Fin 4) (h : PktHdr) (s : State), s.receives p h 1 → (s.part p).rankQp (pktQpn h) = false → ∃ t, exec (.cnp p h) s = .next t
    ∧ Counted s t (0x522008 + 256 * (pktPort h).val) 1 ∧ (∀ r, (t.part p).pace r = (s.part p).pace r) ∧ OnlyParts [p.val] s t)
  ∧ (∀ (p : Fin 4) (h : PktHdr) v (s : State), s.receives p h 1 → (s.part p).rankQp (pktQpn h) = true →
      v = (s.part p).pace (pktQpn h / 4) → ∃ t, exec (.cnp p h) s = .next t
    ∧ (if (match v.lastHalf with | none => true | some u => decide (u.toNat + 50000 ≤ s.ns.toNat)) then
        (t.part p).pace (pktQpn h / 4) = { v with
          num := if v.num * 32 ≤ 2 ^ v.shift then 1 else v.num, shift := if v.num * 32 ≤ 2 ^ v.shift then 6 else v.shift + 1
          lastHalf := some s.ns, lastCnp := s.ns }
       else (t.part p).pace (pktQpn h / 4) = { v with lastCnp := s.ns })
    ∧ (∀ r, r ≠ pktQpn h / 4 → (t.part p).pace r = (s.part p).pace r)
    ∧ Counted s t (0x522008 + 256 * (pktPort h).val) 1 ∧ OnlyParts [p.val] s t)
  ∧ (∀ (p : Fin 4) (r : BitVec 12) v (s : State), v = (s.part p).pace r.toNat → v.num < 2 ^ v.shift → s.hubStopped p = false →
      v.lastCnp.toNat + 100000 < 2 ^ 64 → ∃ t, exec (.rateRecovery p r) s = .next t
    ∧ (t.part p).pace r.toNat = { v with
        num := if 8 * 2 ^ v.shift ≤ 8 * v.num + 2 ^ v.shift then 1 else 8 * v.num + 2 ^ v.shift
        shift := if 8 * 2 ^ v.shift ≤ 8 * v.num + 2 ^ v.shift then 0 else v.shift + 3
        lastCnp := t.ns }
    ∧ v.lastCnp.toNat + 100000 ≤ t.ns.toNat ∧ OnlyParts [p.val] s t ∧ Only [.time, .parts] s t)
  ∧ (∀ (p : Fin 4) (r : BitVec 12) (s : State), s.hubStopped p = true → exec (.rateRecovery p r) s = .next s)
  ∧ (∀ (p : Fin 4) h (s : State), s.inOrder p h 1 →
      (((s.part p).ranks ≤ pktParty h ∧ pktParty h < (s.part p).parties) → ∃ t, exec (.unsupportedRequest p h) s = .next t
        ∧ Counted s t (0x90700B + 256 * p.val) 1 ∧ Counted s t (0x522006 + 256 * (pktPort h).val) 1 ∧ (t.part p).qps = (s.part p).qps
        ∧ (s.sends p (pktQpn h) → ∃ w, t.out.head? = some (.nak p w (BitVec.ofNat 24 (pktQpn h)) h.psn 2)))
      ∧ (¬((s.part p).ranks ≤ pktParty h ∧ pktParty h < (s.part p).parties) → ∃ t, exec (.unsupportedRequest p h) s = .next t
        ∧ Counted s t (0x522006 + 256 * (pktPort h).val) 1 ∧ (t.part p).qps = (s.part p).qps ∧ OnlyParts [p.val] s t
        ∧ (s.sends p (pktQpn h) → ∃ w, t.out.head? = some (.nak p w (BitVec.ofNat 24 (pktQpn h)) h.psn 1))))
  ∧ (∀ (p : Fin 4) h (s : State), s.receives p h 1 → ∀ d, d = (h.psn - ((s.part p).qp (pktQpn h)).expPsn).toNat →
      (d ≠ 0 → d < 2 ^ 23 → ((s.part p).qp (pktQpn h)).nakSent = false → ∃ t, exec (.unsupportedRequest p h) s = .next t
        ∧ (t.part p).qp (pktQpn h) = { (s.part p).qp (pktQpn h) with nakSent := true }
        ∧ Counted s t (0x522006 + 256 * (pktPort h).val) 1
        ∧ (s.sends p (pktQpn h) → ∃ w,
            t.out.head? = some (.nak p w (BitVec.ofNat 24 (pktQpn h)) ((s.part p).qp (pktQpn h)).expPsn 0)))
      ∧ (d ≠ 0 → d < 2 ^ 23 → ((s.part p).qp (pktQpn h)).nakSent = true → ∃ t, exec (.unsupportedRequest p h) s = .next t
        ∧ t.out = s.out ∧ (t.part p).qps = (s.part p).qps)
      ∧ (2 ^ 23 ≤ d → ∃ t, exec (.unsupportedRequest p h) s = .next t
        ∧ (t.part p).qps = (s.part p).qps
        ∧ (s.sends p (pktQpn h) → ∃ w,
            t.out.head? = some (.ack p w (BitVec.ofNat 24 (pktQpn h)) (((s.part p).qp (pktQpn h)).expPsn - 1)))))
end

