-- ==== Sys2Proof/Laws/Sparse.lean ====
section
/-! SUPPORT. What reading and writing a sparse map does, and that every write keeps the canonical form. -/

namespace Sys2Proof

section
variable {β : Type} {d : β} {m : SMap β} {k : Nat}

@[simp] theorem SMap.get_nil : SMap.get d [] k = d := rfl

theorem SMap.get_drop (p : Nat → Bool) : SMap.get d (SMap.drop p m) k = if p k then d else SMap.get d m k := by
  induction m with
  | nil => simp [SMap.drop, SMap.get]
  | cons e t ih =>
    obtain ⟨a, w⟩ := e
    simp only [SMap.drop, List.filter_cons] at ih ⊢
    by_cases hk : k = a
    · subst hk
      cases h : p k <;> simp [h, SMap.get] at ih ⊢
      exact ih
    · cases h : p a <;> simp [SMap.get, hk, ih]

end

section
variable {β : Type} [DecidableEq β] {d v : β} {m : SMap β} {k j : Nat} {lo lo' : Option Nat}

@[simp] theorem SMap.get_set_same : SMap.get d (SMap.set d m k v) k = v := by
  induction m with
  | nil => by_cases h : v = d <;> simp [SMap.set, SMap.get, h]
  | cons e t ih =>
    obtain ⟨a, w⟩ := e
    unfold SMap.set
    by_cases h1 : k < a
    · by_cases h : v = d
      · have : k ≠ a := by omega
        simp [h1, h, SMap.get, this, SMap.get_drop]
      · simp [h1, h, SMap.get]
    · by_cases h2 : k = a
      · by_cases h : v = d
        · simp [h2, h, SMap.get_drop]
        · simp [h2, h, SMap.get]
      · simp [h1, h2, SMap.get, ih]

/-- Another key reads as before, whatever the default the write went by. -/
theorem SMap.get_set_other {e : β} (hj : j ≠ k) : SMap.get e (SMap.set d m k v) j = SMap.get e m j := by
  induction m with
  | nil => by_cases h : v = d <;> simp [SMap.set, SMap.get, h, hj]
  | cons e t ih =>
    obtain ⟨a, w⟩ := e
    unfold SMap.set
    by_cases h1 : k < a
    · by_cases h : v = d <;> simp [h1, h, SMap.get, hj, SMap.get_drop]
    · by_cases h2 : k = a
      · subst h2
        by_cases h : v = d <;> simp [h, SMap.get, hj, SMap.get_drop]
      · simp [h1, h2, SMap.get, ih]

theorem SMap.get_set (j : Nat) : SMap.get d (SMap.set d m k v) j = if j = k then v else SMap.get d m j := by
  by_cases h : j = k
  · subst h; simp
  · simp [h, SMap.get_set_other h]

/-- A smaller lower bound is easier to meet. -/
theorem SMap.wfAbove_mono (h : SMap.wfAbove d lo m) (hl : ∀ a, keyAbove lo a → keyAbove lo' a) :
    SMap.wfAbove d lo' m := by
  cases m with
  | nil => rfl
  | cons e t =>
    obtain ⟨a, w⟩ := e
    simp only [SMap.wfAbove, Bool.and_eq_true] at h ⊢
    exact ⟨⟨hl a h.1.1, h.1.2⟩, h.2⟩

theorem keyAbove_trans {a b : Nat} (h : keyAbove lo a) (hb : a < b) : keyAbove lo b := by
  cases lo with
  | none => rfl
  | some l => simp only [keyAbove, decide_eq_true_eq] at h ⊢; omega

theorem SMap.wfAbove_drop (p : Nat → Bool) (h : SMap.wfAbove d lo m) : SMap.wfAbove d lo (SMap.drop p m) := by
  induction m generalizing lo with
  | nil => rfl
  | cons e t ih =>
    obtain ⟨a, w⟩ := e
    simp only [SMap.wfAbove, Bool.and_eq_true] at h
    simp only [SMap.drop, List.filter_cons]
    cases hp : p a
    · simp only [Bool.not_false, if_true, SMap.wfAbove, Bool.and_eq_true]
      exact ⟨h.1, ih h.2⟩
    · simp only [Bool.not_true, Bool.false_eq_true, if_false]
      exact SMap.wfAbove_mono (ih h.2)
        (fun b hb => keyAbove_trans h.1.1 (by simpa only [keyAbove, decide_eq_true_eq] using hb))

theorem SMap.wfAbove_set (h : SMap.wfAbove d lo m) (hk : keyAbove lo k) :
    SMap.wfAbove d lo (SMap.set d m k v) := by
  induction m generalizing lo with
  | nil => by_cases hv : v = d <;> simp [SMap.set, hv, SMap.wfAbove, hk]
  | cons e t ih =>
    obtain ⟨a, w⟩ := e
    simp only [SMap.wfAbove, Bool.and_eq_true] at h
    unfold SMap.set
    by_cases h1 : k < a
    · by_cases hv : v = d
      · simp only [h1, hv, if_true, SMap.wfAbove, Bool.and_eq_true]
        exact ⟨h.1, SMap.wfAbove_drop _ h.2⟩
      · simp only [h1, hv, if_true, if_false, SMap.wfAbove, Bool.and_eq_true, decide_eq_true_eq]
        exact ⟨⟨hk, hv⟩, ⟨by simpa [keyAbove] using h1, of_decide_eq_true h.1.2⟩, h.2⟩
    · by_cases h2 : k = a
      · subst h2
        by_cases hv : v = d
        · simp only [h1, hv, if_true, if_false]
          exact SMap.wfAbove_mono (SMap.wfAbove_drop _ h.2)
            (fun b hb => keyAbove_trans hk (by simpa only [keyAbove, decide_eq_true_eq] using hb))
        · simp only [h1, hv, if_true, if_false, SMap.wfAbove, Bool.and_eq_true, decide_eq_true_eq]
          exact ⟨⟨hk, hv⟩, h.2⟩
      · simp only [h1, h2, if_false, SMap.wfAbove, Bool.and_eq_true]
        refine ⟨h.1, ih h.2 ?_⟩
        simp only [keyAbove, decide_eq_true_eq]
        omega

/-- Writing keeps the canonical form. -/
theorem SMap.wf_set (h : SMap.wf d m) : SMap.wf d (SMap.set d m k v) :=
  SMap.wfAbove_set h rfl

/-- Dropping entries keeps the canonical form. -/
theorem SMap.wf_drop (p : Nat → Bool) (h : SMap.wf d m) : SMap.wf d (SMap.drop p m) := SMap.wfAbove_drop p h

end

end Sys2Proof
end

