-- ==== Sys2Proof/Laws/State.lean ====
section
/-! SUPPORT. Updating some fields of the state leaves every other area as it was; the same through conditionals and folds. -/

namespace Sys2Proof.Machine

open Sys2Proof

variable {ar : Area}

theorem view_ite (c : Prop) [Decidable c] (a b : State) : view ar (if c then a else b) = if c then view ar a else
    view ar b := by
  split <;> rfl
theorem view_foldl {α : Type} {f : State → α → State} (h : ∀ t a, view ar (f t a) = view ar t) (l : List α) (s :
    State) :
    view ar (l.foldl f s) = view ar s := by
  induction l generalizing s with
  | nil => rfl
  | cons a t ih => rw [List.foldl_cons, ih, h]
theorem view_pair_ite {α : Type} (c : Prop) [Decidable c] (a b : State × α) : view ar (if c then a else b).1 = if c
    then view ar a.1 else view ar b.1 := by
  split <;> rfl
theorem view_pair_ite2 {α : Type} (c : Prop) [Decidable c] (a b : Nat × State × α) : view ar (if c then a else
    b).2.1 = if c then view ar a.2.1 else view ar b.2.1 := by
  split <;> rfl

theorem view_upd_parts (hA : ar ∉ [Area.parts]) (s : State) (x0 : SMap Part) :
    view ar { s with parts := x0 } = view ar s := by
  cases ar <;> first | rfl | simp at hA

theorem view_upd_quads (hA : ar ∉ [Area.quads]) (s : State) (x0 : SMap Quad) :
    view ar { s with quads := x0 } = view ar s := by
  cases ar <;> first | rfl | simp at hA

theorem view_upd_stackCtl (hA : ar ∉ [Area.stackCtl]) (s : State) (x0 : SMap Stack) :
    view ar { s with stackCtl := x0 } = view ar s := by
  cases ar <;> first | rfl | simp at hA

theorem view_upd_links (hA : ar ∉ [Area.links]) (s : State) (x0 : SMap Link) :
    view ar { s with links := x0 } = view ar s := by
  cases ar <;> first | rfl | simp at hA

theorem view_upd_nodes (hA : ar ∉ [Area.nodes]) (s : State) (x0 : SMap Node) :
    view ar { s with nodes := x0 } = view ar s := by
  cases ar <;> first | rfl | simp at hA

theorem view_upd_dcqs (hA : ar ∉ [Area.queues]) (s : State) (x0 : SMap Dcq) :
    view ar { s with dcqs := x0 } = view ar s := by
  cases ar <;> first | rfl | simp at hA

theorem view_upd_cloops (hA : ar ∉ [Area.loops]) (s : State) (x0 : SMap CLoop) :
    view ar { s with cloops := x0 } = view ar s := by
  cases ar <;> first | rfl | simp at hA

theorem view_upd_sources (hA : ar ∉ [Area.sources]) (s : State) (x0 : SMap Source) :
    view ar { s with sources := x0 } = view ar s := by
  cases ar <;> first | rfl | simp at hA

theorem view_upd_stewards (hA : ar ∉ [Area.stewards]) (s : State) (x0 : SMap Steward) :
    view ar { s with stewards := x0 } = view ar s := by
  cases ar <;> first | rfl | simp at hA

theorem view_upd_looms (hA : ar ∉ [Area.looms]) (s : State) (x0 : SMap Loom) :
    view ar { s with looms := x0 } = view ar s := by
  cases ar <;> first | rfl | simp at hA

theorem view_upd_objs (hA : ar ∉ [Area.objects]) (s : State) (x0 : SMap Nat) :
    view ar { s with objs := x0 } = view ar s := by
  cases ar <;> first | rfl | simp at hA

theorem view_upd_inForce (hA : ar ∉ [Area.inForce]) (s : State) (x0 : SMap Nat) :
    view ar { s with inForce := x0 } = view ar s := by
  cases ar <;> first | rfl | simp at hA

theorem view_upd_ns (hA : ar ∉ [Area.time]) (s : State) (x0 : BitVec 64) :
    view ar { s with ns := x0 } = view ar s := by
  cases ar <;> first | rfl | simp at hA

theorem view_upd_fresh (hA : ar ∉ [Area.free]) (s : State) (x0 : Nat) :
    view ar { s with fresh := x0 } = view ar s := by
  cases ar <;> first | rfl | simp at hA

theorem view_upd_out (hA : ar ∉ [Area.sent]) (s : State) (x0 : List Out) :
    view ar { s with out := x0 } = view ar s := by
  cases ar <;> first | rfl | simp at hA

theorem view_upd_notifySeq (hA : ar ∉ [Area.notices]) (s : State) (x0 : BitVec 16) :
    view ar { s with notifySeq := x0 } = view ar s := by
  cases ar <;> first | rfl | simp at hA

theorem view_upd_notices (hA : ar ∉ [Area.notices]) (s : State) (x0 : List Notice) :
    view ar { s with notices := x0 } = view ar s := by
  cases ar <;> first | rfl | simp at hA

theorem view_upd_fresh_log (hA : ar ∉ [Area.free, Area.log]) (s : State) (x0 : Nat) (x1 : List Rec) :
    view ar { s with fresh := x0, log := x1 } = view ar s := by
  cases ar <;> first | rfl | simp at hA

theorem view_upd_log (hA : ar ∉ [Area.log]) (s : State) (x0 : List Rec) :
    view ar { s with log := x0 } = view ar s := by
  cases ar <;> first | rfl | simp at hA

theorem view_upd_mergedNow (hA : ar ∉ [Area.log]) (s : State) (x0 : List Nat) :
    view ar { s with mergedNow := x0 } = view ar s := by
  cases ar <;> first | rfl | simp at hA

theorem view_upd_traceRing (hA : ar ∉ [Area.trace]) (s : State) (x0 : SMap (BitVec 256)) :
    view ar { s with traceRing := x0 } = view ar s := by
  cases ar <;> first | rfl | simp at hA

theorem view_upd_counters (hA : ar ∉ [Area.counters]) (s : State) (x0 : SMap (BitVec 48)) :
    view ar { s with counters := x0 } = view ar s := by
  cases ar <;> first | rfl | simp at hA

theorem view_upd_owedStalls (hA : ar ∉ [Area.counters]) (s : State) (x0 : SMap (List OwedStall)) :
    view ar { s with owedStalls := x0 } = view ar s := by
  cases ar <;> first | rfl | simp at hA

theorem view_upd_macTime (hA : ar ∉ [Area.held]) (s : State) (x0 : Option (BitVec 64)) :
    view ar { s with macTime := x0 } = view ar s := by
  cases ar <;> first | rfl | simp at hA

theorem view_upd_hbm_hbmPoison (hA : ar ∉ [Area.hbm, Area.poison]) (s : State) (x0 : List Host.Cell) (x1 : SMap
    Bool) :
    view ar { s with hbm := x0, hbmPoison := x1 } = view ar s := by
  cases ar <;> first | rfl | simp at hA

theorem view_upd_sec_tests_quads_looms_held_cloops_bridgeBufs_bridgeAir_owedStalls_stalls (hA : ar ∉ [Area.security,
    Area.tests, Area.quads, Area.looms, Area.held, Area.loops, Area.bridges, Area.counters]) (s : State) (x0 : Security)
    (x1 : List FTest) (x2 : SMap Quad) (x3 : SMap Loom) (x4 : List HeldPacket) (x5 : SMap CLoop) (x6 : SMap (List
    FWord)) (x7 : SMap (List FWord)) (x8 : SMap (List OwedStall)) (x9 : SMap (Nat × BitVec 64)) :
    view ar { s with sec := x0, tests := x1, quads := x2, looms := x3, held := x4, cloops := x5, bridgeBufs := x6, bridgeAir := x7, owedStalls := x8, stalls := x9 } = view ar s := by
  cases ar <;> first | rfl | simp at hA

theorem view_upd_sealArmed (hA : ar ∉ [Area.seal]) (s : State) (x0 : Bool) :
    view ar { s with sealArmed := x0 } = view ar s := by
  cases ar <;> first | rfl | simp at hA

theorem view_upd_flash_hbmPoison (hA : ar ∉ [Area.flash, Area.poison]) (s : State) (x0 : Flash) (x1 : SMap Bool) :
    view ar { s with flash := x0, hbmPoison := x1 } = view ar s := by
  cases ar <;> first | rfl | simp at hA

theorem view_upd_stalls (hA : ar ∉ [Area.counters]) (s : State) (x0 : SMap (Nat × BitVec 64)) :
    view ar { s with stalls := x0 } = view ar s := by
  cases ar <;> first | rfl | simp at hA

theorem view_upd_drooped (hA : ar ∉ [Area.sensors]) (s : State) (x0 : Bool) :
    view ar { s with drooped := x0 } = view ar s := by
  cases ar <;> first | rfl | simp at hA

theorem view_upd_phase (hA : ar ∉ [Area.phase]) (s : State) (x0 : Nat) :
    view ar { s with phase := x0 } = view ar s := by
  cases ar <;> first | rfl | simp at hA

theorem view_upd_held (hA : ar ∉ [Area.held]) (s : State) (x0 : List HeldPacket) :
    view ar { s with held := x0 } = view ar s := by
  cases ar <;> first | rfl | simp at hA

theorem view_upd_bridgeAir (hA : ar ∉ [Area.bridges]) (s : State) (x0 : SMap (List FWord)) :
    view ar { s with bridgeAir := x0 } = view ar s := by
  cases ar <;> first | rfl | simp at hA

theorem view_upd_bridgeBufs (hA : ar ∉ [Area.bridges]) (s : State) (x0 : SMap (List FWord)) :
    view ar { s with bridgeBufs := x0 } = view ar s := by
  cases ar <;> first | rfl | simp at hA

theorem view_upd_latchAt (hA : ar ∉ [Area.latched]) (s : State) (x0 : Option (BitVec 64)) :
    view ar { s with latchAt := x0 } = view ar s := by
  cases ar <;> first | rfl | simp at hA

theorem view_upd_latched_latchAt (hA : ar ∉ [Area.latched]) (s : State) (x0 : SMap (BitVec 48)) (x1 : Option (BitVec
    64)) :
    view ar { s with latched := x0, latchAt := x1 } = view ar s := by
  cases ar <;> first | rfl | simp at hA

theorem view_upd_scans (hA : ar ∉ [Area.scans]) (s : State) (x0 : SMap (List Nat)) :
    view ar { s with scans := x0 } = view ar s := by
  cases ar <;> first | rfl | simp at hA

theorem view_upd_hangSnap (hA : ar ∉ [Area.hang]) (s : State) (x0 : SMap Nat) :
    view ar { s with hangSnap := x0 } = view ar s := by
  cases ar <;> first | rfl | simp at hA

theorem view_upd_flash_sec (hA : ar ∉ [Area.flash, Area.security]) (s : State) (x0 : Flash) (x1 : Security) :
    view ar { s with flash := x0, sec := x1 } = view ar s := by
  cases ar <;> first | rfl | simp at hA

theorem view_upd_flash (hA : ar ∉ [Area.flash]) (s : State) (x0 : Flash) :
    view ar { s with flash := x0 } = view ar s := by
  cases ar <;> first | rfl | simp at hA

theorem view_upd_timeLocked_ns (hA : ar ∉ [Area.power, Area.time]) (s : State) (x0 : Bool) (x1 : BitVec 64) :
    view ar { s with timeLocked := x0, ns := x1 } = view ar s := by
  cases ar <;> first | rfl | simp at hA

theorem view_upd_identityOk_sec (hA : ar ∉ [Area.bringUp, Area.security]) (s : State) (x0 : Bool) (x1 : Security) :
    view ar { s with identityOk := x0, sec := x1 } = view ar s := by
  cases ar <;> first | rfl | simp at hA

theorem view_upd_romHold (hA : ar ∉ [Area.power]) (s : State) (x0 : Bool) :
    view ar { s with romHold := x0 } = view ar s := by
  cases ar <;> first | rfl | simp at hA

theorem view_upd_objs_inForce (hA : ar ∉ [Area.objects, Area.inForce]) (s : State) (x0 : SMap Nat) (x1 : SMap Nat) :
    view ar { s with objs := x0, inForce := x1 } = view ar s := by
  cases ar <;> first | rfl | simp at hA

theorem view_upd_stepStart (hA : ar ∉ [Area.bringUp]) (s : State) (x0 : SMap Nat) :
    view ar { s with stepStart := x0 } = view ar s := by
  cases ar <;> first | rfl | simp at hA

theorem view_upd_fwUp_stepStart_flash (hA : ar ∉ [Area.power, Area.bringUp, Area.flash]) (s : State) (x0 : Bool) (x1
    : SMap Nat) (x2 : Flash) :
    view ar { s with fwUp := x0, stepStart := x1, flash := x2 } = view ar s := by
  cases ar <;> first | rfl | simp at hA

theorem view_upd_applyWaits (hA : ar ∉ [Area.bringUp]) (s : State) (x0 : Option (Nat × List Nat)) :
    view ar { s with applyWaits := x0 } = view ar s := by
  cases ar <;> first | rfl | simp at hA

theorem view_upd_phase_pllsOn_clockNs_quads (hA : ar ∉ [Area.power, Area.phase, Area.quads]) (s : State) (x0 : Nat)
    (x1 : Bool) (x2 : BitVec 64) (x3 : SMap Quad) :
    view ar { s with phase := x0, pllsOn := x1, clockNs := x2, quads := x3 } = view ar s := by
  cases ar <;> first | rfl | simp at hA

theorem view_upd_hbmLeft (hA : ar ∉ [Area.bringUp]) (s : State) (x0 : List (Fin 20)) :
    view ar { s with hbmLeft := x0 } = view ar s := by
  cases ar <;> first | rfl | simp at hA

theorem view_upd_bistGroup (hA : ar ∉ [Area.bringUp]) (s : State) (x0 : Option (Fin 8)) :
    view ar { s with bistGroup := x0 } = view ar s := by
  cases ar <;> first | rfl | simp at hA

theorem view_upd_katRound_katQuads_katTries (hA : ar ∉ [Area.bringUp]) (s : State) (x0 : Nat) (x1 : List (Fin 4))
    (x2 : SMap Nat) :
    view ar { s with katRound := x0, katQuads := x1, katTries := x2 } = view ar s := by
  cases ar <;> first | rfl | simp at hA

theorem view_upd_pllsOn (hA : ar ∉ [Area.power]) (s : State) (x0 : Bool) :
    view ar { s with pllsOn := x0 } = view ar s := by
  cases ar <;> first | rfl | simp at hA

theorem view_upd_hbmLeft_flash (hA : ar ∉ [Area.bringUp, Area.flash]) (s : State) (x0 : List (Fin 20)) (x1 : Flash)
    :
    view ar { s with hbmLeft := x0, flash := x1 } = view ar s := by
  cases ar <;> first | rfl | simp at hA

theorem view_upd_katRound_katQuads (hA : ar ∉ [Area.bringUp]) (s : State) (x0 : Nat) (x1 : List (Fin 4)) :
    view ar { s with katRound := x0, katQuads := x1 } = view ar s := by
  cases ar <;> first | rfl | simp at hA

theorem view_upd_hotNow_wasOutside_warned_tjSecond_warmNow_drooped_assayGap (hA : ar ∉ [Area.sensors]) (s : State)
    (x0 : Bool) (x1 : Bool) (x2 : Bool) (x3 : BitVec 16) (x4 : Bool) (x5 : Bool) (x6 : Bool) :
    view ar { s with hotNow := x0, wasOutside := x1, warned := x2, tjSecond := x3, warmNow := x4, drooped := x5, assayGap := x6 } = view ar s := by
  cases ar <;> first | rfl | simp at hA

theorem view_upd_tjSecond (hA : ar ∉ [Area.sensors]) (s : State) (x0 : BitVec 16) :
    view ar { s with tjSecond := x0 } = view ar s := by
  cases ar <;> first | rfl | simp at hA

theorem view_upd_warmNow (hA : ar ∉ [Area.sensors]) (s : State) (x0 : Bool) :
    view ar { s with warmNow := x0 } = view ar s := by
  cases ar <;> first | rfl | simp at hA

theorem view_upd_warned_warmNow (hA : ar ∉ [Area.sensors]) (s : State) (x0 : Bool) (x1 : Bool) :
    view ar { s with warned := x0, warmNow := x1 } = view ar s := by
  cases ar <;> first | rfl | simp at hA

theorem view_upd_hotNow (hA : ar ∉ [Area.sensors]) (s : State) (x0 : Bool) :
    view ar { s with hotNow := x0 } = view ar s := by
  cases ar <;> first | rfl | simp at hA

theorem view_upd_pllsOn_trip_bistGroup_hbmLeft_katRound_katQuads_hbm_hbmPoison_scans (hA : ar ∉ [Area.power,
    Area.bringUp, Area.hbm, Area.poison, Area.scans]) (s : State) (x0 : Bool) (x1 : Bool) (x2 : Option (Fin 8)) (x3 :
    List (Fin 20)) (x4 : Nat) (x5 : List (Fin 4)) (x6 : List Host.Cell) (x7 : SMap Bool) (x8 : SMap (List Nat)) :
    view ar { s with pllsOn := x0, trip := x1, bistGroup := x2, hbmLeft := x3, katRound := x4, katQuads := x5, hbm := x6, hbmPoison := x7, scans := x8 } = view ar s := by
  cases ar <;> first | rfl | simp at hA

theorem view_upd_sec (hA : ar ∉ [Area.security]) (s : State) (x0 : Security) :
    view ar { s with sec := x0 } = view ar s := by
  cases ar <;> first | rfl | simp at hA

theorem view_upd_romHold_flash (hA : ar ∉ [Area.power, Area.flash]) (s : State) (x0 : Bool) (x1 : Flash) :
    view ar { s with romHold := x0, flash := x1 } = view ar s := by
  cases ar <;> first | rfl | simp at hA

theorem view_upd_fresh_sec (hA : ar ∉ [Area.free, Area.security]) (s : State) (x0 : Nat) (x1 : Security) :
    view ar { s with fresh := x0, sec := x1 } = view ar s := by
  cases ar <;> first | rfl | simp at hA

theorem view_upd_assayGap (hA : ar ∉ [Area.sensors]) (s : State) (x0 : Bool) :
    view ar { s with assayGap := x0 } = view ar s := by
  cases ar <;> first | rfl | simp at hA

theorem view_upd_tests (hA : ar ∉ [Area.tests]) (s : State) (x0 : List FTest) :
    view ar { s with tests := x0 } = view ar s := by
  cases ar <;> first | rfl | simp at hA

theorem view_upd_buffered (hA : ar ∉ [Area.buffered]) (s : State) (x0 : List (Nat × Nat)) :
    view ar { s with buffered := x0 } = view ar s := by
  cases ar <;> first | rfl | simp at hA

theorem view_upd_collided (hA : ar ∉ [Area.collision]) (s : State) (x0 : Bool) :
    view ar { s with collided := x0 } = view ar s := by
  cases ar <;> first | rfl | simp at hA

theorem view_upd_collided_mergedNow (hA : ar ∉ [Area.collision, Area.log]) (s : State) (x0 : Bool) (x1 : List Nat) :
    view ar { s with collided := x0, mergedNow := x1 } = view ar s := by
  cases ar <;> first | rfl | simp at hA

theorem view_upd_pending (hA : ar ∉ [Area.queue]) (s : State) (x0 : List Instr) :
    view ar { s with pending := x0 } = view ar s := by
  cases ar <;> first | rfl | simp at hA

theorem view_upd_notifySeq_notices (hA : ar ∉ [Area.notices]) (s : State) (x0 : BitVec 16) (x1 : List Notice) :
    view ar { s with notifySeq := x0, notices := x1 } = view ar s := by
  cases ar <;> first | rfl | simp at hA

end Sys2Proof.Machine
end

