-- ==== Sys2Proof/Laws/FramesOps.lean ====
section
/-! SUPPORT. For each shared operation, what the operations on objects, records, time, credits, frames, containment, controllers, clocks and memories leave unchanged: an area that
the operation's list does not name keeps its contents. -/

namespace Sys2Proof.Machine

open Sys2Proof Host

variable {ar : Area}

theorem view_setPart (hA : ar ∉ [Area.parts]) (s : State) (p : Nat) (x : Part) : view ar (State.setPart s p x) =
    view ar s := by
  simp only [List.mem_cons, List.not_mem_nil, or_false] at hA
  unfold State.setPart
  simp [hA, view_upd_parts]

theorem view_modPart (hA : ar ∉ [Area.parts]) (s : State) (p : Nat) (f : Part → Part) : view ar (State.modPart s p
    f) = view ar s := by
  simp only [List.mem_cons, List.not_mem_nil, or_false] at hA
  unfold State.modPart
  simp [hA, view_setPart]

theorem view_setQuad (hA : ar ∉ [Area.quads]) (s : State) (q : Nat) (x : Quad) : view ar (State.setQuad s q x) =
    view ar s := by
  simp only [List.mem_cons, List.not_mem_nil, or_false] at hA
  unfold State.setQuad
  simp [hA, view_upd_quads]

theorem view_setStack (hA : ar ∉ [Area.stackCtl]) (s : State) (k : Nat) (x : Stack) : view ar (State.setStack s k x)
    = view ar s := by
  simp only [List.mem_cons, List.not_mem_nil, or_false] at hA
  unfold State.setStack
  simp [hA, view_upd_stackCtl]

theorem view_setLink (hA : ar ∉ [Area.links]) (s : State) (k : Nat) (x : Link) : view ar (State.setLink s k x) =
    view ar s := by
  simp only [List.mem_cons, List.not_mem_nil, or_false] at hA
  unfold State.setLink
  simp [hA, view_upd_links]

theorem view_setNode (hA : ar ∉ [Area.nodes]) (s : State) (n : Nat) (x : Node) : view ar (State.setNode s n x) =
    view ar s := by
  simp only [List.mem_cons, List.not_mem_nil, or_false] at hA
  unfold State.setNode
  simp [hA, view_upd_nodes]

theorem view_setDcq (hA : ar ∉ [Area.queues]) (s : State) (q : Nat) (x : Dcq) : view ar (State.setDcq s q x) = view
    ar s := by
  simp only [List.mem_cons, List.not_mem_nil, or_false] at hA
  unfold State.setDcq
  simp [hA, view_upd_dcqs]

theorem view_newLoop (hA : ar ∉ [Area.loops]) (s : State) (l : Nat) : view ar (State.newLoop s l) = view ar s := by
  simp only [List.mem_cons, List.not_mem_nil, or_false] at hA
  unfold State.newLoop
  simp [hA, view_upd_cloops]

theorem view_setCloop (hA : ar ∉ [Area.loops]) (s : State) (l : Nat) (x : CLoop) : view ar (State.setCloop s l x) =
    view ar s := by
  simp only [List.mem_cons, List.not_mem_nil, or_false] at hA
  unfold State.setCloop
  simp [hA, view_upd_cloops]

theorem view_setSource (hA : ar ∉ [Area.sources]) (s : State) (n : Nat) (x : Source) : view ar (State.setSource s n
    x) = view ar s := by
  simp only [List.mem_cons, List.not_mem_nil, or_false] at hA
  unfold State.setSource
  simp [hA, view_upd_sources]

theorem view_setSteward (hA : ar ∉ [Area.stewards]) (s : State) (m : Nat) (x : Steward) : view ar (State.setSteward
    s m x) = view ar s := by
  simp only [List.mem_cons, List.not_mem_nil, or_false] at hA
  unfold State.setSteward
  simp [hA, view_upd_stewards]

theorem view_setLoom (hA : ar ∉ [Area.looms]) (s : State) (l : LoomId) (x : Loom) : view ar (State.setLoom s l x) =
    view ar s := by
  simp only [List.mem_cons, List.not_mem_nil, or_false] at hA
  unfold State.setLoom
  simp [hA, view_upd_looms]

theorem view_setObj (hA : ar ∉ [Area.objects]) (s : State) (ref v : Nat) : view ar (State.setObj s ref v) = view ar
    s := by
  simp only [List.mem_cons, List.not_mem_nil, or_false] at hA
  unfold State.setObj
  simp [hA, view_upd_objs]

theorem view_bump (hA : ar ∉ [Area.objects]) (s : State) (ref n : Nat) : view ar (State.bump s ref n) = view ar s :=
    by
  simp only [List.mem_cons, List.not_mem_nil, or_false] at hA
  unfold State.bump
  simp [hA, view_setObj]

theorem view_setLive (hA : ar ∉ [Area.inForce]) (s : State) (ref v : Nat) : view ar (State.setLive s ref v) = view
    ar s := by
  simp only [List.mem_cons, List.not_mem_nil, or_false] at hA
  unfold State.setLive
  simp [hA, view_upd_inForce]

theorem view_clearObjs (hA : ar ∉ [Area.objects]) (s : State) (p : Nat → Bool) : view ar (State.clearObjs s p) =
    view ar s := by
  simp only [List.mem_cons, List.not_mem_nil, or_false] at hA
  unfold State.clearObjs
  simp [hA, view_upd_objs]

theorem view_atLeast (hA : ar ∉ [Area.time]) (s : State) (t : Nat) : view ar (State.atLeast s t) = view ar s := by
  simp only [List.mem_cons, List.not_mem_nil, or_false] at hA
  unfold State.atLeast
  simp [hA, view_ite, view_upd_ns]

theorem view_ifPowered (s t : State) (h : view ar t = view ar s) : view ar (s.ifPowered t) = view ar s := by
  unfold State.ifPowered; split <;> simp [h]

theorem view_ifRuns (s t : State) (h : view ar t = view ar s) : view ar (s.ifRuns t) = view ar s := by
  unfold State.ifRuns; split <;> simp [h]

theorem view_draw (hA : ar ∉ [Area.free]) (s : State) : view ar (State.draw s).2 = view ar s := by
  simp only [List.mem_cons, List.not_mem_nil, or_false] at hA
  unfold State.draw
  simp [hA, view_upd_fresh]

theorem view_freeOrigin (hA : ar ∉ [Area.free]) (s : State) : view ar (State.freeOrigin s).2 = view ar s := by
  simp only [List.mem_cons, List.not_mem_nil, or_false] at hA
  unfold State.freeOrigin
  simp [hA, view_draw]

theorem view_emit (hA : ar ∉ [Area.sent]) (s : State) (o : Out) : view ar (State.emit s o) = view ar s := by
  simp only [List.mem_cons, List.not_mem_nil, or_false] at hA
  unfold State.emit
  simp [hA, view_upd_out]

theorem view_emits (hA : ar ∉ [Area.sent]) (s : State) (l : List Out) : view ar (State.emits s l) = view ar s := by
  simp only [List.mem_cons, List.not_mem_nil, or_false] at hA
  unfold State.emits
  simp [hA, view_upd_out]

theorem view_setExState (hA : ar ∉ [Area.objects]) (s : State) (p v : Nat) : view ar (State.setExState s p v) = view
    ar s := by
  simp only [List.mem_cons, List.not_mem_nil, or_false] at hA
  unfold State.setExState
  simp [hA, view_setObj]

theorem view_takeCredit (hA : ar ∉ [Area.loops]) (s : State) (l : Nat) : view ar (State.takeCredit s l) = view ar s
    := by
  simp only [List.mem_cons, List.not_mem_nil, or_false] at hA
  unfold State.takeCredit
  simp [hA, view_setCloop]

theorem view_freeCredit (hA : ar ∉ [Area.loops]) (s : State) (l : Nat) : view ar (State.freeCredit s l) = view ar s
    := by
  simp only [List.mem_cons, List.not_mem_nil, or_false] at hA
  unfold State.freeCredit
  simp [hA, view_setCloop]

theorem view_throughLoop (hA : ar ∉ [Area.loops]) (s : State) (l n : Nat) : view ar (State.throughLoop s l n) = view
    ar s := by
  simp only [List.mem_cons, List.not_mem_nil, or_false] at hA
  unfold State.throughLoop
  simp [hA, view_setCloop]

theorem view_loopMoved (hA : ar ∉ [Area.loops]) (s : State) (q pushed popped : Nat) : view ar (State.loopMoved s q
    pushed popped) = view ar s := by
  simp only [List.mem_cons, List.not_mem_nil, or_false] at hA
  unfold State.loopMoved
  simp [hA, view_ite, view_setCloop]

theorem view_queueRead (hA : ar ∉ [Area.loops]) (s : State) (q : Nat) : view ar (State.queueRead s q) = view ar s :=
    by
  simp only [List.mem_cons, List.not_mem_nil, or_false] at hA
  unfold State.queueRead
  simp [hA, view_ite, view_setCloop]

theorem view_loopIssues (hA : ar ∉ [Area.loops]) (s : State) (q n : Nat) : view ar (State.loopIssues s q n) = view
    ar s := by
  simp only [List.mem_cons, List.not_mem_nil, or_false] at hA
  unfold State.loopIssues
  simp [hA, view_ite, view_setCloop]

theorem view_passQueue (hA : ar ∉ [Area.objects, Area.queues, Area.loops]) (s : State) (q n : Nat) : view ar
    (State.passQueue s q n) = view ar s := by
  simp only [List.mem_cons, List.not_mem_nil, not_or, or_false] at hA
  unfold State.passQueue
  simp [hA, view_ite, view_setDcq, view_bump, view_loopMoved, view_queueRead, view_loopIssues]

theorem view_crossQueues (hA : ar ∉ [Area.objects, Area.queues, Area.loops]) (s : State) (l : List Nat) : view ar
    (State.crossQueues s l) = view ar s := by
  simp only [List.mem_cons, List.not_mem_nil, not_or, or_false] at hA
  unfold State.crossQueues
  simp [hA, view_foldl, view_passQueue]

theorem view_sendDict (hA : ar ∉ [Area.sent, Area.objects, Area.queues, Area.loops]) (s : State) (node : Nat) (frame
    : Bytes) : view ar (State.sendDict s node frame) = view ar s := by
  simp only [List.mem_cons, List.not_mem_nil, not_or, or_false] at hA
  unfold State.sendDict
  simp [hA, view_ite, view_bump, view_emit, view_crossQueues]

theorem view_notify (hA : ar ∉ [Area.sent, Area.objects, Area.notices, Area.queues, Area.loops]) (s : State) (bits :
    BitVec 512) : view ar (State.notify s bits) = view ar s := by
  simp only [List.mem_cons, List.not_mem_nil, not_or, or_false] at hA
  unfold State.notify
  simp [hA, view_ite, view_upd_notifySeq_notices, view_bump, view_sendDict]

theorem view_enterLog (hA : ar ∉ [Area.free, Area.objects, Area.log]) (s : State) (b : BitVec 512) (seq sev : Nat) :
    view ar (State.enterLog s b seq sev) = view ar s := by
  simp only [List.mem_cons, List.not_mem_nil, not_or, or_false] at hA
  unfold State.enterLog
  simp [hA, view_ite, view_upd_fresh_log, view_setObj, view_bump]

theorem view_raise (hA : ar ∉ [Area.sent, Area.free, Area.objects, Area.notices, Area.log, Area.queues, Area.loops])
    (s : State) (x : Raise) : view ar (State.raise s x) = view ar s := by
  simp only [List.mem_cons, List.not_mem_nil, not_or, or_false] at hA
  unfold State.raise
  (repeat' split) <;> simp [hA, view_ite, view_upd_log, view_upd_mergedNow, view_notify, view_enterLog]

theorem view_raiseDevice (hA : ar ∉ [Area.sent, Area.free, Area.objects, Area.notices, Area.log, Area.queues,
    Area.loops]) (s : State) (code sev uclass unit detail : Nat) : view ar (State.raiseDevice s code sev uclass unit
    detail) = view ar s := by
  simp only [List.mem_cons, List.not_mem_nil, not_or, or_false] at hA
  unfold State.raiseDevice
  simp [hA, view_raise]

theorem view_raisePart (hA : ar ∉ [Area.sent, Area.free, Area.objects, Area.notices, Area.log, Area.queues,
    Area.loops]) (s : State) (code sev uclass unit p op detail : Nat) : view ar (State.raisePart s code sev uclass unit
    p op detail) = view ar s := by
  simp only [List.mem_cons, List.not_mem_nil, not_or, or_false] at hA
  unfold State.raisePart
  simp [hA, view_raise]

theorem view_raiseQuad (hA : ar ∉ [Area.sent, Area.free, Area.objects, Area.notices, Area.log, Area.queues,
    Area.loops]) (s : State) (q code sev uclass unit op detail : Nat) : view ar (State.raiseQuad s q code sev uclass
    unit op detail) = view ar s := by
  simp only [List.mem_cons, List.not_mem_nil, not_or, or_false] at hA
  unfold State.raiseQuad
  simp [hA, view_raise]

theorem view_raiseTemp (hA : ar ∉ [Area.sent, Area.free, Area.objects, Area.notices, Area.log, Area.queues,
    Area.loops]) (s : State) (q code sev uclass unit detail : Nat) (t : BitVec 16) : view ar (State.raiseTemp s q code
    sev uclass unit detail t) = view ar s := by
  simp only [List.mem_cons, List.not_mem_nil, not_or, or_false] at hA
  unfold State.raiseTemp
  simp [hA, view_raise]

theorem view_ringPut (hA : ar ∉ [Area.objects, Area.trace]) (s : State) (r : Nat) : view ar (State.ringPut s r) =
    view ar s := by
  simp only [List.mem_cons, List.not_mem_nil, not_or, or_false] at hA
  unfold State.ringPut
  simp [hA, view_ite, view_upd_traceRing, view_bump]

theorem view_addCounter (hA : ar ∉ [Area.counters]) (s : State) (k n : Nat) : view ar (State.addCounter s k n) =
    view ar s := by
  simp only [List.mem_cons, List.not_mem_nil, or_false] at hA
  unfold State.addCounter
  simp [hA, view_upd_counters]

theorem view_owe (hA : ar ∉ [Area.counters]) (s : State) (cls unit nth code cycles : Nat) : view ar (State.owe s cls unit nth code cycles) = view ar s := by
  simp only [List.mem_cons, List.not_mem_nil, or_false] at hA
  unfold State.owe
  (repeat' split) <;> simp [hA, view_upd_owedStalls]

theorem view_pad (hA : ar ∉ [Area.objects, Area.counters]) (s : State) (p : Nat) (unit : Option (Nat × Nat)) (nth : Nat) : view
    ar (State.pad s p unit nth) = view ar s := by
  simp only [List.mem_cons, List.not_mem_nil, not_or, or_false] at hA
  unfold State.pad
  (repeat' split) <;> simp [hA, view_bump, view_owe]

theorem view_crossHub (hA : ar ∉ [Area.objects, Area.queues, Area.loops]) (s : State) (n m : Nat) : view ar
    (State.crossHub s n m) = view ar s := by
  simp only [List.mem_cons, List.not_mem_nil, not_or, or_false] at hA
  unfold State.crossHub
  simp [hA, view_throughLoop, view_passQueue]

theorem view_crossTo (hA : ar ∉ [Area.objects, Area.stackCtl, Area.queues, Area.loops]) (s : State) (who :
    Requester) (k : Nat) (write : Bool) : view ar (State.crossTo s who k write) = view ar s := by
  simp only [List.mem_cons, List.not_mem_nil, not_or, or_false] at hA
  unfold State.crossTo
  (repeat' split) <;> simp [hA, view_foldl, view_setStack, view_throughLoop, view_passQueue]

theorem view_portIn (hA : ar ∉ [Area.objects, Area.queues, Area.loops]) (s : State) (port n : Nat) : view ar
    (State.portIn s port n) = view ar s := by
  simp only [List.mem_cons, List.not_mem_nil, not_or, or_false] at hA
  unfold State.portIn
  simp [hA, view_passQueue]

theorem view_portOut (hA : ar ∉ [Area.objects, Area.queues, Area.loops]) (s : State) (port n : Nat) : view ar
    (State.portOut s port n) = view ar s := by
  simp only [List.mem_cons, List.not_mem_nil, not_or, or_false] at hA
  unfold State.portOut
  simp [hA, view_passQueue]

theorem view_observe (hA : ar ∉ [Area.objects, Area.queues]) (s : State) (q rec : Nat) : view ar (State.observe s q
    rec) = view ar s := by
  simp only [List.mem_cons, List.not_mem_nil, not_or, or_false] at hA
  unfold State.observe
  simp [hA, view_ite, view_setDcq, view_bump]

theorem view_traceUnit (hA : ar ∉ [Area.objects, Area.queues]) (s : State) (q kind uclass unit quad d0 d1 : Nat)
    (at_ : Option (BitVec 64)) : view ar (State.traceUnit s q kind uclass unit quad d0 d1 at_) = view ar s := by
  simp only [List.mem_cons, List.not_mem_nil, not_or, or_false] at hA
  unfold State.traceUnit
  simp [hA, view_ite, view_observe]

theorem view_traceHub (hA : ar ∉ [Area.objects, Area.queues]) (s : State) (link kind p d0 d1 : Nat) : view ar
    (State.traceHub s link kind p d0 d1) = view ar s := by
  simp only [List.mem_cons, List.not_mem_nil, not_or, or_false] at hA
  unfold State.traceHub
  simp [hA, view_traceUnit]

theorem view_tracePackets (hA : ar ∉ [Area.objects, Area.queues]) (s : State) (p kind link qpn : Nat) (psns : List
    Nat) (again : Bool) : view ar (State.tracePackets s p kind link qpn psns again) = view ar s := by
  simp only [List.mem_cons, List.not_mem_nil, not_or, or_false] at hA
  unfold State.tracePackets
  simp [hA, view_ite, view_foldl, view_traceUnit]

theorem view_traceSent (hA : ar ∉ [Area.objects, Area.queues]) (s : State) (k : Nat) (f : TxFrame) : view ar
    (State.traceSent s k f) = view ar s := by
  simp only [List.mem_cons, List.not_mem_nil, not_or, or_false] at hA
  unfold State.traceSent
  (repeat' split) <;> simp [hA, view_tracePackets]

theorem view_depart (hA : ar ∉ [Area.sent, Area.objects, Area.links, Area.queues, Area.loops]) (s : State) (k : Nat) (f :
    TxFrame) : view ar (State.depart s k f) = view ar s := by
  simp only [List.mem_cons, List.not_mem_nil, not_or, or_false] at hA
  unfold State.depart
  simp [hA, view_ite, view_emit, view_setLink, view_portOut, view_traceSent]

theorem view_sendFrame (hA : ar ∉ [Area.sent, Area.objects, Area.links, Area.queues, Area.loops]) (s : State) (k :
    Nat) (f : TxFrame) : view ar (State.sendFrame s k f) = view ar s := by
  simp only [List.mem_cons, List.not_mem_nil, not_or, or_false] at hA
  unfold State.sendFrame
  simp [hA, view_ite, view_setLink, view_depart]

theorem view_release (hA : ar ∉ [Area.sent, Area.objects, Area.links, Area.queues, Area.loops]) (s : State) (k :
    Nat) : view ar (State.release s k) = view ar s := by
  simp only [List.mem_cons, List.not_mem_nil, not_or, or_false] at hA
  unfold State.release
  simp [hA, view_foldl, view_setLink, view_sendFrame]

theorem view_releaseQueue (hA : ar ∉ [Area.sent, Area.objects, Area.links, Area.queues, Area.loops]) (s : State) (q
    : Nat) : view ar (State.releaseQueue s q) = view ar s := by
  simp only [List.mem_cons, List.not_mem_nil, not_or, or_false] at hA
  unfold State.releaseQueue
  simp [hA, view_ite, view_foldl, view_release]

theorem view_sendOn (hA : ar ∉ [Area.sent, Area.objects, Area.links, Area.parts, Area.queues, Area.loops]) (s :
    State) (p qpn : Nat) (f : TxFrame) : view ar (State.sendOn s p qpn f) = view ar s := by
  simp only [List.mem_cons, List.not_mem_nil, not_or, or_false] at hA
  unfold State.sendOn
  simp [hA, view_setPart, view_sendFrame]

theorem view_paceWait (hA : ar ∉ [Area.links]) (s : State) (p qpn : Nat) (m : TxMsg) : view ar (State.paceWait s p qpn m) = view ar s := by
  simp only [List.mem_cons, List.not_mem_nil, or_false] at hA
  unfold State.paceWait
  simp [hA, view_ite, view_setLink]

theorem view_sendLater (hA : ar ∉ [Area.parts]) (s : State) (p qpn : Nat) (m : TxMsg) (again : Bool) : view ar (State.sendLater s p qpn m again) = view ar s := by
  simp only [List.mem_cons, List.not_mem_nil, or_false] at hA
  unfold State.sendLater
  simp [hA, view_modPart]

theorem view_sendMsg (hA : ar ∉ [Area.sent, Area.objects, Area.links, Area.parts, Area.queues, Area.loops]) (s :
    State) (p qpn : Nat) (m : TxMsg) (again : Bool) : view ar (State.sendMsg s p qpn m again) = view ar s := by
  simp only [List.mem_cons, List.not_mem_nil, not_or, or_false] at hA
  unfold State.sendMsg
  simp [hA, view_ite, view_bump, view_paceWait, view_sendLater, view_sendOn]

theorem view_sendUnsent (hA : ar ∉ [Area.sent, Area.objects, Area.links, Area.parts, Area.queues, Area.loops]) (s : State) (p : Nat) : view ar (State.sendUnsent s p) = view ar s := by
  simp only [List.mem_cons, List.not_mem_nil, not_or, or_false] at hA
  unfold State.sendUnsent
  simp [hA, view_ite, view_foldl, view_modPart, view_sendMsg]

theorem view_post (hA : ar ∉ [Area.sent, Area.objects, Area.links, Area.parts, Area.queues, Area.loops]) (s : State)
    (p qpn rkey va kind att : Nat) (bytes : Bytes) : view ar (State.post s p qpn rkey va kind att bytes) = view ar s :=
    by
  simp only [List.mem_cons, List.not_mem_nil, not_or, or_false] at hA
  unfold State.post
  simp [hA, view_setPart, view_setCloop, view_sendMsg]

theorem view_sendAck (hA : ar ∉ [Area.sent, Area.objects, Area.links, Area.parts, Area.queues, Area.loops]) (s :
    State) (p qpn : Nat) (psn : BitVec 24) : view ar (State.sendAck s p qpn psn) = view ar s := by
  simp only [List.mem_cons, List.not_mem_nil, not_or, or_false] at hA
  unfold State.sendAck
  simp [hA, view_sendOn]

theorem view_putNak (hA : ar ∉ [Area.sent, Area.objects, Area.links, Area.parts, Area.queues, Area.loops]) (s :
    State) (p qpn : Nat) (psn : BitVec 24) (cls : BitVec 3) : view ar (State.putNak s p qpn psn cls) = view ar s := by
  simp only [List.mem_cons, List.not_mem_nil, not_or, or_false] at hA
  unfold State.putNak
  simp [hA, view_sendOn]

theorem view_sendCnp (hA : ar ∉ [Area.sent, Area.objects, Area.links, Area.parts, Area.queues, Area.loops]) (s :
    State) (p qpn : Nat) : view ar (State.sendCnp s p qpn) = view ar s := by
  simp only [List.mem_cons, List.not_mem_nil, not_or, or_false] at hA
  unfold State.sendCnp
  simp [hA, view_sendOn]

theorem view_sendRead (hA : ar ∉ [Area.sent, Area.objects, Area.links, Area.parts, Area.queues, Area.loops]) (s :
    State) (p qpn : Nat) (psn : BitVec 24) (b : Bytes) : view ar (State.sendRead s p qpn psn b) = view ar s := by
  simp only [List.mem_cons, List.not_mem_nil, not_or, or_false] at hA
  unfold State.sendRead
  simp [hA, view_sendOn]

theorem view_sendKeyx (hA : ar ∉ [Area.sent, Area.objects, Area.links, Area.queues, Area.loops]) (s : State) (p k
    vid target : Nat) (dst : BitVec 128) (header : BitVec 256) (body : Bytes) : view ar (State.sendKeyx s p k vid target
    dst header body) = view ar s := by
  simp only [List.mem_cons, List.not_mem_nil, not_or, or_false] at hA
  unfold State.sendKeyx
  simp [hA, view_sendFrame]

theorem view_sendControl (hA : ar ∉ [Area.sent, Area.objects, Area.links, Area.queues, Area.loops]) (s : State) (p
    type reason : Nat) (body : Bytes) : view ar (State.sendControl s p type reason body) = view ar s := by
  simp only [List.mem_cons, List.not_mem_nil, not_or, or_false] at hA
  unfold State.sendControl
  simp [hA, view_sendKeyx]

theorem view_sendCall (hA : ar ∉ [Area.sent, Area.objects, Area.links, Area.parts, Area.queues, Area.loops]) (s :
    State) (n : Nat) : view ar (State.sendCall s n) = view ar s := by
  simp only [List.mem_cons, List.not_mem_nil, not_or, or_false] at hA
  unfold State.sendCall
  simp [hA, view_modPart, view_sendControl]

theorem view_newControlQp (hA : ar ∉ [Area.sent, Area.objects, Area.links, Area.parts, Area.queues, Area.loops]) (s
    : State) (n : Nat) : view ar (State.newControlQp s n) = view ar s := by
  simp only [List.mem_cons, List.not_mem_nil, not_or, or_false] at hA
  unfold State.newControlQp
  simp [hA, view_ite, view_modPart, view_newLoop, view_sendCall]

theorem view_rxDrop (hA : ar ∉ [Area.objects]) (s : State) (k : Nat) : view ar (State.rxDrop s k) = view ar s := by
  simp only [List.mem_cons, List.not_mem_nil, or_false] at hA
  unfold State.rxDrop
  simp [hA, view_bump]

theorem view_rxFrame (hA : ar ∉ [Area.objects, Area.queues, Area.loops]) (s : State) (f : Frame) (n : Nat) : view ar
    (State.rxFrame s f n).1 = view ar s := by
  simp only [List.mem_cons, List.not_mem_nil, not_or, or_false] at hA
  unfold State.rxFrame
  simp [hA, view_portIn, view_rxDrop, view_pair_ite]

/-- What an item does that crosses the queues on its way, it leaves unchanged where what it does there does. -/
theorem view_across (hA : ar ∉ [Area.objects, Area.queues, Area.loops]) (s : State) (way : List Nat) (f : State → State)
    (hf : ∀ t, view ar (f t) = view ar t) : view ar (State.across s way f) = view ar s := by
  simp only [List.mem_cons, List.not_mem_nil, not_or, or_false] at hA
  unfold State.across
  simp [hA, hf, view_ite, view_crossQueues]

/-- The same for words that cross a loom's bridge. -/
theorem view_viaBridge (hA : ar ∉ [Area.objects, Area.queues, Area.loops]) (s : State) (l : LoomId) (dir n : Nat)
    (f g : State → State) (hf : ∀ t, view ar (f t) = view ar t) (hg : ∀ t, view ar (g t) = view ar t) :
    view ar (State.viaBridge s l dir n f g) = view ar s := by
  simp only [List.mem_cons, List.not_mem_nil, not_or, or_false] at hA
  unfold State.viaBridge
  simp [hA, hf, hg, view_ite, view_throughLoop, view_passQueue]

theorem view_postControl (hA : ar ∉ [Area.sent, Area.objects, Area.links, Area.parts, Area.queues, Area.loops]) (s :
    State) (p : Nat) (header : BitVec 256) (body : Bytes) : view ar (State.postControl s p header body) = view ar s :=
    by
  simp only [List.mem_cons, List.not_mem_nil, not_or, or_false] at hA
  unfold State.postControl
  split
  · exact view_across (by simp [hA]) _ _ _ (fun t => by simp [hA, view_post])
  · rfl

theorem view_report (hA : ar ∉ [Area.sent, Area.objects, Area.links, Area.parts, Area.queues, Area.loops]) (s :
    State) (p : Nat) (body : Bytes) : view ar (State.report s p body) = view ar s := by
  simp only [List.mem_cons, List.not_mem_nil, not_or, or_false] at hA
  unfold State.report
  simp [hA, view_modPart, view_postControl]

theorem view_endRoll (hA : ar ∉ [Area.objects]) (s : State) (p : Nat) : view ar (State.endRoll s p) = view ar s :=
    by
  simp only [List.mem_cons, List.not_mem_nil, or_false] at hA
  unfold State.endRoll
  simp [hA, view_ite, view_setObj]

theorem view_endWait (hA : ar ∉ [Area.objects]) (s : State) (p : Nat) : view ar (State.endWait s p) = view ar s := by
  simp only [List.mem_cons, List.not_mem_nil, or_false] at hA
  unfold State.endWait
  simp [hA, view_bump]

theorem view_haltJob (hA : ar ∉ [Area.sent, Area.free, Area.objects, Area.notices, Area.log, Area.links, Area.parts,
    Area.queues, Area.loops]) (s : State) (p cause detail : Nat) : view ar (State.haltJob s p cause detail) = view ar s
    := by
  simp only [List.mem_cons, List.not_mem_nil, not_or, or_false] at hA
  unfold State.haltJob
  simp [hA, view_modPart, view_setObj, view_setExState, view_raisePart, view_report, view_endRoll, view_endWait]

theorem view_haltAtBoundary (hA : ar ∉ [Area.parts]) (s : State) (p cause detail : Nat) : view ar
    (State.haltAtBoundary s p cause detail) = view ar s := by
  simp only [List.mem_cons, List.not_mem_nil, or_false] at hA
  unfold State.haltAtBoundary
  simp [hA, view_modPart]

theorem view_sendMarker (hA : ar ∉ [Area.sent, Area.objects, Area.links, Area.parts, Area.queues, Area.loops]) (s :
    State) (p kind cause nonfin : Nat) : view ar (State.sendMarker s p kind cause nonfin) = view ar s := by
  simp only [List.mem_cons, List.not_mem_nil, not_or, or_false] at hA
  unfold State.sendMarker
  simp [hA, view_foldl, view_traceHub, view_post]

theorem view_modLooms (hA : ar ∉ [Area.looms]) (s : State) (p : Nat) (f : Loom → Loom) : view ar (State.modLooms s p
    f) = view ar s := by
  simp only [List.mem_cons, List.not_mem_nil, or_false] at hA
  unfold State.modLooms
  simp [hA, view_ite, view_foldl, view_upd_looms]

theorem view_openContributions (hA : ar ∉ [Area.loops]) (s : State) (p att : Nat) : view ar (State.openContributions s p att) = view ar s := by
  simp only [List.mem_cons, List.not_mem_nil, or_false] at hA
  unfold State.openContributions
  simp [hA, view_foldl, view_setCloop]

theorem view_dropAttempt (hA : ar ∉ [Area.objects, Area.looms, Area.parts, Area.loops]) (s : State) (p : Nat) : view ar
    (State.dropAttempt s p) = view ar s := by
  simp only [List.mem_cons, List.not_mem_nil, not_or, or_false] at hA
  unfold State.dropAttempt
  simp [hA, view_upd_cloops, view_modPart, view_modLooms, view_endWait, view_openContributions]

theorem view_handleAbort (hA : ar ∉ [Area.sent, Area.free, Area.objects, Area.notices, Area.log, Area.looms,
    Area.links, Area.parts, Area.queues, Area.loops]) (s : State) (p cause sender : Nat) (own : Bool) : view ar
    (State.handleAbort s p cause sender own) = view ar s := by
  simp only [List.mem_cons, List.not_mem_nil, not_or, or_false] at hA
  unfold State.handleAbort
  simp [hA, view_ite, view_setObj, view_bump, view_setExState, view_raisePart, view_haltJob, view_dropAttempt]

theorem view_abortStep (hA : ar ∉ [Area.sent, Area.free, Area.objects, Area.notices, Area.log, Area.looms,
    Area.links, Area.parts, Area.queues, Area.loops]) (s : State) (p cause : Nat) : view ar (State.abortStep s p cause)
    = view ar s := by
  simp only [List.mem_cons, List.not_mem_nil, not_or, or_false] at hA
  unfold State.abortStep
  simp [hA, view_sendMarker, view_handleAbort]

theorem view_chargeFault (hA : ar ∉ [Area.sent, Area.free, Area.objects, Area.notices, Area.log, Area.looms,
    Area.links, Area.parts, Area.queues, Area.loops]) (s : State) (p cause : Nat) : view ar (State.chargeFault s p
    cause) = view ar s := by
  simp only [List.mem_cons, List.not_mem_nil, not_or, or_false] at hA
  unfold State.chargeFault
  simp [hA, view_ite, view_haltJob, view_haltAtBoundary, view_abortStep]

theorem view_faultAndHalt (hA : ar ∉ [Area.sent, Area.free, Area.objects, Area.notices, Area.log, Area.looms,
    Area.links, Area.parts, Area.queues, Area.loops]) (s : State) (p cause hc hd : Nat) : view ar (State.faultAndHalt s
    p cause hc hd) = view ar s := by
  simp only [List.mem_cons, List.not_mem_nil, not_or, or_false] at hA
  unfold State.faultAndHalt
  simp [hA, view_ite, view_haltJob, view_haltAtBoundary, view_abortStep]

theorem view_chargeUncommitted (hA : ar ∉ [Area.sent, Area.free, Area.objects, Area.notices, Area.log, Area.looms,
    Area.links, Area.parts, Area.queues, Area.loops]) (s : State) (p cause : Nat) : view ar (State.chargeUncommitted s p
    cause) = view ar s := by
  simp only [List.mem_cons, List.not_mem_nil, not_or, or_false] at hA
  unfold State.chargeUncommitted
  simp [hA, view_ite, view_chargeFault]

theorem view_violate (hA : ar ∉ [Area.sent, Area.free, Area.objects, Area.notices, Area.log, Area.looms, Area.links,
    Area.parts, Area.queues, Area.loops]) (s : State) (p loop : Nat) : view ar (State.violate s p loop) = view ar s :=
    by
  simp only [List.mem_cons, List.not_mem_nil, not_or, or_false] at hA
  unfold State.violate
  simp [hA, view_modPart, view_setObj, view_bump, view_raisePart, view_faultAndHalt]

theorem view_consumePoison (hA : ar ∉ [Area.sent, Area.free, Area.objects, Area.notices, Area.log, Area.looms,
    Area.links, Area.parts, Area.queues, Area.loops]) (s : State) (p : Nat) (quad : Option Nat) (uclass unit op stack
    granule : Nat) : view ar (State.consumePoison s p quad uclass unit op stack granule) = view ar s := by
  simp only [List.mem_cons, List.not_mem_nil, not_or, or_false] at hA
  unfold State.consumePoison
  simp [hA, view_ite, view_modPart, view_bump, view_raise, view_faultAndHalt]

theorem view_clearHbm (hA : ar ∉ [Area.hbm, Area.poison]) (s : State) (p : Nat → Bool) : view ar (State.clearHbm s
    p) = view ar s := by
  simp only [List.mem_cons, List.not_mem_nil, not_or, or_false] at hA
  unfold State.clearHbm
  simp [hA, view_upd_hbm_hbmPoison]

theorem view_flushQueues (hA : ar ∉ [Area.objects, Area.queues]) (s : State) (p : Nat) : view ar (State.flushQueues
    s p) = view ar s := by
  simp only [List.mem_cons, List.not_mem_nil, not_or, or_false] at hA
  unfold State.flushQueues
  simp [hA, view_ite, view_foldl, view_setDcq, view_bump]

theorem view_setRefresh (hA : ar ∉ [Area.sent, Area.free, Area.objects, Area.notices, Area.log, Area.queues,
    Area.loops]) (s : State) (k mode : Nat) : view ar (State.setRefresh s k mode) = view ar s := by
  simp only [List.mem_cons, List.not_mem_nil, not_or, or_false] at hA
  unfold State.setRefresh
  simp [hA, view_ite, view_setObj, view_raiseTemp]

theorem view_enterSelfRefresh (hA : ar ∉ [Area.sent, Area.free, Area.objects, Area.notices, Area.log, Area.stackCtl,
    Area.queues, Area.loops]) (s : State) (k : Nat) : view ar (State.enterSelfRefresh s k) = view ar s := by
  simp only [List.mem_cons, List.not_mem_nil, not_or, or_false] at hA
  unfold State.enterSelfRefresh
  simp [hA, view_ite, view_setStack, view_setRefresh]

theorem view_leaveSelfRefresh (hA : ar ∉ [Area.sent, Area.free, Area.objects, Area.notices, Area.log, Area.stackCtl,
    Area.queues, Area.loops]) (s : State) (k : Nat) : view ar (State.leaveSelfRefresh s k) = view ar s := by
  simp only [List.mem_cons, List.not_mem_nil, not_or, or_false] at hA
  unfold State.leaveSelfRefresh
  simp [hA, view_ite, view_setStack, view_setRefresh]

theorem view_endStop (hA : ar ∉ [Area.counters]) (s : State) (p : Nat) : view ar (State.endStop s p) = view ar s :=
    by
  simp only [List.mem_cons, List.not_mem_nil, or_false] at hA
  unfold State.endStop
  simp [hA, view_ite, view_addCounter, view_foldl]

theorem view_resetPart (hA : ar ∉ [Area.sent, Area.free, Area.seal, Area.security, Area.objects, Area.notices,
    Area.log, Area.tests, Area.quads, Area.looms, Area.stackCtl, Area.hbm, Area.poison, Area.held, Area.parts,
    Area.queues, Area.loops, Area.bridges, Area.counters]) (s : State) (p : Nat) : view ar (State.resetPart s p) = view
    ar s := by
  simp only [List.mem_cons, List.not_mem_nil, not_or, or_false] at hA
  unfold State.resetPart
  simp [hA, view_ite, view_foldl, view_upd_sec_tests_quads_looms_held_cloops_bridgeBufs_bridgeAir_owedStalls_stalls,
      view_upd_sealArmed, view_setPart, view_setStack, view_setObj, view_clearObjs, view_clearHbm, view_flushQueues,
      view_leaveSelfRefresh, view_endStop, view_endRoll]

theorem view_resetAll (hA : ar ∉ [Area.sent, Area.free, Area.seal, Area.security, Area.objects, Area.notices,
    Area.log, Area.tests, Area.quads, Area.looms, Area.stackCtl, Area.hbm, Area.poison, Area.held, Area.parts,
    Area.queues, Area.loops, Area.bridges, Area.counters]) (s : State) : view ar (State.resetAll s) = view ar s := by
  simp only [List.mem_cons, List.not_mem_nil, not_or, or_false] at hA
  unfold State.resetAll
  simp [hA, view_foldl, view_resetPart]

theorem view_enterFailed (hA : ar ∉ [Area.sent, Area.free, Area.objects, Area.notices, Area.log, Area.queues,
    Area.loops]) (s : State) (failStep : Nat) : view ar (State.enterFailed s failStep) = view ar s := by
  simp only [List.mem_cons, List.not_mem_nil, not_or, or_false] at hA
  unfold State.enterFailed
  simp [hA, view_setObj, view_raiseDevice]

theorem view_deviceFault (hA : ar ∉ [Area.sent, Area.free, Area.seal, Area.security, Area.objects, Area.notices,
    Area.log, Area.stewards, Area.tests, Area.quads, Area.looms, Area.stackCtl, Area.hbm, Area.poison, Area.held,
    Area.parts, Area.queues, Area.loops, Area.bridges, Area.counters]) (s : State) (uclass unit : Nat) (stillVerifies :
    Bool) : view ar (State.deviceFault s uclass unit stillVerifies) = view ar s := by
  simp only [List.mem_cons, List.not_mem_nil, not_or, or_false] at hA
  unfold State.deviceFault
  simp [hA, view_ite, view_upd_stewards, view_raiseDevice, view_resetAll, view_enterFailed]

theorem view_uncontained (hA : ar ∉ [Area.sent, Area.free, Area.seal, Area.security, Area.objects, Area.notices,
    Area.log, Area.tests, Area.quads, Area.looms, Area.stackCtl, Area.hbm, Area.poison, Area.held, Area.parts,
    Area.queues, Area.loops, Area.bridges, Area.counters]) (s : State) (k fault : Nat) : view ar (State.uncontained s k
    fault) = view ar s := by
  simp only [List.mem_cons, List.not_mem_nil, not_or, or_false] at hA
  unfold State.uncontained
  simp [hA, view_bump, view_raiseQuad, view_resetPart]

theorem view_moved (hA : ar ∉ [Area.stackCtl]) (s : State) (k w n : Nat) : view ar (State.moved s k w n) = view ar s
    := by
  simp only [List.mem_cons, List.not_mem_nil, or_false] at hA
  unfold State.moved
  simp [hA, view_setStack]

theorem view_storeWord (hA : ar ∉ [Area.objects, Area.stackCtl, Area.hbm, Area.poison]) (s : State) (k w o : Nat) (b
    : Bytes) (poison : Bool) : view ar (State.storeWord s k w o b poison) = view ar s := by
  simp only [List.mem_cons, List.not_mem_nil, not_or, or_false] at hA
  unfold State.storeWord
  simp [hA, view_ite, view_upd_hbm_hbmPoison, view_setStack, view_bump, view_moved]

theorem view_checkWord (hA : ar ∉ [Area.sent, Area.free, Area.flash, Area.objects, Area.notices, Area.log,
    Area.stackCtl, Area.poison, Area.queues, Area.loops]) (s : State) (k w : Nat) (ecc : Ecc) : view ar (State.checkWord
    s k w ecc) = view ar s := by
  simp only [List.mem_cons, List.not_mem_nil, not_or, or_false] at hA
  unfold State.checkWord
  (repeat' split) <;> simp [hA, view_upd_flash_hbmPoison, view_setStack, view_bump, view_raiseQuad, view_moved]

theorem view_serveRefresh (hA : ar ∉ [Area.stackCtl]) (s : State) (k : Nat) : view ar (State.serveRefresh s k) =
    view ar s := by
  simp only [List.mem_cons, List.not_mem_nil, or_false] at hA
  unfold State.serveRefresh
  simp [hA, view_setStack]

theorem view_serveWriteBacks (hA : ar ∉ [Area.stackCtl]) (s : State) (k : Nat) : view ar (State.serveWriteBacks s k)
    = view ar s := by
  simp only [List.mem_cons, List.not_mem_nil, or_false] at hA
  unfold State.serveWriteBacks
  simp [hA, view_foldl, view_setStack, view_moved]

theorem view_serveOne (hA : ar ∉ [Area.sent, Area.free, Area.flash, Area.objects, Area.notices, Area.log,
    Area.stackCtl, Area.hbm, Area.poison, Area.queues, Area.loops, Area.counters]) (s : State) (k : Nat) (r : HbmReq) :
    view ar (State.serveOne s k r) = view ar s := by
  simp only [List.mem_cons, List.not_mem_nil, not_or, or_false] at hA
  unfold State.serveOne
  (repeat' split) <;> simp [hA, view_ite, view_bump, view_emit, view_freeCredit, view_pad, view_moved, view_storeWord,
      view_checkWord]

theorem view_serveReady (hA : ar ∉ [Area.sent, Area.free, Area.flash, Area.objects, Area.notices, Area.log,
    Area.stackCtl, Area.hbm, Area.poison, Area.queues, Area.loops, Area.counters]) (s : State) (k : Nat) : view ar
    (State.serveReady s k) = view ar s := by
  simp only [List.mem_cons, List.not_mem_nil, not_or, or_false] at hA
  unfold State.serveReady
  simp [hA, view_foldl, view_setStack, view_serveRefresh, view_serveWriteBacks, view_serveOne]

theorem view_acceptReq (hA : ar ∉ [Area.stackCtl, Area.loops]) (s : State) (k : Nat) (r : HbmReq) : view ar
    (State.acceptReq s k r) = view ar s := by
  simp only [List.mem_cons, List.not_mem_nil, not_or, or_false] at hA
  unfold State.acceptReq
  simp [hA, view_ite, view_setStack, view_takeCredit]

theorem view_grant (hA : ar ∉ [Area.stackCtl, Area.loops]) (s : State) (k n : Nat) : view ar (s.grant k n) = view ar
    s := by
  simp only [List.mem_cons, List.not_mem_nil, not_or, or_false] at hA
  induction n generalizing s with
  | zero => rfl
  | succ n ih =>
    unfold State.grant
    simp only
    split
    · rfl
    · rw [ih]; simp [hA, view_setStack, view_acceptReq]

theorem view_serveAsking (hA : ar ∉ [Area.sent, Area.free, Area.flash, Area.objects, Area.notices, Area.log,
    Area.stackCtl, Area.hbm, Area.poison, Area.queues, Area.loops, Area.counters]) (s : State) (k : Nat) : view ar
    (State.serveAsking s k) = view ar s := by
  simp only [List.mem_cons, List.not_mem_nil, not_or, or_false] at hA
  unfold State.serveAsking
  simp [hA, view_ite, view_serveReady, view_grant]

theorem view_request (hA : ar ∉ [Area.sent, Area.free, Area.flash, Area.objects, Area.notices, Area.log,
    Area.stackCtl, Area.hbm, Area.poison, Area.queues, Area.loops, Area.counters]) (s : State) (k : Nat) (r : HbmReq) :
    view ar (State.request s k r) = view ar s := by
  simp only [List.mem_cons, List.not_mem_nil, not_or, or_false] at hA
  unfold State.request
  simp [hA, view_setStack, view_serveAsking]

theorem view_serveFirst (hA : ar ∉ [Area.sent, Area.free, Area.flash, Area.objects, Area.notices, Area.log,
    Area.stackCtl, Area.hbm, Area.poison, Area.queues, Area.loops, Area.counters]) (s : State) (k : Nat) : view ar
    (State.serveFirst s k) = view ar s := by
  simp only [List.mem_cons, List.not_mem_nil, not_or, or_false] at hA
  unfold State.serveFirst
  simp [hA, view_ite, view_serveReady]

theorem view_countWord (hA : ar ∉ [Area.sent, Area.free, Area.flash, Area.objects, Area.notices, Area.log,
    Area.stackCtl, Area.hbm, Area.poison, Area.queues, Area.loops, Area.counters]) (s : State) (who : Requester) (k w :
    Nat) : view ar (State.countWord s who k w) = view ar s := by
  simp only [List.mem_cons, List.not_mem_nil, not_or, or_false] at hA
  unfold State.countWord
  simp [hA, view_ite, view_bump, view_pad, view_crossTo, view_moved, view_serveFirst]

theorem view_writeWord (hA : ar ∉ [Area.sent, Area.free, Area.flash, Area.objects, Area.notices, Area.log,
    Area.stackCtl, Area.hbm, Area.poison, Area.queues, Area.loops, Area.counters]) (s : State) (who : Requester) (k w o
    : Nat) (b : Bytes) (poison : Bool) : view ar (State.writeWord s who k w o b poison) = view ar s := by
  simp only [List.mem_cons, List.not_mem_nil, not_or, or_false] at hA
  unfold State.writeWord
  simp [hA, view_crossTo, view_storeWord, view_serveFirst]

theorem view_countRead (hA : ar ∉ [Area.sent, Area.free, Area.flash, Area.objects, Area.notices, Area.log,
    Area.stackCtl, Area.hbm, Area.poison, Area.queues, Area.loops, Area.counters]) (s : State) (who : Requester) (p i
    off n : Nat) : view ar (State.countRead s who p i off n) = view ar s := by
  simp only [List.mem_cons, List.not_mem_nil, not_or, or_false] at hA
  unfold State.countRead
  simp [hA, view_foldl, view_countWord]

theorem view_writeBy (hA : ar ∉ [Area.sent, Area.free, Area.flash, Area.objects, Area.notices, Area.log,
    Area.stackCtl, Area.hbm, Area.poison, Area.queues, Area.loops, Area.counters]) (s : State) (who : Nat → Requester)
    (p i off : Nat) (b : Bytes) (bad : Nat → Nat → Bool) : view ar (State.writeBy s who p i off b bad) = view ar s := by
  simp only [List.mem_cons, List.not_mem_nil, not_or, or_false] at hA
  unfold State.writeBy
  simp [hA, view_foldl, view_writeWord]

theorem view_writeTagged (hA : ar ∉ [Area.sent, Area.free, Area.flash, Area.objects, Area.notices, Area.log,
    Area.stackCtl, Area.hbm, Area.poison, Area.queues, Area.loops, Area.counters]) (s : State) (who : Requester) (p i
    off : Nat) (b : Bytes) (bad : Nat → Nat → Bool) : view ar (State.writeTagged s who p i off b bad) = view ar s := by
  simp only [List.mem_cons, List.not_mem_nil, not_or, or_false] at hA
  unfold State.writeTagged
  simp [hA, view_writeBy]

theorem view_writeRegion (hA : ar ∉ [Area.sent, Area.free, Area.flash, Area.objects, Area.notices, Area.log,
    Area.stackCtl, Area.hbm, Area.poison, Area.queues, Area.loops, Area.counters]) (s : State) (who : Requester) (p i
    off : Nat) (b : Bytes) (poison : Bool) : view ar (State.writeRegion s who p i off b poison) = view ar s := by
  simp only [List.mem_cons, List.not_mem_nil, not_or, or_false] at hA
  unfold State.writeRegion
  simp [hA, view_writeTagged]

theorem view_countAs (hA : ar ∉ [Area.counters]) (s : State) (cls unit a d : Nat) : view ar (State.countAs s cls
    unit a d) = view ar s := by
  simp only [List.mem_cons, List.not_mem_nil, or_false] at hA
  unfold State.countAs
  simp [hA, view_ite, view_addCounter]

theorem view_noteStall (hA : ar ∉ [Area.counters]) (s : State) (k a : Nat) : view ar (State.noteStall s k a) = view
    ar s := by
  simp only [List.mem_cons, List.not_mem_nil, or_false] at hA
  unfold State.noteStall
  simp [hA, view_upd_stalls]

theorem view_countSpent (hA : ar ∉ [Area.counters]) (s : State) (cls unit : Nat) (r : List (Nat × Nat) × List OwedStall) : view ar (State.countSpent s cls unit r) = view ar s := by
  simp only [List.mem_cons, List.not_mem_nil, or_false] at hA
  unfold State.countSpent
  simp [hA, view_foldl, view_upd_owedStalls, view_countAs]

theorem view_passCycles (hA : ar ∉ [Area.quads, Area.counters]) (s : State) (q d : Nat) : view ar (State.passCycles
    s q d) = view ar s := by
  simp only [List.mem_cons, List.not_mem_nil, not_or, or_false] at hA
  unfold State.passCycles
  simp [hA, view_ite, view_foldl, view_setQuad, view_addCounter, view_countAs, view_noteStall, view_countSpent]

theorem view_linkCycle (hA : ar ∉ [Area.links, Area.counters]) (s : State) (k : Nat) : view ar (State.linkCycle s k) = view ar s := by
  simp only [List.mem_cons, List.not_mem_nil, not_or, or_false] at hA
  unfold State.linkCycle
  simp [hA, view_ite, view_setLink, view_countAs]

theorem view_hubTick (hA : ar ∉ [Area.counters, Area.links]) (s : State) : view ar (State.hubTick s) = view ar s := by
  simp only [List.mem_cons, List.not_mem_nil, not_or, or_false] at hA
  unfold State.hubTick
  simp [hA, view_ite, view_foldl, view_countAs, view_linkCycle]

theorem view_slip (hA : ar ∉ [Area.sent, Area.free, Area.objects, Area.notices, Area.log, Area.looms, Area.links,
    Area.parts, Area.queues, Area.loops]) (s : State) (q uclass unit hold bridge : Nat) : view ar (State.slip s q uclass
    unit hold bridge) = view ar s := by
  simp only [List.mem_cons, List.not_mem_nil, not_or, or_false] at hA
  unfold State.slip
  simp [hA, view_bump, view_chargeUncommitted, view_raisePart]

theorem view_quadTick (hA : ar ∉ [Area.quads, Area.counters]) (s : State) (edges q : Nat) : view ar (State.quadTick
    s edges q) = view ar s := by
  simp only [List.mem_cons, List.not_mem_nil, not_or, or_false] at hA
  unfold State.quadTick
  simp [hA, view_ite, view_setQuad, view_passCycles]

theorem view_idleTick (hA : ar ∉ [Area.time, Area.phase, Area.quads, Area.counters, Area.links]) (s : State) : view ar
    (State.idleTick s) = view ar s := by
  simp only [List.mem_cons, List.not_mem_nil, not_or, or_false] at hA
  unfold State.idleTick
  simp [hA, view_ite, view_upd_ns, view_upd_phase, view_hubTick, view_quadTick]

theorem view_refill (hA : ar ∉ [Area.hbm, Area.poison]) (s : State) (k : Nat) : view ar (State.refill s k) = view ar
    s := by
  simp only [List.mem_cons, List.not_mem_nil, not_or, or_false] at hA
  unfold State.refill
  simp [hA, view_clearHbm]

theorem view_bufferError (hA : ar ∉ [Area.sent, Area.free, Area.seal, Area.security, Area.objects, Area.notices,
    Area.log, Area.tests, Area.quads, Area.looms, Area.stackCtl, Area.hbm, Area.poison, Area.held, Area.parts,
    Area.queues, Area.loops, Area.bridges, Area.counters]) (s : State) (k : Nat) : view ar (State.bufferError s k) =
    view ar s := by
  simp only [List.mem_cons, List.not_mem_nil, not_or, or_false] at hA
  unfold State.bufferError
  simp [hA, view_ite, view_uncontained, view_refill]

theorem view_dropLink (hA : ar ∉ [Area.objects, Area.links]) (s : State) (k : Nat) : view ar (State.dropLink s k) =
    view ar s := by
  simp only [List.mem_cons, List.not_mem_nil, not_or, or_false] at hA
  unfold State.dropLink
  simp [hA, view_ite, view_foldl, view_setLink, view_setObj]

theorem view_portStop (hA : ar ∉ [Area.objects, Area.links]) (s : State) (p : Nat) : view ar (State.portStop s p) =
    view ar s := by
  simp only [List.mem_cons, List.not_mem_nil, not_or, or_false] at hA
  unfold State.portStop
  simp [hA, view_foldl, view_setObj, view_dropLink]

theorem view_pfcSend (hA : ar ∉ [Area.sent, Area.links]) (s : State) (k n : Nat) (xoff : Bool) : view ar
    (State.pfcSend s k n xoff) = view ar s := by
  simp only [List.mem_cons, List.not_mem_nil, not_or, or_false] at hA
  unfold State.pfcSend
  simp [hA, view_ite, view_setLink, view_emit]

theorem view_pfcCheck (hA : ar ∉ [Area.sent, Area.links]) (s : State) (p port : Nat) : view ar (State.pfcCheck s p
    port) = view ar s := by
  simp only [List.mem_cons, List.not_mem_nil, not_or, or_false] at hA
  unfold State.pfcCheck
  simp only
  repeat' first | rfl | split | refine view_foldl (fun _ _ => ?_) _ _
  all_goals simp [hA, view_pfcSend]

theorem view_loopTake (hA : ar ∉ [Area.loops]) (s : State) (l n : Nat) : view ar (State.loopTake s l n) = view ar s
    := by
  simp only [List.mem_cons, List.not_mem_nil, or_false] at hA
  unfold State.loopTake
  simp [hA, view_ite, view_setCloop]

theorem view_loopFree (hA : ar ∉ [Area.loops]) (s : State) (l n : Nat) : view ar (State.loopFree s l n) = view ar s
    := by
  simp only [List.mem_cons, List.not_mem_nil, or_false] at hA
  unfold State.loopFree
  simp [hA, view_ite, view_setCloop]

theorem view_holdPacket (hA : ar ∉ [Area.sent, Area.links, Area.held, Area.loops]) (s : State) (h : HeldPacket) :
    view ar (State.holdPacket s h) = view ar s := by
  simp only [List.mem_cons, List.not_mem_nil, not_or, or_false] at hA
  unfold State.holdPacket
  simp [hA, view_ite, view_upd_held, view_pfcCheck, view_loopTake]

theorem view_unhold (hA : ar ∉ [Area.sent, Area.links, Area.held, Area.loops]) (s : State) (h : HeldPacket) : view
    ar (State.unhold s h) = view ar s := by
  simp only [List.mem_cons, List.not_mem_nil, not_or, or_false] at hA
  unfold State.unhold
  simp [hA, view_upd_held, view_pfcCheck, view_loopFree]

theorem view_arrives (hA : ar ∉ [Area.sent, Area.objects, Area.links, Area.held, Area.queues, Area.loops]) (s :
    State) (p : Fin 4) (f : Frame) (n : Nat) (cmd : Instr) (run : State → State) (hf : ∀ t, view ar (run t) = view ar t)
    : view ar (s.arrives p f n cmd run) = view ar s := by
  simp only [List.mem_cons, List.not_mem_nil, not_or, or_false] at hA
  have h1 := view_rxFrame (ar := ar) (by simp [hA]) s f n
  unfold State.arrives
  simp only
  split
  · exact h1
  · split
    · simp [hA, view_holdPacket, h1]
    · rw [hf, h1]

theorem view_resend (hA : ar ∉ [Area.sent, Area.objects, Area.links, Area.parts, Area.queues, Area.loops]) (s :
    State) (p qpn : Nat) : view ar (State.resend s p qpn) = view ar s := by
  simp only [List.mem_cons, List.not_mem_nil, not_or, or_false] at hA
  unfold State.resend
  simp [hA, view_foldl, view_sendMsg]

theorem view_moveQp (hA : ar ∉ [Area.sent, Area.objects, Area.links, Area.parts, Area.queues, Area.loops]) (s :
    State) (p qpn : Nat) : view ar (State.moveQp s p qpn) = view ar s := by
  simp only [List.mem_cons, List.not_mem_nil, not_or, or_false] at hA
  unfold State.moveQp
  simp only
  (repeat' split) <;> simp [hA, view_setPart, view_resend]

theorem view_qpsReturn (hA : ar ∉ [Area.parts]) (s : State) (p : Nat) : view ar (State.qpsReturn s p) = view ar s :=
    by
  simp only [List.mem_cons, List.not_mem_nil, or_false] at hA
  unfold State.qpsReturn
  simp [hA, view_ite, view_foldl, view_setPart]

theorem view_startRoll (hA : ar ∉ [Area.objects, Area.parts]) (s : State) (p : Nat) : view ar (State.startRoll s p)
    = view ar s := by
  simp only [List.mem_cons, List.not_mem_nil, not_or, or_false] at hA
  unfold State.startRoll
  simp [hA, view_modPart, view_setObj]

theorem view_silence (hA : ar ∉ [Area.parts]) (s : State) (p r : Nat) : view ar (State.silence s p r) = view ar s :=
    by
  simp only [List.mem_cons, List.not_mem_nil, or_false] at hA
  unfold State.silence
  simp [hA, view_ite, view_setPart]

theorem view_nextRoll (hA : ar ∉ [Area.objects, Area.parts]) (s : State) (p : Nat) : view ar (State.nextRoll s p) = view ar s := by
  simp only [List.mem_cons, List.not_mem_nil, not_or, or_false] at hA
  unfold State.nextRoll
  simp [hA, view_bump, view_startRoll]

theorem view_amendRank (hA : ar ∉ [Area.objects, Area.parts, Area.loops]) (s : State) (p : Nat) (a : Amend) : view
    ar (State.amendRank s p a) = view ar s := by
  simp only [List.mem_cons, List.not_mem_nil, not_or, or_false] at hA
  unfold State.amendRank
  simp [hA, view_upd_cloops, view_modPart, view_ite, view_nextRoll]

theorem view_reportLoss (hA : ar ∉ [Area.sent, Area.free, Area.objects, Area.notices, Area.log, Area.looms,
    Area.links, Area.parts, Area.queues, Area.loops]) (s : State) (q : Nat) : view ar (State.reportLoss s q) = view ar s
    := by
  simp only [List.mem_cons, List.not_mem_nil, not_or, or_false] at hA
  unfold State.reportLoss
  simp [hA, view_raisePart, view_violate]

theorem view_loopLost (hA : ar ∉ [Area.loops]) (s : State) (q n : Nat) : view ar (State.loopLost s q n) = view ar s
    := by
  simp only [List.mem_cons, List.not_mem_nil, or_false] at hA
  unfold State.loopLost
  simp [hA, view_setCloop]

theorem view_creditedLoss (hA : ar ∉ [Area.sent, Area.free, Area.objects, Area.notices, Area.log, Area.looms,
    Area.links, Area.parts, Area.queues, Area.loops]) (s : State) (q : Nat) : view ar (State.creditedLoss s q) = view ar
    s := by
  simp only [List.mem_cons, List.not_mem_nil, not_or, or_false] at hA
  unfold State.creditedLoss
  simp [hA, view_setObj, view_bump, view_reportLoss, view_loopLost]

theorem view_flushedItems (hA : ar ∉ [Area.sent, Area.free, Area.objects, Area.notices, Area.log, Area.looms,
    Area.links, Area.parts, Area.queues, Area.loops]) (s : State) (q n : Nat) : view ar (State.flushedItems s q n) =
    view ar s := by
  simp only [List.mem_cons, List.not_mem_nil, not_or, or_false] at hA
  unfold State.flushedItems
  simp [hA, view_ite, view_bump, view_reportLoss, view_loopLost]

theorem view_pushItem (hA : ar ∉ [Area.sent, Area.free, Area.objects, Area.notices, Area.log, Area.looms,
    Area.links, Area.parts, Area.queues, Area.loops]) (s : State) (q : Nat) (i : QItem) : view ar (State.pushItem s q i)
    = view ar s := by
  simp only [List.mem_cons, List.not_mem_nil, not_or, or_false] at hA
  unfold State.pushItem
  simp [hA, view_ite, view_setDcq, view_bump, view_loopMoved, view_creditedLoss, view_flushedItems]

theorem view_putWord (hA : ar ∉ [Area.quads]) (s : State) (q : Nat) (w : RWord) : view ar (State.putWord s q w) =
    view ar s := by
  simp only [List.mem_cons, List.not_mem_nil, or_false] at hA
  unfold State.putWord
  simp [hA, view_setQuad]

theorem view_putCredited (hA : ar ∉ [Area.quads]) (s : State) (q r c input : Nat) (sent got : FWord) : view ar
    (State.putCredited s q r c input sent got) = view ar s := by
  simp only [List.mem_cons, List.not_mem_nil, or_false] at hA
  unfold State.putCredited
  simp [hA, view_setQuad, view_putWord]

theorem view_hubForward (hA : ar ∉ [Area.sent, Area.free, Area.objects, Area.notices, Area.log, Area.looms,
    Area.links, Area.parts, Area.queues, Area.loops]) (s : State) (n : Nat) (w : FWord) : view ar (State.hubForward s n
    w) = view ar s := by
  simp only [List.mem_cons, List.not_mem_nil, not_or, or_false] at hA
  unfold State.hubForward
  simp [hA, view_ite, view_takeCredit, view_freeCredit, view_raisePart, view_pushItem]

theorem view_bridgeEnters (hA : ar ∉ [Area.quads, Area.loops]) (s : State) (n : Nat) (w : FWord) : view ar
    (State.bridgeEnters s n w) = view ar s := by
  simp only [List.mem_cons, List.not_mem_nil, not_or, or_false] at hA
  unfold State.bridgeEnters
  simp [hA, view_freeCredit, view_putCredited]

theorem view_consumeItem (hA : ar ∉ [Area.sent, Area.free, Area.objects, Area.notices, Area.log, Area.quads,
    Area.looms, Area.links, Area.parts, Area.queues, Area.loops, Area.trace]) (s : State) (q : Nat) (i : QItem) : view
    ar (State.consumeItem s q i) = view ar s := by
  simp only [List.mem_cons, List.not_mem_nil, not_or, or_false] at hA
  unfold State.consumeItem
  simp [hA, view_ite, view_ringPut, view_hubForward, view_bridgeEnters]

theorem view_itemEcc (hA : ar ∉ [Area.sent, Area.free, Area.objects, Area.notices, Area.log, Area.queues,
    Area.loops]) (s : State) (q : Nat) (ecc : Ecc) : view ar (State.itemEcc s q ecc) = view ar s := by
  simp only [List.mem_cons, List.not_mem_nil, not_or, or_false] at hA
  unfold State.itemEcc
  (repeat' split) <;> simp [hA, view_setDcq, view_bump, view_raise]

end Sys2Proof.Machine
end

