-- ==== Sys2Proof/Laws/FramesLooms.lean ====
section
/-! SUPPORT. For each shared operation, what the operations of fabric, looms, bring-up, ephemeris, checkpoints and update engines leave unchanged: an area that
the operation's list does not name keeps its contents. -/

namespace Sys2Proof.Machine

open Sys2Proof Host

variable {ar : Area}

theorem view_slotMiss (hA : ar ∉ [Area.sent, Area.free, Area.objects, Area.notices, Area.log, Area.looms,
    Area.queues, Area.loops]) (s : State) (l : LoomId) (stream slot : Nat) : view ar (State.slotMiss s l stream slot) =
    view ar s := by
  simp only [List.mem_cons, List.not_mem_nil, not_or, or_false] at hA
  unfold State.slotMiss
  simp [hA, view_setLoom, view_bump, view_raiseQuad]

theorem view_missFrom (hA : ar ∉ [Area.sent, Area.free, Area.objects, Area.notices, Area.log, Area.looms,
    Area.queues, Area.loops]) (s : State) (x : RouterInput) (stream slot : Nat) : view ar (State.missFrom s x stream
    slot) = view ar s := by
  simp only [List.mem_cons, List.not_mem_nil, not_or, or_false] at hA
  unfold State.missFrom
  simp [hA, view_foldl, view_slotMiss]

theorem view_missBeyond (hA : ar ∉ [Area.sent, Area.free, Area.objects, Area.notices, Area.log, Area.looms,
    Area.queues, Area.loops]) (s : State) (l : LoomId) (stream inp slot : Nat) : view ar (State.missBeyond s l stream
    inp slot) = view ar s := by
  simp only [List.mem_cons, List.not_mem_nil, not_or, or_false] at hA
  unfold State.missBeyond
  simp [hA, view_missFrom]

theorem view_promoteSums (hA : ar ∉ [Area.sent, Area.free, Area.objects, Area.notices, Area.log, Area.looms,
    Area.queues, Area.loops]) (s : State) (l : LoomId) : view ar (State.promoteSums s l) = view ar s := by
  simp only [List.mem_cons, List.not_mem_nil, not_or, or_false] at hA
  unfold State.promoteSums
  simp only
  (repeat' split) <;> simp [hA, view_foldl, view_setLoom, view_slotMiss]

theorem view_useOut (hA : ar ∉ [Area.quads]) (s : State) (l : LoomId) (o : Nat) : view ar (State.useOut s l o) =
    view ar s := by
  simp only [List.mem_cons, List.not_mem_nil, or_false] at hA
  unfold State.useOut
  simp [hA, view_setQuad]

theorem view_toBridge (hA : ar ∉ [Area.sent, Area.free, Area.objects, Area.notices, Area.log, Area.looms,
    Area.links, Area.parts, Area.queues, Area.loops, Area.bridges]) (s : State) (l : LoomId) (t : Nat) (w got : FWord) :
    view ar (State.toBridge s l t w got) = view ar s := by
  simp only [List.mem_cons, List.not_mem_nil, not_or, or_false] at hA
  unfold State.toBridge
  simp only
  (repeat' split) <;> simp [hA, view_upd_bridgeAir, view_bump, view_passQueue, view_raisePart, view_raiseQuad,
      view_pushItem, view_missFrom]

theorem view_leaves (hA : ar ∉ [Area.sent, Area.free, Area.objects, Area.notices, Area.log, Area.quads, Area.looms,
    Area.links, Area.parts, Area.queues, Area.loops, Area.bridges]) (s : State) (l : LoomId) (o t : Nat) (w : FWord)
    (place : BitVec 10) (noise : Word512) : view ar (State.leaves s l o t w place noise) = view ar s := by
  simp only [List.mem_cons, List.not_mem_nil, not_or, or_false] at hA
  unfold State.leaves
  simp only
  (repeat' split) <;> simp [hA, view_setLoom, view_putWord, view_useOut, view_toBridge]

theorem view_collide (hA : ar ∉ [Area.sent, Area.free, Area.objects, Area.notices, Area.log, Area.looms,
    Area.queues, Area.loops]) (s : State) (l : LoomId) (ws : List RWord) (t : Nat) (w : RWord) : view ar (State.collide
    s l ws t w) = view ar s := by
  simp only [List.mem_cons, List.not_mem_nil, not_or, or_false] at hA
  unfold State.collide
  simp [hA, view_bump, view_raiseQuad, view_missBeyond]

theorem view_crcDrop (hA : ar ∉ [Area.sent, Area.free, Area.objects, Area.notices, Area.log, Area.looms,
    Area.queues, Area.loops]) (s : State) (l : LoomId) (t : Nat) (w : RWord) : view ar (State.crcDrop s l t w) = view ar
    s := by
  simp only [List.mem_cons, List.not_mem_nil, not_or, or_false] at hA
  unfold State.crcDrop
  simp [hA, view_bump, view_raiseQuad, view_missBeyond]

theorem view_slotOut (hA : ar ∉ [Area.sent, Area.free, Area.objects, Area.notices, Area.log, Area.quads, Area.looms,
    Area.links, Area.parts, Area.queues, Area.loops, Area.bridges]) (s : State) (l : LoomId) (ws : List RWord) (t : Nat)
    (noise : Word512) (own : List (Nat × FWord × BitVec 10)) (o : Nat) : view ar (State.slotOut s l ws t noise own o).1 = view ar s
    := by
  simp only [List.mem_cons, List.not_mem_nil, not_or, or_false] at hA
  unfold State.slotOut
  simp only
  (repeat' split) <;> simp [hA, view_setLoom, view_leaves]

theorem view_tableEcc (hA : ar ∉ [Area.sent, Area.free, Area.objects, Area.notices, Area.log, Area.queues,
    Area.loops]) (s : State) (l : LoomId) (ecc : Ecc) : view ar (State.tableEcc s l ecc) = view ar s := by
  simp only [List.mem_cons, List.not_mem_nil, not_or, or_false] at hA
  unfold State.tableEcc
  (repeat' split) <;> simp [hA, view_raiseQuad]

theorem view_replayed (hA : ar ∉ [Area.sent, Area.free, Area.objects, Area.notices, Area.log, Area.queues,
    Area.loops]) (s : State) (q : Nat) (l : LoomId) : view ar (State.replayed s q l) = view ar s := by
  simp only [List.mem_cons, List.not_mem_nil, not_or, or_false] at hA
  unfold State.replayed
  simp [hA, view_bump, view_raiseQuad]

theorem view_creditedLeaves (hA : ar ∉ [Area.sent, Area.free, Area.objects, Area.notices, Area.log, Area.quads,
    Area.looms, Area.links, Area.parts, Area.queues, Area.loops]) (s : State) (l : LoomId) (o t : Nat) (w : RWord)
    (noise : Word512) : view ar (State.creditedLeaves s l o t w noise) = view ar s := by
  simp only [List.mem_cons, List.not_mem_nil, not_or, or_false] at hA
  unfold State.creditedLeaves
  simp only
  (repeat' split) <;> simp [hA, view_setQuad, view_bump, view_emit, view_takeCredit, view_pushItem, view_putWord,
      view_putCredited, view_useOut, view_replayed]

theorem view_observationLost (hA : ar ∉ [Area.sent, Area.free, Area.objects, Area.notices, Area.log, Area.queues,
    Area.loops]) (s : State) (l : LoomId) : view ar (State.observationLost s l) = view ar s := by
  simp only [List.mem_cons, List.not_mem_nil, not_or, or_false] at hA
  unfold State.observationLost
  simp [hA, view_setDcq, view_bump, view_raiseQuad]

theorem view_observationLeaves (hA : ar ∉ [Area.sent, Area.free, Area.objects, Area.notices, Area.log, Area.quads,
    Area.looms, Area.links, Area.parts, Area.queues, Area.loops, Area.bridges]) (s : State) (l : LoomId) (t : Nat) (w :
    FWord) (noise : Word512) : view ar (State.observationLeaves s l t w noise) = view ar s := by
  simp only [List.mem_cons, List.not_mem_nil, not_or, or_false] at hA
  unfold State.observationLeaves
  simp [hA, view_ite, view_pushItem, view_useOut, view_leaves, view_observationLost]

theorem view_snapshotWrite (hA : ar ∉ [Area.latched]) (s : State) (v : Nat) : view ar (State.snapshotWrite s v).1 =
    view ar s := by
  simp only [List.mem_cons, List.not_mem_nil, or_false] at hA
  unfold State.snapshotWrite
  simp [hA, view_upd_latchAt, view_pair_ite]

theorem view_setEclipse (hA : ar ∉ [Area.objects]) (s : State) (p v : Nat) : view ar (State.setEclipse s p v) = view
    ar s := by
  simp only [List.mem_cons, List.not_mem_nil, or_false] at hA
  unfold State.setEclipse
  simp [hA, view_setObj]

theorem view_eclipsePart (hA : ar ∉ [Area.objects, Area.quads]) (s : State) (p : Nat) : view ar (State.eclipsePart s
    p) = view ar s := by
  simp only [List.mem_cons, List.not_mem_nil, not_or, or_false] at hA
  unfold State.eclipsePart
  simp [hA, view_ite, view_foldl, view_setQuad, view_setObj, view_setEclipse]

theorem view_eclipseWrite (hA : ar ∉ [Area.objects, Area.quads]) (s : State) (v : Nat) : view ar (State.eclipseWrite
    s v).1 = view ar s := by
  simp only [List.mem_cons, List.not_mem_nil, not_or, or_false] at hA
  unfold State.eclipseWrite
  simp [hA, view_foldl, view_setObj, view_eclipsePart]

theorem view_noteStop (hA : ar ∉ [Area.quads, Area.queues]) (s : State) (q : Nat) : view ar (State.noteStop s q) =
    view ar s := by
  simp only [List.mem_cons, List.not_mem_nil, not_or, or_false] at hA
  unfold State.noteStop
  simp [hA, view_foldl, view_setQuad, view_setDcq]

theorem view_resumePart (hA : ar ∉ [Area.sent, Area.free, Area.flash, Area.objects, Area.notices, Area.log, Area.stackCtl, Area.hbm, Area.poison, Area.parts, Area.queues, Area.loops, Area.counters, Area.links]) (s : State) (p : Nat) :
    view ar (State.resumePart s p) = view ar s := by
  simp only [List.mem_cons, List.not_mem_nil, not_or, or_false] at hA
  unfold State.resumePart
  simp [hA, view_ite, view_foldl, view_modPart, view_leaveSelfRefresh, view_endStop, view_serveReady, view_setEclipse, view_sendUnsent]

theorem view_resumeEnds (hA : ar ∉ [Area.objects, Area.quads, Area.parts]) (s : State) (p : Nat) : view ar
    (State.resumeEnds s p) = view ar s := by
  simp only [List.mem_cons, List.not_mem_nil, not_or, or_false] at hA
  unfold State.resumeEnds
  simp [hA, view_foldl, view_modPart, view_setQuad, view_setEclipse]

theorem view_resumeOne (hA : ar ∉ [Area.sent, Area.free, Area.flash, Area.objects, Area.notices, Area.log, Area.stackCtl, Area.hbm, Area.poison, Area.parts, Area.queues, Area.loops, Area.counters, Area.links]) (s : State) (p : Nat) :
    view ar (State.resumeOne s p) = view ar s := by
  simp only [List.mem_cons, List.not_mem_nil, not_or, or_false] at hA
  unfold State.resumeOne
  simp [hA, view_ite, view_modPart, view_setObj, view_resumePart]

theorem view_resumeWrite (hA : ar ∉ [Area.sent, Area.free, Area.flash, Area.objects, Area.notices, Area.log, Area.stackCtl, Area.hbm, Area.poison, Area.parts, Area.queues, Area.loops, Area.counters, Area.links]) (s : State) (v : Nat) :
    view ar (State.resumeWrite s v).1 = view ar s := by
  simp only [List.mem_cons, List.not_mem_nil, not_or, or_false] at hA
  unfold State.resumeWrite
  simp [hA, view_foldl, view_setObj, view_resumeOne]

theorem view_releaseOne (hA : ar ∉ [Area.sent, Area.free, Area.seal, Area.security, Area.objects, Area.notices,
    Area.log, Area.tests, Area.quads, Area.looms, Area.stackCtl, Area.hbm, Area.poison, Area.held, Area.parts,
    Area.queues, Area.loops, Area.bridges, Area.counters]) (s : State) (p : Nat) : view ar (State.releaseOne s p) = view
    ar s := by
  simp only [List.mem_cons, List.not_mem_nil, not_or, or_false] at hA
  unfold State.releaseOne
  simp [hA, view_ite, view_setObj, view_resetPart]

theorem view_releaseWrite (hA : ar ∉ [Area.sent, Area.free, Area.seal, Area.security, Area.objects, Area.notices,
    Area.log, Area.tests, Area.quads, Area.looms, Area.stackCtl, Area.hbm, Area.poison, Area.held, Area.parts,
    Area.queues, Area.loops, Area.bridges, Area.counters]) (s : State) (v : Nat) : view ar (State.releaseWrite s v).1 =
    view ar s := by
  simp only [List.mem_cons, List.not_mem_nil, not_or, or_false] at hA
  unfold State.releaseWrite
  simp [hA, view_foldl, view_setObj, view_releaseOne]

theorem view_hangSnapshot (hA : ar ∉ [Area.objects, Area.hang]) (s : State) (p cause : Nat) : view ar
    (State.hangSnapshot s p cause) = view ar s := by
  simp only [List.mem_cons, List.not_mem_nil, not_or, or_false] at hA
  unfold State.hangSnapshot
  simp [hA, view_upd_hangSnap, view_setObj]

theorem view_hangWrite (hA : ar ∉ [Area.objects, Area.hang]) (s : State) (v : Nat) : view ar (State.hangWrite s v).1
    = view ar s := by
  simp only [List.mem_cons, List.not_mem_nil, not_or, or_false] at hA
  unfold State.hangWrite
  simp [hA, view_foldl, view_hangSnapshot]

theorem view_scanQuad (hA : ar ∉ [Area.scans]) (s : State) (q : Nat) : view ar (State.scanQuad s q) = view ar s :=
    by
  simp only [List.mem_cons, List.not_mem_nil, or_false] at hA
  unfold State.scanQuad
  simp [hA, view_upd_scans]

theorem view_chargeMistake (hA : ar ∉ [Area.sent, Area.free, Area.objects, Area.notices, Area.log, Area.looms,
    Area.links, Area.parts, Area.queues, Area.loops]) (s : State) (p tag : Nat) : view ar (State.chargeMistake s p tag)
    = view ar s := by
  simp only [List.mem_cons, List.not_mem_nil, not_or, or_false] at hA
  unfold State.chargeMistake
  simp [hA, view_ite, view_modPart, view_abortStep]

theorem view_reject (hA : ar ∉ [Area.sent, Area.free, Area.objects, Area.notices, Area.log, Area.looms, Area.links,
    Area.parts, Area.queues, Area.loops]) (s : State) (l : LoomId) (why : Reject) : view ar (State.reject s l why) =
    view ar s := by
  simp only [List.mem_cons, List.not_mem_nil, not_or, or_false] at hA
  unfold State.reject
  (repeat' split) <;> simp [hA, view_setLoom, view_raiseQuad, view_chargeMistake]

theorem view_loomPoison (hA : ar ∉ [Area.sent, Area.free, Area.objects, Area.notices, Area.log, Area.looms,
    Area.links, Area.parts, Area.queues, Area.loops]) (s : State) (l : LoomId) (tag origin : Nat) : view ar
    (State.loomPoison s l tag origin) = view ar s := by
  simp only [List.mem_cons, List.not_mem_nil, not_or, or_false] at hA
  unfold State.loomPoison
  simp [hA, view_ite, view_consumePoison]

theorem view_found (hA : ar ∉ [Area.sent, Area.free, Area.objects, Area.notices, Area.log, Area.looms, Area.queues,
    Area.loops]) (s : State) (l : LoomId) (tag : Nat) (reads : LoomWord → Bool) (hit : Option LoomHit) : view ar
    (State.found s l tag reads hit) = view ar s := by
  simp only [List.mem_cons, List.not_mem_nil, not_or, or_false] at hA
  unfold State.found
  (repeat' split) <;> simp [hA, view_setLoom, view_freeOrigin, view_raiseQuad]

theorem view_descriptor (hA : ar ∉ [Area.sent, Area.free, Area.objects, Area.notices, Area.log, Area.looms,
    Area.links, Area.parts, Area.queues, Area.loops]) (s : State) (l : LoomId) (k : Nat) (hit : Option LoomHit) (f :
    State → Word512 → State) (hf : ∀ t d, view ar (f t d) = view ar t) : view ar (s.descriptor l k hit f) = view ar s :=
    by
  simp only [List.mem_cons, List.not_mem_nil, not_or, or_false] at hA
  unfold State.descriptor
  simp only
  (repeat' split) <;> simp [hA, hf, view_reject, view_found, view_setLoom, view_loomPoison]

theorem view_loomTrace (hA : ar ∉ [Area.objects, Area.looms]) (s : State) (l : LoomId) (kind nth idx : Nat) (d :
    Word512) : view ar (State.loomTrace s l kind nth idx d) = view ar s := by
  simp only [List.mem_cons, List.not_mem_nil, not_or, or_false] at hA
  unfold State.loomTrace
  simp [hA, view_ite, view_setLoom, view_bump]

theorem view_race (hA : ar ∉ [Area.sent, Area.free, Area.objects, Area.notices, Area.log, Area.quads, Area.looms,
    Area.links, Area.parts, Area.queues, Area.loops]) (s : State) (l : LoomId) (n o : InFlight) (line : Nat) : view ar
    (State.race s l n o line) = view ar s := by
  simp only [List.mem_cons, List.not_mem_nil, not_or, or_false] at hA
  unfold State.race
  simp [hA, view_ite, view_bump, view_raiseQuad, view_eclipsePart, view_chargeMistake]

theorem view_hazards (hA : ar ∉ [Area.sent, Area.free, Area.objects, Area.notices, Area.log, Area.quads, Area.looms,
    Area.links, Area.parts, Area.queues, Area.loops]) (s : State) (l : LoomId) (n : InFlight) (olds : List InFlight) :
    view ar (State.hazards s l n olds) = view ar s := by
  simp only [List.mem_cons, List.not_mem_nil, not_or, or_false] at hA
  unfold State.hazards
  repeat' first | rfl | split | refine view_foldl (fun _ _ => ?_) _ _
  all_goals simp [hA, view_race]

theorem view_controlDone (hA : ar ∉ [Area.objects, Area.looms]) (s : State) (l : LoomId) (d : Word512) (x : Loom) :
    view ar (State.controlDone s l d x) = view ar s := by
  simp only [List.mem_cons, List.not_mem_nil, not_or, or_false] at hA
  unfold State.controlDone
  simp [hA, view_setLoom, view_loomTrace]

theorem view_bankWaits (hA : ar ∉ [Area.counters]) (s : State) (l : LoomId) (u : UnitKind) (n : Nat) : view ar (State.bankWaits s l u n) = view ar s := by
  simp only [List.mem_cons, List.not_mem_nil, or_false] at hA
  unfold State.bankWaits
  simp [hA, view_ite, view_owe]

theorem view_toUnit (hA : ar ∉ [Area.sent, Area.free, Area.objects, Area.notices, Area.log, Area.quads, Area.looms, Area.links, Area.parts, Area.queues, Area.loops, Area.counters]) (s : State) (l : LoomId) (u : UnitKind) (d : Word512) (phase :
    Nat) (waits : Bool) (reads writes : List (Nat × Nat)) : view ar (State.toUnit s l u d phase waits reads writes) =
    view ar s := by
  simp only [List.mem_cons, List.not_mem_nil, not_or, or_false] at hA
  unfold State.toUnit
  simp [hA, view_setLoom, view_loomTrace, view_hazards, view_bankWaits]

theorem view_overflows (hA : ar ∉ [Area.sent, Area.free, Area.objects, Area.notices, Area.log, Area.queues,
    Area.loops]) (s : State) (l : LoomId) (tag : Nat) (keys : List Nat) : view ar (State.overflows s l tag keys) = view
    ar s := by
  simp only [List.mem_cons, List.not_mem_nil, not_or, or_false] at hA
  unfold State.overflows
  simp [hA, view_foldl, view_bump, view_raiseQuad]

theorem view_arrayPass (hA : ar ∉ [Area.sent, Area.free, Area.objects, Area.notices, Area.log, Area.looms,
    Area.links, Area.parts, Area.queues, Area.loops]) (s : State) (l : LoomId) (d : Word512) : view ar (State.arrayPass
    s l d) = view ar s := by
  simp only [List.mem_cons, List.not_mem_nil, not_or, or_false] at hA
  unfold State.arrayPass
  simp [hA, view_setLoom, view_loomPoison, view_overflows]

theorem view_outRow (hA : ar ∉ [Area.looms]) (s : State) (l : LoomId) (o : OutForm) (m : Nat) (vals : List (Option
    A96)) (exp : Int) (origins : List Nat) : view ar (State.outRow s l o m vals exp origins) = view ar s := by
  simp only [List.mem_cons, List.not_mem_nil, or_false] at hA
  unfold State.outRow
  simp [hA, view_setLoom]

theorem view_outBlock (hA : ar ∉ [Area.looms]) (s : State) (l : LoomId) (o : OutForm) (val : Nat → Option A96) (exp
    : Int) (origin : Nat → Nat) : view ar (State.outBlock s l o val exp origin) = view ar s := by
  simp only [List.mem_cons, List.not_mem_nil, or_false] at hA
  unfold State.outBlock
  simp [hA, view_foldl, view_outRow]

theorem view_fp32Product (hA : ar ∉ [Area.sent, Area.free, Area.objects, Area.notices, Area.log, Area.looms,
    Area.links, Area.parts, Area.queues, Area.loops]) (s : State) (l : LoomId) (d : Word512) : view ar
    (State.fp32Product s l d) = view ar s := by
  simp only [List.mem_cons, List.not_mem_nil, not_or, or_false] at hA
  unfold State.fp32Product
  simp [hA, view_setLoom, view_loomPoison, view_overflows, view_outRow]

theorem view_drainLocal (hA : ar ∉ [Area.sent, Area.free, Area.objects, Area.notices, Area.log, Area.looms,
    Area.links, Area.parts, Area.queues, Area.loops]) (s : State) (l : LoomId) : view ar (State.drainLocal s l) = view
    ar s := by
  simp only [List.mem_cons, List.not_mem_nil, not_or, or_false] at hA
  unfold State.drainLocal
  simp [hA, view_setLoom, view_loomPoison, view_outBlock]

theorem view_drainChain (hA : ar ∉ [Area.sent, Area.free, Area.objects, Area.notices, Area.log, Area.looms,
    Area.links, Area.parts, Area.queues, Area.loops]) (s : State) (l : LoomId) (r : ChainRole) : view ar
    (State.drainChain s l r) = view ar s := by
  simp only [List.mem_cons, List.not_mem_nil, not_or, or_false] at hA
  unfold State.drainChain
  simp [hA, view_ite, view_setLoom, view_loomPoison, view_outBlock]

theorem view_chainShort (hA : ar ∉ [Area.sent, Area.free, Area.objects, Area.notices, Area.log, Area.looms,
    Area.queues, Area.loops]) (s : State) (l : LoomId) (r : ChainRole) : view ar (State.chainShort s l r) = view ar s :=
    by
  simp only [List.mem_cons, List.not_mem_nil, not_or, or_false] at hA
  unfold State.chainShort
  simp [hA, view_ite, view_bump, view_slotMiss]

theorem view_chainMiss (hA : ar ∉ [Area.sent, Area.free, Area.objects, Area.notices, Area.log, Area.looms,
    Area.queues, Area.loops]) (s : State) (l : LoomId) (w : FWord) : view ar (State.chainMiss s l w) = view ar s := by
  simp only [List.mem_cons, List.not_mem_nil, not_or, or_false] at hA
  unfold State.chainMiss
  simp [hA, view_slotMiss]

theorem view_hop (hA : ar ∉ [Area.sent, Area.free, Area.objects, Area.notices, Area.log, Area.looms, Area.links,
    Area.parts, Area.queues, Area.loops]) (s : State) (l : LoomId) (r : ChainRole) (idx : Nat) (rx : RxWord) : view ar
    (State.hop s l r idx rx) = view ar s := by
  simp only [List.mem_cons, List.not_mem_nil, not_or, or_false] at hA
  unfold State.hop
  simp only
  (repeat' split) <;> simp [hA, view_setLoom, view_freeOrigin, view_loomPoison, view_overflows]

theorem view_laneFails (hA : ar ∉ [Area.sent, Area.free, Area.objects, Area.notices, Area.log, Area.queues,
    Area.loops]) (s : State) (l : LoomId) (e : Nat × Nat × Nat) : view ar (State.laneFails s l e) = view ar s := by
  simp only [List.mem_cons, List.not_mem_nil, not_or, or_false] at hA
  unfold State.laneFails
  simp [hA, view_setObj, view_bump, view_raiseQuad]

theorem view_verdictFails (hA : ar ∉ [Area.sent, Area.free, Area.objects, Area.notices, Area.log, Area.queues,
    Area.loops]) (s : State) (l : LoomId) (v : OwedVerdict) (u : Option Upset) : view ar (State.verdictFails s l v u) =
    view ar s := by
  simp only [List.mem_cons, List.not_mem_nil, not_or, or_false] at hA
  unfold State.verdictFails
  simp [hA, view_setObj, view_bump, view_raiseQuad]

theorem view_tableWord (hA : ar ∉ [Area.sent, Area.free, Area.objects, Area.notices, Area.log, Area.queues,
    Area.loops]) (s : State) (l : LoomId) (u : Option Upset) : view ar (State.tableWord s l u) = view ar s := by
  simp only [List.mem_cons, List.not_mem_nil, not_or, or_false] at hA
  unfold State.tableWord
  (repeat' split) <;> simp [hA, view_raiseQuad]

theorem view_chargeVerdict (hA : ar ∉ [Area.sent, Area.free, Area.objects, Area.notices, Area.log, Area.looms,
    Area.links, Area.parts, Area.queues, Area.loops]) (s : State) (p : Nat) : view ar (State.chargeVerdict s p) = view
    ar s := by
  simp only [List.mem_cons, List.not_mem_nil, not_or, or_false] at hA
  unfold State.chargeVerdict
  simp [hA, view_ite, view_chargeFault]

theorem view_programLeaves (hA : ar ∉ [Area.flash, Area.security]) (s : State) (ok : Bool) : view ar
    (State.programLeaves s ok) = view ar s := by
  simp only [List.mem_cons, List.not_mem_nil, not_or, or_false] at hA
  unfold State.programLeaves
  simp [hA, view_upd_flash_sec]

theorem view_tear (hA : ar ∉ [Area.flash, Area.security]) (s : State) (torn : Option Torn) : view ar (State.tear s
    torn) = view ar s := by
  simp only [List.mem_cons, List.not_mem_nil, not_or, or_false] at hA
  unfold State.tear
  (repeat' split) <;> simp [hA, view_upd_flash, view_programLeaves]

theorem view_bootSecurity (hA : ar ∉ [Area.free, Area.bringUp, Area.security]) (s : State) (pufOk : Bool) : view ar
    (State.bootSecurity s pufOk) = view ar s := by
  simp only [List.mem_cons, List.not_mem_nil, not_or, or_false] at hA
  unfold State.bootSecurity
  simp [hA, view_upd_identityOk_sec, view_draw]

theorem view_showFirmware (hA : ar ∉ [Area.objects]) (s : State) : view ar (State.showFirmware s) = view ar s := by
  simp only [List.mem_cons, List.not_mem_nil, or_false] at hA
  unfold State.showFirmware
  simp [hA, view_setObj]

theorem view_bootRom (hA : ar ∉ [Area.power, Area.flash, Area.security]) (s : State) : view ar (State.bootRom s) =
    view ar s := by
  simp only [List.mem_cons, List.not_mem_nil, not_or, or_false] at hA
  unfold State.bootRom
  simp [hA, view_ite, view_upd_romHold, view_upd_flash_sec]

theorem view_loadSettings (hA : ar ∉ [Area.objects, Area.inForce]) (s : State) : view ar (State.loadSettings s) =
    view ar s := by
  simp only [List.mem_cons, List.not_mem_nil, not_or, or_false] at hA
  unfold State.loadSettings
  simp [hA, view_upd_objs_inForce]

theorem view_bootFirmware (hA : ar ∉ [Area.sent, Area.free, Area.objects, Area.inForce, Area.notices, Area.log,
    Area.queues, Area.loops]) (s : State) : view ar (State.bootFirmware s) = view ar s := by
  simp only [List.mem_cons, List.not_mem_nil, not_or, or_false] at hA
  unfold State.bootFirmware
  simp [hA, view_ite, view_setObj, view_raiseDevice, view_showFirmware, view_loadSettings]

theorem view_startStep (hA : ar ∉ [Area.bringUp, Area.objects]) (s : State) (n : Nat) : view ar (State.startStep s
    n) = view ar s := by
  simp only [List.mem_cons, List.not_mem_nil, not_or, or_false] at hA
  unfold State.startStep
  simp [hA, view_upd_stepStart, view_setObj]

theorem view_endStep (hA : ar ∉ [Area.objects]) (s : State) (n result : Nat) : view ar (State.endStep s n result) =
    view ar s := by
  simp only [List.mem_cons, List.not_mem_nil, or_false] at hA
  unfold State.endStep
  simp [hA, view_setObj]

theorem view_applyLayout (hA : ar ∉ [Area.sent, Area.free, Area.bringUp, Area.seal, Area.security, Area.objects,
    Area.inForce, Area.notices, Area.log, Area.tests, Area.quads, Area.looms, Area.stackCtl, Area.hbm, Area.poison,
    Area.held, Area.parts, Area.queues, Area.loops, Area.bridges, Area.counters]) (s : State) (v : Nat × List Nat) :
    view ar (State.applyLayout s v) = view ar s := by
  simp only [List.mem_cons, List.not_mem_nil, not_or, or_false] at hA
  unfold State.applyLayout
  simp [hA, view_foldl, view_upd_applyWaits, view_upd_sealArmed, view_modPart, view_setObj, view_setLive,
      view_resetAll]

theorem view_applyWrite (hA : ar ∉ [Area.sent, Area.free, Area.bringUp, Area.seal, Area.security, Area.objects,
    Area.inForce, Area.notices, Area.log, Area.tests, Area.quads, Area.looms, Area.stackCtl, Area.hbm, Area.poison,
    Area.held, Area.parts, Area.queues, Area.loops, Area.bridges, Area.counters]) (s : State) (v : Nat) : view ar
    (State.applyWrite s v).1 = view ar s := by
  simp only [List.mem_cons, List.not_mem_nil, not_or, or_false] at hA
  unfold State.applyWrite
  (repeat' split) <;> simp [hA, view_upd_applyWaits, view_setObj, view_applyLayout, view_pair_ite]

theorem view_applyIfWaiting (hA : ar ∉ [Area.sent, Area.free, Area.bringUp, Area.seal, Area.security, Area.objects,
    Area.inForce, Area.notices, Area.log, Area.tests, Area.quads, Area.looms, Area.stackCtl, Area.hbm, Area.poison,
    Area.held, Area.parts, Area.queues, Area.loops, Area.bridges, Area.counters]) (s : State) : view ar
    (State.applyIfWaiting s) = view ar s := by
  simp only [List.mem_cons, List.not_mem_nil, not_or, or_false] at hA
  unfold State.applyIfWaiting
  (repeat' split) <;> simp [hA, view_applyLayout]

theorem view_zeroFillEnds (hA : ar ∉ [Area.objects, Area.stackCtl]) (s : State) (f : Nat → Bool) : view ar
    (State.zeroFillEnds s f) = view ar s := by
  simp only [List.mem_cons, List.not_mem_nil, not_or, or_false] at hA
  unfold State.zeroFillEnds
  simp [hA, view_foldl, view_setStack, view_setObj]

theorem view_mapQuad (hA : ar ∉ [Area.objects]) (s : State) (q : Nat) : view ar (State.mapQuad s q) = view ar s :=
    by
  simp only [List.mem_cons, List.not_mem_nil, or_false] at hA
  unfold State.mapQuad
  simp [hA, view_foldl, view_setObj]

theorem view_repairStep (hA : ar ∉ [Area.sent, Area.free, Area.bringUp, Area.objects, Area.notices, Area.log,
    Area.queues, Area.loops]) (s : State) : view ar (State.repairStep s) = view ar s := by
  simp only [List.mem_cons, List.not_mem_nil, not_or, or_false] at hA
  unfold State.repairStep
  simp [hA, view_ite, view_foldl, view_raiseDevice, view_enterFailed, view_startStep, view_endStep, view_mapQuad]

theorem view_katLooms (hA : ar ∉ [Area.free, Area.looms]) (s : State) (q : Fin 4) : view ar (State.katLooms s q) =
    view ar s := by
  simp only [List.mem_cons, List.not_mem_nil, not_or, or_false] at hA
  unfold State.katLooms
  simp [hA, view_foldl, view_upd_fresh, view_setLoom]

theorem view_katScratch (hA : ar ∉ [Area.hbm, Area.poison]) (s : State) : view ar (State.katScratch s) = view ar s
    := by
  simp only [List.mem_cons, List.not_mem_nil, not_or, or_false] at hA
  unfold State.katScratch
  simp [hA, view_upd_hbm_hbmPoison]

theorem view_runStep (hA : ar ∉ [Area.sent, Area.free, Area.power, Area.phase, Area.bringUp, Area.objects,
    Area.notices, Area.log, Area.quads, Area.looms, Area.stackCtl, Area.queues, Area.loops]) (s : State) (n : Nat) :
    view ar (State.runStep s n) = view ar s := by
  simp only [List.mem_cons, List.not_mem_nil, not_or, or_false] at hA
  unfold State.runStep
  simp [hA, view_ite, view_foldl, view_upd_phase_pllsOn_clockNs_quads, view_upd_hbmLeft, view_upd_bistGroup,
      view_upd_katRound_katQuads_katTries, view_setStack, view_setObj, view_startStep, view_repairStep, view_katLooms]

theorem view_goWrite (hA : ar ∉ [Area.sent, Area.free, Area.power, Area.phase, Area.bringUp, Area.objects,
    Area.notices, Area.log, Area.quads, Area.looms, Area.stackCtl, Area.queues, Area.loops]) (s : State) (n v : Nat) :
    view ar (State.goWrite s n v).1 = view ar s := by
  simp only [List.mem_cons, List.not_mem_nil, not_or, or_false] at hA
  unfold State.goWrite
  simp [hA, view_setObj, view_runStep, view_pair_ite]

theorem view_stackTrained (hA : ar ∉ [Area.sent, Area.free, Area.bringUp, Area.flash, Area.objects, Area.notices,
    Area.log, Area.stackCtl, Area.hbm, Area.poison, Area.queues, Area.loops]) (s : State) (k : Nat) (chans : List
    (BitVec 16)) (ms : Nat) : view ar (State.stackTrained s k chans ms) = view ar s := by
  simp only [List.mem_cons, List.not_mem_nil, not_or, or_false] at hA
  unfold State.stackTrained
  simp [hA, view_ite, view_foldl, view_upd_hbmLeft_flash, view_setStack, view_setObj, view_raiseDevice, view_clearHbm]

theorem view_bistGroupEnds (hA : ar ∉ [Area.sent, Area.free, Area.objects, Area.notices, Area.log, Area.queues,
    Area.loops]) (s : State) (g : Nat) (fails : List BistFail) (bypass : List (Fin 20)) : view ar (State.bistGroupEnds s
    g fails bypass) = view ar s := by
  simp only [List.mem_cons, List.not_mem_nil, not_or, or_false] at hA
  unfold State.bistGroupEnds
  simp [hA, view_foldl, view_setObj, view_bump, view_raiseQuad]

theorem view_katLoomFails (hA : ar ∉ [Area.sent, Area.free, Area.objects, Area.notices, Area.log, Area.queues,
    Area.loops]) (s : State) (l : LoomId) : view ar (State.katLoomFails s l) = view ar s := by
  simp only [List.mem_cons, List.not_mem_nil, not_or, or_false] at hA
  unfold State.katLoomFails
  simp [hA, view_setObj, view_bump, view_raiseQuad]

theorem view_katEngineFails (hA : ar ∉ [Area.sent, Area.free, Area.objects, Area.notices, Area.log, Area.stackCtl,
    Area.queues, Area.loops]) (s : State) (k : Nat) : view ar (State.katEngineFails s k) = view ar s := by
  simp only [List.mem_cons, List.not_mem_nil, not_or, or_false] at hA
  unfold State.katEngineFails
  simp [hA, view_setStack, view_setObj, view_raiseQuad]

theorem view_katFailed (hA : ar ∉ [Area.sent, Area.free, Area.bringUp, Area.objects, Area.notices, Area.log,
    Area.hbm, Area.poison, Area.queues, Area.loops]) (s : State) : view ar (State.katFailed s) = view ar s := by
  simp only [List.mem_cons, List.not_mem_nil, not_or, or_false] at hA
  unfold State.katFailed
  simp [hA, view_upd_katRound_katQuads, view_enterFailed, view_endStep, view_katScratch]

theorem view_startSeal (hA : ar ∉ [Area.bringUp, Area.objects]) (s : State) : view ar (State.startSeal s) = view ar
    s := by
  simp only [List.mem_cons, List.not_mem_nil, not_or, or_false] at hA
  unfold State.startSeal
  simp [hA, view_ite, view_startStep]

theorem view_showReadings (hA : ar ∉ [Area.objects]) (s : State) (x : Readings) : view ar (State.showReadings s x) =
    view ar s := by
  simp only [List.mem_cons, List.not_mem_nil, or_false] at hA
  unfold State.showReadings
  simp [hA, view_ite, view_foldl, view_setObj, view_bump]

theorem view_stopRunningSteps (hA : ar ∉ [Area.objects]) (s : State) : view ar (State.stopRunningSteps s) = view ar
    s := by
  simp only [List.mem_cons, List.not_mem_nil, or_false] at hA
  unfold State.stopRunningSteps
  simp [hA, view_ite, view_endStep]

theorem view_portHeld (hA : ar ∉ [Area.objects, Area.links]) (s : State) (p : Nat) : view ar (State.portHeld s p) =
    view ar s := by
  simp only [List.mem_cons, List.not_mem_nil, not_or, or_false] at hA
  unfold State.portHeld
  simp [hA, view_ite, view_setObj, view_portStop]

theorem view_setEphRow (hA : ar ∉ [Area.sent, Area.free, Area.flash, Area.objects, Area.notices, Area.log,
    Area.stackCtl, Area.hbm, Area.poison, Area.queues, Area.loops, Area.counters]) (s : State) (p step t : Nat) (r :
    EphRow) (poison : Bool) : view ar (State.setEphRow s p step t r poison) = view ar s := by
  simp only [List.mem_cons, List.not_mem_nil, not_or, or_false] at hA
  unfold State.setEphRow
  simp [hA, view_writeRegion]

theorem view_countRow (hA : ar ∉ [Area.sent, Area.free, Area.flash, Area.objects, Area.notices, Area.log,
    Area.stackCtl, Area.hbm, Area.poison, Area.queues, Area.loops, Area.counters]) (s : State) (p step t k : Nat) : view
    ar (State.countRow s p step t k) = view ar s := by
  simp only [List.mem_cons, List.not_mem_nil, not_or, or_false] at hA
  unfold State.countRow
  simp [hA, view_countRead]

theorem view_recordRow (hA : ar ∉ [Area.sent, Area.free, Area.flash, Area.objects, Area.notices, Area.log,
    Area.stackCtl, Area.hbm, Area.poison, Area.queues, Area.loops, Area.counters]) (s : State) (p step t : Nat) (a :
    EphAcc) (poison : Bool) : view ar (State.recordRow s p step t a poison) = view ar s := by
  simp only [List.mem_cons, List.not_mem_nil, not_or, or_false] at hA
  unfold State.recordRow
  simp [hA, view_setEphRow, view_countRow]

theorem view_recordJobMax (hA : ar ∉ [Area.sent, Area.free, Area.flash, Area.objects, Area.notices, Area.log,
    Area.stackCtl, Area.hbm, Area.poison, Area.queues, Area.loops, Area.counters]) (s : State) (p t max : Nat) : view ar
    (State.recordJobMax s p t max) = view ar s := by
  simp only [List.mem_cons, List.not_mem_nil, not_or, or_false] at hA
  unfold State.recordJobMax
  simp [hA, view_ite, view_setEphRow]

theorem view_fillRow (hA : ar ∉ [Area.sent, Area.free, Area.flash, Area.objects, Area.notices, Area.log,
    Area.stackCtl, Area.hbm, Area.poison, Area.queues, Area.loops, Area.counters]) (s : State) (p step : Nat) : view ar
    (State.fillRow s p step) = view ar s := by
  simp only [List.mem_cons, List.not_mem_nil, not_or, or_false] at hA
  unfold State.fillRow
  simp [hA, view_foldl, view_bump, view_writeTagged, view_countRow]

theorem view_fillRegisters (hA : ar ∉ [Area.sent, Area.free, Area.flash, Area.objects, Area.notices, Area.log,
    Area.looms, Area.stackCtl, Area.hbm, Area.poison, Area.queues, Area.loops, Area.counters]) (s : State) (p step :
    Nat) : view ar (State.fillRegisters s p step) = view ar s := by
  simp only [List.mem_cons, List.not_mem_nil, not_or, or_false] at hA
  unfold State.fillRegisters
  simp [hA, view_modLooms, view_countRow]

theorem view_watchOne (hA : ar ∉ [Area.sent, Area.free, Area.flash, Area.objects, Area.notices, Area.log,
    Area.stackCtl, Area.hbm, Area.poison, Area.parts, Area.queues, Area.loops, Area.counters]) (s : State) (p step t
    stat count threshold elems : Nat) : view ar (State.watchOne s p step t stat count threshold elems) = view ar s := by
  simp only [List.mem_cons, List.not_mem_nil, not_or, or_false] at hA
  unfold State.watchOne
  simp [hA, view_ite, view_bump, view_haltAtBoundary, view_setEphRow, view_raise]

theorem view_watchSlot (hA : ar ∉ [Area.sent, Area.free, Area.flash, Area.objects, Area.notices, Area.log,
    Area.stackCtl, Area.hbm, Area.poison, Area.parts, Area.queues, Area.loops, Area.counters]) (s : State) (p step t :
    Nat) : view ar (State.watchSlot s p step t) = view ar s := by
  simp only [List.mem_cons, List.not_mem_nil, not_or, or_false] at hA
  unfold State.watchSlot
  simp [hA, view_ite, view_watchOne]

theorem view_finaliseRow (hA : ar ∉ [Area.sent, Area.free, Area.flash, Area.objects, Area.notices, Area.log,
    Area.stackCtl, Area.hbm, Area.poison, Area.parts, Area.queues, Area.loops, Area.counters]) (s : State) (p : Nat) :
    view ar (State.finaliseRow s p) = view ar s := by
  simp only [List.mem_cons, List.not_mem_nil, not_or, or_false] at hA
  unfold State.finaliseRow
  simp [hA, view_foldl, view_modPart, view_setObj, view_countRow, view_watchSlot]

theorem view_mergeLoom (hA : ar ∉ [Area.sent, Area.free, Area.flash, Area.objects, Area.notices, Area.log,
    Area.looms, Area.stackCtl, Area.hbm, Area.poison, Area.queues, Area.loops, Area.counters]) (s : State) (l : LoomId)
    : view ar (State.mergeLoom s l) = view ar s := by
  simp only [List.mem_cons, List.not_mem_nil, not_or, or_false] at hA
  unfold State.mergeLoom
  simp [hA, view_ite, view_foldl, view_setLoom, view_recordRow]

theorem view_countWin (hA : ar ∉ [Area.sent, Area.free, Area.flash, Area.objects, Area.notices, Area.log,
    Area.stackCtl, Area.hbm, Area.poison, Area.queues, Area.loops, Area.counters]) (s : State) (who : Requester) (p :
    Nat) (w : WindowEnt) (n k : Nat) : view ar (State.countWin s who p w n k) = view ar s := by
  simp only [List.mem_cons, List.not_mem_nil, not_or, or_false] at hA
  unfold State.countWin
  simp [hA, view_foldl, view_countRead]

theorem view_setWin (hA : ar ∉ [Area.sent, Area.free, Area.flash, Area.objects, Area.notices, Area.log,
    Area.stackCtl, Area.hbm, Area.poison, Area.queues, Area.loops, Area.counters]) (s : State) (who : Requester) (p :
    Nat) (w : WindowEnt) (n k : Nat) (v : Nat → Nat) (keep : Bool) : view ar (State.setWin s who p w n k v keep) = view
    ar s := by
  simp only [List.mem_cons, List.not_mem_nil, not_or, or_false] at hA
  unfold State.setWin
  simp [hA, view_foldl, view_writeTagged]

theorem view_setLedger (hA : ar ∉ [Area.sent, Area.free, Area.flash, Area.objects, Area.notices, Area.log,
    Area.stackCtl, Area.hbm, Area.poison, Area.queues, Area.loops, Area.counters]) (s : State) (p : Nat) (w : WindowEnt)
    (c : Nat) (l : Ledger) : view ar (State.setLedger s p w c l) = view ar s := by
  simp only [List.mem_cons, List.not_mem_nil, not_or, or_false] at hA
  unfold State.setLedger
  simp [hA, view_writeRegion]

theorem view_countLedger (hA : ar ∉ [Area.sent, Area.free, Area.flash, Area.objects, Area.notices, Area.log,
    Area.stackCtl, Area.hbm, Area.poison, Area.queues, Area.loops, Area.counters]) (s : State) (p : Nat) (w : WindowEnt)
    (c : Nat) : view ar (State.countLedger s p w c) = view ar s := by
  simp only [List.mem_cons, List.not_mem_nil, not_or, or_false] at hA
  unfold State.countLedger
  simp [hA, view_countRead]

theorem view_putLog (hA : ar ∉ [Area.sent, Area.free, Area.flash, Area.objects, Area.notices, Area.log,
    Area.stackCtl, Area.hbm, Area.poison, Area.queues, Area.loops, Area.counters]) (s : State) (p pos n : Nat) (l : List
    Bytes) : view ar (State.putLog s p pos n l) = view ar s := by
  simp only [List.mem_cons, List.not_mem_nil, not_or, or_false] at hA
  unfold State.putLog
  exact view_foldl (fun t e => view_across (by simp [hA]) _ _ _ (fun u => by simp [hA, view_writeRegion])) _ _

theorem view_writeLog (hA : ar ∉ [Area.sent, Area.free, Area.flash, Area.objects, Area.notices, Area.log,
    Area.stackCtl, Area.hbm, Area.poison, Area.parts, Area.queues, Area.loops, Area.counters]) (s : State) (p step :
    Nat) (l : List FpEntry) : view ar (State.writeLog s p step l) = view ar s := by
  simp only [List.mem_cons, List.not_mem_nil, not_or, or_false] at hA
  unfold State.writeLog
  simp [hA, view_ite, view_modPart, view_setObj, view_putLog]

theorem view_foldStep (hA : ar ∉ [Area.sent, Area.free, Area.flash, Area.objects, Area.notices, Area.log,
    Area.stackCtl, Area.hbm, Area.poison, Area.parts, Area.queues, Area.loops, Area.counters]) (s : State) (p : Nat) :
    view ar (State.foldStep s p) = view ar s := by
  simp only [List.mem_cons, List.not_mem_nil, not_or, or_false] at hA
  unfold State.foldStep
  simp [hA, view_modPart, view_setObj, view_writeLog]

theorem view_countRows (hA : ar ∉ [Area.sent, Area.free, Area.flash, Area.objects, Area.notices, Area.log,
    Area.stackCtl, Area.hbm, Area.poison, Area.queues, Area.loops, Area.counters]) (s : State) (p c : Nat) : view ar
    (State.countRows s p c) = view ar s := by
  simp only [List.mem_cons, List.not_mem_nil, not_or, or_false] at hA
  unfold State.countRows
  simp [hA, view_foldl, view_countRead]

theorem view_ckptReport (hA : ar ∉ [Area.sent, Area.objects, Area.links, Area.parts, Area.queues, Area.loops]) (s :
    State) (p : Nat) (before : Bytes) : view ar (State.ckptReport s p before) = view ar s := by
  simp only [List.mem_cons, List.not_mem_nil, not_or, or_false] at hA
  unfold State.ckptReport
  simp [hA, view_report]

theorem view_takeCheckpoint (hA : ar ∉ [Area.sent, Area.free, Area.flash, Area.security, Area.objects, Area.notices,
    Area.log, Area.stackCtl, Area.hbm, Area.poison, Area.links, Area.parts, Area.queues, Area.loops, Area.counters]) (s
    : State) (p c : Nat) : view ar (State.takeCheckpoint s p c) = view ar s := by
  simp only [List.mem_cons, List.not_mem_nil, not_or, or_false] at hA
  unfold State.takeCheckpoint
  simp [hA, view_ite, view_upd_sec, view_modPart, view_setObj, view_writeTagged, view_countRows, view_ckptReport]

theorem view_placeRunRecord (hA : ar ∉ [Area.sent, Area.free, Area.flash, Area.objects, Area.notices, Area.log,
    Area.stackCtl, Area.hbm, Area.poison, Area.links, Area.parts, Area.queues, Area.loops, Area.counters]) (s : State)
    (p : Nat) (record : Option Bytes) : view ar (State.placeRunRecord s p record) = view ar s := by
  simp only [List.mem_cons, List.not_mem_nil, not_or, or_false] at hA
  unfold State.placeRunRecord
  (repeat' split) <;> simp [hA, view_countRead, view_writeRegion, view_ckptReport]

theorem view_stepBlock (hA : ar ∉ [Area.sent, Area.free, Area.flash, Area.objects, Area.notices, Area.log,
    Area.looms, Area.stackCtl, Area.hbm, Area.poison, Area.links, Area.parts, Area.queues, Area.loops, Area.counters])
    (s : State) (k p : Nat) (c : Word512) (w : WindowEnt) (eta : Val) (apply : Bool) (key b : Nat) : view ar
    (State.stepBlock s k p c w eta apply key b) = view ar s := by
  simp only [List.mem_cons, List.not_mem_nil, not_or, or_false] at hA
  unfold State.stepBlock
  simp [hA, view_ite, view_modPart, view_bump, view_consumePoison, view_countRead, view_writeRegion, view_recordRow]

theorem view_laneFault (hA : ar ∉ [Area.sent, Area.free, Area.objects, Area.notices, Area.log, Area.looms,
    Area.links, Area.parts, Area.queues, Area.loops]) (s : State) (k p : Nat) (c : Word512) (b : Nat) : view ar
    (State.laneFault s k p c b) = view ar s := by
  simp only [List.mem_cons, List.not_mem_nil, not_or, or_false] at hA
  unfold State.laneFault
  simp [hA, view_bump, view_raiseQuad, view_consumePoison]

theorem view_engineRun (hA : ar ∉ [Area.sent, Area.free, Area.flash, Area.objects, Area.notices, Area.log,
    Area.looms, Area.stackCtl, Area.hbm, Area.poison, Area.links, Area.parts, Area.queues, Area.loops, Area.counters])
    (s : State) (k p : Nat) (c : Word512) (w : WindowEnt) (apply laneBad : Bool) : view ar (State.engineRun s k p c w
    apply laneBad) = view ar s := by
  simp only [List.mem_cons, List.not_mem_nil, not_or, or_false] at hA
  unfold State.engineRun
  simp only
  (repeat' split) <;> simp [hA, view_foldl, view_stepBlock, view_laneFault]

theorem view_cmdFinished (hA : ar ∉ [Area.stackCtl]) (s : State) (k i : Nat) : view ar (State.cmdFinished s k i) =
    view ar s := by
  simp only [List.mem_cons, List.not_mem_nil, or_false] at hA
  unfold State.cmdFinished
  simp [hA, view_setStack]

theorem view_frozenWrite (hA : ar ∉ [Area.sent, Area.free, Area.objects, Area.notices, Area.log, Area.parts,
    Area.queues, Area.loops]) (s : State) (k p i : Nat) (c : Word512) : view ar (State.frozenWrite s k p i c) = view ar
    s := by
  simp only [List.mem_cons, List.not_mem_nil, not_or, or_false] at hA
  unfold State.frozenWrite
  simp [hA, view_ite, view_bump, view_raiseQuad, view_haltAtBoundary]

theorem view_runCommand (hA : ar ∉ [Area.sent, Area.free, Area.flash, Area.objects, Area.notices, Area.log,
    Area.looms, Area.stackCtl, Area.hbm, Area.poison, Area.links, Area.parts, Area.queues, Area.loops, Area.counters])
    (s : State) (k p i : Nat) (c : Word512) (w : WindowEnt) (laneBad : Bool) : view ar (State.runCommand s k p i c w
    laneBad) = view ar s := by
  simp only [List.mem_cons, List.not_mem_nil, not_or, or_false] at hA
  unfold State.runCommand
  simp [hA, view_ite, view_bump, view_raiseQuad, view_consumePoison, view_engineRun]

theorem view_traceCommand (hA : ar ∉ [Area.objects, Area.queues]) (s : State) (k p kind : Nat) (c : Word512) : view
    ar (State.traceCommand s k p kind c) = view ar s := by
  simp only [List.mem_cons, List.not_mem_nil, not_or, or_false] at hA
  unfold State.traceCommand
  simp [hA, view_traceUnit]

theorem view_putCopy (hA : ar ∉ [Area.sent, Area.free, Area.flash, Area.objects, Area.notices, Area.log,
    Area.stackCtl, Area.hbm, Area.poison, Area.queues, Area.loops, Area.counters]) (s : State) (p : Nat) (c : Word512)
    (e : Nat) (codes : List Nat) (bad : Option Nat) : view ar (State.putCopy s p c e codes bad) = view ar s := by
  simp only [List.mem_cons, List.not_mem_nil, not_or, or_false] at hA
  unfold State.putCopy
  simp [hA, view_writeBy]

theorem view_countMasters (hA : ar ∉ [Area.sent, Area.free, Area.flash, Area.objects, Area.notices, Area.log,
    Area.stackCtl, Area.hbm, Area.poison, Area.queues, Area.loops, Area.counters]) (s : State) (p : Nat) (c : Word512) :
    view ar (State.countMasters s p c) = view ar s := by
  simp only [List.mem_cons, List.not_mem_nil, not_or, or_false] at hA
  unfold State.countMasters
  simp [hA, view_foldl, view_countRead]

theorem view_copyCommand (hA : ar ∉ [Area.sent, Area.free, Area.flash, Area.objects, Area.notices, Area.log,
    Area.looms, Area.stackCtl, Area.hbm, Area.poison, Area.links, Area.parts, Area.queues, Area.loops, Area.counters])
    (s : State) (p : Nat) (c : Word512) : view ar (State.copyCommand s p c) = view ar s := by
  simp only [List.mem_cons, List.not_mem_nil, not_or, or_false] at hA
  unfold State.copyCommand
  simp only
  (repeat' split) <;> simp [hA, view_consumePoison, view_recordRow, view_putCopy, view_countMasters]

theorem view_copyAll (hA : ar ∉ [Area.sent, Area.free, Area.flash, Area.objects, Area.notices, Area.log, Area.looms,
    Area.stackCtl, Area.hbm, Area.poison, Area.links, Area.parts, Area.queues, Area.loops, Area.counters]) (s : State)
    (p : Nat) : view ar (State.copyAll s p) = view ar s := by
  simp only [List.mem_cons, List.not_mem_nil, not_or, or_false] at hA
  unfold State.copyAll
  simp [hA, view_ite, view_foldl, view_copyCommand]

theorem view_armFails (hA : ar ∉ [Area.parts]) (s : State) (p status detail : Nat) : view ar (State.armFails s p
    status detail) = view ar s := by
  simp only [List.mem_cons, List.not_mem_nil, or_false] at hA
  unfold State.armFails
  simp [hA, view_modPart]

theorem view_modArming (hA : ar ∉ [Area.parts]) (s : State) (p : Nat) (f : Arming → Arming) : view ar
    (State.modArming s p f) = view ar s := by
  simp only [List.mem_cons, List.not_mem_nil, or_false] at hA
  unfold State.modArming
  simp [hA, view_modPart]

theorem view_countStates (hA : ar ∉ [Area.sent, Area.free, Area.flash, Area.objects, Area.notices, Area.log,
    Area.stackCtl, Area.hbm, Area.poison, Area.queues, Area.loops, Area.counters]) (s : State) (p : Nat) (cs : List
    Word512) : view ar (State.countStates s p cs) = view ar s := by
  simp only [List.mem_cons, List.not_mem_nil, not_or, or_false] at hA
  unfold State.countStates
  exact view_foldl (fun t c => view_foldl (fun u b => by simp [hA, view_countRead]) _ _) _ _

theorem view_useStates (hA : ar ∉ [Area.sent, Area.free, Area.objects, Area.notices, Area.log, Area.looms, Area.links, Area.parts, Area.queues, Area.loops, Area.flash, Area.stackCtl, Area.hbm, Area.poison, Area.counters]) (s : State) (p : Nat) (cs : List Word512) : view ar (State.useStates s p cs) = view ar s := by
  simp only [List.mem_cons, List.not_mem_nil, not_or, or_false] at hA
  unfold State.useStates
  (repeat' split) <;> simp [hA, view_countStates, view_consumePoison]

theorem view_armFingerprints (hA : ar ∉ [Area.sent, Area.free, Area.flash, Area.objects, Area.notices, Area.log, Area.stackCtl, Area.hbm, Area.poison, Area.parts, Area.queues, Area.loops, Area.counters, Area.looms, Area.links]) (s : State) (p : Nat) :
    view ar (State.armFingerprints s p) = view ar s := by
  simp only [List.mem_cons, List.not_mem_nil, not_or, or_false] at hA
  unfold State.armFingerprints
  simp [hA, view_modPart, view_modArming, view_countStates, view_useStates, view_ite]

theorem view_askSegments (hA : ar ∉ [Area.sent, Area.looms]) (s : State) (l : LoomId) (perLoom : Bool) : view ar
    (State.askSegments s l perLoom) = view ar s := by
  simp only [List.mem_cons, List.not_mem_nil, not_or, or_false] at hA
  unfold State.askSegments
  simp [hA, view_setLoom, view_emit]

theorem view_startBroadcast (hA : ar ∉ [Area.looms, Area.parts]) (s : State) (p : Nat) : view ar
    (State.startBroadcast s p) = view ar s := by
  simp only [List.mem_cons, List.not_mem_nil, not_or, or_false] at hA
  unfold State.startBroadcast
  simp [hA, view_modLooms, view_modArming]

theorem view_restoreSections (hA : ar ∉ [Area.looms]) (s : State) (l : LoomId) : view ar (State.restoreSections s l)
    = view ar s := by
  simp only [List.mem_cons, List.not_mem_nil, or_false] at hA
  unfold State.restoreSections
  simp [hA, view_foldl, view_setLoom]

theorem view_jtag (hA : ar ∉ [Area.sent, Area.security]) (s : State) (ir : BitVec 8) (dr : Nat) : view ar
    (State.jtag s ir dr) = view ar s := by
  simp only [List.mem_cons, List.not_mem_nil, not_or, or_false] at hA
  unfold State.jtag
  simp [hA, view_upd_sec, view_emit]

theorem view_jtagFree (hA : ar ∉ [Area.sent, Area.free, Area.security]) (s : State) (ir : BitVec 8) : view ar
    (State.jtagFree s ir) = view ar s := by
  simp only [List.mem_cons, List.not_mem_nil, not_or, or_false] at hA
  unfold State.jtagFree
  simp [hA, view_upd_fresh, view_jtag]

end Sys2Proof.Machine
end

