-- ==== Sys2Proof/Laws/FramesJobs.lean ====
section
/-! SUPPORT. For each shared operation, what the operations of keys, tally, steps, transport, jobs and ports leave unchanged: an area that
the operation's list does not name keeps its contents. -/

namespace Sys2Proof.Machine

open Sys2Proof Host

variable {ar : Area}

theorem view_sendJob (hA : ar ∉ [Area.sent, Area.objects, Area.links, Area.queues, Area.loops]) (s : State) (p k
    type reason : Nat) (body : Bytes) : view ar (State.sendJob s p k type reason body) = view ar s := by
  simp only [List.mem_cons, List.not_mem_nil, not_or, or_false] at hA
  unfold State.sendJob
  simp [hA, view_sendKeyx]

theorem view_keyxArrives (hA : ar ∉ [Area.sent, Area.objects, Area.links, Area.held, Area.queues, Area.loops]) (s :
    State) (p : Fin 4) (h : KeyxHdr) (n : Nat) (cmd : Instr) (run : State → State) (hf : ∀ t, view ar (run t) = view ar
    t) : view ar (s.keyxArrives p h n cmd run) = view ar s := by
  simp only [List.mem_cons, List.not_mem_nil, not_or, or_false] at hA
  unfold State.keyxArrives
  exact view_arrives (by simp [hA]) s p _ _ cmd run hf

theorem view_rxKeyx (hA : ar ∉ [Area.objects]) (s : State) (p : Nat) (h : KeyxHdr) (type channel target job len :
    Nat) : view ar (State.rxKeyx s p h type channel target job len).1 = view ar s := by
  simp only [List.mem_cons, List.not_mem_nil, or_false] at hA
  unfold State.rxKeyx
  simp [hA, view_rxDrop, view_pair_ite]

theorem view_rxChannel (hA : ar ∉ [Area.objects]) (s : State) (n : Nat) (h : KeyxHdr) (type len : Nat) : view ar
    (State.rxChannel s n h type len).1 = view ar s := by
  simp only [List.mem_cons, List.not_mem_nil, or_false] at hA
  unfold State.rxChannel
  simp [hA, view_rxKeyx]

theorem view_rxParty (hA : ar ∉ [Area.objects]) (s : State) (p : Nat) (h : KeyxHdr) (type len : Nat) : view ar
    (State.rxParty s p h type len).1 = view ar s := by
  simp only [List.mem_cons, List.not_mem_nil, or_false] at hA
  unfold State.rxParty
  simp [hA, view_rxKeyx]

theorem view_initTaken (hA : ar ∉ [Area.sent, Area.free, Area.security, Area.objects, Area.links, Area.parts,
    Area.queues, Area.loops]) (s : State) (n : Fin 4) (nonce : BitVec 256) (pub : Bytes) (spi : BitVec 32) : view ar
    (State.initTaken s n nonce pub spi) = view ar s := by
  simp only [List.mem_cons, List.not_mem_nil, not_or, or_false] at hA
  unfold State.initTaken
  simp [hA, view_ite, view_upd_fresh_sec, view_modPart, view_sendControl]

theorem view_rxInit (hA : ar ∉ [Area.sent, Area.free, Area.security, Area.objects, Area.links, Area.parts,
    Area.queues, Area.loops]) (s : State) (n : Fin 4) (h : KeyxHdr) (nonce : BitVec 256) (pub : Bytes) : view ar
    (State.rxInit s n h nonce pub) = view ar s := by
  simp only [List.mem_cons, List.not_mem_nil, not_or, or_false] at hA
  unfold State.rxInit
  simp [hA, view_ite, view_rxChannel, view_initTaken]

theorem view_finishTaken (hA : ar ∉ [Area.sent, Area.objects, Area.links, Area.parts, Area.queues, Area.loops]) (s :
    State) (n : Fin 4) (ct : Bytes) (sigOk : Bool) : view ar (State.finishTaken s n ct sigOk) = view ar s := by
  simp only [List.mem_cons, List.not_mem_nil, not_or, or_false] at hA
  unfold State.finishTaken
  simp [hA, view_ite, view_modPart, view_setObj, view_sendControl]

theorem view_rxFinish (hA : ar ∉ [Area.sent, Area.objects, Area.links, Area.parts, Area.queues, Area.loops]) (s :
    State) (n : Fin 4) (h : KeyxHdr) (ct : Bytes) (sigOk : Bool) : view ar (State.rxFinish s n h ct sigOk) = view ar s
    := by
  simp only [List.mem_cons, List.not_mem_nil, not_or, or_false] at hA
  unfold State.rxFinish
  simp [hA, view_ite, view_rxChannel, view_finishTaken]

theorem view_eraseChannel (hA : ar ∉ [Area.security, Area.parts]) (s : State) (n : Nat) : view ar
    (State.eraseChannel s n) = view ar s := by
  simp only [List.mem_cons, List.not_mem_nil, not_or, or_false] at hA
  unfold State.eraseChannel
  simp [hA, view_upd_sec, view_modPart]

theorem view_startKeys (hA : ar ∉ [Area.free, Area.security, Area.parts]) (s : State) (p : Nat) : view ar
    (State.startKeys s p) = view ar s := by
  simp only [List.mem_cons, List.not_mem_nil, not_or, or_false] at hA
  unfold State.startKeys
  simp [hA, view_upd_fresh_sec, view_modPart]

theorem view_rollDue (hA : ar ∉ [Area.objects, Area.parts]) (s : State) (p : Nat) : view ar (State.rollDue s p) = view ar s := by
  simp only [List.mem_cons, List.not_mem_nil, not_or, or_false] at hA
  unfold State.rollDue
  (repeat' split) <;> simp [hA, view_ite, view_modPart, view_nextRoll]

theorem view_keysDone (hA : ar ∉ [Area.looms, Area.parts, Area.objects]) (s : State) (p : Nat) : view ar (State.keysDone s p) =
    view ar s := by
  simp only [List.mem_cons, List.not_mem_nil, not_or, or_false] at hA
  unfold State.keysDone
  simp [hA, view_ite, view_startBroadcast, view_rollDue]

theorem view_cardTaken (hA : ar ∉ [Area.sent, Area.free, Area.objects, Area.looms, Area.links, Area.parts, Area.queues, Area.loops]) (s : State) (p : Fin 4) (n : Nat) (body : Bytes) (sigOk : Bool) : view ar (State.cardTaken
    s p n body sigOk) = view ar s := by
  simp only [List.mem_cons, List.not_mem_nil, not_or, or_false] at hA
  unfold State.cardTaken
  (repeat' split) <;> simp [hA, view_ite, view_upd_fresh, view_modPart, view_sendJob, view_keysDone]

theorem view_rxCard (hA : ar ∉ [Area.sent, Area.free, Area.objects, Area.looms, Area.links, Area.parts, Area.queues, Area.loops]) (s : State) (p : Fin 4) (h : KeyxHdr) (body : Bytes) (sigOk : Bool) : view ar (State.rxCard s p h body
    sigOk) = view ar s := by
  simp only [List.mem_cons, List.not_mem_nil, not_or, or_false] at hA
  unfold State.rxCard
  simp [hA, view_ite, view_rxParty, view_cardTaken]

theorem view_cipherTaken (hA : ar ∉ [Area.looms, Area.parts, Area.objects]) (s : State) (p : Fin 4) (n : Nat) (ct : Bytes) : view
    ar (State.cipherTaken s p n ct) = view ar s := by
  simp only [List.mem_cons, List.not_mem_nil, not_or, or_false] at hA
  unfold State.cipherTaken
  simp [hA, view_ite, view_modPart, view_keysDone]

theorem view_rxCipher (hA : ar ∉ [Area.objects, Area.looms, Area.parts]) (s : State) (p : Fin 4) (h : KeyxHdr) (ct :
    Bytes) : view ar (State.rxCipher s p h ct) = view ar s := by
  simp only [List.mem_cons, List.not_mem_nil, not_or, or_false] at hA
  unfold State.rxCipher
  simp [hA, view_ite, view_rxParty, view_cipherTaken]

theorem view_sendCards (hA : ar ∉ [Area.sent, Area.objects, Area.links, Area.queues, Area.loops]) (s : State) (p :
    Nat) : view ar (State.sendCards s p) = view ar s := by
  simp only [List.mem_cons, List.not_mem_nil, not_or, or_false] at hA
  unfold State.sendCards
  simp [hA, view_ite, view_foldl, view_sendJob]

theorem view_reserveLeaves (hA : ar ∉ [Area.flash, Area.security]) (s : State) (n : Nat) (l : List Bool) : view ar
    (s.reserveLeaves n l).1 = view ar s := by
  simp only [List.mem_cons, List.not_mem_nil, not_or, or_false] at hA
  induction n generalizing s l with
  | zero => rfl
  | succ n ih =>
    unfold State.reserveLeaves
    split
    · rfl
    · simp only
      split <;> simp [hA, ih, view_programLeaves]

theorem view_takeLeaf (hA : ar ∉ [Area.flash, Area.security, Area.objects]) (s : State) (programmed : List Bool) :
    view ar (State.takeLeaf s programmed).1 = view ar s := by
  simp only [List.mem_cons, List.not_mem_nil, not_or, or_false] at hA
  unfold State.takeLeaf
  simp [hA, view_upd_sec, view_bump, view_reserveLeaves, view_pair_ite]

theorem view_lowLeaves (hA : ar ∉ [Area.sent, Area.free, Area.security, Area.objects, Area.notices, Area.log,
    Area.queues, Area.loops]) (s : State) : view ar (State.lowLeaves s) = view ar s := by
  simp only [List.mem_cons, List.not_mem_nil, not_or, or_false] at hA
  unfold State.lowLeaves
  simp [hA, view_ite, view_upd_sec, view_raiseDevice]

theorem view_finishRun (hA : ar ∉ [Area.sent, Area.free, Area.flash, Area.security, Area.objects, Area.notices, Area.log,
    Area.stackCtl, Area.hbm, Area.poison, Area.links, Area.parts, Area.queues, Area.loops, Area.counters]) (s : State)
    (p : Fin 4) (record : Option Bytes) : view ar (State.finishRun s p record) = view ar s := by
  simp only [List.mem_cons, List.not_mem_nil, not_or, or_false] at hA
  unfold State.finishRun
  simp [hA, view_ite, view_upd_sec, view_placeRunRecord]

theorem view_placeWaiting (hA : ar ∉ [Area.sent, Area.free, Area.flash, Area.security, Area.objects, Area.notices, Area.log,
    Area.stackCtl, Area.hbm, Area.poison, Area.links, Area.parts, Area.queues, Area.loops, Area.counters]) (s : State)
    (e : Fin 4 × Option Bytes) : view ar (State.placeWaiting s e) = view ar s := by
  simp only [List.mem_cons, List.not_mem_nil, not_or, or_false] at hA
  unfold State.placeWaiting
  simp [hA, view_upd_sec, view_placeRunRecord]

theorem view_deliver (hA : ar ∉ [Area.sent, Area.free, Area.flash, Area.security, Area.objects, Area.notices, Area.log, Area.looms,
    Area.stackCtl, Area.hbm, Area.poison, Area.links, Area.parts, Area.queues, Area.loops, Area.counters]) (s : State)
    (r : SignReq) (b : Bytes) (leaf : Nat) : view ar (State.deliver s r b leaf) = view ar s := by
  simp only [List.mem_cons, List.not_mem_nil, not_or, or_false] at hA
  unfold State.deliver
  (repeat' split) <;> simp [hA, view_modPart, view_setObj, view_sendControl, view_finishRun, view_keysDone,
      view_sendCards]

theorem view_refuseSignature (hA : ar ∉ [Area.sent, Area.free, Area.flash, Area.security, Area.objects, Area.notices, Area.log,
    Area.stackCtl, Area.hbm, Area.poison, Area.links, Area.parts, Area.queues, Area.loops, Area.counters]) (s : State)
    (r : SignReq) : view ar (State.refuseSignature s r) = view ar s := by
  simp only [List.mem_cons, List.not_mem_nil, not_or, or_false] at hA
  unfold State.refuseSignature
  (repeat' split) <;> simp [hA, view_setObj, view_sendControl, view_finishRun]

theorem view_tallyGrant (hA : ar ∉ [Area.parts, Area.loops]) (s : State) (p k : Nat) : view ar (State.tallyGrant s p
    k) = view ar s := by
  simp only [List.mem_cons, List.not_mem_nil, not_or, or_false] at hA
  unfold State.tallyGrant
  (repeat' split) <;> simp [hA, view_modPart, view_loopTake]

theorem view_toTally (hA : ar ∉ [Area.parts, Area.loops]) (s : State) (p : Nat) (h : Word512) (elems : Bytes) (link
    : Option (Fin 48)) : view ar (State.toTally s p h elems link) = view ar s := by
  simp only [List.mem_cons, List.not_mem_nil, not_or, or_false] at hA
  unfold State.toTally
  simp [hA, view_modPart, view_tallyGrant]

theorem view_postChunk (hA : ar ∉ [Area.sent, Area.objects, Area.links, Area.parts, Area.queues, Area.loops]) (s :
    State) (p dest rkey va : Nat) (h : ChunkHdr) (elems : Bytes) : view ar (State.postChunk s p dest rkey va h elems) =
    view ar s := by
  simp only [List.mem_cons, List.not_mem_nil, not_or, or_false] at hA
  unfold State.postChunk
  simp [hA, view_ite, view_post, view_toTally]

theorem view_postToWindow (hA : ar ∉ [Area.sent, Area.objects, Area.links, Area.parts, Area.queues, Area.loops]) (s
    : State) (p dest : Nat) (h : ChunkHdr) (elems : Bytes) : view ar (State.postToWindow s p dest h elems) = view ar s
    := by
  simp only [List.mem_cons, List.not_mem_nil, not_or, or_false] at hA
  unfold State.postToWindow
  simp [hA, view_postChunk]

theorem view_contribute (hA : ar ∉ [Area.loops]) (s : State) (p window n : Nat) : view ar (State.contribute s p
    window n) = view ar s := by
  simp only [List.mem_cons, List.not_mem_nil, or_false] at hA
  unfold State.contribute
  simp [hA, view_ite, view_setCloop]

theorem view_markDone (hA : ar ∉ [Area.parts]) (s : State) (p : Nat) (w : WindowEnt) : view ar (State.markDone s p
    w) = view ar s := by
  simp only [List.mem_cons, List.not_mem_nil, or_false] at hA
  unfold State.markDone
  simp [hA, view_modPart]

theorem view_sendDones (hA : ar ∉ [Area.sent, Area.objects, Area.links, Area.parts, Area.queues, Area.loops]) (s :
    State) (p : Nat) (w : WindowEnt) : view ar (State.sendDones s p w) = view ar s := by
  simp only [List.mem_cons, List.not_mem_nil, not_or, or_false] at hA
  unfold State.sendDones
  simp [hA, view_foldl, view_bump, view_postChunk]

theorem view_tallyPoison (hA : ar ∉ [Area.sent, Area.free, Area.objects, Area.notices, Area.log, Area.looms,
    Area.links, Area.parts, Area.queues, Area.loops]) (s : State) (p k bad : Nat) : view ar (State.tallyPoison s p k
    bad) = view ar s := by
  simp only [List.mem_cons, List.not_mem_nil, not_or, or_false] at hA
  unfold State.tallyPoison
  simp [hA, view_consumePoison]

theorem view_sendResult (hA : ar ∉ [Area.sent, Area.free, Area.flash, Area.objects, Area.notices, Area.log,
    Area.looms, Area.stackCtl, Area.hbm, Area.poison, Area.links, Area.parts, Area.queues, Area.loops, Area.counters])
    (s : State) (p : Nat) (w : WindowEnt) (c : Nat) : view ar (State.sendResult s p w c) = view ar s := by
  simp only [List.mem_cons, List.not_mem_nil, not_or, or_false] at hA
  unfold State.sendResult
  simp [hA, view_ite, view_foldl, view_countWin, view_postToWindow, view_tallyPoison]

theorem view_sendResults (hA : ar ∉ [Area.sent, Area.free, Area.flash, Area.objects, Area.notices, Area.log,
    Area.looms, Area.stackCtl, Area.hbm, Area.poison, Area.links, Area.parts, Area.queues, Area.loops, Area.counters])
    (s : State) (p : Nat) (w : WindowEnt) : view ar (State.sendResults s p w) = view ar s := by
  simp only [List.mem_cons, List.not_mem_nil, not_or, or_false] at hA
  unfold State.sendResults
  simp [hA, view_ite, view_foldl, view_sendResult]

theorem view_noteDone (hA : ar ∉ [Area.parts]) (s : State) (p sender window : Nat) (skip : Bool) : view ar
    (State.noteDone s p sender window skip) = view ar s := by
  simp only [List.mem_cons, List.not_mem_nil, or_false] at hA
  unfold State.noteDone
  simp [hA, view_modPart]

theorem view_checkResults (hA : ar ∉ [Area.parts]) (s : State) (p : Nat) : view ar (State.checkResults s p) = view
    ar s := by
  simp only [List.mem_cons, List.not_mem_nil, or_false] at hA
  unfold State.checkResults
  simp [hA, view_foldl, view_markDone]

theorem view_ownerComplete (hA : ar ∉ [Area.sent, Area.free, Area.flash, Area.objects, Area.notices, Area.log,
    Area.looms, Area.stackCtl, Area.hbm, Area.poison, Area.links, Area.parts, Area.queues, Area.loops, Area.counters])
    (s : State) (p : Nat) (w : WindowEnt) : view ar (State.ownerComplete s p w) = view ar s := by
  simp only [List.mem_cons, List.not_mem_nil, not_or, or_false] at hA
  unfold State.ownerComplete
  simp [hA, view_ite, view_recordJobMax, view_markDone, view_sendDones, view_tallyPoison, view_sendResults,
      view_noteDone, view_checkResults]

theorem view_checkWindows (hA : ar ∉ [Area.sent, Area.free, Area.flash, Area.objects, Area.notices, Area.log,
    Area.looms, Area.stackCtl, Area.hbm, Area.poison, Area.links, Area.parts, Area.queues, Area.loops, Area.counters])
    (s : State) (p : Nat) : view ar (State.checkWindows s p) = view ar s := by
  simp only [List.mem_cons, List.not_mem_nil, not_or, or_false] at hA
  unfold State.checkWindows
  simp [hA, view_ite, view_foldl, view_markDone, view_ownerComplete]

theorem view_forward (hA : ar ∉ [Area.sent, Area.free, Area.flash, Area.objects, Area.notices, Area.log, Area.looms,
    Area.stackCtl, Area.hbm, Area.poison, Area.links, Area.parts, Area.queues, Area.loops, Area.counters]) (s : State)
    (p : Nat) (w : WindowEnt) (c : Nat) : view ar (State.forward s p w c) = view ar s := by
  simp only [List.mem_cons, List.not_mem_nil, not_or, or_false] at hA
  unfold State.forward
  simp [hA, view_ite, view_bump, view_countWin, view_postToWindow, view_tallyPoison]

theorem view_addElems (hA : ar ∉ [Area.sent, Area.free, Area.flash, Area.objects, Area.notices, Area.log,
    Area.stackCtl, Area.hbm, Area.poison, Area.queues, Area.loops, Area.counters]) (s : State) (p : Nat) (w : WindowEnt)
    (h : ChunkHdr) (elems : Bytes) (first : Bool) : view ar (State.addElems s p w h elems first) = view ar s := by
  simp only [List.mem_cons, List.not_mem_nil, not_or, or_false] at hA
  unfold State.addElems
  simp [hA, view_ite, view_countWin, view_setWin]

theorem view_tallyViolation (hA : ar ∉ [Area.sent, Area.free, Area.objects, Area.notices, Area.log, Area.looms,
    Area.links, Area.parts, Area.queues, Area.loops]) (s : State) (p k window : Nat) : view ar (State.tallyViolation s p
    k window) = view ar s := by
  simp only [List.mem_cons, List.not_mem_nil, not_or, or_false] at hA
  unfold State.tallyViolation
  simp [hA, view_bump, view_violate]

theorem view_chunkDone (hA : ar ∉ [Area.sent, Area.free, Area.flash, Area.objects, Area.notices, Area.log,
    Area.looms, Area.stackCtl, Area.hbm, Area.poison, Area.links, Area.parts, Area.queues, Area.loops, Area.counters])
    (s : State) (p k : Nat) (w : WindowEnt) (h : ChunkHdr) : view ar (State.chunkDone s p k w h) = view ar s := by
  simp only [List.mem_cons, List.not_mem_nil, not_or, or_false] at hA
  unfold State.chunkDone
  simp [hA, view_ite, view_traceUnit, view_checkResults, view_checkWindows, view_forward]

theorem view_tallyCheck (hA : ar ∉ [Area.sent, Area.free, Area.flash, Area.objects, Area.notices, Area.log,
    Area.looms, Area.stackCtl, Area.hbm, Area.poison, Area.links, Area.parts, Area.queues, Area.loops, Area.counters])
    (s : State) (p k : Nat) (w : WindowEnt) (h : ChunkHdr) (l : Ledger) : view ar (State.tallyCheck s p k w h l) = view
    ar s := by
  simp only [List.mem_cons, List.not_mem_nil, not_or, or_false] at hA
  unfold State.tallyCheck
  simp [hA, view_ite, view_checkResults, view_tallyViolation, view_chunkDone]

theorem view_addChunk (hA : ar ∉ [Area.sent, Area.free, Area.flash, Area.objects, Area.notices, Area.log,
    Area.looms, Area.stackCtl, Area.hbm, Area.poison, Area.links, Area.parts, Area.queues, Area.loops, Area.counters])
    (s : State) (p k : Nat) (w : WindowEnt) (h : ChunkHdr) (elems : Bytes) : view ar (State.addChunk s p k w h elems) =
    view ar s := by
  simp only [List.mem_cons, List.not_mem_nil, not_or, or_false] at hA
  unfold State.addChunk
  simp [hA, view_ite, view_bump, view_setLedger, view_countLedger, view_contribute, view_tallyPoison, view_addElems,
      view_tallyCheck]

theorem view_tallyFreed (hA : ar ∉ [Area.sent, Area.links, Area.parts, Area.loops]) (s : State) (p : Nat) (i :
    TallyItem) : view ar (State.tallyFreed s p i) = view ar s := by
  simp only [List.mem_cons, List.not_mem_nil, not_or, or_false] at hA
  unfold State.tallyFreed
  (repeat' split) <;> simp [hA, view_pfcCheck, view_loopFree, view_tallyGrant]

theorem view_tallyTake (hA : ar ∉ [Area.sent, Area.free, Area.flash, Area.objects, Area.notices, Area.log,
    Area.looms, Area.stackCtl, Area.hbm, Area.poison, Area.links, Area.parts, Area.queues, Area.loops, Area.counters])
    (s : State) (p : Nat) (i : TallyItem) : view ar (State.tallyTake s p i) = view ar s := by
  simp only [List.mem_cons, List.not_mem_nil, not_or, or_false] at hA
  unfold State.tallyTake
  simp only
  (repeat' split) <;> simp [hA, view_bump, view_addChunk]

theorem view_fillStep (hA : ar ∉ [Area.sent, Area.free, Area.flash, Area.objects, Area.notices, Area.log,
    Area.looms, Area.stackCtl, Area.hbm, Area.poison, Area.parts, Area.queues, Area.loops, Area.counters]) (s : State)
    (p : Nat) : view ar (State.fillStep s p) = view ar s := by
  simp only [List.mem_cons, List.not_mem_nil, not_or, or_false] at hA
  unfold State.fillStep
  simp [hA, view_upd_fresh, view_modPart, view_setObj, view_fillRow, view_fillRegisters]

theorem view_beginAttempt (hA : ar ∉ [Area.sent, Area.free, Area.flash, Area.objects, Area.notices, Area.log,
    Area.looms, Area.stackCtl, Area.hbm, Area.poison, Area.links, Area.parts, Area.queues, Area.loops, Area.counters])
    (s : State) (p : Nat) : view ar (State.beginAttempt s p) = view ar s := by
  simp only [List.mem_cons, List.not_mem_nil, not_or, or_false] at hA
  unfold State.beginAttempt
  simp only
  (repeat' split) <;> simp [hA, view_modPart, view_handleAbort, view_openContributions, view_checkWindows,
      view_fillStep]

theorem view_beginStep (hA : ar ∉ [Area.objects, Area.looms, Area.parts]) (s : State) (p : Nat) : view ar
    (State.beginStep s p) = view ar s := by
  simp only [List.mem_cons, List.not_mem_nil, not_or, or_false] at hA
  unfold State.beginStep
  simp [hA, view_modPart, view_setExState, view_modLooms, view_endWait]

theorem view_endLoops (hA : ar ∉ [Area.stackCtl, Area.loops]) (s : State) (p : Nat) : view ar (State.endLoops s p) =
    view ar s := by
  simp only [List.mem_cons, List.not_mem_nil, not_or, or_false] at hA
  unfold State.endLoops
  simp [hA, view_foldl, view_upd_cloops, view_setStack]

theorem view_doDue (hA : ar ∉ [Area.sent, Area.free, Area.flash, Area.security, Area.objects, Area.notices,
    Area.log, Area.stackCtl, Area.hbm, Area.poison, Area.links, Area.parts, Area.queues, Area.loops, Area.counters]) (s
    : State) (p n : Nat) (l : List Due) : view ar (s.doDue p n l) = view ar s := by
  simp only [List.mem_cons, List.not_mem_nil, not_or, or_false] at hA
  induction l generalizing s with
  | nil => rfl
  | cons e t ih =>
    cases e with
    | halt c d => unfold State.doDue; simp [hA, view_haltJob]
    | take c =>
      unfold State.doDue
      split
      · rw [ih]; simp [hA, view_ite, view_takeCheckpoint]
      · rw [ih]
    | amend a =>
      unfold State.doDue
      rw [ih]; simp [hA, view_ite, view_amendRank]

theorem view_openWindow (hA : ar ∉ [Area.parts]) (s : State) (p n : Nat) : view ar (State.openWindow s p n) = view
    ar s := by
  simp only [List.mem_cons, List.not_mem_nil, or_false] at hA
  unfold State.openWindow
  (repeat' split) <;> simp [hA, view_modPart]

theorem view_holdAtLimit (hA : ar ∉ [Area.sent, Area.objects, Area.links, Area.parts, Area.queues, Area.loops]) (s :
    State) (p n : Nat) : view ar (State.holdAtLimit s p n) = view ar s := by
  simp only [List.mem_cons, List.not_mem_nil, not_or, or_false] at hA
  unfold State.holdAtLimit
  simp [hA, view_ite, view_modPart, view_setObj, view_report]

theorem view_dropPending (hA : ar ∉ [Area.objects]) (s : State) (p : Nat) : view ar (State.dropPending s p) = view
    ar s := by
  simp only [List.mem_cons, List.not_mem_nil, or_false] at hA
  unfold State.dropPending
  simp [hA, view_ite, view_setObj]

theorem view_boundary (hA : ar ∉ [Area.sent, Area.free, Area.flash, Area.security, Area.objects, Area.notices,
    Area.log, Area.stackCtl, Area.hbm, Area.poison, Area.links, Area.parts, Area.queues, Area.loops, Area.counters]) (s
    : State) (p : Nat) : view ar (State.boundary s p) = view ar s := by
  simp only [List.mem_cons, List.not_mem_nil, not_or, or_false] at hA
  unfold State.boundary
  simp [hA, view_ite, view_modPart, view_setExState, view_traceHub, view_qpsReturn, view_finaliseRow, view_endLoops,
      view_doDue, view_openWindow, view_holdAtLimit, view_dropPending]

theorem view_rxEsp (hA : ar ∉ [Area.sent, Area.free, Area.objects, Area.notices, Area.log, Area.parts, Area.queues,
    Area.loops]) (s : State) (p : Nat) (h : EspHdr) (n : Nat) : view ar (State.rxEsp s p h n).1 = view ar s := by
  simp only [List.mem_cons, List.not_mem_nil, not_or, or_false] at hA
  unfold State.rxEsp
  simp only
  (repeat' split) <;> simp [hA, view_setPart, view_bump, view_raisePart]

theorem view_pktArrives (hA : ar ∉ [Area.sent, Area.objects, Area.links, Area.held, Area.queues, Area.loops]) (s :
    State) (p : Fin 4) (h : PktHdr) (n : Nat) (cmd : Instr) (run : State → State) (hf : ∀ t, view ar (run t) = view ar
    t) : view ar (s.pktArrives p h n cmd run) = view ar s := by
  simp only [List.mem_cons, List.not_mem_nil, not_or, or_false] at hA
  unfold State.pktArrives
  exact view_arrives (by simp [hA]) s p _ _ cmd run hf

theorem view_sendNak (hA : ar ∉ [Area.sent, Area.objects, Area.links, Area.parts, Area.queues, Area.loops]) (s :
    State) (p : Nat) (h : PktHdr) (psn : BitVec 24) (cls : BitVec 3) : view ar (State.sendNak s p h psn cls) = view ar s
    := by
  simp only [List.mem_cons, List.not_mem_nil, not_or, or_false] at hA
  unfold State.sendNak
  simp [hA, view_bump, view_putNak]

theorem view_ceMark (hA : ar ∉ [Area.sent, Area.objects, Area.links, Area.parts, Area.queues, Area.loops]) (s :
    State) (p : Nat) (h : PktHdr) : view ar (State.ceMark s p h) = view ar s := by
  simp only [List.mem_cons, List.not_mem_nil, not_or, or_false] at hA
  unfold State.ceMark
  simp [hA, view_ite, view_setPart, view_bump, view_sendCnp]

theorem view_rxRoce (hA : ar ∉ [Area.sent, Area.free, Area.objects, Area.notices, Area.log, Area.links, Area.parts,
    Area.queues, Area.loops]) (s : State) (p : Nat) (h : PktHdr) (n : Nat) : view ar (State.rxRoce s p h n).1 = view ar
    s := by
  simp only [List.mem_cons, List.not_mem_nil, not_or, or_false] at hA
  unfold State.rxRoce
  split
  · rfl
  · have h2 := view_rxEsp (ar := ar) (by simp [hA]) s p h.esp n
    split
    · rename_i hu; rw [hu] at h2; exact h2
    · rename_i hu; rw [hu] at h2
      split
      · simpa [hA, view_ceMark] using h2
      · simpa [hA, view_raisePart] using h2

theorem view_rxPacket (hA : ar ∉ [Area.sent, Area.free, Area.objects, Area.notices, Area.log, Area.links,
    Area.parts, Area.queues, Area.loops]) (s : State) (p : Nat) (h : PktHdr) (n : Nat) (halts : Bool) : view ar
    (State.rxPacket s p h n halts).1 = view ar s := by
  simp only [List.mem_cons, List.not_mem_nil, not_or, or_false] at hA
  have h1 := view_rxRoce (ar := ar) (by simp [hA]) s p h n
  unfold State.rxPacket
  split
  · rename_i he; rw [he] at h1; exact h1
  · rename_i he; rw [he] at h1
    simp only
    (repeat' split) <;> simpa [hA, view_setPart, view_bump, view_sendAck, view_sendNak] using h1

theorem view_rxTaken (hA : ar ∉ [Area.sent, Area.objects, Area.links, Area.parts, Area.queues, Area.loops]) (s :
    State) (p : Nat) (h : PktHdr) (psns n : Nat) : view ar (State.rxTaken s p h psns n) = view ar s := by
  simp only [List.mem_cons, List.not_mem_nil, not_or, or_false] at hA
  unfold State.rxTaken
  simp [hA, view_foldl, view_setPart, view_tracePackets, view_sendAck]

theorem view_rxAccept (hA : ar ∉ [Area.sent, Area.objects, Area.links, Area.parts, Area.queues, Area.loops]) (s :
    State) (p : Nat) (h : PktHdr) (n : Nat) : view ar (State.rxAccept s p h n) = view ar s := by
  simp only [List.mem_cons, List.not_mem_nil, not_or, or_false] at hA
  unfold State.rxAccept
  simp [hA, view_rxTaken]

theorem view_svcRefuse (hA : ar ∉ [Area.sent, Area.objects, Area.links, Area.parts, Area.queues, Area.loops]) (s :
    State) (p : Nat) (h : PktHdr) : view ar (State.svcRefuse s p h) = view ar s := by
  simp only [List.mem_cons, List.not_mem_nil, not_or, or_false] at hA
  unfold State.svcRefuse
  simp [hA, view_bump, view_sendNak]

theorem view_rxUnsupported (hA : ar ∉ [Area.sent, Area.free, Area.objects, Area.notices, Area.log, Area.links,
    Area.parts, Area.queues, Area.loops]) (s : State) (p : Fin 4) (h : PktHdr) : view ar (State.rxUnsupported s p h) =
    view ar s := by
  simp only [List.mem_cons, List.not_mem_nil, not_or, or_false] at hA
  unfold State.rxUnsupported
  simp [hA, view_ite, view_sendNak, view_rxPacket, view_svcRefuse]

theorem view_pathFailed (hA : ar ∉ [Area.sent, Area.free, Area.objects, Area.notices, Area.log, Area.looms,
    Area.links, Area.parts, Area.queues, Area.loops]) (s : State) (p r : Nat) : view ar (State.pathFailed s p r) = view
    ar s := by
  simp only [List.mem_cons, List.not_mem_nil, not_or, or_false] at hA
  unfold State.pathFailed
  simp [hA, view_bump, view_raisePart, view_faultAndHalt, view_silence]

theorem view_responded (hA : ar ∉ [Area.parts]) (s : State) (p qpn : Nat) : view ar (State.responded s p qpn) = view
    ar s := by
  simp only [List.mem_cons, List.not_mem_nil, or_false] at hA
  unfold State.responded
  simp [hA, view_setPart]

theorem view_rxResponse (hA : ar ∉ [Area.sent, Area.free, Area.objects, Area.notices, Area.log, Area.links,
    Area.parts, Area.queues, Area.loops]) (s : State) (p : Nat) (h : PktHdr) : view ar (State.rxResponse s p h).1 = view
    ar s := by
  simp only [List.mem_cons, List.not_mem_nil, not_or, or_false] at hA
  have h1 := view_rxRoce (ar := ar) (by simp [hA]) s p h 1
  unfold State.rxResponse
  split
  · rename_i he; rw [he] at h1; simpa [hA, view_responded] using h1
  · rename_i he; rw [he] at h1; exact h1

theorem view_rxAck (hA : ar ∉ [Area.sent, Area.free, Area.objects, Area.notices, Area.log, Area.links, Area.parts,
    Area.queues, Area.loops]) (s : State) (p : Fin 4) (h : PktHdr) : view ar (State.rxAck s p h) = view ar s := by
  simp only [List.mem_cons, List.not_mem_nil, not_or, or_false] at hA
  unfold State.rxAck
  simp [hA, view_ite, view_setPart, view_loopFree, view_rxResponse]

theorem view_rxNak (hA : ar ∉ [Area.sent, Area.free, Area.objects, Area.notices, Area.log, Area.looms, Area.links,
    Area.parts, Area.queues, Area.loops]) (s : State) (p : Fin 4) (h : PktHdr) (cls : NakClass) : view ar (State.rxNak s
    p h cls) = view ar s := by
  simp only [List.mem_cons, List.not_mem_nil, not_or, or_false] at hA
  unfold State.rxNak
  (repeat' split) <;> simp [hA, view_ite, view_resend, view_pathFailed, view_rxResponse]

theorem view_rxRnrNak (hA : ar ∉ [Area.sent, Area.free, Area.objects, Area.notices, Area.log, Area.links,
    Area.parts, Area.queues, Area.loops]) (s : State) (p : Fin 4) (h : PktHdr) : view ar (State.rxRnrNak s p h) = view
    ar s := by
  simp only [List.mem_cons, List.not_mem_nil, not_or, or_false] at hA
  unfold State.rxRnrNak
  simp [hA, view_ite, view_setPart, view_rxResponse]

theorem view_rxCnp (hA : ar ∉ [Area.sent, Area.free, Area.objects, Area.notices, Area.log, Area.links, Area.parts,
    Area.queues, Area.loops]) (s : State) (p : Fin 4) (h : PktHdr) : view ar (State.rxCnp s p h) = view ar s := by
  simp only [List.mem_cons, List.not_mem_nil, not_or, or_false] at hA
  unfold State.rxCnp
  simp [hA, view_ite, view_setPart, view_bump, view_rxRoce]

theorem view_ctlAnswer (hA : ar ∉ [Area.sent, Area.free, Area.objects, Area.notices, Area.log, Area.links,
    Area.parts, Area.queues, Area.loops]) (s : State) (p op : Nat) (m : Ctl) (status : Nat) (body : Bytes) : view ar
    (State.ctlAnswer s p op m status body) = view ar s := by
  simp only [List.mem_cons, List.not_mem_nil, not_or, or_false] at hA
  unfold State.ctlAnswer
  simp [hA, view_ite, view_bump, view_raisePart, view_postControl]

theorem view_ctlTaken (hA : ar ∉ [Area.sent, Area.free, Area.objects, Area.notices, Area.log, Area.links,
    Area.parts, Area.queues, Area.loops]) (s : State) (p op : Nat) (m : Ctl) (job : Nat) (sts : List Nat) (own : State →
    Nat × State × Bytes) (shown fin : State → State) (hf : ∀ t, view ar (own t).2.1 = view ar t) (hg : ∀ t, view ar (fin
    t) = view ar t) : view ar (s.ctlTaken p op m job sts own shown fin) = view ar s := by
  simp only [List.mem_cons, List.not_mem_nil, not_or, or_false] at hA
  have h1 := hf s
  unfold State.ctlTaken
  split
  · simp [hA, view_ctlAnswer]
  · split
    · simp [hA, view_ctlAnswer]
    · split
      · simp [hA, view_ctlAnswer]
      · split
        · simp [hA, view_ctlAnswer]
        · split
          · rename_i he; rw [he] at h1; simpa [hA, hg, view_postControl] using h1
          · simp [hA, view_ctlAnswer]

theorem view_ctlArrives (hA : ar ∉ [Area.sent, Area.objects, Area.links, Area.held, Area.queues, Area.loops]) (s :
    State) (p : Fin 4) (m : Ctl) (cmd : Instr) (run : State → State) (hf : ∀ t, view ar (run t) = view ar t) : view ar
    (s.ctlArrives p m cmd run) = view ar s := by
  simp only [List.mem_cons, List.not_mem_nil, not_or, or_false] at hA
  unfold State.ctlArrives
  exact view_pktArrives (by simp [hA]) s p _ _ cmd run hf

theorem view_control (hA : ar ∉ [Area.sent, Area.free, Area.objects, Area.notices, Area.log, Area.links, Area.parts,
    Area.queues, Area.loops]) (s : State) (p op : Nat) (m : Ctl) (job : Nat) (sts : List Nat) (own : State → Nat × State
    × Bytes) (shown fin : State → State) (hf : ∀ t, view ar (own t).2.1 = view ar t) (hg : ∀ t, view ar (fin t) = view
    ar t) : view ar (s.control p op m job sts own shown fin) = view ar s := by
  simp only [List.mem_cons, List.not_mem_nil, not_or, or_false] at hA
  have h1 := view_rxPacket (ar := ar) (by simp [hA]) s p m.pkt (packetsOf (32 + m.body.length)) false
  unfold State.control
  simp only
  split
  · rfl
  · split
    · rename_i he; rw [he] at h1; exact h1
    · rename_i he; rw [he] at h1
      split
      · simpa [hA, view_sendNak] using h1
      · rw [view_across (by simp [hA]) _ _ _ (fun u => view_ctlTaken (by simp [hA]) _ _ _ _ _ _ _ _ _ hf hg),
          view_rxAccept (by simp [hA])]
        exact h1

theorem view_setJobState (hA : ar ∉ [Area.objects]) (s : State) (p v : Nat) : view ar (State.setJobState s p v) =
    view ar s := by
  simp only [List.mem_cons, List.not_mem_nil, or_false] at hA
  unfold State.setJobState
  simp [hA, view_setObj]

theorem view_newLoops (hA : ar ∉ [Area.loops]) (s : State) (p : Nat) : view ar (State.newLoops s p) = view ar s :=
    by
  simp only [List.mem_cons, List.not_mem_nil, or_false] at hA
  unfold State.newLoops
  simp [hA, view_upd_cloops, view_setCloop]

theorem view_loaded (hA : ar ∉ [Area.sent, Area.free, Area.sensors, Area.objects, Area.notices, Area.log,
    Area.parts, Area.queues, Area.loops]) (s : State) (p : Nat) (x : Part) (mine : Option Amend) : view ar (State.loaded
    s p x mine) = view ar s := by
  simp only [List.mem_cons, List.not_mem_nil, not_or, or_false] at hA
  unfold State.loaded
  simp [hA, view_ite, view_upd_assayGap, view_setPart, view_setObj, view_clearObjs, view_raisePart, view_setJobState,
      view_newLoops]

theorem view_loadManifest (hA : ar ∉ [Area.sent, Area.free, Area.sensors, Area.objects, Area.notices, Area.log,
    Area.parts, Area.queues, Area.loops]) (s : State) (p : Nat) (l : LoadBody) (sigOk : Bool) (amendOk : List Bool) :
    view ar (State.loadManifest s p l sigOk amendOk).2.1 = view ar s := by
  simp only [List.mem_cons, List.not_mem_nil, not_or, or_false] at hA
  unfold State.loadManifest
  (repeat' split) <;> simp [hA, view_loaded]

theorem view_acceptAmend (hA : ar ∉ [Area.sent, Area.objects, Area.links, Area.parts, Area.queues, Area.loops]) (s :
    State) (p : Nat) (a : Amend) : view ar (State.acceptAmend s p a) = view ar s := by
  simp only [List.mem_cons, List.not_mem_nil, not_or, or_false] at hA
  unfold State.acceptAmend
  simp [hA, view_ite, view_modPart, view_amendRank, view_sendJob]

theorem view_acceptAmends (hA : ar ∉ [Area.sent, Area.objects, Area.links, Area.parts, Area.queues, Area.loops]) (s
    : State) (p : Nat) (l : List (Amend × Bool)) (t : State) (ht : view ar t = view ar s) : view ar (s.acceptAmends p l
    t).2.1 = view ar s := by
  simp only [List.mem_cons, List.not_mem_nil, not_or, or_false] at hA
  induction l generalizing t with
  | nil => exact ht
  | cons e r ih =>
    obtain ⟨a, ok⟩ := e
    unfold State.acceptAmends
    split
    · exact ih _ (by simp [hA, view_acceptAmend, ht])
    · rfl

theorem view_loadMessage (hA : ar ∉ [Area.sent, Area.free, Area.sensors, Area.objects, Area.notices, Area.log,
    Area.links, Area.parts, Area.queues, Area.loops]) (s : State) (p : Nat) (m : Ctl) (sigOk : Bool) (amendOk : List
    Bool) : view ar (State.loadMessage s p m sigOk amendOk) = view ar s := by
  simp only [List.mem_cons, List.not_mem_nil, not_or, or_false] at hA
  unfold State.loadMessage
  refine view_control (by simp [hA]) s p 1 m _ _ _ _ _ (fun t => ?_) (fun t => rfl)
  split
  · rfl
  · split
    · exact view_acceptAmends (by simp [hA]) t p _ t rfl
    · exact view_loadManifest (by simp [hA]) t p _ sigOk amendOk

theorem view_countRestored (hA : ar ∉ [Area.sent, Area.free, Area.flash, Area.objects, Area.notices, Area.log, Area.stackCtl, Area.hbm, Area.poison, Area.queues, Area.loops, Area.counters, Area.looms, Area.links, Area.parts]) (s : State) (p c : Nat) : view ar
    (State.countRestored s p c) = view ar s := by
  simp only [List.mem_cons, List.not_mem_nil, not_or, or_false] at hA
  unfold State.countRestored
  simp [hA, view_useStates]

theorem view_countStart (hA : ar ∉ [Area.sent, Area.free, Area.flash, Area.objects, Area.notices, Area.log,
    Area.stackCtl, Area.hbm, Area.poison, Area.queues, Area.loops, Area.counters]) (s : State) (p r n : Nat) : view ar
    (State.countStart s p r n) = view ar s := by
  simp only [List.mem_cons, List.not_mem_nil, not_or, or_false] at hA
  unfold State.countStart
  simp [hA, view_countRead]

theorem view_restore (hA : ar ∉ [Area.sent, Area.free, Area.flash, Area.objects, Area.notices, Area.log,
    Area.stackCtl, Area.hbm, Area.poison, Area.parts, Area.queues, Area.loops, Area.counters]) (s : State) (p c : Nat) :
    view ar (State.restore s p c) = view ar s := by
  simp only [List.mem_cons, List.not_mem_nil, not_or, or_false] at hA
  unfold State.restore
  simp [hA, view_foldl, view_modPart, view_setObj, view_countRead, view_writeTagged]

theorem view_armSteps (hA : ar ∉ [Area.sent, Area.free, Area.flash, Area.security, Area.objects, Area.notices, Area.log, Area.looms, Area.stackCtl, Area.hbm, Area.poison, Area.parts, Area.queues, Area.loops, Area.counters, Area.links]) (s
    : State) (p : Nat) (img : Image) : view ar (State.armSteps s p img) = view ar s := by
  simp only [List.mem_cons, List.not_mem_nil, not_or, or_false] at hA
  unfold State.armSteps
  simp [hA, view_ite, view_modPart, view_setObj, view_armFails, view_startKeys, view_keysDone, view_setJobState,
      view_countRestored, view_countStart, view_restore]

theorem view_armMessage (hA : ar ∉ [Area.sent, Area.free, Area.flash, Area.security, Area.objects, Area.notices, Area.log, Area.looms, Area.stackCtl, Area.hbm, Area.poison, Area.links, Area.parts, Area.queues, Area.loops, Area.counters]) (s : State) (p : Nat) (m : Ctl) (img : Image) : view ar (State.armMessage s p m img) = view ar s :=
    by
  simp only [List.mem_cons, List.not_mem_nil, not_or, or_false] at hA
  unfold State.armMessage
  refine view_control (by simp [hA]) s p 2 m _ _ _ _ _ (fun t => ?_) (fun t => rfl)
  (repeat' split) <;> simp [hA, view_armSteps]

theorem view_rollEnds (hA : ar ∉ [Area.sent, Area.free, Area.objects, Area.notices, Area.log, Area.links,
    Area.parts, Area.queues, Area.loops]) (s : State) (p : Nat) : view ar (State.rollEnds s p) = view ar s := by
  simp only [List.mem_cons, List.not_mem_nil, not_or, or_false] at hA
  unfold State.rollEnds
  simp only
  (repeat' split) <;> simp [hA, view_modPart, view_setObj, view_report, view_haltJob, view_setJobState]

theorem view_rollCheck (hA : ar ∉ [Area.sent, Area.free, Area.objects, Area.notices, Area.log, Area.links,
    Area.parts, Area.queues, Area.loops]) (s : State) (p : Nat) : view ar (State.rollCheck s p) = view ar s := by
  simp only [List.mem_cons, List.not_mem_nil, not_or, or_false] at hA
  unfold State.rollCheck
  simp [hA, view_ite, view_rollEnds]

theorem view_startMsg (hA : ar ∉ [Area.objects, Area.parts]) (s : State) (p : Nat) (m : Ctl) : view ar
    (State.startMsg s p m).2.1 = view ar s := by
  simp only [List.mem_cons, List.not_mem_nil, not_or, or_false] at hA
  unfold State.startMsg
  (repeat' split) <;> simp [hA, view_setObj, view_startRoll, view_setJobState, view_pair_ite2]

theorem view_startMessage (hA : ar ∉ [Area.sent, Area.free, Area.objects, Area.notices, Area.log, Area.links,
    Area.parts, Area.queues, Area.loops]) (s : State) (p : Nat) (m : Ctl) : view ar (State.startMessage s p m) = view ar
    s := by
  simp only [List.mem_cons, List.not_mem_nil, not_or, or_false] at hA
  unfold State.startMessage
  refine view_control (by simp [hA]) s p 3 m _ _ _ _ _ (fun t => ?_) (fun t => by simp [hA, view_rollCheck])
  simp [hA, view_startMsg]

theorem view_endPause (hA : ar ∉ [Area.parts]) (s : State) (p : Nat) : view ar (State.endPause s p) = view ar s :=
    by
  simp only [List.mem_cons, List.not_mem_nil, or_false] at hA
  unfold State.endPause
  simp [hA, view_modPart]

theorem view_resumeHeld (hA : ar ∉ [Area.objects, Area.parts]) (s : State) (p : Nat) : view ar (State.resumeHeld s
    p) = view ar s := by
  simp only [List.mem_cons, List.not_mem_nil, not_or, or_false] at hA
  unfold State.resumeHeld
  simp [hA, view_modPart, view_setJobState, view_endPause]

theorem view_stepLimitMessage (hA : ar ∉ [Area.sent, Area.free, Area.objects, Area.notices, Area.log, Area.links,
    Area.parts, Area.queues, Area.loops]) (s : State) (p : Nat) (m : Ctl) : view ar (State.stepLimitMessage s p m) =
    view ar s := by
  simp only [List.mem_cons, List.not_mem_nil, not_or, or_false] at hA
  unfold State.stepLimitMessage
  refine view_control (by simp [hA]) s p 4 m _ _ _ _ _ (fun t => ?_) (fun t => rfl)
  (repeat' split) <;> simp [hA, view_setObj, view_resumeHeld, view_holdAtLimit]

theorem view_checkpointTakeMsg (hA : ar ∉ [Area.sent, Area.free, Area.flash, Area.security, Area.objects,
    Area.notices, Area.log, Area.stackCtl, Area.hbm, Area.poison, Area.links, Area.parts, Area.queues, Area.loops,
    Area.counters]) (s : State) (p c : Nat) : view ar (State.checkpointTakeMsg s p c).2.1 = view ar s := by
  simp only [List.mem_cons, List.not_mem_nil, not_or, or_false] at hA
  unfold State.checkpointTakeMsg
  simp [hA, view_modPart, view_setObj, view_takeCheckpoint, view_pair_ite2]

theorem view_checkpointReleaseMsg (hA : ar ∉ [Area.objects, Area.parts]) (s : State) (p c : Nat) : view ar
    (State.checkpointReleaseMsg s p c).2.1 = view ar s := by
  simp only [List.mem_cons, List.not_mem_nil, not_or, or_false] at hA
  unfold State.checkpointReleaseMsg
  simp [hA, view_modPart, view_setObj, view_pair_ite2]

theorem view_checkpointMessage (hA : ar ∉ [Area.sent, Area.free, Area.flash, Area.security, Area.objects,
    Area.notices, Area.log, Area.stackCtl, Area.hbm, Area.poison, Area.links, Area.parts, Area.queues, Area.loops,
    Area.counters]) (s : State) (p : Nat) (m : Ctl) : view ar (State.checkpointMessage s p m) = view ar s := by
  simp only [List.mem_cons, List.not_mem_nil, not_or, or_false] at hA
  unfold State.checkpointMessage
  refine view_control (by simp [hA]) s p 5 m _ _ _ _ _ (fun t => ?_) (fun t => rfl)
  (repeat' split) <;> simp [hA, view_checkpointTakeMsg, view_checkpointReleaseMsg]

theorem view_stopArming (hA : ar ∉ [Area.parts]) (s : State) (p : Nat) : view ar (State.stopArming s p) = view ar s
    := by
  simp only [List.mem_cons, List.not_mem_nil, or_false] at hA
  unfold State.stopArming
  simp [hA, view_ite, view_modArming]

theorem view_haltMsg (hA : ar ∉ [Area.sent, Area.free, Area.objects, Area.notices, Area.log, Area.links, Area.parts,
    Area.queues, Area.loops]) (s : State) (p : Nat) : view ar (State.haltMsg s p).2.1 = view ar s := by
  simp only [List.mem_cons, List.not_mem_nil, not_or, or_false] at hA
  unfold State.haltMsg
  simp [hA, view_haltJob, view_haltAtBoundary, view_stopArming, view_pair_ite2]

theorem view_unloadMsg (hA : ar ∉ [Area.sent, Area.free, Area.objects, Area.notices, Area.log, Area.links,
    Area.parts, Area.queues, Area.loops]) (s : State) (p : Nat) : view ar (State.unloadMsg s p).2.1 = view ar s := by
  simp only [List.mem_cons, List.not_mem_nil, not_or, or_false] at hA
  unfold State.unloadMsg
  simp [hA, view_haltJob, view_stopArming, view_pair_ite2]

theorem view_unloaded (hA : ar ∉ [Area.sent, Area.free, Area.seal, Area.security, Area.objects, Area.notices,
    Area.log, Area.tests, Area.quads, Area.looms, Area.stackCtl, Area.hbm, Area.poison, Area.held, Area.parts,
    Area.queues, Area.loops, Area.bridges, Area.counters]) (s : State) (p : Nat) (m : Ctl) : view ar (State.unloaded s p
    m) = view ar s := by
  simp only [List.mem_cons, List.not_mem_nil, not_or, or_false] at hA
  unfold State.unloaded
  simp [hA, view_ite, view_resetPart]

theorem view_haltMessage (hA : ar ∉ [Area.sent, Area.free, Area.seal, Area.security, Area.objects, Area.notices,
    Area.log, Area.tests, Area.quads, Area.looms, Area.stackCtl, Area.hbm, Area.poison, Area.links, Area.held,
    Area.parts, Area.queues, Area.loops, Area.bridges, Area.counters]) (s : State) (p : Nat) (m : Ctl) : view ar
    (State.haltMessage s p m) = view ar s := by
  simp only [List.mem_cons, List.not_mem_nil, not_or, or_false] at hA
  unfold State.haltMessage
  refine view_control (by simp [hA]) s p 6 m _ _ _ _ _ (fun t => ?_) (fun t => by simp [hA, view_unloaded])
  split <;> simp [hA, view_haltMsg, view_unloadMsg]

theorem view_queryMessage (hA : ar ∉ [Area.sent, Area.free, Area.objects, Area.notices, Area.log, Area.links,
    Area.parts, Area.queues, Area.loops]) (s : State) (p : Nat) (m : Ctl) : view ar (State.queryMessage s p m) = view ar
    s := by
  simp only [List.mem_cons, List.not_mem_nil, not_or, or_false] at hA
  unfold State.queryMessage
  refine view_control (by simp [hA]) s p 7 m _ _ _ _ _ (fun t => ?_) (fun t => rfl)
  split <;> rfl

theorem view_fieldTestMsg (hA : ar ∉ [Area.tests]) (s : State) (p : Nat) (b : Bytes) : view ar (State.fieldTestMsg s
    p b).2.1 = view ar s := by
  simp only [List.mem_cons, List.not_mem_nil, or_false] at hA
  unfold State.fieldTestMsg
  simp [hA, view_upd_tests, view_pair_ite2]

theorem view_fieldTestMessage (hA : ar ∉ [Area.sent, Area.free, Area.objects, Area.notices, Area.log, Area.tests,
    Area.links, Area.parts, Area.queues, Area.loops]) (s : State) (p : Nat) (m : Ctl) : view ar (State.fieldTestMessage
    s p m) = view ar s := by
  simp only [List.mem_cons, List.not_mem_nil, not_or, or_false] at hA
  unfold State.fieldTestMessage
  refine view_control (by simp [hA]) s p 8 m _ _ _ _ _ (fun t => ?_) (fun t => rfl)
  simp [hA, view_fieldTestMsg]

theorem view_restoreFails (hA : ar ∉ [Area.sent, Area.free, Area.objects, Area.notices, Area.log, Area.links,
    Area.parts, Area.queues, Area.loops]) (s : State) (p : Nat) (l : LoomId) : view ar (State.restoreFails s p l) = view
    ar s := by
  simp only [List.mem_cons, List.not_mem_nil, not_or, or_false] at hA
  unfold State.restoreFails
  simp [hA, view_ite, view_raisePart, view_report, view_haltJob, view_armFails, view_setJobState]

theorem view_restoreLoom (hA : ar ∉ [Area.sent, Area.free, Area.objects, Area.notices, Area.log, Area.looms,
    Area.links, Area.parts, Area.queues, Area.loops]) (s : State) (p : Nat) (l : LoomId) : view ar (State.restoreLoom s
    p l) = view ar s := by
  simp only [List.mem_cons, List.not_mem_nil, not_or, or_false] at hA
  unfold State.restoreLoom
  simp [hA, view_ite, view_restoreSections, view_restoreFails]

theorem view_trainLink (hA : ar ∉ [Area.links]) (s : State) (k : Nat) : view ar (State.trainLink s k) = view ar s :=
    by
  simp only [List.mem_cons, List.not_mem_nil, or_false] at hA
  unfold State.trainLink
  simp [hA, view_setLink]

theorem view_portStart (hA : ar ∉ [Area.bringUp, Area.objects, Area.links]) (s : State) (p : Nat) : view ar
    (State.portStart s p) = view ar s := by
  simp only [List.mem_cons, List.not_mem_nil, not_or, or_false] at hA
  unfold State.portStart
  simp [hA, view_ite, view_foldl, view_upd_stepStart, view_setObj, view_trainLink]

theorem view_portEnable (hA : ar ∉ [Area.bringUp, Area.objects, Area.links]) (s : State) (p : Nat) : view ar
    (State.portEnable s p) = view ar s := by
  simp only [List.mem_cons, List.not_mem_nil, not_or, or_false] at hA
  unfold State.portEnable
  simp [hA, view_ite, view_setObj, view_portStart]

theorem view_portDisable (hA : ar ∉ [Area.objects, Area.links]) (s : State) (p : Nat) : view ar (State.portDisable s
    p) = view ar s := by
  simp only [List.mem_cons, List.not_mem_nil, not_or, or_false] at hA
  unfold State.portDisable
  simp [hA, view_ite, view_setObj, view_portStop]

theorem view_portTrained (hA : ar ∉ [Area.objects]) (s : State) (p : Nat) : view ar (State.portTrained s p) = view
    ar s := by
  simp only [List.mem_cons, List.not_mem_nil, or_false] at hA
  unfold State.portTrained
  simp [hA, view_ite, view_setObj]

theorem view_showLanes (hA : ar ∉ [Area.objects]) (s : State) (k first : Nat) (lanes : List LaneResult) : view ar
    (State.showLanes s k first lanes) = view ar s := by
  simp only [List.mem_cons, List.not_mem_nil, or_false] at hA
  unfold State.showLanes
  simp [hA, view_foldl, view_setObj]

theorem view_widthCheck (hA : ar ∉ [Area.sent, Area.free, Area.objects, Area.notices, Area.log, Area.looms,
    Area.links, Area.parts, Area.queues, Area.loops]) (s : State) (k : Nat) : view ar (State.widthCheck s k) = view ar s
    := by
  simp only [List.mem_cons, List.not_mem_nil, not_or, or_false] at hA
  unfold State.widthCheck
  simp [hA, view_ite, view_raisePart, view_faultAndHalt]

theorem view_linkEvent (hA : ar ∉ [Area.sent, Area.free, Area.objects, Area.notices, Area.log, Area.queues,
    Area.loops]) (s : State) (k : Nat) : view ar (State.linkEvent s k) = view ar s := by
  simp only [List.mem_cons, List.not_mem_nil, not_or, or_false] at hA
  unfold State.linkEvent
  simp [hA, view_raisePart]

theorem view_linkComesUp (hA : ar ∉ [Area.sent, Area.free, Area.objects, Area.notices, Area.log, Area.looms,
    Area.links, Area.parts, Area.queues, Area.loops]) (s : State) (k first w : Nat) : view ar (State.linkComesUp s k
    first w) = view ar s := by
  simp only [List.mem_cons, List.not_mem_nil, not_or, or_false] at hA
  unfold State.linkComesUp
  simp [hA, view_ite, view_foldl, view_setLink, view_setObj, view_portTrained, view_widthCheck, view_linkEvent]

theorem view_neighbourChange (hA : ar ∉ [Area.sent, Area.free, Area.objects, Area.notices, Area.log, Area.queues,
    Area.loops]) (s : State) (k : Nat) : view ar (State.neighbourChange s k) = view ar s := by
  simp only [List.mem_cons, List.not_mem_nil, not_or, or_false] at hA
  unfold State.neighbourChange
  simp [hA, view_bump, view_linkEvent]

theorem view_neighbour (hA : ar ∉ [Area.sent, Area.free, Area.objects, Area.notices, Area.log, Area.links,
    Area.queues, Area.loops]) (s : State) (k : Nat) (m : Lldp) : view ar (State.neighbour s k m) = view ar s := by
  simp only [List.mem_cons, List.not_mem_nil, not_or, or_false] at hA
  unfold State.neighbour
  simp [hA, view_ite, view_setLink, view_setObj, view_neighbourChange]

theorem view_sendArp (hA : ar ∉ [Area.sent, Area.objects, Area.links, Area.queues, Area.loops]) (s : State) (k vid :
    Nat) (isReply : Bool) (a : Bytes) : view ar (State.sendArp s k vid isReply a) = view ar s := by
  simp only [List.mem_cons, List.not_mem_nil, not_or, or_false] at hA
  unfold State.sendArp
  simp [hA, view_sendFrame]

theorem view_arpTaken (hA : ar ∉ [Area.sent, Area.objects, Area.links, Area.queues, Area.loops]) (s : State) (k :
    Nat) (m : ArpMsg) : view ar (State.arpTaken s k m) = view ar s := by
  simp only [List.mem_cons, List.not_mem_nil, not_or, or_false] at hA
  unfold State.arpTaken
  (repeat' split) <;> simp [hA, view_ite, view_setLink, view_sendArp]

theorem view_greet (hA : ar ∉ [Area.sent, Area.objects, Area.links, Area.parts, Area.queues, Area.loops]) (s :
    State) (p r k : Nat) (answer : Bool) : view ar (State.greet s p r k answer) = view ar s := by
  simp only [List.mem_cons, List.not_mem_nil, not_or, or_false] at hA
  unfold State.greet
  simp [hA, view_setPart, view_sendFrame, view_ite]

theorem view_greetingTaken (hA : ar ∉ [Area.sent, Area.free, Area.objects, Area.notices, Area.log, Area.links,
    Area.parts, Area.queues, Area.loops]) (s : State) (p r k : Nat) (g : Word512) : view ar (State.greetingTaken s p r k
    g) = view ar s := by
  simp only [List.mem_cons, List.not_mem_nil, not_or, or_false] at hA
  unfold State.greetingTaken
  simp [hA, view_ite, view_setPart, view_bump, view_rxDrop, view_rollCheck, view_greet]

theorem view_rxGreeting (hA : ar ∉ [Area.sent, Area.free, Area.objects, Area.notices, Area.log, Area.links,
    Area.parts, Area.queues, Area.loops]) (s : State) (p : Fin 4) (h : EspHdr) (g : Word512) : view ar (State.rxGreeting
    s p h g) = view ar s := by
  simp only [List.mem_cons, List.not_mem_nil, not_or, or_false] at hA
  have h1 := view_rxEsp (ar := ar) (by simp [hA]) s p h 1
  unfold State.rxGreeting
  split
  · rename_i he; rw [he] at h1; exact h1
  · rename_i he; rw [he] at h1; simpa [hA, view_greetingTaken] using h1

end Sys2Proof.Machine
end

