-- ==== Sys2Proof/Laws/FramesPorts.lean ====
section
/-! SUPPORT. For each shared operation, what the operations of writes, the dictionary, DMA, events, the exchange, services and vectors leave unchanged: an area that
the operation's list does not name keeps its contents. -/

namespace Sys2Proof.Machine

open Sys2Proof Host

variable {ar : Area}

theorem view_modNode (hA : ar ∉ [Area.nodes]) (s : State) (n : Nat) (f : Node → Node) : view ar (State.modNode s n
    f) = view ar s := by
  simp only [List.mem_cons, List.not_mem_nil, or_false] at hA
  unfold State.modNode
  simp [hA, view_setNode]

theorem view_guardRecord (hA : ar ∉ [Area.sent, Area.free, Area.objects, Area.notices, Area.log, Area.queues,
    Area.loops]) (s : State) (op n : Nat) : view ar (State.guardRecord s op n) = view ar s := by
  simp only [List.mem_cons, List.not_mem_nil, not_or, or_false] at hA
  unfold State.guardRecord
  simp [hA, view_raise]

theorem view_guardFault (hA : ar ∉ [Area.sent, Area.free, Area.objects, Area.notices, Area.log, Area.queues,
    Area.loops]) (s : State) (op n : Nat) : view ar (State.guardFault s op n) = view ar s := by
  simp only [List.mem_cons, List.not_mem_nil, not_or, or_false] at hA
  unfold State.guardFault
  simp [hA, view_bump, view_guardRecord]

theorem view_unlockWrite (hA : ar ∉ [Area.sent, Area.free, Area.objects, Area.nodes, Area.notices, Area.log,
    Area.queues, Area.loops]) (s : State) (op n v : Nat) : view ar (State.unlockWrite s op n v).1 = view ar s := by
  simp only [List.mem_cons, List.not_mem_nil, not_or, or_false] at hA
  unfold State.unlockWrite
  simp [hA, view_modNode, view_guardFault, view_pair_ite]

theorem view_dropCompat (hA : ar ∉ [Area.nodes]) (s : State) (n : Nat) : view ar (State.dropCompat s n) = view ar s
    := by
  simp only [List.mem_cons, List.not_mem_nil, or_false] at hA
  unfold State.dropCompat
  simp [hA, view_modNode]

theorem view_targetWrite (hA : ar ∉ [Area.nodes]) (s : State) (n v : Nat) : view ar (State.targetWrite s n v).1 =
    view ar s := by
  simp only [List.mem_cons, List.not_mem_nil, or_false] at hA
  unfold State.targetWrite
  simp [hA, view_modNode]

theorem view_valueWrite (hA : ar ∉ [Area.nodes]) (s : State) (n v : Nat) : view ar (State.valueWrite s n v).1 = view
    ar s := by
  simp only [List.mem_cons, List.not_mem_nil, or_false] at hA
  unfold State.valueWrite
  (repeat' split) <;> simp [hA, view_modNode, view_dropCompat]

theorem view_channelEnable (hA : ar ∉ [Area.sent, Area.security, Area.objects, Area.links, Area.parts, Area.queues,
    Area.loops]) (s : State) (n v : Nat) : view ar (State.channelEnable s n v) = view ar s := by
  simp only [List.mem_cons, List.not_mem_nil, not_or, or_false] at hA
  unfold State.channelEnable
  simp [hA, view_ite, view_setObj, view_newControlQp, view_eraseChannel]

theorem view_portWrite (hA : ar ∉ [Area.bringUp, Area.objects, Area.links]) (s : State) (p v : Nat) : view ar
    (State.portWrite s p v) = view ar s := by
  simp only [List.mem_cons, List.not_mem_nil, not_or, or_false] at hA
  unfold State.portWrite
  simp [hA, view_ite, view_portEnable, view_portDisable]

theorem view_coveredWrite (hA : ar ∉ [Area.seal, Area.objects]) (s : State) : view ar (State.coveredWrite s) = view
    ar s := by
  simp only [List.mem_cons, List.not_mem_nil, not_or, or_false] at hA
  unfold State.coveredWrite
  simp [hA, view_upd_sealArmed, view_setObj]

theorem view_structuralWrite (hA : ar ∉ [Area.seal, Area.objects]) (s : State) (ref v status : Nat) (disabled :
    Bool) : view ar (State.structuralWrite s ref v status disabled).1 = view ar s := by
  simp only [List.mem_cons, List.not_mem_nil, not_or, or_false] at hA
  unfold State.structuralWrite
  simp [hA, view_setObj, view_coveredWrite, view_pair_ite]

theorem view_assayWrite (hA : ar ∉ [Area.seal, Area.objects]) (s : State) (v : Nat) : view ar (State.assayWrite s
    v).1 = view ar s := by
  simp only [List.mem_cons, List.not_mem_nil, not_or, or_false] at hA
  unfold State.assayWrite
  simp [hA, view_setObj, view_coveredWrite, view_pair_ite]

theorem view_hazardEnableWrite (hA : ar ∉ [Area.seal, Area.objects]) (s : State) (v : Nat) : view ar
    (State.hazardEnableWrite s v).1 = view ar s := by
  simp only [List.mem_cons, List.not_mem_nil, not_or, or_false] at hA
  unfold State.hazardEnableWrite
  simp [hA, view_ite, view_setObj, view_coveredWrite]

theorem view_hazardActionWrite (hA : ar ∉ [Area.seal, Area.objects]) (s : State) (v : Nat) : view ar
    (State.hazardActionWrite s v).1 = view ar s := by
  simp only [List.mem_cons, List.not_mem_nil, not_or, or_false] at hA
  unfold State.hazardActionWrite
  simp [hA, view_setObj, view_coveredWrite, view_pair_ite]

theorem view_settingsWrite (hA : ar ∉ [Area.seal, Area.objects]) (s : State) (ref v : Nat) : view ar
    (State.settingsWrite s ref v).1 = view ar s := by
  simp only [List.mem_cons, List.not_mem_nil, not_or, or_false] at hA
  unfold State.settingsWrite
  simp [hA, view_setObj, view_coveredWrite, view_pair_ite]

theorem view_classDWrite (hA : ar ∉ [Area.seal, Area.objects]) (s : State) (ref v : Nat) : view ar
    (State.classDWrite s ref v).1 = view ar s := by
  simp only [List.mem_cons, List.not_mem_nil, not_or, or_false] at hA
  unfold State.classDWrite
  simp [hA, view_setObj, view_coveredWrite, view_structuralWrite, view_assayWrite, view_hazardEnableWrite,
      view_hazardActionWrite, view_settingsWrite, view_pair_ite]

theorem view_setIdleSlot (hA : ar ∉ [Area.flash, Area.objects]) (s : State) (x : FwSlot) : view ar
    (State.setIdleSlot s x) = view ar s := by
  simp only [List.mem_cons, List.not_mem_nil, not_or, or_false] at hA
  unfold State.setIdleSlot
  simp [hA, view_upd_flash, view_showFirmware]

theorem view_imageWrite (hA : ar ∉ [Area.flash, Area.objects]) (s : State) (img : Bytes) (v : FwVerdict) : view ar
    (State.imageWrite s img v).1 = view ar s := by
  simp only [List.mem_cons, List.not_mem_nil, not_or, or_false] at hA
  unfold State.imageWrite
  simp [hA, view_setObj, view_setIdleSlot]

theorem view_selectWrite (hA : ar ∉ [Area.flash, Area.objects]) (s : State) (v : Nat) : view ar (State.selectWrite s
    v).1 = view ar s := by
  simp only [List.mem_cons, List.not_mem_nil, not_or, or_false] at hA
  unfold State.selectWrite
  simp [hA, view_upd_flash, view_setObj, view_pair_ite]

theorem view_firmwareCommitWrite (hA : ar ∉ [Area.flash, Area.objects]) (s : State) : view ar
    (State.firmwareCommitWrite s).1 = view ar s := by
  simp only [List.mem_cons, List.not_mem_nil, not_or, or_false] at hA
  unfold State.firmwareCommitWrite
  simp [hA, view_upd_flash, view_setObj, view_showFirmware, view_pair_ite]

theorem view_nonceWrite (hA : ar ∉ [Area.security, Area.objects]) (s : State) (data : Bytes) : view ar
    (State.nonceWrite s data).1 = view ar s := by
  simp only [List.mem_cons, List.not_mem_nil, not_or, or_false] at hA
  unfold State.nonceWrite
  simp [hA, view_upd_sec, view_setObj, view_pair_ite]

theorem view_openEkWrite (hA : ar ∉ [Area.free, Area.nodes]) (s : State) (n : Nat) (ek : Bytes) : view ar
    (State.openEkWrite s n ek).1 = view ar s := by
  simp only [List.mem_cons, List.not_mem_nil, not_or, or_false] at hA
  unfold State.openEkWrite
  simp [hA, view_upd_fresh, view_modNode]

theorem view_openSession (hA : ar ∉ [Area.nodes]) (s : State) (n : Nat) : view ar (State.openSession s n) = view ar
    s := by
  simp only [List.mem_cons, List.not_mem_nil, or_false] at hA
  unfold State.openSession
  simp [hA, view_modNode]

theorem view_storeSetting (hA : ar ∉ [Area.flash]) (s : State) (ref v : Nat) : view ar (State.storeSetting s ref v)
    = view ar s := by
  simp only [List.mem_cons, List.not_mem_nil, or_false] at hA
  unfold State.storeSetting
  simp [hA, view_upd_flash]

theorem view_responseWrite (hA : ar ∉ [Area.sent, Area.free, Area.flash, Area.objects, Area.nodes, Area.notices,
    Area.log, Area.queues, Area.loops]) (s : State) (op n : Nat) (sigOk : Bool) : view ar (State.responseWrite s op n
    sigOk).1 = view ar s := by
  simp only [List.mem_cons, List.not_mem_nil, not_or, or_false] at hA
  unfold State.responseWrite
  simp [hA, view_setObj, view_modNode, view_guardRecord, view_openSession, view_storeSetting, view_pair_ite]

theorem view_closeNode (hA : ar ∉ [Area.nodes]) (s : State) (n : Nat) : view ar (State.closeNode s n) = view ar s :=
    by
  simp only [List.mem_cons, List.not_mem_nil, or_false] at hA
  unfold State.closeNode
  simp [hA, view_modNode]

theorem view_bufferWrite (hA : ar ∉ [Area.objects, Area.buffered]) (s : State) (ref v : Nat) : view ar
    (State.bufferWrite s ref v) = view ar s := by
  simp only [List.mem_cons, List.not_mem_nil, not_or, or_false] at hA
  unfold State.bufferWrite
  simp [hA, view_upd_buffered, view_setObj]

theorem view_nodeWrite (hA : ar ∉ [Area.nodes]) (s : State) (n ref v : Nat) (data : Bytes) : view ar
    (State.nodeWrite s n ref v data).1 = view ar s := by
  simp only [List.mem_cons, List.not_mem_nil, or_false] at hA
  unfold State.nodeWrite
  simp [hA, view_modNode, view_closeNode, view_pair_ite]

theorem view_commandWrite (hA : ar ∉ [Area.sent, Area.free, Area.power, Area.phase, Area.bringUp, Area.seal, Area.flash, Area.security, Area.objects, Area.inForce, Area.nodes, Area.notices, Area.log, Area.tests, Area.quads, Area.looms, Area.stackCtl, Area.hbm, Area.poison, Area.held, Area.parts, Area.queues, Area.loops, Area.bridges, Area.counters, Area.latched, Area.hang, Area.links]) (s : State) (op n ref v : Nat) (data : Bytes) (fw : FwVerdict) : view ar
    (State.commandWrite s op n ref v data fw).1 = view ar s := by
  simp only [List.mem_cons, List.not_mem_nil, not_or, or_false] at hA
  unfold State.commandWrite
  simp [hA, view_upd_sealArmed, view_setObj, view_snapshotWrite, view_eclipseWrite, view_resumeWrite,
      view_releaseWrite, view_hangWrite, view_applyWrite, view_goWrite, view_startSeal, view_unlockWrite, view_imageWrite,
      view_selectWrite, view_firmwareCommitWrite, view_nonceWrite, view_openEkWrite, view_responseWrite, view_pair_ite]

theorem view_unitWrite (hA : ar ∉ [Area.sent, Area.free, Area.power, Area.phase, Area.bringUp, Area.seal,
    Area.flash, Area.security, Area.objects, Area.inForce, Area.buffered, Area.nodes, Area.notices, Area.log,
    Area.tests, Area.quads, Area.looms, Area.stackCtl, Area.hbm, Area.poison, Area.links, Area.held, Area.parts,
    Area.queues, Area.loops, Area.bridges, Area.counters, Area.latched, Area.hang]) (s : State) (op n : Nat) (o :
    ObjRow) (ref : Nat) (data : Bytes) (fw : FwVerdict) : view ar (State.unitWrite s op n o ref data fw).1 = view ar s
    := by
  simp only [List.mem_cons, List.not_mem_nil, not_or, or_false] at hA
  unfold State.unitWrite
  simp [hA, view_ite, view_setObj, view_channelEnable, view_portWrite, view_classDWrite, view_storeSetting,
      view_bufferWrite, view_nodeWrite, view_commandWrite, view_pair_ite]

theorem view_valueChecked (hA : ar ∉ [Area.sent, Area.free, Area.power, Area.phase, Area.bringUp, Area.seal,
    Area.flash, Area.security, Area.objects, Area.inForce, Area.buffered, Area.nodes, Area.notices, Area.log,
    Area.tests, Area.quads, Area.looms, Area.stackCtl, Area.hbm, Area.poison, Area.links, Area.held, Area.parts,
    Area.queues, Area.loops, Area.bridges, Area.counters, Area.latched, Area.hang]) (s : State) (op n : Nat) (o :
    ObjRow) (ref : Nat) (data : Bytes) (fw : FwVerdict) : view ar (State.valueChecked s op n o ref data fw).1 = view ar
    s := by
  simp only [List.mem_cons, List.not_mem_nil, not_or, or_false] at hA
  unfold State.valueChecked
  simp [hA, view_bump, view_unitWrite, view_pair_ite]

theorem view_complementWrite (hA : ar ∉ [Area.sent, Area.free, Area.power, Area.phase, Area.bringUp, Area.seal,
    Area.flash, Area.security, Area.objects, Area.inForce, Area.buffered, Area.nodes, Area.notices, Area.log,
    Area.tests, Area.quads, Area.looms, Area.stackCtl, Area.hbm, Area.poison, Area.links, Area.held, Area.parts,
    Area.queues, Area.loops, Area.bridges, Area.counters, Area.latched, Area.hang]) (s : State) (op n v : Nat) (fw :
    FwVerdict) : view ar (State.complementWrite s op n v fw).1 = view ar s := by
  simp only [List.mem_cons, List.not_mem_nil, not_or, or_false] at hA
  unfold State.complementWrite
  simp only
  (repeat' split) <;> simp [hA, view_guardFault, view_dropCompat, view_valueChecked]

theorem view_authTaken (hA : ar ∉ [Area.nodes]) (s : State) (r : Req) : view ar (State.authTaken s r) = view ar s :=
    by
  simp only [List.mem_cons, List.not_mem_nil, or_false] at hA
  unfold State.authTaken
  simp [hA, view_modNode]

theorem view_answer (s : State) (status : Nat) : view ar (answer s status).1 = view ar s := by
  unfold answer
  simp

theorem view_writeValue (hA : ar ∉ [Area.sent, Area.free, Area.power, Area.phase, Area.bringUp, Area.seal,
    Area.flash, Area.security, Area.objects, Area.inForce, Area.buffered, Area.nodes, Area.notices, Area.log,
    Area.tests, Area.quads, Area.looms, Area.stackCtl, Area.hbm, Area.poison, Area.links, Area.held, Area.parts,
    Area.queues, Area.loops, Area.bridges, Area.counters, Area.latched, Area.hang]) (s : State) (op : Nat) (r : Req) (o
    : ObjRow) (data : Bytes) (sizeOk open_ : Bool) (fw : FwVerdict) : view ar (State.writeValue s op r o data sizeOk
    open_ fw).1 = view ar s := by
  simp only [List.mem_cons, List.not_mem_nil, not_or, or_false] at hA
  unfold State.writeValue
  simp [hA, view_ite, view_targetWrite, view_valueWrite, view_valueChecked, view_complementWrite, view_authTaken,
      view_answer, view_pair_ite]

theorem view_stageImage (hA : ar ∉ [Area.flash, Area.objects]) (s : State) (fresh : Bool) (off : Nat) (b : Bytes) :
    view ar (State.stageImage s fresh off b) = view ar s := by
  simp only [List.mem_cons, List.not_mem_nil, not_or, or_false] at hA
  unfold State.stageImage
  simp [hA, view_setIdleSlot]

theorem view_stagedFrame (hA : ar ∉ [Area.flash, Area.objects, Area.nodes]) (s : State) (r : Req) (o : ObjRow) :
    view ar (State.stagedFrame s r o).1 = view ar s := by
  simp only [List.mem_cons, List.not_mem_nil, not_or, or_false] at hA
  unfold State.stagedFrame
  simp [hA, view_ite, view_modNode, view_authTaken, view_answer, view_stageImage, view_pair_ite]

theorem view_commitFrame (hA : ar ∉ [Area.sent, Area.free, Area.power, Area.phase, Area.bringUp, Area.seal,
    Area.flash, Area.security, Area.objects, Area.inForce, Area.buffered, Area.nodes, Area.notices, Area.log,
    Area.tests, Area.quads, Area.looms, Area.stackCtl, Area.hbm, Area.poison, Area.links, Area.held, Area.parts,
    Area.queues, Area.loops, Area.bridges, Area.counters, Area.latched, Area.hang]) (s : State) (r : Req) (o : ObjRow)
    (open_ : Bool) (fw : FwVerdict) : view ar (State.commitFrame s r o open_ fw).1 = view ar s := by
  simp only [List.mem_cons, List.not_mem_nil, not_or, or_false] at hA
  unfold State.commitFrame
  simp only
  (repeat' split) <;> simp [hA, view_modNode, view_authTaken, view_answer, view_writeValue]

theorem view_readFrame (s : State) (r : Req) (o : ObjRow) : view ar (State.readFrame s r o).1 = view ar s := by
  unfold State.readFrame
  simp [view_answer, view_pair_ite]

theorem view_blockFrame (s : State) (r : Req) : view ar (State.blockFrame s r).1 = view ar s := by
  unfold State.blockFrame
  (repeat' split) <;> simp [view_answer, view_pair_ite]

theorem view_frameArrives (hA : ar ∉ [Area.nodes]) (s : State) (op : Nat) (r : Req) : view ar (State.frameArrives s
    op r) = view ar s := by
  simp only [List.mem_cons, List.not_mem_nil, or_false] at hA
  unfold State.frameArrives
  simp [hA, view_ite, view_modNode, view_dropCompat]

theorem view_handle (hA : ar ∉ [Area.sent, Area.free, Area.power, Area.phase, Area.bringUp, Area.seal, Area.flash,
    Area.security, Area.objects, Area.inForce, Area.buffered, Area.nodes, Area.notices, Area.log, Area.tests,
    Area.quads, Area.looms, Area.stackCtl, Area.hbm, Area.poison, Area.links, Area.held, Area.parts, Area.queues,
    Area.loops, Area.bridges, Area.counters, Area.latched, Area.hang]) (s : State) (op : Nat) (r : Req) (fw : FwVerdict)
    : view ar (State.handle s op r fw).1 = view ar s := by
  simp only [List.mem_cons, List.not_mem_nil, not_or, or_false] at hA
  unfold State.handle
  simp only
  (repeat' split) <;> simp [hA, view_answer, view_writeValue, view_stagedFrame, view_commitFrame, view_readFrame,
      view_blockFrame, view_frameArrives]

theorem view_serve (hA : ar ∉ [Area.sent, Area.free, Area.power, Area.phase, Area.bringUp, Area.seal, Area.flash,
    Area.security, Area.objects, Area.inForce, Area.buffered, Area.nodes, Area.notices, Area.log, Area.tests,
    Area.quads, Area.looms, Area.stackCtl, Area.hbm, Area.poison, Area.links, Area.held, Area.parts, Area.queues,
    Area.loops, Area.bridges, Area.counters, Area.latched, Area.hang]) (s : State) (op : Nat) (r : Req) (fw : FwVerdict)
    : view ar (State.serve s op r fw) = view ar s := by
  simp only [List.mem_cons, List.not_mem_nil, not_or, or_false] at hA
  unfold State.serve
  simp only
  (repeat' split) <;> simp [hA, view_bump, view_crossQueues, view_sendDict, view_modNode, view_handle]

theorem view_writeTo (hA : ar ∉ [Area.sent, Area.free, Area.power, Area.phase, Area.bringUp, Area.seal, Area.flash,
    Area.security, Area.objects, Area.inForce, Area.buffered, Area.nodes, Area.notices, Area.log, Area.tests,
    Area.quads, Area.looms, Area.stackCtl, Area.hbm, Area.poison, Area.links, Area.held, Area.parts, Area.queues,
    Area.loops, Area.bridges, Area.counters, Area.latched, Area.hang]) (s : State) (r : Req) (ref : Nat) : view ar
    (State.writeTo s r ref) = view ar s := by
  simp only [List.mem_cons, List.not_mem_nil, not_or, or_false] at hA
  unfold State.writeTo
  simp [hA, view_serve]

theorem view_rowIn (hA : ar ∉ [Area.sent, Area.free, Area.flash, Area.objects, Area.notices, Area.log, Area.looms,
    Area.stackCtl, Area.hbm, Area.poison, Area.queues, Area.loops, Area.counters]) (s : State) (l : LoomId) (d :
    Word512) (i : Nat) : view ar (State.rowIn s l d i) = view ar s := by
  simp only [List.mem_cons, List.not_mem_nil, not_or, or_false] at hA
  unfold State.rowIn
  simp [hA, view_setLoom, view_countRead]

theorem view_rowOut (hA : ar ∉ [Area.sent, Area.free, Area.flash, Area.objects, Area.notices, Area.log,
    Area.stackCtl, Area.hbm, Area.poison, Area.queues, Area.loops, Area.counters]) (s : State) (l : LoomId) (d :
    Word512) (i : Nat) : view ar (State.rowOut s l d i) = view ar s := by
  simp only [List.mem_cons, List.not_mem_nil, not_or, or_false] at hA
  unfold State.rowOut
  simp [hA, view_foldl, view_writeRegion]

theorem view_transposeRow (hA : ar ∉ [Area.looms]) (s : State) (l : LoomId) (d : Word512) (k : Nat) : view ar
    (State.transposeRow s l d k) = view ar s := by
  simp only [List.mem_cons, List.not_mem_nil, or_false] at hA
  unfold State.transposeRow
  simp [hA, view_setLoom]

theorem view_transfer (hA : ar ∉ [Area.sent, Area.free, Area.flash, Area.objects, Area.notices, Area.log,
    Area.looms, Area.stackCtl, Area.hbm, Area.poison, Area.queues, Area.loops, Area.counters]) (s : State) (l : LoomId)
    (dir : Nat) (d : Word512) : view ar (State.transfer s l dir d) = view ar s := by
  simp only [List.mem_cons, List.not_mem_nil, not_or, or_false] at hA
  unfold State.transfer
  simp [hA, view_ite, view_foldl, view_countRead, view_rowIn, view_rowOut, view_transposeRow]

theorem view_dmaOp (hA : ar ∉ [Area.sent, Area.free, Area.flash, Area.objects, Area.notices, Area.log, Area.quads,
    Area.looms, Area.stackCtl, Area.hbm, Area.poison, Area.links, Area.parts, Area.queues, Area.loops, Area.counters])
    (s : State) (l : LoomId) (dir : Nat) (hit : Option LoomHit) : view ar (State.dmaOp s l dir hit) = view ar s := by
  simp only [List.mem_cons, List.not_mem_nil, not_or, or_false] at hA
  unfold State.dmaOp
  refine view_descriptor (by simp [hA]) s l _ _ _ (fun t d => ?_)
  simp only
  split
  · rfl
  · split
    · simp [hA, view_reject]
    · split <;> simp [hA, view_toUnit, view_transfer, view_found]

theorem view_wakeSteward (hA : ar ∉ [Area.objects, Area.sources, Area.stewards]) (s : State) (m : Nat) : view ar
    (State.wakeSteward s m) = view ar s := by
  simp only [List.mem_cons, List.not_mem_nil, not_or, or_false] at hA
  unfold State.wakeSteward
  simp [hA, view_foldl, view_setSource, view_setSteward, view_bump]

theorem view_wakeAll (hA : ar ∉ [Area.objects, Area.sources, Area.stewards]) (s : State) : view ar (State.wakeAll s)
    = view ar s := by
  simp only [List.mem_cons, List.not_mem_nil, not_or, or_false] at hA
  unfold State.wakeAll
  simp [hA, view_foldl, view_wakeSteward]

theorem view_setLevel (hA : ar ∉ [Area.sources]) (s : State) (n : Nat) (level : Bool) : view ar (State.setLevel s n
    level) = view ar s := by
  simp only [List.mem_cons, List.not_mem_nil, or_false] at hA
  unfold State.setLevel
  simp [hA, view_ite, view_setSource]

theorem view_claim (hA : ar ∉ [Area.sent, Area.objects, Area.sources, Area.queues, Area.loops]) (s : State) (m : Fin 4) : view ar
    (State.claim s m) = view ar s := by
  simp only [List.mem_cons, List.not_mem_nil, not_or, or_false] at hA
  unfold State.claim
  split
  · rfl
  · refine view_across (by simp [hA]) _ _ _ (fun u => ?_)
    split
    · rw [view_across (by simp [hA]) _ _ _ (fun v => by simp [hA, view_emit])]; simp [hA, view_setSource, view_bump]
    · rw [view_across (by simp [hA]) _ _ _ (fun v => by simp [hA, view_emit])]; simp [hA, view_bump]

theorem view_portEvent (hA : ar ∉ [Area.objects, Area.sources, Area.stewards]) (s : State) (c : Nat) : view ar
    (State.portEvent s c) = view ar s := by
  simp only [List.mem_cons, List.not_mem_nil, not_or, or_false] at hA
  unfold State.portEvent
  simp [hA, view_wakeAll, view_setLevel]

theorem view_secondEnds (hA : ar ∉ [Area.sent, Area.collision, Area.objects, Area.notices, Area.log, Area.queues,
    Area.loops]) (s : State) : view ar (State.secondEnds s) = view ar s := by
  simp only [List.mem_cons, List.not_mem_nil, not_or, or_false] at hA
  unfold State.secondEnds
  simp only
  rw [view_upd_collided_mergedNow (by simp [hA])]
  exact view_foldl (fun t r => by simp [hA, view_notify]) _ _

theorem view_stackSecond (hA : ar ∉ [Area.objects, Area.stackCtl]) (s : State) (k : Nat) : view ar
    (State.stackSecond s k) = view ar s := by
  simp only [List.mem_cons, List.not_mem_nil, not_or, or_false] at hA
  unfold State.stackSecond
  simp [hA, view_setStack, view_setObj]

theorem view_bytesSecond (hA : ar ∉ [Area.objects, Area.stackCtl]) (s : State) : view ar (State.bytesSecond s) =
    view ar s := by
  simp only [List.mem_cons, List.not_mem_nil, not_or, or_false] at hA
  unfold State.bytesSecond
  simp [hA, view_foldl, view_setObj, view_stackSecond]

theorem view_applyBuffered (hA : ar ∉ [Area.inForce, Area.buffered]) (s : State) : view ar (State.applyBuffered s) =
    view ar s := by
  simp only [List.mem_cons, List.not_mem_nil, not_or, or_false] at hA
  unfold State.applyBuffered
  simp [hA, view_foldl, view_upd_buffered, view_setLive]

theorem view_sealTick (hA : ar ∉ [Area.sent, Area.free, Area.objects, Area.notices, Area.log, Area.queues,
    Area.loops]) (s : State) : view ar (State.sealTick s) = view ar s := by
  simp only [List.mem_cons, List.not_mem_nil, not_or, or_false] at hA
  unfold State.sealTick
  simp [hA, view_ite, view_setObj, view_bump, view_raiseDevice]

theorem view_readyTick (hA : ar ∉ [Area.sent, Area.free, Area.objects, Area.notices, Area.log, Area.links,
    Area.parts, Area.queues, Area.loops]) (s : State) : view ar (State.readyTick s) = view ar s := by
  simp only [List.mem_cons, List.not_mem_nil, not_or, or_false] at hA
  unfold State.readyTick
  simp [hA, view_ite, view_foldl, view_setObj, view_raiseDevice, view_sendCall, view_endStep]

theorem view_publish (hA : ar ∉ [Area.sent, Area.objects, Area.notices, Area.queues, Area.loops]) (s : State) : view
    ar (State.publish s) = view ar s := by
  simp only [List.mem_cons, List.not_mem_nil, not_or, or_false] at hA
  unfold State.publish
  simp [hA, view_ite, view_upd_notifySeq, view_sendDict]

theorem view_hubCorrected (hA : ar ∉ [Area.sent, Area.free, Area.objects, Area.notices, Area.log, Area.queues,
    Area.loops]) (s : State) (w : HubWord) : view ar (State.hubCorrected s w) = view ar s := by
  simp only [List.mem_cons, List.not_mem_nil, not_or, or_false] at hA
  unfold State.hubCorrected
  (repeat' split) <;> simp [hA, view_raiseDevice]

theorem view_headerMismatch (hA : ar ∉ [Area.sent, Area.free, Area.objects, Area.notices, Area.log, Area.looms,
    Area.links, Area.parts, Area.queues, Area.loops]) (s : State) (p : Nat) (k : PktHdr) (h : ChunkHdr) : view ar
    (State.headerMismatch s p k h) = view ar s := by
  simp only [List.mem_cons, List.not_mem_nil, not_or, or_false] at hA
  unfold State.headerMismatch
  simp [hA, view_bump, view_raisePart, view_chargeFault]

theorem view_doneArrived (hA : ar ∉ [Area.sent, Area.free, Area.flash, Area.objects, Area.notices, Area.log,
    Area.stackCtl, Area.hbm, Area.poison, Area.parts, Area.queues, Area.loops, Area.counters]) (s : State) (p : Nat) (h
    : ChunkHdr) : view ar (State.doneArrived s p h) = view ar s := by
  simp only [List.mem_cons, List.not_mem_nil, not_or, or_false] at hA
  unfold State.doneArrived
  simp [hA, view_recordJobMax, view_noteDone, view_checkResults]

theorem view_chunkTaken (hA : ar ∉ [Area.sent, Area.free, Area.flash, Area.objects, Area.notices, Area.log,
    Area.stackCtl, Area.hbm, Area.poison, Area.links, Area.parts, Area.queues, Area.loops, Area.counters]) (s : State)
    (p : Nat) (c : Chunk) (h : ChunkHdr) : view ar (State.chunkTaken s p c h) = view ar s := by
  simp only [List.mem_cons, List.not_mem_nil, not_or, or_false] at hA
  unfold State.chunkTaken
  simp [hA, view_ite, view_pfcCheck, view_loopTake, view_toTally, view_doneArrived]

theorem view_rxChunk (hA : ar ∉ [Area.sent, Area.free, Area.flash, Area.objects, Area.notices, Area.log, Area.looms,
    Area.stackCtl, Area.hbm, Area.poison, Area.links, Area.parts, Area.queues, Area.loops, Area.counters]) (s : State)
    (p type : Nat) (c : Chunk) : view ar (State.rxChunk s p type c) = view ar s := by
  simp only [List.mem_cons, List.not_mem_nil, not_or, or_false] at hA
  unfold State.rxChunk
  simp [hA, view_ite, view_bump, view_rxDrop, view_sendNak, view_rxPacket, view_rxAccept, view_headerMismatch,
      view_chunkTaken]

theorem view_chunkArrives (hA : ar ∉ [Area.sent, Area.free, Area.flash, Area.objects, Area.notices, Area.log,
    Area.looms, Area.stackCtl, Area.hbm, Area.poison, Area.links, Area.held, Area.parts, Area.queues, Area.loops,
    Area.counters]) (s : State) (p : Fin 4) (type : Nat) (c : Chunk) (cmd : Instr) : view ar (State.chunkArrives s p
    type c cmd) = view ar s := by
  simp only [List.mem_cons, List.not_mem_nil, not_or, or_false] at hA
  unfold State.chunkArrives
  exact view_pktArrives (by simp [hA]) s p _ _ cmd _ (fun t => by simp [hA, view_rxChunk])

theorem view_sendEntry (hA : ar ∉ [Area.sent, Area.free, Area.flash, Area.objects, Area.notices, Area.log,
    Area.looms, Area.stackCtl, Area.hbm, Area.poison, Area.links, Area.parts, Area.queues, Area.loops, Area.counters])
    (s : State) (p : Nat) (e : SendEnt) (w : WindowEnt) : view ar (State.sendEntry s p e w) = view ar s := by
  simp only [List.mem_cons, List.not_mem_nil, not_or, or_false] at hA
  unfold State.sendEntry
  simp [hA, view_ite, view_foldl, view_consumePoison, view_countRead, view_postToWindow]

theorem view_addMarker (hA : ar ∉ [Area.parts]) (s : State) (p : Nat) (m : Marker) : view ar (State.addMarker s p m)
    = view ar s := by
  simp only [List.mem_cons, List.not_mem_nil, or_false] at hA
  unfold State.addMarker
  simp [hA, view_modPart]

theorem view_commitLoops (hA : ar ∉ [Area.loops]) (s : State) (p : Nat) : view ar (State.commitLoops s p) = view ar
    s := by
  simp only [List.mem_cons, List.not_mem_nil, or_false] at hA
  unfold State.commitLoops
  simp [hA, view_foldl, view_setCloop]

theorem view_commitStep (hA : ar ∉ [Area.sent, Area.free, Area.objects, Area.notices, Area.log, Area.parts,
    Area.queues, Area.loops]) (s : State) (p : Nat) : view ar (State.commitStep s p) = view ar s := by
  simp only [List.mem_cons, List.not_mem_nil, not_or, or_false] at hA
  unfold State.commitStep
  simp [hA, view_ite, view_modPart, view_setObj, view_bump, view_setExState, view_raisePart, view_haltAtBoundary,
      view_commitLoops]

theorem view_commitCheck (hA : ar ∉ [Area.sent, Area.free, Area.objects, Area.notices, Area.log, Area.parts,
    Area.queues, Area.loops]) (s : State) (p : Nat) : view ar (State.commitCheck s p) = view ar s := by
  simp only [List.mem_cons, List.not_mem_nil, not_or, or_false] at hA
  unfold State.commitCheck
  simp [hA, view_ite, view_commitStep]

theorem view_rxMarker (hA : ar ∉ [Area.sent, Area.free, Area.objects, Area.notices, Area.log, Area.links,
    Area.parts, Area.queues, Area.loops]) (s : State) (p kind : Nat) (k : PktHdr) (m : Word512) : view ar
    (State.rxMarker s p kind k m).1 = view ar s := by
  simp only [List.mem_cons, List.not_mem_nil, not_or, or_false] at hA
  unfold State.rxMarker
  simp [hA, view_traceHub, view_rxDrop, view_rxPacket, view_rxAccept, view_pair_ite]

theorem view_rxCommit (hA : ar ∉ [Area.sent, Area.free, Area.objects, Area.notices, Area.log, Area.links,
    Area.parts, Area.queues, Area.loops]) (s : State) (p : Fin 4) (h : PktHdr) (m : Word512) : view ar (State.rxCommit s
    p h m) = view ar s := by
  simp only [List.mem_cons, List.not_mem_nil, not_or, or_false] at hA
  unfold State.rxCommit
  simp [hA, view_ite, view_addMarker, view_commitCheck, view_rxMarker]

theorem view_lateAbort (hA : ar ∉ [Area.objects]) (s : State) (p : Nat) : view ar (State.lateAbort s p) = view ar s
    := by
  simp only [List.mem_cons, List.not_mem_nil, or_false] at hA
  unfold State.lateAbort
  simp [hA, view_foldl, view_bump]

theorem view_abortArrived (hA : ar ∉ [Area.sent, Area.free, Area.objects, Area.notices, Area.log, Area.looms,
    Area.links, Area.parts, Area.queues, Area.loops]) (s : State) (p st a cause r : Nat) : view ar (State.abortArrived s
    p st a cause r) = view ar s := by
  simp only [List.mem_cons, List.not_mem_nil, not_or, or_false] at hA
  unfold State.abortArrived
  simp [hA, view_ite, view_modPart, view_handleAbort, view_lateAbort]

theorem view_rxAbort (hA : ar ∉ [Area.sent, Area.free, Area.objects, Area.notices, Area.log, Area.looms, Area.links,
    Area.parts, Area.queues, Area.loops]) (s : State) (p : Fin 4) (h : PktHdr) (m : Word512) : view ar (State.rxAbort s
    p h m) = view ar s := by
  simp only [List.mem_cons, List.not_mem_nil, not_or, or_false] at hA
  unfold State.rxAbort
  simp [hA, view_ite, view_rxMarker, view_abortArrived]

theorem view_svcTaken (hA : ar ∉ [Area.sent, Area.free, Area.objects, Area.notices, Area.log, Area.links,
    Area.parts, Area.queues, Area.loops]) (s : State) (p : Nat) (w : SvcReq) (n : Nat) : view ar (State.svcTaken s p w
    n).1 = view ar s := by
  simp only [List.mem_cons, List.not_mem_nil, not_or, or_false] at hA
  unfold State.svcTaken
  simp [hA, view_rxPacket, view_pair_ite]

theorem view_ringLand (hA : ar ∉ [Area.sent, Area.free, Area.flash, Area.objects, Area.notices, Area.log,
    Area.stackCtl, Area.hbm, Area.poison, Area.parts, Area.queues, Area.loops, Area.counters]) (s : State) (p r : Nat)
    (w : SvcReq) : view ar (State.ringLand s p r w) = view ar s := by
  simp only [List.mem_cons, List.not_mem_nil, not_or, or_false] at hA
  unfold State.ringLand
  simp [hA, view_modPart, view_writeRegion]

theorem view_ringDone (hA : ar ∉ [Area.parts]) (s : State) (p r e n : Nat) : view ar (State.ringDone s p r e n) =
    view ar s := by
  simp only [List.mem_cons, List.not_mem_nil, or_false] at hA
  unfold State.ringDone
  simp [hA, view_modPart]

theorem view_rxServiceWrite (hA : ar ∉ [Area.sent, Area.free, Area.flash, Area.objects, Area.notices, Area.log,
    Area.stackCtl, Area.hbm, Area.poison, Area.links, Area.parts, Area.queues, Area.loops, Area.counters]) (s : State)
    (p : Fin 4) (w : SvcReq) : view ar (State.rxServiceWrite s p w) = view ar s := by
  simp only [List.mem_cons, List.not_mem_nil, not_or, or_false] at hA
  have h1 := view_svcTaken (ar := ar) (by simp [hA]) s p w (packetsOf w.data.length)
  unfold State.rxServiceWrite
  simp only
  split
  · rename_i he; rw [he] at h1; exact h1
  · rename_i he; rw [he] at h1
    (repeat' split) <;> simpa [hA, view_svcRefuse, view_rxAccept, view_ringLand, view_writeRegion] using h1

theorem view_rxRingFill (hA : ar ∉ [Area.sent, Area.free, Area.flash, Area.objects, Area.notices, Area.log,
    Area.stackCtl, Area.hbm, Area.poison, Area.links, Area.parts, Area.queues, Area.loops, Area.counters]) (s : State)
    (p : Fin 4) (w : SvcReq) (imm : BitVec 32) : view ar (State.rxRingFill s p w imm) = view ar s := by
  simp only [List.mem_cons, List.not_mem_nil, not_or, or_false] at hA
  have h1 := view_svcTaken (ar := ar) (by simp [hA]) s p w (packetsOf w.data.length)
  unfold State.rxRingFill
  simp only
  split
  · rename_i he; rw [he] at h1; exact h1
  · rename_i he; rw [he] at h1
    (repeat' split) <;> simpa [hA, view_svcRefuse, view_rxAccept, view_ringLand, view_ringDone] using h1

theorem view_rxReadRequest (hA : ar ∉ [Area.sent, Area.free, Area.flash, Area.objects, Area.notices, Area.log,
    Area.looms, Area.stackCtl, Area.hbm, Area.poison, Area.links, Area.parts, Area.queues, Area.loops, Area.counters])
    (s : State) (p : Fin 4) (w : SvcReq) : view ar (State.rxReadRequest s p w) = view ar s := by
  simp only [List.mem_cons, List.not_mem_nil, not_or, or_false] at hA
  have h1 := view_svcTaken (ar := ar) (by simp [hA]) s p w 1
  unfold State.rxReadRequest
  simp only
  split
  · rename_i he; rw [he] at h1; exact h1
  · rename_i he; rw [he] at h1
    (repeat' split) <;> simpa [hA, view_svcRefuse, view_rxTaken, view_countRead, view_sendRead, view_consumePoison]
        using h1

theorem view_vecStore (hA : ar ∉ [Area.sent, Area.free, Area.objects, Area.notices, Area.log, Area.looms,
    Area.links, Area.parts, Area.queues, Area.loops]) (s : State) (l : LoomId) (d : Word512) (x : Loom) (w : Nat) (b :
    Bytes) (origins : List Nat) : view ar (State.vecStore s l d x w b origins) = view ar s := by
  simp only [List.mem_cons, List.not_mem_nil, not_or, or_false] at hA
  unfold State.vecStore
  simp [hA, view_setLoom, view_loomPoison]

theorem view_vecConvert (hA : ar ∉ [Area.sent, Area.free, Area.objects, Area.notices, Area.log, Area.looms,
    Area.links, Area.parts, Area.queues, Area.loops]) (s : State) (l : LoomId) (d : Word512) (vals : List Val) (origins
    : List Nat) : view ar (State.vecConvert s l d vals origins) = view ar s := by
  simp only [List.mem_cons, List.not_mem_nil, not_or, or_false] at hA
  unfold State.vecConvert
  simp [hA, view_vecStore]

theorem view_vecMask (hA : ar ∉ [Area.sent, Area.free, Area.objects, Area.notices, Area.log, Area.looms, Area.links,
    Area.parts, Area.queues, Area.loops]) (s : State) (l : LoomId) (d : Word512) (m origins : List Nat) : view ar
    (State.vecMask s l d m origins) = view ar s := by
  simp only [List.mem_cons, List.not_mem_nil, not_or, or_false] at hA
  unfold State.vecMask
  simp [hA, view_vecStore]

theorem view_vecWide (hA : ar ∉ [Area.sent, Area.free, Area.objects, Area.notices, Area.log, Area.looms, Area.links,
    Area.parts, Area.queues, Area.loops]) (s : State) (l : LoomId) (d : Word512) (a : List A96) (origins : List Nat) :
    view ar (State.vecWide s l d a origins) = view ar s := by
  simp only [List.mem_cons, List.not_mem_nil, not_or, or_false] at hA
  unfold State.vecWide
  simp [hA, view_overflows, view_vecStore]

theorem view_vecT32 (hA : ar ∉ [Area.sent, Area.free, Area.objects, Area.notices, Area.log, Area.looms, Area.links,
    Area.parts, Area.queues, Area.loops]) (s : State) (l : LoomId) (d : Word512) (origins : List Nat) : view ar
    (State.vecT32 s l d origins) = view ar s := by
  simp only [List.mem_cons, List.not_mem_nil, not_or, or_false] at hA
  unfold State.vecT32
  simp [hA, view_vecStore]

theorem view_vecVote (hA : ar ∉ [Area.sent, Area.free, Area.objects, Area.notices, Area.log, Area.looms, Area.links,
    Area.parts, Area.queues, Area.loops]) (s : State) (l : LoomId) (d : Word512) (origins : List Nat) : view ar
    (State.vecVote s l d origins) = view ar s := by
  simp only [List.mem_cons, List.not_mem_nil, not_or, or_false] at hA
  unfold State.vecVote
  simp [hA, view_vecStore]

theorem view_vectorOp (hA : ar ∉ [Area.sent, Area.free, Area.objects, Area.notices, Area.log, Area.quads, Area.looms, Area.links, Area.parts, Area.queues, Area.loops, Area.counters]) (s : State) (l : LoomId) (k : Nat) (hit : Option
    LoomHit) (f : Loom → Word512 → List Nat → State → State) (hf : ∀ x d n t, view ar (f x d n t) = view ar t) : view ar
    (s.vectorOp l k hit f) = view ar s := by
  simp only [List.mem_cons, List.not_mem_nil, not_or, or_false] at hA
  unfold State.vectorOp
  refine view_descriptor (by simp [hA]) s l _ _ _ (fun t d => ?_)
  split
  · rfl
  · split
    · simp [hA, view_reject]
    · simp [hf, hA, view_toUnit, view_found]

theorem view_vectorVals (hA : ar ∉ [Area.sent, Area.free, Area.objects, Area.notices, Area.log, Area.quads, Area.looms, Area.links, Area.parts, Area.queues, Area.loops, Area.counters]) (s : State) (l : LoomId) (vop : Nat) (hit : Option
    LoomHit) (f : Loom → Word512 → List Val) : view ar (State.vectorVals s l vop hit f) = view ar s := by
  simp only [List.mem_cons, List.not_mem_nil, not_or, or_false] at hA
  unfold State.vectorVals
  exact view_vectorOp (by simp [hA]) s l _ _ _ (fun x d n t => by simp [hA, view_vecConvert])

theorem view_runHeld (hA : ar ∉ [Area.sent, Area.free, Area.sensors, Area.seal, Area.flash, Area.security,
    Area.objects, Area.notices, Area.log, Area.tests, Area.quads, Area.looms, Area.stackCtl, Area.hbm, Area.poison,
    Area.links, Area.held, Area.parts, Area.queues, Area.loops, Area.bridges, Area.counters]) (c : Instr) (s : State) :
    view ar (runHeld c s) = view ar s := by
  simp only [List.mem_cons, List.not_mem_nil, not_or, or_false] at hA
  unfold runHeld
  (repeat' split) <;> simp [hA, view_rxInit, view_rxFinish, view_rxCard, view_rxCipher, view_rxUnsupported,
      view_rxAck, view_rxNak, view_rxRnrNak, view_rxCnp, view_loadMessage, view_armMessage, view_startMessage,
      view_stepLimitMessage, view_checkpointMessage, view_haltMessage, view_queryMessage, view_fieldTestMessage,
      view_rxGreeting, view_rxChunk, view_rxCommit, view_rxAbort, view_rxServiceWrite, view_rxRingFill,
      view_rxReadRequest]

theorem view_takeHeld (hA : ar ∉ [Area.sent, Area.free, Area.sensors, Area.seal, Area.flash, Area.security, Area.objects, Area.notices, Area.log, Area.tests, Area.quads, Area.looms, Area.stackCtl, Area.hbm, Area.poison, Area.links, Area.held, Area.parts, Area.queues, Area.loops, Area.bridges, Area.counters]) (s : State) (h : HeldPacket) : view ar (State.takeHeld s h) = view ar s := by
  simp only [List.mem_cons, List.not_mem_nil, not_or, or_false] at hA
  unfold State.takeHeld
  simp [hA, view_upd_macTime, view_runHeld, view_unhold]

theorem view_idle (hA : ar ∉ [Area.sent, Area.free, Area.time, Area.phase, Area.sensors, Area.seal, Area.flash,
    Area.security, Area.objects, Area.notices, Area.log, Area.tests, Area.quads, Area.looms, Area.stackCtl, Area.hbm,
    Area.poison, Area.links, Area.held, Area.parts, Area.queues, Area.loops, Area.bridges, Area.counters]) (s : State) :
    view ar (State.idle s) = view ar s := by
  simp only [List.mem_cons, List.not_mem_nil, not_or, or_false] at hA
  unfold State.idle
  (repeat' split) <;> simp [hA, view_idleTick, view_resumeEnds, view_placeWaiting, view_takeHeld]

end Sys2Proof.Machine
end

