-- ==== Sys2Proof/Laws/Journal.lean ====
section
/-! SUPPORT. The leaf journal: the scan of a record that the device writes (13 R313). -/

namespace Sys2Proof.Machine

open Sys2Proof

/-- The scan stops at an erased slot. -/
theorem bootLeaves_erased (j : SMap (BitVec 256)) (n slot nxt : Nat) (hn : n ≠ 0)
    (h : SMap.get (BitVec.allOnes 256) j slot = BitVec.allOnes 256) : bootLeaves j n slot nxt = (nxt, slot) := by
  cases n with
  | zero => exact absurd rfl hn
  | succ n => simp only [bootLeaves, h, if_true]

/-- The scan passes a written slot. -/
theorem bootLeaves_written (j : SMap (BitVec 256)) (n slot nxt : Nat) (hn : n ≠ 0)
    (h : SMap.get (BitVec.allOnes 256) j slot ≠ BitVec.allOnes 256) :
    bootLeaves j n slot nxt = bootLeaves j (n - 1) (slot + 1)
      (match journalEnd slot (SMap.get (BitVec.allOnes 256) j slot) with | some e => Nat.max nxt e | none => nxt) := by
  cases n with
  | zero => exact absurd rfl hn
  | succ n => simp only [bootLeaves, h, if_false, Nat.add_sub_cancel] <;> rfl

/-- Parts of a number m·p + 64 below w. -/
theorem record_parts (p q w m z : Nat) (hz : z = 0) (hw : p * q ≤ w) (hm : m < q) (hp : 64 < p) :
    (m * p + z + 64) % w / p % q = m ∧ (m * p + z + 64) % w % p = 64 := by
  have e : m * p + z + 64 = p * m + 64 := by subst hz; rw [Nat.mul_comm, Nat.add_zero]
  have l : p * m + 64 < w := by
    have h1 : p * (m + 1) ≤ p * q := Nat.mul_le_mul_left _ hm
    rw [Nat.mul_succ] at h1
    omega
  rw [e, Nat.mod_eq_of_lt l]
  constructor
  · rw [Nat.mul_add_div (by omega), Nat.div_eq_of_lt hp, Nat.add_zero, Nat.mod_eq_of_lt hm]
  · rw [Nat.mul_add_mod, Nat.mod_eq_of_lt hp]

theorem field_mac (x : Nat) : field x 191 64 = x / 2 ^ 64 % 2 ^ 128 := rfl
theorem field_low (x : Nat) : field x 63 0 = x % 2 ^ 64 := by simp [field]
theorem field_slot (x : Nat) : field x 63 32 = x % 2 ^ 64 / 2 ^ 32 := by unfold field; omega
theorem field_end (x : Nat) : field x 31 0 = x % 2 ^ 64 % 2 ^ 32 := by unfold field; omega

theorem record_arg : (64 + 0 * 2 ^ 32 : Nat) = 64 := by decide

/-- The number that a record spells. -/
theorem journalRecord_toNat (e n : Nat) : (journalRecord e n).toNat =
    ((Config.journalMac (e + n * 2 ^ 32)).toNat * 2 ^ 64 + n * 2 ^ 32 + e) % 2 ^ 256 := by
  unfold journalRecord
  exact BitVec.toNat_ofNat _ _

/-- The parts of the first record of 64 leaves: its MAC, and its slot with its end leaf. -/
theorem journalRecord_parts :
    (journalRecord 64 0).toNat / 2 ^ 64 % 2 ^ 128 = (Config.journalMac 64).toNat ∧ (journalRecord 64 0).toNat % 2 ^ 64 = 64 := by
  have hm := (Config.journalMac 64).isLt
  have t := journalRecord_toNat 64 0
  rw [record_arg] at t
  rw [t]
  generalize (Config.journalMac 64).toNat = m at hm ⊢
  exact record_parts (2 ^ 64) (2 ^ 128) (2 ^ 256) m (0 * 2 ^ 32) (Nat.zero_mul _) (by decide +kernel) hm (by decide +kernel)

/-- A record that the device wrote for its first 64 leaves is valid. -/
theorem journalEnd_record : journalEnd 0 (journalRecord 64 0) = some 64 := by
  have h := journalRecord_parts
  unfold journalEnd
  rw [field_mac, field_low, field_slot, field_end, h.1, h.2, BitVec.ofNat_toNat, BitVec.setWidth_eq, if_pos ⟨rfl, by decide +kernel⟩] <;> decide +kernel

/-- That record is not an erased slot. -/
theorem journalRecord_written : journalRecord 64 0 ≠ BitVec.allOnes 256 := by
  intro e
  have h := journalEnd_record
  rw [e] at h
  unfold journalEnd at h
  rw [if_neg (fun g => absurd g.2 (by decide +kernel))] at h
  cases h

end Sys2Proof.Machine
end

