-- ==== Sys2Proof/Laws/Memory.lean ====
section
/-! SUPPORT. Bytes of memory: reading after writing, and that every operation on memory keeps the canonical form. -/

namespace Sys2Proof

section
variable {m : List Host.Cell} {b : Bytes} {a k : Nat}

theorem wf_putBytes (h : SMap.wf 0 m) : SMap.wf 0 (putBytes m a b) := by
  induction b generalizing m a with
  | nil => exact h
  | cons x t ih => exact ih (SMap.wf_set h)

/-- A write leaves every byte outside its range. -/
theorem get_putBytes_outside (h : k < a ∨ a + b.length ≤ k) : SMap.get 0 (putBytes m a b) k = SMap.get 0 m k := by
  induction b generalizing m a with
  | nil => rfl
  | cons x t ih =>
    simp only [List.length_cons] at h
    rw [putBytes, ih (by omega), SMap.get_set_other (by omega)]

/-- A write gives every byte in its range. -/
theorem get_putBytes_inside (i : Nat) (h : i < b.length) : SMap.get 0 (putBytes m a b) (a + i) = b[i] := by
  induction b generalizing m a i with
  | nil => exact absurd h (Nat.not_lt_zero _)
  | cons x t ih =>
    cases i with
    | zero => rw [putBytes, get_putBytes_outside (by omega), Nat.add_zero, SMap.get_set_same]; rfl
    | succ i =>
      have := ih (m := SMap.set 0 m a x) (a := a + 1) i (by simpa using h)
      rw [putBytes, show a + (i + 1) = a + 1 + i by omega, this]; rfl

theorem getBytes_putBytes : getBytes (putBytes m a b) a b.length = b := by
  apply List.ext_getElem
  · simp [getBytes]
  · intro i h1 h2
    simp only [getBytes, List.getElem_map, List.getElem_range]
    exact get_putBytes_inside i h2

theorem wf_foldl {α : Type} (f : List Host.Cell → α → List Host.Cell) (l : List α)
    (hf : ∀ m x, SMap.wf 0 m → SMap.wf 0 (f m x)) (h : SMap.wf 0 m) : SMap.wf 0 (l.foldl f m) := by
  induction l generalizing m with
  | nil => exact h
  | cons x t ih => exact ih (hf m x h)

end

namespace Machine

/-! ### The stacks -/

theorem hbm_moved (s : State) (k w n : Nat) : (s.moved k w n).hbm = s.hbm := rfl

theorem hbm_storeWord (s : State) (k w o : Nat) (b : Bytes) (p : Bool) :
    (s.storeWord k w o b p).hbm = putBytes s.hbm (hbmKey k (64 * w + o)) b := by
  unfold State.storeWord
  simp only [hbm_moved]
  split <;> rfl

theorem wf_storeWord (s : State) (k w o : Nat) (b : Bytes) (p : Bool) (h : Memory.wf s.hbm) :
    Memory.wf (s.storeWord k w o b p).hbm := by
  rw [hbm_storeWord]; exact wf_putBytes h

/-- An operation that does not name the stacks' bytes keeps their form. -/
theorem wf_of_view {s t : State} (h : Memory.wf s.hbm) (he : view .hbm t = view .hbm s) : Memory.wf t.hbm := by
  have he : t.hbm = s.hbm := he
  rw [he]; exact h

theorem wf_stateFold {α : Type} (f : State → α → State) (hf : ∀ t x, Memory.wf t.hbm → Memory.wf (f t x).hbm) (l : List α)
    (s : State) (h : Memory.wf s.hbm) : Memory.wf (l.foldl f s).hbm := by
  induction l generalizing s with
  | nil => exact h
  | cons x t ih => exact ih _ (hf s x h)

theorem wf_serveOne (s : State) (k : Nat) (r : HbmReq) (h : Memory.wf s.hbm) : Memory.wf (s.serveOne k r).hbm := by
  unfold State.serveOne
  have hc : ∀ t : State, ∀ i, Memory.wf t.hbm → Memory.wf (t.freeCredit i).hbm :=
    fun t i ht => wf_of_view ht (view_freeCredit (by simp) t i)
  simp only
  split
  · split <;> exact wf_storeWord _ _ _ _ _ _ (hc _ _ (hc _ _ h))
  · refine wf_of_view (hc s (loopId 1 (s.partOfStack k) k) h) ?_
    simp [view_emit, view_pad, view_moved, view_ite, view_bump, view_checkWord]

theorem wf_serveReady (s : State) (k : Nat) (h : Memory.wf s.hbm) : Memory.wf (s.serveReady k).hbm := by
  unfold State.serveReady
  refine wf_stateFold _ (fun t r ht => wf_serveOne t k r ht) _ _ (wf_of_view h ?_)
  simp [view_setStack, view_serveWriteBacks, view_serveRefresh]

theorem wf_grant (s : State) (k n : Nat) (h : Memory.wf s.hbm) : Memory.wf (s.grant k n).hbm :=
  wf_of_view h (view_grant (by simp) s k n)

theorem wf_serveAsking (s : State) (k : Nat) (h : Memory.wf s.hbm) : Memory.wf (s.serveAsking k).hbm := by
  unfold State.serveAsking
  dsimp only
  split
  · exact wf_serveReady _ k (wf_grant s k _ h)
  · exact wf_grant s k _ h

theorem wf_serveFirst (s : State) (k : Nat) (h : Memory.wf s.hbm) : Memory.wf (s.serveFirst k).hbm := by
  unfold State.serveFirst
  split
  · exact wf_serveReady s k h
  · exact h

theorem wf_writeWord (s : State) (who : Requester) (k w o : Nat) (b : Bytes) (p : Bool) (h : Memory.wf s.hbm) :
    Memory.wf (s.writeWord who k w o b p).hbm :=
  wf_storeWord _ _ _ _ _ _ (wf_of_view (wf_serveFirst s k h) (view_crossTo (by simp) _ _ _ _))

theorem wf_writeTagged (s : State) (who : Requester) (p i off : Nat) (b : Bytes) (bad : Nat → Nat → Bool)
    (h : Memory.wf s.hbm) : Memory.wf (s.writeTagged who p i off b bad).hbm :=
  wf_stateFold _ (fun t c ht => wf_writeWord t _ _ _ _ _ _ ht) _ _ h

theorem wf_writeRegion (s : State) (who : Requester) (p i off : Nat) (b : Bytes) (poison : Bool) (h : Memory.wf s.hbm) :
    Memory.wf (s.writeRegion who p i off b poison).hbm := wf_writeTagged _ _ _ _ _ _ _ h

theorem wf_setEphRow (s : State) (p step t : Nat) (r : EphRow) (h : Memory.wf s.hbm) :
    Memory.wf (s.setEphRow p step t r).hbm := wf_writeRegion _ _ _ _ _ _ _ h

theorem wf_clearHbm (s : State) (p : Nat → Bool) (h : Memory.wf s.hbm) : Memory.wf (s.clearHbm p).hbm := by
  unfold State.clearHbm Memory.wf
  exact SMap.wf_drop (fun a => p (a / 2 ^ 36)) h

theorem wf_katScratch (s : State) (h : Memory.wf s.hbm) : Memory.wf s.katScratch.hbm := by
  unfold State.katScratch Memory.wf
  dsimp only
  exact SMap.wf_drop _ h

/-! ### The looms -/

theorem wf_put (x : Loom) (a : Nat) (b : Bytes) (origin : Nat) (h : Memory.wf x.mem) : Memory.wf (x.put a b origin).mem :=
  wf_putBytes h

theorem wf_place (x : Loom) (sec off : Nat) (b : Bytes) (h : Memory.wf x.mem) : Memory.wf (x.place sec off b).mem := by
  unfold Loom.place
  repeat' split
  all_goals first | exact h | exact wf_putBytes h

theorem wf_tested (x : Loom) (n : Nat) : Memory.wf (x.tested n).mem := by
  unfold Memory.wf Loom.tested
  dsimp only
  generalize List.range 1048576 = l
  exact wf_foldl _ _ (fun _ _ h => SMap.wf_set h) rfl

theorem wf_init : Memory.wf Loom.init.mem := rfl

/-- Reset: the stacks and every loom list nothing. -/
theorem reset_memoryCanonical : Memory.wf State.reset.hbm = true ∧ ∀ l : LoomId, Memory.wf (State.reset.loom l).mem = true :=
  ⟨rfl, fun _ => rfl⟩

end Machine

end Sys2Proof
end

