-- ==== Sys2Proof/Laws/Objects.lean ====
section
/-! SUPPORT. Reading a family or an object after writing one: the same place gives the value written, every other place and
every other family is as before. -/

namespace Sys2Proof.Machine

open Sys2Proof

variable (s : State)

@[simp] theorem part_setPart_same (p : Nat) (x : Part) : (s.setPart p x).part p = x := SMap.get_set_same

theorem part_setPart_other {p j : Nat} (h : j ≠ p) (x : Part) : (s.setPart p x).part j = s.part j :=
  SMap.get_set_other h

@[simp] theorem quad_setQuad_same (q : Nat) (x : Quad) : (s.setQuad q x).quad q = x := SMap.get_set_same

theorem quad_setQuad_other {q j : Nat} (h : j ≠ q) (x : Quad) : (s.setQuad q x).quad j = s.quad j :=
  SMap.get_set_other h

@[simp] theorem stack_setStack_same (k : Nat) (x : Stack) : (s.setStack k x).stack k = x := SMap.get_set_same

theorem stack_setStack_other {k j : Nat} (h : j ≠ k) (x : Stack) : (s.setStack k x).stack j = s.stack j :=
  SMap.get_set_other h

@[simp] theorem link_setLink_same (k : Nat) (x : Link) : (s.setLink k x).link k = x := SMap.get_set_same

theorem link_setLink_other {k j : Nat} (h : j ≠ k) (x : Link) : (s.setLink k x).link j = s.link j :=
  SMap.get_set_other h

@[simp] theorem node_setNode_same (n : Nat) (x : Node) : (s.setNode n x).node n = x := SMap.get_set_same

theorem node_setNode_other {n j : Nat} (h : j ≠ n) (x : Node) : (s.setNode n x).node j = s.node j :=
  SMap.get_set_other h

@[simp] theorem dcq_setDcq_same (q : Nat) (x : Dcq) : (s.setDcq q x).dcq q = x := SMap.get_set_same

theorem dcq_setDcq_other {q j : Nat} (h : j ≠ q) (x : Dcq) : (s.setDcq q x).dcq j = s.dcq j :=
  SMap.get_set_other h

@[simp] theorem cloop_setCloop_same (l : Nat) (x : CLoop) : (s.setCloop l x).cloop l = x := SMap.get_set_same

theorem cloop_setCloop_other {l j : Nat} (h : j ≠ l) (x : CLoop) : (s.setCloop l x).cloop j = s.cloop j :=
  SMap.get_set_other h

@[simp] theorem source_setSource_same (n : Nat) (x : Source) : (s.setSource n x).source n = x := SMap.get_set_same

theorem source_setSource_other {n j : Nat} (h : j ≠ n) (x : Source) : (s.setSource n x).source j = s.source j :=
  SMap.get_set_other h

@[simp] theorem steward_setSteward_same (m : Nat) (x : Steward) : (s.setSteward m x).steward m = x := SMap.get_set_same

theorem steward_setSteward_other {m j : Nat} (h : j ≠ m) (x : Steward) : (s.setSteward m x).steward j = s.steward j :=
  SMap.get_set_other h

@[simp] theorem loom_setLoom_same (l : LoomId) (x : Loom) : (s.setLoom l x).loom l = x := SMap.get_set_same

theorem loomKey_inj {l m : LoomId} (h : loomKey l = loomKey m) : l = m := by
  obtain ⟨⟨q, hq⟩, ⟨r, hr⟩, ⟨c, hc⟩⟩ := l
  obtain ⟨⟨q', hq'⟩, ⟨r', hr'⟩, ⟨c', hc'⟩⟩ := m
  simp only [loomKey] at h
  simp only [LoomId.mk.injEq, Fin.mk.injEq]
  omega

theorem loom_setLoom_other {l m : LoomId} (h : m ≠ l) (x : Loom) : (s.setLoom l x).loom m = s.loom m :=
  SMap.get_set_other (fun e => h (loomKey_inj e))

@[simp] theorem obj_setObj_same (r v : Nat) : (s.setObj r v).obj r = v % 256 ^ objSize r := SMap.get_set_same

theorem obj_setObj_other {r j : Nat} (h : j ≠ r) (v : Nat) : (s.setObj r v).obj j = s.obj j := SMap.get_set_other h

@[simp] theorem live_setLive_same (r v : Nat) : (s.setLive r v).live r = v % 256 ^ objSize r := SMap.get_set_same

theorem live_setLive_other {r j : Nat} (h : j ≠ r) (v : Nat) : (s.setLive r v).live j = s.live j := SMap.get_set_other h

@[simp] theorem part_setQuad (q : Nat) (x : Quad) (j : Nat) : (s.setQuad q x).part j = s.part j := rfl
@[simp] theorem part_setStack (k : Nat) (x : Stack) (j : Nat) : (s.setStack k x).part j = s.part j := rfl
@[simp] theorem part_setLink (k : Nat) (x : Link) (j : Nat) : (s.setLink k x).part j = s.part j := rfl
@[simp] theorem part_setNode (n : Nat) (x : Node) (j : Nat) : (s.setNode n x).part j = s.part j := rfl
@[simp] theorem part_setDcq (q : Nat) (x : Dcq) (j : Nat) : (s.setDcq q x).part j = s.part j := rfl
@[simp] theorem part_setCloop (l : Nat) (x : CLoop) (j : Nat) : (s.setCloop l x).part j = s.part j := rfl
@[simp] theorem part_setSource (n : Nat) (x : Source) (j : Nat) : (s.setSource n x).part j = s.part j := rfl
@[simp] theorem part_setSteward (m : Nat) (x : Steward) (j : Nat) : (s.setSteward m x).part j = s.part j := rfl
@[simp] theorem part_setLoom (l : LoomId) (x : Loom) (j : Nat) : (s.setLoom l x).part j = s.part j := rfl
@[simp] theorem part_setObj (r v : Nat) (j : Nat) : (s.setObj r v).part j = s.part j := rfl
@[simp] theorem part_setLive (r v : Nat) (j : Nat) : (s.setLive r v).part j = s.part j := rfl
@[simp] theorem part_emit (o : Out) (j : Nat) : (s.emit o).part j = s.part j := rfl
@[simp] theorem part_bump (r v : Nat) (j : Nat) : (s.bump r v).part j = s.part j := rfl

@[simp] theorem quad_setPart (p : Nat) (x : Part) (j : Nat) : (s.setPart p x).quad j = s.quad j := rfl
@[simp] theorem quad_setStack (k : Nat) (x : Stack) (j : Nat) : (s.setStack k x).quad j = s.quad j := rfl
@[simp] theorem quad_setLink (k : Nat) (x : Link) (j : Nat) : (s.setLink k x).quad j = s.quad j := rfl
@[simp] theorem quad_setNode (n : Nat) (x : Node) (j : Nat) : (s.setNode n x).quad j = s.quad j := rfl
@[simp] theorem quad_setDcq (q : Nat) (x : Dcq) (j : Nat) : (s.setDcq q x).quad j = s.quad j := rfl
@[simp] theorem quad_setCloop (l : Nat) (x : CLoop) (j : Nat) : (s.setCloop l x).quad j = s.quad j := rfl
@[simp] theorem quad_setSource (n : Nat) (x : Source) (j : Nat) : (s.setSource n x).quad j = s.quad j := rfl
@[simp] theorem quad_setSteward (m : Nat) (x : Steward) (j : Nat) : (s.setSteward m x).quad j = s.quad j := rfl
@[simp] theorem quad_setLoom (l : LoomId) (x : Loom) (j : Nat) : (s.setLoom l x).quad j = s.quad j := rfl
@[simp] theorem quad_setObj (r v : Nat) (j : Nat) : (s.setObj r v).quad j = s.quad j := rfl
@[simp] theorem quad_setLive (r v : Nat) (j : Nat) : (s.setLive r v).quad j = s.quad j := rfl
@[simp] theorem quad_emit (o : Out) (j : Nat) : (s.emit o).quad j = s.quad j := rfl
@[simp] theorem quad_modPart (p : Nat) (f : Part → Part) (j : Nat) : (s.modPart p f).quad j = s.quad j := rfl
@[simp] theorem quad_bump (r v : Nat) (j : Nat) : (s.bump r v).quad j = s.quad j := rfl

@[simp] theorem stack_setPart (p : Nat) (x : Part) (j : Nat) : (s.setPart p x).stack j = s.stack j := rfl
@[simp] theorem stack_setQuad (q : Nat) (x : Quad) (j : Nat) : (s.setQuad q x).stack j = s.stack j := rfl
@[simp] theorem stack_setLink (k : Nat) (x : Link) (j : Nat) : (s.setLink k x).stack j = s.stack j := rfl
@[simp] theorem stack_setNode (n : Nat) (x : Node) (j : Nat) : (s.setNode n x).stack j = s.stack j := rfl
@[simp] theorem stack_setDcq (q : Nat) (x : Dcq) (j : Nat) : (s.setDcq q x).stack j = s.stack j := rfl
@[simp] theorem stack_setCloop (l : Nat) (x : CLoop) (j : Nat) : (s.setCloop l x).stack j = s.stack j := rfl
@[simp] theorem stack_setSource (n : Nat) (x : Source) (j : Nat) : (s.setSource n x).stack j = s.stack j := rfl
@[simp] theorem stack_setSteward (m : Nat) (x : Steward) (j : Nat) : (s.setSteward m x).stack j = s.stack j := rfl
@[simp] theorem stack_setLoom (l : LoomId) (x : Loom) (j : Nat) : (s.setLoom l x).stack j = s.stack j := rfl
@[simp] theorem stack_setObj (r v : Nat) (j : Nat) : (s.setObj r v).stack j = s.stack j := rfl
@[simp] theorem stack_setLive (r v : Nat) (j : Nat) : (s.setLive r v).stack j = s.stack j := rfl
@[simp] theorem stack_emit (o : Out) (j : Nat) : (s.emit o).stack j = s.stack j := rfl
@[simp] theorem stack_modPart (p : Nat) (f : Part → Part) (j : Nat) : (s.modPart p f).stack j = s.stack j := rfl
@[simp] theorem stack_bump (r v : Nat) (j : Nat) : (s.bump r v).stack j = s.stack j := rfl

@[simp] theorem link_setPart (p : Nat) (x : Part) (j : Nat) : (s.setPart p x).link j = s.link j := rfl
@[simp] theorem link_setQuad (q : Nat) (x : Quad) (j : Nat) : (s.setQuad q x).link j = s.link j := rfl
@[simp] theorem link_setStack (k : Nat) (x : Stack) (j : Nat) : (s.setStack k x).link j = s.link j := rfl
@[simp] theorem link_setNode (n : Nat) (x : Node) (j : Nat) : (s.setNode n x).link j = s.link j := rfl
@[simp] theorem link_setDcq (q : Nat) (x : Dcq) (j : Nat) : (s.setDcq q x).link j = s.link j := rfl
@[simp] theorem link_setCloop (l : Nat) (x : CLoop) (j : Nat) : (s.setCloop l x).link j = s.link j := rfl
@[simp] theorem link_setSource (n : Nat) (x : Source) (j : Nat) : (s.setSource n x).link j = s.link j := rfl
@[simp] theorem link_setSteward (m : Nat) (x : Steward) (j : Nat) : (s.setSteward m x).link j = s.link j := rfl
@[simp] theorem link_setLoom (l : LoomId) (x : Loom) (j : Nat) : (s.setLoom l x).link j = s.link j := rfl
@[simp] theorem link_setObj (r v : Nat) (j : Nat) : (s.setObj r v).link j = s.link j := rfl
@[simp] theorem link_setLive (r v : Nat) (j : Nat) : (s.setLive r v).link j = s.link j := rfl
@[simp] theorem link_emit (o : Out) (j : Nat) : (s.emit o).link j = s.link j := rfl
@[simp] theorem link_modPart (p : Nat) (f : Part → Part) (j : Nat) : (s.modPart p f).link j = s.link j := rfl
@[simp] theorem link_bump (r v : Nat) (j : Nat) : (s.bump r v).link j = s.link j := rfl

@[simp] theorem node_setPart (p : Nat) (x : Part) (j : Nat) : (s.setPart p x).node j = s.node j := rfl
@[simp] theorem node_setQuad (q : Nat) (x : Quad) (j : Nat) : (s.setQuad q x).node j = s.node j := rfl
@[simp] theorem node_setStack (k : Nat) (x : Stack) (j : Nat) : (s.setStack k x).node j = s.node j := rfl
@[simp] theorem node_setLink (k : Nat) (x : Link) (j : Nat) : (s.setLink k x).node j = s.node j := rfl
@[simp] theorem node_setDcq (q : Nat) (x : Dcq) (j : Nat) : (s.setDcq q x).node j = s.node j := rfl
@[simp] theorem node_setCloop (l : Nat) (x : CLoop) (j : Nat) : (s.setCloop l x).node j = s.node j := rfl
@[simp] theorem node_setSource (n : Nat) (x : Source) (j : Nat) : (s.setSource n x).node j = s.node j := rfl
@[simp] theorem node_setSteward (m : Nat) (x : Steward) (j : Nat) : (s.setSteward m x).node j = s.node j := rfl
@[simp] theorem node_setLoom (l : LoomId) (x : Loom) (j : Nat) : (s.setLoom l x).node j = s.node j := rfl
@[simp] theorem node_setObj (r v : Nat) (j : Nat) : (s.setObj r v).node j = s.node j := rfl
@[simp] theorem node_setLive (r v : Nat) (j : Nat) : (s.setLive r v).node j = s.node j := rfl
@[simp] theorem node_emit (o : Out) (j : Nat) : (s.emit o).node j = s.node j := rfl
@[simp] theorem node_modPart (p : Nat) (f : Part → Part) (j : Nat) : (s.modPart p f).node j = s.node j := rfl
@[simp] theorem node_bump (r v : Nat) (j : Nat) : (s.bump r v).node j = s.node j := rfl

@[simp] theorem dcq_setPart (p : Nat) (x : Part) (j : Nat) : (s.setPart p x).dcq j = s.dcq j := rfl
@[simp] theorem dcq_setQuad (q : Nat) (x : Quad) (j : Nat) : (s.setQuad q x).dcq j = s.dcq j := rfl
@[simp] theorem dcq_setStack (k : Nat) (x : Stack) (j : Nat) : (s.setStack k x).dcq j = s.dcq j := rfl
@[simp] theorem dcq_setLink (k : Nat) (x : Link) (j : Nat) : (s.setLink k x).dcq j = s.dcq j := rfl
@[simp] theorem dcq_setNode (n : Nat) (x : Node) (j : Nat) : (s.setNode n x).dcq j = s.dcq j := rfl
@[simp] theorem dcq_setCloop (l : Nat) (x : CLoop) (j : Nat) : (s.setCloop l x).dcq j = s.dcq j := rfl
@[simp] theorem dcq_setSource (n : Nat) (x : Source) (j : Nat) : (s.setSource n x).dcq j = s.dcq j := rfl
@[simp] theorem dcq_setSteward (m : Nat) (x : Steward) (j : Nat) : (s.setSteward m x).dcq j = s.dcq j := rfl
@[simp] theorem dcq_setLoom (l : LoomId) (x : Loom) (j : Nat) : (s.setLoom l x).dcq j = s.dcq j := rfl
@[simp] theorem dcq_setObj (r v : Nat) (j : Nat) : (s.setObj r v).dcq j = s.dcq j := rfl
@[simp] theorem dcq_setLive (r v : Nat) (j : Nat) : (s.setLive r v).dcq j = s.dcq j := rfl
@[simp] theorem dcq_emit (o : Out) (j : Nat) : (s.emit o).dcq j = s.dcq j := rfl
@[simp] theorem dcq_modPart (p : Nat) (f : Part → Part) (j : Nat) : (s.modPart p f).dcq j = s.dcq j := rfl
@[simp] theorem dcq_bump (r v : Nat) (j : Nat) : (s.bump r v).dcq j = s.dcq j := rfl

@[simp] theorem cloop_setPart (p : Nat) (x : Part) (j : Nat) : (s.setPart p x).cloop j = s.cloop j := rfl
@[simp] theorem cloop_setQuad (q : Nat) (x : Quad) (j : Nat) : (s.setQuad q x).cloop j = s.cloop j := rfl
@[simp] theorem cloop_setStack (k : Nat) (x : Stack) (j : Nat) : (s.setStack k x).cloop j = s.cloop j := rfl
@[simp] theorem cloop_setLink (k : Nat) (x : Link) (j : Nat) : (s.setLink k x).cloop j = s.cloop j := rfl
@[simp] theorem cloop_setNode (n : Nat) (x : Node) (j : Nat) : (s.setNode n x).cloop j = s.cloop j := rfl
@[simp] theorem cloop_setDcq (q : Nat) (x : Dcq) (j : Nat) : (s.setDcq q x).cloop j = s.cloop j := rfl
@[simp] theorem cloop_setSource (n : Nat) (x : Source) (j : Nat) : (s.setSource n x).cloop j = s.cloop j := rfl
@[simp] theorem cloop_setSteward (m : Nat) (x : Steward) (j : Nat) : (s.setSteward m x).cloop j = s.cloop j := rfl
@[simp] theorem cloop_setLoom (l : LoomId) (x : Loom) (j : Nat) : (s.setLoom l x).cloop j = s.cloop j := rfl
@[simp] theorem cloop_setObj (r v : Nat) (j : Nat) : (s.setObj r v).cloop j = s.cloop j := rfl
@[simp] theorem cloop_setLive (r v : Nat) (j : Nat) : (s.setLive r v).cloop j = s.cloop j := rfl
@[simp] theorem cloop_emit (o : Out) (j : Nat) : (s.emit o).cloop j = s.cloop j := rfl
@[simp] theorem cloop_modPart (p : Nat) (f : Part → Part) (j : Nat) : (s.modPart p f).cloop j = s.cloop j := rfl
@[simp] theorem cloop_bump (r v : Nat) (j : Nat) : (s.bump r v).cloop j = s.cloop j := rfl

@[simp] theorem source_setPart (p : Nat) (x : Part) (j : Nat) : (s.setPart p x).source j = s.source j := rfl
@[simp] theorem source_setQuad (q : Nat) (x : Quad) (j : Nat) : (s.setQuad q x).source j = s.source j := rfl
@[simp] theorem source_setStack (k : Nat) (x : Stack) (j : Nat) : (s.setStack k x).source j = s.source j := rfl
@[simp] theorem source_setLink (k : Nat) (x : Link) (j : Nat) : (s.setLink k x).source j = s.source j := rfl
@[simp] theorem source_setNode (n : Nat) (x : Node) (j : Nat) : (s.setNode n x).source j = s.source j := rfl
@[simp] theorem source_setDcq (q : Nat) (x : Dcq) (j : Nat) : (s.setDcq q x).source j = s.source j := rfl
@[simp] theorem source_setCloop (l : Nat) (x : CLoop) (j : Nat) : (s.setCloop l x).source j = s.source j := rfl
@[simp] theorem source_setSteward (m : Nat) (x : Steward) (j : Nat) : (s.setSteward m x).source j = s.source j := rfl
@[simp] theorem source_setLoom (l : LoomId) (x : Loom) (j : Nat) : (s.setLoom l x).source j = s.source j := rfl
@[simp] theorem source_setObj (r v : Nat) (j : Nat) : (s.setObj r v).source j = s.source j := rfl
@[simp] theorem source_setLive (r v : Nat) (j : Nat) : (s.setLive r v).source j = s.source j := rfl
@[simp] theorem source_emit (o : Out) (j : Nat) : (s.emit o).source j = s.source j := rfl
@[simp] theorem source_modPart (p : Nat) (f : Part → Part) (j : Nat) : (s.modPart p f).source j = s.source j := rfl
@[simp] theorem source_bump (r v : Nat) (j : Nat) : (s.bump r v).source j = s.source j := rfl

@[simp] theorem steward_setPart (p : Nat) (x : Part) (j : Nat) : (s.setPart p x).steward j = s.steward j := rfl
@[simp] theorem steward_setQuad (q : Nat) (x : Quad) (j : Nat) : (s.setQuad q x).steward j = s.steward j := rfl
@[simp] theorem steward_setStack (k : Nat) (x : Stack) (j : Nat) : (s.setStack k x).steward j = s.steward j := rfl
@[simp] theorem steward_setLink (k : Nat) (x : Link) (j : Nat) : (s.setLink k x).steward j = s.steward j := rfl
@[simp] theorem steward_setNode (n : Nat) (x : Node) (j : Nat) : (s.setNode n x).steward j = s.steward j := rfl
@[simp] theorem steward_setDcq (q : Nat) (x : Dcq) (j : Nat) : (s.setDcq q x).steward j = s.steward j := rfl
@[simp] theorem steward_setCloop (l : Nat) (x : CLoop) (j : Nat) : (s.setCloop l x).steward j = s.steward j := rfl
@[simp] theorem steward_setSource (n : Nat) (x : Source) (j : Nat) : (s.setSource n x).steward j = s.steward j := rfl
@[simp] theorem steward_setLoom (l : LoomId) (x : Loom) (j : Nat) : (s.setLoom l x).steward j = s.steward j := rfl
@[simp] theorem steward_setObj (r v : Nat) (j : Nat) : (s.setObj r v).steward j = s.steward j := rfl
@[simp] theorem steward_setLive (r v : Nat) (j : Nat) : (s.setLive r v).steward j = s.steward j := rfl
@[simp] theorem steward_emit (o : Out) (j : Nat) : (s.emit o).steward j = s.steward j := rfl
@[simp] theorem steward_modPart (p : Nat) (f : Part → Part) (j : Nat) : (s.modPart p f).steward j = s.steward j := rfl
@[simp] theorem steward_bump (r v : Nat) (j : Nat) : (s.bump r v).steward j = s.steward j := rfl

@[simp] theorem loom_setPart (p : Nat) (x : Part) (j : LoomId) : (s.setPart p x).loom j = s.loom j := rfl
@[simp] theorem loom_setQuad (q : Nat) (x : Quad) (j : LoomId) : (s.setQuad q x).loom j = s.loom j := rfl
@[simp] theorem loom_setStack (k : Nat) (x : Stack) (j : LoomId) : (s.setStack k x).loom j = s.loom j := rfl
@[simp] theorem loom_setLink (k : Nat) (x : Link) (j : LoomId) : (s.setLink k x).loom j = s.loom j := rfl
@[simp] theorem loom_setNode (n : Nat) (x : Node) (j : LoomId) : (s.setNode n x).loom j = s.loom j := rfl
@[simp] theorem loom_setDcq (q : Nat) (x : Dcq) (j : LoomId) : (s.setDcq q x).loom j = s.loom j := rfl
@[simp] theorem loom_setCloop (l : Nat) (x : CLoop) (j : LoomId) : (s.setCloop l x).loom j = s.loom j := rfl
@[simp] theorem loom_setSource (n : Nat) (x : Source) (j : LoomId) : (s.setSource n x).loom j = s.loom j := rfl
@[simp] theorem loom_setSteward (m : Nat) (x : Steward) (j : LoomId) : (s.setSteward m x).loom j = s.loom j := rfl
@[simp] theorem loom_setObj (r v : Nat) (j : LoomId) : (s.setObj r v).loom j = s.loom j := rfl
@[simp] theorem loom_setLive (r v : Nat) (j : LoomId) : (s.setLive r v).loom j = s.loom j := rfl
@[simp] theorem loom_emit (o : Out) (j : LoomId) : (s.emit o).loom j = s.loom j := rfl
@[simp] theorem loom_modPart (p : Nat) (f : Part → Part) (j : LoomId) : (s.modPart p f).loom j = s.loom j := rfl
@[simp] theorem loom_bump (r v : Nat) (j : LoomId) : (s.bump r v).loom j = s.loom j := rfl

@[simp] theorem obj_setPart (p : Nat) (x : Part) (j : Nat) : (s.setPart p x).obj j = s.obj j := rfl
@[simp] theorem obj_setQuad (q : Nat) (x : Quad) (j : Nat) : (s.setQuad q x).obj j = s.obj j := rfl
@[simp] theorem obj_setStack (k : Nat) (x : Stack) (j : Nat) : (s.setStack k x).obj j = s.obj j := rfl
@[simp] theorem obj_setLink (k : Nat) (x : Link) (j : Nat) : (s.setLink k x).obj j = s.obj j := rfl
@[simp] theorem obj_setNode (n : Nat) (x : Node) (j : Nat) : (s.setNode n x).obj j = s.obj j := rfl
@[simp] theorem obj_setDcq (q : Nat) (x : Dcq) (j : Nat) : (s.setDcq q x).obj j = s.obj j := rfl
@[simp] theorem obj_setCloop (l : Nat) (x : CLoop) (j : Nat) : (s.setCloop l x).obj j = s.obj j := rfl
@[simp] theorem obj_setSource (n : Nat) (x : Source) (j : Nat) : (s.setSource n x).obj j = s.obj j := rfl
@[simp] theorem obj_setSteward (m : Nat) (x : Steward) (j : Nat) : (s.setSteward m x).obj j = s.obj j := rfl
@[simp] theorem obj_setLoom (l : LoomId) (x : Loom) (j : Nat) : (s.setLoom l x).obj j = s.obj j := rfl
@[simp] theorem obj_setLive (r v : Nat) (j : Nat) : (s.setLive r v).obj j = s.obj j := rfl
@[simp] theorem obj_emit (o : Out) (j : Nat) : (s.emit o).obj j = s.obj j := rfl
@[simp] theorem obj_modPart (p : Nat) (f : Part → Part) (j : Nat) : (s.modPart p f).obj j = s.obj j := rfl

@[simp] theorem live_setPart (p : Nat) (x : Part) (j : Nat) : (s.setPart p x).live j = s.live j := rfl
@[simp] theorem live_setQuad (q : Nat) (x : Quad) (j : Nat) : (s.setQuad q x).live j = s.live j := rfl
@[simp] theorem live_setStack (k : Nat) (x : Stack) (j : Nat) : (s.setStack k x).live j = s.live j := rfl
@[simp] theorem live_setLink (k : Nat) (x : Link) (j : Nat) : (s.setLink k x).live j = s.live j := rfl
@[simp] theorem live_setNode (n : Nat) (x : Node) (j : Nat) : (s.setNode n x).live j = s.live j := rfl
@[simp] theorem live_setDcq (q : Nat) (x : Dcq) (j : Nat) : (s.setDcq q x).live j = s.live j := rfl
@[simp] theorem live_setCloop (l : Nat) (x : CLoop) (j : Nat) : (s.setCloop l x).live j = s.live j := rfl
@[simp] theorem live_setSource (n : Nat) (x : Source) (j : Nat) : (s.setSource n x).live j = s.live j := rfl
@[simp] theorem live_setSteward (m : Nat) (x : Steward) (j : Nat) : (s.setSteward m x).live j = s.live j := rfl
@[simp] theorem live_setLoom (l : LoomId) (x : Loom) (j : Nat) : (s.setLoom l x).live j = s.live j := rfl
@[simp] theorem live_setObj (r v : Nat) (j : Nat) : (s.setObj r v).live j = s.live j := rfl
@[simp] theorem live_emit (o : Out) (j : Nat) : (s.emit o).live j = s.live j := rfl
@[simp] theorem live_modPart (p : Nat) (f : Part → Part) (j : Nat) : (s.modPart p f).live j = s.live j := rfl
@[simp] theorem live_bump (r v : Nat) (j : Nat) : (s.bump r v).live j = s.live j := rfl

@[simp] theorem part_modPart_same (p : Nat) (f : Part → Part) : (s.modPart p f).part p = f (s.part p) :=
  SMap.get_set_same

theorem part_modPart_other {p j : Nat} (h : j ≠ p) (f : Part → Part) : (s.modPart p f).part j = s.part j :=
  SMap.get_set_other h

@[simp] theorem obj_bump_same (r v : Nat) : (s.bump r v).obj r = (s.obj r + v) % 256 ^ objSize r := SMap.get_set_same

theorem obj_bump_other {r j : Nat} (h : j ≠ r) (v : Nat) : (s.bump r v).obj j = s.obj j := SMap.get_set_other h

end Sys2Proof.Machine
end

