-- ==== Sys2Proof/Laws/Raise.lean ====
section
/-! SUPPORT. Raising an error record changes no object but those of the log and the counts of frames and dropped items. -/

namespace Sys2Proof.Machine

open Sys2Proof

theorem obj_passQueue (s : State) {r : Nat} (h : r ≠ 0x804006) (q n : Nat) : (s.passQueue q n).obj r = s.obj r := by
  unfold State.passQueue State.loopIssues State.loopMoved State.queueRead
  simp only
  (repeat' split) <;> first | rfl | exact obj_bump_other _ h _

theorem obj_crossQueues (s : State) {r : Nat} (h : r ≠ 0x804006) (l : List Nat) : (s.crossQueues l).obj r = s.obj r := by
  unfold State.crossQueues
  generalize l.takeWhile s.queueOpen ++ (l.dropWhile s.queueOpen).take 1 = m
  induction m generalizing s with
  | nil => rfl
  | cons q t ih => rw [List.foldl_cons, ih, obj_passQueue _ h]

theorem obj_sendDict (s : State) {r : Nat} (h : r ≠ 0x110006) (hq : r ≠ 0x804006) (n : Nat) (f : Bytes) :
    (s.sendDict n f).obj r = s.obj r := by
  unfold State.sendDict
  split
  · rfl
  · split
    · rw [obj_bump_other _ h]; exact obj_crossQueues s hq _
    · exact obj_crossQueues s hq _

theorem obj_notify (s : State) {r : Nat} (h : r ∉ raisedObjs) (b : BitVec 512) : (s.notify b).obj r = s.obj r := by
  have other : ∀ a ∈ raisedObjs, r ≠ a := fun a ha e => h (e ▸ ha)
  unfold State.notify
  simp only
  rw [obj_sendDict _ (other 0x110006 (by decide)) (other 0x804006 (by decide))]
  split
  · rfl
  · rw [obj_bump_other _ (other _ (by decide))]; rfl

theorem obj_enterLog (s : State) {r sev : Nat} (h : r ∉ raisedObjs) (hs : sev ≤ 4) (b : BitVec 512) (n : Nat) :
    (s.enterLog b n sev).obj r = s.obj r := by
  simp only [raisedObjs, List.mem_cons, List.not_mem_nil, or_false, not_or] at h
  obtain ⟨h1, h2, h3, h6, h7, h8, h9, ha, hb, -⟩ := h
  have hr : r ≠ 0x700007 + sev := by omega
  unfold State.enterLog
  simp only
  split <;> simp only [obj_bump_other _ h6, obj_setObj_other _ h1, obj_setObj_other _ h2, obj_setObj_other _ h3, obj_bump_other _ hr] <;> rfl

theorem obj_raise (s : State) {r : Nat} (h : r ∉ raisedObjs) {x : Raise} (hs : x.sev ≤ 4) : (s.raise x).obj r = s.obj r := by
  have hx : ∀ (t : State) (b : BitVec 512) (n m : Nat), m = x.sev → (t.enterLog b n m).obj r = t.obj r :=
    fun t b n m e => obj_enterLog t h (e ▸ hs) b n
  unfold State.raise
  split
  · rfl
  · simp only
    split
    · rw [obj_notify _ h]; exact hx _ _ _ _ rfl
    · split
      · exact hx _ _ _ _ rfl
      · split
        · rw [obj_notify _ h]; exact hx _ _ _ _ rfl
        · exact hx _ _ _ _ rfl

theorem obj_raiseDevice (s : State) {r : Nat} (h : r ∉ raisedObjs) {sev : Nat} (hs : sev ≤ 4) (c u n d : Nat) :
    (s.raiseDevice c sev u n d).obj r = s.obj r := obj_raise s h hs

theorem obj_raisePart (s : State) {r : Nat} (h : r ∉ raisedObjs) {sev : Nat} (hs : sev ≤ 4) (c u n p o d : Nat) :
    (s.raisePart c sev u n p o d).obj r = s.obj r := obj_raise s h hs

theorem obj_raiseQuad (s : State) {r : Nat} (h : r ∉ raisedObjs) {sev : Nat} (hs : sev ≤ 4) (q c u n o d : Nat) :
    (s.raiseQuad q c sev u n o d).obj r = s.obj r := obj_raise s h hs

end Sys2Proof.Machine
end

