-- ==== Sys2Proof/WellFormed.lean ====
section
/-! DEFINITION. Which commands are well formed: operands of open length have the length the spec gives the thing they stand
for. The meanings are total; a command that is not well formed has the meaning its cut or padded operands have. -/

namespace Sys2Proof

/-- A dictionary frame carries at most 1,024 data bytes, and a trailer of 16 bytes or none (14 R336, R341); an OP that stands in
place of the row's is a reserved one: 0x0, 0x6, 0x7 or 0xA to 0xF. -/
def Req.wellFormed (r : Req) : Bool :=
  decide (r.data.length ≤ 1024) && (r.trailer.length == 0 || r.trailer.length == 16)
    && r.reservedOp.all (fun o => [0, 6, 7, 10, 11, 12, 13, 14, 15].contains o.toNat)

/-- A control message's body is below 2^32 bytes, as LEN counts it; an OP that stands in place of the row's is a reserved one, 0x00
or 0x09 on (12 R289). -/
def Ctl.wellFormed (m : Ctl) : Bool :=
  decide (m.body.length < 2 ^ 32) && m.reservedOp.all (fun o => o == 0 || decide (9 ≤ o.toNat))

/-- The readings of every rail of 18 R422 (R423); each link's codewords once. -/
def Readings.wellFormed (x : Readings) : Bool :=
  x.mv.length == 4 && x.high.length == 4 && x.rails.length == 4 && x.ma.length == 4 && decide ((x.fec.map (fun e => e.1)).Nodup)

/-- A message of a service peer is below 2^32 bytes, in packets of at most 4,096 (11 R247). -/
def SvcReq.wellFormed (w : SvcReq) : Bool := decide (w.data.length < 2 ^ 32)

/-- A chunk's elements fit its 32,768 bytes of address space beside the header (11 R256, R259). -/
def Chunk.wellFormed (c : Chunk) : Bool := decide (c.elems.length ≤ 30720)

/-- The item of a fabric queue is a word with its sideband; no item is wider (08 R190). -/
def QItem.wellFormed (i : QItem) : Bool := decide (i.payload < 2 ^ 1024)

/-- Identifiers and names of an LLDPDU (10 R237). -/
def Lldp.wellFormed (m : Lldp) : Bool :=
  decide (m.chassis.length ≤ 32) && decide (m.port.length ≤ 32) && decide (m.name.length ≤ 64)

/-- An address of IPv4 or of IPv6 (10 R224). -/
def addressLength (b : Bytes) : Bool := b.length == 4 || b.length == 16

def ArpMsg.wellFormed (m : ArpMsg) : Bool :=
  match m with
  | .request target sender _ => addressLength target && addressLength sender
  | .reply addr _ => addressLength addr

/-- The tables of an image are no longer than their counts can say (11 R255, R269; 12 R284). -/
def Image.wellFormed (i : Image) : Bool :=
  decide (i.slots.length ≤ 65536) && decide (i.xwins.length ≤ 256) && decide (i.updTable.length < 2 ^ 48)

/-- Instruction codes of the TAP that behave as BYPASS: its own, and those the spec names for no other instruction (13 R329). -/
def bypassCode (ir : BitVec 8) : Bool :=
  !([0x01, 0x02, 0x03, 0x04, 0x05, 0x20, 0x21, 0x22, 0x23].contains ir.toNat) && !(decide (0x40 ≤ ir.toNat) && decide (ir.toNat ≤ 0x7F))

/-- A value whose write is cut short is as long as the longest STORED object at most (14 R344). -/
def Torn.wellFormed (t : Torn) : Bool :=
  match t with
  | .setting _ value => decide (value.length ≤ 64)
  | .journal => true

/-- A command is well formed. -/
def Instr.wellFormed (i : Instr) : Bool :=
  match i with
  | .clockGo r | .hbmGo r | .bistGo r | .repairGo r | .katGo r | .apply r | .read r | .write r | .blockRead r
  | .stagedWrite r | .commit r _ | .unlock r | .complement r | .sealReference r | .firmwareImage r _ | .select r
  | .firmwareCommit r | .nonce r | .openEk r | .response r _ | .closeSession r | .assayEnable r
  | .hazardDetectorWrite r | .exchangeSettingsWrite r | .snapshot r | .eclipseRequest r | .resume r | .release r
  | .hangRequest r | .enableControlChannel _ r | .stopControlChannel _ r | .enablePort _ r | .stopPort _ r | .notifyAck r => r.wellFormed
  | .load _ m _ _ | .loadAmend _ m _ | .start _ m | .stepLimit _ m | .checkpointTake _ m | .checkpointRelease _ m
  | .halt _ m | .haltUnload _ m | .query _ m | .fieldTest _ m => m.wellFormed
  | .arm _ m i => m.wellFormed && i.wellFormed
  | .hbmTrainingComplete _ chans _ => chans.length == 32
  | .bistGroupComplete fails _ => decide (fails.length ≤ 2080)
  | .boundSecond x => x.wellFormed
  | .sensorPoll tj => tj.length == 5
  | .queuePush _ item _ => item.wellFormed
  | .segmentReceive _ _ payload => payload.length == 4096
  | .segmentRequest _ _ missing => decide (missing.length ≤ 32)
  | .serviceRdmaWrite _ w | .ringFillComplete _ w _ | .rdmaReadRequest _ w => w.wellFormed
  | .init _ _ _ pub => pub.length == 68
  | .finish _ _ ct _ => ct.length == 1568
  | .card _ _ body _ => body.length == 4740
  | .cipher _ _ ct => ct.length == 1568
  | .signatureComplete programmed => decide (programmed.length ≤ 3)
  | .trainingAttemptComplete _ lanes => decide (lanes.length ≤ 8)
  | .lldpReceive _ m => m.wellFormed
  | .arpNdReceive _ m => m.wellFormed
  | .data _ c | .close _ c | .done _ c | .result _ c => c.wellFormed
  | .eventClaim stewards => decide (stewards.Nodup)
  | .bypass ir => bypassCode ir
  | .powerLoss torn => torn.all Torn.wellFormed
  | .kwfRecover image _ => decide (image.length ≤ 16777216)
  | _ => true

end Sys2Proof
end

