-- ==== Sys2Proof/Tests/Slice0.lean ====
section
/-! SUPPORT. Tests: ill-formed commands, the spec's own vectors, and states and operands that meet the hypotheses of the
statements. -/

namespace Sys2Proof.Tests

open Sys2Proof Sys2Proof.Machine

set_option maxRecDepth 10000
set_option Elab.async false
set_option linter.unusedVariables false

/-! ### States and operands -/

/-- A device that answers its management port; no job is loaded. -/
def up : State :=
  { State.reset with pwrok := true, straps := 1, fwUp := true, timeLocked := true, pllsOn := true, ns := 5000000000 }

/-- The state that an outcome goes on to. -/
def after (o : Host.Outcome State Fault Refusal) : State := match o with | .next t => t | _ => State.reset

def goesOn (o : Host.Outcome State Fault Refusal) : Bool := match o with | .next _ => true | _ => false

theorem after_next {o : Host.Outcome State Fault Refusal} (h : goesOn o = true) : o = .next (after o) := by
  cases o with
  | next t => rfl
  | fault f => cases h
  | refused r => cases h

/-- The identity digest of `up`. -/
def identity : Nat := 59662235609764734063662853982218175917056572365712826128548744140535323235171

/-- The digest of a public key of zeros, which is that of the job controller. -/
def jcDigest : Nat := 88809516059964478265476088622939130374630695796280130688709869328421832161247

/-- Objects set in a state. -/
def on (s : State) (l : List (Nat × Nat)) : State := l.foldl (fun t e => t.setObj e.1 e.2) s

/-- A device of the 1,600-loom grade. -/
def small (s : State) : State := { s with flash := { s.flash with record := resetRecord - 400 <<< 64 } }


/-- Every quadrant is a partition of its own. -/
def apart (s : State) : State := s.setObj 0x90000A 2

/-- Stack 7 serves; its controller is `x`. -/
def stack7 (x : Stack) : State := { on up [(0x40100F + 256 * 7, 3)] with stackCtl := [(7, x)] }

/-- No queue takes a request for a stack. -/
def flushed (s : State) : State := { s with dcqs := (List.range 40).map (fun k => (0x100 + k, { Dcq.init with flushing := true })) }

def queueItem (payload : Nat) : QItem := { payload := payload, endp := true, poison := false, nv := false, gap := false }

/-- Node 1 changed. -/
def atNode (s : State) (x : Node) : State := { s with nodes := [(1, x)] }

/-- Partition 0 changed. -/
def atPart (s : State) (x : Part) : State := { s with parts := [(0, x)] }

/-- A request frame of node 1. -/
def frame (index sub : Nat) (data : Bytes) : Req :=
  { port := 5119, ahead := 0, addrOk := true, src := 1, version := 1, reservedOp := none, resp := false, seq := 7, auth := false
    index := BitVec.ofNat 16 index
    sub := BitVec.ofNat 8 sub, offset := 0, len := BitVec.ofNat 16 data.length, node := 1, data := data, trailer := [] }

/-- The frame with the trailer of an operator session whose key is empty. -/
def authed (op : Nat) (r : Req) : Req :=
  { r with auth := true, trailer := dictTrailer [] (reqHeader op { r with auth := true }) r.data }

/-- A node in an operator session. -/
def operator : Node := { Node.init with session := 2, lastAuth := 5000000000 }

/-- A node whose lock is open. -/
def unlockedNode : Node := { Node.init with unlockedAt := some 5000000000 }

/-- A packet of queue pair `qpn` on link 0. -/
def packetOn (qpn : Nat) : PktHdr :=
  { esp := { frame := { k := 0, len := 100, vid := 0 }, qpn := BitVec.ofNat 24 qpn, seq := 1, ok := true }, psn := 0, icrcOk := true, ce := false }

/-- A packet of rank 1. -/
def packet : PktHdr := packetOn 4

/-- A control message for partition 0 from its job controller. -/
def message (job : Nat) (body : Bytes) : Ctl :=
  { pkt := packetOn 0x4000, reservedOp := none, seq := 1, len := BitVec.ofNat 32 body.length, job := BitVec.ofNat 32 job, body := body }

/-- A row for no object. -/
def objRow0 : ObjRow :=
  { base := 0, cnt := 0, step := 0, sub := 0, subs := 0, type := 0, size := 0, access := 0, wclass := 0, persist := 0, unit := 0
    deflt := 0, lo := 0, hi := 0 }

/-- A certificate of Falvouth for debug, and a token under it for this power-on of `up`. -/
def certificate : Cert := { usage := 3, key := [], rootSigOk := true, rootSigZero := false }

def token : BitVec 1024 := BitVec.ofNat 1024 (0x5546574B + 2 ^ 32 + 2 ^ 48 + identity * 2 ^ 64)

/-- A manifest of two ranks, one service, one link and one region of each kind, for an empty image; rank 0 is `up`. Its digests are written
out: those of the A1 profile and of no bytes. -/
def jobManifest : Bytes :=
  leBytes 256 (0x4D46574B + 2 ^ 32 + 2 * 2 ^ 48 + 2 ^ 64 + 2 ^ 80 + 10 * 2 ^ 88 + 2 * 2 ^ 104 + 0xA1 * 2 ^ 112 + 17363272965078366215 *
    2 ^ 128
      + 2000 * 2 ^ 192 + 21468664885170662639985957090336418708702569955620632736621138429888230701382 * 2 ^ 320)
    ++ leBytes 96 (17504635049142195043 * 2 ^ 128 + 2 ^ 224 + 2 ^ 232) ++ leBytes 96 (7 * 2 ^ 128 + 2 ^ 224 + 2 ^ 232)
    ++ leBytes 64 (leNat (addr16 [10, 0, 0, 1]) * 2 ^ 64 + leNat (addr16 [10, 0, 0, 9]) * 2 ^ 192) ++ leBytes 64 0 ++ leBytes 64 (15 * 2
      ^ 128)
    ++ ((List.range 10).map (fun k =>
        leBytes 64 (k + 15 * 2 ^ 4 + 16 * k * 2 ^ 32 + 16 * 2 ^ 64 + (if k = 4 then 256 * 2 ^ 160 + 2 * 2 ^ 192 else 0)))).flatten

/-- A queue pair in use on link 0. -/
def liveQp : Qp := { Qp.init with live := true, link := 0 }

/-- A security association with a key. -/
def keyed : Sa := { Sa.init with key := [1] }

/-- The queue pairs to rank 1, to the service and to the job controller, with both associations of each. -/
def online (x : Part) : Part :=
  { x with qps := [(4, liveQp), (8, liveQp), (0x4000, liveQp)]
           sas := [(8, keyed), (9, keyed), (16, keyed), (17, keyed), (0x8000, keyed), (0x8001, keyed)] }

/-- Partition 0 with that manifest. -/
def member : Part := online { Part.init with manifest := jobManifest, digest := [1, 2, 3, 4] }

/-- Link 0 is up; partition 0's control channel is ON. -/
def net : State := on up [(0x504004, 1), (0x901009, 2)]

/-- Partition 0 in a job state. -/
def job (state : Nat) (x : Part) : State := atPart (net.setObj 0x907001 state) x

/-- A program image without tables. -/
def image0 : Image :=
  { looms := 2000, profile := 0xA1, profileDigest := 0, slots := [], windows := [], xwins := [], sends := [], updBase := 0
    updLast := 0, updTable := [], updCmds := [], twPeriod := 0, twBudget := 0, loomImgs := [], hubDest := [] }

/-- One that ARM accepts, with one slot. -/
def image1 : Image :=
  { image0 with profileDigest := BitVec.ofNat 64 (profileDigest 0xA1)
                slots := [{ tensor := 0, kind := 0, recipe := 0, fmt := 0, job := false, init := 127, n := 0 }] }

/-- A firmware image of version 1 without payload. -/
def firmware : Bytes :=
  leBytes 512 (0x4646574B + 2 ^ 32 + 2 ^ 64 + leNat (digest256 []) * 2 ^ 128) ++ [1] ++ List.replicate 5711 0

/-- An amendment of that job: a new holder of rank 1 from step 9. -/
def amendment : Bytes := leBytes 128 (leNat [1, 2, 3, 4] + 2 ^ 256 + 2 ^ 272 + 9 * 2 ^ 288)

def corner : LoomId := { q := 0, r := 0, c := 0 }

/-- A word of fields: bit position and value. -/
def fields (l : List (Nat × Nat)) : Word512 := BitVec.ofNat 512 (l.foldl (fun a e => a + e.2 * 2 ^ e.1) 0)

/-- Partition 0 is in a step, and the corner loom is `x`. -/
def loomOf (x : Loom) : State := { atPart up { Part.init with inStep := true } with looms := [(0, x)] }

/-- A loom at descriptor 0 of its store; its memory begins with 1.5, and 2.0 stands in line 1. -/
def headOf (d : Word512) : Loom :=
  { Loom.init with store := [(0, d)], seq := .running, mem := [(2, 0xC0), (3, 0x3F), (67, 0x40)] }

def running (d : Word512) : State := loomOf (headOf d)

/-- A vector descriptor of one element from lines 0, 1 and 2 to line 3. -/
def vectorWord (vop fmtD : Nat) : Word512 :=
  fields [(0, 0x20), (32, vop), (52, fmtD), (78, 1), (92, 2), (106, 3), (146, 127), (192, 1)]

/-- A DMA descriptor: two rows of 64 bytes of region 6 and line 10. -/
def dmaWord (dir : Nat) : Word512 := fields [(0, 0x30), (32, dir), (64, 6), (128, 2), (142, 64), (156, 1), (164, 64), (40, 10)]
def rowsWord : Word512 := fields [(0, 0x30), (32, 2), (36, 3), (64, 6), (128, 64), (142, 64), (156, 1), (164, 64), (40, 10)]

/-- The role of the last loom of a chain, and of one that passes on. -/
def lastRole : ChainRole :=
  { desc := fields [(0, 0x40), (32, 1), (40, 1), (64, 3), (72, 4)], since := 0, coming := [], held := [], passed := 0
    out := [], seen := [], poison := [] }
def passRole : ChainRole := { lastRole with desc := fields [(0, 0x40), (32, 1), (40, 3), (64, 3), (72, 4)] }

/-- A vector descriptor whose result takes its scale from no entry. -/
def storeWord (vop fmtD : Nat) : Word512 :=
  fields [(0, 0x20), (32, vop), (52, fmtD), (78, 1), (92, 2), (106, 3), (146, 127), (192, 3)]

/-- A WADD of two A96 slots, with this scale of its result. -/
def waddWord (scaleD : Nat) : Word512 := fields [(0, 0x20), (32, 0x31), (106, 3), (192, 2), (146, scaleD)]

/-- A descriptor in flight. -/
def inFlight (d : Word512) (phase : Nat) : InFlight :=
  { desc := d, index := 0, nth := 1, reads := [], writes := [], phase := phase, waits := false }

/-- The job of `jobManifest` in a step; the corner loom is `x`. -/
def jobLoom (x : Loom) : State := { job 5 { member with inStep := true } with looms := [(0, x)] }

/-- A fabric word with the CRC of its sideband, waiting at a router of quadrant 0. -/
def word (side : Nat) : FWord := FWordSeal 5 side

def waiting (r : Fin 20) (c : Fin 25) (input : BitVec 3) (w : FWord) : RWord :=
  { r := r, c := c, input := input, slot := 0, tag := 0, word := w }

def meshOf (count : BitVec 64) (w : RWord) : State := { up with quads := [(0, { Quad.init with count := count, words := [w] })] }

/-- Every quadrant has raised its mark of boundary 1, and quadrant 2 holds. -/
def held2 : State :=
  let x := { Quad.init with marked := 1, count := 256 }
  { up with quads := [(0, x), (1, x), (2, { x with holding := true }), (3, x)] }

/-- Two update commands for state region 2: one that only copies the parameter 0 to region 6, one that does nothing. -/
def copyWord : Word512 := fields [(0, 3), (6, 1), (8, 3), (32, 9), (64, 2), (80, 6), (320, 1)]

def stepImage (c : List Word512) : Image :=
  { image0 with updLast := 9, updTable := [BitVec.ofNat 64 (c.length * 2 ^ 32)], updCmds := c }

/-- Tally window 5 at a rank, with `n` contributions a chunk; its elements are in region 6, its ledger in region 7. -/
def tallyWindow (rank : BitVec 12) (role : BitVec 2) (n : BitVec 16) : WindowEnt :=
  { rank := rank, window := 5, role := role, etype := 0, layout := true, results := true, region := 6, region2 := 255, ledger := 7
    base := 0, count := 1, slot := 0, n := n, peer := 1, pwindow := 5, members := [1] }

/-- The job computes step 1; rank 0 holds the windows `w`. -/
def exchanging (w : List WindowEnt) (f : Part → Part) : State :=
  on (job 5 (f { member with inStep := true, image := some { image0 with windows := w } }))
    [(0x521001, 1), (0x521003, 1)]

/-- A chunk of rank 1 for window 5. -/
def chunk (type etype step : Nat) (elems : Bytes) : Chunk :=
  { pkt := packet, rkey := (if type = 3 then 0x7A010005 else 0x7A000005), va := (if type = 2 then 32768 else 0), elems := elems
    header := fields [(508, type), (504, etype), (480, 5), (432, step), (400, 0x01020304), (384, 1),
      (352, if type = 2 ∨ type = 3 then 1 else 0), (336, if elems = [] then 0 else 1), (312, 1)] }

/-- A queue pair to rank 1 with one message of two packets. -/
def sentMessage : TxMsg := { firstPsn := 0, lastPsn := 1, rkey := 0, va := 0, bytes := List.replicate 5000 1, acked := 0, kind := 0, att := 0 }

def paired (q : Qp) : State :=
  { job 5 { member with qps := [(4, q)] } with cloops := [(loopId 5 0 4, { CLoop.init with issued := 2, inFlight := 2 })] }

/-- A marker of rank 1. -/
def marker (kind attempt step cause : Nat) : Word512 :=
  fields [(504, kind), (496, attempt), (448, step), (416, 0x01020304), (400, 1), (392, cause)]

/-- The job computes or commits step 1. -/
def inState (ex : Nat) (x : Part) : State := on (job 5 x) [(0x521001, 1), (0x521003, ex)]

/-- One leaf has signed, of the 64 that the journal has set aside. -/
def signedOne : State :=
  { up with sec := { Security.init with nxt := 1, endLeaf := 64, slot := 1, signed := [0] }
            flash := { Flash.reset with journal := [(0, journalRecord 64 0)] } }

/-- That device without power. -/
def dark : State := match exec (.powerLoss none) signedOne with | .next t => t | _ => State.reset

theorem signedOne_leavesOnce : signedOne.leavesOnce := by
  refine ⟨by decide, ?_, by decide, by decide⟩
  intro i h
  have e : i = 0 := by simpa [signedOne] using h
  subst e
  decide

theorem signedOne_journalCovers : signedOne.journalCovers := by
  refine ⟨?_, fun _ => ?_⟩
  · intro k h
    cases k with
    | zero => exact absurd h journalRecord_written
    | succ k => rfl
  · have e : SMap.get (BitVec.allOnes 256) signedOne.flash.journal 0 = journalRecord 64 0 := rfl
    rw [bootLeaves_written _ 65536 0 0 (by decide) (by rw [e]; exact journalRecord_written), e, journalEnd_record,
      bootLeaves_erased _ _ _ _ (by decide) rfl]
    rfl

theorem reset_queuesAddUp : State.reset.queuesAddUp := by
  intro q
  refine ⟨rfl, fun h => ⟨Nat.zero_le _, ?_, ?_⟩⟩
  · exact Nat.mul_pos (by decide) (Nat.pos_of_ne_zero h)
  · exact (Nat.zero_mod _).symm

theorem get_range (a n i : Nat) (h : a ≤ i) (k : i < a + n) : SMap.get 0 ((List.range' a n).map (fun i => (i, 1))) i = 1 := by
  induction n generalizing a with
  | zero => omega
  | succ n ih =>
    simp only [List.range'_succ, List.map_cons, SMap.get]
    split
    · rfl
    · exact ih (a + 1) (by omega) (by omega)

/-- The first `l` bytes of a staging area, all staged. -/
theorem stagedArea_full (s : State) (n ref l : Nat) (ho : s.stagingOpen n = true)
    (hs : (s.node n).staging = some (ref, (List.range l).map (fun i => (i, 1)))) :
    s.stagedArea n ref l = some ((List.range l).map (fun i => (i, 1))) := by
  have hw : stagedWhole ((List.range l).map (fun i => (i, 1))) l = true := by
    simp only [stagedWhole, List.all_eq_true, List.mem_range]
    intro i hi
    rw [List.range_eq_range', get_range 0 l i (Nat.zero_le i) (by omega)]
    rfl
  simp [State.stagedArea, ho, hs, hw]

theorem loopInit_sound (l : Nat) : loopSound l (loopInit l) = true := by
  by_cases h : l / 16777216 = 6
  · simp [loopSound, loopInit, loopIssued, CLoop.init, h]
  · simp [loopSound, loopInit, CLoop.init, h]

theorem badLoops_none (s : State) (p : Nat) (h : s.cloops = []) : s.badLoops p = [] := by
  simp [State.badLoops, State.cloop, h, loopInit_sound]

theorem badLoops_one (s : State) (p l : Nat) (c : CLoop) (h : s.cloops = [(l, c)]) (hb : loopSound l c = false)
    (hm : (s.loopsOf p).filter (fun k => k == l) = [l]) : s.badLoops p = [l] := by
  rw [← hm]
  refine List.filter_congr fun k _ => ?_
  by_cases e : k = l
  · simp [State.cloop, h, SMap.get, e, hb]
  · simp [State.cloop, h, SMap.get, e, loopInit_sound]

theorem keys_apart {ew lw : Nat × Nat} {a b x y : Nat} (h1 : ew = (19, 268435840)) (h2 : lw = (19, 268435904)) (h3 : a % 64 = 0)
    (h4 : b % 64 = 0) (hx : x < 4) (hy : y < 32) :
    hbmKey ew.1 (64 * ew.2 + a % 64 + x) ≠ hbmKey lw.1 (64 * lw.2 + b % 64 + y) := by
  subst h1 h2
  simp only [hbmKey]
  omega

theorem once_of {s : State} (h : (s.tests.map (fun t => (t.unit, t.part))).Nodup) : s.testsOnce := h

theorem apart_of {s : State} {p r va n : Nat}
    (h : ∀ c ∈ piecesOf va n, ∀ d ∈ piecesOf va n, s.regionWord p r c.1 = s.regionWord p r d.1 → c = d) : s.wordsApart p r va n := h

/-! ### States and operands that meet the hypotheses of the statements, for each clause -/

theorem wit_StepRunsTheFrontCommand :
    (∃ (s : State) (h : HeldPacket), s.pending = [] ∧ s.heldNext = some h)
    ∧ (∃ (s : State) (p : Nat), s.pending = [] ∧ s.heldNext = none ∧ s.resuming = some p)
    ∧ (∃ (s : State) (e : Fin 4 × Option Bytes), s.pending = [] ∧ s.heldNext = none ∧ s.resuming = none ∧ s.runReady = some e)
    ∧ (∃ (s : State), s.pending = [] ∧ s.heldNext = none ∧ s.resuming = none ∧ s.runReady = none)
    ∧ (∃ (c : Instr) (s t : State), exec c s = .next t) :=
  ⟨⟨{ up with held := [{ part := 0, link := 0, count := 1, cmd := .cnp 0 packet, ns := 7 }] },
     { part := 0, link := 0, count := 1, cmd := .cnp 0 packet, ns := 7 }, by decide +kernel⟩,
   ⟨on up [(0x805005, 0x4000000)], 3, by decide +kernel⟩,
   ⟨{ up with sec := { Security.init with runs := [(2, none)] } }, (2, none), by decide +kernel⟩,
   ⟨State.reset, by decide +kernel⟩,
   ⟨.refresh 0, State.reset, State.reset, rfl⟩⟩

theorem wit_MemoryCanonicalKept :
    ∃ (s t : State), s.memoryCanonical ∧ step s = .next t :=
  ⟨State.reset, State.reset, reset_memoryCanonical, rfl⟩

theorem wit_LeavesOnceKept :
    ∃ (s t : State), s.leavesOnce ∧ s.journalCovers ∧ step s = .next t :=
  ⟨signedOne, signedOne.idleTick, signedOne_leavesOnce, signedOne_journalCovers, rfl⟩

theorem wit_NoLeafReusedAfterPowerLoss :
    ∃ (s s1 t : State) (m : BitVec 3) (ok : Bool) (i : BitVec 21), s.leavesOnce ∧ s.journalCovers ∧
      (exec Instr.pwrokFall s = .next s1 ∨ ∃ torn, exec (.powerLoss torn) s = .next s1) ∧ exec (.pwrokRise m ok) s1 = .next t ∧
      i ∈ s.sec.signed :=
  ⟨signedOne, dark, after (exec (.pwrokRise 0 true) dark), 0, true, 0, signedOne_leavesOnce, signedOne_journalCovers, Or.inr ⟨none, rfl⟩,
    after_next (by decide +kernel), by decide +kernel⟩

theorem wit_QueuesAddUpKept :
    ∃ (s t : State), s.queuesAddUp ∧ step s = .next t :=
  ⟨State.reset, State.reset, reset_queuesAddUp, rfl⟩

theorem wit_TestsListedOnceKept :
    ∃ (s t : State), s.testsOnce ∧ step s = .next t :=
  ⟨State.reset, State.reset, once_of (by decide +kernel), rfl⟩

theorem wit_DeviceCommandsKeep :
    ∃ (m : BitVec 3) (ok : Bool) (s t : State), exec (.pwrokRise m ok) s = .next t ∧ s.pwrok = false :=
  ⟨1, true, State.reset, after (exec (.pwrokRise 1 true) State.reset), after_next (by decide +kernel), by decide +kernel⟩

/-- A signature is due, and the journal must first set leaves aside. -/
def dueLeaf : State := { up with sec := { Security.init with queue := [(.report 0, [])] } }

theorem wit_PowerEdges :
    (∃ (m : BitVec 3) (ok : Bool) (s : State) (r : Nat), s.pwrok = false ∧ s.flash.rootOk = true ∧
      s.flash.accepts (s.flash.slotOf s.flash.bootChoice.fst) = true ∧
      r ∉ [0x600101, 0x600102, 0x600103, 0x600104, 0x600506] ++ raisedObjs)
    ∧ (∃ (m : BitVec 3) (ok : Bool) (s : State), s.pwrok = false ∧ s.flash.rootOk = true ∧
      s.flash.accepts (s.flash.slotOf s.flash.bootChoice.fst) = false ∧ s.flash.accepts (s.flash.slotOf !s.flash.bootChoice.fst) = true)
    ∧ (∃ (m : BitVec 3) (ok : Bool) (s : State), s.pwrok = false ∧ (s.flash.rootOk = false ∨ (s.flash.accepts s.flash.slotA = false ∧
      s.flash.accepts s.flash.slotB = false)))
    ∧ (∃ (ref : BitVec 24) (v : Bytes) (s : State), s.fwUp = true ∧ (s.flash.copyA.ok = true ∨ s.flash.copyB.ok = true))
    ∧ (∃ (s : State) (b : BitVec 256), b = journalRecord (s.sec.endLeaf.toNat + 16) s.sec.slot.toNat ^^^ BitVec.ofNat 256 (2 ^ 64) ∧
      s.pwrok = true ∧ s.sec.queue ≠ [] ∧ s.sec.nxt = s.sec.endLeaf ∧ s.sec.slot.toNat < 65536)
    ∧ (∃ (s : State), s.timeLocked = false) :=
  ⟨⟨default, true, State.reset, 0, by decide +kernel⟩,
   ⟨default, true, { State.reset with flash := { Flash.reset with bootB := true } }, by decide +kernel⟩,
   ⟨default, true, { State.reset with flash := { Flash.reset with rootOk := false } }, by decide +kernel⟩,
   ⟨0x10000D, [65, 66], up, by decide +kernel⟩,
   ⟨dueLeaf, _, rfl, by decide +kernel⟩,
   ⟨State.reset, by decide +kernel⟩⟩

theorem wit_FirmwareStepOne :
    ∃ (s : State), s.pwrok = true ∧ s.romHold = false ∧ s.fwUp = false :=
  ⟨on { State.reset with pwrok := true, straps := 1 } [(0x600506, 1)], by decide +kernel⟩

theorem wit_BringUpSteps :
    (∃ (r : Req) (s : State), s.takes opWrite r ∧ r.data = [1] ∧ s.trip = false ∧ s.obj 0x210001 = 1 ∧ ¬s.stepResult 2 ∈ [1, 2, 3] ∧
      s.stepResult 1 = 2)
    ∧ (∃ (r : Req) (s : State) (k : Nat), s.takes opWrite r ∧ r.data = [1] ∧ s.trip = false ∧ s.obj 0x210001 = 1 ∧
      ¬s.stepResult 3 ∈ [1, 2, 3] ∧ s.stepResult 2 = 2 ∧ k < 20)
    ∧ (∃ (r : Req) (s : State), s.takes opWrite r ∧ r.data = [1] ∧ s.trip = false ∧ s.obj 0x210001 = 1 ∧ ¬s.stepResult 5 ∈ [1, 2, 3] ∧
      s.stepResult 2 = 2)
    ∧ (∃ (r : Req) (s : State) (q i : Nat), s.takes opWrite r ∧ r.data = [1] ∧ s.trip = false ∧ s.obj 0x210001 = 1 ∧
      ¬s.stepResult 6 ∈ [1, 2, 3] ∧ passed (s.stepResult 5) = true ∧ q < 4 ∧ i < 20)
    ∧ (∃ (r : Req) (s : State) (l : LoomId), s.takes opWrite r ∧ r.data = [1] ∧ s.trip = false ∧ s.obj 0x210001 = 1 ∧
      ¬s.stepResult 7 ∈ [1, 2, 3] ∧ passed (s.stepResult 3) = true ∧ passed (s.stepResult 6) = true ∧ s.gradeCols ≤ l.c.val)
    ∧ (∃ (s : State), s.stepResult 2 = 1)
    ∧ (∃ (k : Fin 20) (chans : List (BitVec 16)) (ms : BitVec 16) (s : State) (n : Nat), k ∈ s.hbmLeft ∧ s.applyWaits = none ∧ n < 32)
    ∧ (∃ (k : Fin 20) (chans : List (BitVec 16)) (ms : BitVec 16) (s : State) (o : Nat), k ∈ s.hbmLeft ∧ s.applyWaits = none ∧ o < 2 ^ 36)
    ∧ (∃ (k : Fin 20) (chans : List (BitVec 16)) (ms : BitVec 16) (s t : State), exec (.hbmTrainingComplete k chans ms) s = .next t ∧
      k ∈ s.hbmLeft ∧ s.applyWaits = none ∧ t.hbmLeft = [])
    ∧ (∃ (k : Fin 20) (chans : List (BitVec 16)) (ms : BitVec 16) (s t : State), exec (.hbmTrainingComplete k chans ms) s = .next t ∧
      k ∈ s.hbmLeft ∧ s.applyWaits = none ∧ t.hbmLeft ≠ [])
    ∧ (∃ (fails : List BistFail) (bypass : List (Fin 20)) (g : Fin 8) (s : State) (r : Fin 20) (c : Fin 26), s.bistGroup = some g ∧
      r.val / 10 = g.val / 4)
    ∧ (∃ (fails : List BistFail) (bypass : List (Fin 20)) (g : Fin 8) (s : State), s.bistGroup = some g ∧ g.val + 1 < 8)
    ∧ (∃ (fails : List BistFail) (bypass : List (Fin 20)) (g : Fin 8) (s : State), g = 7 ∧ s.bistGroup = some g)
    ∧ (∃ (s : State) (k o : Nat), s.stepResult 7 = 1 ∧ s.applyWaits = none ∧ k < 20 ∧ o < 2 ^ 36)
    ∧ (∃ (l : LoomId) (s : State) (c : Nat), s.stepResult 7 = 1 ∧ s.applyWaits = none ∧ l.q ∈ s.katQuads ∧ l.c.val < s.gradeCols ∧ c < 26)
    ∧ (∃ (l : LoomId) (s : State) (i : Nat), s.stepResult 7 = 1 ∧ s.applyWaits = none ∧ l.q ∈ s.katQuads ∧ l.c.val < s.gradeCols ∧ i < 20)
    ∧ (∃ (k : Fin 20) (s : State) (j : Nat), s.stepResult 7 = 1 ∧ s.applyWaits = none ∧ s.katRound = 1 ∧ (s.stack k).failed = false ∧
      j < 20) :=
  ⟨⟨frame 0x2100 2 [1], on up [(0x210101, 2)], by decide +kernel⟩,
   ⟨frame 0x2100 3 [1], on up [(0x210102, 2)], 0, by decide +kernel⟩,
   ⟨frame 0x2100 3 [1], on up [(0x210102, 2)], by decide +kernel⟩,
   ⟨frame 0x2100 5 [1], on up [(0x210105, 3)], 0, 0, by decide +kernel⟩,
   ⟨frame 0x2100 6 [1], small (on up [(0x210103, 3), (0x210106, 2)]), ⟨0, 0, 24⟩, by decide +kernel⟩,
   ⟨on up [(0x210102, 1)], by decide +kernel⟩,
   ⟨19, [0, 2], 7, { on up [(0x210103, 1)] with hbmLeft := [19] }, 0, by decide +kernel⟩,
   ⟨19, [0, 2], 7, { on up [(0x210103, 1)] with hbmLeft := [19] }, 0, by decide +kernel⟩,
   ⟨19, [0, 2], 7, { on up [(0x210103, 1)] with hbmLeft := [19] }, after (exec (.hbmTrainingComplete 19 [0,
     2] 7) { on up [(0x210103, 1)] with hbmLeft := [19] }), after_next (by decide +kernel), by decide +kernel⟩,
   ⟨19, [0, 2], 7, { on up [(0x210103, 1)] with hbmLeft := [18, 19] }, after (exec (.hbmTrainingComplete 19 [0,
     2] 7) { on up [(0x210103, 1)] with hbmLeft := [18, 19] }), after_next (by decide +kernel), by decide +kernel⟩,
   ⟨[⟨10, 3, .array⟩], [19], 7, { on up [(0x210105, 1)] with bistGroup := some 7 }, 10, 25, by decide +kernel⟩,
   ⟨[⟨10, 3, .sequencer⟩], [], 5, { on up [(0x210105, 1)] with bistGroup := some 5 }, by decide +kernel⟩,
   ⟨[⟨10, 3, .array⟩], [19], _, { on up [(0x210105, 1)] with bistGroup := some 7 }, rfl, by decide +kernel⟩,
   ⟨on up [(0x210107, 1)], 0, 0, by decide +kernel⟩,
   ⟨corner, { on up [(0x210107, 1)] with katQuads := [0], katRound := 1 }, 25, by decide +kernel⟩,
   ⟨corner, { on up [(0x210107, 1)] with katQuads := [0], katRound := 1 }, 19, by decide +kernel⟩,
   ⟨19, { on up [(0x210107, 1)] with katQuads := [0], katRound := 1 }, 19, by decide +kernel⟩⟩

theorem wit_SecondsAndSensors :
    (∃ (corrected : List HubWord) (s : State), corrected = [] ∧ s.timeLocked = true ∧ s.fwUp = true ∧ s.ns.toNat + 1000000000 < 2 ^ 64)
    ∧ (∃ (corrected : List HubWord) (s : State) (l : List (Nat × Nat)) (ref v : Nat), s.timeLocked = true ∧ s.fwUp = true ∧
      s.ns.toNat + 1000000000 < 2 ^ 64 ∧ s.buffered = l ++ [(ref, v)])
    ∧ (∃ (corrected : List HubWord) (s : State) (ref : Nat), s.timeLocked = true ∧ s.fwUp = true ∧ s.ns.toNat + 1000000000 < 2 ^ 64 ∧
      ref ∉ List.map (fun x => x.fst) s.buffered)
    ∧ (∃ (corrected : List HubWord) (s : State) (k : Nat), s.timeLocked = true ∧ s.fwUp = true ∧ s.ns.toNat + 1000000000 < 2 ^ 64 ∧
      k < 20)
    ∧ (∃ (corrected : List HubWord) (s : State), s.timeLocked = true ∧ s.fwUp = true ∧ s.ns.toNat + 1000000000 < 2 ^ 64 ∧
      s.sealArmed = true)
    ∧ (∃ (corrected : List HubWord) (s t : State), exec (.managementTick corrected) s = .next t ∧ s.timeLocked = true ∧ s.fwUp = true ∧
      s.ns.toNat + 1000000000 < 2 ^ 64 ∧ s.obj 0x210001 = 1 ∧ (∀ (n : Nat), n ∈ [2, 3, 5, 6, 7] → passed (s.stepResult n) = true) ∧
      t.obj 0x121003 = 1)
    ∧ (∃ (x : Readings) (s : State) (k : Fin 48) (a b : BitVec 64), s.fwUp = true ∧ x.fec = [(k, a, b)])
    ∧ (∃ (x : Readings) (s : State) (n : Nat) (lo hi : BitVec 16), s.fwUp = true ∧ n < 4 ∧ x.mv[n]? = some lo ∧ x.high[n]? = some hi ∧
      (lo.toNat < 665 ∨ 735 < hi.toNat))
    ∧ (∃ (tj : List Int) (s : State), s.fwUp = true ∧ ↑(s.live 0x20000B) * 10 ≤ (hottest tj).fst)
    ∧ (∃ (tj : List Int) (s : State), s.fwUp = true ∧ (hottest tj).fst < ↑(s.live 0x20000B) * 10)
    ∧ (∃ (tj : List Int) (s : State), s.fwUp = true ∧ (hottest tj).fst ≤ 1050)
    ∧ (∃ (tj : List Int) (s : State), s.fwUp = true ∧ 1050 < (hottest tj).fst ∧ s.bistGroup ≠ none) :=
  ⟨⟨_, { up with buffered := [(0x112005, 9), (0x112005, 4)] }, rfl, by decide +kernel⟩,
   ⟨default, { up with buffered := [(0x112005, 9), (0x112005, 4)] }, [(0x112005, 9)], 0x112005, 4, by decide +kernel⟩,
   ⟨default, { up with buffered := [(0x112005, 9), (0x112005, 4)] }, 0, by decide +kernel⟩,
   ⟨default, { up with buffered := [(0x112005, 9), (0x112005, 4)] }, 0, by decide +kernel⟩,
   ⟨default, { on up [(0x210102, 2), (0x210103, 2), (0x210105, 2), (0x210106, 2), (0x210107, 2)] with sealArmed := true },
     by decide +kernel⟩,
   ⟨[], { on up [(0x121003, 1), (0x210001, 1), (0x210102, 2), (0x210103, 2), (0x210105, 2), (0x210106, 2), (0x210107, 2)] with
       buffered := [] }, after (exec (.managementTick []) { on up [(0x121003, 1), (0x210001, 1), (0x210102, 2), (0x210103, 2), (0x210105,
                                                            2), (0x210106, 2), (0x210107, 2)] with buffered := [] }),
     after_next (by decide +kernel), by decide +kernel⟩,
   ⟨{ mv := [700, 700, 700, 700], high := [710, 710, 710, 736], rails := [], hbmOut := false, ma := [], watts := 0, fec := [(47, 5, 6)] },
     up, 47, 5, 6, by decide +kernel⟩,
   ⟨{ mv := [700, 700, 700, 700], high := [710, 710, 710, 736], rails := [], hbmOut := false, ma := [], watts := 0, fec := [(47, 5, 6)] },
     up, 3, 700, 736, by decide +kernel⟩,
   ⟨[940, 1000], up, by decide +kernel⟩,
   ⟨[-40], up, by decide +kernel⟩,
   ⟨[-40], up, by decide +kernel⟩,
   ⟨[1051], { on up [(0x210105, 1)] with bistGroup := some 2 }, by decide +kernel⟩⟩

theorem allSeen_of {s : State} {q k : Nat} (h : ∀ j ∈ s.quadsOf (s.partOfQuad q),
    k ≤ (s.quad j).marked.toNat ∧ (j = q ∨ 256 * k + 3 ≤ (s.quad j).count.toNat + markLead)) : s.allSeen q k = true := by
  refine List.all_eq_true.mpr fun j hj => ?_
  obtain ⟨h1, h2⟩ := h j hj
  simp only [State.seesMark, Bool.and_eq_true, Bool.or_eq_true, decide_eq_true_eq]
  exact ⟨h1, h2.imp_right fun h2 => Nat.le_trans (by split <;> omega) h2⟩

theorem wit_ClocksAndOrbits :
    (∃ (q : Fin 4) (s : State), s.quadRuns q = true ∧ (s.quad q).marked.toNat < (s.quad q).next ∧ (s.quad q).next < 2 ^ 55 ∧
      (s.quad q).count.toNat ≤ 256 * (s.quad q).next - 3 ∧ (s.quad q).mayReach (256 * (s.quad q).next - 3) = true)
    ∧ (∃ (q : Fin 4) (s : State), s.quadRuns q = true ∧ (s.quad q).marked.toNat = (s.quad q).next ∧ (s.quad q).next < 2 ^ 55 ∧
      (s.quad q).count.toNat ≤ 256 * (s.quad q).next ∧ (s.quad q).mayReach (256 * (s.quad q).next) = true)
    ∧ (∃ (q : Fin 4) (periods : BitVec 8) (s : State), s.allSeen q (s.quad q).next = true ∧ (s.quad q).holding = true ∧ periods.toNat ≤ 6)
    ∧ (∃ (q : Fin 4) (periods : BitVec 8) (s : State), s.allSeen q (s.quad q).next = true ∧ (s.quad q).holding = true ∧ 6 < periods.toNat)
    ∧ (∃ (q : Fin 4) (k : Nat) (s : State) (j : Nat), s.allSeen q k = true ∧ 0 < k ∧ j ∈ s.quadsOf (s.partOfQuad q) ∧ j ≠ q.val)
    ∧ (∃ (s : State) (q : Nat), s.phase < 5 ∧ q < 4 ∧ (s.quadRuns q = false ∨ s.pllsOn = false)) :=
  ⟨⟨0, up, by decide +kernel⟩,
   ⟨3, { up with quads := [(3, { Quad.init with marked := 1, count := 256 })] }, by decide +kernel⟩,
   ⟨2, 6, held2, allSeen_of (by decide +kernel), by decide +kernel⟩,
   ⟨2, 7, held2, allSeen_of (by decide +kernel), by decide +kernel⟩,
   ⟨2, 1, held2, 0, allSeen_of (by decide +kernel), by decide +kernel⟩,
   ⟨held2, 2, by decide +kernel⟩⟩

theorem wit_LayoutChanges :
    (∃ (r : Req) (s : State) (x : Nat), s.takes opWrite r ∧ r.data = [1] ∧ s.unlocked r.src = true ∧ s.obj 0x900009 ≠ 5 ∧
      s.applyRefusal = none ∧ s.stepResult 3 ≠ 1 ∧ s.stepResult 7 ≠ 1 ∧ x < 6)
    ∧ (∃ (r : Req) (s : State) (p : Nat), s.takes opWrite r ∧ r.data = [1] ∧ s.unlocked r.src = true ∧ s.obj 0x900009 ≠ 5 ∧
      s.applyRefusal = none ∧ s.stepResult 3 ≠ 1 ∧ s.stepResult 7 ≠ 1 ∧ p < 4)
    ∧ (∃ (r : Req) (s : State), s.takes opWrite r ∧ r.data = [1] ∧ s.unlocked r.src = true ∧ s.obj 0x900009 ≠ 5 ∧ s.applyRefusal = none ∧
      (s.stepResult 3 = 1 ∨ s.stepResult 7 = 1))
    ∧ (∃ (s : State) (k : Nat), s.trip = false ∧ s.obj 0x900009 = 5 ∧ s.applyWaits = none ∧ k < 20)
    ∧ (∃ (p : Fin 4) (s : State) (k : Nat), s.trip = false ∧ k < 20 ∧ s.partOfStack k = p.val ∧ (s.stack k).zeroFilling = true)
    ∧ (∃ (p : Fin 4) (s : State) (k : Nat), s.trip = false ∧ s.partOfStack k ≠ p.val) :=
  ⟨⟨frame 0x9000 8 [1], atNode (on up [(0x900001, 1), (0x900005, 1)]) unlockedNode, 0, by decide +kernel⟩,
   ⟨frame 0x9000 8 [1], atNode (on up [(0x900001, 1), (0x900005, 1)]) unlockedNode, 0, by decide +kernel⟩,
   ⟨frame 0x9000 8 [1], atNode (on up [(0x900001, 1), (0x900005, 1), (0x210107, 1)]) unlockedNode, by decide +kernel⟩,
   ⟨on up [(0x900009, 5)], 0, by decide +kernel⟩,
   ⟨0, { up with stackCtl := [(19, { Stack.init with zeroFilling := true })] }, 19, by decide +kernel⟩,
   ⟨0, { apart up with stackCtl := [(19, { Stack.init with zeroFilling := true })] }, 19, by decide +kernel⟩⟩


theorem wit_DeviceStops :
    (∃ (u : TripUnit) (s : State) (p : Nat), s.pwrok = true ∧ s.trip = false ∧ s.applyWaits = none ∧ p < 6)
    ∧ (∃ (u : TripUnit) (s : State) (n : Nat), s.pwrok = true ∧ s.trip = false ∧ s.applyWaits = none ∧ n ∈ [2, 3, 5, 6, 7])
    ∧ (∃ (u : TripUnit) (s : State) (p : Nat), s.pwrok = true ∧ s.trip = false ∧ s.applyWaits = none ∧ p < s.partCount)
    ∧ (∃ (r : Req) (s : State), s.takes opWrite r ∧ r.data = [1] ∧ s.trip = true ∧ s.obj 0x210001 = 1 ∧ s.stepResult 2 ∉ [1, 2, 3])
    ∧ (∃ (r : Req) (s : State), s.takes opWrite r ∧ r.data = [1] ∧ s.trip = true ∧ s.obj 0x210001 = 1 ∧ s.stepResult 2 = 2)
    ∧ (∃ (m : Fin 4) (ok : Bool) (s : State) (p : Nat), s.fwUp = true ∧ p < s.partCount) :=
  ⟨⟨.stack 19, on up [(0x210105, 1), (0x907001, 5)], 0, by decide +kernel⟩,
   ⟨.stack 19, on up [(0x210105, 1), (0x907001, 5)], 2, by decide +kernel⟩,
   ⟨.stack 19, on up [(0x210105, 1), (0x907001, 5)], 0, by decide +kernel⟩,
   ⟨frame 0x2100 6 [1], { (on up [(0x210001, 1), (0x210102, 4)]) with trip := true }, by decide +kernel⟩,
   ⟨frame 0x2100 6 [1], { (on up [(0x210001, 1), (0x210102, 2)]) with trip := true }, by decide +kernel⟩,
   ⟨3, false, up, 0, by decide +kernel⟩⟩

theorem wit_DictionaryReadsAndWrites :
    (∃ (r : Req) (s : State) (o : ObjRow), s.takes opRead r ∧ s.row? (reqRef r) = some o ∧ o.access ≠ 4 ∧ o.size ≤ 1024)
    ∧ (∃ (r : Req) (s : State) (o : ObjRow), s.takes opBlockRead r ∧ r.sub ≠ 0 ∧ s.row? (reqRef r) = some o ∧ o.access ≠ 4 ∧
      r.offset.toNat ≤ o.size)
    ∧ (∃ (r : Req) (s : State), s.takes opBlockRead r ∧ r.sub = 0 ∧ s.hasIndex r.index.toNat = true ∧
      r.offset.toNat ≤ s.indexSize r.index.toNat)
    ∧ (∃ (r : Req) (s : State) (o : ObjRow), s.takes opWrite r ∧ s.row? (reqRef r) = some o ∧ plainObject o (reqRef r) ∧
      o.access ∉ [1, 2, 5] ∧ (o.access = 6 → s.authPasses opWrite r = true) ∧ List.length r.data = o.size ∧ o.size ≤ 1024 ∧
      s.reservedValue o (reqRef r) (leNat (keptData o (reqRef r) r.data)) = false ∧ o.persist = 2)
    ∧ (∃ (r : Req) (s : State) (o : ObjRow), s.takes opWrite r ∧ s.row? (reqRef r) = some o ∧ (o.access = 1 ∨ o.access = 2))
    ∧ (∃ (r : Req) (s : State) (o : ObjRow), s.takes opWrite r ∧ s.row? (reqRef r) = some o ∧ plainObject o (reqRef r) ∧
      o.access ∉ [1, 2, 5, 6] ∧ List.length r.data = o.size ∧ o.size ≤ 1024 ∧
      s.reservedValue o (reqRef r) (leNat (keptData o (reqRef r) r.data)) = true)
    ∧ (∃ (r : Req) (s : State) (o : ObjRow), s.takes opStaged r ∧ s.row? (reqRef r) = some o ∧
      (o.access = 6 → s.authPasses opStaged r = true) ∧ r.offset.toNat + List.length r.data ≤ o.size ∧
      r.offset.toNat + List.length r.data ≤ stagingRoom (reqRef r))
    ∧ (∃ (r : Req) (v : FwVerdict) (s : State) (o : ObjRow) (m : SMap Nat), s.takes opCommit r ∧ s.row? (reqRef r) = some o ∧
      plainObject o (reqRef r) ∧ o.access ∉ [1, 2, 5] ∧ (o.access = 6 → s.authPasses opCommit r = true) ∧ r.offset.toNat ≤ o.size ∧
      s.stagedArea r.src (reqRef r) r.offset.toNat = some m ∧
      s.reservedValue o (reqRef r) (leNat (keptData o (reqRef r) (stagedValue m r.offset.toNat o.size))) = false)
    ∧ (∃ (n : Fin 8) (s : State), (s.node n).staging.isSome = true ∧ (s.node n).stagedAt.toNat + 10000000000 < 2 ^ 64)
    ∧ (∃ (r : Req) (s : State), s.portSpeaks = true ∧ r.port = dictPort ∧ (r.reservedOp.isSome = true ∨ r.resp = true)) :=
  ⟨⟨frame 0x1200 2 [], up, (objRow? 0x120002).getD objRow0, by decide +kernel⟩,
   ⟨{ frame 0x1200 2 [] with len := 8 }, up, (objRow? 0x120002).getD objRow0, by decide +kernel⟩,
   ⟨{ frame 0x1200 0 [] with len := 8, offset := 1 }, up, by decide +kernel⟩,
   ⟨authed opWrite (frame 0x6021 1 (List.replicate 32 7)), atNode up operator, (objRow? 0x602101).getD objRow0, by decide +kernel⟩,
   ⟨frame 0x2100 1 [9], up, (objRow? 0x210001).getD objRow0, by decide +kernel⟩,
   ⟨frame 0x1120 5 [0], up, (objRow? 0x112005).getD objRow0, by decide +kernel⟩,
   ⟨frame 0x1120 5 [9], up, (objRow? 0x112005).getD objRow0, by decide +kernel⟩,
   ⟨{ frame 0x1120 5 [] with offset := 1 }, ⟨true, true⟩,
     atNode up { Node.init with staging := some (0x112005, [(0, 10)]), stagedAt := 5000000000 }, (objRow? 0x112005).getD objRow0, [(0,
     10)], by decide +kernel⟩,
   ⟨1, atNode up { Node.init with staging := some (0x112005, [(0, 10)]), stagedAt := 5000000000 }, by decide +kernel⟩,
   ⟨{ frame 0x1200 2 [] with reservedOp := some 6 }, up, by decide +kernel⟩⟩

theorem wit_LocksAndComplement :
    (∃ (r : Req) (s : State), s.takes opWrite r ∧ r.data = [58, 109])
    ∧ (∃ (r : Req) (s : State), s.takes opWrite r ∧ List.length r.data = 2 ∧ r.data ≠ [58, 109])
    ∧ (∃ (n : Fin 8) (s : State) (u : BitVec 64), (s.node n).unlockedAt = some u ∧ u.toNat + 1000000000 < 2 ^ 64)
    ∧ (∃ (r : Req) (s : State) (o : ObjRow), s.reachedBy r ∧ reqMalformed opWrite r = true ∧ s.row? (reqRef r) = some o ∧ o.access = 5)
    ∧ (∃ (r : Req) (s : State) (v : BitVec 64), s.takes opWrite r ∧ (s.node r.src).target = some 0x121002 ∧
      (s.node r.src).value = some v ∧ s.ns.toNat < (s.node r.src).compatAt.toNat + 1000000000 ∧ v.toNat < 2 ^ 32 ∧
      List.length r.data = 8 ∧ leNat r.data = 2 ^ 32 - 1 - v.toNat)
    ∧ (∃ (r : Req) (s : State), s.takes opWrite r ∧ List.length r.data = 4 ∧ s.unlocked r.src = true) :=
  ⟨⟨frame 0x1200 1 [0x3A, 0x6D], up, by decide +kernel⟩,
   ⟨frame 0x1200 1 [0x3B, 0x6D], atNode up unlockedNode, by decide +kernel⟩,
   ⟨1, atNode up unlockedNode, 5000000000, by decide +kernel⟩,
   ⟨{ frame 0x9000 8 [1] with len := 2 }, atNode up unlockedNode, (objRow? 0x900008).getD objRow0, by decide +kernel⟩,
   ⟨frame 0x12F0 2 [0xFA, 0xFF, 0xFF, 0xFF, 0, 0, 0, 0],
     atNode up { Node.init with target := some 0x121002, value := some 5, compatAt := 5000000000 }, 5, by decide +kernel⟩,
   ⟨frame 0x1210 2 [5, 0, 0, 0], atNode (on up [(0x210107, 2)]) unlockedNode, by decide +kernel⟩⟩

theorem wit_FirmwareObjects :
    (∃ (r : Req) (v : FwVerdict) (s : State) (m : SMap Nat), s.takes opCommit r ∧ s.unlocked r.src = true ∧ r.offset.toNat ≤ 16777216 ∧
      s.stagedArea r.src 0x600105 r.offset.toNat = some m)
    ∧ (∃ (r : Req) (b : Bool) (s : State), s.takes opWrite r ∧ s.unlocked r.src = true ∧ (r.data = [if b = true then 1 else 0]) ∧
      s.flash.accepts (s.flash.slotOf b) = true)
    ∧ (∃ (r : Req) (s : State), s.takes opWrite r ∧ r.data = [1] ∧ s.authPasses opWrite (reqAt r 0x600107) = true ∧
      s.flash.versions.length < versionJournalSize) :=
  ⟨⟨{ frame 0x6001 5 [] with offset := 1 }, ⟨true, true⟩,
     atNode up { unlockedNode with staging := some (0x600105, [(0, 10)]), stagedAt := 5000000000 }, [(0, 10)], by decide +kernel⟩,
   ⟨frame 0x6001 6 [0], false, atNode up unlockedNode, by decide +kernel⟩,
   ⟨authed opWrite (frame 0x6001 7 [1]), atNode up operator, by decide +kernel⟩⟩

theorem wit_ReportsAndSessions :
    (∃ (r : Req) (s : State), s.takes opWrite r ∧ List.length r.data = 32 ∧ s.reportWaits = false ∧
      underBudget s.ns s.sec.reportTimes = true)
    ∧ (∃ (r : Req) (s : State) (m : SMap Nat), s.stagedArea r.src 0x602002 1568 = some m ∧ s.takes opCommit r ∧ r.offset.toNat = 1568)
    ∧ (∃ (r : Req) (s : State) (m : SMap Nat), s.stagedArea r.src 0x602004 2820 = some m ∧ s.takes opCommit r ∧ r.offset.toNat = 2820 ∧
      (s.node r.src).session = 1 ∧ s.operatorKeys.contains (leNat (digest256 (fitBytes 68 (s.node r.src).openPub))) = true ∧
      leNat (digest256 (fitBytes 68 (s.node r.src).openPub)) ≠ 0)
    ∧ (∃ (r : Req) (s : State), s.takes opWrite r ∧ r.data = [1])
    ∧ (∃ (n : Fin 8) (s : State), (s.node n).session = 2 ∧ (s.node n).lastAuth.toNat + (s.node n).idleS.toNat * 1000000000 < 2 ^ 64) :=
  ⟨⟨frame 0x6010 2 (List.replicate 32 1), up, by decide +kernel⟩,
   ⟨{ frame 0x6020 2 [] with offset := 1568 }, atNode up { Node.init with
       staging := some (0x602002, (List.range 1568).map (fun i => (i, 1))), stagedAt := 5000000000 }, (List.range 1568).map (fun i => (i,
     1)), stagedArea_full _ _ _ _ (by decide +kernel) rfl, by decide +kernel⟩,
   ⟨{ frame 0x6020 4 [] with offset := 2820 }, atNode (up.setObj 0x602101 jcDigest) { Node.init with
       session := 1, staging := some (0x602004, (List.range 2820).map (fun i => (i, 1))), stagedAt := 5000000000 },
     (List.range 2820).map (fun i => (i, 1)), stagedArea_full _ _ _ _ (by decide +kernel) rfl, by decide +kernel⟩,
   ⟨frame 0x6020 7 [1], atNode up operator, by decide +kernel⟩,
   ⟨1, atNode up operator, by decide +kernel⟩⟩

theorem wit_StructuralSettings :
    (∃ (r : Req) (v : Nat) (s : State), s.takes opWrite r ∧ r.data = [BitVec.ofNat 8 v] ∧ v < 16 ∧
      s.touchesLoaded v (s.obj 0x702001) = false)
    ∧ (∃ (r : Req) (v : Nat) (s : State), s.takes opWrite r ∧ r.data = [BitVec.ofNat 8 v] ∧ v < 16 ∧
      s.touchesLoaded v (s.obj 0x702001) = true)
    ∧ (∃ (r : Req) (v : Nat) (s : State), s.takes opWrite r ∧ r.sub = 1 ∧ r.data = [BitVec.ofNat 8 v] ∧ v < 16 ∧
      s.touchesLoaded v (s.obj 0x802001) = false)
    ∧ (∃ (r : Req) (v : Nat) (s : State), s.takes opWrite r ∧ r.sub = 2 ∧ r.data = [BitVec.ofNat 8 v] ∧ v < 3 ∧ s.anyJob = false)
    ∧ (∃ (r : Req) (o : ObjRow) (s : State), s.takes opWrite r ∧ objRow? (0x520000 + r.sub.toNat) = some o ∧ o.access = 3 ∧
      List.length r.data = o.size ∧ o.lo ≤ leNat r.data ∧ leNat r.data ≤ o.hi ∧ s.anyJob = false)
    ∧ (∃ (r : Req) (o : ObjRow) (s : State), s.takes opWrite r ∧ objRow? (0x520000 + r.sub.toNat) = some o ∧ o.access = 3 ∧
      List.length r.data = o.size ∧ o.lo ≤ leNat r.data ∧ leNat r.data ≤ o.hi ∧ s.anyJob = true) :=
  ⟨⟨frame 0x7020 1 [7], 7, up, by decide +kernel⟩,
   ⟨frame 0x7020 1 [14], 14, on up [(0x907001, 1)], by decide +kernel⟩,
   ⟨frame 0x8020 1 [1], 1, up, by decide +kernel⟩,
   ⟨frame 0x8020 2 [2], 2, up, by decide +kernel⟩,
   ⟨frame 0x5200 1 [0xE8, 3], (objRow? 0x520001).getD objRow0, up, by decide +kernel⟩,
   ⟨frame 0x5200 1 [0xE8, 3], (objRow? 0x520001).getD objRow0, on up [(0x907001, 1)], by decide +kernel⟩⟩

/-- An event source that targets steward 1. -/
def aimed : Source := { Source.init with target := 2, enable := true }

/-- A notice on its way. -/
def noticed : State := { up with notices := [{ seq := 3, bits := 7, sent := 5000000000 }] }

/-- Node 0's answer to it. -/
def answer : Req := { frame 0 0 [] with src := 0, node := 0, resp := true, seq := 3 }

theorem wit_EventsAndNotices :
    (∃ (src : BitVec 10) (level : Bool) (cfg : Option (BitVec 5)) (s : State) (n : Nat), s.pwrok = true ∧
      sourceExists src.toNat = true ∧ src ≠ 1023 ∧ (∀ (m : Nat), m < 4 → (s.steward m).asleep = false) ∧
      (cfg = none ∨ s.queueTakes (fromSteward 0) = true) ∧ n ≠ src.toNat)
    ∧ (∃ (src : BitVec 10) (level : Bool) (cfg : Option (BitVec 5)) (s : State), s.pwrok = true ∧ sourceExists src.toNat = true ∧
      src ≠ 1023 ∧ (∀ (m : Nat), m < 4 → (s.steward m).asleep = false) ∧ (cfg = none ∨ s.queueTakes (fromSteward 0) = true) ∧ cfg = none)
    ∧ (∃ (m : Fin 4) (n : Nat) (rest : List Nat) (s : State) (j : Nat), s.pwrok = true ∧ (s.steward m).asleep = false ∧
      s.queueTakes (fromSteward m) = true ∧ s.queueTakes (toSteward m) = true ∧ s.pendingFor m = n :: rest ∧ j ≠ n)
    ∧ (∃ (m : Fin 4) (s : State), s.pwrok = true ∧ (s.steward m).asleep = false ∧ s.queueTakes (fromSteward m) = true ∧
      s.queueTakes (toSteward m) = true ∧ s.pendingFor m = [])
    ∧ (∃ (a b : Fin 4) (n : Nat) (rest : List Nat) (s : State) (m : Nat) (l : List Nat) (j : Nat), a < b ∧ s.pwrok = true ∧
      (s.steward a).asleep = false ∧ (s.steward b).asleep = false ∧ (∀ (m : Fin 4), m = a ∨ m = b → s.queueTakes (fromSteward m) = true ∧
      s.queueTakes (toSteward m) = true) ∧ s.pendingFor a = n :: rest ∧ List.filter (fun x => x != n) (s.pendingFor b) = m :: l ∧ j ≠ n ∧
      j ≠ m)
    ∧ (∃ (a b : Fin 4) (n : Nat) (rest : List Nat) (s : State) (j : Nat), a < b ∧ s.pwrok = true ∧ (s.steward a).asleep = false ∧
      (s.steward b).asleep = false ∧ (∀ (m : Fin 4), m = a ∨ m = b → s.queueTakes (fromSteward m) = true ∧
      s.queueTakes (toSteward m) = true) ∧ s.pendingFor a = n :: rest ∧ List.filter (fun x => x != n) (s.pendingFor b) = [] ∧ j ≠ n)
    ∧ (∃ (m : Fin 4) (src : BitVec 10) (s : State) (n : Nat), s.pwrok = true ∧ (s.source src.toNat).claimed = some m ∧
      (∀ (j : Nat), j < 4 → (s.steward j).asleep = false) ∧ s.queueTakes (fromSteward m) = true ∧ n ≠ src.toNat)
    ∧ (∃ (m : Fin 4) (s : State), (s.queueRoom (fromSteward m) = false ∨ s.queueRoom (toSteward m) = false))
    ∧ (∃ (m : Fin 4) (s : State) (j : Nat), s.pwrok = true ∧ (∀ (j : Nat), j < 4 → (s.steward j).asleep = false) ∧ s.pendingFor m = [] ∧
      j ≠ m.val)
    ∧ (∃ (m : Fin 4) (src : BitVec 10) (s : State), s.pwrok = true ∧ sourceExists src.toNat = true ∧ src ≠ 1023 ∧
      (s.steward m).asleep = true ∧ (s.steward m).retained = [(src.toNat, s.source src.toNat)] ∧
      (s.source src.toNat).target.toNat.testBit m = true ∧ (s.source src.toNat).enable = true ∧ (s.source src.toNat).claimed = none ∧
      (∀ (j : Nat), j < 4 → j ≠ m.val → (s.steward j).asleep = false) ∧ src.toNat ∈ s.sources.keys)
    ∧ (∃ (s : State), s.portSpeaks = true ∧ s.obj 0x110002 = 0 ∧ (∀ (m : Nat), m < 4 → (s.steward m).asleep = false))
    ∧ (∃ (s : State), s.portSpeaks = true ∧ s.collided = false ∧ (∀ (m : Nat), m < 4 → (s.steward m).asleep = false))
    ∧ (∃ (r : Req) (s : State), s.portSpeaks = true ∧ r.port = dictPort ∧ r.addrOk = true ∧ r.node.toNat = r.src.val ∧ r.version = 1 ∧
      r.reservedOp = none ∧ r.resp = true ∧ r.src = 0 ∧ dictIn.all s.queueTakes = true)
    ∧ (∃ (r : Req) (s : State), s.portSpeaks = true ∧ r.port = dictPort ∧ (r.addrOk = false ∨ r.node.toNat ≠ r.src.val))
    ∧ (∃ (seq : BitVec 16) (n : Notice) (s : State), s.portSpeaks = true ∧ dictOut.all s.queueTakes = true ∧
      List.find? (fun x => x.seq == seq) s.notices = some n ∧ n.sent.toNat + s.live 0x112005 * 1000000000 < 2 ^ 64) :=
  ⟨⟨0x1DF, true, some 0x1F, up, 0, by decide +kernel⟩,
   ⟨0x1DF, true, none, up, by decide +kernel⟩,
   ⟨1, 5, [9], { up with sources := [(5, { aimed with asserted := true }), (9, { aimed with asserted := true })] }, 9, by decide +kernel⟩,
   ⟨1, up, by decide +kernel⟩,
   ⟨1, 2, 5, [9], { up with sources := [(5, { aimed with target := 6, asserted := true }), (9, { aimed with
       target := 6, asserted := true })] }, 9, [], 7, by decide +kernel⟩,
   ⟨1, 2, 5, [], { up with sources := [(5, { aimed with target := 6, asserted := true })] }, 7, by decide +kernel⟩,
   ⟨1, 5, { up with sources := [(5, { aimed with asserted := true, claimed := some 1 })] }, 0, by decide +kernel⟩,
   ⟨1, { up with dcqs := [(fromSteward 1, { Dcq.init with items := List.replicate 32 (queueItem 0) })] }, by decide +kernel⟩,
   ⟨1, { up with sources := [(5, aimed)] }, 0, by decide +kernel⟩,
   ⟨1, 5, { up with sources := [(5, aimed)], stewards := [(1, { asleep := true, retained := [(5, aimed)] })] }, by decide +kernel⟩,
   ⟨up, by decide +kernel⟩,
   ⟨up, by decide +kernel⟩,
   ⟨answer, noticed, by decide +kernel⟩,
   ⟨{ answer with node := 1 }, noticed, by decide +kernel⟩,
   ⟨3, { seq := 3, bits := 7, sent := 5000000000 }, noticed, by decide +kernel⟩⟩

theorem wit_JtagInstructions :
    (∃ (tok : BitVec 1024) (cert : Cert) (ok : Bool) (s : State), s.pwrok = true ∧ s.tokenOk tok cert ok = true)
    ∧ (∃ (tok : BitVec 1024) (cert : Cert) (ok : Bool) (s : State), s.pwrok = true ∧ s.tokenOk tok cert ok = false)
    ∧ (∃ (img : Bytes) (v : FwVerdict) (s : State), s.pwrok = true ∧ s.romHold = true ∧ s.flash.rootOk = true ∧
      s.flash.accepts (fwSlotOf img v) = true)
    ∧ (∃ (img : Bytes) (v : FwVerdict) (s : State), s.pwrok = true ∧ s.romHold = true ∧ s.flash.accepts (fwSlotOf img v) = false ∧
      s.flash.accepts s.flash.slotB = false) :=
  ⟨⟨token, certificate, true, up, by decide +kernel⟩,
   ⟨0, { usage := 0, key := [], rootSigOk := false, rootSigZero := false }, false, up, by decide +kernel⟩,
   ⟨firmware, ⟨true, true⟩, { up with romHold := true }, by decide +kernel⟩,
   ⟨[1], ⟨true, true⟩, { up with romHold := true }, by decide +kernel⟩⟩

theorem wit_SnapshotsAndEclipses :
    (∃ (r : Req) (s : State), s.takes opWrite r ∧ r.data = [1])
    ∧ (∃ (s : State) (u : BitVec 64) (k : Nat), s.latchAt = some u ∧ u.toNat ≤ s.ns.toNat ∧ k < 2 ^ 42)
    ∧ (∃ (s : State) (u : BitVec 64) (k : Nat), s.latchAt = some u ∧ u.toNat ≤ s.ns.toNat ∧ k < 6)
    ∧ (∃ (s : State) (u : BitVec 64), s.latchAt = some u ∧ s.ns.toNat < u.toNat)
    ∧ (∃ (r : Req) (p : Fin 4) (s : State) (q : Nat), s.takes opWrite r ∧ r.data = [BitVec.ofNat 8 (2 ^ p.val)] ∧
      s.authPasses opWrite (reqAt r 0x805002) = true ∧ p.val < s.partCount ∧ s.trip = false ∧ s.obj 0x805005 = 0 ∧ s.obj 0x805001 = 0 ∧
      s.maxCount p + 8 < 2 ^ 64 ∧ q ∈ s.quadsOf p)
    ∧ (∃ (q : Fin 4) (s : State) (u : BitVec 64) (n : Nat), s.trip = false ∧ (s.quad q).stopAt = some u ∧ (s.quad q).stopped = false ∧
      (s.quad q).count.toNat ≤ u.toNat ∧ u.toNat - (s.quad q).count.toNat ≤ (s.quad q).room ∧ n ∈ edgeQueues q)
    ∧ (∃ (p : Fin 4) (s : State) (k : Nat), s.trip = false ∧ s.eclipseByte p = 1 ∧ s.obj 0x805005 < 2 ^ 32 ∧
      (s.quadsOf p).all (fun q => (s.quad q).stopped) = true ∧ (∀ (k : Nat), k ∈ s.stacksOf p → (s.stack k).selfRefresh = false) ∧
      k ∈ s.stacksOf p)
    ∧ (∃ (p : Fin 4) (s : State) (q n : Nat), s.trip = false ∧ s.eclipseByte p = 1 ∧ s.obj 0x805005 < 2 ^ 32 ∧
      (s.quadsOf p).all (fun q => (s.quad q).stopped) = true ∧ (∀ (k : Nat), k ∈ s.stacksOf p → (s.stack k).selfRefresh = false) ∧
      q ∈ s.quadsOf p ∧ n ∈ edgeQueues q)
    ∧ (∃ (p : Fin 4) (s : State) (l : LoomId), s.trip = false ∧ s.eclipseByte p = 2 ∧ s.obj 0x805005 < 2 ^ 32 ∧
      (s.part p).snapAfter = false ∧ (s.part p).resumeOwed = false ∧ l.q.val ∈ s.quadsOf p)
    ∧ (∃ (p : Fin 4) (s : State) (l : LoomId), s.trip = false ∧ s.eclipseByte p = 2 ∧ s.obj 0x805005 < 2 ^ 32 ∧
      (s.part p).snapAfter = false ∧ (s.part p).resumeOwed = false ∧ l.q.val ∉ s.quadsOf p)
    ∧ (∃ (r : Req) (p : Fin 4) (s : State) (k : Nat), s.takes opWrite r ∧ r.data = [BitVec.ofNat 8 (2 ^ p.val)] ∧
      s.authPasses opWrite (reqAt r 0x805003) = true ∧ s.trip = false ∧ s.obj 0x805005 < 2 ^ 32 ∧ s.eclipseByte p = 3 ∧ k ∈ s.stacksOf p ∧
      (s.stack k).waiting = [] ∧ (s.stack k).writeBacks = [] ∧ (s.stack k).refreshDue = false)
    ∧ (∃ (p : Fin 4) (s : State) (q : Nat), s.pending = [] ∧ s.heldNext = none ∧ s.resuming = some p ∧ s.obj 0x805005 < 2 ^ 32 ∧
      q ∈ s.quadsOf p)
    ∧ (∃ (r : Req) (p : Fin 4) (s : State), s.takes opWrite r ∧ r.data = [BitVec.ofNat 8 (2 ^ p.val)] ∧
      s.authPasses opWrite (reqAt r 0x805004) = true ∧ s.obj 0x805005 < 2 ^ 32 ∧ s.eclipseByte p ≠ 0)
    ∧ (∃ (q p : Fin 4) (s : State), s.trip = true)
    ∧ (∃ (p : Fin 4) (s : State), s.live 0x808001 ≠ 0 ∧ s.live 0x808002 ≠ 1 ∧ s.jobState p = 5 ∧ s.eclipseByte p = 0 ∧
      (s.part p).window = false ∧ (s.part p).hangNs.toNat + s.live 0x808001 * 1000000 < 2 ^ 64) :=
  ⟨⟨frame 0x8000 1 [1], up, by decide +kernel⟩,
   ⟨{ up with latchAt := some 5000000000, counters := [(3, 7)] }, 5000000000, 3, by decide +kernel⟩,
   ⟨{ up with latchAt := some 5000000000, counters := [(3, 7)] }, 5000000000, 5, by decide +kernel⟩,
   ⟨{ up with latchAt := some 5000002000, counters := [(3, 7)] }, 5000002000, by decide +kernel⟩,
   ⟨authed opWrite (frame 0x8050 2 [1]), 0, atNode { up with quads := [(2, { Quad.init with count := 99 })] } operator, 3,
     by decide +kernel⟩,
   ⟨3, { up with quads := [(3, { Quad.init with stopAt := some 9 })] }, 9, 24, by decide +kernel⟩,
   ⟨0, { on up [(0x805005, 1)] with quads := (List.range 4).map (fun q => (q, { Quad.init with stopped := true })) }, 0,
     by decide +kernel⟩,
   ⟨0, { on up [(0x805005, 1)] with quads := (List.range 4).map (fun q => (q, { Quad.init with stopped := true })) }, 0, 0,
     by decide +kernel⟩,
   ⟨0, on up [(0x805005, 2)], corner, by decide +kernel⟩,
   ⟨0, apart (on up [(0x805005, 2)]), ⟨3, 19, 24⟩, by decide +kernel⟩,
   ⟨authed opWrite (frame 0x8050 3 [1]), 0, atNode { on up [(0x805005, 3)] with stackCtl := [(2, { Stack.init with
       selfRefresh := true, refreshWas := 1 })] } operator, 2, by decide +kernel⟩,
   ⟨0, on up [(0x805005, 4)], 3, by decide +kernel⟩,
   ⟨authed opWrite (frame 0x8050 4 [1]), 0, atNode (on up [(0x805005, 3)]) operator, by decide +kernel⟩,
   ⟨0, 0, { up with trip := true }, by decide +kernel⟩,
   ⟨0, { on up [(0x907001, 5)] with inForce := [(0x808001, 100)] }, by decide +kernel⟩⟩

/-- A device whose next leaf, end and journal slot are these, with a report to sign. -/
def signing (nxt endLeaf : BitVec 21) (slot : BitVec 17) : State :=
  { up with sec := { Security.init with nxt := nxt, endLeaf := endLeaf, slot := slot, queue := [(.report 0, List.replicate 32 1)] } }

theorem wit_SignaturesTakeLeaves :
    (∃ (prog : List Bool) (part : BitVec 8) (b : Bytes) (rest : List (SignReq × Bytes)) (s : State), s.pwrok = true ∧ s.trip = false ∧
      s.sec.queue = (SignReq.report part, b) :: rest ∧ s.obj 0x600506 ≠ 1 ∧ s.sec.nxt ≠ s.sec.endLeaf)
    ∧ (∃ (n : Nat) (l : List Bool) (r : SignReq) (b : Bytes) (rest : List (SignReq × Bytes)) (s : State) (j : Nat), s.pwrok = true ∧
      s.trip = false ∧ s.sec.queue = (r, b) :: rest ∧ s.obj 0x600506 ≠ 1 ∧ s.sec.nxt = s.sec.endLeaf ∧
      s.sec.endLeaf.toNat < 2 ^ 20 ∧ n < 3 ∧ s.sec.slot.toNat + n < 65536 ∧ j < n)
    ∧ (∃ (n : Nat) (l : List Bool) (part : BitVec 8) (b : Bytes) (rest : List (SignReq × Bytes)) (s : State), s.pwrok = true ∧
      s.trip = false ∧ s.sec.queue = (SignReq.report part, b) :: rest ∧ s.obj 0x600506 ≠ 1 ∧ s.sec.nxt = s.sec.endLeaf ∧
      s.sec.endLeaf.toNat < 2 ^ 20 ∧ (n = 3 ∧ s.sec.slot.toNat + n ≤ 65536 ∨ n < 3 ∧ s.sec.slot.toNat + n = 65536))
    ∧ (∃ (prog : List Bool) (part : BitVec 8) (b : Bytes) (rest : List (SignReq × Bytes)) (s : State), s.pwrok = true ∧ s.trip = false ∧
      s.sec.queue = (SignReq.report part, b) :: rest ∧ s.obj 0x600506 ≠ 1 ∧ s.sec.nxt = s.sec.endLeaf ∧ 2 ^ 20 ≤ s.sec.endLeaf.toNat)
    ∧ (∃ (prog : List Bool) (s t : State), exec (.signatureComplete prog) s = .next t)
    ∧ (∃ (prog : List Bool) (p : Fin 4) (n : BitVec 64) (b : Bytes) (rest : List (SignReq × Bytes)) (s : State), s.pwrok = true ∧ s.trip = false ∧
      s.sec.queue = (SignReq.runRecord p n, b) :: rest ∧ s.memStopped p = true ∧ s.obj 0x600506 ≠ 1 ∧ s.sec.nxt ≠ s.sec.endLeaf)
    ∧ (∃ (prog : List Bool) (part : BitVec 8) (b : Bytes) (rest : List (SignReq × Bytes)) (s : State), s.pwrok = true ∧ s.trip = false ∧
      s.sec.queue = (SignReq.report part, b) :: rest ∧ s.obj 0x600506 = 1) :=
  ⟨⟨[], 0, List.replicate 32 1, [], signing 3 16 1, by decide +kernel⟩,
   ⟨1, [true], .report 0, List.replicate 32 1, [], signing 1048575 1048575 0, 0, by decide +kernel⟩,
   ⟨3, [], 0, List.replicate 32 1, [], signing 1048575 1048575 65533, by decide +kernel⟩,
   ⟨default, 0, List.replicate 32 1, [], signing 1048576 1048576 0, by decide +kernel⟩,
   ⟨[], signing 3 16 1, after (exec (.signatureComplete []) (signing 3 16 1)), after_next (by decide +kernel)⟩,
   ⟨[], 0, 4, [1], [], flushed { up with sec := { Security.init with nxt := 3, endLeaf := 16, queue := [(.runRecord 0 4, [1])] } }, by decide +kernel⟩,
   ⟨[], 0, List.replicate 32 1, [], (signing 3 16 1).setObj 0x600506 1, by decide +kernel⟩⟩

theorem wit_ControlMessagesStayInside :
    ∃ (p : Fin 4) (s t : State) (l : LoomId) (q k o w y j n : Nat) (i : Fin 4) (ref : Nat),
      (∃ m, (∃ ok oks, exec (.load p m ok oks) s = .next t) ∨
      (∃ oks, exec (.loadAmend p m oks) s = .next t) ∨ (∃ img, exec (.arm p m img) s = .next t) ∨ exec (.start p m) s = .next t ∨
      exec (.stepLimit p m) s = .next t ∨ exec (.checkpointTake p m) s = .next t ∨ exec (.checkpointRelease p m) s = .next t ∨
      exec (.halt p m) s = .next t ∨ exec (.haltUnload p m) s = .next t ∨ exec (.query p m) s = .next t ∨
      exec (.fieldTest p m) s = .next t) ∧ s.statusOf i ref ∧ i ≠ p ∧ s.partOfQuad l.q ≠ p ∧ s.partOfQuad q ≠ p ∧ s.partOfStack k ≠ p ∧
      o < 2 ^ 36 ∧ w < 2 ^ 30 ∧ s.queuePart y = some j ∧ j ≠ p.val ∧ (y < 512 ∨ 1024 ≤ y ∧ y ≤ 1059) ∧ n / 2 ^ 22 % 4 ≠ p ∧ n / 2 ^ 24 ≠ 8 :=
  ⟨0, apart (job 0 member), after (exec (.query 0 (message 0 [])) (apart (job 0 member))), ⟨3, 19, 24⟩, 3, 5, 2 ^ 36 - 1, 2 ^ 30 - 1, 0x10A, 1,
    0x1400000, 1, 0x401507,
    ⟨message 0 [], by (iterate 9 right); left; exact after_next (by decide +kernel)⟩,
    Or.inr ⟨5, by decide +kernel, Or.inl (by decide)⟩, by decide +kernel⟩

/-- A LOAD of `jobManifest`. -/
def loadMessage : Ctl :=
  message 0 (leBytes 1 0 ++ leBytes 4 (jobManifest.length + 2820) ++ jobManifest ++ List.replicate 2820 0 ++ leBytes 2 0)

/-- A device that knows the job controller's key. -/
def ready : State := (job 0 (online Part.init)).setObj 0x902001 jcDigest

/-- A message that amends the job. -/
def amendMessage : Ctl := message 0x01020304 (leBytes 1 1 ++ leBytes 4 0 ++ leBytes 2 1 ++ (amendment ++ List.replicate 2820 0))

theorem wit_Load :
    ∃ (p : Fin 4) (m : Ctl) (ok : Bool) (oks : List Bool) (s : State) (x : Part) (mine : Option Amend), s.hears p m 0 [0] ∧
      s.sec.jtagScope = 0 ∧ (loadBody m.body).flags = 0 ∧ (loadBody m.body).whole = true ∧
        s.placeManifest p (s.part p) (loadBody m.body) = (x, mine) ∧ x.manStructure (loadBody m.body).length = true ∧
          s.manifestRefusal p x (ok && (List.range (loadBody m.body).amends.length).all (fun i => oks.getD i false)) = none ∧
            (loadBody m.body).amends.all (fun b => (amendOf b).sound x.ranks && decide (field (amendOf b).bits.toNat 255 0 = leNat
              x.digest)) = true :=
  ⟨0, loadMessage, true, [], ready, (ready.placeManifest (0 : Fin 4) (ready.part (0 : Fin 4)) (loadBody loadMessage.body)).1,
      (ready.placeManifest (0 : Fin 4) (ready.part (0 : Fin 4)) (loadBody loadMessage.body)).2,
      by decide +kernel, by decide +kernel, by decide +kernel, by decide +kernel, Prod.mk.eta.symm, by decide +kernel,
      by decide +kernel, by decide +kernel⟩

theorem wit_LoadAndArm :
    (∃ (p : Fin 4) (m : Ctl) (ok : Bool) (oks : List Bool) (s : State) (x : Part) (mine : Option Amend),
      s.placeManifest p (s.part p) (loadBody m.body) = (x, mine) ∧ s.hears p m 0 [0] ∧ s.sec.jtagScope = 0 ∧ (loadBody m.body).flags = 0 ∧
      (loadBody m.body).whole = true ∧ x.manStructure (loadBody m.body).length = true ∧
      s.manifestRefusal p x (ok && (List.range (loadBody m.body).amends.length).all (fun i => oks.getD i false)) = none ∧
      (loadBody m.body).amends.all (fun b => (amendOf b).sound x.ranks && decide (field (amendOf b).bits.toNat 255 0 = leNat x.digest)) =
      true)
    ∧ (∃ (p : Fin 4) (m : Ctl) (b : Bytes) (s : State), s.hears p m (s.jobField p) [5] ∧ s.sec.jtagScope = 0 ∧
      (loadBody m.body).flags = 1 ∧ (loadBody m.body).whole = true ∧ (loadBody m.body).length = 0 ∧ (loadBody m.body).amends = [b] ∧
      s.amendRefusal p (amendOf b) true = 0)
    ∧ (∃ (p : Fin 4) (m : Ctl) (b : Bytes) (s : State) (r : Nat), s.hears p m (s.jobField p) [6] ∧ s.sec.jtagScope = 0 ∧
      (loadBody m.body).flags = 1 ∧ (loadBody m.body).whole = true ∧ (loadBody m.body).length = 0 ∧ (loadBody m.body).amends = [b] ∧
      s.amendRefusal p (amendOf b) true = 0 ∧ (amendOf b).start = s.passedStep p ∧ r ≠ (amendOf b).rank)
    ∧ (∃ (p : Fin 4) (m : Ctl) (img : Image) (s : State), s.quiet ∧ s.hears p m (s.jobField p) [1] ∧ m.body = [] ∧
      s.imageOk p img = false)
    ∧ (∃ (p : Fin 4) (m : Ctl) (img : Image) (s : State), s.quiet ∧ s.hears p m (s.jobField p) [1] ∧ m.body = [] ∧
      s.imageOk p img = true ∧ s.startBoundary p = 0 ∧ (s.part p).others ≠ [])
    ∧ (∃ (p : Fin 4) (s : State), s.jobState p = 2 ∧ s.armStep p = 7)
    ∧ (∃ (p : Fin 4) (s : State), s.jobState p = 2 ∧ s.armStep p = 8) :=
  ⟨⟨0, loadMessage, true, [], ready, (ready.placeManifest 0 (ready.part 0) (loadBody loadMessage.body)).1,
     (ready.placeManifest 0 (ready.part 0) (loadBody loadMessage.body)).2, Prod.mk.eta.symm, by decide +kernel⟩,
   ⟨0, amendMessage, amendment ++ List.replicate 2820 0, (job 5 member).setObj 0x902001 jcDigest, by decide +kernel⟩,
   ⟨0, amendMessage, amendment ++ List.replicate 2820 0, on (job 6 member) [(0x521001, 9), (0x902001, jcDigest)], 0, by decide +kernel⟩,
   ⟨0, message 0x01020304 [], { image0 with looms := 3 }, job 1 member, fun _ => rfl, by decide +kernel⟩,
   ⟨0, message 0x01020304 [], image1, job 1 member, fun _ => rfl, by decide +kernel⟩,
   ⟨0, job 2 { member with arming := { Arming.init with step := 7 } }, by decide +kernel⟩,
   ⟨0, job 2 { member with arming := { Arming.init with step := 8, status := 0x0A } }, by decide +kernel⟩⟩

/-- The links of port 0 are up with one lane each. -/
def wide : List (Nat × Nat) := ((List.range 8).map (fun k => [(0x504004 + 256 * k, 1), (0x504002 + 256 * k, 1)])).flatten

theorem wit_StartLimitAndHalt :
    (∃ (p : Fin 4) (m : Ctl) (v : Nat) (s : State), s.hears p m (s.jobField p) [3] ∧ bodyNat m 8 = some v ∧ s.startBoundary p ≤ v ∧
      s.narrowLink p = none ∧ (s.part p).rollDone = false)
    ∧ (∃ (p : Fin 4) (m : Ctl) (v : Nat) (s : State), s.hears p m (s.jobField p) [3] ∧ bodyNat m 8 = some v ∧ s.startBoundary p ≤ v ∧
      s.narrowLink p = none ∧ (s.part p).rollDone = true)
    ∧ (∃ (p : Fin 4) (m : Ctl) (v : Nat) (s : State), s.hears p m (s.jobField p) [4, 5, 6] ∧ bodyNat m 8 = some v ∧ s.stepNo p ≤ v ∧
      s.exState p ≠ 0 ∧ s.jobState p ≠ 6)
    ∧ (∃ (p : Fin 4) (m : Ctl) (v : Nat) (s : State), s.hears p m (s.jobField p) [5] ∧ bodyNat m 8 = some v ∧ s.stepNo p ≤ v ∧
      s.exState p = 0)
    ∧ (∃ (p : Fin 4) (m : Ctl) (v : Nat) (s : State), s.hears p m (s.jobField p) [6] ∧ bodyNat m 8 = some v ∧ s.stepNo p < v)
    ∧ (∃ (p : Fin 4) (m : Ctl) (c : Nat) (s : State), s.hears p m (s.jobField p) [4, 5, 6] ∧ bodyNat m 9 = some (256 * c) ∧
      s.passedStep p < c ∧ ¬s.obj (0x907007 + 256 * p.val) ∈ [1, 2] ∧ ¬(s.jobState p = 6 ∧ s.stepNo p = c))
    ∧ (∃ (p : Fin 4) (m : Ctl) (c : Nat) (s : State), s.hears p m (s.jobField p) [4, 5, 6] ∧ bodyNat m 9 = some (256 * c + 1) ∧
      (s.part p).hold = some (BitVec.ofNat 64 c))
    ∧ (∃ (p : Fin 4) (m : Ctl) (s : State), s.hears p m (s.jobField p) [5] ∧ bodyNat m 1 = some 0)
    ∧ (∃ (p : Fin 4) (m : Ctl) (s : State), s.hears p m (s.jobField p) [1, 2, 3, 4, 6] ∧ bodyNat m 1 = some 0)
    ∧ (∃ (p : Fin 4) (m : Ctl) (s : State), s.hears p m (s.jobField p) [1, 2, 3, 6, 7] ∧ bodyNat m 1 = some 1)
    ∧ (∃ (p : Fin 4) (m : Ctl) (s : State), s.hears p m 0 [0, 1, 2, 3, 4, 5, 6, 7] ∧ m.body = []) :=
  ⟨⟨0, message 0x01020304 (leBytes 8 9), 9, on (job 3 { member with peers := [(1, { Peer.init with state := 2 })] }) wide,
     by decide +kernel⟩,
   ⟨0, message 0x01020304 (leBytes 8 0), 0, on (job 3 { member with peers := [(1, { Peer.init with state := 4 })] }) wide,
     by decide +kernel⟩,
   ⟨0, message 0x01020304 (leBytes 8 9), 9, on (job 5 member) [(0x521001, 9), (0x521003, 2)], by decide +kernel⟩,
   ⟨0, message 0x01020304 (leBytes 8 9), 9, on (job 5 member) [(0x521001, 9)], by decide +kernel⟩,
   ⟨0, message 0x01020304 (leBytes 8 9), 9, on (job 6 member) [(0x521001, 8)], by decide +kernel⟩,
   ⟨0, message 0x01020304 (leBytes 9 (256 * 9)), 9, on (job 5 member) [(0x521001, 8)], by decide +kernel⟩,
   ⟨0, message 0x01020304 (leBytes 9 (256 * 9 + 1)), 9, on (job 6 { member with hold := some 9 }) [(0x521001, 9)], by decide +kernel⟩,
   ⟨0, message 0x01020304 [0], job 5 member, by decide +kernel⟩,
   ⟨0, message 0x01020304 [0], job 6 member, by decide +kernel⟩,
   ⟨0, message 0x01020304 [1], job 7 member, by decide +kernel⟩,
   ⟨0, message 0 [], job 5 member, by decide +kernel⟩⟩

/-- A pending test of unit `u`. -/
def test (u : BitVec 16) (running : Bool) : FTest :=
  { unit := u, part := 0, loom := loomOfNumber 2000 u.toNat, accepted := 1, running := running, overdue := false }

theorem wit_FieldTests :
    (∃ (p : Fin 4) (m : Ctl) (u : BitVec 16) (s : State), s.hears p m (s.jobField p) [0, 1, 2, 3, 4, 5, 6, 7] ∧
      m.body = leBytes 2 1 ++ leBytes 2 u.toNat ∧ s.testUnitOk p u = true ∧ (s.tests.all fun t => t.unit != u || t.part != p) = true ∧
      s.tests.length < 256)
    ∧ (∃ (u : BitVec 16) (x : FTest) (s : State), s.testsOnce ∧ s.trip = false ∧ s.testWaits u x ∧ ¬ u.toNat < 4096 ∧ s.testAllowed x)
    ∧ (∃ (u : BitVec 16) (x : FTest) (l : LoomId) (s : State), s.testsOnce ∧ l = x.loom ∧ s.trip = false ∧ s.testWaits u x ∧
      u.toNat < 4096 ∧ s.testAllowed x ∧ s.loomTests < 260)
    ∧ (∃ (u : BitVec 16) (x : FTest) (s : State), s.testWaits u x ∧ (¬s.testAllowed x ∨ u.toNat < 4096 ∧ 260 ≤ s.loomTests))
    ∧ (∃ (u : BitVec 16) (failed : Bool) (part : BitVec 8) (s : State), s.trip = true)
    ∧ (∃ (u : BitVec 16) (x : FTest) (failed : Bool) (part : BitVec 8) (s : State), s.testsOnce ∧ s.trip = false ∧ s.testRuns u x ∧
      (¬u.toNat < 4096 ∨ s.jobLoaded x.part = false))
    ∧ (∃ (u : BitVec 16) (x : FTest) (failed : Bool) (part : BitVec 8) (l : LoomId) (s : State), l = x.loom ∧ s.trip = false ∧
      s.testRuns u x ∧ u.toNat < 4096 ∧ s.jobLoaded x.part = true ∧ (s.restoreSections l).digestsMatch l = true)
    ∧ (∃ (u : BitVec 16) (x : FTest) (failed : Bool) (part : BitVec 8) (l : LoomId) (s : State), l = x.loom ∧ s.trip = false ∧
      s.testRuns u x ∧ u.toNat < 4096 ∧ s.jobState x.part ∈ [4, 5, 6] ∧ (s.restoreSections l).digestsMatch l = false ∧
      ((s.restoreSections l).restoreSections l).digestsMatch l = false) :=
  ⟨⟨0, message 0x01020304 (leBytes 2 1 ++ leBytes 2 4115), 4115, job 5 member, by decide +kernel⟩,
   ⟨4115, test 4115 false, { job 6 member with tests := [test 4115 false] }, once_of (by decide +kernel), by decide +kernel⟩,
   ⟨1999, test 1999 false, _, { job 6 member with tests := [test 1999 false] }, once_of (by decide +kernel), rfl, by decide +kernel⟩,
   ⟨4115, test 4115 false, { job 5 member with tests := [test 4115 false] }, by decide +kernel⟩,
   ⟨4115, true, 3, { job 6 member with trip := true, tests := [test 4115 true] }, by decide +kernel⟩,
   ⟨4115, test 4115 true, true, 3, { job 6 member with tests := [test 4115 true] }, once_of (by decide +kernel), by decide +kernel⟩,
   ⟨1999, test 1999 true, true, 3, _, { job 6 member with tests := [test 1999 true] }, rfl, by decide +kernel⟩,
   ⟨1999, test 1999 true, true, 3, _, { job 6 { member with image := some { image0 with
       loomImgs := [{ loom := ⟨3, 19, 24⟩, sections := [(0, [1], [0])] }] } } with tests := [test 1999 true] }, rfl, by decide +kernel⟩⟩

theorem wit_OverdueTests :
    (∃ (u : BitVec 16) (x : FTest) (s : State), s.testsOnce ∧ x ∈ s.tests ∧ x.unit = u ∧ x.overdue = false ∧
      (∀ (y : FTest), y ∈ s.tests → y.unit = u → y.overdue = false → y = x) ∧ x.accepted.toNat + 86400000000000 < 2 ^ 64)
    ∧ (∃ (u : BitVec 16) (s : State), (∀ (x : FTest), x ∈ s.tests → x.unit = u → x.overdue = true)) :=
  ⟨⟨4115, test 4115 true, { job 6 member with tests := [{ test 7 true with overdue := true }, test 4115 true] },
     once_of (by decide +kernel), by decide +kernel⟩,
   ⟨4115, { job 6 member with tests := [{ test 4115 true with overdue := true }] }, by decide +kernel⟩⟩

/-- A key-exchange message of the job controller to channel 0. -/
def called (type : BitVec 8) (len : BitVec 32) : KeyxHdr :=
  { frame := { k := 0, len := 100, vid := 0 }, type := type, channel := 0, sender := 0xFFFF
    target := 0xFF00, job := 0, reason := 0, len := len, spi := 5 }

/-- A key-exchange message of rank 1. -/
def ofRank1 (type : BitVec 8) (len : BitVec 32) : KeyxHdr :=
  { called type len with channel := 1, sender := 1, target := 0, job := 0x01020304 }

theorem wit_ControlChannels :
    (∃ (n : Fin 4) (r : Req) (s : State), s.takes opWrite (reqByte r 1) ∧ s.chanState n = 0)
    ∧ (∃ (n : Fin 4) (r : Req) (s : State), s.takes opWrite (reqByte r 0) ∧ (s.chanState n = 1 ∨ s.chanState n = 2))
    ∧ (∃ (n : Fin 4) (s : State), s.chanState n = 3)
    ∧ (∃ (n : Fin 4) (s : State), s.fwUp = true ∧ s.chanState n = 1 ∧ ((s.part n).qp 16384).live = false ∧ n.val < s.partCount)
    ∧ (∃ (n : Fin 4) (s : State), s.fwUp = true ∧ s.ready = true ∧ s.chanState n = 1 ∧ n.val < s.partCount ∧
      (s.part n).lastCall.toNat + 1000000000 < 2 ^ 64 ∧ (s.part n).lastCall ≠ 0)
    ∧ (∃ (n : Fin 4) (h : KeyxHdr) (nonce : BitVec 256) (pub : Bytes) (s : State), s.admits n h.frame ∧
      (s.rxChannel n h 2 (32 + List.length pub)).snd = true ∧ s.ready = true ∧ (s.chanState n = 1 ∨ (s.chanState n = 2 ∧
      underBudget s.ns (s.part n).cardTimes = true)) ∧ s.keyAuthorised (fitBytes 68 pub) = true)
    ∧ (∃ (n : Fin 4) (h : KeyxHdr) (ct : Bytes) (s : State) (k : Bytes),
      k = shake256 (ascii "KWFX" ++ Config.kemDecaps (s.part n).chanDk ct ++ digest256 ((s.part n).chanInit ++ (s.part n).chanCard ++ ct))
      32 ∧ s.admits n h.frame ∧ (s.rxChannel n h 4 (List.length ct + 2820)).snd = true ∧ (s.part n).chanCard ≠ [] ∧
      (s.chanState n = 1 ∨ s.chanState n = 2)) :=
  ⟨⟨0, frame 0x9010 8 [1], up, by decide +kernel⟩,
   ⟨0, frame 0x9010 8 [0], (atPart (net.setObj 0x901008 1) { member with chanKey := [1], chanDk := [2] }), by decide +kernel⟩,
   ⟨0, on up [(0x901009, 3)], by decide +kernel⟩,
   ⟨0, on up [(0x901009, 1)], by decide +kernel⟩,
   ⟨0, atPart (on up [(0x901001, 0), (0x901009, 1), (0x210001, 2), (0x504004, 1)]) { Part.init with lastCall := 7 }, by decide +kernel⟩,
   ⟨0, called 2 100, 9, List.replicate 68 0, on net [(0x901001, 0), (0x210001, 2), (0x902001, jcDigest)], by decide +kernel⟩,
   ⟨0, called 4 2823, [1, 2, 3], atPart (on net [(0x901001, 0), (0x901009, 1)]) { Part.init with chanCard := [1] }, _, rfl,
     by decide +kernel⟩⟩

/-- The keys of the job are being agreed; the own card is signed. -/
def agreeing (f : Part → Part) : State :=
  job 2 (f { member with arming := { Arming.init with step := 4 }, ownCard := [1]
                         peers := [(1, { Peer.init with ident := 16463529779638368223, state := 2 })] })

/-- A roll call of an amendment waits for the association with rank 1, whose ciphertext has not come. -/
def owingRoll : State :=
  (agreeing (fun x => { x with
    pairs := [(1, { Pair.init with sent := true, card := [1], ssOut := [2] })]
    arming := { x.arming with step := 7 }, rollOwed := [1] })).setObj 0x907001 6

theorem wit_JobKeys :
    (∃ (p : Fin 4) (h : KeyxHdr) (body : Bytes) (ok : Bool) (k : Nat) (s : State), s.admits p h.frame ∧
      (s.rxParty p h 3 (List.length body)).snd = true ∧ s.keysOpen p = true ∧ h.sender.toNat < (s.part p).parties ∧
      h.sender.toNat ≠ (s.part p).rank ∧ List.length body = 4740 ∧
      s.cardFor p h.sender.toNat (leNat (List.take 352 body)) ok = Except.ok k ∧ ((s.part p).pair k).sent = false)
    ∧ (∃ (p : Fin 4) (h : KeyxHdr) (ct : Bytes) (s : State) (v : Pair) (ss key : Bytes) (l : Nat), v = (s.part p).pair h.sender.toNat ∧
      ss = fitBytes 32 (Config.kemDecaps (s.part p).ownDk ct) ∧
      (key = if (s.part p).rank < h.sender.toNat then pairKey v.ssOut ss (s.part p).ownCard v.card else pairKey ss v.ssOut v.card (s.part
      p).ownCard) ∧ s.admits p h.frame ∧ (s.rxParty p h 5 (List.length ct)).snd = true ∧ s.keysOpen p = true ∧
      h.sender.toNat < (s.part p).parties ∧ h.sender.toNat ≠ (s.part p).rank ∧ (s.part p).ownCard ≠ [] ∧ List.length ct = 1568 ∧
      ((s.part p).pair h.sender.toNat).got = false ∧ v.sent = true ∧ l < (s.part p).paths)
    ∧ (∃ (p : Fin 4) (h : KeyxHdr) (ct : Bytes) (s : State) (v : Pair) (ss key : Bytes), v = (s.part p).pair h.sender.toNat ∧
      ss = fitBytes 32 (Config.kemDecaps (s.part p).ownDk ct) ∧
      (key = if (s.part p).rank < h.sender.toNat then pairKey v.ssOut ss (s.part p).ownCard v.card else pairKey ss v.ssOut v.card (s.part
      p).ownCard) ∧ s.admits p h.frame ∧ (s.rxParty p h 5 (List.length ct)).snd = true ∧ s.keysOpen p = true ∧
      h.sender.toNat < (s.part p).parties ∧ h.sender.toNat ≠ (s.part p).rank ∧ (s.part p).ownCard ≠ [] ∧ List.length ct = 1568 ∧
      ((s.part p).pair h.sender.toNat).got = false ∧ v.sent = false)
    ∧ (∃ (p : Fin 4) (h : KeyxHdr) (ct : Bytes) (s : State) (v : Pair) (ss key : Bytes), v = (s.part p).pair h.sender.toNat ∧
      ss = fitBytes 32 (Config.kemDecaps (s.part p).ownDk ct) ∧
      (key = if (s.part p).rank < h.sender.toNat then pairKey v.ssOut ss (s.part p).ownCard v.card else pairKey ss v.ssOut v.card (s.part
      p).ownCard) ∧ s.admits p h.frame ∧ (s.rxParty p h 5 (List.length ct)).snd = true ∧ s.keysOpen p = true ∧
      h.sender.toNat < (s.part p).parties ∧ h.sender.toNat ≠ (s.part p).rank ∧ (s.part p).ownCard ≠ [] ∧ List.length ct = 1568 ∧
      ((s.part p).pair h.sender.toNat).got = false ∧ v.sent = true ∧ key ≠ [] ∧ s.armStep p = 7 ∧ (s.jobState p = 5 ∨ s.jobState p = 6) ∧
      (s.part p).rollOwed = [h.sender.toNat])
    ∧ (∃ (p : Fin 4) (q : Nat) (s : State), s.armStep p = 4 ∧ List.find? (fun j => !(s.part p).hasKey j) (s.part p).others = some q ∧
      (s.part p).arming.since.toNat + s.live 0x510004 * 1000000 < 2 ^ 64) :=
  ⟨⟨0, ofRank1 3 4740, (leBytes 352 (2 ^ 64 + leNat [1, 2, 3, 4] * 2 ^ 1024)) ++ List.replicate 4388 0, true, 1, agreeing id,
     by decide +kernel⟩,
   ⟨0, ofRank1 5 1568, List.replicate 1568 1, agreeing (fun x => { x with pairs := [(1, { Pair.init with
       sent := true, card := [1], ssOut := [2] })] }), _, _, _, 0, rfl, rfl, rfl, by decide +kernel⟩,
   ⟨0, ofRank1 5 1568, List.replicate 1568 1, agreeing id, _, _, _, rfl, rfl, rfl, by decide +kernel⟩,
   ⟨0, ofRank1 5 1568, List.replicate 1568 1, owingRoll, _, _, _, rfl, rfl, rfl, by decide +kernel⟩,
   ⟨0, 1, agreeing id, by decide +kernel⟩⟩

/-- A request of the service. -/
def asks (rkey : BitVec 32) (va : BitVec 64) (data : Bytes) (len : BitVec 32) : SvcReq :=
  { pkt := packetOn 8, rkey := rkey, va := va, data := data, len := len }

theorem wit_ServicePeers :
    (∃ (p : Fin 4) (w : SvcReq) (r : Nat) (s : State) (a : Nat × Nat), s.quiet ∧ a = s.regionWord p r w.va.toNat ∧ s.svcParty p w = true ∧
      s.inOrder p w.pkt 1 ∧ s.svcRegion p w = some r ∧ (s.part p).regionKind r ≠ 4 ∧ s.svcMayWrite p r w = true ∧ 0 < List.length w.data ∧
      w.va.toNat % 64 + List.length w.data ≤ 64)
    ∧ (∃ (p : Fin 4) (w : SvcReq) (r : Nat) (s : State), s.wordsApart p r w.va.toNat (List.length w.data) ∧ s.quiet ∧
      s.svcParty p w = true ∧ s.inOrder p w.pkt (packetsOf (List.length w.data)) ∧ s.svcRegion p w = some r ∧
      (s.part p).regionKind r ≠ 4 ∧ s.svcMayWrite p r w = true)
    ∧ (∃ (p : Fin 4) (w : SvcReq) (r : Nat) (s : State) (k : Nat), s.wordsApart p r w.va.toNat (List.length w.data) ∧ s.quiet ∧
      k = ringKey r (w.va.toNat / (s.part p).ringBytes r) ∧ s.svcParty p w = true ∧ s.inOrder p w.pkt (packetsOf (List.length w.data)) ∧
      s.svcRegion p w = some r ∧ (s.part p).regionKind r = 4 ∧ s.svcRight p w 0 = true ∧ s.ringWriteOk p r w = true)
    ∧ (∃ (p : Fin 4) (w : SvcReq) (s : State), s.svcParty p w = true ∧ s.inOrder p w.pkt (packetsOf (List.length w.data)) ∧
      s.svcRegion p w = none)
    ∧ (∃ (p : Fin 4) (w : SvcReq) (r : Nat) (imm : BitVec 32) (n : Nat) (s : State) (k : Nat),
      n = s.ringStep p r (w.va.toNat / (s.part p).ringBytes r) ∧ k = ringKey r (w.va.toNat / (s.part p).ringBytes r) ∧
      s.svcParty p w = true ∧ s.inOrder p w.pkt (packetsOf (List.length w.data)) ∧ s.svcRegion p w = some r ∧
      (s.part p).regionKind r = 4 ∧ s.svcRight p w 0 = true ∧ s.ringWriteOk p r w = true ∧ w.data = [] ∧ imm.toNat = n % 2 ^ 32)
    ∧ (∃ (p : Fin 4) (w : SvcReq) (r : Nat) (imm : BitVec 32) (s : State), s.svcParty p w = true ∧
      s.inOrder p w.pkt (packetsOf (List.length w.data)) ∧ s.svcRegion p w = some r ∧ (s.part p).regionKind r = 4 ∧
      imm.toNat ≠ s.ringStep p r (w.va.toNat / Nat.max 1 ((s.part p).ringBytes r)) % 2 ^ 32)
    ∧ (∃ (p : Fin 4) (w : SvcReq) (r : Nat) (s : State), s.quiet ∧ s.svcParty p w = true ∧ s.inOrder p w.pkt 1 ∧
      s.svcRegion p w = some r ∧ s.svcMayRead p r w = true ∧ s.poisonIn p r w.va.toNat w.len.toNat = 0 ∧ s.sends p (pktQpn w.pkt))
    ∧ (∃ (p : Fin 4) (w : SvcReq) (r : Nat) (s : State), s.svcParty p w = true ∧ s.inOrder p w.pkt 1 ∧ s.svcRegion p w = some r ∧
      s.svcMayRead p r w = false) :=
  ⟨⟨0, asks 0x7B000008 100 [1, 2, 3] 3, 8, job 1 member, _, fun _ => rfl, rfl, by decide +kernel⟩,
   ⟨0, asks 0x7B000008 100 [1, 2, 3] 3, 8, job 1 member, apart_of (by decide +kernel), fun _ => rfl, by decide +kernel⟩,
   ⟨0, asks 0x7B000004 256 [1, 2, 3] 3, 4, job 5 member, _, apart_of (by decide +kernel), fun _ => rfl, rfl, by decide +kernel⟩,
   ⟨0, asks 0x7B00000A 0 [1] 1, job 1 member, by decide +kernel⟩,
   ⟨0, asks 0x7B000004 256 [] 0, 4, 1, _, job 5 member, _, rfl, rfl, by decide +kernel⟩,
   ⟨0, asks 0x7B000004 256 [1, 2, 3] 3, 4, 2, job 5 member, by decide +kernel⟩,
   ⟨0, asks 0x7B000001 0 [] 70, 1, job 7 member, fun _ => rfl, by decide +kernel⟩,
   ⟨0, asks 0x7B000001 0 [] 70, 1, job 5 member, by decide +kernel⟩⟩

/-- A result of a lane that trained, and of one that failed step 2. -/
def goodLane : LaneResult := { step := 0, snr := 1, ber := 1, ms := 1 }
def badLane : LaneResult := { goodLane with step := 2 }

/-- Link 47 is up; its state is `x`. -/
def link47 (x : Link) : State := { on up [(0x504004 + 256 * 47, 1)] with links := [(47, x)] }

def frameOn0 : Frame := { k := 0, len := 64, vid := 0 }

theorem wit_PortsAndNeighbours :
    (∃ (p : Fin 6) (r : Req) (s : State) (k : Nat), s.takes opWrite (reqByte r 1) ∧ s.obj (portRef p 5) = 0 ∧ s.trip = false ∧
      s.stepResult 2 = 2 ∧ k ∈ s.linksOf p)
    ∧ (∃ (p : Fin 6) (r : Req) (s : State) (k : Nat), s.takes opWrite (reqByte r 0) ∧ s.jobLoaded (s.portOwner p) = false ∧
      (s.obj (portRef p 5) = 1 ∨ s.obj (portRef p 5) = 2) ∧ k ∈ s.linksOf p)
    ∧ (∃ (p : Fin 6) (s : State), s.obj (portRef p 5) = 3)
    ∧ (∃ (k : Fin 48) (lanes : List LaneResult) (first w : Nat) (s : State), (s.link k).attempt = some (first, w) ∧ w ≤ lanes.length ∧
      ((List.take w lanes).all fun r => r.step == 0) = true)
    ∧ (∃ (k : Fin 48) (lanes : List LaneResult) (first w : Nat) (good trained : List Nat) (s t : State),
      good = List.filter (fun i => Option.any (fun r => r.step == 0) (List.take w lanes)[i]?) (List.range (List.take w lanes).length) ∧
      trained = List.filter (fun l => decide (w ≠ s.nominal (k.val / 8)) && (decide (l < first) || decide (first + w ≤ l))) (s.link
      k).trained ++ List.map (fun i => first + i) good ∧ exec (.trainingAttemptComplete k lanes) s = .next t ∧
      (s.link k).attempt = some (first, w) ∧ good.length ≠ w ∧ (t.link k).attempt = none)
    ∧ (∃ (k : Fin 48) (s : State), s.fwUp = true ∧ s.linkOpen k 8 ∧ (s.live 0x510001).testBit (k.val / 8) = true)
    ∧ (∃ (k : Fin 48) (m : Lldp) (chassis : Nat) (s : State), chassis = leNat (fitBytes 32 m.chassis) ∧ s.fwUp = true ∧
      s.linkUp k = true ∧ s.queueTakes (512 + 2 * (k.val / 8)) = true)
    ∧ (∃ (k : Fin 48) (s : State) (u : BitVec 64), (s.link k).ttlUntil = some u)
    ∧ (∃ (k : Fin 48) (s : State) (a : Bytes × Nat), s.linkUp k = true ∧ a ∈ s.linkAddrs k 1 ∧ s.linkOpen k 0)
    ∧ (∃ (f : Frame) (target sender : Bytes) (mac : BitVec 48) (a : Bytes × Nat) (s : State), s.linkUp f.k = true ∧ s.frameBad f = false ∧
      s.queueTakes (512 + 2 * (f.k.val / 8)) = true ∧ List.find? (fun a => a.fst == addr16 target) (s.linkAddrs f.k 0) = some a ∧
      s.linkOpen f.k 0)
    ∧ (∃ (f : Frame) (addr : Bytes) (mac : BitVec 48) (s : State), s.linkUp f.k = true ∧ s.frameBad f = false ∧
      s.queueTakes (512 + 2 * (f.k.val / 8)) = true ∧ (s.link f.k).asked.contains (addr16 addr) = true)
    ∧ (∃ (k : Fin 48) (prio : Fin 8) (xoff : Bool) (s : State), xoff = true ∧ s.linkUp k = true ∧
      (s.obj (portRef (k.val / 8) 7)).testBit prio = true)
    ∧ (∃ (k : Fin 48) (prio : Fin 8) (xoff : Bool) (s : State), xoff = false ∧ s.linkUp k = true ∧
      (s.obj (portRef (k.val / 8) 7)).testBit prio = true ∧ s.queueTakes (513 + 2 * (k.val / 8)) = true)
    ∧ (∃ (k : Fin 48) (prio : Fin 8) (xoff : Bool) (s : State), xoff = false ∧ s.linkUp k = true ∧
      (s.obj (portRef (k.val / 8) 7)).testBit prio = true ∧ s.queueRoom (513 + 2 * (k.val / 8)) = false)
    ∧ (∃ (k : Fin 48) (prio : Fin 8) (xoff : Bool) (s : State), s.linkUp k = true ∧ (s.obj (portRef (k.val / 8) 7)).testBit prio = false) :=
  ⟨⟨5, frame 0x5005 4 [1], on up [(0x210102, 2)], 40, by decide +kernel⟩,
   ⟨5, frame 0x5005 4 [0], on up [(0x500505, 2), (0x500504, 1)], 40, by decide +kernel⟩,
   ⟨5, on up [(0x500505, 3)], by decide +kernel⟩,
   ⟨47, [goodLane], 0, 1, link47 { Link.init with attempt := some (0, 1) }, by decide +kernel⟩,
   ⟨0, [badLane], 0, 1, _, _, { on up [(0x500003, 1), (0x500001, 2)] with links := [(0, { Link.init with attempt := some (0, 1) })] },
     after (exec (.trainingAttemptComplete 0 [badLane]) ({ on up [(0x500003, 1), (0x500001, 2)] with links := [(0, { Link.init with
       attempt := some (0, 1) })] })), rfl, rfl, after_next (by decide +kernel), by decide +kernel⟩,
   ⟨47, { link47 Link.init with inForce := [(0x510001, 63)] }, by decide +kernel⟩,
   ⟨47, { chassis := [4, 1], port := [3], name := [65], ttl := 120 }, _, link47 { Link.init with chassis := some 9 }, rfl,
     by decide +kernel⟩,
   ⟨47, link47 { Link.init with ttlUntil := some 6000000000 }, 6000000000, by decide +kernel⟩,
   ⟨0, job 5 member, (leBytes 16 (leNat (addr16 [10, 0, 0, 9])), 0), by decide +kernel⟩,
   ⟨frameOn0, [10, 0, 0, 1], [10, 0, 0, 9], 7, (addr16 [10, 0, 0, 1], 0), job 5 member, by decide +kernel⟩,
   ⟨frameOn0, [10, 0, 0, 9], 7, { job 5 member with links := [(0, { Link.init with asked := [addr16 [10, 0, 0, 9]] })] },
     by decide +kernel⟩,
   ⟨47, 7, _, (link47 Link.init).setObj 0x500507 255, rfl, by decide +kernel⟩,
   ⟨47, 7, _, (link47 Link.init).setObj 0x500507 255, rfl, by decide +kernel⟩,
   ⟨47, 7, _, { (link47 Link.init).setObj 0x500507 255 with dcqs := [(523, { Dcq.init with
       items := List.replicate 1024 (queueItem 0) })] }, rfl, by decide +kernel⟩,
   ⟨47, 7, true, (link47 Link.init).setObj 0x500507 127, by decide +kernel⟩⟩

/-- A roll call runs; rank 1 has not answered. -/
def calling : State := (job 4 { member with peers := [(1, { Peer.init with ident := 7, state := 2 })] }).setObj 0x515002 1

/-- A greeting of rank 1. -/
def greeting1 : Word512 := BitVec.ofNat 512 (beNat [1, 2, 3, 4] * 2 ^ 256 + 1 * 2 ^ 240 + 2 * 2 ^ 208 + 7 * 2 ^ 48)

theorem wit_GreetingsAndRollCall :
    (∃ (p : Fin 4) (h : EspHdr) (r : Nat) (g : Word512) (s : State), r = h.qpn.toNat / 4 ∧ s.hearsGreeting p h ∧ s.greets p = true ∧
      r < (s.part p).ranks ∧ greetingReserved (BitVec.toNat g) = false ∧ s.greetingValid p r (BitVec.toNat g) = true)
    ∧ (∃ (p : Fin 4) (h : EspHdr) (r : Nat) (g : Word512) (s : State), r = h.qpn.toNat / 4 ∧ s.hearsGreeting p h ∧ s.greets p = true ∧
      r < (s.part p).ranks ∧ greetingReserved (BitVec.toNat g) = false ∧ s.greetingValid p r (BitVec.toNat g) = false)
    ∧ (∃ (p : Fin 4) (r : Nat) (s : State), s.rolling p = true ∧ s.greets p = true ∧ s.hubStopped p = false ∧
      ∀ k ∈ (s.part p).ownLinks, ((s.part p).sa (2 * (4 * r + (s.part p).linkIndex k))).key = [])
    ∧ (∃ (p : Fin 4) (s : State), s.rolling p = true ∧ (s.part p).rollNs.toNat + (s.part p).rollMs * 1000000 < 2 ^ 64) :=
  ⟨⟨0, packet.esp, _, greeting1, calling, rfl, by decide +kernel⟩,
   ⟨0, packet.esp, _, 0, calling, rfl, by decide +kernel⟩,
   ⟨0, 3, calling, by decide +kernel⟩,
   ⟨0, calling, by decide +kernel⟩⟩

theorem wit_TranscendentalSpecials :
    (∃ (p : Nat), p < 2 ^ 32 ∧ val32 p = Val.nan)
    ∧ (∃ (p n d : Nat) (e : Int), p < 2 ^ 32 ∧ val32 p = Val.fin true n d e ∧ n ≠ 0)
    ∧ (∃ (f : Nat → Nat) (p : Nat), f ∈ [exp2Fn, log2Fn, rcpFn, rsqrtFn, tanhFn] ∧ p < 2 ^ 32 ∧ val32 (f p) = Val.nan) :=
  ⟨⟨0xFFFFFFFF, by decide +kernel⟩,
   ⟨0x80000001, 1, 1, -149, by decide +kernel⟩,
   ⟨log2Fn, 0xBF800000, by simp, by decide +kernel⟩⟩

/-- Descriptors of the table's kinds. -/
def waitWord : Word512 := fields [(0, 1), (32, 1)]
def waitCycleWord (n : Nat) : Word512 := fields [(0, 2), (32, n)]
def loopWord : Word512 := fields [(0, 3), (32, 5)]
def matmulWord : Word512 := fields [(0, 0x10), (32, 1), (36, 1), (40, 1), (48, 1), (49, 1), (142, 100), (156, 200)]
def chainWord : Word512 := fields [(0, 0x40), (64, 255), (72, 255)]

theorem wit_SequencerIssues :
    (∃ (l : LoomId) (hit : Option LoomHit) (d : Word512) (s : State), s.atHead l 1 d ∧ harmless hit ∧ dField d 35 32 ≠ 0)
    ∧ (∃ (l : LoomId) (hit : Option LoomHit) (d : Word512) (s : State), s.atHead l 2 d ∧ harmless hit ∧ dField d 63 32 < s.elapsed l.q)
    ∧ (∃ (l : LoomId) (hit : Option LoomHit) (d : Word512) (s : State), s.atHead l 2 d ∧ harmless hit ∧ dField d 63 32 = s.elapsed l.q)
    ∧ (∃ (l : LoomId) (hit : Option LoomHit) (d : Word512) (s : State), s.atHead l 2 d ∧ harmless hit ∧ s.elapsed l.q < dField d 63 32)
    ∧ (∃ (l : LoomId) (o : BitVec 64) (s : State), (s.loom l).seq = SeqState.waitCycle o ∧ s.quadRuns l.q = true ∧
      o.toNat - s.elapsed l.q ≤ (s.quad l.q).room)
    ∧ (∃ (l : LoomId) (hit : Option LoomHit) (d : Word512) (s : State), s.atHead l 3 d ∧ harmless hit ∧ dField d 47 32 ≠ 0 ∧
      (s.loom l).loops.length < 4)
    ∧ (∃ (l : LoomId) (hit : Option LoomHit) (d : Word512) (f : LoopFrame) (r : List LoopFrame) (s : State), s.atHead l 4 d ∧
      harmless hit ∧ (s.loom l).loops = f :: r ∧ f.left = 0)
    ∧ (∃ (l : LoomId) (hit : Option LoomHit) (d : Word512) (f : LoopFrame) (r : List LoopFrame) (s : State), s.atHead l 4 d ∧
      harmless hit ∧ (s.loom l).loops = f :: r ∧ f.left ≠ 0)
    ∧ (∃ (l : LoomId) (hit : Option LoomHit) (d : Word512) (s : State), s.atHead l 5 d ∧ harmless hit ∧ (s.loom l).loops = [] ∧
      (s.loom l).block = none)
    ∧ (∃ (l : LoomId) (hit : Option LoomHit) (d : Word512) (s : State), s.atHead l 16 d ∧ harmless hit ∧ (s.loom l).arrayQ.length < 4 ∧
      (s.loom l).mmCheck d = none ∧ s.raceFree l)
    ∧ (∃ (l : LoomId) (hit : Option LoomHit) (d : Word512) (s : State), s.atHead l 64 d ∧ harmless hit ∧ (s.loom l).chainQ.length < 2 ∧
      (s.loom l).chainCheck d = none ∧ s.raceFree l)
    ∧ (∃ (c : LoomId → Option LoomHit → Instr) (kind : Nat) (u : UnitKind) (l : LoomId) (hit : Option LoomHit) (d : Word512) (s : State),
      (c, kind, u) ∈ [(Instr.matmul, 16, UnitKind.array), (Instr.chain, 64, UnitKind.chain), (Instr.add, 8193, UnitKind.vector),
      (Instr.dmaToLocal, 12288, UnitKind.dma), (Instr.dmaToHbm, 12289, UnitKind.dma)] ∧ s.atHead l kind d ∧ harmless hit ∧
      unitDepth u ≤ ((s.loom l).queue u).length ∧ hit = none) :=
  ⟨⟨corner, none, waitWord, running waitWord, by decide +kernel⟩,
   ⟨corner, none, waitCycleWord 7, { running (waitCycleWord 7) with quads := [(0, { Quad.init with count := 8 })] }, by decide +kernel⟩,
   ⟨corner, none, waitCycleWord 7, { running (waitCycleWord 7) with quads := [(0, { Quad.init with count := 7 })] }, by decide +kernel⟩,
   ⟨corner, none, waitCycleWord 7, running (waitCycleWord 7), by decide +kernel⟩,
   ⟨corner, 7, { loomOf { Loom.init with seq := .waitCycle 7 } with quads := [(0, { Quad.init with count := 3 })] }, by decide +kernel⟩,
   ⟨corner, none, loopWord, running loopWord, by decide +kernel⟩,
   ⟨corner, none, fields [(0, 4)], { body := 1, left := 0 }, [],
     loomOf { headOf (fields [(0, 4)]) with loops := [{ body := 1, left := 0 }] }, by decide +kernel⟩,
   ⟨corner, none, fields [(0, 4)], { body := 1, left := 2 }, [],
     loomOf { headOf (fields [(0, 4)]) with loops := [{ body := 1, left := 2 }] }, by decide +kernel⟩,
   ⟨corner, none, fields [(0, 5)], running (fields [(0, 5)]), by decide +kernel⟩,
   ⟨corner, none, matmulWord, running matmulWord, by decide +kernel⟩,
   ⟨corner, none, chainWord, running chainWord, by decide +kernel⟩,
   ⟨.dmaToHbm, 12289, .dma, corner, none, dmaWord 1, loomOf { headOf (dmaWord 1) with dmaQ := List.replicate 16 (inFlight 0 0) }, by simp,
     by decide +kernel⟩⟩

/-- The job of `jobManifest` computes; the corner loom stands at `d`. -/
def computing (d : Word512) : State := (jobLoom (headOf d)).setObj 0x521003 1

theorem wit_MistakesStopTheLoom :
    (∃ (l : LoomId) (hit : Option LoomHit) (d : Word512) (s : State), s.atHead l 16 d ∧ harmless hit ∧
      ((s.loom l).queue UnitKind.array).length < unitDepth UnitKind.array ∧ ((s.loom l).mmCheck d).isSome = true ∧
      s.exState (s.loomPart l) = 1)
    ∧ (∃ (l : LoomId) (hit : Option LoomHit) (d : Word512) (s : State), s.atHead l 64 d ∧ harmless hit ∧
      ((s.loom l).queue UnitKind.chain).length < unitDepth UnitKind.chain ∧ ((s.loom l).chainCheck d).isSome = true ∧
      s.exState (s.loomPart l) = 1)
    ∧ (∃ (l : LoomId) (hit : Option LoomHit) (d : Word512) (s : State), s.atHead l 12288 d ∧ harmless hit ∧
      ((s.loom l).queue UnitKind.dma).length < unitDepth UnitKind.dma ∧ (s.dmaCheck (s.loomPart l) 0 d).isSome = true ∧
      s.exState (s.loomPart l) = 1)
    ∧ (∃ (l : LoomId) (hit : Option LoomHit) (d : Word512) (s : State), s.atHead l 12289 d ∧ harmless hit ∧
      ((s.loom l).queue UnitKind.dma).length < unitDepth UnitKind.dma ∧ (s.dmaCheck (s.loomPart l) 1 d).isSome = true ∧
      s.exState (s.loomPart l) = 1)
    ∧ (∃ (l : LoomId) (hit : Option LoomHit) (d : Word512) (s : State), s.atHead l 12290 d ∧ harmless hit ∧
      ((s.loom l).queue UnitKind.dma).length < unitDepth UnitKind.dma ∧ (s.dmaCheck (s.loomPart l) 2 d).isSome = true ∧
      s.exState (s.loomPart l) = 1)
    ∧ (∃ (c : LoomId → Option LoomHit → Instr) (vop : Nat) (l : LoomId) (hit : Option LoomHit) (d : Word512) (s : State), (c,
      vop) ∈ [(Instr.add, 1), (Instr.sub, 2), (Instr.mul, 3), (Instr.fma, 4), (Instr.min, 5), (Instr.max, 6), (Instr.abs, 7), (Instr.neg,
      8), (Instr.cmplt, 9), (Instr.cmpeq, 10), (Instr.sel, 11), (Instr.cvt, 12), (Instr.exp2, 16), (Instr.log2, 17), (Instr.rcp, 18),
      (Instr.rsqrt, 19), (Instr.tanh, 20), (Instr.rsum, 32), (Instr.rmin, 33), (Instr.rmax, 34), (Instr.wsum, 35), (Instr.wadd, 36),
      (Instr.toT32, 48), (Instr.toVote, 49)] ∧ s.atHead l (8192 + vop) d ∧ harmless hit ∧
      ((s.loom l).queue UnitKind.vector).length < unitDepth UnitKind.vector ∧ ((s.loom l).vecCheck vop d).isSome = true ∧
      s.exState (s.loomPart l) = 1)
    ∧ (∃ (l : LoomId) (hit : Option LoomHit) (d : Word512) (s : State), s.atHead l 3 d ∧ harmless hit ∧
      (dField d 47 32 = 0 ∨ 4 ≤ (s.loom l).loops.length) ∧ s.exState (s.loomPart l) = 1)
    ∧ (∃ (l : LoomId) (hit : Option LoomHit) (s : State), s.seqRuns l = true ∧ harmless hit ∧
      ((s.loom l).seqIdx = 4096 ∨ descKind (SMap.get 0 (s.loom l).store (s.loom l).seqIdx.toNat) = 0) ∧ s.exState (s.loomPart l) = 1)
    ∧ (∃ (l : LoomId) (hit : Option LoomHit) (d : Word512) (s : State), s.atHead l 4 d ∧ harmless hit ∧ (s.loom l).loops = [])
    ∧ (∃ (l : LoomId) (hit : Option LoomHit) (d : Word512) (s : State), s.atHead l 5 d ∧ harmless hit ∧
      ((s.loom l).loops ≠ [] ∨ (s.loom l).block ≠ none)) :=
  ⟨⟨corner, none, fields [(0, 0x10), (32, 11)], computing (fields [(0, 0x10), (32, 11)]), by decide +kernel⟩,
   ⟨corner, none, fields [(0, 0x40), (32, 1)], computing (fields [(0, 0x40), (32, 1)]), by decide +kernel⟩,
   ⟨corner, none, fields [(0, 0x30), (36, 11)], computing (fields [(0, 0x30), (36, 11)]), by decide +kernel⟩,
   ⟨corner, none, fields [(0, 0x30), (32, 1), (36, 11)], computing (fields [(0, 0x30), (32, 1), (36, 11)]), by decide +kernel⟩,
   ⟨corner, none, fields [(0, 0x30), (32, 2), (36, 11)], computing (fields [(0, 0x30), (32, 2), (36, 11)]), by decide +kernel⟩,
   ⟨Instr.wsum, 0x23, corner, none, fields [(0, 0x20), (32, 0x23)], computing (fields [(0, 0x20), (32, 0x23)]), by simp,
     by decide +kernel⟩,
   ⟨corner, none, fields [(0, 3)], computing (fields [(0, 3)]), by decide +kernel⟩,
   ⟨corner, none, (jobLoom { headOf 0 with seqIdx := 4096 }).setObj 0x521003 1, by decide +kernel⟩,
   ⟨corner, none, fields [(0, 4)], computing (fields [(0, 4)]), by decide +kernel⟩,
   ⟨corner, none, fields [(0, 5)], loomOf { headOf (fields [(0, 5)]) with block := some (1, 1, 3) }, by decide +kernel⟩⟩

theorem wit_VectorOperations :
    (∃ (l : LoomId) (hit : Option LoomHit) (d : Word512) (s : State), s.atHead l (8192 + 1) d ∧ harmless hit ∧
      (s.loom l).vectorQ.length < 8 ∧ (s.loom l).vecCheck 1 d = none ∧ (∀ (o : Nat), o ∈ (s.loom l).vecPoison 1 d → o = 0) ∧ s.raceFree l)
    ∧ (∃ (l : LoomId) (hit : Option LoomHit) (d : Word512) (s : State), s.atHead l (8192 + 2) d ∧ harmless hit ∧
      (s.loom l).vectorQ.length < 8 ∧ (s.loom l).vecCheck 2 d = none ∧ (∀ (o : Nat), o ∈ (s.loom l).vecPoison 2 d → o = 0) ∧ s.raceFree l)
    ∧ (∃ (l : LoomId) (hit : Option LoomHit) (d : Word512) (s : State), s.atHead l (8192 + 3) d ∧ harmless hit ∧
      (s.loom l).vectorQ.length < 8 ∧ (s.loom l).vecCheck 3 d = none ∧ (∀ (o : Nat), o ∈ (s.loom l).vecPoison 3 d → o = 0) ∧ s.raceFree l)
    ∧ (∃ (l : LoomId) (hit : Option LoomHit) (d : Word512) (s : State), s.atHead l (8192 + 4) d ∧ harmless hit ∧
      (s.loom l).vectorQ.length < 8 ∧ (s.loom l).vecCheck 4 d = none ∧ (∀ (o : Nat), o ∈ (s.loom l).vecPoison 4 d → o = 0) ∧ s.raceFree l)
    ∧ (∃ (l : LoomId) (hit : Option LoomHit) (d : Word512) (s : State), s.atHead l (8192 + 5) d ∧ harmless hit ∧
      (s.loom l).vectorQ.length < 8 ∧ (s.loom l).vecCheck 5 d = none ∧ (∀ (o : Nat), o ∈ (s.loom l).vecPoison 5 d → o = 0) ∧ s.raceFree l)
    ∧ (∃ (l : LoomId) (hit : Option LoomHit) (d : Word512) (s : State), s.atHead l (8192 + 6) d ∧ harmless hit ∧
      (s.loom l).vectorQ.length < 8 ∧ (s.loom l).vecCheck 6 d = none ∧ (∀ (o : Nat), o ∈ (s.loom l).vecPoison 6 d → o = 0) ∧ s.raceFree l)
    ∧ (∃ (l : LoomId) (hit : Option LoomHit) (d : Word512) (s : State), s.atHead l (8192 + 7) d ∧ harmless hit ∧
      (s.loom l).vectorQ.length < 8 ∧ (s.loom l).vecCheck 7 d = none ∧ (∀ (o : Nat), o ∈ (s.loom l).vecPoison 7 d → o = 0) ∧ s.raceFree l)
    ∧ (∃ (l : LoomId) (hit : Option LoomHit) (d : Word512) (s : State), s.atHead l (8192 + 8) d ∧ harmless hit ∧
      (s.loom l).vectorQ.length < 8 ∧ (s.loom l).vecCheck 8 d = none ∧ (∀ (o : Nat), o ∈ (s.loom l).vecPoison 8 d → o = 0) ∧ s.raceFree l)
    ∧ (∃ (l : LoomId) (hit : Option LoomHit) (d : Word512) (s : State), s.atHead l (8192 + 9) d ∧ harmless hit ∧
      (s.loom l).vectorQ.length < 8 ∧ (s.loom l).vecCheck 9 d = none ∧ (∀ (o : Nat), o ∈ (s.loom l).vecPoison 9 d → o = 0) ∧ s.raceFree l)
    ∧ (∃ (l : LoomId) (hit : Option LoomHit) (d : Word512) (s : State), s.atHead l (8192 + 10) d ∧ harmless hit ∧
      (s.loom l).vectorQ.length < 8 ∧ (s.loom l).vecCheck 10 d = none ∧ (∀ (o : Nat), o ∈ (s.loom l).vecPoison 10 d → o = 0) ∧
      s.raceFree l)
    ∧ (∃ (l : LoomId) (hit : Option LoomHit) (d : Word512) (s : State), s.atHead l (8192 + 11) d ∧ harmless hit ∧
      (s.loom l).vectorQ.length < 8 ∧ (s.loom l).vecCheck 11 d = none ∧ (∀ (o : Nat), o ∈ (s.loom l).vecPoison 11 d → o = 0) ∧
      s.raceFree l)
    ∧ (∃ (l : LoomId) (hit : Option LoomHit) (d : Word512) (s : State), s.atHead l (8192 + 12) d ∧ harmless hit ∧
      (s.loom l).vectorQ.length < 8 ∧ (s.loom l).vecCheck 12 d = none ∧ (∀ (o : Nat), o ∈ (s.loom l).vecPoison 12 d → o = 0) ∧
      s.raceFree l)
    ∧ (∃ (l : LoomId) (hit : Option LoomHit) (d : Word512) (s : State), s.atHead l (8192 + 16) d ∧ harmless hit ∧
      (s.loom l).vectorQ.length < 8 ∧ (s.loom l).vecCheck 16 d = none ∧ (∀ (o : Nat), o ∈ (s.loom l).vecPoison 16 d → o = 0) ∧
      s.raceFree l)
    ∧ (∃ (l : LoomId) (hit : Option LoomHit) (d : Word512) (s : State), s.atHead l (8192 + 17) d ∧ harmless hit ∧
      (s.loom l).vectorQ.length < 8 ∧ (s.loom l).vecCheck 17 d = none ∧ (∀ (o : Nat), o ∈ (s.loom l).vecPoison 17 d → o = 0) ∧
      s.raceFree l)
    ∧ (∃ (l : LoomId) (hit : Option LoomHit) (d : Word512) (s : State), s.atHead l (8192 + 18) d ∧ harmless hit ∧
      (s.loom l).vectorQ.length < 8 ∧ (s.loom l).vecCheck 18 d = none ∧ (∀ (o : Nat), o ∈ (s.loom l).vecPoison 18 d → o = 0) ∧
      s.raceFree l)
    ∧ (∃ (l : LoomId) (hit : Option LoomHit) (d : Word512) (s : State), s.atHead l (8192 + 19) d ∧ harmless hit ∧
      (s.loom l).vectorQ.length < 8 ∧ (s.loom l).vecCheck 19 d = none ∧ (∀ (o : Nat), o ∈ (s.loom l).vecPoison 19 d → o = 0) ∧
      s.raceFree l)
    ∧ (∃ (l : LoomId) (hit : Option LoomHit) (d : Word512) (s : State), s.atHead l (8192 + 20) d ∧ harmless hit ∧
      (s.loom l).vectorQ.length < 8 ∧ (s.loom l).vecCheck 20 d = none ∧ (∀ (o : Nat), o ∈ (s.loom l).vecPoison 20 d → o = 0) ∧
      s.raceFree l)
    ∧ (∃ (l : LoomId) (hit : Option LoomHit) (d : Word512) (s : State), s.atHead l (8192 + 32) d ∧ harmless hit ∧
      (s.loom l).vectorQ.length < 8 ∧ (s.loom l).vecCheck 32 d = none ∧ (∀ (o : Nat), o ∈ (s.loom l).vecPoison 32 d → o = 0) ∧
      s.raceFree l)
    ∧ (∃ (l : LoomId) (hit : Option LoomHit) (d : Word512) (s : State), s.atHead l (8192 + 33) d ∧ harmless hit ∧
      (s.loom l).vectorQ.length < 8 ∧ (s.loom l).vecCheck 33 d = none ∧ (∀ (o : Nat), o ∈ (s.loom l).vecPoison 33 d → o = 0) ∧
      s.raceFree l)
    ∧ (∃ (l : LoomId) (hit : Option LoomHit) (d : Word512) (s : State), s.atHead l (8192 + 34) d ∧ harmless hit ∧
      (s.loom l).vectorQ.length < 8 ∧ (s.loom l).vecCheck 34 d = none ∧ (∀ (o : Nat), o ∈ (s.loom l).vecPoison 34 d → o = 0) ∧
      s.raceFree l)
    ∧ (∃ (l : LoomId) (hit : Option LoomHit) (d : Word512) (s : State), s.atHead l (8192 + 35) d ∧ harmless hit ∧
      (s.loom l).vectorQ.length < 8 ∧ (s.loom l).vecCheck 35 d = none ∧ (∀ (o : Nat), o ∈ (s.loom l).vecPoison 35 d → o = 0) ∧
      s.raceFree l)
    ∧ (∃ (l : LoomId) (hit : Option LoomHit) (d : Word512) (s : State), s.atHead l (8192 + 36) d ∧ harmless hit ∧
      (s.loom l).vectorQ.length < 8 ∧ (s.loom l).vecCheck 36 d = none ∧ (∀ (o : Nat), o ∈ (s.loom l).vecPoison 36 d → o = 0) ∧
      s.raceFree l)
    ∧ (∃ (l : LoomId) (hit : Option LoomHit) (d : Word512) (s : State), s.atHead l (8192 + 48) d ∧ harmless hit ∧
      (s.loom l).vectorQ.length < 8 ∧ (s.loom l).vecCheck 48 d = none ∧ (∀ (o : Nat), o ∈ (s.loom l).vecPoison 48 d → o = 0) ∧
      s.raceFree l)
    ∧ (∃ (l : LoomId) (hit : Option LoomHit) (d : Word512) (s : State), s.atHead l (8192 + 49) d ∧ harmless hit ∧
      (s.loom l).vectorQ.length < 8 ∧ (s.loom l).vecCheck 49 d = none ∧ (∀ (o : Nat), o ∈ (s.loom l).vecPoison 49 d → o = 0) ∧
      s.raceFree l) :=
  ⟨⟨corner, none, vectorWord 1 0, running (vectorWord 1 0), by decide +kernel⟩,
   ⟨corner, none, vectorWord 2 1, running (vectorWord 2 1), by decide +kernel⟩,
   ⟨corner, none, vectorWord 3 2, running (vectorWord 3 2), by decide +kernel⟩,
   ⟨corner, none, vectorWord 4 3, running (vectorWord 4 3), by decide +kernel⟩,
   ⟨corner, none, vectorWord 5 0, running (vectorWord 5 0), by decide +kernel⟩,
   ⟨corner, none, vectorWord 6 1, running (vectorWord 6 1), by decide +kernel⟩,
   ⟨corner, none, vectorWord 7 2, running (vectorWord 7 2), by decide +kernel⟩,
   ⟨corner, none, vectorWord 8 3, running (vectorWord 8 3), by decide +kernel⟩,
   ⟨corner, none, vectorWord 9 1, running (vectorWord 9 1), by decide +kernel⟩,
   ⟨corner, none, vectorWord 10 1, running (vectorWord 10 1), by decide +kernel⟩,
   ⟨corner, none, vectorWord 11 2, running (vectorWord 11 2), by decide +kernel⟩,
   ⟨corner, none, vectorWord 12 3, running (vectorWord 12 3), by decide +kernel⟩,
   ⟨corner, none, vectorWord 16 0, running (vectorWord 16 0), by decide +kernel⟩,
   ⟨corner, none, vectorWord 17 1, running (vectorWord 17 1), by decide +kernel⟩,
   ⟨corner, none, vectorWord 18 2, running (vectorWord 18 2), by decide +kernel⟩,
   ⟨corner, none, vectorWord 19 3, running (vectorWord 19 3), by decide +kernel⟩,
   ⟨corner, none, vectorWord 20 0, running (vectorWord 20 0), by decide +kernel⟩,
   ⟨corner, none, vectorWord 32 1, running (vectorWord 32 1), by decide +kernel⟩,
   ⟨corner, none, vectorWord 33 2, running (vectorWord 33 2), by decide +kernel⟩,
   ⟨corner, none, vectorWord 34 3, running (vectorWord 34 3), by decide +kernel⟩,
   ⟨corner, none, fields [(0, 0x20), (32, 35), (52, 10), (56, 1), (78, 2), (106, 4), (192, 1), (212, 4)], running (fields [(0, 0x20), (32,
     35), (52, 10), (56, 1), (78, 2), (106, 4), (192, 1), (212, 4)]), by decide +kernel⟩,
   ⟨corner, none, fields [(0, 0x20), (32, 36), (52, 10), (56, 1), (78, 2), (106, 4), (192, 1), (212, 4)], running (fields [(0, 0x20), (32,
     36), (52, 10), (56, 1), (78, 2), (106, 4), (192, 1), (212, 4)]), by decide +kernel⟩,
   ⟨corner, none, fields [(0, 0x20), (32, 0x30), (52, 9), (106, 3), (192, 2), (280, 32), (146, 3)], running (fields [(0, 0x20), (32,
     0x30), (52, 9), (106, 3), (192, 2), (280, 32), (146, 3)]), by decide +kernel⟩,
   ⟨corner, none, fields [(0, 0x20), (32, 0x31), (106, 3), (192, 2), (146, 3)], running (fields [(0, 0x20), (32, 0x31), (106, 3), (192,
     2), (146, 3)]), by decide +kernel⟩⟩

theorem wit_ConversionsAndPoisonAreCounted :
    (∃ (l : LoomId) (hit : Option LoomHit) (d : Word512) (s : State), s.atHead l (8192 + 12) d ∧ harmless hit ∧
      (s.loom l).vectorQ.length < 8 ∧ (s.loom l).vecCheck 12 d = none ∧ (∀ (o : Nat), o ∈ (s.loom l).vecPoison 12 d → o = 0) ∧
      s.raceFree l ∧ (vScaleD d).testBit 8 = false)
    ∧ (∃ (l : LoomId) (hit : Option LoomHit) (d : Word512) (s : State) (i : Nat), s.atHead l (8192 + 12) d ∧ harmless hit ∧
      (s.loom l).vectorQ.length < 8 ∧ (s.loom l).vecCheck 12 d = none ∧ (∀ (o : Nat), o ∈ (s.loom l).vecPoison 12 d → o = 0) ∧
      s.raceFree l ∧ (vScaleD d).testBit 8 = true ∧ i ≠ vScaleD d % 256)
    ∧ (∃ (l : LoomId) (hit : Option LoomHit) (d : Word512) (s : State), s.atHead l (8192 + 4) d ∧ harmless hit ∧
      (s.loom l).vectorQ.length < 8 ∧ (s.loom l).vecCheck 4 d = none ∧ (∀ (o : Nat), o ∈ (s.loom l).vecPoison 4 d → o = 0) ∧
      s.raceFree l ∧ (vScaleD d).testBit 8 = false)
    ∧ (∃ (l : LoomId) (hit : Option LoomHit) (d : Word512) (s : State) (i : Nat), s.atHead l (8192 + 4) d ∧ harmless hit ∧
      (s.loom l).vectorQ.length < 8 ∧ (s.loom l).vecCheck 4 d = none ∧ (∀ (o : Nat), o ∈ (s.loom l).vecPoison 4 d → o = 0) ∧
      s.raceFree l ∧ (vScaleD d).testBit 8 = true ∧ i ≠ vScaleD d % 256)
    ∧ (∃ (l : LoomId) (hit : Option LoomHit) (d : Word512) (s : State), s.atHead l (8192 + 32) d ∧ harmless hit ∧
      (s.loom l).vectorQ.length < 8 ∧ (s.loom l).vecCheck 32 d = none ∧ (∀ (o : Nat), o ∈ (s.loom l).vecPoison 32 d → o = 0) ∧
      s.raceFree l ∧ (vScaleD d).testBit 8 = false)
    ∧ (∃ (l : LoomId) (hit : Option LoomHit) (d : Word512) (s : State) (i : Nat), s.atHead l (8192 + 32) d ∧ harmless hit ∧
      (s.loom l).vectorQ.length < 8 ∧ (s.loom l).vecCheck 32 d = none ∧ (∀ (o : Nat), o ∈ (s.loom l).vecPoison 32 d → o = 0) ∧
      s.raceFree l ∧ (vScaleD d).testBit 8 = true ∧ i ≠ vScaleD d % 256)
    ∧ (∃ (l : LoomId) (hit : Option LoomHit) (d : Word512) (s : State), s.atHead l (8192 + 48) d ∧ harmless hit ∧
      (s.loom l).vectorQ.length < 8 ∧ (s.loom l).vecCheck 48 d = none ∧ (∀ (o : Nat), o ∈ (s.loom l).vecPoison 48 d → o = 0) ∧
      s.raceFree l ∧ (vScaleD d).testBit 8 = false)
    ∧ (∃ (l : LoomId) (hit : Option LoomHit) (d : Word512) (s : State) (i : Nat), s.atHead l (8192 + 48) d ∧ harmless hit ∧
      (s.loom l).vectorQ.length < 8 ∧ (s.loom l).vecCheck 48 d = none ∧ (∀ (o : Nat), o ∈ (s.loom l).vecPoison 48 d → o = 0) ∧
      s.raceFree l ∧ (vScaleD d).testBit 8 = true ∧ i ≠ vScaleD d % 256)
    ∧ (∃ (l : LoomId) (hit : Option LoomHit) (d : Word512) (s : State), s.atHead l (8192 + 49) d ∧ harmless hit ∧
      (s.loom l).vectorQ.length < 8 ∧ (s.loom l).vecCheck 49 d = none ∧ (∀ (o : Nat), o ∈ (s.loom l).vecPoison 49 d → o = 0) ∧
      s.raceFree l ∧ (vScaleD d).testBit 8 = false)
    ∧ (∃ (l : LoomId) (hit : Option LoomHit) (d : Word512) (s : State) (i : Nat), s.atHead l (8192 + 49) d ∧ harmless hit ∧
      (s.loom l).vectorQ.length < 8 ∧ (s.loom l).vecCheck 49 d = none ∧ (∀ (o : Nat), o ∈ (s.loom l).vecPoison 49 d → o = 0) ∧
      s.raceFree l ∧ (vScaleD d).testBit 8 = true ∧ i ≠ vScaleD d % 256)
    ∧ (∃ (l : LoomId) (i : BitVec 12) (d : Word512) (s : State), i = BitVec.ofNat 12 (s.loom l).seqIdx.toNat ∧ s.atHead l 8193 d ∧
      (s.part (s.loomPart l)).poisoned = false ∧ s.jobLive (s.loomPart l) = true)
    ∧ (∃ (l : LoomId) (hit : Option LoomHit) (d : Word512) (o : List Nat) (s : State) (i h : Nat), o = (s.loom l).vecPoison 1 d ∧
      s.atHead l 8193 d ∧ harmless hit ∧ (s.loom l).vectorQ.length < 8 ∧ (s.loom l).vecCheck 1 d = none ∧ firstOf o ≠ 0 ∧ s.raceFree l ∧
      o.getD i 0 ≠ 0 ∧ h ∈ halfLines (64 * dField d 119 106 + (elemBytes (fmtWidth (vFmtD d)) i).fst) ((elemBytes (fmtWidth (vFmtD d))
      i).snd + 1 - (elemBytes (fmtWidth (vFmtD d)) i).fst))
    ∧ (∃ (l : LoomId) (hit : Option LoomHit) (d : Word512) (o : List Nat) (s : State), o = (s.loom l).vecPoison 1 d ∧ s.atHead l 8193 d ∧
      harmless hit ∧ (s.loom l).vectorQ.length < 8 ∧ (s.loom l).vecCheck 1 d = none ∧ firstOf o ≠ 0 ∧ s.raceFree l ∧
      (s.part (s.loomPart l)).poisoned = false ∧ s.jobLive (s.loomPart l) = true ∧ s.exState (s.loomPart l) ∈ [1, 4])
    ∧ (∃ (l : LoomId) (hit : Option LoomHit) (d : Word512) (o : List Nat) (s : State), o = (s.loom l).vecPoison 1 d ∧ s.atHead l 8193 d ∧
      harmless hit ∧ (s.loom l).vectorQ.length < 8 ∧ (s.loom l).vecCheck 1 d = none ∧ firstOf o ≠ 0 ∧ s.raceFree l ∧
      (s.part (s.loomPart l)).poisoned = true) :=
  ⟨⟨corner, none, storeWord 12 3, running (storeWord 12 3), by decide +kernel⟩,
   ⟨corner, none, fields [(0, 0x20), (32, 12), (52, 3), (78, 1), (92, 2), (106, 3), (146, 261), (192, 3)],
     loomOf { headOf (fields [(0, 0x20), (32, 12), (52, 3), (78, 1), (92, 2), (106, 3), (146, 261), (192, 3)]) with
       scaleFile := [(5, 383)] }, 0, by decide +kernel⟩,
   ⟨corner, none, storeWord 4 3, running (storeWord 4 3), by decide +kernel⟩,
   ⟨corner, none, fields [(0, 0x20), (32, 4), (52, 3), (78, 1), (92, 2), (106, 3), (146, 261), (192, 3)],
     loomOf { headOf (fields [(0, 0x20), (32, 4), (52, 3), (78, 1), (92, 2), (106, 3), (146, 261), (192, 3)]) with
       scaleFile := [(5, 383)] }, 0, by decide +kernel⟩,
   ⟨corner, none, storeWord 32 3, running (storeWord 32 3), by decide +kernel⟩,
   ⟨corner, none, fields [(0, 0x20), (32, 32), (52, 3), (78, 1), (92, 2), (106, 3), (146, 261), (192, 3)],
     loomOf { headOf (fields [(0, 0x20), (32, 32), (52, 3), (78, 1), (92, 2), (106, 3), (146, 261), (192, 3)]) with
       scaleFile := [(5, 383)] }, 0, by decide +kernel⟩,
   ⟨corner, none, fields [(0, 0x20), (32, 0x30), (52, 9), (106, 3), (192, 2), (280, 32), (146, 127)], loomOf (headOf (fields [(0, 0x20),
     (32, 0x30), (52, 9), (106, 3), (192, 2), (280, 32), (146, 127)])), by decide +kernel⟩,
   ⟨corner, none, fields [(0, 0x20), (32, 0x30), (52, 9), (106, 3), (192, 2), (280, 32), (146, 261)],
     loomOf { headOf (fields [(0, 0x20), (32, 0x30), (52, 9), (106, 3), (192, 2), (280, 32), (146, 261)]) with scaleFile := [(5, 383)] },
     0, by decide +kernel⟩,
   ⟨corner, none, (waddWord 127), running ((waddWord 127)), by decide +kernel⟩,
   ⟨corner, none, (waddWord 261), loomOf { headOf (waddWord 261) with scaleFile := [(5, 383)] }, 0, by decide +kernel⟩,
   ⟨corner, _, vectorWord 1 0, (jobLoom { headOf (vectorWord 1 0) with poison := [(0, 5)] }).setObj 0x521003 1, rfl, by decide +kernel⟩,
   ⟨corner, none, vectorWord 1 0, _, { job 5 { member with inStep := true, poisoned := true } with
       looms := [(0, { headOf (vectorWord 1 0) with poison := [(0, 5)] })] }, 0, 6, rfl, by decide +kernel⟩,
   ⟨corner, none, vectorWord 1 0, _, (jobLoom { headOf (vectorWord 1 0) with poison := [(0, 5)] }).setObj 0x521003 1, rfl,
     by decide +kernel⟩,
   ⟨corner, none, vectorWord 1 0, _, { job 5 { member with inStep := true, poisoned := true } with
       looms := [(0, { headOf (vectorWord 1 0) with poison := [(0, 5)] })] }, rfl, by decide +kernel⟩⟩

/-- The state with these bytes at the beginning of region `r`. -/
def filled (r : Nat) (b : Bytes) (s : State) : State := { s with hbm := (s.writeRegion .engine 0 r 0 b false).hbm }

/-- The word at byte `off` of region `r` of partition 0 is poisoned. -/
def poisonAt (r off : Nat) (s : State) : State :=
  { s with hbmPoison := [((s.regionWord 0 r off).1 * 2 ^ 30 + (s.regionWord 0 r off).2, true)] }

/-- The stacks serve requests. -/
def served (s : State) : State := (List.range 20).foldl (fun t k => t.setObj (0x40100F + 256 * k) 0) s

/-- The job of `jobManifest` in a step that copies a parameter to region 6; the corner loom is `x`. -/
def copyLoom (copied : Bool) (x : Loom) : State :=
  { job 5 { member with inStep := true, image := some (stepImage [copyWord]), copied := copied } with looms := [(0, x)] }

theorem wit_DmaMovesRows :
    (∃ (l : LoomId) (hit : Option LoomHit) (d : Word512) (s : State) (i : Nat), s.quiet ∧ s.atHead l 12288 d ∧ harmless hit ∧
      (s.loom l).dmaQ.length < 16 ∧ s.dmaCheck (s.loomPart l) 0 d = none ∧
      (s.isCopyRegion (s.loomPart l) (mRegion d) = false ∨ (s.part (s.loomPart l)).copied = true) ∧ s.raceFree l ∧
      s.dmaReady l 0 d = true ∧ i < mRows d)
    ∧ (∃ (l : LoomId) (hit : Option LoomHit) (d : Word512) (s : State) (a : Nat), s.quiet ∧ s.atHead l 12288 d ∧ harmless hit ∧
      (s.loom l).dmaQ.length < 16 ∧ s.dmaCheck (s.loomPart l) 0 d = none ∧
      (s.isCopyRegion (s.loomPart l) (mRegion d) = false ∨ (s.part (s.loomPart l)).copied = true) ∧ s.raceFree l ∧
      s.dmaReady l 0 d = true ∧ (∀ (i : Nat), i < mRows d → a < 64 * (mLine d + i * mPitch d) ∨ 64 * (mLine d + i * mPitch d) + mRowBytes
      d ≤ a))
    ∧ (∃ (l : LoomId) (hit : Option LoomHit) (d : Word512) (s : State), s.quiet ∧ s.atHead l 12289 d ∧ harmless hit ∧
      (s.loom l).dmaQ.length < 16 ∧ s.dmaCheck (s.loomPart l) 1 d = none ∧ s.raceFree l ∧ s.dmaReady l 1 d = true)
    ∧ (∃ (l : LoomId) (hit : Option LoomHit) (d : Word512) (s : State) (k n : Nat), s.quiet ∧ s.atHead l 12290 d ∧ harmless hit ∧
      (s.loom l).dmaQ.length < 16 ∧ s.dmaCheck (s.loomPart l) 2 d = none ∧
      (s.isCopyRegion (s.loomPart l) (mRegion d) = false ∨ (s.part (s.loomPart l)).copied = true) ∧ s.raceFree l ∧
      s.dmaReady l 2 d = true ∧ k < 64 ∧ n < 64)
    ∧ (∃ (l : LoomId) (hit : Option LoomHit) (d : Word512) (s : State), s.atHead l 12288 d ∧ harmless hit ∧ (s.loom l).dmaQ.length < 16 ∧
      s.dmaCheck (s.loomPart l) 0 d = none ∧ s.isCopyRegion (s.loomPart l) (mRegion d) = true ∧ (s.part (s.loomPart l)).copied = false ∧
      s.raceFree l)
    ∧ (∃ (l : LoomId) (e : InFlight) (s : State) (i : Nat), s.quiet ∧ (s.loom l).seq = SeqState.commitWait ∧ s.quadRuns l.q = true ∧
      (s.part (s.loomPart l)).copied = true ∧ List.find? (fun e => e.waits) (s.loom l).dmaQ = some e ∧ dField e.desc 35 32 = 0 ∧
      ceilDiv (mRowBytes e.desc) 64 ≤ mPitch e.desc ∧ s.dmaReady l 0 e.desc = true ∧ i < mRows e.desc)
    ∧ (∃ (l : LoomId) (hit : Option LoomHit) (d : Word512) (s : State), s.atHead l 12288 d ∧ harmless hit ∧ (s.loom l).dmaQ.length < 16 ∧
      s.dmaCheck (s.loomPart l) 0 d = none ∧ (s.isCopyRegion (s.loomPart l) (mRegion d) = false ∨ (s.part (s.loomPart l)).copied = true) ∧
      s.raceFree l ∧ s.dmaReady l 0 d = false)
    ∧ (∃ (l : LoomId) (k : Fin 16) (e : InFlight) (s : State) (i : Nat), s.quiet ∧ s.quadRuns l.q = true ∧
      (s.loom l).dmaQ[k.val]? = some e ∧ e.phase = 0 ∧ e.waits = false ∧ dField e.desc 35 32 = 0 ∧
      ceilDiv (mRowBytes e.desc) 64 ≤ mPitch e.desc ∧ s.dmaReady l 0 e.desc = true ∧ i < mRows e.desc) :=
  ⟨⟨corner, none, dmaWord 0, filled 6 (List.replicate 70 9) (served (jobLoom (headOf (dmaWord 0)))), 0, fun _ => rfl, by decide +kernel⟩,
   ⟨corner, none, dmaWord 0, filled 6 (List.replicate 70 9) (served (jobLoom (headOf (dmaWord 0)))), 0, fun _ => rfl, by decide +kernel⟩,
   ⟨corner, none, dmaWord 1, served (jobLoom { headOf (dmaWord 1) with mem := [(640, 7), (704, 8)] }), fun _ => rfl, by decide +kernel⟩,
   ⟨corner, none, rowsWord, filled 6 ((List.range 130).map (BitVec.ofNat 8)) (served (jobLoom (headOf rowsWord))), 0, 0, fun _ => rfl,
     by decide +kernel⟩,
   ⟨corner, none, dmaWord 0, copyLoom false (headOf (dmaWord 0)), by decide +kernel⟩,
   ⟨corner, { inFlight (dmaWord 0) 0 with waits := true },
     filled 6 (List.replicate 70 9) (served (copyLoom true { Loom.init with
       seq := .commitWait, dmaQ := [inFlight (dmaWord 1) 3, { inFlight (dmaWord 0) 0 with waits := true }] })), 0, fun _ => rfl,
     by decide +kernel⟩,
   ⟨corner, none, dmaWord 0, flushed (served (jobLoom (headOf (dmaWord 0)))), by decide +kernel⟩,
   ⟨corner, 1, inFlight (dmaWord 0) 0, filled 6 (List.replicate 70 9) (served (jobLoom { Loom.init with
       seq := .waitDesc 1, dmaQ := [inFlight (dmaWord 1) 3, inFlight (dmaWord 0) 0] })), 0, fun _ => rfl, by decide +kernel⟩⟩

/-- A pass over one tile, FP8 elements, with LAST (bit 49) or without it, chained (bit 55) or not. -/
def passWord (bits : List Nat) : Word512 :=
  fields ([(0, 0x10), (32, 3), (36, 3), (40, 1), (48, 1), (142, 100), (156, 200)] ++ bits.map (fun b => (b, 1)))
def dotWord : Word512 := fields [(0, 0x10), (49, 1), (142, 100), (156, 200), (456, 2)]

/-- A loom at a pass, with its tiles. -/
def passing (d : Word512) (phase : Nat) : Loom :=
  { headOf 0 with arrayQ := [inFlight d phase], mem := [(0, 0x38), (64, 0x40), (6400, 7), (6464, 9)]
                  idlePlane := { Plane.empty with elems := [(0, 0x38), (65, 0x3C)] } }

/-- A loom whose shadow set holds a block of `d`. -/
def shadowed (d : Word512) : Loom :=
  { headOf 0 with shadow := { OutSet.empty with full := true, desc := d, acc := [(0, { A96.zero with value := 9, frac := 18 })] } }

theorem wit_ArrayPasses :
    (∃ (l : LoomId) (hit : Option LoomHit) (e : InFlight) (s : State) (k n : Nat), s.quadRuns l.q = true ∧
      nextPreload (s.loom l).arrayQ = some e ∧ harmless hit ∧
      (k < match mmPath (dField e.desc 35 32) (dField e.desc 39 36) with | some p => mmDepth p | none => 64) ∧ n < 64)
    ∧ (∃ (l : LoomId) (h : BitVec 15) (e : InFlight) (s : State), s.quadRuns l.q = true ∧ nextPreload (s.loom l).arrayQ = some e ∧
      halfIn (List.drop 1 e.reads) h = true)
    ∧ (∃ (l : LoomId) (r : Fin 64) (e : InFlight) (s : State), s.quadRuns l.q = true ∧ nextPass (s.loom l).arrayQ = some e ∧
      dField e.desc 35 32 ≠ 0 ∧ (s.loom l).tileWaits e = false ∧ (s.loom l).shadowWaits e = false ∧
      ((s.part (s.loomPart l)).poisoned = true ∨ s.jobLive (s.loomPart l) = false))
    ∧ (∃ (l : LoomId) (r : Fin 64) (e : InFlight) (s : State), s.quadRuns l.q = true ∧ nextPass (s.loom l).arrayQ = some e ∧
      dField e.desc 35 32 ≠ 0 ∧ (s.loom l).tileWaits e = false ∧ (s.loom l).shadowWaits e = false ∧
      (s.part (s.loomPart l)).poisoned = false ∧ s.jobLive (s.loomPart l) = true)
    ∧ (∃ (l : LoomId) (hit : Option LoomHit) (e : InFlight) (s : State) (m n : Nat), s.quadRuns l.q = true ∧
      nextPass (s.loom l).arrayQ = some e ∧ harmless hit ∧ dField e.desc 35 32 ≠ 0 ∧ dBit e.desc 55 = false ∧
      (s.loom l).tileWaits e = false ∧ (s.loom l).shadowWaits e = false ∧
      ((if dBit e.desc 50 = true then (s.loom l).plane else (s.loom l).idlePlane).poison = 0) ∧
      (∀ (m : Nat), m < 64 → (s.loom l).elemsPoison (dField e.desc 35 32) (dField e.desc 141 128 + m * rowLines (dField e.desc 35 32)
      (match mmPath (dField e.desc 35 32) (dField e.desc 39 36) with | some p => mmDepth p | none => 64))
      (match mmPath (dField e.desc 35 32) (dField e.desc 39 36) with | some p => mmDepth p | none => 64) = 0) ∧ m < 64 ∧ n < 64)
    ∧ (∃ (l : LoomId) (hit : Option LoomHit) (e : InFlight) (s : State), s.quadRuns l.q = true ∧ nextPass (s.loom l).arrayQ = some e ∧
      harmless hit ∧ dField e.desc 35 32 ≠ 0 ∧ dBit e.desc 55 = false ∧ (s.loom l).tileWaits e = false ∧
      (s.loom l).shadowWaits e = false ∧ ((if dBit e.desc 50 = true then (s.loom l).plane else (s.loom l).idlePlane).poison = 0) ∧
      (∀ (m : Nat), m < 64 → (s.loom l).elemsPoison (dField e.desc 35 32) (dField e.desc 141 128 + m * rowLines (dField e.desc 35 32)
      (match mmPath (dField e.desc 35 32) (dField e.desc 39 36) with | some p => mmDepth p | none => 64))
      (match mmPath (dField e.desc 35 32) (dField e.desc 39 36) with | some p => mmDepth p | none => 64) = 0) ∧ dBit e.desc 49 = true ∧
      (s.loom l).shadow.full = false)
    ∧ (∃ (l : LoomId) (hit : Option LoomHit) (e : InFlight) (s : State), s.quadRuns l.q = true ∧ nextPass (s.loom l).arrayQ = some e ∧
      harmless hit ∧ dField e.desc 35 32 ≠ 0 ∧ dBit e.desc 55 = false ∧ (s.loom l).tileWaits e = false ∧
      (s.loom l).shadowWaits e = false ∧ ((if dBit e.desc 50 = true then (s.loom l).plane else (s.loom l).idlePlane).poison = 0) ∧
      (∀ (m : Nat), m < 64 → (s.loom l).elemsPoison (dField e.desc 35 32) (dField e.desc 141 128 + m * rowLines (dField e.desc 35 32)
      (match mmPath (dField e.desc 35 32) (dField e.desc 39 36) with | some p => mmDepth p | none => 64))
      (match mmPath (dField e.desc 35 32) (dField e.desc 39 36) with | some p => mmDepth p | none => 64) = 0) ∧ dBit e.desc 49 = true ∧
      (s.loom l).shadow.full = true)
    ∧ (∃ (l : LoomId) (hit : Option LoomHit) (e : InFlight) (s : State), s.quadRuns l.q = true ∧ nextPass (s.loom l).arrayQ = some e ∧
      harmless hit ∧ dField e.desc 35 32 ≠ 0 ∧ dBit e.desc 55 = false ∧ (s.loom l).tileWaits e = false ∧
      (s.loom l).shadowWaits e = false ∧ ((if dBit e.desc 50 = true then (s.loom l).plane else (s.loom l).idlePlane).poison = 0) ∧
      (∀ (m : Nat), m < 64 → (s.loom l).elemsPoison (dField e.desc 35 32) (dField e.desc 141 128 + m * rowLines (dField e.desc 35 32)
      (match mmPath (dField e.desc 35 32) (dField e.desc 39 36) with | some p => mmDepth p | none => 64))
      (match mmPath (dField e.desc 35 32) (dField e.desc 39 36) with | some p => mmDepth p | none => 64) = 0) ∧ dBit e.desc 49 = false)
    ∧ (∃ (l : LoomId) (hit : Option LoomHit) (e c : InFlight) (s : State) (i : Nat), s.quadRuns l.q = true ∧
      nextPass (s.loom l).arrayQ = some e ∧ harmless hit ∧ dField e.desc 35 32 ≠ 0 ∧ dBit e.desc 49 = true ∧ dBit e.desc 55 = true ∧
      (s.loom l).tileWaits e = false ∧ (s.loom l).shadow.full = false ∧ (s.loom l).shadowWaits e = false ∧
      List.find? (fun o => o.phase == 1) (s.loom l).chainQ = some c ∧
      (firstOf ((s.loom l).passOrigins e.desc (if dBit e.desc 50 = true then (s.loom l).plane else (s.loom l).idlePlane)
      (match mmPath (dField e.desc 35 32) (dField e.desc 39 36) with | some p => mmDepth p | none => 64)) = 0) ∧ i < 4096)
    ∧ (∃ (l : LoomId) (hit : Option LoomHit) (e : InFlight) (s : State), s.quadRuns l.q = true ∧ nextPass (s.loom l).arrayQ = some e ∧
      harmless hit ∧ dField e.desc 35 32 = 0 ∧ (s.loom l).tileWaits e = false ∧ (s.loom l).mmScaleOrigin e.desc = 0 ∧
      (∀ (r : Nat × Nat), r ∈ mmReads e.desc → (s.loom l).poisonAt (64 * r.fst) (64 * r.snd) = 0))
    ∧ (∃ (l : LoomId) (r : Fin 64) (s : State), s.quadRuns l.q = true ∧ (s.loom l).shadow.full = true ∧
      dBit (s.loom l).shadow.desc 55 = false ∧ dBit (s.loom l).shadow.desc 51 = false ∧ (s.loom l).swapDue = none ∧
      (s.part (s.loomPart l)).poisoned = false ∧ s.jobLive (s.loomPart l) = true)
    ∧ (∃ (l : LoomId) (hit : Option LoomHit) (r : ChainRole) (s : State), s.quadRuns l.q = true ∧ (s.loom l).shadow.full = true ∧
      dBit (s.loom l).shadow.desc 55 = true ∧ harmless hit ∧ (s.loom l).role = some r ∧ dField r.desc 37 32 ≠ 0 ∧ 1024 ≤ r.passed ∧
      (s.loom l).swapDue = none ∧ (s.loom l).scaleOrigin (dField r.desc 88 80) = 0)
    ∧ (∃ (l : LoomId) (hit : Option LoomHit) (s : State), s.quadRuns l.q = true ∧ (s.loom l).shadow.full = true ∧
      dBit (s.loom l).shadow.desc 55 = false ∧ harmless hit ∧ (s.loom l).mmScaleOrigin (s.loom l).shadow.desc = 0 ∧
      (s.loom l).swapDue = none)
    ∧ (∃ (l : LoomId) (hit : Option LoomHit) (s : State) (d : Word512), s.quadRuns l.q = true ∧ (s.loom l).shadow.full = true ∧
      dBit (s.loom l).shadow.desc 55 = false ∧ harmless hit ∧ (s.loom l).mmScaleOrigin (s.loom l).shadow.desc = 0 ∧
      (s.loom l).swapDue = some d ∧ dBit d 55 = false)
    ∧ (∃ (l : LoomId) (hit : Option LoomHit) (s : State) (m : Nat) (d : Word512) (f : Nat), d = (s.loom l).shadow.desc ∧
      (f = if dBit d 51 = true then 10 else dField d 43 40) ∧ s.quadRuns l.q = true ∧ (s.loom l).shadow.full = true ∧
      dBit (s.loom l).shadow.desc 55 = false ∧ harmless hit ∧ (s.loom l).mmScaleOrigin (s.loom l).shadow.desc = 0 ∧ m < 64)
    ∧ (∃ (l : LoomId) (hit : Option LoomHit) (r : ChainRole) (s : State) (m : Nat) (d : Word512) (f : Nat), d = (s.loom l).shadow.desc ∧
      f = dField r.desc 51 48 ∧ s.quadRuns l.q = true ∧ (s.loom l).shadow.full = true ∧ dBit (s.loom l).shadow.desc 55 = true ∧
      harmless hit ∧ (s.loom l).role = some r ∧ dField r.desc 37 32 = 0 ∧ dField r.desc 45 40 = 0 ∧ dBit r.desc 46 = false ∧
      (s.loom l).scaleOrigin (dField r.desc 88 80) = 0 ∧ (s.loom l).swapDue = none ∧ m < 64) :=
  ⟨⟨corner, none, inFlight (passWord [49]) 0, loomOf (passing (passWord [49]) 0), 0, 0, by decide +kernel⟩,
   ⟨corner, 200, { inFlight (passWord [49]) 0 with reads := [(0, 1), (100, 4)] },
     loomOf { passing (passWord [49]) 0 with arrayQ := [{ inFlight (passWord [49]) 0 with reads := [(0, 1), (100, 4)] }] },
     by decide +kernel⟩,
   ⟨corner, 0, inFlight (passWord [49]) 1, loomOf (passing (passWord [49]) 1), by decide +kernel⟩,
   ⟨corner, 0, inFlight (passWord [49]) 1, (jobLoom (passing (passWord [49]) 1)).setObj 0x521003 1, by decide +kernel⟩,
   ⟨corner, none, inFlight (passWord [49]) 1, loomOf (passing (passWord [49]) 1), 0, 0, by decide +kernel⟩,
   ⟨corner, none, inFlight (passWord [49]) 1, loomOf (passing (passWord [49]) 1), by decide +kernel⟩,
   ⟨corner, none, inFlight (passWord [49]) 1, loomOf { passing (passWord [49]) 1 with shadow := { OutSet.empty with full := true } },
     by decide +kernel⟩,
   ⟨corner, none, inFlight (passWord []) 1, loomOf (passing (passWord []) 1), by decide +kernel⟩,
   ⟨corner, none, inFlight (passWord [49, 55]) 1, inFlight chainWord 1,
     loomOf { passing (passWord [49, 55]) 1 with chainQ := [inFlight chainWord 1] }, 0, by decide +kernel⟩,
   ⟨corner, none, inFlight dotWord 1, loomOf { headOf 0 with arrayQ := [inFlight dotWord 1], mem := [(3, 0x40), (6403, 0x40)] },
     by decide +kernel⟩,
   ⟨corner, 0, (jobLoom (shadowed (passWord [49]))).setObj 0x521003 1, by decide +kernel⟩,
   ⟨corner, none, { lastRole with passed := 1024 },
     loomOf { shadowed (passWord [49, 55]) with role := some { lastRole with passed := 1024 } }, by decide +kernel⟩,
   ⟨corner, none, loomOf (shadowed (passWord [49])), by decide +kernel⟩,
   ⟨corner, none, loomOf { shadowed (passWord [49]) with swapDue := some (passWord [49]) }, passWord [49], by decide +kernel⟩,
   ⟨corner, none, loomOf (shadowed (passWord [49])), 0, _, _, rfl, rfl, by decide +kernel⟩,
   ⟨corner, none, { lastRole with desc := fields [(0, 0x40), (48, 3)] },
     loomOf { shadowed (passWord [49, 55]) with role := some { lastRole with desc := fields [(0, 0x40), (48, 3)] } }, 63, _, _, rfl, rfl,
     by decide +kernel⟩⟩

/-- A step computes with the assay on; the corner loom owes the verdict `v`. -/
def owing (v : OwedVerdict) : State :=
  { on (job 5 { member with inStep := true }) [(0x521003, 1), (0x702001, 1)] with looms := [(0, { Loom.init with verdicts := [v] })] }
def columnVerdict : OwedVerdict := { missed := false, hop := false, pos := 0, window := false, tag := 7, acc := [] }

/-- A word of stream 3 in the corner loom's buffer. -/
def received : RxWord := { stream := 3, word := word 3, since := 0, place := 2 }
def chained (r : Option ChainRole) : State := loomOf { shadowed (passWord [49, 55]) with role := r, rxBuf := [received] }

/-- The same on stepping B0. -/
def onB0 (s : State) : State := { s with flash := { s.flash with record := resetRecord + 15 <<< 48 } }

theorem wit_VerdictsChainsAndCompletions :
    (∃ (l : LoomId) (v : OwedVerdict) (r : List OwedVerdict) (s : State), s.quadRuns l.q = true ∧ (s.loom l).verdicts = v :: r ∧
      v.missed = false)
    ∧ (∃ (l : LoomId) (u : Upset) (v : OwedVerdict) (r : List OwedVerdict) (s : State), s.quadRuns l.q = true ∧
      (s.loom l).verdicts = v :: r ∧ (s.obj 0x702001).testBit (s.loomPart l) = true ∧ upsetSeen v u = true ∧ s.exState (s.loomPart l) = 1)
    ∧ (∃ (l : LoomId) (u : Upset) (e : Nat × Nat × Nat) (s : State), s.quadRuns l.q = true ∧ (s.loom l).verdicts = [] ∧
      (s.obj 0x702001).testBit (s.loomPart l) = true ∧ upsetLane u = some e ∧
      ((s.part (s.loomPart l)).inStep = true ∨ s.exState (s.loomPart l) = 4) ∧ s.exState (s.loomPart l) = 4)
    ∧ (∃ (l : LoomId) (u : Upset) (e : Nat × Nat × Nat) (s : State), s.quadRuns l.q = true ∧ (s.loom l).verdicts = [] ∧
      (s.obj 0x702001).testBit (s.loomPart l) = true ∧ upsetLane u = some e ∧
      ((s.part (s.loomPart l)).inStep = true ∨ s.exState (s.loomPart l) = 4) ∧ s.exState (s.loomPart l) = 1)
    ∧ (∃ (l : LoomId) (v : OwedVerdict) (r : List OwedVerdict) (s : State), s.quadRuns l.q = true ∧ (s.loom l).verdicts = v :: r ∧
      (s.obj 0x702001).testBit (s.loomPart l) = true ∧ v.missed = true ∧ s.exState (s.loomPart l) = 1)
    ∧ (∃ (l : LoomId) (i : Fin 1024) (w : FWord) (rx : RxWord) (r : ChainRole) (hit : Option LoomHit) (s : State), s.quadRuns l.q = true ∧
      harmless hit ∧ List.find? (fun x => decide (x.stream.toNat = sideStream w)) (s.loom l).rxBuf = some rx ∧ rx.word = w ∧
      rx.place = { toFin := i } ∧ rx.since ≤ (s.quad l.q).count ∧ (s.loom l).role = some r ∧ dField r.desc 37 32 ≠ 0 ∧
      dField r.desc 71 64 = sideStream w ∧ (s.loom l).shadow.full = true ∧ r.since ≤ rx.since ∧ sidePoison w = false ∧
      SMap.get 0 (s.loom l).shadow.poison (i.val / 16) = 0)
    ∧ (∃ (l : LoomId) (i : Fin 1024) (w : FWord) (rx : RxWord) (hit : Option LoomHit) (s : State), s.quadRuns l.q = true ∧
      List.find? (fun x => decide (x.stream.toNat = sideStream w)) (s.loom l).rxBuf = some rx ∧ rx.word = w ∧ rx.place = { toFin := i } ∧
      rx.since ≤ (s.quad l.q).count ∧ (∀ (r : ChainRole),
      (s.loom l).role = some r → dField r.desc 37 32 = 0 ∨ dField r.desc 71 64 ≠ sideStream w ∨ (s.loom l).shadow.full = false ∨ rx.since
      < r.since) ∧ (s.loom l).role = none)
    ∧ (∃ (l : LoomId) (u : UnitKind) (k : Fin 16) (e : InFlight) (s : State) (m : BitVec 4), s.quadRuns l.q = true ∧
      (s.loom l).finishing u k = some e ∧ e.phase = 3 ∧ e.waits = false ∧ (s.loom l).seq = SeqState.waitUnits m)
    ∧ (∃ (l : LoomId) (u : UnitKind) (k : Fin 16) (e : InFlight) (s : State) (n : Nat), s.quadRuns l.q = true ∧
      (s.loom l).finishing u k = some e ∧ e.phase = 3 ∧ e.waits = false ∧ (s.loom l).seq = SeqState.waitDesc n)
    ∧ (∃ (l : LoomId) (u : UnitKind) (k : Fin 16) (e : InFlight) (s : State), (∀ (n : Nat), (s.loom l).seq ≠ SeqState.waitDesc n) ∧
      s.quadRuns l.q = true ∧ (s.loom l).finishing u k = some e ∧ e.phase = 3 ∧ e.waits = false ∧
      (∀ (m : BitVec 4), (s.loom l).seq ≠ SeqState.waitUnits m))
    ∧ (∃ (l : LoomId) (u : UnitKind) (k : Fin 16) (e : InFlight) (s : State), s.quadRuns l.q = true ∧ (s.loom l).finishing u k = some e ∧
      e.phase = 3 ∧ e.waits = false ∧ padsOn e.desc = true ∧ s.padded (s.loomPart l) = true)
    ∧ (∃ (l : LoomId) (u : UnitKind) (k : Fin 16) (e : InFlight) (s : State), (s.loom l).finishing u k = some e ∧
      (e.waits = true ∨ u ≠ UnitKind.dma ∧ e.phase ≠ 3)) :=
  ⟨⟨corner, columnVerdict, [], owing columnVerdict, by decide +kernel⟩,
   ⟨corner, .column 0 0 5, columnVerdict, [], owing columnVerdict, by decide +kernel⟩,
   ⟨corner, .lane 5 3 9, (5, 3, 9), on (jobLoom Loom.init) [(0x521003, 4), (0x702001, 1)], by decide +kernel⟩,
   ⟨corner, .lane 5 3 9, (5, 3, 9), on (jobLoom Loom.init) [(0x521003, 1), (0x702001, 1)], by decide +kernel⟩,
   ⟨corner, { columnVerdict with missed := true }, [], owing { columnVerdict with missed := true }, by decide +kernel⟩,
   ⟨corner, 2, word 3, received, lastRole, none, chained (some lastRole), by decide +kernel⟩,
   ⟨corner, 2, word 3, received, none, chained none, by decide +kernel⟩,
   ⟨corner, .dma, 0, inFlight (dmaWord 1) 3, loomOf { Loom.init with dmaQ := [inFlight (dmaWord 1) 3], seq := .waitUnits 4 }, 4,
     by decide +kernel⟩,
   ⟨corner, .dma, 1, inFlight (dmaWord 0) 3, loomOf { Loom.init with
       dmaQ := [inFlight (dmaWord 1) 3, inFlight (dmaWord 0) 3], seq := .waitDesc 1 }, 1, by decide +kernel⟩,
   ⟨corner, .dma, 0, inFlight (dmaWord 1) 3, loomOf { Loom.init with dmaQ := [inFlight (dmaWord 1) 3], seq := .running },
     (fun _ h => by cases h), by decide +kernel⟩,
   ⟨corner, .dma, 0, inFlight (dmaWord 0) 3, onB0 ((loomOf { Loom.init with
       dmaQ := [inFlight (dmaWord 0) 3], seq := .running }).setObj 0x220004 0xA1), by decide +kernel⟩,
   ⟨corner, .vector, 0, inFlight 0 0, loomOf { Loom.init with vectorQ := [inFlight 0 0] }, by decide +kernel⟩⟩

theorem noneSome {α : Type} {a : Option α} {P : α → Prop} (e : a = none) : ∀ x, a = some x → P x := by
  intro x h
  rw [e] at h
  cases h

theorem onlySome {α : Type} {a : Option α} {b : α} {P : α → Prop} (e : a = some b) (hb : P b) : ∀ x, a = some x → P x := by
  intro x h
  rw [e] at h
  cases h
  exact hb

/-- A loom with a slot table. -/
def tableLoom (t : List (Nat × BitVec 16)) : Loom := { Loom.init with streamTab := t }

/-- A table by which a router's loom takes stream 3 from input 4 in slot 9. -/
def takesLater : Loom := tableLoom [(9, 1027)]

/-- Router (2, 2) of quadrant 0 holds the word `w` at `count`; its loom is `x`. -/
def router22 (count : BitVec 64) (w : RWord) (x : Loom) : State := { meshOf count w with looms := [(52, x)] }

/-- The bridge node of row 2 of quadrant 0 holds `w`, and an image sends slot 3 of bridge 0 to bridge 5. -/
def atEdge (count : BitVec 64) (w : RWord) (x : Loom) : State :=
  { atPart (meshOf count w) { Part.init with image := some { image0 with hubDest := [(0, 3, 5)] } } with looms := [(74, x)] }

/-- A word damaged in flight. -/
def damaged (side : Nat) : FWord := { word side with payload := 4 }

/-- Sideband of a credited word for row `r`, column `c` of quadrant `q`; an observation word. -/
def creditedSide (q r c : Nat) : Nat := 256 + c * 2 ^ 12 + r * 2 ^ 17 + q * 2 ^ 22
def observed : FWord := word (0xFF + 512 + 2048)

/-- A first position whose block stands in the shadow set, on stream 4. -/
def firstRole : ChainRole := { lastRole with desc := fields [(0, 0x40), (40, 3), (64, 255), (72, 4)] }
def sending (t : List (Nat × BitVec 16)) : Loom :=
  { shadowed (passWord [49, 55]) with streamTab := t, role := some firstRole, trace := [] }

/-- A credited word in a replay buffer's place 0 of router (2, 2), input 4. -/
def replayed (s : State) : State :=
  match s.quads with
  | (0, q) :: _ => { s with quads := [(0, { q with replay := [(8 * inputKey 2 2 4, word 0x5100)] })] }
  | _ => s

theorem wit_FabricWords :
    (∃ (q : Fin 4) (r : Fin 20) (c : Fin 25) (o : Fin 6) (noise : Word512) (w : RWord) (s : State), o = 0 ∧ s.quadRuns q = true ∧
      (s.quad q).slottedAt r c (s.slotNow q) = [w] ∧ crcOk w.word = true ∧ w.input ≠ 0 ∧
      (∀ (x : ChainRole), (s.loom (routerOf q r c)).role = some x → x.coming = []) ∧
      (∀ (u : Nat), u < 6 → u ≠ o.val → entryStream (s.slotEntry (routerOf q r c) u (s.slotNow q)) = 255) ∧
      entryStream (s.slotEntry (routerOf q r c) o (s.slotNow q)) = sideStream w.word ∧ sideStream w.word ≠ 255 ∧
      entryIn (s.slotEntry (routerOf q r c) o (s.slotNow q)) = w.input.toNat ∧ s.outUsed (routerOf q r c) o = false)
    ∧ (∃ (q : Fin 4) (r : Fin 20) (c : Fin 25) (o : Fin 6) (noise : Word512) (w : RWord) (s : State) (r2 c2 i : Nat),
      s.quadRuns q = true ∧ (s.quad q).slottedAt r c (s.slotNow q) = [w] ∧ crcOk w.word = true ∧ w.input ≠ 0 ∧
      (∀ (x : ChainRole), (s.loom (routerOf q r c)).role = some x → x.coming = []) ∧
      (∀ (u : Nat), u < 6 → u ≠ o.val → entryStream (s.slotEntry (routerOf q r c) u (s.slotNow q)) = 255) ∧
      entryStream (s.slotEntry (routerOf q r c) o (s.slotNow q)) = sideStream w.word ∧ sideStream w.word ≠ 255 ∧
      entryIn (s.slotEntry (routerOf q r c) o (s.slotNow q)) = w.input.toNat ∧ s.outUsed (routerOf q r c) o = false ∧
      neighbour (s.runCols q) r c o = some (r2, c2, i))
    ∧ (∃ (q : Fin 4) (r : Fin 20) (c : Fin 25) (o : Fin 6) (noise : Word512) (w : RWord) (s : State) (m : Nat), o = 5 ∧
      s.quadRuns q = true ∧ (s.quad q).slottedAt r c (s.slotNow q) = [w] ∧ crcOk w.word = true ∧ w.input ≠ 0 ∧
      (∀ (x : ChainRole), (s.loom (routerOf q r c)).role = some x → x.coming = []) ∧
      (∀ (u : Nat), u < 6 → u ≠ o.val → entryStream (s.slotEntry (routerOf q r c) u (s.slotNow q)) = 255) ∧
      entryStream (s.slotEntry (routerOf q r c) o (s.slotNow q)) = sideStream w.word ∧ sideStream w.word ≠ 255 ∧
      entryIn (s.slotEntry (routerOf q r c) o (s.slotNow q)) = w.input.toNat ∧ s.outUsed (routerOf q r c) o = false ∧
      s.hubDest q (bridgeOf q r) ((s.slotNow q + 3) % 256) = some m ∧ s.partOfQuad (m / 4) = s.partOfQuad q ∧
      s.queueTakes (2 * bridgeOf q r) = true)
    ∧ (∃ (q : Fin 4) (r : Fin 20) (c : Fin 25) (o : Fin 6) (noise : Word512) (w : FWord) (place : BitVec 10) (x : Loom) (stream : Nat) (s
      : State) (r2 c2 i : Nat), s.quadRuns q = true ∧ (s.quad q).slottedAt r c (s.slotNow q) = [] ∧
      (∀ (y : ChainRole), (s.loom (routerOf q r c)).role = some y → y.coming = []) ∧
      (∀ (u : Nat), u < 6 → u ≠ o.val → entryStream (s.slotEntry (routerOf q r c) u (s.slotNow q)) = 255) ∧
      entryStream (s.slotEntry (routerOf q r c) o (s.slotNow q)) = stream ∧ stream ≠ 255 ∧
      entryIn (s.slotEntry (routerOf q r c) o (s.slotNow q)) = 0 ∧ s.outUsed (routerOf q r c) o = false ∧
      (s.loom (routerOf q r c)).readyWord stream (s.quad q).count = some (w, place, x) ∧ neighbour (s.runCols q) r c o = some (r2, c2, i))
    ∧ (∃ (q : Fin 4) (r : Fin 20) (c : Fin 25) (noise : Word512) (w : RWord) (s : State) (d : LoomId), s.quadRuns q = true ∧
      (s.quad q).slottedAt r c (s.slotNow q) = [w] ∧ crcOk w.word = false ∧
      (∀ (u : Nat), u < 6 → entryStream (s.slotEntry (routerOf q r c) u (s.slotNow q)) = 255) ∧
      d ∈ streamLooms s.slotEntry (s.hubDest q) (s.runCols q) (sideStream w.word) (q.val, r.val, c.val, w.input.toNat))
    ∧ (∃ (q : Fin 4) (r : Fin 20) (c : Fin 25) (ecc : Ecc) (noise : Word512) (w : RWord) (s : State) (d : LoomId), s.quadRuns q = true ∧
      (s.quad q).slottedAt r c (s.slotNow q) = [w] ∧ crcOk w.word = true ∧
      (ecc = Ecc.multi ∨ ∀ (u : Nat), u < 6 → entryStream (s.slotEntry (routerOf q r c) u (s.slotNow q)) = 255) ∧
      d ∈ streamLooms s.slotEntry (s.hubDest q) (s.runCols q) (sideStream w.word) (q.val, r.val, c.val, w.input.toNat))
    ∧ (∃ (q : Fin 4) (r : Fin 20) (c : Fin 25) (o : Fin 6) (noise : Word512) (w : RWord) (l : LoomId) (s : State) (r2 c2 i k : Nat),
      l = routerOf q r c ∧ k = inputKey r2 c2 i ∧ s.quadRuns q = true ∧ s.creditedSlot l o (s.slotNow q) = true ∧ s.outUsed l o = false ∧
      nextInRotation (SMap.get 0 (s.quad q).rotation (rotationKey l o)) (List.filter (fun x => s.creditedRoute q r c x.word == o) ((s.quad
      q).wordsAt 1 r c)) = some w ∧ crcOk w.word = true ∧ neighbour (s.runCols q) r c o = some (r2, c2, i) ∧
      s.creditedMayLeave l (s.creditedWay l o w.word) = true ∧ slotReserved (s.slotNow q) = false)
    ∧ (∃ (q : Fin 4) (r : Fin 20) (c : Fin 25) (o : Fin 6) (noise : Word512) (w : RWord) (l : LoomId) (s : State) (r2 c2 i k : Nat),
      l = routerOf q r c ∧ k = inputKey r2 c2 i ∧ s.quadRuns q = true ∧ s.creditedSlot l o (s.slotNow q) = true ∧ s.outUsed l o = false ∧
      nextInRotation (SMap.get 0 (s.quad q).rotation (rotationKey l o)) (List.filter (fun x => s.creditedRoute q r c x.word == o) ((s.quad
      q).wordsAt 1 r c)) = some w ∧ crcOk w.word = true ∧ neighbour (s.runCols q) r c o = some (r2, c2, i) ∧
      s.creditedMayLeave l (s.creditedWay l o w.word) = true ∧ slotReserved (s.slotNow q) = true)
    ∧ (∃ (q : Fin 4) (r : Fin 20) (c : Fin 25) (o : Fin 6) (noise : Word512) (w : RWord) (l : LoomId) (s : State), l = routerOf q r c ∧
      o = 0 ∧ s.quadRuns q = true ∧ s.creditedSlot l o (s.slotNow q) = true ∧ s.outUsed l o = false ∧
      nextInRotation (SMap.get 0 (s.quad q).rotation (rotationKey l o)) (List.filter (fun x => s.creditedRoute q r c x.word == o) ((s.quad
      q).wordsAt 1 r c)) = some w ∧ crcOk w.word = true)
    ∧ (∃ (q : Fin 4) (r : Fin 20) (c : Fin 25) (o : Fin 6) (noise : Word512) (w : RWord) (l : LoomId) (s : State) (n : Nat),
      l = routerOf q r c ∧ s.quadRuns q = true ∧ s.creditedSlot l o (s.slotNow q) = true ∧ s.outUsed l o = false ∧
      nextInRotation (SMap.get 0 (s.quad q).rotation (rotationKey l o)) (List.filter (fun x => s.creditedRoute q r c x.word == o) ((s.quad
      q).wordsAt 1 r c)) = some w ∧ crcOk w.word = true ∧ crcOk (noisy w.word noise) = true ∧ (o = 5 ∧ n = 2 * bridgeOf q r ∨ o = 3 ∧
      r = 19 ∧ n = 256 + 2 * (5 * q + destCol w.word % 5)) ∧ s.creditedMayLeave l (s.creditedWay l o w.word) = true ∧
      (s.dcq n).flushing = false ∧ (s.dcq n).cut = false ∧ (s.dcq n).items.length < queueDepth n)
    ∧ (∃ (q : Fin 4) (r : Fin 20) (c : Fin 25) (o : Fin 6) (noise : Word512) (w : RWord) (l : LoomId) (s : State), l = routerOf q r c ∧
      s.quadRuns q = true ∧ s.creditedSlot l o (s.slotNow q) = true ∧ s.outUsed l o = false ∧
      nextInRotation (SMap.get 0 (s.quad q).rotation (rotationKey l o)) (List.filter (fun x => s.creditedRoute q r c x.word == o) ((s.quad
      q).wordsAt 1 r c)) = some w ∧ crcOk w.word = false)
    ∧ (∃ (q : Fin 4) (r : Fin 20) (c : Fin 25) (noise : Word512) (l : LoomId) (o : Nat) (s : State) (w : RWord) (x : List RWord),
      l = routerOf q r c ∧ o = s.observationRoute q r c ∧ s.quadRuns q = true ∧ slotReserved (s.slotNow q) = true ∧
      s.outUsed l o = false ∧ (s.quad q).wordsAt 2 r c = w :: x ∧ crcOk w.word = false)
    ∧ (∃ (q : Fin 4) (r : Fin 20) (c : Fin 25) (noise : Word512) (l : LoomId) (o : Nat) (s : State) (w : RWord) (x : List RWord) (r2 c2 i
      : Nat), l = routerOf q r c ∧ o = s.observationRoute q r c ∧ s.quadRuns q = true ∧ slotReserved (s.slotNow q) = true ∧
      s.outUsed l o = false ∧ (s.quad q).wordsAt 2 r c = w :: x ∧ crcOk w.word = true ∧ neighbour (s.runCols q) r c o = some (r2, c2, i))
    ∧ (∃ (q : Fin 4) (r : Fin 20) (c : Fin 25) (noise : Word512) (l : LoomId) (o : Nat) (s : State) (w : RWord) (x : List RWord),
      l = routerOf q r c ∧ o = s.observationRoute q r c ∧ s.quadRuns q = true ∧ slotReserved (s.slotNow q) = true ∧
      s.outUsed l o = false ∧ (s.quad q).wordsAt 2 r c = w :: x ∧ crcOk w.word = true ∧ crcOk (noisy w.word noise) = true ∧ o = 5 ∧
      (s.dcq (1024 + q)).flushing = false ∧ (s.dcq (1024 + q)).cut = false ∧ (s.dcq (1024 + q)).items.length < 256)
    ∧ (∃ (q : Fin 4) (r : Fin 20) (c : Fin 25) (noise : Word512) (l : LoomId) (o : Nat) (s : State) (w : FWord) (x : Loom) (r2 c2 i :
      Nat), l = routerOf q r c ∧ o = s.observationRoute q r c ∧ s.quadRuns q = true ∧ slotReserved (s.slotNow q) = true ∧
      s.outUsed l o = false ∧ (s.quad q).wordsAt 2 r c = [] ∧ (s.loom l).observation = some (w, x) ∧
      neighbour (s.runCols q) r c o = some (r2, c2, i)) :=
  ⟨⟨0, 2, 2, _, 0, waiting 2 2 4 (word 3), router22 0 (waiting 2 2 4 (word 3)) (tableLoom [(0, 1027)]), rfl, by decide +kernel⟩,
   ⟨0, 2, 2, 2, 6, waiting 2 2 4 (word 3), router22 0 (waiting 2 2 4 (word 3)) (tableLoom [(512, 1027)]), 2, 3, 4, by decide +kernel⟩,
   ⟨0, 2, 24, _, 6, waiting 2 24 4 (word 3), atEdge 0 (waiting 2 24 4 (word 3)) (tableLoom [(1280, 1027)]), 5, rfl, by decide +kernel⟩,
   ⟨0, 2, 2, 2, 6, FWordSeal (chainPayload (sending []).shadow.acc 0) 4, 0,
     { sending [(514, 4)] with role := some { firstRole with passed := 1 } }, 4, router22 2 (waiting 9 9 4 (word 3)) (sending [(514, 4)]),
     2, 3, 4, by decide +kernel⟩,
   ⟨0, 2, 2, 6, waiting 2 2 4 (damaged 3), router22 0 (waiting 2 2 4 (damaged 3)) takesLater, ⟨0, 2, 2⟩, by decide +kernel⟩,
   ⟨0, 2, 2, .clean, 6, waiting 2 2 4 (word 3), router22 0 (waiting 2 2 4 (word 3)) takesLater, ⟨0, 2, 2⟩, by decide +kernel⟩,
   ⟨0, 2, 2, 2, 6, waiting 2 2 4 (word (creditedSide 0 2 5)), _, meshOf 0 (waiting 2 2 4 (word (creditedSide 0 2 5))), 2, 3, 4, _, rfl,
     rfl, by decide +kernel⟩,
   ⟨0, 2, 2, 2, 6, waiting 2 2 4 (word (creditedSide 0 2 5)), _, meshOf 31 (waiting 2 2 4 (word (creditedSide 0 2 5))), 2, 3, 4, _, rfl,
     rfl, by decide +kernel⟩,
   ⟨0, 2, 2, _, 6, waiting 2 2 4 (word (creditedSide 0 2 2)), _, meshOf 0 (waiting 2 2 4 (word (creditedSide 0 2 2))), rfl, rfl,
     by decide +kernel⟩,
   ⟨0, 2, 24, 5, 0, waiting 2 24 4 (word (creditedSide 1 2 2)), _, meshOf 0 (waiting 2 24 4 (word (creditedSide 1 2 2))), 0, rfl,
     by decide +kernel⟩,
   ⟨0, 2, 2, 2, 6, waiting 2 2 4 (damaged 0x5100), _, replayed (meshOf 0 (waiting 2 2 4 (damaged 0x5100))), rfl, by decide +kernel⟩,
   ⟨0, 2, 2, 6, _, _, meshOf 31 (waiting 2 2 4 (damaged 512)), waiting 2 2 4 (damaged 512), [], rfl, rfl, by decide +kernel⟩,
   ⟨0, 2, 2, 6, _, _, meshOf 31 (waiting 2 2 4 observed), waiting 2 2 4 observed, [], 2, 3, 4, rfl, rfl, by decide +kernel⟩,
   ⟨0, 2, 24, 0, _, _, meshOf 31 (waiting 2 24 4 observed), waiting 2 24 4 observed, [], rfl, rfl, by decide +kernel⟩,
   ⟨0, 2, 2, 6, _, _, router22 31 (waiting 9 9 4 (word 3)) { Loom.init with trace := [7, 8, 9] }, FWordSeal (7 + 8 * 2 ^ 256) 0xAFF,
     { Loom.init with trace := [9] }, 2, 3, 4, rfl, rfl, by decide +kernel⟩⟩

/-- Words on their way to bridge 5, and in its buffer, when quadrant 1 has counted to `count`. -/
def bridged (count : BitVec 64) (air buf : List FWord) : State :=
  { up with bridgeAir := [(5, air)], bridgeBufs := [(5, buf)], quads := [(1, { Quad.init with count := count })] }

def loopOf (i : Nat) (c : CLoop) : State := { up with cloops := [(i, c)] }

theorem wit_BridgesAndCredits :
    (∃ (n : Fin 16) (w : FWord) (s : State) (m : Nat), s.pwrok = true ∧ s.trip = false ∧ w ∈ SMap.get [] s.bridgeAir n ∧ crcOk w = true ∧
      s.queueTakes (2 * n.val + 1) = true ∧ (SMap.get [] s.bridgeBufs n).length < 32 ∧
      untilCount (s.quad (n / 4)).count.toNat (sideSend w + 48) < 2 ^ 15 ∧ m ≠ n.val)
    ∧ (∃ (n : Fin 16) (w : FWord) (s : State), s.pwrok = true ∧ s.trip = false ∧ w ∈ SMap.get [] s.bridgeAir n ∧ crcOk w = true ∧
      s.queueTakes (2 * n.val + 1) = true ∧ (32 ≤ (SMap.get [] s.bridgeBufs n).length ∨ 2 ^ 15 ≤ untilCount (s.quad (n / 4)).count.toNat
      (sideSend w + 48)) ∧ s.exState (s.partOfQuad (n / 4)) = 1)
    ∧ (∃ (n : Fin 16) (w a : FWord) (s : State) (d : LoomId), s.pwrok = true ∧ s.trip = false ∧ crcOk w = false ∧
      s.queueTakes (2 * n.val + 1) = true ∧ ((if (SMap.get [] s.bridgeAir n).contains w = true then some w else (SMap.get [] s.bridgeAir
      n).head?) = some a) ∧ d ∈ streamLooms s.slotEntry (s.hubDest (n.val / 4)) (s.runCols (n.val / 4)) (sideStream a) (bridgeInput
      (s.runCols (n.val / 4)) n))
    ∧ (∃ (n : Fin 16) (w : FWord) (s : State), w ∉ SMap.get [] s.bridgeAir n ∧ (crcOk w = true ∨ SMap.get [] s.bridgeAir n = []))
    ∧ (∃ (n : Fin 16) (s : State), s.quadRuns (n.val / 4) = true)
    ∧ (∃ (n : Fin 16) (s : State), s.quadRuns (n.val / 4) = false)
    ∧ (∃ (i f n : BitVec 32) (s : State), n = f - (s.cloop i.toNat).lastFreed ∧ s.pwrok = true ∧ s.trip = false ∧
      ¬i.toNat / 2 ^ 24 ∈ [5, 6, 8] ∧ n ≤ (s.cloop i.toNat).returned ∧
      (i.toNat / 2 ^ 24 = 1 ∨ i.toNat / 2 ^ 24 = 7 → (s.stack (i.toNat % 2 ^ 16)).asking = [] ∧
      (s.stack (i.toNat % 2 ^ 16)).waiting = []) ∧ i.toNat / 2 ^ 24 = 1)
    ∧ (∃ (k : Fin 20) (i f n : BitVec 32) (r : HbmReq) (c : CLoop) (s u : State), c = s.cloop i.toNat ∧ n = f - c.lastFreed ∧
      u = (s.setCloop i.toNat { c with held := c.held + n, returned := c.returned - n, lastFreed := f }).setStack k { s.stack k with
        owners := (s.stack k).owners.drop n.toNat } ∧ s.pwrok = true ∧ s.serves k = true ∧ i.toNat = loopId 1 (s.partOfStack k) k ∧
      n ≤ c.returned ∧ (s.stack k).asking = [r] ∧ (s.stack k).waiting = [] ∧ r.write = none ∧ r.ecc = Ecc.clean ∧ u.mayRequest k r = true)
    ∧ (∃ (i f : BitVec 32) (s : State), s.pwrok = true ∧ s.trip = false ∧ i.toNat / 2 ^ 24 = 8 ∧
      f - (s.cloop i.toNat).lastFreed ≤ (s.cloop i.toNat).returned - (s.cloop i.toNat).lastFreed)
    ∧ (∃ (i f : BitVec 32) (s : State), i.toNat / 2 ^ 24 ≠ 8 ∧ (s.cloop i.toNat).returned < f - (s.cloop i.toNat).lastFreed) :=
  ⟨⟨5, word 3, bridged 0 [word 7, word 3] [word 7], 0, by decide +kernel⟩,
   ⟨5, word 3, { job 5 { member with inStep := true } with
       objs := (inState 1 member).objs, bridgeAir := [(5, [word 3])], bridgeBufs := [(5, List.replicate 32 (word 7))] },
     by decide +kernel⟩,
   ⟨5, damaged 3, word 3, { bridged 0 [word 3] [] with looms := [(loomKey ⟨1, 7, 24⟩, tableLoom [(9, 1283)])] }, ⟨1, 7, 24⟩,
     by decide +kernel⟩,
   ⟨5, word 3, bridged 0 [] [], by decide +kernel⟩,
   ⟨5, bridged 48 [] [word 3, word 0x1000003], by decide +kernel⟩,
   ⟨5, State.reset, by decide +kernel⟩,
   ⟨0x1000013, 12, _, loopOf 0x1000013 { CLoop.init with returned := 3, lastFreed := 10 }, rfl, by decide +kernel⟩,
   ⟨7, 0x1000007, 12, _, { who := .hub, word := 9, half := none, write := none, ecc := .clean }, _,
     { stack7 { Stack.init with asking := [{ who := .hub, word := 9, half := none, write := none, ecc := .clean }] } with
       cloops := [(0x1000007, { CLoop.init with returned := 3, lastFreed := 10 })] }, _, rfl, rfl, rfl, by decide +kernel⟩,
   ⟨0x8000300, 12, loopOf 0x8000300 { CLoop.init with returned := 12, lastFreed := 10 }, by decide +kernel⟩,
   ⟨7, 14, loopOf 7 { CLoop.init with returned := 3, lastFreed := 10 }, by decide +kernel⟩⟩

/-- Queue `q` is `d`. -/
def queued (q : Nat) (d : Dcq) : State := { up with dcqs := [(q, d)] }

/-- A queue that holds `l`. -/
def holding (l : List QItem) : Dcq := { Dcq.init with items := l, pushed := l.length, wptr := l.length }

theorem wit_EmptyQueueReads :
    (∃ (q : BitVec 16) (ecc : Ecc) (lag : BitVec 8) (s : State), s.queueSide q.toNat true = true ∧ queueDepth q.toNat ≠ 0 ∧
      (s.dcq q.toNat).items = [])
    ∧ (∃ (q : BitVec 16) (ecc : Ecc) (lag : BitVec 8) (s : State), s.queueSide q.toNat true = true ∧ queueDepth q.toNat ≠ 0 ∧
      (s.dcq q.toNat).items ≠ [] ∧ (s.dcq q.toNat).items.length ≤ (s.dcq q.toNat).unseen.min lag.toNat) :=
  ⟨⟨0x400, .single, 3, up, by decide +kernel⟩,
   ⟨0x501, .clean, 2, queued 0x501 { holding [queueItem 5, queueItem 6] with unseen := 5 }, by decide +kernel⟩⟩

theorem wit_QueuePushesAndPops :
    (∃ (q : BitVec 16) (i : QItem) (lag : BitVec 8) (s : State), s.queueSide q.toNat false = true ∧
      (s.dcq q.toNat).items.length < queueDepth q.toNat ∧ (s.dcq q.toNat).flushing = false ∧ (s.dcq q.toNat).cut = false ∧
      queueObserves q.toNat = false)
    ∧ (∃ (q : BitVec 16) (i : QItem) (lag : BitVec 8) (s : State), s.queueSide q.toNat false = true ∧ queueObserves q.toNat = true ∧
      queueDepth q.toNat ≠ 0 ∧ queueDepth q.toNat ≤ (s.dcq q.toNat).items.length ∧ (s.dcq q.toNat).flushing = false ∧
      (s.dcq q.toNat).cut = false)
    ∧ (∃ (q : BitVec 16) (i : QItem) (lag : BitVec 8) (s : State), s.queueSide q.toNat false = true ∧ queueObserves q.toNat = false ∧
      queueDepth q.toNat ≠ 0 ∧ queueDepth q.toNat ≤ (s.dcq q.toNat).items.length ∧ (s.dcq q.toNat).flushing = false ∧
      (s.dcq q.toNat).cut = false)
    ∧ (∃ (q : BitVec 16) (i : QItem) (lag : BitVec 8) (s : State), s.queueSide q.toNat false = true ∧ queueDepth q.toNat ≠ 0 ∧
      (s.dcq q.toNat).flushing = true ∧ queueObserves q.toNat = true)
    ∧ (∃ (q : BitVec 16) (i : QItem) (lag : BitVec 8) (s : State), s.queueSide q.toNat false = true ∧ queueDepth q.toNat ≠ 0 ∧
      (s.dcq q.toNat).flushing = true ∧ queueObserves q.toNat = false)
    ∧ (∃ (q : BitVec 16) (ecc : Ecc) (lag : BitVec 8) (i : QItem) (r : List QItem) (s : State), s.queueSide q.toNat true = true ∧
      queueDepth q.toNat ≠ 0 ∧ 32 ≤ q.toNat ∧ (s.dcq q.toNat).items = i :: r ∧ (s.dcq q.toNat).unseen.min lag.toNat ≤ r.length ∧
      (s.dcq q.toNat).flushing = false ∧ s.noneWaits q.toNat ∧ (ecc = Ecc.clean ∨ ¬q.toNat ∈ raisedQueues))
    ∧ (∃ (q : BitVec 16) (ecc : Ecc) (lag : BitVec 8) (i : QItem) (r : List QItem) (s : State), ecc = Ecc.single ∧
      s.queueSide q.toNat true = true ∧ queueDepth q.toNat ≠ 0 ∧ 32 ≤ q.toNat ∧ (s.dcq q.toNat).items = i :: r ∧
      (s.dcq q.toNat).unseen.min lag.toNat ≤ r.length ∧ (s.dcq q.toNat).flushing = false ∧ s.noneWaits q.toNat)
    ∧ (∃ (q : BitVec 16) (ecc : Ecc) (lag : BitVec 8) (i : QItem) (r : List QItem) (s : State), ecc = Ecc.multi ∧
      s.queueSide q.toNat true = true ∧ queueDepth q.toNat ≠ 0 ∧ 32 ≤ q.toNat ∧ (s.dcq q.toNat).items = i :: r ∧
      (s.dcq q.toNat).unseen.min lag.toNat ≤ r.length ∧ (s.dcq q.toNat).flushing = false ∧ s.noneWaits q.toNat)
    ∧ (∃ (q : BitVec 16) (ecc : Ecc) (lag : BitVec 8) (i : QItem) (r : List QItem) (s : State), ecc = Ecc.clean ∧
      s.queueSide q.toNat true = true ∧ queueDepth q.toNat ≠ 0 ∧ 32 ≤ q.toNat ∧ (s.dcq q.toNat).items = i :: r ∧
      (s.dcq q.toNat).unseen.min lag.toNat ≤ r.length ∧ (s.dcq q.toNat).flushing = false ∧ s.noneWaits q.toNat)
    ∧ (∃ (q : BitVec 16) (lag : BitVec 8) (i : QItem) (r : List QItem) (s : State) (row : Nat), row = 5 * (q.toNat / 2 % 4) + 2 ∧
      s.queueSide q.toNat true = true ∧ q.toNat < 32 ∧ q.toNat % 2 = 1 ∧ (s.dcq q.toNat).items = i :: r ∧
      (s.dcq q.toNat).unseen.min lag.toNat ≤ r.length ∧ (s.dcq q.toNat).flushing = false ∧ sideClass (natFWord i.payload) = 1)
    ∧ (∃ (q : BitVec 16) (lag : BitVec 8) (i : QItem) (r : List QItem) (w : FWord) (m : Nat) (s : State), w = natFWord i.payload ∧
      m = 2 * hubTarget (q.toNat / 2) w + 1 ∧ s.queueSide q.toNat true = true ∧ q.toNat < 32 ∧ q.toNat % 2 = 0 ∧
      (s.dcq q.toNat).items = i :: r ∧ (s.dcq q.toNat).unseen.min lag.toNat ≤ r.length ∧ (s.dcq q.toNat).flushing = false ∧
      sideClass w = 1 ∧ s.hubTakes q.toNat i = true ∧ s.partOfQuad (destQuad w) = s.partOfQuad (q.toNat / 8) ∧
      (s.dcq m).items.length < 64 ∧ (s.dcq m).flushing = false ∧ (s.dcq m).cut = false)
    ∧ (∃ (q : BitVec 16) (s : State), s.pwrok = true ∧ s.trip = false ∧ queueDepth q.toNat ≠ 0 ∧ (s.dcq q.toNat).flushing = false ∧
      queueObserves q.toNat = true)
    ∧ (∃ (q : BitVec 16) (s : State), s.pwrok = true ∧ s.trip = false ∧ queueDepth q.toNat ≠ 0 ∧ (s.dcq q.toNat).flushing = false ∧
      queueObserves q.toNat = false ∧ (s.dcq q.toNat).items ≠ [])
    ∧ (∃ (q : BitVec 16) (s : State), s.pwrok = true ∧ s.trip = false ∧ (s.dcq q.toNat).flushing = true ∧ s.noneWaits q.toNat)
    ∧ (∃ (q : BitVec 16) (ecc : Ecc) (lag : BitVec 8) (s : State), s.queueSide q.toNat true = true ∧ queueDepth q.toNat ≠ 0 ∧
      (s.dcq q.toNat).flushing = true) :=
  ⟨⟨0x300, queueItem 5, 1, queued 0x300 (holding (List.replicate 31 (queueItem 1))), by decide +kernel⟩,
   ⟨0x400, queueItem 5, 1, queued 0x400 (holding (List.replicate 256 (queueItem 1))), by decide +kernel⟩,
   ⟨0x300, queueItem 5, 1, queued 0x300 (holding (List.replicate 32 (queueItem 1))), by decide +kernel⟩,
   ⟨0x42D, queueItem 5, 1, queued 0x42D { Dcq.init with flushing := true }, by decide +kernel⟩,
   ⟨0x300, queueItem 5, 1, queued 0x300 { Dcq.init with flushing := true }, by decide +kernel⟩,
   ⟨0x20B, .multi, 0, queueItem 5, [queueItem 6], queued 0x20B (holding [queueItem 5, queueItem 6]), by decide +kernel⟩,
   ⟨0x300, _, 0, queueItem 5, [], queued 0x300 { holding [queueItem 5] with gapOwed := true, unseen := 1 }, rfl, by decide +kernel⟩,
   ⟨0x20B, _, 0, queueItem 5, [queueItem 6], queued 0x20B (holding [queueItem 5, queueItem 6]), rfl, by decide +kernel⟩,
   ⟨0x300, _, 0, queueItem 5, [], queued 0x300 { holding [queueItem 5] with gapOwed := true, unseen := 1 }, rfl, by decide +kernel⟩,
   ⟨1, 0, { queueItem (FWordNat (word 256)) with poison := true }, [],
     queued 1 (holding [{ queueItem (FWordNat (word 256)) with poison := true }]), _, rfl, by decide +kernel⟩,
   ⟨2, 0, { queueItem (FWordNat (word (creditedSide 3 2 2))) with poison := true }, [], _, _,
     queued 2 (holding [{ queueItem (FWordNat (word (creditedSide 3 2 2))) with poison := true }]), rfl, rfl, by decide +kernel⟩,
   ⟨0x400, queued 0x400 (holding [queueItem 5, queueItem 6]), by decide +kernel⟩,
   ⟨0x300, queued 0x300 (holding [queueItem 5]), by decide +kernel⟩,
   ⟨0x300, queued 0x300 { Dcq.init with flushing := true }, by decide +kernel⟩,
   ⟨0x300, .multi, 1, queued 0x300 { Dcq.init with flushing := true }, by decide +kernel⟩⟩

theorem wit_StackWords :
    (∃ (k : Fin 20) (w : BitVec 30) (half : Option Bool) (who : Requester) (ecc : Ecc) (s : State), s.pwrok = true ∧
      s.ownStack who k = true ∧ s.serves k = true ∧ (s.stack k).waiting = [] ∧ (s.stack k).asking = [] ∧ ecc ≠ Ecc.buffer ∧
      s.mayRequest k { who := who, word := w, half := half, write := none, ecc := ecc } = true ∧ s.poisoned k w.toNat = true)
    ∧ (∃ (k : Fin 20) (w : BitVec 30) (half : Option Bool) (who : Requester) (ecc : Ecc) (s : State), s.pwrok = true ∧
      s.ownStack who k = true ∧ s.serves k = true ∧ (s.stack k).waiting = [] ∧ (s.stack k).asking = [] ∧ ecc ≠ Ecc.buffer ∧
      s.mayRequest k { who := who, word := w, half := half, write := none, ecc := ecc } = true ∧ s.poisoned k w.toNat = false ∧
      ecc = Ecc.clean)
    ∧ (∃ (k : Fin 20) (w : BitVec 30) (half : Option Bool) (who : Requester) (ecc : Ecc) (s : State), s.pwrok = true ∧
      s.ownStack who k = true ∧ s.serves k = true ∧ (s.stack k).waiting = [] ∧ (s.stack k).asking = [] ∧ ecc ≠ Ecc.buffer ∧
      s.mayRequest k { who := who, word := w, half := half, write := none, ecc := ecc } = true ∧ s.poisoned k w.toNat = false ∧
      ecc = Ecc.onDie)
    ∧ (∃ (k : Fin 20) (w : BitVec 30) (half : Option Bool) (who : Requester) (ecc : Ecc) (s : State), s.pwrok = true ∧
      s.ownStack who k = true ∧ s.serves k = true ∧ (s.stack k).waiting = [] ∧ (s.stack k).asking = [] ∧ ecc ≠ Ecc.buffer ∧
      s.mayRequest k { who := who, word := w, half := half, write := none, ecc := ecc } = true ∧ s.poisoned k w.toNat = false ∧
      ecc = Ecc.single)
    ∧ (∃ (k : Fin 20) (w : BitVec 30) (half : Option Bool) (who : Requester) (ecc : Ecc) (s : State), s.pwrok = true ∧
      s.ownStack who k = true ∧ s.serves k = true ∧ (s.stack k).waiting = [] ∧ (s.stack k).asking = [] ∧ ecc ≠ Ecc.buffer ∧
      s.mayRequest k { who := who, word := w, half := half, write := none, ecc := ecc } = true ∧ s.poisoned k w.toNat = false ∧
      ecc = Ecc.multi ∧ SMap.get 0 (s.stack k).badRows (wordRow w.toNat) = 1)
    ∧ (∃ (k : Fin 20) (w : BitVec 30) (half : Option Bool) (who : Requester) (s : State), s.pwrok = true ∧ s.ownStack who k = true ∧
      s.serves k = true ∧ (s.stack k).zeroFilling = false)
    ∧ (∃ (k : Fin 20) (w : BitVec 30) (half : Option Bool) (who : Requester) (s : State) (j o : Nat), s.pwrok = true ∧
      s.ownStack who k = true ∧ s.serves k = true ∧ (s.stack k).zeroFilling = true ∧ j ≠ k.val ∧ o < 2 ^ 36)
    ∧ (∃ (k : Fin 20) (w : BitVec 30) (half : Option Bool) (who : Requester) (ecc : Ecc) (r : HbmReq) (s : State),
      r = { who := who, word := w, half := half, write := none, ecc := ecc } ∧ s.pwrok = true ∧ s.trip = false ∧ s.ownStack who k = true ∧
      ecc ≠ Ecc.buffer ∧ (s.stack k).waiting = [] ∧ (s.stack k).asking = [] ∧ s.mayRequest k r = false)
    ∧ (∃ (k : Fin 20) (w : BitVec 30) (half : Option Bool) (who : Requester) (ecc : Ecc) (r : HbmReq) (s : State),
      r = { who := who, word := w, half := half, write := none, ecc := ecc } ∧ s.pwrok = true ∧ s.trip = false ∧ s.ownStack who k = true ∧
      ecc ≠ Ecc.buffer ∧ (s.stack k).asking = [] ∧ s.mayRequest k r = true ∧ s.serves k = false)
    ∧ (∃ (k : Fin 20) (w : BitVec 30) (h : Option Bool) (data : BitVec 512) (poison : Bool) (who : Requester) (s : State) (j x : Nat),
      s.pwrok = true ∧ s.ownStack who k = true ∧ s.serves k = true ∧ (s.stack k).waiting = [] ∧ (s.stack k).asking = [] ∧
      s.mayRequest k { who := who, word := w, half := h, write := some (data, poison), ecc := Ecc.clean } = true ∧
      (j, x) ≠ (k.val, w.toNat) ∧ j < 20 ∧ x < 2 ^ 30)
    ∧ (∃ (k : Fin 20) (w : BitVec 30) (h : Option Bool) (data : BitVec 512) (poison : Bool) (who : Requester) (r : HbmReq) (s : State),
      r = { who := who, word := w, half := h, write := some (data, poison), ecc := Ecc.clean } ∧ s.pwrok = true ∧ s.trip = false ∧
      s.ownStack who k = true ∧ (s.stack k).waiting = [] ∧ (s.stack k).asking = [] ∧ s.mayRequest k r = false)
    ∧ (∃ (k : Fin 20) (w : BitVec 30) (h : Option Bool) (data : BitVec 512) (poison : Bool) (who : Requester) (ecc : Ecc) (s : State),
      s.pwrok = true ∧ s.trip = false ∧ s.ownStack who k = false)
    ∧ (∃ (k : Fin 20) (w : BitVec 30) (s : State), s.serves k = true ∧ w.toNat ∈ (s.stack k).writeBacks)
    ∧ (∃ (k : Fin 20) (w : BitVec 30) (s : State), w.toNat ∉ (s.stack k).writeBacks)
    ∧ (∃ (k : Fin 20) (w : BitVec 30) (s : State), w = BitVec.allOnes 30 ∧ s.serves k = true ∧ (s.stack k).waiting = [] ∧
      s.poisoned k w.toNat = false)
    ∧ (∃ (k : Fin 20) (temp : Int) (s : State), s.pwrok = true ∧ s.trip = false ∧ -32768 ≤ temp ∧ temp < 32768 ∧
      s.obj (0x401004 + 256 * k) ≤ 4 ∧ ↑(s.live 0x400102) * 10 ≤ temp)
    ∧ (∃ (k : Fin 20) (temp : Int) (s : State), s.pwrok = true ∧ s.trip = false ∧ -32768 ≤ temp ∧ temp < 32768 ∧
      s.obj (0x401004 + 256 * k) ≤ 4 ∧ temp < (↑(s.live 0x400102) - ↑(s.live 0x400103)) * 10)
    ∧ (∃ (k : Fin 20) (temp : Int) (s : State), s.pwrok = true ∧ s.trip = false ∧ -32768 ≤ temp ∧ temp < 32768 ∧
      s.obj (0x401004 + 256 * k) ≤ 4 ∧ (↑(s.live 0x400102) - ↑(s.live 0x400103)) * 10 ≤ temp ∧ temp < ↑(s.live 0x400102) * 10)
    ∧ (∃ (k : Fin 20) (temp : Int) (s : State), s.pwrok = true ∧ s.trip = false ∧ -32768 ≤ temp ∧ temp < 32768 ∧
      s.obj (0x401004 + 256 * k) ≤ 4 ∧ s.obj (0x401003 + 256 * k) = 0 ∧ ↑(s.live 0x400101) * 10 ≤ temp)
    ∧ (∃ (k : Fin 20) (temp : Int) (s : State), s.pwrok = true ∧ s.trip = false ∧ -32768 ≤ temp ∧ temp < 32768 ∧
      s.obj (0x401004 + 256 * k) ≤ 4 ∧ s.obj (0x401003 + 256 * k) = 2)
    ∧ (∃ (k : Fin 20) (temp : Int) (s : State), s.pwrok = true ∧ s.trip = false ∧ -32768 ≤ temp ∧ temp < 32768 ∧
      s.obj (0x401004 + 256 * k) ≤ 4 ∧ 0 < s.obj (0x401004 + 256 * k.val)) :=
  ⟨⟨7, 9, none, .hub, .single, { stack7 Stack.init with hbmPoison := [(7 * 2 ^ 30 + 9, true)] }, by decide +kernel⟩,
   ⟨7, 9, some true, .engine, .clean, { stack7 { Stack.init with writeBacks := [5, 6] } with hbm := [(hbmKey 7 608, 5)] },
     by decide +kernel⟩,
   ⟨7, 0x3FFFFFFF, none, .loom ⟨1, 0, 0⟩, .onDie, stack7 Stack.init, by decide +kernel⟩,
   ⟨7, 9, none, .hub, .single, stack7 Stack.init, by decide +kernel⟩,
   ⟨7, 9, none, .hub, .multi, stack7 { Stack.init with badRows := [(wordRow 9, 1)] }, by decide +kernel⟩,
   ⟨7, 9, none, .hub, stack7 Stack.init, by decide +kernel⟩,
   ⟨7, 9, none, .hub, { stack7 { Stack.init with zeroFilling := true } with hbm := [(hbmKey 7 608, 5), (hbmKey 8 0, 9)] }, 0, 0,
     by decide +kernel⟩,
   ⟨7, 9, none, .hub, .single, _, stack7 { Stack.init with owners := List.replicate 16 .hub }, rfl, by decide +kernel⟩,
   ⟨7, 9, none, .hub, .single, _, stack7 { Stack.init with selfRefresh := true }, rfl, by decide +kernel⟩,
   ⟨7, 9, none, 5, false, .engine, { stack7 { Stack.init with writeBacks := [9] } with hbmPoison := [(7 * 2 ^ 30 + 9, true)] }, 8, 9,
     by decide +kernel⟩,
   ⟨7, 9, none, 5, false, .engine, _, stack7 { Stack.init with owners := List.replicate 32 .engine }, rfl, by decide +kernel⟩,
   ⟨7, 9, none, 5, false, .loom corner, .clean, apart (stack7 Stack.init), by decide +kernel⟩,
   ⟨7, 9, stack7 { Stack.init with writeBacks := [9] }, by decide +kernel⟩,
   ⟨7, 9, up, by decide +kernel⟩,
   ⟨7, _, stack7 Stack.init, rfl, by decide +kernel⟩,
   ⟨7, 10 * (up.live 0x400102 : Int), on up [(0x401004 + 256 * 7, 4)], by decide +kernel⟩,
   ⟨7, -32768, on up [(0x401004 + 256 * 7, 4)], by decide +kernel⟩,
   ⟨7, 10 * (up.live 0x400102 : Int) - 1, on up [(0x401004 + 256 * 7, 1)], by decide +kernel⟩,
   ⟨7, 32767, up, by decide +kernel⟩,
   ⟨7, 0, on up [(0x401003 + 256 * 7, 2)], by decide +kernel⟩,
   ⟨7, 10 * (up.live 0x400102 : Int), on up [(0x401004 + 256 * 7, 4)], by decide +kernel⟩⟩

/-- A stack in use, with work of a loom and bytes of another stack. -/
def stackInUse : State := { on up [(0x40100F + 256 * 7, 3)] with looms := [(500, { Loom.init with issued := 3 })], hbm := [(5, 9)] }

theorem wit_UncontainedFaultsReset :
    (∃ (k : Fin 20) (c : Instr) (s : State) (l : LoomId), c ∈ [Instr.hbmRequestTimeout k, Instr.caParityError k, Instr.phyLockLoss k] ∧
      s.stackUp k = true ∧ s.partOfQuad l.q = s.partOfStack k)
    ∧ (∃ (k : Fin 20) (c : Instr) (s : State) (l : LoomId), c ∈ [Instr.hbmRequestTimeout k, Instr.caParityError k, Instr.phyLockLoss k] ∧
      s.stackUp k = true ∧ s.partOfQuad l.q ≠ s.partOfStack k)
    ∧ (∃ (k : Fin 20) (c : Instr) (s : State) (j o : Nat), c ∈ [Instr.hbmRequestTimeout k, Instr.caParityError k, Instr.phyLockLoss k] ∧
      s.stackUp k = true ∧ j < 20 ∧ o < 2 ^ 36 ∧ s.partOfStack j = s.partOfStack k)
    ∧ (∃ (k : Fin 20) (c : Instr) (s : State) (j o : Nat), c ∈ [Instr.hbmRequestTimeout k, Instr.caParityError k, Instr.phyLockLoss k] ∧
      s.stackUp k = true ∧ j < 20 ∧ o < 2 ^ 36 ∧ s.partOfStack j ≠ s.partOfStack k) :=
  ⟨⟨7, .caParityError 7, stackInUse, corner, by decide +kernel⟩,
   ⟨7, .caParityError 7, apart stackInUse, corner, by decide +kernel⟩,
   ⟨7, .caParityError 7, stackInUse, 0, 0, by decide +kernel⟩,
   ⟨7, .caParityError 7, apart stackInUse, 0, 5, by decide +kernel⟩⟩

/-- The job before its first step, with LIMIT 9. -/
def beforeStep (x : Part) : State := on (job 5 x) [(0x907004, 9), (0x504002, 8)]

theorem wit_StepsBegin :
    (∃ (p : Fin 4) (s : State), s.anyStopped p = false ∧ s.mayBegin p = true ∧ (s.part p).exhausted (s.stepNo p + 1) = false ∧
      (s.part p).early = [] ∧ (∀ (w : WindowEnt), w ∈ (s.part p).ownWindows → w.results = false))
    ∧ (∃ (p : Fin 4) (s : State) (l : LoomId) (i : Nat), s.quiet ∧ s.anyStopped p = false ∧ s.mayBegin p = true ∧
      (s.part p).exhausted (s.stepNo p + 1) = false ∧ (s.part p).early = [] ∧ (s.part p).ownWindows = [] ∧ s.loomPart l = p ∧
      s.loomExists l = true ∧ i < 256)
    ∧ (∃ (p : Fin 4) (s : State) (l : LoomId), s.quiet ∧ s.anyStopped p = false ∧ s.mayBegin p = true ∧
      (s.part p).exhausted (s.stepNo p + 1) = false ∧ (s.part p).early = [] ∧ (s.part p).ownWindows = [] ∧
      (s.loomPart l ≠ p.val ∨ s.loomExists l = false))
    ∧ (∃ (p : Fin 4) (s : State), s.anyStopped p = false ∧ s.jobState p = 5 ∧ s.exState p = 4 ∧ (s.part p).filled = false ∧
      (s.part p).early = [] ∧ (∀ (w : WindowEnt), w ∈ (s.part p).ownWindows → w.results = false))
    ∧ (∃ (p : Fin 4) (s : State) (l : LoomId), s.jobState p = 5 ∧ (s.exState p = 1 ∨ s.exState p = 4) ∧ (s.part p).filled = true ∧
      (s.part p).inStep = false ∧ ((s.part p).aborted = false ∨ (s.part p).copied = true) ∧ (s.part p).windowTests = [] ∧
      s.rollPending p = false ∧ ((s.part p).aborted = true ∨ s.linksAllow p (s.stepNo p) = true) ∧
      (s.part p).ringsFull (s.stepNo p) = true ∧ s.atOrbit p = true ∧ s.loomPart l = p ∧ s.loomExists l = true)
    ∧ (∃ (p : Fin 4) (s : State) (l : LoomId), s.jobState p = 5 ∧ (s.exState p = 1 ∨ s.exState p = 4) ∧ (s.part p).filled = true ∧
      (s.part p).inStep = false ∧ ((s.part p).aborted = false ∨ (s.part p).copied = true) ∧ (s.part p).windowTests = [] ∧
      s.rollPending p = false ∧ ((s.part p).aborted = true ∨ s.linksAllow p (s.stepNo p) = true) ∧
      (s.part p).ringsFull (s.stepNo p) = true ∧ s.atOrbit p = true ∧ (s.loomPart l ≠ p.val ∨ s.loomExists l = false))
    ∧ (∃ (p : Fin 4) (s : State), s.exState p = 1 ∧ (s.part p).aborted = false ∧ s.stepNo p = s.startBoundary p + 1 ∧
      (s.narrowLink p).isSome = true)
    ∧ (∃ (p : Fin 4) (s : State), s.mayBegin p = true ∧ (s.part p).exhausted (s.stepNo p + 1) = true) :=
  ⟨⟨0, beforeStep member, by decide +kernel⟩,
   ⟨0, { beforeStep member with looms := [(0, { Loom.init with scaleMap := [(3, 0)] })] }, corner, 3, fun _ => rfl, by decide +kernel⟩,
   ⟨0, apart (beforeStep member), ⟨3, 19, 24⟩, fun _ => rfl, by decide +kernel⟩,
   ⟨0, on (job 5 member) [(0x521003, 4), (0x521001, 3), (0x521002, 1)], by decide +kernel⟩,
   ⟨0, on (beforeStep { member with filled := true, ringFull := [(4 * 65536 + 1, 1)] }) [(0x521003, 1), (0x521001, 1)], corner,
     by decide +kernel⟩,
   ⟨0, apart (on (beforeStep { member with filled := true, ringFull := [(4 * 65536 + 1, 1)] }) [(0x521003, 1), (0x521001, 1)]), ⟨3, 19,
     24⟩, by decide +kernel⟩,
   ⟨0, on (beforeStep { member with filled := true }) [(0x521003, 1), (0x521001, 1), (0x504004, 0)], by decide +kernel⟩,
   ⟨0, beforeStep { member with image := some { image0 with updBase := 0, updLast := 0, updTable := [0] } }, by decide +kernel⟩⟩

/-- Every loom of an image of 400 looms has merged. -/
def allMerged : State :=
  { on (job 5 { member with applied := true, image := some { image0 with looms := 1600 } }) [(0x90000A, 2)] with
    looms := (List.range 400).map (fun k => (25 * (k / 20) + k % 20, { Loom.init with merged := true })) }

/-- The row of a slot and the copy of a parameter stand apart in memory. -/
def copying : State := filled 2 [0, 0, 0xC0, 0x3F] (job 5 { member with filled := true, image := some (stepImage [copyWord]) })

theorem wit_EphemerisAndForwardCopies :
    (∃ (l : LoomId) (s : State) (i : Nat) (a : EphAcc) (slot : Nat) (r : EphRow), slot = (SMap.get 65535 (s.loom l).scaleMap i).toNat ∧
      r = s.ephRow (s.loomPart l) (s.stepNo (s.loomPart l)) slot ∧ (s.loom l).seq = SeqState.ended ∧ (s.loom l).merged = false ∧
      (s.part (s.loomPart l)).inStep = true ∧ s.memStopped (s.loomPart l) = false ∧ s.quadRuns l.q = true ∧ (s.loom l).eph = [(i, a)] ∧
      SMap.get 65535 (s.loom l).scaleMap i ≠ 65535)
    ∧ (∃ (l : LoomId) (s : State), ((s.loom l).merged = true ∨ s.quadRuns l.q = false))
    ∧ (∃ (p : Fin 4) (s : State), (s.part p).applied = true ∧ (s.part p).rowFinal = false ∧ s.allMerged p = true ∧ s.memStopped p = false)
    ∧ (∃ (p : Fin 4) (s : State), (s.allMerged p = false ∨ s.memStopped p = true))
    ∧ (∃ (p : Fin 4) (s : State), (s.memStopped p = true ∨ s.copiesGo p = false))
    ∧ (∃ (p : Fin 4) (s : State), (s.part p).filled = true ∧ (s.part p).copied = false ∧ s.memStopped p = false ∧ s.copiesGo p = true ∧
      ((s.commands p).all fun c => !uCopy c) = true)
    ∧ (∃ (p : Fin 4) (c : Word512) (s : State) (m : Nat),
      m = (uFirst c - (s.part p).stateBase (uRegion c)) / blockParams ((s.part p).stateLayout (uRegion c)) * 256 + masterBytes ((s.part
      p).stateLayout (uRegion c)) * ((uFirst c - (s.part p).stateBase (uRegion c)) % blockParams ((s.part p).stateLayout (uRegion c))) ∧
      (∀ (rw cw : Nat × Nat), rw = s.regionWord p ((s.part p).theRegion 5) ((s.part p).rowAt (s.stepNo p) (uCslot c)) → cw = s.regionWord
      p (uCregion c) (uFirst c - uTbase c) → ∀ (j : Nat),
      j < 32 → hbmKey rw.fst (64 * rw.snd + (s.part p).rowAt (s.stepNo p) (uCslot c) % 64 + j) ≠ hbmKey cw.fst (64 * cw.snd + (uFirst c -
      uTbase c) % 64)) ∧ (s.part p).filled = true ∧ (s.part p).copied = false ∧ s.memStopped p = false ∧ s.copiesGo p = true ∧
      s.rowPoison p (s.stepNo p) (uCslot c) = 0 ∧ (s.part p).poisoned = false ∧ s.commands p = [c] ∧ uCopy c = true ∧ uCount c = 1 ∧
      fmtWidth (uCfmt c) = 8 ∧ s.poisonIn p (uRegion c) m (masterBytes ((s.part p).stateLayout (uRegion c))) = 0) :=
  ⟨⟨corner, { jobLoom { Loom.init with seq := .ended, scaleMap := [(3, 0)], eph := [(3, { EphAcc.zero with max := 7, elems := 9 })] } with
       ns := 1 }, 3, { EphAcc.zero with max := 7, elems := 9 }, _, _, rfl, rfl, by decide +kernel⟩,
   ⟨corner, jobLoom { Loom.init with merged := true }, by decide +kernel⟩,
   ⟨0, allMerged, by decide +kernel⟩,
   ⟨0, job 5 { member with applied := true }, by decide +kernel⟩,
   ⟨0, flushed up, by decide +kernel⟩,
   ⟨0, job 5 { member with filled := true }, by decide +kernel⟩,
   ⟨0, copyWord, copying, _, rfl, fun rw cw h1 h2 => by subst h1 h2; decide +kernel, by decide +kernel⟩⟩

/-- A command of state region 2 with rule `r`, for window 5; the partition of its engine, committed, where the window's chunk is done. -/
def ruleWord (r : Nat) : Word512 :=
  fields [(0, r), (16, 7), (32, 9), (64, 2), (72, 6), (112, 0xFFFF), (128, 32768), (320, 1)]

def engine (r : Nat) (f : Part → Part) : State :=
  job 5 (f { member with committed := true, windowsDone := [5], image := some { stepImage [ruleWord r] with windows := [tallyWindow 0 0 1] } })

/-- The manifest with state region 2 frozen. -/
def frozenManifest : Bytes := jobManifest.take 770 ++ [1] ++ jobManifest.drop 771

/-- A parameter of 1.5 and a gradient of 5. -/
def updating : State := filled 6 [5] (filled 2 [0, 0, 0xC0, 0x3F] (engine 1 id))
def homeStack : Fin 20 := Fin.ofNat 20 (updating.blockStack 0 2 0)

/-- A rule whose learning rate is relative to slot 0, and the update with the slot's entry of step 0 poisoned. -/
def relRule : Word512 :=
  fields [(0, 1), (16, 7), (32, 9), (64, 2), (72, 6), (112, 0xFFFF), (128, 32768), (152, 1), (320, 1)]
def relUpdating : State :=
  let img := { stepImage [relRule] with windows := [tallyWindow 0 0 1], updTable := [0, 0, 2 ^ 32] }
  poisonAt 5 0 (on (job 5 { member with committed := true, windowsDone := [5], image := some img }) [(0x521001, 2), (0x521003, 3)])

theorem wit_UpdateEngines :
    (∃ (k : Fin 20) (i : BitVec 32) (ok : Bool) (c : Word512) (s : State), (s.commands (s.partOfStack k))[i.toNat]? = some c ∧
      s.quadRuns (k / 5) = true ∧ s.memStopped (s.partOfStack k) = false ∧ (s.part (s.partOfStack k)).committed = true ∧
      (s.part (s.partOfStack k)).applied = false ∧ i.toNat ∉ (s.stack k).cmdsDone ∧
      (∀ (j : Nat), j < i.toNat → j ∈ (s.stack k).cmdsDone) ∧ (s.stack k).failed = false ∧ uRule c = 3)
    ∧ (∃ (k : Fin 20) (i : BitVec 32) (ok : Bool) (c : Word512) (s : State), (s.commands (s.partOfStack k))[i.toNat]? = some c ∧
      s.quadRuns (k / 5) = true ∧ s.memStopped (s.partOfStack k) = false ∧ (s.part (s.partOfStack k)).committed = true ∧
      (s.part (s.partOfStack k)).applied = false ∧ i.toNat ∉ (s.stack k).cmdsDone ∧
      (∀ (j : Nat), j < i.toNat → j ∈ (s.stack k).cmdsDone) ∧ (s.stack k).failed = false ∧ uRule c ≠ 3 ∧
      (s.part (s.partOfStack k)).hold ≠ none)
    ∧ (∃ (k : Fin 20) (i : BitVec 32) (ok : Bool) (c : Word512) (s : State), (s.commands (s.partOfStack k))[i.toNat]? = some c ∧
      s.quadRuns (k / 5) = true ∧ s.memStopped (s.partOfStack k) = false ∧ (s.part (s.partOfStack k)).committed = true ∧
      (s.part (s.partOfStack k)).applied = false ∧ i.toNat ∉ (s.stack k).cmdsDone ∧
      (∀ (j : Nat), j < i.toNat → j ∈ (s.stack k).cmdsDone) ∧ (s.stack k).failed = false ∧ uRule c ≠ 3 ∧
      (s.part (s.partOfStack k)).hold = none ∧ (s.part (s.partOfStack k)).stateFrozen (uRegion c) = true)
    ∧ (∃ (k : Fin 20) (i : BitVec 32) (ok : Bool) (c : Word512) (s : State) (w : WindowEnt), s.quiet ∧
      (s.commands (s.partOfStack k))[i.toNat]? = some c ∧ s.quadRuns (k / 5) = true ∧ s.memStopped (s.partOfStack k) = false ∧
      (s.part (s.partOfStack k)).committed = true ∧ (s.part (s.partOfStack k)).applied = false ∧ i.toNat ∉ (s.stack k).cmdsDone ∧
      (∀ (j : Nat), j < i.toNat → j ∈ (s.stack k).cmdsDone) ∧ (s.stack k).failed = false ∧ uRule c ≠ 3 ∧
      (s.part (s.partOfStack k)).hold = none ∧ (s.part (s.partOfStack k)).stateFrozen (uRegion c) = false ∧
      (s.part (s.partOfStack k)).windowOfRegion (uWindow c) = some w ∧ w.window.toNat ∈ (s.part (s.partOfStack k)).windowsDone ∧
      s.cmdSkipped (s.partOfStack k) w = true)
    ∧ (∃ (k : Fin 20) (i : BitVec 32) (ok : Bool) (c : Word512) (s : State) (w : WindowEnt) (b : Nat), s.quiet ∧
      (s.commands (s.partOfStack k))[i.toNat]? = some c ∧ s.quadRuns (k / 5) = true ∧ s.memStopped (s.partOfStack k) = false ∧
      (s.part (s.partOfStack k)).committed = true ∧ (s.part (s.partOfStack k)).applied = false ∧ i.toNat ∉ (s.stack k).cmdsDone ∧
      (∀ (j : Nat), j < i.toNat → j ∈ (s.stack k).cmdsDone) ∧ (s.stack k).failed = false ∧ uRule c ≠ 3 ∧
      (s.part (s.partOfStack k)).hold = none ∧ (s.part (s.partOfStack k)).stateFrozen (uRegion c) = false ∧
      (s.part (s.partOfStack k)).windowOfRegion (uWindow c) = some w ∧ w.window.toNat ∈ (s.part (s.partOfStack k)).windowsDone ∧
      s.cmdSkipped (s.partOfStack k) w = false ∧ List.filter (fun b => s.blockStack (s.partOfStack k) (uRegion c) b == k) ((s.part
      (s.partOfStack k)).cmdBlocks c) = [b] ∧ s.lrPoison (s.partOfStack k) c ≠ 0 ∧ s.exState (s.partOfStack k) = 3 ∧
      s.jobLive (s.partOfStack k) = true)
    ∧ (∃ (k : Fin 20) (i : BitVec 32) (ok : Bool) (c : Word512) (s : State) (w : WindowEnt) (b : Nat), ok = false ∧
      (s.commands (s.partOfStack k))[i.toNat]? = some c ∧ s.quadRuns (k / 5) = true ∧ s.memStopped (s.partOfStack k) = false ∧
      (s.part (s.partOfStack k)).committed = true ∧ (s.part (s.partOfStack k)).applied = false ∧ i.toNat ∉ (s.stack k).cmdsDone ∧
      (∀ (j : Nat), j < i.toNat → j ∈ (s.stack k).cmdsDone) ∧ (s.stack k).failed = false ∧ uRule c ≠ 3 ∧
      (s.part (s.partOfStack k)).hold = none ∧ (s.part (s.partOfStack k)).stateFrozen (uRegion c) = false ∧
      (s.part (s.partOfStack k)).windowOfRegion (uWindow c) = some w ∧ w.window.toNat ∈ (s.part (s.partOfStack k)).windowsDone ∧
      s.cmdSkipped (s.partOfStack k) w = false ∧ List.filter (fun b => s.blockStack (s.partOfStack k) (uRegion c) b == k) ((s.part
      (s.partOfStack k)).cmdBlocks c) = [b] ∧ s.lrPoison (s.partOfStack k) c = 0 ∧ (s.obj 0x702001).testBit (s.partOfStack k) = true)
    ∧ (∃ (k : Fin 20) (i : BitVec 32) (ok : Bool) (c : Word512) (s : State) (w : WindowEnt) (b : Nat) (a : EngineWork), ok = true ∧
      s.quiet ∧ a = List.foldl (fun a j => s.stepParam (s.partOfStack k) c w (s.learningRate (s.partOfStack k) c) true ((s.part
      (s.partOfStack k)).fpKey (uTensor c)) b a j) { block := s.readRegion (s.partOfStack k) (uRegion c) (256 * b) 256, fp1 := 0,
                                                     fp2 := 0, params := 0, nonfin := 0, sats := 0,
                                                     row := EphAcc.zero } ((s.part (s.partOfStack k)).cmdSlots c b) ∧
      (s.commands (s.partOfStack k))[i.toNat]? = some c ∧ s.quadRuns (k / 5) = true ∧ s.memStopped (s.partOfStack k) = false ∧
      (s.part (s.partOfStack k)).committed = true ∧ (s.part (s.partOfStack k)).applied = false ∧ i.toNat ∉ (s.stack k).cmdsDone ∧
      (∀ (j : Nat), j < i.toNat → j ∈ (s.stack k).cmdsDone) ∧ (s.stack k).failed = false ∧ uRule c ≠ 3 ∧
      (s.part (s.partOfStack k)).hold = none ∧ (s.part (s.partOfStack k)).stateFrozen (uRegion c) = false ∧
      (s.part (s.partOfStack k)).windowOfRegion (uWindow c) = some w ∧ w.window.toNat ∈ (s.part (s.partOfStack k)).windowsDone ∧
      s.cmdSkipped (s.partOfStack k) w = false ∧ List.filter (fun b => s.blockStack (s.partOfStack k) (uRegion c) b == k) ((s.part
      (s.partOfStack k)).cmdBlocks c) = [b] ∧ s.lrPoison (s.partOfStack k) c = 0 ∧ uMslot c = 65535 ∧
      s.poisonIn (s.partOfStack k) (uRegion c) (256 * b) 256 = 0 ∧ s.poisonIn (s.partOfStack k) w.region.toNat (256 * b) 256 = 0 ∧
      (w.region2 = 255 ∨ s.poisonIn (s.partOfStack k) w.region2.toNat (256 * b) 256 = 0))
    ∧ (∃ (p : Fin 4) (s : State) (k : Nat), (s.part p).committed = true ∧ (s.part p).applied = false ∧
      (∀ (q : Nat), q ∈ s.quadsOf p → s.quadRuns q = true) ∧
      (∀ (k : Nat), k ∈ s.stacksOf p → ∀ (i : Nat), i < (s.commands p).length → i ∈ (s.stack k).cmdsDone) ∧ k ∈ s.stacksOf p)
    ∧ (∃ (p : Fin 4) (k i : Nat) (s : State), k ∈ s.stacksOf p ∧ i < (s.commands p).length ∧ i ∉ (s.stack k).cmdsDone)
    ∧ (∃ (p : Fin 4) (q : Nat) (s : State), q ∈ s.quadsOf p ∧ s.quadRuns q = false) :=
  ⟨⟨7, 0, true, ruleWord 3, engine 3 id, by decide +kernel⟩,
   ⟨7, 0, true, ruleWord 1, engine 1 (fun x => { x with hold := some 1 }), by decide +kernel⟩,
   ⟨7, 0, true, ruleWord 1, engine 1 (fun x => { x with manifest := frozenManifest }), by decide +kernel⟩,
   ⟨7, 0, true, ruleWord 1, engine 1 (fun x => { x with skipStep := true }), tallyWindow 0 0 1, fun _ => rfl, by decide +kernel⟩,
   ⟨homeStack, 0, true, relRule, relUpdating, tallyWindow 0 0 1, 0, fun _ => rfl, by decide +kernel⟩,
   ⟨homeStack, 0, _, ruleWord 1, updating.setObj 0x702001 1, tallyWindow 0 0 1, 0, rfl, by decide +kernel⟩,
   ⟨homeStack, 0, _, ruleWord 1, updating, tallyWindow 0 0 1, 0, _, rfl, fun _ => rfl, rfl, by decide +kernel⟩,
   ⟨0, job 5 { member with committed := true }, 0, by decide +kernel⟩,
   ⟨0, 7, 0, engine 1 id, by decide +kernel⟩,
   ⟨0, 0, State.reset, by decide +kernel⟩⟩

/-- Step 4 ends: all but its boundary has happened; `d` is due. -/
def atBoundary (d : List Due) : State :=
  { on (job 5 { member with applied := true, audited := true, folded := true, rowFinal := true, due := d })
      [(0x521003, 3), (0x521001, 4), (0x907004, 9)] with ns := 7 }

/-- An amendment that replaces rank 1 from boundary 4. -/
def amend4 : Amend := { bits := BitVec.ofNat 1024 (2 ^ 256 + 4 * 2 ^ 288) }

theorem wit_AuditFoldAndBoundary :
    (∃ (p : Fin 4) (s : State), s.badLoops p = [] ∧ (s.part p).applied = true ∧ (s.part p).audited = false)
    ∧ (∃ (p : Fin 4) (l : Nat) (s : State), s.badLoops p = [l] ∧ (s.part p).applied = true ∧ (s.part p).audited = false)
    ∧ (∃ (p : Fin 4) (s : State), s.badLoops p = [] ∧ (s.part p).applied = true ∧ (s.part p).folded = false ∧
      (s.part p).violated = false ∧ (s.part p).poisoned = false ∧ s.memStopped p = false ∧ s.queueTakes (fromSteward 0) = true)
    ∧ (∃ (p : Fin 4) (s : State), ((s.part p).violated = true ∨ (s.part p).poisoned = true ∨ s.queueRoom (fromSteward 0) = false))
    ∧ (∃ (p : Fin 4) (s : State) (k : Nat), s.exState p = 3 ∧ (s.part p).applied = true ∧ (s.part p).audited = true ∧
      s.memStopped p = false ∧ ((s.part p).folded = true ∨ (s.part p).violated = true ∨ (s.part p).poisoned = true) ∧
      (s.part p).rowFinal = true ∧ s.jobState p = 5 ∧ (s.part p).due = [] ∧ k ∈ s.stacksOf p)
    ∧ (∃ (p : Fin 4) (s : State) (c : BitVec 8) (d : BitVec 16) (r : List Due), s.exState p = 3 ∧ (s.part p).applied = true ∧
      (s.part p).audited = true ∧ s.memStopped p = false ∧
      ((s.part p).folded = true ∨ (s.part p).violated = true ∨ (s.part p).poisoned = true) ∧ (s.part p).rowFinal = true ∧
      s.jobState p = 5 ∧ (s.part p).due = Due.halt c d :: r)
    ∧ (∃ (p : Fin 4) (s : State) (c : BitVec 64), s.exState p = 3 ∧ (s.part p).applied = true ∧ (s.part p).audited = true ∧
      s.memStopped p = false ∧ ((s.part p).folded = true ∨ (s.part p).violated = true ∨ (s.part p).poisoned = true) ∧
      (s.part p).rowFinal = true ∧ s.jobState p = 5 ∧ (s.part p).due = [Due.take c] ∧ c.toNat = s.stepNo p ∧ (s.part p).violated = false ∧
      (s.part p).poisoned = false)
    ∧ (∃ (p : Fin 4) (s : State) (a : Amend) (r : Nat), s.exState p = 3 ∧ (s.part p).applied = true ∧ (s.part p).audited = true ∧
      s.memStopped p = false ∧ ((s.part p).folded = true ∨ (s.part p).violated = true ∨ (s.part p).poisoned = true) ∧
      (s.part p).rowFinal = true ∧ s.jobState p = 5 ∧ (s.part p).due = [Due.amend a] ∧ a.start = s.stepNo p ∧ r ≠ a.rank)
    ∧ (∃ (p : Fin 4) (s : State) (a : Amend), s.exState p = 3 ∧ (s.part p).applied = true ∧ (s.part p).audited = true ∧
      s.memStopped p = false ∧ ((s.part p).folded = true ∨ (s.part p).violated = true ∨ (s.part p).poisoned = true) ∧
      (s.part p).rowFinal = true ∧ s.jobState p = 5 ∧ (s.part p).due = [Due.amend a] ∧ a.start = s.stepNo p ∧
      (s.part p).hasKey (heldParty a.rank) = true)
    ∧ (∃ (p : Fin 4) (s : State) (a : Amend), s.exState p = 3 ∧ (s.part p).applied = true ∧ (s.part p).audited = true ∧
      s.memStopped p = false ∧ ((s.part p).folded = true ∨ (s.part p).violated = true ∨ (s.part p).poisoned = true) ∧
      (s.part p).rowFinal = true ∧ s.jobState p = 5 ∧ (s.part p).due = [Due.amend a] ∧ a.start = s.stepNo p ∧
      (s.part p).hasKey (heldParty a.rank) = false) :=
  ⟨⟨0, job 5 { member with applied := true }, badLoops_none _ _ rfl, by decide +kernel⟩,
   ⟨0, 2 ^ 24 + 3, { job 5 { member with applied := true } with cloops := [(2 ^ 24 + 3, { CLoop.init with issued := 1 })] },
     badLoops_one _ _ _ _ rfl (by decide +kernel) (by decide +kernel), by decide +kernel⟩,
   ⟨0, job 5 { member with applied := true }, badLoops_none _ _ rfl, by decide +kernel⟩,
   ⟨0, job 5 { member with applied := true, poisoned := true }, by decide +kernel⟩,
   ⟨0, atBoundary [], 0, by decide +kernel⟩,
   ⟨0, atBoundary [.halt 3 0, .take 4], 3, 0, [.take 4], by decide +kernel⟩,
   ⟨0, atBoundary [.take 4], 4, by decide +kernel⟩,
   ⟨0, atBoundary [.amend amend4], amend4, 0, by decide +kernel⟩,
   ⟨0, (atBoundary [.amend amend4]).modPart 0 (fun x => { x with pairKeys := [(heldParty 1, [7])] }), amend4, by decide +kernel⟩,
   ⟨0, atBoundary [.amend amend4], amend4, by decide +kernel⟩⟩

/-- The broadcast of an arming; the corner loom is `x`. -/
def arming (a : Arming) (x : Loom) : State := { job 2 { member with arming := a } with looms := [(0, x)] }
def broadcast : Arming := { Arming.init with step := 5 }

/-- The corner loom has both spaces; its digests are not those of the image. -/
def wholeSpaces : Arming := { broadcast with done := [(spaceKey corner false, true), (spaceKey corner true, true)] }
def wrongDigest (x : Loom) : State :=
  { job 2 { member with arming := wholeSpaces, image := some { image0 with loomImgs := [{ loom := corner, sections := [(0, [1], [0])] }] } } with
    looms := [(0, x)] }

/-- The last of 400 looms to report. -/
def lastReport : State :=
  { on (job 2 { member with arming := wholeSpaces, image := some { image0 with looms := 1600 } }) [(0x90000A, 2)] with
    looms := (List.range 399).map (fun k => (25 * ((k + 1) / 20) + (k + 1) % 20, { Loom.init with digestOk := true })) }

/-- The header of segment 0 of 3 of the common space, with a CRC. -/
def segmentHeader (crc : Nat) : Word512 := fields [(36, 3), (64, 64), (96, crc)]

theorem wit_SegmentsAndLoader :
    (∃ (l : LoomId) (h : Word512) (b : Bytes) (s : State) (i : Nat), s.armStep (s.loomPart l) = 5 ∧ s.loomExists l = true ∧
      segLoad h = (s.part (s.loomPart l)).arming.loadNo.toNat ∧ segSection h = 0 ∧ segPerLoom h = false ∧
      crc32c (fitBytes 4096 b) = segCrc h ∧ SMap.get false (s.loom l).commonSeen (segSeq h) = false ∧ s.bridgeTakes l 1 = true ∧ i < 64 ∧
      segUnit h + i < 4096)
    ∧ (∃ (l : LoomId) (h : Word512) (b : Bytes) (s : State), s.armStep (s.loomPart l) = 5 ∧ s.loomExists l = true ∧
      segLoad h = (s.part (s.loomPart l)).arming.loadNo.toNat ∧ segSection h ≤ 4 ∧ crc32c (fitBytes 4096 b) ≠ segCrc h ∧
      s.bridgeTakes l 1 = true)
    ∧ (∃ (l : LoomId) (h : Word512) (b : Bytes) (s : State), segLoad h ≠ (s.part (s.loomPart l)).arming.loadNo.toNat)
    ∧ (∃ (l : LoomId) (h : Word512) (b : Bytes) (s : State),
      (s.hasCredit (s.bridgeLoop (bridgeOf l.q l.r) 1) = false ∨ s.queueRoom (2 * bridgeOf l.q l.r + 1) = false))
    ∧ (∃ (l : LoomId) (h : Word512) (b : Bytes) (s : State), s.armStep (s.loomPart l) = 5 ∧ s.loomExists l = true ∧
      segLoad h = (s.part (s.loomPart l)).arming.loadNo.toNat ∧ segSection h = 14 ∧ s.bridgeTakes l 1 = true)
    ∧ (∃ (l : LoomId) (s : State), s.armStep (s.loomPart l) = 5 ∧ s.loomExists l = true ∧
      ((s.loom l).spaceEnded false = false ∨ (s.loom l).lacks false ≠ []) ∧
      ((s.loom l).spaceEnded true = false ∨ (s.loom l).lacks true ≠ []) ∧ (s.loom l).lastSeg.toNat + 20000000 < 2 ^ 64)
    ∧ (∃ (l : LoomId) (b : Bool) (s : State), s.armStep (s.loomPart l) = 5 ∧ s.loomExists l = true ∧
      ((s.loom l).spaceEnded b = false ∨ (s.loom l).lacks b ≠ []) ∧ ((s.loom l).spaceEnded !b) = true ∧ ((s.loom l).lacks !b) = [])
    ∧ (∃ (p : Fin 4) (l : LoomId) (s : State), (s.part p).arming.step = 5 ∧ l ∈ s.loomIds p ∧
      SMap.get false (s.part p).arming.requested (loomKey l) = false)
    ∧ (∃ (p : Fin 4) (l : LoomId) (s : State), SMap.get false (s.part p).arming.requested (loomKey l) = true)
    ∧ (∃ (l : LoomId) (b : Bool) (m : List (BitVec 12)) (s : State), (s.part (s.loomPart l)).arming.step = 5 ∧ s.loomExists l = true ∧
      m ≠ [] ∧ s.bridgeTakes l 0 = true ∧ SMap.get 0 (s.part (s.loomPart l)).arming.rounds (spaceKey l b) < 8)
    ∧ (∃ (l : LoomId) (b : Bool) (m : List (BitVec 12)) (s : State), (s.part (s.loomPart l)).arming.step = 5 ∧ s.loomExists l = true ∧
      m ≠ [] ∧ s.bridgeTakes l 0 = true ∧ 8 ≤ SMap.get 0 (s.part (s.loomPart l)).arming.rounds (spaceKey l b))
    ∧ (∃ (p : Fin 4) (t0 : BitVec 64) (l : LoomId) (s : State), (s.part p).arming.step = 5 ∧ (s.part p).arming.eosSince = some t0 ∧
      List.find? (fun l => !(s.part p).arming.whole l) (s.loomIds p) = some l ∧ t0.toNat + 100000000 < 2 ^ 64)
    ∧ (∃ (l : LoomId) (s : State) (hit : Option LoomHit), s.armStep (s.loomPart l) = 5 ∧ s.loomExists l = true ∧
      (s.part (s.loomPart l)).arming.whole l = true ∧ (s.loom l).digestOk = false ∧ s.memStopped (s.loomPart l) = false ∧
      s.bridgeTakes l 0 = true ∧ harmless hit ∧ s.digestsMatch l = true ∧ (∃ j, j ∈ s.loomIds (s.loomPart l) ∧ j ≠ l ∧
      (s.loom j).digestOk = false))
    ∧ (∃ (l : LoomId) (s : State) (hit : Option LoomHit), s.armStep (s.loomPart l) = 5 ∧ s.loomExists l = true ∧
      (s.part (s.loomPart l)).arming.whole l = true ∧ (s.loom l).digestOk = false ∧ s.memStopped (s.loomPart l) = false ∧
      s.bridgeTakes l 0 = true ∧ harmless hit ∧ s.digestsMatch l = true ∧
      (∀ (j : LoomId), j ∈ s.loomIds (s.loomPart l) → j ≠ l → (s.loom j).digestOk = true))
    ∧ (∃ (l : LoomId) (s : State) (hit : Option LoomHit), s.armStep (s.loomPart l) = 5 ∧ s.loomExists l = true ∧
      (s.part (s.loomPart l)).arming.whole l = true ∧ (s.loom l).digestOk = false ∧ s.memStopped (s.loomPart l) = false ∧
      s.bridgeTakes l 0 = true ∧ harmless hit ∧ s.digestsMatch l = false ∧ (s.loom l).digestTries = 0 ∧ hit = none)
    ∧ (∃ (l : LoomId) (s : State) (hit : Option LoomHit), s.armStep (s.loomPart l) = 5 ∧ s.loomExists l = true ∧
      (s.part (s.loomPart l)).arming.whole l = true ∧ (s.loom l).digestOk = false ∧ s.memStopped (s.loomPart l) = false ∧
      s.bridgeTakes l 0 = true ∧ s.digestLost l hit = true ∧ (s.loom l).digestTries = 0)
    ∧ (∃ (l : LoomId) (s : State) (hit : Option LoomHit), s.armStep (s.loomPart l) = 5 ∧ s.loomExists l = true ∧
      (s.part (s.loomPart l)).arming.whole l = true ∧ (s.loom l).digestOk = false ∧ s.memStopped (s.loomPart l) = false ∧
      s.bridgeTakes l 0 = true ∧ (harmless hit ∧ s.digestsMatch l = false ∨ s.digestLost l hit = true) ∧ (s.loom l).digestTries ≠ 0) :=
  ⟨⟨corner, segmentHeader (crc32c (fitBytes 4096 [1])), [1], arming broadcast Loom.init, 0, by decide +kernel⟩,
   ⟨corner, segmentHeader 77, [1], arming broadcast Loom.init, by decide +kernel⟩,
   ⟨corner, fields [(0, 1)], [], arming broadcast Loom.init, by decide +kernel⟩,
   ⟨corner, 0, [], { up with dcqs := [(1, { Dcq.init with items := List.replicate 64 (queueItem 0) })] }, by decide +kernel⟩,
   ⟨corner, fields [(36, 3), (48, 14)], [], arming broadcast Loom.init, by decide +kernel⟩,
   ⟨corner, arming broadcast Loom.init, by decide +kernel⟩,
   ⟨corner, false, arming broadcast { Loom.init with commonTotal := some 3, loomEnded := true, loomTotal := some 0 }, by decide +kernel⟩,
   ⟨0, corner, arming broadcast Loom.init, by decide +kernel⟩,
   ⟨0, corner, arming { broadcast with requested := [(0, true)] } Loom.init, by decide +kernel⟩,
   ⟨corner, true, [5, 6], arming { broadcast with rounds := [(spaceKey corner true, 7)] } Loom.init, by decide +kernel⟩,
   ⟨corner, true, [5], arming { broadcast with rounds := [(spaceKey corner true, 8)] } Loom.init, by decide +kernel⟩,
   ⟨0, 9, corner, arming { broadcast with eosSince := some 9 } Loom.init, by decide +kernel⟩,
   ⟨corner, arming wholeSpaces Loom.init, none, by decide +kernel⟩,
   ⟨corner, lastReport, none, by decide +kernel⟩,
   ⟨corner, wrongDigest { Loom.init with commonSeen := [(0, true)], commonTotal := some 1 }, none, by decide +kernel⟩,
   ⟨corner, wrongDigest { Loom.init with commonSeen := [(0, true)], commonTotal := some 1 }, some ⟨.instructionStore 0, .multi⟩,
     by decide +kernel⟩,
   ⟨corner, wrongDigest { Loom.init with digestTries := 1 }, none, by decide +kernel⟩⟩

/-- A receiver of chunks whose port has `n` free buffers. -/
def receiving (n : BitVec 32) (w : List WindowEnt) (f : Part → Part) : State :=
  { exchanging w f with cloops := [(loopId 4 0 0, { CLoop.init with issued := 200, held := n })] }

/-- A chunk of one element at a tally engine. -/
def tallied (step : Nat) : TallyItem :=
  { engine := 0, header := (chunk 1 0 step [5, 0, 0, 0]).header, elems := [5, 0, 0, 0]
    link := some 0, credited := true }
def tallying (step : Nat) : State := exchanging [tallyWindow 0 0 2] (fun x => { x with tally := [tallied step] })

/-- A job-wide slot 0 whose DONEs rank 0 awaits. -/
def donesImage : Image :=
  { image0 with windows := [tallyWindow 1 0 1]
                slots := [{ tensor := 9, kind := 1, recipe := 0, fmt := 3, job := true, init := 127, n := 1 }] }

theorem wit_ChunksAndTally :
    (∃ (p : Fin 4) (k : Chunk) (s : State), s.chunkIn p k ∧ (chunkOf k.header).type = 1 ∧ chunkReserved (chunkOf k.header) = false ∧
      s.chunkOld p (chunkOf k.header) = false ∧ s.chunkRight p k (chunkOf k.header) = true ∧
      ((s.part p).tally.all fun i => !TallyItem.asks (s.homeEngine p (chunkOf k.header).chunk) i) = true)
    ∧ (∃ (p : Fin 4) (k : Chunk) (s : State), s.chunkIn p k ∧ (chunkOf k.header).type = 2 ∧ chunkReserved (chunkOf k.header) = false ∧
      s.chunkOld p (chunkOf k.header) = false ∧ s.chunkRight p k (chunkOf k.header) = true ∧
      ((s.part p).tally.all fun i => !TallyItem.asks (s.homeEngine p (chunkOf k.header).chunk) i) = true)
    ∧ (∃ (p : Fin 4) (k : Chunk) (s : State), s.chunkIn p k ∧ (chunkOf k.header).type = 4 ∧ chunkReserved (chunkOf k.header) = false ∧
      s.chunkOld p (chunkOf k.header) = false ∧ s.chunkRight p k (chunkOf k.header) = true ∧
      ((s.part p).tally.all fun i => !TallyItem.asks (s.homeEngine p (chunkOf k.header).chunk) i) = true)
    ∧ (∃ (p : Fin 4) (k : Chunk) (s : State), s.inOrder p k.pkt (packetsOf (64 + List.length k.elems)) ∧ s.jobState p ≠ 7 ∧
      pktParty k.pkt < (s.part p).ranks ∧ (chunkOf k.header).type = 3 ∧ chunkReserved (chunkOf k.header) = false ∧
      s.chunkOld p (chunkOf k.header) = false ∧ s.chunkRight p k (chunkOf k.header) = true ∧
      ((s.part p).donesIn.any fun d => d.fst == doneKey (chunkOf k.header).sender (chunkOf k.header).window) = false ∧
      (s.part p).slotJob (chunkOf k.header).slot = true)
    ∧ (∃ (p : Fin 4) (k : Chunk) (s : State), s.chunkIn p k ∧ (chunkOf k.header).type = 1 ∧ chunkReserved (chunkOf k.header) = false ∧
      (chunkOf k.header).step < s.stepNo p)
    ∧ (∃ (p : Fin 4) (k : Chunk) (s : State), s.chunkIn p k ∧ (chunkOf k.header).type = 1 ∧ chunkReserved (chunkOf k.header) = false ∧
      (chunkOf k.header).step = s.stepNo p + 1)
    ∧ (∃ (p : Fin 4) (k : Chunk) (s : State), s.chunkIn p k ∧ (chunkOf k.header).type = 1 ∧ chunkReserved (chunkOf k.header) = false ∧
      s.stepNo p ≤ (chunkOf k.header).step ∧ (chunkOf k.header).step ≠ s.stepNo p + 1 ∧ s.chunkOld p (chunkOf k.header) = false ∧
      s.chunkRight p k (chunkOf k.header) = false ∧ s.exState p = 1)
    ∧ (∃ (p : Fin 4) (k : Chunk) (s : State), s.chunkIn p k ∧ (chunkOf k.header).type = 0)
    ∧ (∃ (p : Fin 4) (k : Chunk) (s : State), s.receives p k.pkt (packetsOf (64 + List.length k.elems)) ∧ s.jobState p = 7 ∧
      pktParty k.pkt < (s.part p).ranks ∧ (chunkOf k.header).type = 1)
    ∧ (∃ (p : Fin 4) (k : Chunk) (s : State), s.jobState p ≠ 7 ∧ (chunkOf k.header).type = 1 ∧ s.admits p k.pkt.esp.frame ∧
      s.buffersFree p (↑(pktPort k.pkt)) (packetsOf (64 + List.length k.elems)) = false)
    ∧ (∃ (p : Fin 4) (i : TallyItem) (w : WindowEnt) (s : State) (l : Ledger) (first : Bool) (a : Nat × Nat × Nat), s.quiet ∧
      l = s.ledger p w (chunkOf i.header).chunk ∧ first = !(l.valid && decide (l.step = (chunkOf i.header).step) && decide (l.attempt =
      (chunkOf i.header).attempt)) ∧ a = winPlace w ((chunkOf i.header).chunk * 960) ∧
      (∀ (ew lw : Nat × Nat), ew = s.regionWord p a.fst a.snd.fst → lw = s.regionWord p w.ledger.toNat (32 * (chunkOf i.header).chunk) → ∀
      (x y : Nat), x < 4 → y < 32 → hbmKey ew.fst (64 * ew.snd + a.snd.fst % 64 + x) ≠ hbmKey lw.fst (64 * lw.snd + 32 * (chunkOf
      i.header).chunk % 64 + y)) ∧ List.find? (fun x => x.credited) (s.part p).tally = some i ∧ s.hubStopped p = false ∧
      s.jobState p ≠ 7 ∧ s.stepNo p ≤ (chunkOf i.header).step ∧ s.chunkOld p (chunkOf i.header) = false ∧
      (s.part p).windowAt (s.part p).rank (chunkOf i.header).window = some w ∧ w.role ≠ 2 ∧ w.etype = 0 ∧ (chunkOf i.header).elems = 1 ∧
      s.ledgerPoison p w (chunkOf i.header).chunk = 0 ∧ s.winPoison p w ((chunkOf i.header).chunk * 960) 1 = 0 ∧
      (ledgerAdd l (chunkOf i.header) first).count < w.n.toNat)
    ∧ (∃ (p : Fin 4) (i : TallyItem) (s : State) (n : Nat), List.find? (fun x => x.credited) (s.part p).tally = some i ∧
      s.hubStopped p = false ∧ s.jobState p = 7 ∧ List.findIdx? (TallyItem.asks i.engine) ((s.part p).tally.erase i) = some n ∧
      0 < (s.cloop (loopId 3 p i.engine)).inFlight.toNat ∧ (s.cloop (loopId 3 p i.engine)).returned = 0)
    ∧ (∃ (p : Fin 4) (i : TallyItem) (s : State), List.find? (fun x => x.credited) (s.part p).tally = some i ∧ s.hubStopped p = false ∧
      s.jobState p ≠ 7 ∧ (chunkOf i.header).step < s.stepNo p)
    ∧ (∃ (p : Fin 4) (b : Bool) (s : State), List.find? (fun x => x.credited) (s.part p).tally = none) :=
  ⟨⟨0, chunk 1 0 1 [5, 0, 0, 0], receiving 1 [tallyWindow 0 0 2] id, by decide +kernel⟩,
   ⟨0, chunk 2 0 1 [], receiving 200 [tallyWindow 0 0 2] id, by decide +kernel⟩,
   ⟨0, chunk 4 3 1 [1], receiving 200 [tallyWindow 0 2 1] id, by decide +kernel⟩,
   ⟨0, chunk 3 0 1 [], exchanging [] (fun x => { x with image := some donesImage }), by decide +kernel⟩,
   ⟨0, chunk 1 0 0 [5, 0, 0, 0], receiving 200 [tallyWindow 0 0 2] id, by decide +kernel⟩,
   ⟨0, chunk 1 0 2 [5, 0, 0, 0], receiving 200 [tallyWindow 0 0 2] id, by decide +kernel⟩,
   ⟨0, chunk 1 0 3 [5, 0, 0, 0], receiving 200 [tallyWindow 0 0 2] id, by decide +kernel⟩,
   ⟨0, chunk 0 0 1 [], receiving 200 [tallyWindow 0 0 2] id, by decide +kernel⟩,
   ⟨0, chunk 1 0 1 [5, 0, 0, 0], (exchanging [tallyWindow 0 0 2] id).setObj 0x907001 7, by decide +kernel⟩,
   ⟨0, chunk 1 0 1 [5, 0, 0, 0], receiving 0 [tallyWindow 0 0 2] id, by decide +kernel⟩,
   ⟨0, tallied 1, tallyWindow 0 0 2, tallying 1, _, _, _, fun _ => rfl, rfl, rfl, rfl,
     fun ew lw h1 h2 x y hx hy => keys_apart (h1.trans (by decide +kernel)) (h2.trans (by decide +kernel))
     (by decide +kernel)
     (by decide +kernel) hx hy, by decide +kernel⟩,
   ⟨0, tallied 1, { (exchanging [tallyWindow 0 0 2] (fun x => { x with tally := [tallied 1, { tallied 2 with
       credited := false }] })).setObj 0x907001 7 with cloops := [(loopId 3 0 0, { CLoop.init with issued := 1, inFlight := 1 })] }, 0,
     by decide +kernel⟩,
   ⟨0, tallied 0, tallying 0, by decide +kernel⟩,
   ⟨0, true, exchanging [] id, by decide +kernel⟩⟩

/-- A send entry of one chunk to rank `d`, whose elements are in region 6, reported by loom 0 with TAG 9. -/
def sendTo (d : Nat) : SendEnt := { rank := 0, bits := BitVec.ofNat 256 (d * 2 ^ 16 + 5 * 2 ^ 32 + 6 * 2 ^ 64 + 2 ^ 144 + 9 * 2 ^ 192) }

def sendImage (d : Nat) : Image :=
  { image0 with windows := [tallyWindow 1 0 1, tallyWindow 0 0 1], sends := [sendTo d], xwins := [{ opens := 2, lenNs := 5 }] }

/-- Rank 0 computes a step whose image sends to rank `d`; its window is open and its store reported. -/
def sendingTo (d : Nat) (f : Part → Part) : State :=
  exchanging [] (fun x => f { x with image := some (sendImage d), opened := [0], reports := [(0, 9)] })

/-- Every loom of an image of 400 has merged. -/
def mergedSend : State :=
  { on (exchanging [] (fun x => { x with image := some { sendImage 1 with looms := 1600 }, opened := [0], started := [0] })) [(0x90000A, 2)] with
    looms := (List.range 400).map (fun k => (25 * (k / 20) + k % 20, { Loom.init with merged := true })) }

theorem wit_SendsOfAStep :
    (∃ (p : Fin 4) (i : BitVec 8) (img : Image) (w : XWin) (s : State), (s.part p).image = some img ∧ img.xwins[i.toNat]? = some w ∧
      s.computing p = true ∧ i.toNat ∉ (s.part p).opened ∧
      (s.part p).startCount.toNat + w.opens.toNat ≤ (s.quad (s.lowQuad p)).count.toNat)
    ∧ (∃ (l : LoomId) (tag : BitVec 16) (s : State), tag ∈ (s.loom l).stores ∧ s.quadRuns l.q = true ∧
      s.hubStopped (s.loomPart l) = false ∧ s.bridgeTakes l 0 = true)
    ∧ (∃ (l : LoomId) (tag : BitVec 16) (s : State), (s.quadRuns l.q = false ∨ s.hubStopped (s.loomPart l) = true))
    ∧ (∃ (p : Fin 4) (i : BitVec 16) (e : SendEnt) (w : WindowEnt) (s : State) (c : ChunkHdr × Nat × Nat),
      c = s.sendChunk p e w (sndField e 143 112) ∧ List.find? (fun x => x.snd == i.toNat) (s.part p).ownSends = some (e, i.toNat) ∧
      (s.part p).windowAt (sndField e 31 16) (sndField e 47 32) = some w ∧ s.computing p = true ∧ sndField e 7 0 ∈ (s.part p).opened ∧
      (loomKey (loomOfNumber (s.runLooms p) (sndField e 187 176)), BitVec.ofNat 16 (sndField e 207 192)) ∈ (s.part p).reports ∧
      i.toNat ∉ (s.part p).started ∧ sndField e 175 144 = 1 ∧
      (s.poisonIn p (sndField e 71 64) c.snd.fst c.snd.snd ≠ 0 ∨ sndField e 11 8 = 0 ∧
      s.rowPoison p (s.stepNo p) (sndField e 63 48) ≠ 0) ∧ s.jobLive p = true ∧ (s.part p).poisoned = false)
    ∧ (∃ (p : Fin 4) (i : BitVec 16) (e : SendEnt) (w : WindowEnt) (s : State) (c : ChunkHdr × Nat × Nat) (n : Nat) (b : Bytes),
      c = s.sendChunk p e w (sndField e 143 112) ∧ s.quiet ∧ n = 4 * sndField e 31 16 + c.fst.chunk % Nat.max 1 (s.part p).paths ∧
      b = beBytes 64 (chunkBits c.fst % 2 ^ 512) ++ s.readRegion p (sndField e 71 64) c.snd.fst c.snd.snd ∧
      List.find? (fun x => x.snd == i.toNat) (s.part p).ownSends = some (e, i.toNat) ∧
      (s.part p).windowAt (sndField e 31 16) (sndField e 47 32) = some w ∧ s.computing p = true ∧ sndField e 7 0 ∈ (s.part p).opened ∧
      (loomKey (loomOfNumber (s.runLooms p) (sndField e 187 176)), BitVec.ofNat 16 (sndField e 207 192)) ∈ (s.part p).reports ∧
      i.toNat ∉ (s.part p).started ∧ sndField e 175 144 = 1 ∧ s.poisonIn p (sndField e 71 64) c.snd.fst c.snd.snd = 0 ∧
      (sndField e 11 8 = 0 → s.rowPoison p (s.stepNo p) (sndField e 63 48) = 0) ∧ sndField e 31 16 ≠ (s.part p).rank ∧ s.sends p n)
    ∧ (∃ (p : Fin 4) (i : BitVec 16) (e : SendEnt) (w : WindowEnt) (s : State) (c : ChunkHdr × Nat × Nat) (h : BitVec 512),
      c = s.sendChunk p e w (sndField e 143 112) ∧ s.quiet ∧ h = BitVec.ofNat 512 (chunkBits c.fst) ∧
      List.find? (fun x => x.snd == i.toNat) (s.part p).ownSends = some (e, i.toNat) ∧
      (s.part p).windowAt (sndField e 31 16) (sndField e 47 32) = some w ∧ s.computing p = true ∧ sndField e 7 0 ∈ (s.part p).opened ∧
      (loomKey (loomOfNumber (s.runLooms p) (sndField e 187 176)), BitVec.ofNat 16 (sndField e 207 192)) ∈ (s.part p).reports ∧
      i.toNat ∉ (s.part p).started ∧ sndField e 175 144 = 1 ∧ s.poisonIn p (sndField e 71 64) c.snd.fst c.snd.snd = 0 ∧
      (sndField e 11 8 = 0 → s.rowPoison p (s.stepNo p) (sndField e 63 48) = 0) ∧ sndField e 31 16 = (s.part p).rank)
    ∧ (∃ (p : Fin 4) (d : BitVec 12) (n : BitVec 16) (e : SendEnt) (i : Nat) (r : List (SendEnt × Nat)) (w : WindowEnt) (s : State) (h :
      ChunkHdr), (h = { s.ownHeader p 2 (sndField e 11 8) n.toNat (winChunks w) with
        x := if sndField e 11 8 = 0 then s.slotX p (sndField e 63 48) else 0,
        nonfin := (s.ephRow p (s.stepNo p) (sndField e 63 48)).nonfin.toNat,
        max := (s.ephRow p (s.stepNo p) (sndField e 63 48)).localMax.toNat }) ∧ (s.part p).sendsTo d.toNat n.toNat = (e, i) :: r ∧
      (s.part p).windowAt d.toNat n.toNat = some w ∧ s.computing p = true ∧ ((s.partLooms p).all fun x => x.merged) = true ∧
      (∀ (a : SendEnt × Nat), a ∈ (e, i) :: r → a.snd ∈ (s.part p).started) ∧ ¬(d.toNat, n.toNat) ∈ (s.part p).closed ∧
      d.toNat ≠ (s.part p).rank ∧ s.rowPoison p (s.stepNo p) (sndField e 63 48) ≠ 0 ∧ s.jobLive p = true ∧ (s.part p).poisoned = false)
    ∧ (∃ (p : Fin 4) (d : BitVec 12) (n : BitVec 16) (e : SendEnt) (i : Nat) (r : List (SendEnt × Nat)) (w : WindowEnt) (s : State) (h :
      ChunkHdr) (k : Nat), (h = { s.ownHeader p 2 (sndField e 11 8) n.toNat (winChunks w) with
        x := if sndField e 11 8 = 0 then s.slotX p (sndField e 63 48) else 0,
        nonfin := (s.ephRow p (s.stepNo p) (sndField e 63 48)).nonfin.toNat,
        max := (s.ephRow p (s.stepNo p) (sndField e 63 48)).localMax.toNat }) ∧
      k = 4 * d.toNat + winChunks w % Nat.max 1 (s.part p).paths ∧ (s.part p).sendsTo d.toNat n.toNat = (e, i) :: r ∧
      (s.part p).windowAt d.toNat n.toNat = some w ∧ s.computing p = true ∧ ((s.partLooms p).all fun x => x.merged) = true ∧
      (∀ (a : SendEnt × Nat), a ∈ (e, i) :: r → a.snd ∈ (s.part p).started) ∧ ¬(d.toNat, n.toNat) ∈ (s.part p).closed ∧
      d.toNat ≠ (s.part p).rank ∧ s.rowPoison p (s.stepNo p) (sndField e 63 48) = 0 ∧ s.sends p k) :=
  ⟨⟨0, 0, sendImage 1, { opens := 2, lenNs := 5 },
     { sendingTo 1 (fun x => { x with opened := [] }) with quads := [(0, { Quad.init with count := 2 })] }, by decide +kernel⟩,
   ⟨corner, 9, jobLoom { Loom.init with stores := [9, 9] }, by decide +kernel⟩,
   ⟨corner, 9, State.reset, by decide +kernel⟩,
   ⟨0, 0, sendTo 0, tallyWindow 0 0 1, poisonAt 6 0 (sendingTo 0 id), _, rfl, by decide +kernel⟩,
   ⟨0, 0, sendTo 1, tallyWindow 1 0 1, sendingTo 1 id, _, _, _, rfl, fun _ => rfl, rfl, rfl, by decide +kernel⟩,
   ⟨0, 0, sendTo 0, tallyWindow 0 0 1, sendingTo 0 id, _, _, rfl, fun _ => rfl, rfl, by decide +kernel⟩,
   ⟨0, 1, 5, sendTo 1, 0, [], tallyWindow 1 0 1, poisonAt 5 0 mergedSend, _, rfl, by decide +kernel⟩,
   ⟨0, 1, 5, sendTo 1, 0, [], tallyWindow 1 0 1, mergedSend, _, _, rfl, rfl, by decide +kernel⟩⟩

/-- Rank 0 has committed; an ABORT of step 1 finds the job in state `ex`. -/
def committed0 : Part := { member with markers := [{ step := 1, attempt := 0, rank := 0, nonfin := 0 }] }

theorem wit_StepsCommitOrAbort :
    (∃ (p : Fin 4) (s : State) (r : Nat), s.computing p = true ∧ (s.partLooms p).all Loom.finished = true ∧ s.allSent p = true ∧
      s.nonfinPoison p = 0 ∧ s.markersNow p = [] ∧ (∃ r, r < (s.part p).ranks ∧ r ≠ (s.part p).rank) ∧ r < (s.part p).ranks ∧
      r ≠ (s.part p).rank ∧ ((s.part p).peer r).state ≠ 6)
    ∧ (∃ (p : Fin 4) (s : State), s.computing p = true ∧ (s.partLooms p).all Loom.finished = true ∧ s.allSent p = true ∧
      (s.part p).ranks = 1 ∧ (s.part p).rank = 0 ∧ s.nonfinPoison p = 0 ∧ s.nonfinTotal p = 0 ∧ s.markersNow p = [])
    ∧ (∃ (p : Fin 4) (s : State), s.allSent p = false)
    ∧ (∃ (p : Fin 4) (h : PktHdr) (m : Word512) (s : State), s.markerFits p 1 h m ∧ field (BitVec.toNat m) 495 448 = s.stepNo p ∧
      field (BitVec.toNat m) 503 496 = s.attempt p ∧ s.exState p = 2 ∧ (∀ (n : Marker), n ∈ s.markersNow p → n.rank ≠ pktParty h) ∧
      (∀ (r : Nat), r < (s.part p).ranks → r ≠ pktParty h → ∃ n, n ∈ s.markersNow p ∧ n.rank = r))
    ∧ (∃ (p : Fin 4) (h : PktHdr) (m : Word512) (s : State), s.markerFits p 1 h m ∧ field (BitVec.toNat m) 495 448 = s.stepNo p ∧
      field (BitVec.toNat m) 503 496 = s.attempt p ∧ s.exState p = 2 ∧ (∀ (n : Marker), n ∈ s.markersNow p → n.rank ≠ pktParty h) ∧
      (∃ r, r < (s.part p).ranks ∧ r ≠ pktParty h ∧ ∀ (n : Marker), n ∈ s.markersNow p → n.rank ≠ r))
    ∧ (∃ (p : Fin 4) (r : Nat) (s : State), s.exState p = 2 ∧ s.hubStopped p = false ∧
      List.find? (fun r => !(s.markersNow p).any fun m => m.rank == r) (List.range (s.part p).ranks) = some r ∧
      (s.part p).commitNs.toNat + s.obj 0x520005 * 1000000 < 2 ^ 64)
    ∧ (∃ (p : Fin 4) (h : PktHdr) (m : Word512) (s : State) (l : LoomId), s.markerFits p 2 h m ∧
      field (BitVec.toNat m) 495 448 = s.stepNo p ∧ field (BitVec.toNat m) 503 496 = s.attempt p ∧ s.exState p ∈ [1, 2, 4] ∧
      ((s.part p).markers.any fun n => n.step == s.stepNo p && n.attempt == s.attempt p && n.rank == pktParty h) = false ∧
      field (BitVec.toNat m) 399 392 ≠ 8 ∧ s.attempt p + 1 < (s.part p).man 111 104 ∧ s.loomPart l = p ∧ s.loomExists l = true)
    ∧ (∃ (p : Fin 4) (h : PktHdr) (m : Word512) (s : State), s.markerFits p 2 h m ∧ field (BitVec.toNat m) 495 448 = s.stepNo p ∧
      field (BitVec.toNat m) 503 496 = s.attempt p ∧ s.exState p ∈ [1, 2, 4] ∧
      ((s.part p).markers.any fun n => n.step == s.stepNo p && n.attempt == s.attempt p && n.rank == pktParty h) = false ∧
      field (BitVec.toNat m) 399 392 ≠ 8 ∧ (s.part p).man 111 104 ≤ s.attempt p + 1)
    ∧ (∃ (p : Fin 4) (h : PktHdr) (m : Word512) (s : State), s.markerFits p 2 h m ∧ field (BitVec.toNat m) 495 448 = s.stepNo p ∧
      field (BitVec.toNat m) 503 496 = s.attempt p ∧ s.exState p ∈ [1, 2, 4] ∧
      ((s.part p).markers.any fun n => n.step == s.stepNo p && n.attempt == s.attempt p && n.rank == pktParty h) = false ∧
      field (BitVec.toNat m) 399 392 = 8)
    ∧ (∃ (p : Fin 4) (h : PktHdr) (m : Word512) (s : State), s.markerFits p 2 h m ∧ field (BitVec.toNat m) 495 448 = s.stepNo p ∧
      field (BitVec.toNat m) 503 496 = s.attempt p ∧ s.exState p ∈ [1, 2, 4] ∧
      ((s.part p).markers.any fun n => n.step == s.stepNo p && n.attempt == s.attempt p && n.rank == pktParty h) = false ∧
      (s.part p).filled = true ∧ (s.part p).inStep = false ∧ (s.part p).ringsFull (s.stepNo p) = false)
    ∧ (∃ (p : Fin 4) (h : PktHdr) (m : Word512) (s : State) (w : WindowEnt) (n a : Nat), n = w.n.toNat * (winChunks w + 1) ∧
      a = s.arrived p (s.attempt p + 1) w ∧ s.markerFits p 2 h m ∧ field (BitVec.toNat m) 495 448 = s.stepNo p ∧
      field (BitVec.toNat m) 503 496 = s.attempt p ∧ s.exState p ∈ [1, 2, 4] ∧
      ((s.part p).markers.any fun n => n.step == s.stepNo p && n.attempt == s.attempt p && n.rank == pktParty h) = false ∧
      List.filter (fun w => w.role.toNat != 2) (s.part p).ownWindows = [w])
    ∧ (∃ (p : Fin 4) (h : PktHdr) (m : Word512) (s : State) (k : Nat), s.markerFits p 2 h m ∧
      field (BitVec.toNat m) 495 448 = s.stepNo p ∧ s.exState p = 3 ∧ k ∈ s.stacksOf p)
    ∧ (∃ (p : Fin 4) (h : PktHdr) (m : Word512) (s : State), s.markerFits p 2 h m ∧ field (BitVec.toNat m) 495 448 = s.stepNo p + 1 ∧
      (s.part p).markers = [] ∧ (s.part p).early = []) :=
  ⟨⟨0, exchanging [] id, 1, by decide +kernel⟩,
   ⟨0, exchanging [] (fun x => { x with manifest := leBytes 256 (2 ^ 48) }), by decide +kernel⟩,
   ⟨0, sendingTo 1 id, by decide +kernel⟩,
   ⟨0, packet, marker 1 0 1 0, inState 2 committed0, by decide +kernel⟩,
   ⟨0, packet, marker 1 0 1 0, inState 2 member, by decide +kernel⟩,
   ⟨0, 1, inState 2 committed0, by decide +kernel⟩,
   ⟨0, packet, marker 2 0 1 2, inState 1 { member with inStep := true }, corner, by decide +kernel⟩,
   ⟨0, packet, marker 2 1 1 2, on (inState 4 member) [(0x521002, 1)], by decide +kernel⟩,
   ⟨0, packet, marker 2 0 1 8, inState 1 { member with inStep := true }, by decide +kernel⟩,
   ⟨0, packet, marker 2 0 1 2, inState 1 { member with filled := true }, by decide +kernel⟩,
   ⟨0, packet, marker 2 0 1 2, exchanging [tallyWindow 0 0 2] id, tallyWindow 0 0 2, _, _, rfl, rfl, by decide +kernel⟩,
   ⟨0, packet, marker 2 0 1 2, inState 3 member, 0, by decide +kernel⟩,
   ⟨0, packet, marker 2 0 2 2, inState 3 member, by decide +kernel⟩⟩

/-- The job with one message of two packets on its way to rank 1. -/
def outgoing (f : Qp → Qp) : State :=
  { job 5 { member with qps := [(4, f { liveQp with nextPsn := 2, unacked := [sentMessage] })], peers := [(1, { Peer.init with state := 4 })] } with
    cloops := [(loopId 5 0 4, { CLoop.init with issued := 2, inFlight := 2 })] }

/-- A packet with PSN `n`. -/
def packetAt (n : BitVec 24) : PktHdr := { packet with psn := n }

theorem wit_QueuePairsAndCongestion :
    (∃ (p : Fin 4) (h : PktHdr) (m : TxMsg) (s : State) (k : Nat), k = packetsOf (List.length m.bytes) - m.acked ∧ s.receives p h 1 ∧
      ((s.part p).qp (pktQpn h)).unacked = [m] ∧ (((s.part p).qp (pktQpn h)).nextPsn - 1 - h.psn).toNat < 2 ^ 23 ∧
      (h.psn - m.lastPsn).toNat < 2 ^ 23 ∧ k ≤ (s.cloop (loopId 5 p (pktQpn h))).inFlight.toNat)
    ∧ (∃ (p : Fin 4) (h : PktHdr) (m : TxMsg) (s : State) (k : Nat), k = (h.psn - m.firstPsn).toNat + 1 ∧ s.receives p h 1 ∧
      ((s.part p).qp (pktQpn h)).unacked = [m] ∧ (((s.part p).qp (pktQpn h)).nextPsn - 1 - h.psn).toNat < 2 ^ 23 ∧
      2 ^ 23 ≤ (h.psn - m.lastPsn).toNat ∧ k ≤ 2 ^ 23 ∧ m.acked < k)
    ∧ (∃ (p : Fin 4) (h : PktHdr) (m : TxMsg) (s : State), s.receives p h 1 ∧ ((s.part p).qp (pktQpn h)).unacked = [m] ∧
      m.acked < packetsOf (List.length m.bytes) ∧ s.sends p (pktQpn h))
    ∧ (∃ (p : Fin 4) (h : PktHdr) (c : NakClass) (s : State), s.receives p h 1 ∧ c ≠ NakClass.sequence ∧
      (s.part p).rankQp (pktQpn h) = true ∧ ((s.part p).peer (pktQpn h / 4)).state = 4)
    ∧ (∃ (p : Fin 4) (h : PktHdr) (s : State), s.receives p h 1 ∧ ((s.part p).qp (pktQpn h)).unacked ≠ [])
    ∧ (∃ (p : Fin 4) (n : BitVec 24) (m : TxMsg) (s : State), s.qpRuns p n.toNat = true ∧ ((s.part p).qp n.toNat).rnrWait = true ∧
      ((s.part p).qp n.toNat).unacked = [m] ∧ m.acked < packetsOf (List.length m.bytes) ∧ s.sends p n.toNat)
    ∧ (∃ (p : Fin 4) (n : BitVec 24) (m : TxMsg) (s : State), s.qpRuns p n.toNat = true ∧ ((s.part p).qp n.toNat).rnrWait = false ∧
      ((s.part p).qp n.toNat).unacked = [m] ∧ m.acked < packetsOf (List.length m.bytes) ∧
      ((s.part p).qp n.toNat).timeouts + 1 < s.obj 0x520002 ∧ s.sends p n.toNat)
    ∧ (∃ (p : Fin 4) (n : BitVec 24) (m : TxMsg) (s : State), s.qpRuns p n.toNat = true ∧ ((s.part p).qp n.toNat).rnrWait = false ∧
      ((s.part p).qp n.toNat).unacked = [m] ∧ m.acked < packetsOf (List.length m.bytes) ∧
      s.obj 0x520002 ≤ ((s.part p).qp n.toNat).timeouts + 1 ∧ (s.part p).rankQp n.toNat = true ∧
      ((s.part p).peer (n.toNat / 4)).state = 4)
    ∧ (∃ (p : Fin 4) (n : BitVec 24) (s : State), ((s.part p).qp n.toNat).live = true ∧ ((s.part p).qp n.toNat).owedAcks ≠ 0)
    ∧ (∃ (p : Fin 4) (h : PktHdr) (s : State), s.receives p h 1 ∧ (s.part p).rankQp (pktQpn h) = false)
    ∧ (∃ (p : Fin 4) (h : PktHdr) (v : Pace) (s : State) (r : Nat), v = (s.part p).pace (pktQpn h / 4) ∧ s.receives p h 1 ∧
      (s.part p).rankQp (pktQpn h) = true ∧ r ≠ pktQpn h / 4)
    ∧ (∃ (p : Fin 4) (r : BitVec 12) (v : Pace) (s : State), v = (s.part p).pace r.toNat ∧ v.num < 2 ^ v.shift ∧ s.hubStopped p = false ∧
      v.lastCnp.toNat + 100000 < 2 ^ 64)
    ∧ (∃ (p : Fin 4) (r : BitVec 12) (s : State), s.hubStopped p = true)
    ∧ (∃ (p : Fin 4) (h : PktHdr) (s : State), s.inOrder p h 1 ∧ (s.part p).ranks ≤ pktParty h ∧ pktParty h < (s.part p).parties)
    ∧ (∃ (p : Fin 4) (h : PktHdr) (s : State), s.inOrder p h 1 ∧ ¬((s.part p).ranks ≤ pktParty h ∧ pktParty h < (s.part p).parties))
    ∧ (∃ (p : Fin 4) (h : PktHdr) (s : State) (d : Nat), d = (h.psn - ((s.part p).qp (pktQpn h)).expPsn).toNat ∧ s.receives p h 1 ∧
      d ≠ 0 ∧ d < 2 ^ 23 ∧ ((s.part p).qp (pktQpn h)).nakSent = false)
    ∧ (∃ (p : Fin 4) (h : PktHdr) (s : State) (d : Nat), d = (h.psn - ((s.part p).qp (pktQpn h)).expPsn).toNat ∧ s.receives p h 1 ∧
      d ≠ 0 ∧ d < 2 ^ 23 ∧ ((s.part p).qp (pktQpn h)).nakSent = true)
    ∧ (∃ (p : Fin 4) (h : PktHdr) (s : State) (d : Nat), d = (h.psn - ((s.part p).qp (pktQpn h)).expPsn).toNat ∧ s.receives p h 1 ∧
      2 ^ 23 ≤ d) :=
  ⟨⟨0, packetAt 1, sentMessage, outgoing id, _, rfl, by decide +kernel⟩,
   ⟨0, packetAt 0, sentMessage, outgoing id, _, rfl, by decide +kernel⟩,
   ⟨0, packetAt 0, { sentMessage with acked := 1 }, outgoing (fun q => { q with unacked := [{ sentMessage with acked := 1 }] }),
     by decide +kernel⟩,
   ⟨0, packetAt 0, .remoteAccess, outgoing id, by decide +kernel⟩,
   ⟨0, packetAt 0, outgoing (fun q => { q with timeouts := 2 }), by decide +kernel⟩,
   ⟨0, 4, sentMessage, outgoing (fun q => { q with rnrWait := true }), by decide +kernel⟩,
   ⟨0, 4, sentMessage, outgoing id, by decide +kernel⟩,
   ⟨0, 4, sentMessage, outgoing (fun q => { q with timeouts := 99 }), by decide +kernel⟩,
   ⟨0, 4, outgoing (fun q => { q with owedAcks := 2, expPsn := 5 }), by decide +kernel⟩,
   ⟨0, packetOn 8, job 5 member, by decide +kernel⟩,
   ⟨0, packet, _, outgoing id, 0, rfl, by decide +kernel⟩,
   ⟨0, 1, _, job 5 { member with paces := [(1, { Pace.init with num := 7, shift := 3, lastCnp := 9 })] }, rfl, by decide +kernel⟩,
   ⟨0, 1, on up [(0x805005, 2)], by decide +kernel⟩,
   ⟨0, packetOn 8, job 5 member, by decide +kernel⟩,
   ⟨0, packet, job 5 member, by decide +kernel⟩,
   ⟨0, packetAt 3, job 5 member, _, rfl, by decide +kernel⟩,
   ⟨0, packetAt 3, outgoing (fun q => { q with nakSent := true }), _, rfl, by decide +kernel⟩,
   ⟨0, packetAt 0xFFFFFF, job 5 member, _, rfl, by decide +kernel⟩⟩

/-- Commands of these families end in a next state. -/
theorem wit_ResetState :
    ∃ (p : Nat), p < 4 :=
  ⟨3, by decide +kernel⟩

theorem wit_LoomCommandsKeep : ∃ t, exec (.wait corner none) up = .next t := ⟨_, rfl⟩

theorem wit_JobCommandsKeep (p : Fin 4) (m : Ctl) (s : State) : ∃ t, exec (.query p m) s = .next t := ⟨_, rfl⟩

/-! ### No word spells a command -/

theorem test_no_word_decodes : decodeTableWord 8 0 = none ∧ State.reset.withFetchWord 8 0 = State.reset := ⟨rfl, rfl⟩

/-! ### Ill-formed commands -/

/-- A request frame with a reserved OP. -/
def opFrame (op : BitVec 4) : Req := { frame 0x9000 1 [] with reservedOp := some op }

/-- Readings whose lists have these lengths. -/
def readings (mv ma : Nat) (fec : List (Fin 48)) : Readings :=
  { mv := List.replicate mv 0, high := List.replicate mv 0, rails := List.replicate 4 (0, 0), hbmOut := false, ma := List.replicate ma 0
    watts := 0, fec := fec.map (fun k => (k, 0, 0)) }

/-- An LLDPDU with fields of these lengths. -/
def lldpOf (chassis port name : Nat) : Lldp :=
  { chassis := List.replicate chassis 0, port := List.replicate port 0, name := List.replicate name 0, ttl := 0 }

/-- One ill-formed command for each check. -/
theorem test_ill_formed_refused :
    [.read { frame 0x9000 1 [] with data := List.replicate 1025 0 }, .read { frame 0x9000 1 [] with trailer := [0] },
     .read (opFrame 1), .start 0 { message 0 [] with reservedOp := some 8 }, .hbmTrainingComplete 0 [] 0,
     .bistGroupComplete (List.replicate 2081 { r := 0, c := 0, part := .bypass }) [], .boundSecond (readings 3 4 []),
     .boundSecond (readings 4 5 []), .boundSecond (readings 4 4 [7, 7]), .sensorPoll [],
     .queuePush 0 { payload := 2 ^ 256 * 2 ^ 256 * 2 ^ 256 * 2 ^ 256, endp := true, poison := false, nv := false, gap := false } 0,
     .segmentReceive corner 0 [], .segmentRequest corner true (List.replicate 33 0), .init 0 (called 2 0) 0 [],
     .finish 0 (called 2 0) [] true, .card 0 (called 2 0) [] true, .cipher 0 (called 2 0) [], .signatureComplete [true, true, true, true],
     .trainingAttemptComplete 0 (List.replicate 9 goodLane), .lldpReceive 0 (lldpOf 33 0 0), .lldpReceive 0 (lldpOf 0 33 0),
     .lldpReceive 0 (lldpOf 0 0 65), .arpNdReceive .management (.request [] [] 0), .arpNdReceive .management (.reply [1] 0),
     .eventClaim [1, 1], .arm 0 (message 0 []) { image0 with xwins := List.replicate 257 { opens := 0, lenNs := 0 } },
      .data 0 { chunk 1 0 1 [] with elems := List.replicate 30721 0 }, .bypass 0x23, .bypass 0x7F,
     .powerLoss (some (.setting 0 (List.replicate 65 0)))].all (fun i : Instr => !i.wellFormed) = true := by decide +kernel

/-- The checks against lengths too great to write out. -/
theorem test_long_ill_formed_refused (a b : Bytes) (ha : a.length = 2 ^ 32) (hb : b.length = 16777217) :
    (Instr.start 0 (message 0 a)).wellFormed = false
    ∧ (Instr.rdmaReadRequest 0 { pkt := packet, rkey := 0, va := 0, data := a, len := 0 }).wellFormed = false
    ∧ (Instr.kwfRecover b { certOk := true, sigOk := true }).wellFormed = false := by
  refine ⟨?_, ?_, ?_⟩ <;> simp [Instr.wellFormed, Ctl.wellFormed, SvcReq.wellFormed, message, ha, hb]

theorem test_well_formed_accepted :
    [.read (frame 0x9000 1 []), .read (opFrame 10), .start 0 (message 0 []), .matmul corner none, .data 0 (chunk 1 0 1 []), .refresh 0,
     .bypass 0xFF, .bypass 0x80, .boundSecond (readings 4 4 [6, 7]), .powerLoss (some .journal)].all Instr.wellFormed = true := by
  decide +kernel

/-! ### Vectors of the spec -/

/-- The mixer (02 R53). -/
theorem test_mixer : mixer 0 0 0 0 0 = 0x6C1C9D0FBDCC2CB3 ∧ mixer 1 5000 0x42 256 3 = 0xC2D5BAD120DD6248 := by decide +kernel

/-- The transcendental unit (03 R79). -/
theorem test_transcendental :
    [exp2Fn 0x3F000000, exp2Fn 0xBF000000, exp2Fn 0x40400000, exp2Fn 0xC3150000, exp2Fn 0x43000000, log2Fn 0x41000000,
      log2Fn 0x3F800000, log2Fn 0xBF800000, log2Fn 0x80000000, rcpFn 0x40800000, rcpFn 0x80000000, rsqrtFn 0x40800000,
      rsqrtFn 0x40000000, tanhFn 0x35800000, tanhFn 0x41200000, tanhFn 0xC1200000]
    = [0x3FB504F3, 0x3F3504F3, 0x41000000, 1, 0x7F800000, 0x40400000, 0, 0x7FC00000, 0xFF800000, 0x3E800000, 0xFF800000,
      0x3F000000, 0x3F3504F3, 0x35800000, 0x3F800000, 0xBF800000] := by decide +kernel

/-- Conversion to T32 with N = 32: the worked example, with x × 2^30 written exactly (02 R50). -/
theorem test_toT32 :
    [toT32Elem (.fin false 201326593 4 0) 32 0x3A1C5E07, toT32Elem (.fin true 201326593 4 0) 32 0x3A1C5E07,
      toT32Elem (.fin false 7516192768 100 0) 32 0, toT32Elem .nan 32 0]
    = [(50331648, .ordinary), (2 ^ 32 - 50331649, .ordinary), (67108863, .saturated), (0, .nonfinite)] := by decide +kernel

/-- SHAKE256 of the empty string begins so (FIPS 202). -/
theorem test_shake : shake256 [] 8 = [0x46, 0xB9, 0xDD, 0x2B, 0x0B, 0xA8, 0x8D, 0x13] := by decide +kernel

/-! ### The invariants hold right after reset -/

theorem test_reset_invariants :
    State.reset.memoryCanonical ∧ State.reset.leavesOnce ∧ State.reset.journalCovers ∧ State.reset.queuesAddUp :=
  ⟨reset_memoryCanonical, ⟨by decide, fun _ h => absurd h (List.not_mem_nil), by decide, by decide⟩,
   ⟨fun _ _ => rfl, fun h => absurd h (by decide)⟩, reset_queuesAddUp⟩

end Sys2Proof.Tests
end

section
/-! SUPPORT. Requests to the dictionary (14 R335 to R341): the queues that a frame crosses, the frame that answers it, and what the
device does with it in between. -/

namespace Sys2Proof.Machine

open Sys2Proof

/-! ### Items that cross queues (08 R189 to R197) -/

section
variable (s : State)

theorem dcq_loopIssues (q n j : Nat) : (s.loopIssues q n).dcq j = s.dcq j := by unfold State.loopIssues; split <;> rfl

theorem dcq_loopMoved (q n m j : Nat) : (s.loopMoved q n m).dcq j = s.dcq j := by unfold State.loopMoved; split <;> rfl

theorem dcq_queueRead (q j : Nat) : (s.queueRead q).dcq j = s.dcq j := by unfold State.queueRead; split <;> rfl

theorem obj_loopMoved (q n m r : Nat) : (s.loopMoved q n m).obj r = s.obj r := by unfold State.loopMoved; split <;> rfl

theorem obj_queueRead (q r : Nat) : (s.queueRead q).obj r = s.obj r := by unfold State.queueRead; split <;> rfl

theorem queueLoop_loopMoved (q n m j : Nat) : (s.loopMoved q n m).queueLoop j = s.queueLoop j := by
  unfold State.loopMoved
  split <;> rfl

section
variable {q l : Nat} (h : l ≠ s.queueLoop q)
include h

theorem cloop_loopIssues_other (n : Nat) : (s.loopIssues q n).cloop l = s.cloop l := by
  unfold State.loopIssues
  split
  · rfl
  · exact cloop_setCloop_other s h _

theorem cloop_loopMoved_other (n m : Nat) : (s.loopMoved q n m).cloop l = s.cloop l := by
  unfold State.loopMoved
  split
  · rfl
  · exact cloop_setCloop_other s h _

theorem cloop_queueRead_other : (s.queueRead q).cloop l = s.cloop l := by
  unfold State.queueRead
  split
  · rfl
  · exact cloop_setCloop_other s h _

end

/-- Other queues stay as they are. -/
theorem dcq_passQueue_other {q j : Nat} (h : j ≠ q) (n : Nat) : (s.passQueue q n).dcq j = s.dcq j := by
  unfold State.passQueue
  dsimp only
  split
  · rfl
  · split
    · rw [dcq_bump, dcq_loopIssues, dcq_setDcq_other s h]
    · rw [dcq_queueRead, dcq_loopMoved, dcq_setDcq_other s h]

/-- No crossing ends or begins a FLUSH. -/
theorem queueOpen_passQueue (q n j : Nat) : (s.passQueue q n).queueOpen j = s.queueOpen j := by
  by_cases h : j = q
  · subst h
    unfold State.passQueue State.queueOpen
    dsimp only
    split
    · rfl
    · split
      · rw [dcq_bump, dcq_loopIssues, dcq_setDcq_same]
      · rw [dcq_queueRead, dcq_loopMoved, dcq_setDcq_same]
  · unfold State.queueOpen
    rw [dcq_passQueue_other s h]

/-- Only the loop of the queue counts. -/
theorem cloop_passQueue_other {q l : Nat} (h : l ≠ s.queueLoop q) (n : Nat) : (s.passQueue q n).cloop l = s.cloop l := by
  unfold State.passQueue
  dsimp only
  split
  · rfl
  · split
    · rw [cloop_bump]
      exact cloop_loopIssues_other (s.setDcq q _) h n
    · rw [cloop_queueRead_other _ (by rw [queueLoop_loopMoved]; exact h)]
      exact cloop_loopMoved_other (s.setDcq q _) h n n

/-- An item that crosses a queue which is not under FLUSH changes no object. -/
theorem obj_passQueue_open {q : Nat} (h : s.queueOpen q = true) (n r : Nat) : (s.passQueue q n).obj r = s.obj r := by
  have hf : ¬(s.dcq q).flushing = true := by simpa [State.queueOpen] using h
  unfold State.passQueue
  dsimp only
  rw [if_neg hf]
  split
  · rfl
  · rw [obj_queueRead, obj_loopMoved, obj_setDcq]

/-- Where no queue on the way is under FLUSH, the item crosses them all. -/
theorem crossQueues_open {l : List Nat} (h : l.all s.queueOpen = true) :
    s.crossQueues l = l.foldl (fun (t : State) q => t.passQueue q 1) s := by
  have all : ∀ q ∈ l, s.queueOpen q = true := List.all_eq_true.1 h
  unfold State.crossQueues
  rw [List.takeWhile_eq_self_iff.2 all, List.dropWhile_eq_nil_iff.2 all, List.take_nil, List.append_nil]

theorem obj_crossQueues_open {l : List Nat} (h : l.all s.queueOpen = true) (r : Nat) : (s.crossQueues l).obj r = s.obj r := by
  rw [crossQueues_open s h]
  induction l generalizing s with
  | nil => rfl
  | cons q t ih =>
    simp only [List.all_cons, Bool.and_eq_true] at h
    obtain ⟨hq, ht⟩ := h
    have ht' : t.all (s.passQueue q 1).queueOpen = true :=
      List.all_eq_true.2 fun j hj => (queueOpen_passQueue s q 1 j).trans (List.all_eq_true.1 ht j hj)
    rw [List.foldl_cons, ih _ ht', obj_passQueue_open s hq]

end

/-! ### The queues of the management port -/

/-- The loop of a queue between the management port, a steward and the hub belongs to no partition. -/
theorem queueLoop_dict (s : State) {q : Nat} (h : q ∈ dictIn ++ dictOut) : s.queueLoop q = loopId 8 0 q := by
  have hq : q ∈ [0x500, 0x301, 0x300, 0x501] := h
  simp only [List.mem_cons, List.not_mem_nil, or_false] at hq
  obtain rfl | rfl | rfl | rfl := hq <;> rfl

/-- Items that cross one of these queues take no credit of another. -/
theorem queueTakes_passQueue_dict (s : State) {q j : Nat} (hq : q ∈ dictIn ++ dictOut) (hj : j ∈ dictIn ++ dictOut) (h : j ≠ q)
    (n : Nat) : (s.passQueue q n).queueTakes j = s.queueTakes j := by
  have hl : s.queueLoop j ≠ s.queueLoop q := by
    have apart : ∀ q ∈ dictIn ++ dictOut, ∀ j ∈ dictIn ++ dictOut, j ≠ q → loopId 8 0 j ≠ loopId 8 0 q := by decide
    rw [queueLoop_dict s hq, queueLoop_dict s hj]
    exact apart q hq j hj h
  unfold State.queueTakes State.queueRoom
  simp only [queueOpen_passQueue, dcq_passQueue_other s h, queueLoop_dict _ hj]
  rw [← queueLoop_dict s hj, cloop_passQueue_other s hl]

/-- The queues of the management port take items in `t` as in `s`. -/
theorem queueTakes_dict_congr {s t : State} (hq : view .queues t = view .queues s) (hl : view .loops t = view .loops s) {j : Nat}
    (hj : j ∈ dictIn ++ dictOut) : t.queueTakes j = s.queueTakes j := by
  have hd : t.dcqs = s.dcqs := hq
  have hc : t.cloops = s.cloops := hl
  unfold State.queueTakes State.queueOpen State.queueRoom State.dcq State.cloop
  rw [queueLoop_dict t hj, queueLoop_dict s hj, hd, hc]

theorem dictOut_takes_congr {s t : State} (hq : view .queues t = view .queues s) (hl : view .loops t = view .loops s)
    (h : dictOut.all s.queueTakes = true) : dictOut.all t.queueTakes = true := by
  rw [List.all_eq_true] at h ⊢
  exact fun j hj => (queueTakes_dict_congr hq hl (List.mem_append_right _ hj)).trans (h j hj)

theorem portSpeaks_congr {s t : State} (h : view .power t = view .power s) : t.portSpeaks = s.portSpeaks := by
  simp only [view, Prod.mk.injEq] at h
  obtain ⟨-, hp, hs, hf, -⟩ := h
  simp only [State.portSpeaks, hp, hs, hf]

/-- A frame to a node leaves: the port speaks and every queue on the way takes it. -/
theorem sendDict_leaves {s : State} (hp : s.portSpeaks = true) (hq : dictOut.all s.queueTakes = true) (n : Nat) (f : Bytes) :
    s.sendDict n f = ((s.crossQueues dictOut).emit (.dict n f)).bump 0x110006 1 ∧ dictOut.all s.queueOpen = true := by
  have hr : dictOut.all s.queueRoom = true := List.all_eq_true.2 fun j hj =>
    (Bool.and_eq_true_iff.1 (List.all_eq_true.1 hq j hj)).2
  have ho : dictOut.all s.queueOpen = true := List.all_eq_true.2 fun j hj =>
    (Bool.and_eq_true_iff.1 (List.all_eq_true.1 hq j hj)).1
  refine ⟨?_, ho⟩
  unfold State.sendDict
  rw [hp, hr, if_neg (by decide), if_pos ho]

/-! ### A request on its way in -/

/-- The state in which a steward looks at a request that has reached it. -/
abbrev State.received (s : State) : State := (s.crossQueues dictIn).bump 0x110005 1

/-- A request on its way in changes queues, their loops and the counts of frames. -/
theorem view_received {ar : Area} (hA : ar ∉ [Area.objects, Area.queues, Area.loops]) (s : State) : view ar s.received = view ar s := by
  simp only [List.mem_cons, List.not_mem_nil, not_or, or_false] at hA
  simp [hA, view_bump, view_crossQueues]

theorem node_received (s : State) (n : Nat) : s.received.node n = s.node n := by
  have h : s.received.nodes = s.nodes := view_received (ar := .nodes) (by decide) s
  simp only [State.node, h]

section
variable {s : State} {r : Req}

theorem reachedBy_portSpeaks (h : s.reachedBy r) : s.received.portSpeaks = true := by
  obtain ⟨hp, -⟩ := h
  rw [portSpeaks_congr (view_received (by decide) s), hp]

theorem reachedBy_dictIn_open (h : s.reachedBy r) : dictIn.all s.queueOpen = true := by
  obtain ⟨-, -, -, hq, -⟩ := h
  rw [List.all_eq_true] at hq ⊢
  exact fun j hj => (Bool.and_eq_true_iff.1 (hq j (List.mem_append_left _ hj))).1

/-- The way back is as open after the request as before it. -/
theorem reachedBy_dictOut_takes (h : s.reachedBy r) : dictOut.all s.received.queueTakes = true := by
  have ho := reachedBy_dictIn_open h
  obtain ⟨-, -, -, hq, -⟩ := h
  rw [List.all_eq_true] at hq ⊢
  intro j hj
  have hmem : j ∈ dictIn ++ dictOut := List.mem_append_right _ hj
  have apart : ∀ i ∈ dictOut, i ≠ 0x500 ∧ i ≠ 0x301 := by decide
  obtain ⟨h1, h2⟩ := apart j hj
  have hb : s.received.queueTakes j = (s.crossQueues dictIn).queueTakes j :=
    queueTakes_dict_congr (view_bump (by decide) _ _ _) (view_bump (by decide) _ _ _) hmem
  rw [hb, crossQueues_open s ho]
  change ((s.passQueue 0x500 1).passQueue 0x301 1).queueTakes j = true
  rw [queueTakes_passQueue_dict _ (by decide) hmem h2, queueTakes_passQueue_dict _ (by decide) hmem h1]
  exact hq j hmem

theorem obj_received (h : s.reachedBy r) {ref : Nat} (hr : ref ≠ 0x110005) : s.received.obj ref = s.obj ref := by
  rw [obj_bump_other _ hr, obj_crossQueues_open s (reachedBy_dictIn_open h)]

end

/-! ### The answer (14 R336, R338) -/

/-- The counts of a request that is done with a status. -/
def State.countedAs (s : State) (status : Nat) : State :=
  if status = 0 ∨ status = 0x0A then s.bump 0x120204 1 else (s.bump 0x120204 1).bump 0x120205 1

/-- The response to request `r` is kept for repeats and sent. -/
def State.respond (s : State) (r : Req) (f : Bytes) : State :=
  (s.modNode r.src (fun x => { x with responses := (r.seq, f) :: x.responses.take 7 })).sendDict r.src f

@[simp] theorem node_modNode_same (s : State) (n : Nat) (f : Node → Node) : (s.modNode n f).node n = f (s.node n) :=
  node_setNode_same s n _

theorem node_modNode_other (s : State) {n j : Nat} (h : j ≠ n) (f : Node → Node) : (s.modNode n f).node j = s.node j :=
  node_setNode_other s h _

theorem onlyNodes_modNode (s : State) (n : Nat) (f : Node → Node) : OnlyNodes [n] s (s.modNode n f) :=
  fun _ hj => node_modNode_other s (fun e => hj (List.mem_singleton.2 e)) f

theorem onlyNodes_trans {l : List Nat} {s t u : State} (h : OnlyNodes l s t) (g : OnlyNodes l t u) : OnlyNodes l s u :=
  fun n hn => (g n hn).trans (h n hn)

theorem onlyNodes_of_view {l : List Nat} {s t : State} (h : view .nodes t = view .nodes s) : OnlyNodes l s t := fun n _ => by
  have hn : t.nodes = s.nodes := h
  simp only [State.node, hn]

theorem view_countedAs {ar : Area} (hA : ar ∉ [Area.objects]) (s : State) (st : Nat) : view ar (s.countedAs st) = view ar s := by
  unfold State.countedAs
  split <;> simp [hA, view_bump]

theorem node_countedAs (s : State) (st n : Nat) : (s.countedAs st).node n = s.node n := by
  unfold State.countedAs
  split <;> rfl

theorem obj_countedAs (s : State) (st : Nat) {ref : Nat} (h : ref ∉ 0x120205 :: servedObjs) : (s.countedAs st).obj ref = s.obj ref := by
  simp only [List.mem_cons, List.not_mem_nil, not_or, or_false] at h
  obtain ⟨h5, -, -, h4, -⟩ := h
  unfold State.countedAs
  split
  · exact obj_bump_other s h4 1
  · rw [obj_bump_other _ h5, obj_bump_other _ h4]

/-- Status 0 and 0x0A do not count as errors. -/
theorem obj_countedAs_done (s : State) {ref : Nat} (h : ref ∉ servedObjs) : (s.countedAs 0).obj ref = s.obj ref := by
  simp only [List.mem_cons, List.not_mem_nil, not_or, or_false] at h
  obtain ⟨-, -, h4, -⟩ := h
  exact obj_bump_other s h4 1

/-- A request that reaches the stewards as a new one is handled, counted and answered. -/
theorem serve_reached {s : State} {r : Req} (h : s.reachedBy r) {op : Nat} {fw : FwVerdict} {u : State} {st : Nat} {d : Bytes}
    (ha : s.received.handle op r fw = (u, st, d, false)) :
    s.serve op r fw = (u.countedAs st).respond r (responseFrame (s.received.trailerKey (u.countedAs st) r.src) op r st d) := by
  have ho := reachedBy_dictIn_open h
  obtain ⟨hp, hport, hdrop, hq, hnew⟩ := h
  have hr : (dictIn ++ dictOut).all s.queueRoom = true := List.all_eq_true.2 fun j hj =>
    (Bool.and_eq_true_iff.1 (List.all_eq_true.1 hq j hj)).2
  have hn : (s.received.node r.src).responses.find? (fun e => e.1 == r.seq) = none := by
    rw [node_received, List.find?_eq_none]
    simpa only [List.all_eq_true, bne_iff_ne, ne_eq, beq_iff_eq] using hnew
  unfold State.serve
  simp only [hp, hport, hdrop, hr, ho, hn, ha]
  rfl

/-- Only the requester's entry changes: the response is kept. -/
theorem node_respond (s : State) (r : Req) (f : Bytes) (n : Nat) : (s.respond r f).node n =
    if n = r.src.val then { s.node n with responses := (r.seq, f) :: (s.node n).responses.take 7 } else s.node n := by
  have hv : (s.respond r f).nodes = (s.modNode r.src (fun x => { x with responses := (r.seq, f) :: x.responses.take 7 })).nodes :=
    view_sendDict (ar := .nodes) (by decide) _ _ _
  have hn : (s.respond r f).node n = (s.modNode r.src (fun x => { x with responses := (r.seq, f) :: x.responses.take 7 })).node n := by
    simp only [State.node, hv]
  rw [hn]
  split
  case isTrue h => rw [h, node_modNode_same]
  case isFalse h => rw [node_modNode_other s h]

theorem view_respond {ar : Area} (hA : ar ∉ Area.answering) (s : State) (r : Req) (f : Bytes) :
    view ar (s.respond r f) = view ar s := by
  simp only [List.mem_cons, List.not_mem_nil, not_or, or_false] at hA
  unfold State.respond
  simp [hA, view_sendDict, view_modNode]

section
variable {s : State} (r : Req) (f : Bytes) (hp : s.portSpeaks = true) (hq : dictOut.all s.queueTakes = true)
include hp hq

theorem respond_leaves :
    s.respond r f = (((s.modNode r.src (fun x => { x with responses := (r.seq, f) :: x.responses.take 7 })).crossQueues dictOut).emit
      (.dict r.src f)).bump 0x110006 1 ∧ dictOut.all s.queueOpen = true := by
  have hk : ∀ ar, ar ≠ Area.nodes → view ar (s.modNode r.src (fun x => { x with responses := (r.seq, f) :: x.responses.take 7 }))
      = view ar s := fun ar h => view_modNode (by simpa using h) _ _ _
  exact sendDict_leaves ((portSpeaks_congr (hk _ (by decide))).trans hp)
    (dictOut_takes_congr (hk _ (by decide)) (hk _ (by decide)) hq) _ _

theorem out_respond : (s.respond r f).out.head? = some (.dict r.src f) := by
  rw [(respond_leaves r f hp hq).1]
  rfl

theorem obj_respond {ref : Nat} (h : ref ≠ 0x110006) : (s.respond r f).obj ref = s.obj ref := by
  obtain ⟨he, ho⟩ := respond_leaves r f hp hq
  rw [he, obj_bump_other _ h, obj_emit]
  exact obj_crossQueues_open (s.modNode r.src _) ho ref

end

/-- A request that is handled with a status and data, and leaves the way back open, is served with them. -/
theorem serve_served {s : State} {r : Req} (h : s.reachedBy r) {op : Nat} {fw : FwVerdict} {u : State} {st : Nat} {d : Bytes}
    (ha : s.received.handle op r fw = (u, st, d, false)) (hn : OnlyNodes [r.src.val] s u) (hp : u.portSpeaks = true)
    (hq : dictOut.all u.queueTakes = true) : Served s (s.serve op r fw) op r st d := by
  have hpc : (u.countedAs st).portSpeaks = true := (portSpeaks_congr (view_countedAs (by decide) u st)).trans hp
  have hqc := dictOut_takes_congr (view_countedAs (by decide) u st) (view_countedAs (by decide) u st) hq
  have hk : s.trailerKey (s.serve op r fw) r.src = s.received.trailerKey (u.countedAs st) r.src := by
    simp only [State.trailerKey, node_received, serve_reached h ha, node_respond, if_true]
  unfold Served
  rw [hk, serve_reached h ha]
  refine ⟨out_respond r _ hpc hqc, by rw [node_respond, if_pos rfl]; rfl, fun n hj => ?_⟩
  rw [node_respond, if_neg (fun e => hj (List.mem_singleton.2 e)), node_countedAs]
  exact hn n hj

section
variable {s : State} {r : Req} (h : s.reachedBy r) {op : Nat} {fw : FwVerdict} {u : State} {st : Nat} {d : Bytes}
  (ha : s.received.handle op r fw = (u, st, d, false))
include h ha

/-- What handling did to an area that an answer does not name stands. -/
theorem view_serve_handled {ar : Area} (hA : ar ∉ Area.answering) : view ar (s.serve op r fw) = view ar u := by
  have ho : ar ∉ [Area.objects] := fun e => hA (by rw [List.mem_singleton.1 e]; decide)
  rw [serve_reached h ha, view_respond hA, view_countedAs ho]

theorem node_serve_handled : (s.serve op r fw).node r.src =
    { u.node r.src with responses := ((s.serve op r fw).node r.src).responses } := by
  rw [serve_reached h ha, node_respond, if_pos rfl, node_countedAs]

theorem obj_serve_handled (hp : u.portSpeaks = true) (hq : dictOut.all u.queueTakes = true) {ref : Nat}
    (hr : ref ∉ 0x120205 :: servedObjs) : (s.serve op r fw).obj ref = u.obj ref := by
  have h6 : ref ≠ 0x110006 := fun e => hr (by rw [e]; decide)
  rw [serve_reached h ha, obj_respond r _ ((portSpeaks_congr (view_countedAs (by decide) u st)).trans hp)
    (dictOut_takes_congr (view_countedAs (by decide) u st) (view_countedAs (by decide) u st) hq) h6, obj_countedAs u st hr]

end

theorem obj_serve_done {s : State} {r : Req} (h : s.reachedBy r) {op : Nat} {fw : FwVerdict} {u : State} {d : Bytes}
    (ha : s.received.handle op r fw = (u, 0, d, false)) (hp : u.portSpeaks = true) (hq : dictOut.all u.queueTakes = true) {ref : Nat}
    (hr : ref ∉ servedObjs) : (s.serve op r fw).obj ref = u.obj ref := by
  have h6 : ref ≠ 0x110006 := fun e => hr (by rw [e]; decide)
  rw [serve_reached h ha, obj_respond r _ ((portSpeaks_congr (view_countedAs (by decide) u 0)).trans hp)
    (dictOut_takes_congr (view_countedAs (by decide) u 0) (view_countedAs (by decide) u 0) hq) h6, obj_countedAs_done u hr]

/-! ### Rows of the object tables -/

/-- Which rows the device has rests on its stepping, which stands in the flash. -/
theorem hasRow_congr {s t : State} (h : view .flash t = view .flash s) : t.hasRow = s.hasRow := by
  have hf : t.flash = s.flash := h
  funext o
  unfold State.hasRow State.stepping State.recField State.recordOk State.recBits
  rw [hf]

theorem row?_congr {s t : State} (h : view .flash t = view .flash s) (ref : Nat) : t.row? ref = s.row? ref := by
  unfold State.row?
  rw [hasRow_congr h]

theorem hasIndex_congr {s t : State} (h : view .flash t = view .flash s) (i : Nat) : t.hasIndex i = s.hasIndex i := by
  unfold State.hasIndex
  rw [hasRow_congr h]

theorem indexSize_congr {s t : State} (h : view .flash t = view .flash s) (i : Nat) : t.indexSize i = s.indexSize i := by
  unfold State.indexSize State.refsOfIndex
  rw [hasRow_congr h]

theorem objRow?_of_row? {s : State} {ref : Nat} {o : ObjRow} (h : s.row? ref = some o) : objRow? ref = some o := by
  unfold State.row? at h
  split at h
  · split at h
    · rename_i e _
      rw [e, h]
    · cases h
  · cases h

theorem objSize_of_row? {s : State} {ref : Nat} {o : ObjRow} (h : s.row? ref = some o) : objSize ref = o.size := by
  unfold objSize
  rw [objRow?_of_row? h]

/-- The counts of frames and requests are read-only. -/
theorem row?_counts {s : State} {ref : Nat} {o : ObjRow} (h : s.row? ref = some o) (ho : o.access ≠ 2) : ref ∉ 0x120205 :: servedObjs := by
  have counts : ∀ c ∈ 0x120205 :: servedObjs, (objRow? c).map (·.access) = some 2 := by decide +kernel
  intro hm
  have hc := counts ref hm
  rw [objRow?_of_row? h] at hc
  exact ho (Option.some.inj hc)

/-! ### What a frame does before it is looked at (14 R350, R351) -/

section
variable (s : State) (op : Nat) (r : Req)

/-- The lock and the compatibility sequence of the node may close, nothing else changes in its entry. -/
theorem node_frameArrives : ∃ a b c, (s.frameArrives op r).node r.src =
    { s.node r.src with unlockedAt := a, target := b, value := c } := by
  refine ⟨((s.frameArrives op r).node r.src).unlockedAt, ((s.frameArrives op r).node r.src).target,
    ((s.frameArrives op r).node r.src).value, ?_⟩
  unfold State.frameArrives State.dropCompat
  simp only
  (repeat' split) <;> simp

theorem onlyNodes_frameArrives : OnlyNodes [r.src.val] s (s.frameArrives op r) := by
  unfold State.frameArrives State.dropCompat
  simp only
  (repeat' split) <;> intro n hn <;>
    simp only [node_modNode_other _ (fun e : n = r.src.val => hn (List.mem_singleton.2 e))]

theorem frameArrives_read (h : opWrites op = false) : s.frameArrives op r = s := by
  have h2 : (op == opWrite || op == opCommit) = false := by
    simp only [opWrites, Bool.or_eq_false_iff] at h ⊢
    obtain ⟨⟨hw, -⟩, hc⟩ := h
    exact ⟨hw, hc⟩
  unfold State.frameArrives
  simp [h, h2]

end

/-- Two states in which the checks of AUTH find the same: time, session and keys of the node. -/
theorem authPasses_congr {s t : State} {r : Req} (op : Nat) {a b c} (ht : view .time t = view .time s)
    (hn : t.node r.src = { s.node r.src with unlockedAt := a, target := b, value := c }) :
    t.authPasses op r = s.authPasses op r := by
  have hns : t.ns = s.ns := ht
  simp only [State.authPasses, State.sessionOpen, hn, hns]

theorem stagedArea_congr {s t : State} {n : Nat} (ref l : Nat) (ht : view .time t = view .time s)
    (hs : (t.node n).staging = (s.node n).staging) (ha : (t.node n).stagedAt = (s.node n).stagedAt) :
    t.stagedArea n ref l = s.stagedArea n ref l := by
  have hns : t.ns = s.ns := ht
  unfold State.stagedArea State.stagingOpen
  rw [hs, ha, hns]

/-! ### A request past the checks of AUTH (14 R341) -/

/-- The state in which an operation that passes the checks of AUTH acts on an object of row `o`. -/
def State.admitted (s : State) (op : Nat) (r : Req) (o : ObjRow) : State :=
  if o.access = 6 then (s.received.frameArrives op r).authTaken r else s.received.frameArrives op r

section
variable (s : State) (op : Nat) (r : Req) (o : ObjRow)

theorem view_admitted {ar : Area} (hA : ar ∉ [Area.objects, Area.queues, Area.loops, Area.nodes]) :
    view ar (s.admitted op r o) = view ar s := by
  simp only [List.mem_cons, List.not_mem_nil, not_or, or_false] at hA
  unfold State.admitted
  split <;> simp [hA, view_authTaken, view_frameArrives, view_bump, view_crossQueues]

/-- It is the state of the request's arrival but for the nodes. -/
theorem view_admitted_received {ar : Area} (hA : ar ∉ [Area.nodes]) : view ar (s.admitted op r o) = view ar s.received := by
  unfold State.admitted
  split <;> simp [hA, view_authTaken, view_frameArrives]

theorem onlyNodes_admitted : OnlyNodes [r.src.val] s (s.admitted op r o) := by
  have hr : OnlyNodes [r.src.val] s (s.received.frameArrives op r) :=
    onlyNodes_trans (fun n _ => node_received s n) (onlyNodes_frameArrives s.received op r)
  unfold State.admitted
  split
  · exact onlyNodes_trans hr (onlyNodes_modNode _ _ _)
  · exact hr

theorem staging_admitted : ((s.admitted op r o).node r.src).staging = (s.node r.src).staging
    ∧ ((s.admitted op r o).node r.src).stagedAt = (s.node r.src).stagedAt := by
  obtain ⟨a, b, c, hn⟩ := node_frameArrives s.received op r
  unfold State.admitted State.authTaken
  split <;> simp only [node_modNode_same, hn, node_received, and_self]

theorem obj_admitted (h : s.reachedBy r) {ref : Nat} (hr : ref ∉ servedObjs) : (s.admitted op r o).obj ref = s.obj ref := by
  have ho : (s.admitted op r o).objs = s.received.objs := view_admitted_received (ar := .objects) s op r o (by decide)
  have h5 : ref ≠ 0x110005 := fun e => hr (by rw [e]; decide)
  rw [← obj_received h h5]
  simp only [State.obj, ho]

theorem authPasses_frameArrives : (s.received.frameArrives op r).authPasses op r = s.authPasses op r := by
  obtain ⟨a, b, c, hn⟩ := node_frameArrives s.received op r
  rw [node_received] at hn
  refine authPasses_congr op ?_ hn
  rw [view_frameArrives (by decide), view_received (by decide)]

end

/-- The way back is open when a request acts, and stays open as long as it touches no queue. -/
theorem wayBack_open {s u : State} {r : Req} (h : s.reachedBy r) (hu : ∀ ar ∈ [Area.power, .queues, .loops], view ar u = view ar s.received) :
    u.portSpeaks = true ∧ dictOut.all u.queueTakes = true :=
  ⟨(portSpeaks_congr (hu _ (by decide))).trans (reachedBy_portSpeaks h),
   dictOut_takes_congr (hu _ (by decide)) (hu _ (by decide)) (reachedBy_dictOut_takes h)⟩

/-! ### Reads (14 R339) -/

section
variable {s : State} {r : Req} {o : ObjRow}

/-- A read that is answered with status 0 changes nothing before its answer. -/
theorem read_served {op : Nat} {d : Bytes} (h : s.reachedBy r) (ha : s.received.handle op r noVerdict = (s.received, 0, d, false)) :
    Served s (s.serve op r noVerdict) op r 0 d ∧ OnlyObjs servedObjs s (s.serve op r noVerdict) := by
  obtain ⟨hp, hq⟩ := wayBack_open (u := s.received) h (fun _ _ => rfl)
  refine ⟨serve_served h ha (fun n _ => node_received s n) hp hq, fun ref hr => ?_⟩
  rw [obj_serve_done h ha hp hq hr, obj_received h (fun e => hr (by rw [e]; decide))]

theorem handle_read (hm : reqMalformed opRead r = false) (ho : s.row? (reqRef r) = some o) (ha : o.access ≠ 4) (hs : o.size ≤ 1024) :
    s.handle opRead r noVerdict = (s, 0, s.readBytes r.src (reqRef r) 0 o.size, false) := by
  unfold State.handle
  simp only [frameArrives_read s opRead r (by decide), hm, ho]
  simp [State.readFrame, ha, Nat.not_lt.2 hs]

theorem handle_blockRead_object (hm : reqMalformed opBlockRead r = false) (hsub : r.sub ≠ 0) (ho : s.row? (reqRef r) = some o)
    (ha : o.access ≠ 4) (hl : r.offset.toNat ≤ o.size) : s.handle opBlockRead r noVerdict =
      (s, 0, s.readBytes r.src (reqRef r) r.offset.toNat r.len.toNat, false) := by
  unfold State.handle
  simp only [frameArrives_read s opBlockRead r (by decide), hm]
  simp only [State.blockFrame, if_neg hsub, ho, if_neg ha, if_neg (Nat.not_lt.2 hl)]
  rfl

theorem handle_blockRead_index (hm : reqMalformed opBlockRead r = false) (hsub : r.sub = 0) (hi : s.hasIndex r.index.toNat = true)
    (hl : r.offset.toNat ≤ s.indexSize r.index.toNat) : s.handle opBlockRead r noVerdict =
      (s, 0, s.readIndex r.src r.index.toNat r.offset.toNat r.len.toNat, false) := by
  unfold State.handle
  simp only [frameArrives_read s opBlockRead r (by decide), hm]
  simp [State.blockFrame, hsub, hi, Nat.not_lt.2 hl]

end

/-! ### Values (00 R5, R6; 14 R344, R346) -/

theorem leNat_lt (b : Bytes) : leNat b < 256 ^ b.length := by
  induction b with
  | nil => decide
  | cons x t ih =>
    have hx := x.isLt
    simp only [leNat, List.length_cons, Nat.pow_succ]
    omega

theorem length_leBytes (n x : Nat) : (leBytes n x).length = n := by
  induction n generalizing x with
  | zero => rfl
  | succ n ih => rw [leBytes, List.length_cons, ih]

/-- What reaches the unit fits the object. -/
theorem leNat_keptData_lt (o : ObjRow) (ref : Nat) {data : Bytes} (h : data.length = o.size) :
    leNat (keptData o ref data) < 256 ^ o.size := by
  unfold keptData
  split
  · exact h ▸ leNat_lt data
  · exact (leNat_lt _).trans_eq (by rw [length_leBytes])

theorem length_stagedValue (m : SMap Nat) {l size : Nat} (h : l ≤ size) : (stagedValue m l size).length = size := by
  simp only [stagedValue, List.length_append, List.length_map, List.length_range, List.length_replicate]
  omega

/-- The copy that is written last, whole, is the one in force. -/
theorem settings_putSettings (f : Flash) (vals : SMap Nat) :
    (f.putSettings (Settings.whole vals (f.settingsTurn + 1))).settings = vals := by
  cases hb : f.settingsB with
  | true =>
    -- copy A is written and is not older than B
    have hA : f.putSettings (Settings.whole vals (f.settingsTurn + 1)) = { f with copyA := Settings.whole vals (f.copyB.turn + 1) } := by
      simp only [Flash.putSettings, Flash.settingsTurn, hb, if_true]
    rw [hA]
    simp [Flash.settings, Flash.settingsB, Settings.ok, Settings.whole]
  | false =>
    have hB : f.putSettings (Settings.whole vals (f.settingsTurn + 1)) = { f with copyB := Settings.whole vals (f.copyA.turn + 1) } := by
      simp only [Flash.putSettings, Flash.settingsTurn, hb, if_false, Bool.false_eq_true]
    rw [hB]
    simp [Flash.settings, Flash.settingsB, Settings.ok, Settings.whole]

/-- A value of an object that holds it itself is put there: into the settings area where it is STORED, into the buffer of the tick where
it is class T. -/
def State.placed (s : State) (o : ObjRow) (ref v : Nat) : State :=
  if o.wclass = 2 then (if o.persist = 2 then s.storeSetting ref v else s).bufferWrite ref v
  else (if o.persist = 2 then s.storeSetting ref v else s).setObj ref v

section
variable (s : State) (o : ObjRow) (ref v : Nat)

theorem obj_placed_same : (s.placed o ref v).obj ref = v % 256 ^ objSize ref := by
  unfold State.placed
  split
  · exact obj_setObj_same _ ref v
  · exact obj_setObj_same _ ref v

theorem obj_placed_other {j : Nat} (h : j ≠ ref) : (s.placed o ref v).obj j = s.obj j := by
  have hs : (if o.persist = 2 then s.storeSetting ref v else s).obj j = s.obj j := by split <;> rfl
  unfold State.placed
  split
  · exact (obj_setObj_other _ h v).trans hs
  · exact (obj_setObj_other _ h v).trans hs

theorem view_placed {ar : Area} (hA : ar ∉ [Area.flash, Area.objects, Area.buffered]) : view ar (s.placed o ref v) = view ar s := by
  simp only [List.mem_cons, List.not_mem_nil, not_or, or_false] at hA
  unfold State.placed
  simp [hA, view_ite, view_bufferWrite, view_setObj, view_storeSetting]

theorem buffered_placed : (s.placed o ref v).buffered = if o.wclass = 2 then s.buffered ++ [(ref, v)] else s.buffered := by
  have hs : (if o.persist = 2 then s.storeSetting ref v else s).buffered = s.buffered := by split <;> rfl
  unfold State.placed
  split
  · exact congrArg (· ++ [(ref, v)]) hs
  · exact hs

theorem settings_placed (h : o.persist = 2) : SMap.get (objDefault ref) (s.placed o ref v).flash.settings ref = v := by
  have hf : (s.placed o ref v).flash = (s.storeSetting ref v).flash := by
    unfold State.placed
    rw [if_pos h]
    split <;> rfl
  rw [hf]
  exact (congrArg (fun m => SMap.get (objDefault ref) m ref) (settings_putSettings s.flash _)).trans SMap.get_set_same

end

section
variable {s : State} {op : Nat} {r : Req} {o : ObjRow} {fw : FwVerdict}

theorem reservedValue_congr {t : State} (h : view .flash t = view .flash s) (o : ObjRow) (ref v : Nat) :
    t.reservedValue o ref v = s.reservedValue o ref v := by
  simp only [State.reservedValue, State.publishable, row?_congr h]

theorem unitWrite_plain {ref : Nat} (hp : plainObject o ref) (n : Nat) (d : Bytes) :
    s.unitWrite op n o ref d fw = (s.placed o ref (leNat d), 0) := by
  obtain ⟨hc, hn, -, hport, hchan, hd⟩ := hp
  unfold State.unitWrite State.placed
  simp only [hc, hn, hport, hchan, hd, if_false, Bool.false_eq_true]
  split <;> rfl

theorem valueChecked_plain {ref : Nat} (hp : plainObject o ref) (ha : o.access ≠ 5) (n : Nat) {d : Bytes}
    (hr : s.reservedValue o ref (leNat (keptData o ref d)) = false) :
    s.valueChecked op n o ref d fw = (s.placed o ref (leNat (keptData o ref d)), 0) := by
  unfold State.valueChecked
  simp only [hr, unitWrite_plain hp, ha, Bool.false_eq_true, if_false, false_and]

theorem valueChecked_reserved {ref : Nat} (n : Nat) {d : Bytes} (hr : s.reservedValue o ref (leNat (keptData o ref d)) = true) :
    s.valueChecked op n o ref d fw = (s, 6) := by
  unfold State.valueChecked
  simp only [hr, if_true]

/-- A write of a value of the right size that passes access and session reaches the check of the value. -/
theorem writeValue_plain (hp : plainObject o (reqRef r)) (ha : o.access ∉ [1, 2, 5]) (hauth : o.access = 6 → s.authPasses op r = true)
    (d : Bytes) (open_ : Bool) : s.writeValue op r o d true open_ fw =
      answer ((if o.access = 6 then s.authTaken r else s).valueChecked op r.src o (reqRef r) d fw).1
        ((if o.access = 6 then s.authTaken r else s).valueChecked op r.src o (reqRef r) d fw).2 := by
  obtain ⟨-, -, hcompat, -⟩ := hp
  simp only [List.mem_cons, List.not_mem_nil, not_or, or_false] at ha hcompat
  obtain ⟨h1, h2, h5⟩ := ha
  obtain ⟨hv, hc, ht⟩ := hcompat
  have h6 : ¬(o.access = 6 ∧ (!s.authPasses op r) = true) := fun e => by simp [hauth e.1] at e
  unfold State.writeValue
  simp only [h1, h2, h5, hv, hc, ht, h6, or_false, if_false, false_and, Bool.not_true, Bool.false_eq_true]

theorem handle_write (hm : reqMalformed opWrite r = false) (ho : s.row? (reqRef r) = some o) : s.handle opWrite r fw =
    (s.frameArrives opWrite r).writeValue opWrite r o r.data (decide (r.data.length = o.size) && decide (o.size ≤ 1024))
      (s.unlocked r.src) fw := by
  have hr : (s.frameArrives opWrite r).row? (reqRef r) = some o := (row?_congr (view_frameArrives (by decide) s _ r) _).trans ho
  unfold State.handle
  simp [hm, hr]

theorem handle_staged (hm : reqMalformed opStaged r = false) (ho : s.row? (reqRef r) = some o) : s.handle opStaged r fw =
    (s.frameArrives opStaged r).stagedFrame r o := by
  have hr : (s.frameArrives opStaged r).row? (reqRef r) = some o := (row?_congr (view_frameArrives (by decide) s _ r) _).trans ho
  unfold State.handle
  simp [hm, hr]

theorem handle_commit (hm : reqMalformed opCommit r = false) (ho : s.row? (reqRef r) = some o) : s.handle opCommit r fw =
    (s.frameArrives opCommit r).commitFrame r o (s.unlocked r.src) fw := by
  have hr : (s.frameArrives opCommit r).row? (reqRef r) = some o := (row?_congr (view_frameArrives (by decide) s _ r) _).trans ho
  unfold State.handle
  simp [hm, hr]

/-- The row of a request's object when the request has arrived. -/
theorem row?_received (ho : s.row? (reqRef r) = some o) : s.received.row? (reqRef r) = some o :=
  (row?_congr (view_received (by decide) s) _).trans ho

/-- A value that is put into its object is answered with status 0, and only the object and the counts change. -/
theorem placed_served {u : State} {v : Nat} (h : s.reachedBy r) (ho : s.row? (reqRef r) = some o) (hacc : o.access ≠ 2)
    (hv : v < 256 ^ o.size) (ha : s.received.handle op r fw = (u, 0, [], false)) (hn : OnlyNodes [r.src.val] s u)
    (hu : ∀ ar, ar ∈ [Area.power, .queues, .loops, .objects] → view ar u = view ar ((s.admitted op r o).placed o (reqRef r) v)) :
    Served s (s.serve op r fw) op r 0 [] ∧ (s.serve op r fw).obj (reqRef r) = v ∧ OnlyObjs (reqRef r :: servedObjs) s (s.serve op r fw) := by
  obtain ⟨hp, hq⟩ := wayBack_open (u := u) h (by
    intro ar har
    have h3 : ar ∈ [Area.power, .queues, .loops, .objects] ∧ ar ∉ [Area.flash, .objects, .buffered] ∧ ar ∉ [Area.nodes] := by
      revert har; revert ar; decide
    obtain ⟨hm, hpl, hnd⟩ := h3
    rw [hu ar hm, view_placed _ _ _ _ hpl, view_admitted_received _ _ _ _ hnd])
  have hobj : ∀ ref, u.obj ref = ((s.admitted op r o).placed o (reqRef r) v).obj ref := by
    have hobjs : u.objs = ((s.admitted op r o).placed o (reqRef r) v).objs := hu .objects (by decide)
    intro ref
    simp only [State.obj, hobjs]
  refine ⟨serve_served h ha hn hp hq, ?_, fun ref hr => ?_⟩
  · have hcount : reqRef r ∉ servedObjs := fun e => row?_counts ho hacc (List.mem_cons_of_mem _ e)
    rw [obj_serve_done h ha hp hq hcount, hobj, obj_placed_same, objSize_of_row? ho, Nat.mod_eq_of_lt hv]
  · obtain ⟨hne, hcount⟩ := not_or.1 (fun e => hr (List.mem_cons.2 e))
    rw [obj_serve_done h ha hp hq hcount, hobj, obj_placed_other _ _ _ _ hne, obj_admitted s op r o h hcount]

/-- A write that is refused after the frame has arrived leaves everything but the counts and the node's lock. -/
theorem refused_served {st : Nat} (h : s.reachedBy r) (ha : s.received.handle op r fw = (s.received.frameArrives op r, st, [], false)) :
    Served s (s.serve op r fw) op r st [] ∧ OnlyObjs (0x120205 :: servedObjs) s (s.serve op r fw)
      ∧ (s.serve op r fw).inForce = s.inForce ∧ (s.serve op r fw).flash = s.flash := by
  have hv : ∀ ar, ar ∉ [Area.nodes] → view ar (s.received.frameArrives op r) = view ar s.received :=
    fun ar har => view_frameArrives har _ _ _
  obtain ⟨hp, hq⟩ := wayBack_open (u := s.received.frameArrives op r) h (fun ar har => hv ar (by revert har; revert ar; decide))
  refine ⟨serve_served h ha ?_ hp hq, fun ref hr => ?_, ?_, ?_⟩
  · exact onlyNodes_trans (fun n _ => node_received s n) (onlyNodes_frameArrives s.received op r)
  · have hobjs : (s.received.frameArrives op r).objs = s.received.objs := hv .objects (by decide)
    have hobj : (s.received.frameArrives op r).obj ref = s.received.obj ref := by simp only [State.obj, hobjs]
    rw [obj_serve_handled h ha hp hq hr, hobj, obj_received h (fun e => hr (by rw [e]; decide))]
  · exact (view_serve_handled (ar := .inForce) h ha (by decide)).trans ((hv .inForce (by decide)).trans (view_received (by decide) s))
  · exact (view_serve_handled (ar := .flash) h ha (by decide)).trans ((hv .flash (by decide)).trans (view_received (by decide) s))

/-! ### WRITE (14 R346) -/

theorem handle_write_plain (h : s.takes opWrite r) (ho : s.row? (reqRef r) = some o) (hp : plainObject o (reqRef r))
    (ha : o.access ∉ [1, 2, 5]) (hauth : o.access = 6 → s.authPasses opWrite r = true) (hl : r.data.length = o.size) (hs : o.size ≤ 1024)
    (hv : s.reservedValue o (reqRef r) (leNat (keptData o (reqRef r) r.data)) = false) : s.received.handle opWrite r fw =
      ((s.admitted opWrite r o).placed o (reqRef r) (leNat (keptData o (reqRef r) r.data)), 0, [], false) := by
  have h5 : o.access ≠ 5 := fun e => ha (by rw [e]; decide)
  have hres : (s.admitted opWrite r o).reservedValue o (reqRef r) (leNat (keptData o (reqRef r) r.data)) = false :=
    (reservedValue_congr (view_admitted s opWrite r o (by decide)) o _ _).trans hv
  rw [handle_write h.2 (row?_received ho), decide_eq_true hl, decide_eq_true hs, Bool.and_self,
    writeValue_plain hp ha (fun e => (authPasses_frameArrives s opWrite r).trans (hauth e))]
  change answer ((s.admitted opWrite r o).valueChecked opWrite r.src o (reqRef r) r.data fw).1
    ((s.admitted opWrite r o).valueChecked opWrite r.src o (reqRef r) r.data fw).2 = _
  rw [valueChecked_plain hp h5 _ hres]
  rfl

theorem handle_write_readOnly (h : s.takes opWrite r) (ho : s.row? (reqRef r) = some o) (ha : o.access = 1 ∨ o.access = 2) :
    s.received.handle opWrite r fw = (s.received.frameArrives opWrite r, 3, [], false) := by
  rw [handle_write h.2 (row?_received ho)]
  unfold State.writeValue
  rw [if_pos ha]
  rfl

theorem handle_write_reserved (h : s.takes opWrite r) (ho : s.row? (reqRef r) = some o) (hp : plainObject o (reqRef r))
    (ha : o.access ∉ [1, 2, 5, 6]) (hl : r.data.length = o.size) (hs : o.size ≤ 1024)
    (hv : s.reservedValue o (reqRef r) (leNat (keptData o (reqRef r) r.data)) = true) :
    s.received.handle opWrite r fw = (s.received.frameArrives opWrite r, 6, [], false) := by
  have h6 : o.access ≠ 6 := fun e => ha (by rw [e]; decide)
  have ha' : o.access ∉ [1, 2, 5] := fun e => ha (by revert e; simp only [List.mem_cons]; tauto)
  have hf : view .flash (s.received.frameArrives opWrite r) = view .flash s :=
    (view_frameArrives (by decide) _ _ _).trans (view_received (by decide) s)
  rw [handle_write h.2 (row?_received ho), decide_eq_true hl, decide_eq_true hs, Bool.and_self,
    writeValue_plain hp ha' (fun e => absurd e h6), if_neg h6, valueChecked_reserved _ ((reservedValue_congr hf o _ _).trans hv)]
  rfl

/-! ### Staging (14 R340) -/

/-- Bytes staged from offset `off + k` on leave what lies below. -/
theorem get_stageBytes_below (off : Nat) (b : Bytes) (k : Nat) (m : SMap Nat) {j : Nat} (h : j < off + k) :
    SMap.get 0 ((b.zipIdx k).foldl (fun (t : SMap Nat) e => SMap.set 0 t (off + e.2) (e.1.toNat + 1)) m) j = SMap.get 0 m j := by
  induction b generalizing k m with
  | nil => rfl
  | cons x t ih =>
    rw [List.zipIdx_cons, List.foldl_cons, ih (k + 1) _ (by omega), SMap.get_set_other (by omega)]

theorem get_stageBytes_from (off : Nat) (b : Bytes) (k : Nat) (m : SMap Nat) (i : Nat) (h : i < b.length) :
    SMap.get 0 ((b.zipIdx k).foldl (fun (t : SMap Nat) e => SMap.set 0 t (off + e.2) (e.1.toNat + 1)) m) (off + (k + i))
      = b[i].toNat + 1 := by
  induction b generalizing k m i with
  | nil => exact absurd h (Nat.not_lt_zero i)
  | cons x t ih =>
    rw [List.zipIdx_cons, List.foldl_cons]
    cases i with
    | zero => exact (get_stageBytes_below off t (k + 1) _ (by omega)).trans SMap.get_set_same
    | succ i =>
      have := ih (k + 1) (SMap.set 0 m (off + k) (x.toNat + 1)) i (by simpa using h)
      rwa [show k + 1 + i = k + (i + 1) by omega] at this

/-- Every staged byte stands at its offset, one above its value. -/
theorem get_stageBytes (m : SMap Nat) (off : Nat) (b : Bytes) (i : Nat) (h : i < b.length) :
    SMap.get 0 (stageBytes m off b) (off + i) = b[i].toNat + 1 := by
  have := get_stageBytes_from off b 0 m i h
  rwa [Nat.zero_add] at this

/-- The bytes of a staged frame that passes join those the node's area holds for the object. -/
theorem stagedFrame_kept (hauth : o.access = 6 → s.authPasses opStaged r = true) (hl : r.offset.toNat + r.data.length ≤ o.size)
    (hroom : r.offset.toNat + r.data.length ≤ stagingRoom (reqRef r)) : ∃ m fresh, s.stagedFrame r o =
      let t := (if o.access = 6 then s.authTaken r else s).modNode r.src
        (fun x => { x with staging := some (reqRef r, stageBytes m r.offset.toNat r.data), stagedAt := s.ns })
      (if reqRef r = 0x600105 then t.stageImage fresh r.offset.toNat r.data else t, 0, [], false) := by
  have h6 : ¬(o.access = 6 ∧ (!s.authPasses opStaged r) = true) := fun e => by simp [hauth e.1] at e
  unfold State.stagedFrame
  simp only [h6, Nat.not_lt.2 hl, Nat.not_lt.2 hroom, if_false, answer]
  exact ⟨_, _, rfl⟩

/-- A staged frame is answered with status 0; its bytes stand in the node's area. -/
theorem handle_staged_kept (h : s.takes opStaged r) (ho : s.row? (reqRef r) = some o) (hauth : o.access = 6 → s.authPasses opStaged r = true)
    (hl : r.offset.toNat + r.data.length ≤ o.size) (hroom : r.offset.toNat + r.data.length ≤ stagingRoom (reqRef r)) :
    ∃ u m, s.received.handle opStaged r fw = (u, 0, [], false)
      ∧ (∀ ar, ar ∉ [Area.flash, .objects, .nodes] → view ar u = view ar s.received)
      ∧ u.nodes = ((s.admitted opStaged r o).modNode r.src
          (fun x => { x with staging := some (reqRef r, stageBytes m r.offset.toNat r.data), stagedAt := s.ns })).nodes := by
  have hns : (s.received.frameArrives opStaged r).ns = s.ns :=
    (view_frameArrives (ar := .time) (by decide) _ _ _).trans (view_received (by decide) s)
  obtain ⟨m, fresh, hf⟩ := stagedFrame_kept (s := s.received.frameArrives opStaged r)
    (fun e => (authPasses_frameArrives s opStaged r).trans (hauth e)) hl hroom
  rw [hns] at hf
  refine ⟨_, m, (handle_staged h.2 (row?_received ho)).trans hf, fun ar har => ?_, ?_⟩
  · simp only [List.mem_cons, List.not_mem_nil, not_or, or_false] at har
    simp [har, view_ite, view_stageImage, view_modNode, view_authTaken, view_frameArrives]
  · split
    · exact view_stageImage (ar := .nodes) (by decide) _ _ _ _
    · rfl

/-! ### COMMIT (14 R340) -/

theorem handle_commit_plain (h : s.takes opCommit r) (ho : s.row? (reqRef r) = some o) (hp : plainObject o (reqRef r))
    (ha : o.access ∉ [1, 2, 5]) (hauth : o.access = 6 → s.authPasses opCommit r = true) (hl : r.offset.toNat ≤ o.size) {m : SMap Nat}
    (hm : s.stagedArea r.src (reqRef r) r.offset.toNat = some m)
    (hv : s.reservedValue o (reqRef r) (leNat (keptData o (reqRef r) (stagedValue m r.offset.toNat o.size))) = false) :
    s.received.handle opCommit r fw = (((s.admitted opCommit r o).placed o (reqRef r)
      (leNat (keptData o (reqRef r) (stagedValue m r.offset.toNat o.size)))).modNode r.src (fun x => { x with staging := none }),
      0, [], false) := by
  have h5 : o.access ≠ 5 := fun e => ha (by rw [e]; decide)
  have hres : (s.admitted opCommit r o).reservedValue o (reqRef r)
      (leNat (keptData o (reqRef r) (stagedValue m r.offset.toNat o.size))) = false :=
    (reservedValue_congr (view_admitted s opCommit r o (by decide)) o _ _).trans hv
  have harea : (s.received.frameArrives opCommit r).stagedArea r.src (reqRef r) r.offset.toNat = some m := by
    obtain ⟨a, b, c, hn⟩ := node_frameArrives s.received opCommit r
    rw [node_received] at hn
    rw [← hm]
    refine stagedArea_congr _ _ ?_ (by rw [hn]) (by rw [hn])
    rw [view_frameArrives (by decide), view_received (by decide)]
  have hname : reqRef r ≠ 0x600105 := by
    obtain ⟨hc, -⟩ := hp
    intro e
    rw [e] at hc
    exact absurd hc (by decide)
  have hw := writeValue_plain (fw := fw) (open_ := s.received.unlocked r.src) (d := stagedValue m r.offset.toNat o.size) hp ha
    (fun e => (authPasses_frameArrives s opCommit r).trans (hauth e))
  change _ = answer ((s.admitted opCommit r o).valueChecked opCommit r.src o (reqRef r) _ fw).1
    ((s.admitted opCommit r o).valueChecked opCommit r.src o (reqRef r) _ fw).2 at hw
  rw [valueChecked_plain hp h5 _ hres] at hw
  rw [handle_commit h.2 (row?_received ho)]
  unfold State.commitFrame
  simp only [Nat.not_lt.2 hl, harea, hname, hw, if_false, answer, true_or, if_true]

end

end Sys2Proof.Machine
end

section
/-! The dictionary's operations on an object, clause by clause (14 R336 to R346). -/

namespace Sys2Proof.Machine

open Sys2Proof

section
variable {s : State} {r : Req} {o : ObjRow}

theorem read_answers (h : s.takes opRead r) (ho : s.row? (reqRef r) = some o) (ha : o.access ≠ 4) (hs : o.size ≤ 1024) : ∃ t,
    exec (.read r) s = .next t ∧ Served s t opRead r 0 (s.received.readBytes r.src (reqRef r) 0 o.size) ∧ OnlyObjs servedObjs s t :=
  ⟨_, rfl, read_served h.1 (handle_read h.2 (row?_received ho) ha hs)⟩

theorem blockRead_object_answers (h : s.takes opBlockRead r) (hsub : r.sub ≠ 0) (ho : s.row? (reqRef r) = some o) (ha : o.access ≠ 4)
    (hl : r.offset.toNat ≤ o.size) : ∃ t, exec (.blockRead r) s = .next t
      ∧ Served s t opBlockRead r 0 (s.received.readBytes r.src (reqRef r) r.offset.toNat r.len.toNat) ∧ OnlyObjs servedObjs s t :=
  ⟨_, rfl, read_served h.1 (handle_blockRead_object h.2 hsub (row?_received ho) ha hl)⟩

theorem blockRead_index_answers (h : s.takes opBlockRead r) (hsub : r.sub = 0) (hi : s.hasIndex r.index.toNat = true)
    (hl : r.offset.toNat ≤ s.indexSize r.index.toNat) : ∃ t, exec (.blockRead r) s = .next t
      ∧ Served s t opBlockRead r 0 (s.received.readIndex r.src r.index.toNat r.offset.toNat r.len.toNat) ∧ OnlyObjs servedObjs s t := by
  have hf : view .flash s.received = view .flash s := view_received (by decide) s
  exact ⟨_, rfl, read_served h.1 (handle_blockRead_index h.2 hsub ((hasIndex_congr hf _).trans hi) ((indexSize_congr hf _).symm ▸ hl))⟩

theorem write_sets (h : s.takes opWrite r) (ho : s.row? (reqRef r) = some o) (hp : plainObject o (reqRef r))
    (ha : o.access ∉ [1, 2, 5]) (hauth : o.access = 6 → s.authPasses opWrite r = true) (hl : r.data.length = o.size) (hs : o.size ≤ 1024)
    (hv : s.reservedValue o (reqRef r) (leNat (keptData o (reqRef r) r.data)) = false) : ∃ t, exec (.write r) s = .next t
      ∧ Served s t opWrite r 0 [] ∧ t.obj (reqRef r) = leNat (keptData o (reqRef r) r.data) ∧ OnlyObjs (reqRef r :: servedObjs) s t
      ∧ t.inForce = s.inForce
      ∧ t.buffered = (if o.wclass = 2 then s.buffered ++ [(reqRef r, leNat (keptData o (reqRef r) r.data))] else s.buffered)
      ∧ (o.persist = 2 → SMap.get (objDefault (reqRef r)) t.flash.settings (reqRef r) = leNat (keptData o (reqRef r) r.data)) := by
  have hh := handle_write_plain (fw := noVerdict) h ho hp ha hauth hl hs hv
  have h2 : o.access ≠ 2 := fun e => ha (by rw [e]; decide)
  have hn : OnlyNodes [r.src.val] s ((s.admitted opWrite r o).placed o (reqRef r) (leNat (keptData o (reqRef r) r.data))) :=
    onlyNodes_trans (onlyNodes_admitted s opWrite r o) (onlyNodes_of_view (view_placed _ _ _ _ (by decide)))
  obtain ⟨hserved, hobj, honly⟩ := placed_served h.1 ho h2 (leNat_keptData_lt o _ hl) hh hn (fun _ _ => rfl)
  have hflash : (s.serve opWrite r noVerdict).flash = _ := view_serve_handled (ar := .flash) h.1 hh (by decide)
  have hbuf : (s.serve opWrite r noVerdict).buffered = _ := view_serve_handled (ar := .buffered) h.1 hh (by decide)
  have hbuf0 : (s.admitted opWrite r o).buffered = s.buffered := view_admitted (ar := .buffered) s opWrite r o (by decide)
  refine ⟨_, rfl, hserved, hobj, honly, ?_, ?_, fun hst => ?_⟩
  · exact (view_serve_handled (ar := .inForce) h.1 hh (by decide)).trans
      ((view_placed _ _ _ _ (by decide)).trans (view_admitted (ar := .inForce) s opWrite r o (by decide)))
  · rw [hbuf]
    exact (buffered_placed _ o _ _).trans (by rw [hbuf0])
  · rw [hflash]
    exact settings_placed _ o _ _ hst

theorem write_readOnly_refused (h : s.takes opWrite r) (ho : s.row? (reqRef r) = some o) (ha : o.access = 1 ∨ o.access = 2) : ∃ t,
    exec (.write r) s = .next t ∧ Served s t opWrite r 3 [] ∧ OnlyObjs (0x120205 :: servedObjs) s t ∧ t.inForce = s.inForce
      ∧ t.flash = s.flash :=
  ⟨_, rfl, refused_served h.1 (handle_write_readOnly h ho ha)⟩

theorem write_reserved_refused (h : s.takes opWrite r) (ho : s.row? (reqRef r) = some o) (hp : plainObject o (reqRef r))
    (ha : o.access ∉ [1, 2, 5, 6]) (hl : r.data.length = o.size) (hs : o.size ≤ 1024)
    (hv : s.reservedValue o (reqRef r) (leNat (keptData o (reqRef r) r.data)) = true) : ∃ t,
    exec (.write r) s = .next t ∧ Served s t opWrite r 6 [] ∧ OnlyObjs (0x120205 :: servedObjs) s t ∧ t.inForce = s.inForce
      ∧ t.flash = s.flash :=
  ⟨_, rfl, refused_served h.1 (handle_write_reserved h ho hp ha hl hs hv)⟩

theorem stagedWrite_keeps (h : s.takes opStaged r) (ho : s.row? (reqRef r) = some o) (hauth : o.access = 6 → s.authPasses opStaged r = true)
    (hl : r.offset.toNat + r.data.length ≤ o.size) (hroom : r.offset.toNat + r.data.length ≤ stagingRoom (reqRef r)) : ∃ t,
    exec (.stagedWrite r) s = .next t ∧ Served s t opStaged r 0 []
      ∧ (∃ m, (t.node r.src).staging = some (reqRef r, m) ∧ (t.node r.src).stagedAt = s.ns
        ∧ ∀ i (h : i < r.data.length), SMap.get 0 m (r.offset.toNat + i) = (r.data[i]).toNat + 1) := by
  obtain ⟨u, m, hh, hv, hnodes⟩ := handle_staged_kept (fw := noVerdict) h ho hauth hl hroom
  have hnode : ∀ n, u.node n = ((s.admitted opStaged r o).modNode r.src
      (fun x => { x with staging := some (reqRef r, stageBytes m r.offset.toNat r.data), stagedAt := s.ns })).node n := fun n => by
    simp only [State.node, hnodes]
  obtain ⟨hp, hq⟩ := wayBack_open (u := u) h.1 (fun ar har => hv ar (by revert har; revert ar; decide))
  have hn : OnlyNodes [r.src.val] s u := fun n hj =>
    (hnode n).trans (onlyNodes_trans (onlyNodes_admitted s opStaged r o) (onlyNodes_modNode _ _ _) n hj)
  refine ⟨_, rfl, serve_served h.1 hh hn hp hq, stageBytes m r.offset.toNat r.data, ?_, ?_, get_stageBytes m r.offset.toNat r.data⟩
  · rw [node_serve_handled h.1 hh, hnode, node_modNode_same]
  · rw [node_serve_handled h.1 hh, hnode, node_modNode_same]

theorem commit_sets {v : FwVerdict} {m : SMap Nat} (h : s.takes opCommit r) (ho : s.row? (reqRef r) = some o)
    (hp : plainObject o (reqRef r)) (ha : o.access ∉ [1, 2, 5]) (hauth : o.access = 6 → s.authPasses opCommit r = true)
    (hl : r.offset.toNat ≤ o.size) (hm : s.stagedArea r.src (reqRef r) r.offset.toNat = some m)
    (hv : s.reservedValue o (reqRef r) (leNat (keptData o (reqRef r) (stagedValue m r.offset.toNat o.size))) = false) : ∃ t,
    exec (.commit r v) s = .next t ∧ Served s t opCommit r 0 []
      ∧ t.obj (reqRef r) = leNat (keptData o (reqRef r) (stagedValue m r.offset.toNat o.size)) ∧ OnlyObjs (reqRef r :: servedObjs) s t
      ∧ (t.node r.src).staging = none := by
  have hh := handle_commit_plain (fw := v) h ho hp ha hauth hl hm hv
  have h2 : o.access ≠ 2 := fun e => ha (by rw [e]; decide)
  have hn : OnlyNodes [r.src.val] s (((s.admitted opCommit r o).placed o (reqRef r)
      (leNat (keptData o (reqRef r) (stagedValue m r.offset.toNat o.size)))).modNode r.src (fun x => { x with staging := none })) :=
    onlyNodes_trans (onlyNodes_trans (onlyNodes_admitted s opCommit r o) (onlyNodes_of_view (view_placed _ _ _ _ (by decide))))
      (onlyNodes_modNode _ _ _)
  obtain ⟨hserved, hobj, honly⟩ := placed_served h.1 ho h2 (leNat_keptData_lt o _ (length_stagedValue m hl)) hh hn
    (fun ar har => view_modNode (by revert har; revert ar; decide) _ _ _)
  refine ⟨_, rfl, hserved, hobj, honly, ?_⟩
  rw [node_serve_handled h.1 hh, node_modNode_same]

end

/-- The moment of a timed event has come. -/
theorem atLeast_reaches (s : State) {t : Nat} (h : t < 2 ^ 64) : t ≤ (s.atLeast t).ns.toNat := by
  unfold State.atLeast
  split
  · rw [BitVec.toNat_ofNat, Nat.mod_eq_of_lt h]
  · exact Nat.not_lt.1 ‹_›

theorem node_atLeast (s : State) (t n : Nat) : (s.atLeast t).node n = s.node n := by
  unfold State.atLeast
  split <;> rfl

/-- What a node's timed event at time `t` does to its entry, and that it changes nothing else. -/
theorem modNode_atLeast (s : State) (n : Nat) {t : Nat} (h : t < 2 ^ 64) (f : Node → Node) :
    ((s.atLeast t).modNode n f).node n = f (s.node n) ∧ OnlyNodes [n] s ((s.atLeast t).modNode n f)
      ∧ t ≤ ((s.atLeast t).modNode n f).ns.toNat ∧ Only [.nodes, .time] s ((s.atLeast t).modNode n f) := by
  refine ⟨by rw [node_modNode_same, node_atLeast], ?_, atLeast_reaches s h, fun ar har => ?_⟩
  · exact onlyNodes_trans (fun j _ => node_atLeast s t j) (onlyNodes_modNode _ _ _)
  · simp only [List.mem_cons, List.not_mem_nil, not_or, or_false] at har
    obtain ⟨hn, ht⟩ := har
    rw [view_modNode (by simpa using hn), view_atLeast (by simpa using ht)]

theorem stagingExpiry_discards (n : Fin 8) (s : State) (h : (s.node n).staging.isSome = true)
    (ht : (s.node n).stagedAt.toNat + 10000000000 < 2 ^ 64) : ∃ t, exec (.stagingExpiry n) s = .next t
      ∧ t.node n = { s.node n with staging := none } ∧ OnlyNodes [n.val] s t
      ∧ (s.node n).stagedAt.toNat + 10000000000 ≤ t.ns.toNat ∧ Only [.nodes, .time] s t := by
  have he : exec (.stagingExpiry n) s = execStagingExpiry n s := rfl
  rw [he]
  unfold execStagingExpiry
  rw [if_pos h]
  exact ⟨_, rfl, modNode_atLeast s n ht _⟩

theorem dropped_counted {s : State} {r : Req} (hp : s.portSpeaks = true) (hport : r.port = dictPort)
    (h : r.reservedOp.isSome = true ∨ r.resp = true) : ∃ t,
    exec (.read r) s = .next t ∧ Counted s t 0x110007 1 ∧ OnlyObjs [0x110007] s t ∧ Only [.objects] s t := by
  have hd : reqDropped r = true := by
    unfold reqDropped
    rcases h with h | h <;> simp [h]
  have hs : s.serve opRead r noVerdict = s.bump 0x110007 1 := by
    unfold State.serve
    simp [hp, hport, hd]
  refine ⟨s.bump 0x110007 1, congrArg Host.Outcome.next hs, obj_bump_same s _ _, fun ref hr => ?_, fun ar har => view_bump har s _ _⟩
  exact obj_bump_other s (fun e => hr (List.mem_singleton.2 e)) 1

/-- Settles O18: every request that reaches the stewards goes through `serve_reached`, and each clause says what `handle` makes of it. -/
theorem dictionaryReadsAndWrites : Obligations.DictionaryReadsAndWrites :=
  ⟨fun _ _ _ => read_answers, fun _ _ _ => blockRead_object_answers, fun _ _ => blockRead_index_answers, fun _ _ _ => write_sets,
   fun _ _ _ => write_readOnly_refused, fun _ _ _ => write_reserved_refused, fun _ _ _ => stagedWrite_keeps,
   fun _ _ _ _ _ => commit_sets, stagingExpiry_discards, fun _ _ => dropped_counted⟩

end Sys2Proof.Machine
end

section
/-! SUPPORT. A scale fill whose check of windows finds a complete OWNER window with a poisoned close entry (09 R212; 11 R262, R274): the hub
consumes the poison, and the attempt is aborted. -/

namespace Sys2Proof.Machine

open Sys2Proof

/-! ### Operations that leave the mark of the scale fill -/

theorem part_of_view {s t : State} (h : view .parts t = view .parts s) (j : Nat) : t.part j = s.part j := by
  have hp : t.parts = s.parts := h
  unfold State.part
  rw [hp]

section
variable (s : State) (p : Nat)

theorem filled_sendOn (qpn : Nat) (f : TxFrame) : ((s.sendOn p qpn f).part p).filled = (s.part p).filled := by
  unfold State.sendOn
  rw [part_of_view (view_sendFrame (by decide) _ _ _), part_setPart_same]
  rfl

theorem filled_sendMsg (qpn : Nat) (m : TxMsg) (again : Bool) : ((s.sendMsg p qpn m again).part p).filled = (s.part p).filled := by
  unfold State.sendMsg
  split
  · unfold State.sendLater
    rw [part_modPart_same]
    split <;> rfl
  · have hpace : (s.paceWait p qpn m).part p = s.part p := part_of_view (view_paceWait (by decide) s p qpn m) p
    dsimp only
    split
    · rw [part_bump, filled_sendOn, hpace]
    · rw [filled_sendOn, hpace]

theorem filled_post (qpn rkey va kind att : Nat) (b : Bytes) : ((s.post p qpn rkey va kind att b).part p).filled = (s.part p).filled := by
  unfold State.post
  dsimp only
  rw [filled_sendMsg, part_setCloop, part_setPart_same]
  rfl

theorem filled_postControl (h : BitVec 256) (b : Bytes) : ((s.postControl p h b).part p).filled = (s.part p).filled := by
  have hcross : ∀ l, (s.crossQueues l).part p = s.part p := fun l => part_of_view (view_crossQueues (by decide) s l) p
  unfold State.postControl
  split
  · unfold State.across
    split
    · rfl
    · split
      · rw [filled_post, hcross]
      · rw [hcross]
  · rfl

theorem filled_haltJob (cause detail : Nat) : ((s.haltJob p cause detail).part p).filled = (s.part p).filled := by
  have hwait : ((s.endWait p).endRoll p).part p = s.part p := by
    unfold State.endRoll
    split <;> rfl
  unfold State.haltJob State.report
  dsimp only
  rw [part_modPart_same]
  dsimp only
  rw [filled_postControl, part_of_view (view_raisePart (by decide) _ _ _ _ _ _ _ _), part_modPart_same]
  dsimp only
  unfold State.setExState
  rw [part_setObj, part_setObj, part_setObj, hwait]

/-- An ABORT ends the attempt, whether the job goes on with the next one or halts (11 R274). -/
theorem filled_handleAbort (cause sender : Nat) (own : Bool) : ((s.handleAbort p cause sender own).part p).filled = false := by
  have hdrop : ∀ t : State, ((t.dropAttempt p).part p).filled = false := fun t => by
    unfold State.dropAttempt
    dsimp only
    rw [part_modPart_same]
  unfold State.handleAbort
  dsimp only
  split
  · rw [filled_haltJob, hdrop]
  · split
    · rw [filled_haltJob, hdrop]
    · unfold State.setExState
      rw [part_setObj, part_setObj, hdrop]

theorem filled_faultAndHalt (h : s.uncommitted p = true) (cause hc hd : Nat) : ((s.faultAndHalt p cause hc hd).part p).filled = false := by
  unfold State.faultAndHalt State.abortStep
  rw [if_pos h]
  dsimp only
  split
  · exact filled_handleAbort _ p _ _ _
  · rw [filled_haltJob]
    exact filled_handleAbort _ p _ _ _

/-- Poison consumed in a step that is not committed aborts it (09 R212; 11 R278). -/
theorem filled_consumePoison (hlt : p < 4) (hj : s.jobLive p = true) (hu : s.uncommitted p = true) (hx : (s.part p).poisoned = false)
    (q : Option Nat) (c u op k g : Nat) : ((s.consumePoison p q c u op k g).part p).filled = false := by
  have raised : ∀ (x : Raise), x.sev = 3 → ((s.raise x).part p).poisoned = false ∧ (s.raise x).jobLive p = true
      ∧ (s.raise x).exState p = s.exState p := by
    intro x hsev
    have hobj : ∀ r, r ∉ raisedObjs → (s.raise x).obj r = s.obj r := fun r hr => obj_raise s hr (by omega)
    refine ⟨?_, ?_, ?_⟩
    · rw [part_of_view (view_raise (by decide) s x), hx]
    · unfold State.jobLive State.jobState at hj ⊢
      rw [hobj (0x907001 + 256 * p) (by simp only [raisedObjs, List.mem_cons, List.not_mem_nil, or_false]; omega)]
      exact hj
    · unfold State.exState
      exact hobj (0x521003 + 256 * p) (by simp only [raisedObjs, List.mem_cons, List.not_mem_nil, or_false]; omega)
  obtain ⟨hp, hl, he⟩ := raised { code := 0x0305, sev := 3, uclass := c, unit := u, part := p, op := op, detail := k % 32 + g % 2 ^ 32 * 2 ^ 8,
                                  quad := q } rfl
  unfold State.consumePoison
  simp only [hp, hl, Bool.not_true, Bool.or_self, Bool.false_eq_true, if_false]
  refine filled_faultAndHalt _ p ?_ _ _ _
  have hne : 0x521003 + 256 * p ≠ 0x400007 := by omega
  unfold State.exState at he
  unfold State.uncommitted State.exState at hu ⊢
  rw [obj_modPart, obj_bump_other _ hne, he]
  exact hu

end

/-! ### The check of windows -/

section
variable {s : State} {p : Nat} {w : WindowEnt}

theorem filled_checkWindows (hlt : p < 4) (hown : (s.part p).ownWindows = [w]) (hrole : w.role = 0) (hdone : (s.part p).windowsDone = [])
    (hfull : s.windowFull p w = true) (hbad : s.ledgerPoison p w (winChunks w) ≠ 0) (hj : s.jobLive p = true)
    (hu : s.uncommitted p = true) (hx : (s.part p).poisoned = false) : ((s.checkWindows p).part p).filled = false := by
  have hc : s.checkWindows p = s.ownerComplete p w := by
    unfold State.checkWindows
    simp [hown, hrole, hdone, hfull]
  rw [hc]
  unfold State.ownerComplete
  dsimp only
  rw [if_pos hbad]
  exact filled_consumePoison s p hlt hj hu hx _ _ _ _ _ _

/-- An attempt whose check of windows took the mark of the fill away does not have it after an ABORT that came early either. -/
theorem filled_beginAttempt (h : (((s.fillStep p).checkWindows p).part p).filled = false) : ((s.beginAttempt p).part p).filled = false := by
  unfold State.beginAttempt
  dsimp only
  split
  · exact h
  · exact filled_handleAbort _ p _ _ _

end

/-! ### A fill of a job without slots -/

section
variable {s : State} {p : Nat}

theorem countRow_none (s : State) (p step t : Nat) : s.countRow p step t 0 = s := by
  unfold State.countRow State.countRead
  simp [piecesOf, pieces]

theorem fillRow_noSlots (h : (s.part p).slotCount = 0) (step : Nat) : s.fillRow p step = s.bump (0x904003 + 256 * p) 0 := by
  unfold State.fillRow State.writeTagged State.writeBy
  simp [h, countRow_none, piecesOf, pieces]

/-- The row has no entry and no loom is listed: the fill counts, sets its duration and notes that it is done. -/
theorem fillStep_noSlots (h : (s.part p).slotCount = 0) (hl : s.looms = []) : ∃ c n, s.fillStep p =
    { (s.bump (0x904003 + 256 * p) 0).setObj (0x904006 + 256 * p) c with fresh := n }.modPart p
      (fun x => { x with filled := true, filledNs := s.ns }) := by
  have hreg : (s.bump (0x904003 + 256 * p) 0).fillRegisters p (s.stepNo p) = s.bump (0x904003 + 256 * p) 0 := by
    unfold State.fillRegisters State.modLooms
    rw [part_bump, h, countRow_none]
    have hb : (s.bump (0x904003 + 256 * p) 0).looms = [] := hl
    rw [hb]
    rfl
  unfold State.fillStep
  dsimp only
  rw [fillRow_noSlots h, hreg]
  exact ⟨_, _, rfl⟩

end

/-! ### What stands in memory before and after such a fill -/

/-- Two states with the same memory, layout, step and attempt, in which the partition differs at most in the mark of its fill. -/
structure SameBut (s t : State) (p : Nat) : Prop where
  hbm     : t.hbm = s.hbm
  poison  : t.hbmPoison = s.hbmPoison
  layout  : t.layout = s.layout
  stepNo  : t.stepNo p = s.stepNo p
  attempt : t.attempt p = s.attempt p
  part    : t.part p = { s.part p with filled := (t.part p).filled, filledNs := (t.part p).filledNs }

section
variable {s t : State} {p : Nat} (h : SameBut s t p)
include h

theorem regionWord_sameBut (i off : Nat) : t.regionWord p i off = s.regionWord p i off := by
  have he : (t.part p).regionEntry i = (s.part p).regionEntry i := by rw [h.part]; rfl
  have hk : (t.part p).ikey = (s.part p).ikey := by rw [h.part]
  unfold State.regionWord State.spanChans State.spanStacks State.stacksOf State.partOfStack State.partOfQuad
  rw [he, hk, h.layout]

theorem ledger_sameBut (w : WindowEnt) (c : Nat) : t.ledger p w c = s.ledger p w c := by
  unfold State.ledger State.readNat State.readRegion
  simp only [regionWord_sameBut h, h.hbm]

theorem chunkComplete_sameBut (w : WindowEnt) (c : Nat) : t.chunkComplete p w c = s.chunkComplete p w c := by
  have hseed : (t.part p).seed = (s.part p).seed := by rw [h.part]; rfl
  unfold State.chunkComplete State.ledgerNow State.ledgerOfAttempt
  rw [ledger_sameBut h, h.stepNo, h.attempt, hseed]

theorem windowFull_sameBut (w : WindowEnt) : t.windowFull p w = s.windowFull p w := by
  have hd : (t.part p).donesIn = (s.part p).donesIn := by rw [h.part]
  unfold State.windowFull
  simp only [chunkComplete_sameBut h, hd]

theorem ledgerPoison_sameBut (w : WindowEnt) (c : Nat) : t.ledgerPoison p w c = s.ledgerPoison p w c := by
  unfold State.ledgerPoison State.poisonIn State.poisoned
  simp only [regionWord_sameBut h, h.poison]

end

/-- A fill of a job without slots changes objects of the counters only, and the mark of the fill. -/
theorem sameBut_fillStep {s : State} {p : Nat} (hlt : p < 4) (h : (s.part p).slotCount = 0) (hl : s.looms = []) :
    SameBut s (s.fillStep p) p ∧ (s.fillStep p).jobState p = s.jobState p ∧ (s.fillStep p).exState p = s.exState p := by
  obtain ⟨c, n, hf⟩ := fillStep_noSlots h hl
  have hobj : ∀ r, r ≠ 0x904003 + 256 * p → r ≠ 0x904006 + 256 * p → (s.fillStep p).obj r = s.obj r := fun r h3 h6 => by
    rw [hf, obj_modPart]
    exact (obj_setObj_other _ h6 c).trans (obj_bump_other _ h3 0)
  have hpart : (s.fillStep p).part p = { s.part p with filled := true, filledNs := s.ns } := by
    rw [hf, part_modPart_same]
    rfl
  refine ⟨⟨?_, ?_, ?_, ?_, ?_, ?_⟩, ?_, ?_⟩
  · rw [hf]
    rfl
  · rw [hf]
    rfl
  · exact hobj 0x90000A (by omega) (by omega)
  · exact hobj (0x521001 + 256 * p) (by omega) (by omega)
  · exact hobj (0x521002 + 256 * p) (by omega) (by omega)
  · rw [hpart]
  · exact hobj (0x907001 + 256 * p) (by omega) (by omega)
  · exact hobj (0x521003 + 256 * p) (by omega) (by omega)

/-! ### The attempt that does not keep its fill -/

/-- What a state before its scale fill has where the window `w` is the only one and is complete already, with a poisoned close entry. -/
structure ClosedByPoison (s : State) (p : Nat) (w : WindowEnt) : Prop where
  noSlots  : (s.part p).slotCount = 0
  noLooms  : s.looms = []
  windows  : (s.part p).ownWindows = [w]
  owner    : w.role = 0
  notDone  : (s.part p).windowsDone = []
  clean    : (s.part p).poisoned = false
  full     : s.windowFull p w = true
  poison   : s.ledgerPoison p w (winChunks w) ≠ 0
  computes : s.jobState p = 5
  aborts   : s.exState p = 4

theorem filled_checkWindows_of_closedByPoison {s t : State} {p : Nat} {w : WindowEnt} (hlt : p < 4) (h : ClosedByPoison s p w)
    (hsame : SameBut s t p) (hjob : t.jobState p = s.jobState p) (hex : t.exState p = s.exState p) :
    ((t.checkWindows p).part p).filled = false := by
  have hpart := hsame.part
  refine filled_checkWindows (w := w) hlt ?_ h.owner ?_ ?_ ?_ ?_ ?_ ?_
  · rw [hpart]
    exact h.windows
  · rw [hpart]
    exact h.notDone
  · rw [windowFull_sameBut hsame, h.full]
  · rw [ledgerPoison_sameBut hsame]
    exact h.poison
  · simp [State.jobLive, hjob, h.computes]
  · simp [State.uncommitted, hex, h.aborts]
  · rw [hpart]
    exact h.clean

theorem filled_beginAttempt_of_closedByPoison {s : State} {p : Nat} {w : WindowEnt} (hlt : p < 4) (h : ClosedByPoison s p w) :
    ((s.beginAttempt p).part p).filled = false :=
  have ⟨hsame, hjob, hex⟩ := sameBut_fillStep hlt h.noSlots h.noLooms
  filled_beginAttempt (filled_checkWindows_of_closedByPoison hlt h hsame hjob hex)

/-- The second branch of `execScaleFill`: an attempt after an ABORT. -/
theorem exec_scaleFill_again {s : State} {p : Fin 4} (hrun : s.anyStopped p = false) (hj : s.jobState p = 5) (hx : s.exState p = 4)
    (hf : (s.part p).filled = false) : exec (.scaleFill p) s = .next (s.beginAttempt p) := by
  have hb : s.mayBegin p = false := by simp [State.mayBegin, hx]
  change execScaleFill p s = _
  unfold execScaleFill
  simp [hrun, hb, hj, hx, hf]

/-! ### A state of that kind -/

/-- Window 5 of rank 0, an OWNER whose one contributor is its own rank: one chunk, its ledger at the start of region 1. -/
def closeWindow : WindowEnt :=
  { rank := 0, window := 5, role := 0, etype := 0, layout := true, results := false, region := 0, region2 := 255, ledger := 1
    base := 0, count := 1, slot := 0, n := 1, peer := 0, pwindow := 5, members := [0] }

/-- A job of one rank with two regions and the window, whose attempt an ABORT has ended. -/
def closePart : Part :=
  { Part.init with
    manifest := leBytes 256 (2 ^ 48 + 2 ^ 80 + 2 * 2 ^ 88 + 3 * 2 ^ 104) ++ leBytes 96 0 ++ leBytes 64 0
      ++ leBytes 64 (6 + 15 * 2 ^ 4 + 2 ^ 64) ++ leBytes 64 (7 + 15 * 2 ^ 4 + 2 ^ 32 + 2 ^ 64)
    image := some { looms := 2000, profile := 0xA1, profileDigest := 0, slots := [], windows := [closeWindow], xwins := [], sends := []
                    updBase := 0, updLast := 0, updTable := [], updCmds := [], twPeriod := 0, twBudget := 0, loomImgs := [], hubDest := [] }
    aborted := true }

/-- Partition 0 computes, at attempt 1 of step 1, and waits for its scale fill after an ABORT. -/
def beforeFill : State :=
  { (((State.reset.setObj 0x907001 5).setObj 0x521001 1).setObj 0x521002 1).setObj 0x521003 4 with parts := [(0, closePart)] }

/-- The entry of a chunk with every token in it. -/
def closeEntry : Ledger :=
  { step := 1, attempt := 1, x := 0, count := 1, valid := true, tokens := expectedTokens 0 closeWindow, nonfin := 0, max := 0 }

/-- The ledger holds the chunk's entry and the window's, and its word of memory is poisoned. -/
def poisonedClose : State :=
  { beforeFill with
    hbm := putBytes [] (hbmKey (beforeFill.regionWord 0 1 0).1 (64 * (beforeFill.regionWord 0 1 0).2))
      (leBytes 32 (ledgerBits closeEntry) ++ leBytes 32 (ledgerBits closeEntry))
    hbmPoison := [(wordKey (beforeFill.regionWord 0 1 0).1 (beforeFill.regionWord 0 1 0).2, true)] }

theorem poisonedClose_closedByPoison : ClosedByPoison poisonedClose 0 closeWindow where
  noSlots := rfl
  noLooms := rfl
  windows := by decide +kernel
  owner := rfl
  notDone := rfl
  clean := rfl
  full := by decide +kernel
  poison := by decide +kernel
  computes := by decide +kernel
  aborts := by decide +kernel

/-- Refutes O52: the clause of the fill after an abort excludes windows with results only. In `poisonedClose` an OWNER window without results
is complete before the fill, by chunks that came early, and the entry that closes it is poisoned; the check of windows that ends the fill
consumes the poison and aborts the attempt (09 R212; 11 R274), and the mark of the fill is gone. -/
theorem not_stepsBegin : ¬ Obligations.StepsBegin := by
  intro h
  obtain ⟨-, -, hagain, -⟩ := h
  have hc := poisonedClose_closedByPoison
  have hrun : poisonedClose.anyStopped 0 = false := by decide +kernel
  have hres : ∀ w ∈ (poisonedClose.part 0).ownWindows, w.results = false := by
    rw [hc.windows]
    simp [closeWindow]
  obtain ⟨t, ht, -, -, -, hfilled, -⟩ := hagain 0 poisonedClose hrun hc.computes hc.aborts rfl rfl hres
  have hnext : exec (.scaleFill 0) poisonedClose = .next (poisonedClose.beginAttempt 0) :=
    exec_scaleFill_again hrun hc.computes hc.aborts rfl
  have hlost : ((poisonedClose.beginAttempt 0).part 0).filled = false := filled_beginAttempt_of_closedByPoison (by decide) hc
  rw [Host.Outcome.next.inj (ht.symm.trans hnext)] at hfilled
  exact Bool.false_ne_true (hlost.symm.trans hfilled)

end Sys2Proof.Machine
end

section
/-! SUPPORT. Objects that containment changes: the frames, packets, markers and reports by which the hub tells of a fault count only items that queues
drop, and a fault that is charged to a partition's step changes objects of its job and of the error log. -/

namespace Sys2Proof.Machine

open Sys2Proof

/-! ### Objects of a state whose area of objects is another's -/

theorem obj_of_view {s t : State} (h : view .objects t = view .objects s) (r : Nat) : t.obj r = s.obj r := by
  have ho : t.objs = s.objs := h
  unfold State.obj
  rw [ho]

theorem obj_foldl {α : Type} {f : State → α → State} {r : Nat} (hf : ∀ t a, (f t a).obj r = t.obj r) (l : List α) (s : State) :
    (l.foldl f s).obj r = s.obj r := by
  induction l generalizing s with
  | nil => rfl
  | cons a l ih => rw [List.foldl_cons, ih, hf]

/-! ### Frames and messages (10 R224 to R226; 11 R248) -/

/-- Counts of items that a queue drops under FLUSH, and that an observation queue loses (08 R192, R196). -/
abbrev droppedObjs : List Nat := [0x804004, 0x804006]

section
variable (s : State) {r : Nat} (h : r ∉ droppedObjs)
include h

theorem obj_observe (q rec : Nat) : (s.observe q rec).obj r = s.obj r := by
  simp only [List.mem_cons, List.not_mem_nil, or_false, not_or] at h
  obtain ⟨hlost, hflushed⟩ := h
  unfold State.observe
  dsimp only
  split
  · rw [obj_bump_other _ hflushed, obj_setDcq]
  · split
    · rfl
    · rw [obj_bump_other _ hlost, obj_setDcq]

theorem obj_traceUnit (q kind uclass unit quad d0 d1 : Nat) (time : Option (BitVec 64)) :
    (s.traceUnit q kind uclass unit quad d0 d1 time).obj r = s.obj r := by
  unfold State.traceUnit
  split
  · exact obj_observe s h q _
  · rfl

theorem obj_traceHub (link kind p d0 d1 : Nat) : (s.traceHub link kind p d0 d1).obj r = s.obj r := obj_traceUnit s h _ _ _ _ _ _ _ _

theorem obj_tracePackets (p kind link qpn : Nat) (psns : List Nat) (again : Bool) :
    (s.tracePackets p kind link qpn psns again).obj r = s.obj r := by
  unfold State.tracePackets
  refine obj_foldl (fun t psn => ?_) psns s
  split
  · exact obj_traceUnit t h _ _ _ _ _ _ _ _
  · rfl

theorem obj_traceSent (k : Nat) (f : TxFrame) : (s.traceSent k f).obj r = s.obj r := by
  unfold State.traceSent
  split
  · exact obj_tracePackets s h _ _ _ _ _ _
  · rfl

theorem obj_depart (k : Nat) (f : TxFrame) : (s.depart k f).obj r = s.obj r := by
  have hq : ∀ (t : State) (port n : Nat), (t.portOut port n).obj r = t.obj r := fun t port n =>
    obj_passQueue t (fun e => h (by simp [e])) _ n
  unfold State.depart
  dsimp only
  split
  · rw [obj_traceSent _ h, obj_emit, hq, obj_setLink]
  · rw [hq, obj_setLink]

theorem obj_sendFrame (k : Nat) (f : TxFrame) : (s.sendFrame k f).obj r = s.obj r := by
  unfold State.sendFrame
  split
  · rfl
  · split
    · exact obj_depart s h k f
    · rfl

theorem obj_sendOn (p qpn : Nat) (f : TxFrame) : (s.sendOn p qpn f).obj r = s.obj r := by
  unfold State.sendOn
  exact obj_sendFrame _ h _ f

/-- The first sending of a message is not counted with those sent again (11 R253). -/
theorem obj_sendMsg (p qpn : Nat) (m : TxMsg) : (s.sendMsg p qpn m false).obj r = s.obj r := by
  unfold State.sendMsg
  split
  · exact obj_of_view (view_sendLater (by decide) s p qpn m false) r
  · exact (obj_sendOn _ h p qpn _).trans (obj_of_view (view_paceWait (by decide) s p qpn m) r)

theorem obj_post (p qpn rkey va kind att : Nat) (b : Bytes) : (s.post p qpn rkey va kind att b).obj r = s.obj r := by
  unfold State.post
  exact obj_sendMsg _ h p qpn _

theorem obj_across (way : List Nat) (f : State → State) (hf : ∀ t : State, (f t).obj r = t.obj r) : (s.across way f).obj r = s.obj r := by
  have hc : (s.crossQueues way).obj r = s.obj r := obj_crossQueues s (fun e => h (by simp [e])) way
  unfold State.across
  split
  · rfl
  · split
    · rw [hf, hc]
    · exact hc

theorem obj_postControl (p : Nat) (header : BitVec 256) (b : Bytes) : (s.postControl p header b).obj r = s.obj r := by
  unfold State.postControl
  split
  · exact obj_across s h _ _ (fun t => obj_post t h _ _ _ _ _ _ _)
  · rfl

theorem obj_report (p : Nat) (b : Bytes) : (s.report p b).obj r = s.obj r := by
  unfold State.report
  dsimp only
  rw [obj_modPart]
  exact obj_postControl s h p _ b

theorem obj_sendMarker (p kind cause nonfin : Nat) : (s.sendMarker p kind cause nonfin).obj r = s.obj r := by
  unfold State.sendMarker
  exact obj_foldl (fun t m => (obj_traceHub _ h _ _ _ _ _).trans (obj_post t h _ _ _ _ _ _ _)) _ s

end

/-! ### Faults charged to a step, and the halt of a job (11 R273 to R278; 12 R296) -/

/-- Objects that a fault charged to a step of partition p can change: those of records and dropped items, and of its roll call, its exchange
and its job. -/
abbrev chargesObj (p r : Nat) : Prop := r ∈ raisedObjs ∨ r ∈ droppedObjs ∨ r / 256 ∈ [0x5150 + p, 0x5210 + p, 0x9070 + p]

section
variable (s : State) {p r : Nat} (h : ¬ chargesObj p r)
include h

theorem not_raised_of_chargesObj : r ∉ raisedObjs := fun e => h (.inl e)

theorem not_dropped_of_chargesObj : r ∉ droppedObjs := fun e => h (.inr (.inl e))

theorem not_job_of_chargesObj {i k : Nat} (hi : i ∈ [0x5150 + p, 0x5210 + p, 0x9070 + p]) (hk : k < 256) : r ≠ 256 * i + k := fun e =>
  h (.inr (.inr (by rw [e, show (256 * i + k) / 256 = i by omega]; exact hi)))

theorem obj_endRoll : (s.endRoll p).obj r = s.obj r := by
  have hr := not_job_of_chargesObj h (i := 0x5150 + p) (k := 2) (by simp) (by decide)
  unfold State.endRoll
  split
  · exact obj_setObj_other s (by omega) 3
  · rfl

theorem obj_endWait : (s.endWait p).obj r = s.obj r := by
  have hr := not_job_of_chargesObj h (i := 0x9070 + p) (k := 10) (by simp) (by decide)
  exact obj_bump_other s (by omega) _

theorem obj_haltJob (cause detail : Nat) : (s.haltJob p cause detail).obj r = s.obj r := by
  have hjob := not_job_of_chargesObj h (i := 0x9070 + p) (k := 1) (by simp) (by decide)
  have hcause := not_job_of_chargesObj h (i := 0x9070 + p) (k := 8) (by simp) (by decide)
  have hex := not_job_of_chargesObj h (i := 0x5210 + p) (k := 3) (by simp) (by decide)
  unfold State.haltJob State.setExState
  dsimp only
  rw [obj_report _ (not_dropped_of_chargesObj h), obj_raisePart _ (not_raised_of_chargesObj h) (by decide), obj_modPart,
    obj_setObj_other _ (by omega), obj_setObj_other _ (by omega), obj_setObj_other _ (by omega), obj_endRoll _ h, obj_endWait _ h]

theorem obj_dropAttempt : (s.dropAttempt p).obj r = s.obj r := by
  have hlooms : ∀ t : State, (t.modLooms p Loom.stopAttempt).obj r = t.obj r := fun t => obj_of_view (view_modLooms (by decide) t p _) r
  have hopen : ∀ (t : State) (a : Nat), (t.openContributions p a).obj r = t.obj r := fun t a =>
    obj_of_view (view_openContributions (by decide) t p a) r
  unfold State.dropAttempt
  dsimp only
  rw [obj_modPart, hopen]
  exact (hlooms _).trans (obj_endWait s h)

theorem obj_handleAbort (cause sender : Nat) (own : Bool) : (s.handleAbort p cause sender own).obj r = s.obj r := by
  have hobj : ∀ k < 256, r ≠ 256 * (0x5210 + p) + k := fun k hk => not_job_of_chargesObj h (by simp) hk
  have h2 := hobj 2 (by decide)
  have h3 := hobj 3 (by decide)
  have h4 := hobj 4 (by decide)
  have h5 := hobj 5 (by decide)
  have h6 := hobj 6 (by decide)
  unfold State.handleAbort
  dsimp only
  have hdrop : ∀ t : State, (((((t.bump (0x521004 + 256 * p) 1).setObj (0x521005 + 256 * p) cause).setObj (0x521006 + 256 * p) sender).raisePart
      0x0504 2 ucPart p p 2 (cause + sender % 2 ^ 16 * 2 ^ 8)).dropAttempt p).obj r = t.obj r := fun t => by
    rw [obj_dropAttempt _ h, obj_raisePart _ (not_raised_of_chargesObj h) (by decide), obj_setObj_other _ (by omega),
      obj_setObj_other _ (by omega), obj_bump_other _ (by omega)]
  split
  · rw [obj_haltJob _ h, hdrop]
  · split
    · rw [obj_haltJob _ h, hdrop]
    · unfold State.setExState
      rw [obj_setObj_other _ (by omega), obj_setObj_other _ (by omega), hdrop]

theorem obj_abortStep (cause : Nat) : (s.abortStep p cause).obj r = s.obj r := by
  unfold State.abortStep
  rw [obj_handleAbort _ h, obj_sendMarker _ (not_dropped_of_chargesObj h)]

theorem obj_chargeFault (cause : Nat) : (s.chargeFault p cause).obj r = s.obj r := by
  unfold State.chargeFault
  split
  · exact obj_abortStep s h cause
  · split
    · exact obj_haltJob s h _ _
    · split
      · rfl
      · split
        · exact obj_haltJob s h _ _
        · rfl

theorem obj_chargeUncommitted (cause : Nat) : (s.chargeUncommitted p cause).obj r = s.obj r := by
  unfold State.chargeUncommitted
  split
  · exact obj_chargeFault s h cause
  · rfl

end

end Sys2Proof.Machine
end

section
/-! The clocks of the quadrants: cycles that pass, marks, boundaries and holds (01 R19, R21; 08 R186 to R188). -/

namespace Sys2Proof.Machine

open Sys2Proof

/-! ### Cycles of a quadrant -/

theorem quad_of_view {s t : State} (h : view .quads t = view .quads s) (j : Nat) : t.quad j = s.quad j := by
  have hq : t.quads = s.quads := h
  unfold State.quad
  rw [hq]

section
variable (s : State) (q d : Nat)

/-- Beside its count, the cycles of a quadrant change no quadrant. -/
theorem quads_passCycles : view .quads (s.passCycles q d) =
    view .quads (s.setQuad q { s.quad q with count := (s.quad q).count + BitVec.ofNat 64 d }) := by
  unfold State.passCycles
  dsimp only
  rw [view_foldl (fun t k => view_countSpent (by decide) t _ _ _)]
  refine (view_foldl (fun t k => ?_) _ _).trans (view_addCounter (by decide) _ _ _)
  split
  · rw [view_noteStall (by decide), view_countSpent (by decide)]
  · rfl

theorem quad_passCycles_same : (s.passCycles q d).quad q = { s.quad q with count := (s.quad q).count + BitVec.ofNat 64 d } :=
  (quad_of_view (quads_passCycles s q d) q).trans (quad_setQuad_same s q _)

theorem quad_passCycles_other {j : Nat} (h : j ≠ q) : (s.passCycles q d).quad j = s.quad j :=
  (quad_of_view (quads_passCycles s q d) j).trans (quad_setQuad_other s h _)

theorem obj_passCycles (r : Nat) : (s.passCycles q d).obj r = s.obj r := obj_of_view (view_passCycles (by decide) s q d) r

end

/-- A count that runs on to `c` shows `c`. -/
theorem count_reaches {n : BitVec 64} {c : Nat} (h : n.toNat ≤ c) :
    n + BitVec.ofNat 64 (c - n.toNat) = BitVec.ofNat 64 c := by
  bv_omega

/-! ### Marks (08 R187) -/

section
variable {s t : State} {q k j : Nat}

/-- Which marks a quadrant sees depends on the marks of its partition's quadrants and on the counts of the others. -/
theorem allSeen_congr (hl : t.layout = s.layout) (hm : ∀ j, (t.quad j).marked = (s.quad j).marked)
    (hc : ∀ j, j ≠ q → (t.quad j).count = (s.quad j).count) : t.allSeen q k = s.allSeen q k := by
  have hsees : ∀ j, t.seesMark q k j = s.seesMark q k j := fun j => by
    unfold State.seesMark
    by_cases hj : j = q
    · simp [hj, hm]
    · simp [hj, hm, hc j hj]
  unfold State.allSeen State.quadsOf State.partOfQuad
  simp only [hl, funext hsees]

theorem allSeen_passCycles (d : Nat) : (s.passCycles q d).allSeen q k = s.allSeen q k := by
  refine allSeen_congr (obj_passCycles s q d _) (fun j => ?_) (fun j hj => by rw [quad_passCycles_other s q d hj])
  by_cases hj : j = q
  · rw [hj, quad_passCycles_same]
  · rw [quad_passCycles_other s q d hj]

/-- A mark that is seen has been raised, by another quadrant 2 cycles ago at least: 3 cycles before the boundary (08 R180). -/
theorem marked_of_allSeen (hk : 0 < k) (h : s.allSeen q k = true) (hj : j ∈ s.quadsOf (s.partOfQuad q)) :
    k ≤ (s.quad j).marked.toNat ∧ (j ≠ q → 256 * k - 1 ≤ (s.quad j).count.toNat) := by
  have hsees : s.seesMark q k j = true := List.all_eq_true.1 h j hj
  simp only [State.seesMark, Bool.and_eq_true, Bool.or_eq_true, decide_eq_true_eq] at hsees
  obtain ⟨hmark, hown | hlate⟩ := hsees
  · exact ⟨hmark, fun hne => absurd hown hne⟩
  · have hwait : 2 ≤ (if Config.markLate q j k then 3 else 2) := by split <;> omega
    exact ⟨hmark, fun _ => by unfold markLead at hlate; omega⟩

end

/-! ### The commands of the clocks -/

section
variable {q : Fin 4} {s : State}

theorem droopStretch_owes (h : s.quadRuns q = true) : ∃ t, exec (.droopStretch q) s = .next t
    ∧ t.quad q = { s.quad q with owed := (s.quad q).owed + 1 } ∧ OnlyQuads [q.val] s t ∧ t.drooped = true
    ∧ Counted s t (0x30F001 + 0x10000 * q.val) 1 ∧ OnlyObjs [0x30F001 + 0x10000 * q.val] s t := by
  have hexec : exec (.droopStretch q) s = .next
      { (s.setQuad q { s.quad q with owed := (s.quad q).owed + 1 }).bump (0x30F001 + 0x10000 * q.val) 1 with drooped := true } := by
    change execDroopStretch q s = _
    unfold execDroopStretch
    rw [if_pos h]
  refine ⟨_, hexec, ?_, ?_, rfl, ?_, ?_⟩
  · exact quad_setQuad_same s q _
  · exact fun j hj => quad_setQuad_other s (by simpa using hj) _
  · exact obj_bump_same (s.setQuad q _) _ 1
  · exact fun r hr => obj_bump_other (s.setQuad q _) (by simpa using hr) 1

theorem boundaryMark_raises (hrun : s.quadRuns q = true) (hmark : (s.quad q).marked.toNat < (s.quad q).next)
    (hcount : (s.quad q).count.toNat ≤ 256 * (s.quad q).next - 3)
    (hstop : (s.quad q).mayReach (256 * (s.quad q).next - 3) = true) : ∃ t, exec (.boundaryMark q) s = .next t
    ∧ t.quad q = { s.quad q with marked := BitVec.ofNat 64 (s.quad q).next, count := BitVec.ofNat 64 (256 * (s.quad q).next - 3) }
    ∧ OnlyQuads [q.val] s t := by
  let u := s.passCycles q (256 * (s.quad q).next - 3 - (s.quad q).count.toNat)
  have hexec : exec (.boundaryMark q) s = .next (u.setQuad q { u.quad q with marked := BitVec.ofNat 64 (s.quad q).next }) := by
    change execBoundaryMark q s = _
    unfold execBoundaryMark markLead
    simp [hrun, hmark, hcount, hstop, u]
  refine ⟨_, hexec, ?_, fun j hj => ?_⟩
  · rw [quad_setQuad_same, quad_passCycles_same, count_reaches hcount]
  · have hne : j ≠ q.val := by simpa using hj
    rw [quad_setQuad_other _ hne, quad_passCycles_other s _ _ hne]

theorem orbitBoundary_passes_or_holds (hrun : s.quadRuns q = true) (hmark : (s.quad q).marked.toNat = (s.quad q).next)
    (hcount : (s.quad q).count.toNat ≤ 256 * (s.quad q).next)
    (hstop : (s.quad q).mayReach (256 * (s.quad q).next) = true) : ∃ t, exec (.orbitBoundary q) s = .next t
    ∧ t.quad q = (if s.allSeen q (s.quad q).next then
        { s.quad q with passed := BitVec.ofNat 64 (s.quad q).next, count := BitVec.ofNat 64 (256 * (s.quad q).next) }
      else { s.quad q with holding := true, count := BitVec.ofNat 64 (256 * (s.quad q).next) })
    ∧ OnlyQuads [q.val] s t := by
  let u := s.passCycles q (256 * (s.quad q).next - (s.quad q).count.toNat)
  have hu : u.quad q = { s.quad q with count := BitVec.ofNat 64 (256 * (s.quad q).next) } := by
    rw [quad_passCycles_same, count_reaches hcount]
  have hexec : exec (.orbitBoundary q) s = .next (u.setQuad q (if s.allSeen q (s.quad q).next then
      { u.quad q with passed := BitVec.ofNat 64 (s.quad q).next } else { u.quad q with holding := true })) := by
    change execOrbitBoundary q s = _
    unfold execOrbitBoundary
    simp only [hrun, hmark, hcount, hstop, allSeen_passCycles, u, decide_true, Bool.and_self, if_true]
    split <;> rfl
  refine ⟨_, hexec, ?_, fun j hj => ?_⟩
  · rw [quad_setQuad_same, hu]
  · have hne : j ≠ q.val := by simpa using hj
    rw [quad_setQuad_other _ hne, quad_passCycles_other s _ _ hne]

end

/-! ### The end of a hold (08 R187, R188) -/

/-- The quadrant after its hold: past the boundary. -/
abbrev Quad.released (x : Quad) : Quad := { x with holding := false, passed := BitVec.ofNat 64 x.next }

/-- The hold ends, and its periods are counted (08 R188). -/
def State.holdEnds (s : State) (q n : Nat) : State :=
  let s1 := s.setQuad q (s.quad q).released
  (s1.bump (0x30F002 + 0x10000 * q) n).setObj (0x30F003 + 0x10000 * q) (Nat.max (s1.obj (0x30F003 + 0x10000 * q)) n)

section
variable (s : State) (q n : Nat)

theorem quad_holdEnds_same : (s.holdEnds q n).quad q = (s.quad q).released := quad_setQuad_same s q _

theorem quad_holdEnds_other {j : Nat} (h : j ≠ q) : (s.holdEnds q n).quad j = s.quad j := quad_setQuad_other s h _

theorem counted_holdEnds : Counted s (s.holdEnds q n) (0x30F002 + 0x10000 * q) n :=
  (obj_setObj_other _ (by omega) _).trans (obj_bump_same (s.setQuad q _) _ n)

theorem obj_holdEnds_longest : (s.holdEnds q n).obj (0x30F003 + 0x10000 * q)
    = Nat.max (s.obj (0x30F003 + 0x10000 * q)) n % 256 ^ objSize (0x30F003 + 0x10000 * q) := obj_setObj_same _ _ _

theorem onlyObjs_holdEnds : OnlyObjs [0x30F002 + 0x10000 * q, 0x30F003 + 0x10000 * q] s (s.holdEnds q n) := fun r hr => by
  simp only [List.mem_cons, List.not_mem_nil, or_false, not_or] at hr
  obtain ⟨h2, h3⟩ := hr
  exact (obj_setObj_other _ h3 _).trans (obj_bump_other (s.setQuad q _) h2 n)

/-- A slip is counted, whatever the fault that it charges does (08 R188). -/
theorem counted_slip (hq : q < 4) (uclass unit hold bridge : Nat) : Counted s (s.slip q uclass unit hold bridge) (0x30F004 + 0x10000 * q) 1 := by
  have hr : ¬ chargesObj (s.partOfQuad q) (0x30F004 + 0x10000 * q) := by
    simp only [chargesObj, raisedObjs, droppedObjs, List.mem_cons, List.not_mem_nil, or_false]
    omega
  unfold Counted State.slip
  dsimp only
  rw [obj_chargeUncommitted _ hr, obj_bump_same, obj_raisePart _ (not_raised_of_chargesObj hr) (by decide)]

theorem quad_slip (uclass unit hold bridge j : Nat) : (s.slip q uclass unit hold bridge).quad j = s.quad j :=
  quad_of_view (view_slip (by decide) s q uclass unit hold bridge) j

end

section
variable {q : Fin 4} {s : State}

theorem orbitHoldRelease_ends_hold (periods : BitVec 8) (hhold : (s.quad q).holding = true)
    (hseen : s.allSeen q (s.quad q).next = true) : ∃ t, exec (.orbitHoldRelease q periods) s = .next t
    ∧ t.quad q = { s.quad q with holding := false, passed := BitVec.ofNat 64 (s.quad q).next } ∧ OnlyQuads [q.val] s t
    ∧ (periods.toNat ≤ 6 → OnlyObjs [0x30F002 + 0x10000 * q.val, 0x30F003 + 0x10000 * q.val] s t
        ∧ Counted s t (0x30F002 + 0x10000 * q.val) periods.toNat
        ∧ t.obj (0x30F003 + 0x10000 * q.val)
            = Nat.max (s.obj (0x30F003 + 0x10000 * q.val)) periods.toNat % 256 ^ objSize (0x30F003 + 0x10000 * q.val))
    ∧ (6 < periods.toNat → Counted s t (0x30F004 + 0x10000 * q.val) 1) := by
  have hexec : exec (.orbitHoldRelease q periods) s = .next (if 6 < periods.toNat then
      (s.holdEnds q periods.toNat).slip q ucFabric q.val periods.toNat 0x1F else s.holdEnds q periods.toNat) := by
    change execOrbitHoldRelease q periods s = _
    unfold execOrbitHoldRelease
    dsimp only
    rw [hhold, hseen, show 0x30F000 + 0x10000 * q.val + 2 = 0x30F002 + 0x10000 * q.val by omega,
      show 0x30F000 + 0x10000 * q.val + 3 = 0x30F003 + 0x10000 * q.val by omega]
    rfl
  by_cases hslip : 6 < periods.toNat
  · rw [if_pos hslip] at hexec
    refine ⟨_, hexec, ?_, fun j hj => ?_, fun h => by omega, fun _ => ?_⟩
    · rw [quad_slip, quad_holdEnds_same]
    · rw [quad_slip, quad_holdEnds_other s _ _ (by simpa using hj)]
    · have hobj : (s.holdEnds q periods.toNat).obj (0x30F004 + 0x10000 * q) = s.obj (0x30F004 + 0x10000 * q) :=
        onlyObjs_holdEnds s _ _ _ (by simp only [List.mem_cons, List.not_mem_nil, or_false]; omega)
      unfold Counted
      rw [counted_slip _ _ q.isLt, hobj]
  · rw [if_neg hslip] at hexec
    exact ⟨_, hexec, quad_holdEnds_same s _ _, fun j hj => quad_holdEnds_other s _ _ (by simpa using hj),
      fun _ => ⟨onlyObjs_holdEnds s _ _, counted_holdEnds s _ _, obj_holdEnds_longest s _ _⟩, fun h => absurd h hslip⟩

end

/-! ### One idle nanosecond (01 R18, R19, R21) -/

section
variable (s : State) (n q : Nat)

theorem quad_quadTick_other {j : Nat} (h : j ≠ q) : (s.quadTick n q).quad j = s.quad j := by
  unfold State.quadTick
  split
  · dsimp only
    rw [quad_passCycles_other _ _ _ h, quad_setQuad_other s h]
  · rfl

/-- A quadrant counts at most the edges that it is offered; one whose clock stands still counts none. -/
theorem count_quadTick_same : ∃ d, d ≤ n ∧ ((s.quadTick n q).quad q).count = (s.quad q).count + BitVec.ofNat 64 d
    ∧ (s.quadRuns q = false → d = 0) := by
  unfold State.quadTick
  split
  next hrun =>
    let x := s.quad q
    refine ⟨Nat.min (n - Nat.min x.owed n) x.room, (Nat.min_le_left _ _).trans (Nat.sub_le _ _), ?_, fun h => absurd h (by simp [hrun])⟩
    dsimp only
    rw [quad_passCycles_same, quad_setQuad_same]
  next => exact ⟨0, Nat.zero_le _, by simp, fun _ => rfl⟩

/-- Whether a quadrant's clock runs depends on the power and on the quadrant. -/
theorem quadRuns_congr {t : State} (hp : view .power t = view .power s) (hq : t.quad q = s.quad q) : t.quadRuns q = s.quadRuns q := by
  simp only [view, Prod.mk.injEq] at hp
  obtain ⟨-, -, -, -, -, hplls, htrip, -⟩ := hp
  unfold State.quadRuns
  rw [hplls, htrip, hq]

/-- Ticks of a list of quadrants, none of them twice. -/
theorem count_quadTicks {l : List Nat} (hl : l.Nodup) : ∃ d, d ≤ n
    ∧ ((l.foldl (fun (t : State) j => t.quadTick n j) s).quad q).count = (s.quad q).count + BitVec.ofNat 64 d
    ∧ (s.quadRuns q = false → d = 0) := by
  induction l generalizing s with
  | nil => exact ⟨0, Nat.zero_le _, by simp, fun _ => rfl⟩
  | cons j l ih =>
    rw [List.nodup_cons] at hl
    obtain ⟨hj, hl⟩ := hl
    rw [List.foldl_cons]
    by_cases h : j = q
    · subst h
      have hrest : (l.foldl (fun (t : State) i => t.quadTick n i) (s.quadTick n j)).quad j = (s.quadTick n j).quad j := by
        generalize s.quadTick n j = u
        clear ih
        induction l generalizing u with
        | nil => rfl
        | cons i l ih =>
          rw [List.mem_cons, not_or] at hj
          obtain ⟨hi, hj⟩ := hj
          rw [List.foldl_cons, ih hj (List.nodup_cons.1 hl).2, quad_quadTick_other _ _ _ hi]
      rw [hrest]
      exact count_quadTick_same s n j
    · have hquad : (s.quadTick n j).quad q = s.quad q := quad_quadTick_other s n j (Ne.symm h)
      have hruns := quadRuns_congr s q (view_quadTick (by decide) s n j) hquad
      obtain ⟨d, hd, hcount, hstill⟩ := ih (s.quadTick n j) hl
      exact ⟨d, hd, by rw [hcount, hquad], fun h => hstill (hruns.trans h)⟩

end

/-- The state in which the quadrants make the edges of one nanosecond. -/
def State.timed (s : State) : State := if s.timeLocked then { s with ns := s.ns + 1 } else s

theorem view_timed {ar : Area} (h : ar ≠ .time) (s : State) : view ar s.timed = view ar s := by
  unfold State.timed
  rw [view_ite, view_upd_ns (by simpa using h), ite_self]

theorem ns_timed (s : State) : s.timed.ns = if s.timeLocked then s.ns + 1 else s.ns := by unfold State.timed; split <;> rfl

theorem phase_timed (s : State) : s.timed.phase = s.phase := view_timed (ar := .phase) (by decide) s

theorem pllsOn_timed (s : State) : s.timed.pllsOn = s.pllsOn := by unfold State.timed; split <;> rfl

theorem idleTick_eq (s : State) : s.idleTick = if s.pllsOn then
    ([0, 1, 2, 3].foldl (fun (t : State) q => t.quadTick ((s.phase + 7) / 5) q) { s.timed with phase := (s.phase + 7) % 5 }).hubTick
    else s.timed := by
  rw [← pllsOn_timed, ← phase_timed]
  rfl

/-- With the PLLs off only the time base counts. -/
theorem idleTick_still {s : State} (h : s.pllsOn = false) : s.idleTick = s.timed := by
  rw [idleTick_eq, if_neg (by simp [h])]

/-- With the PLLs on every quadrant is offered its edges: 7/5 of a nanosecond's, one or two (01 R19). -/
theorem idleTick_running {s : State} (h : s.pllsOn = true) : s.idleTick =
    ([0, 1, 2, 3].foldl (fun (t : State) q => t.quadTick ((s.phase + 7) / 5) q) { s.timed with phase := (s.phase + 7) % 5 }).hubTick := by
  rw [idleTick_eq, if_pos h]

theorem count_idleTick {s : State} (h : s.phase < 5) (q : Nat) : ∃ d, d ≤ 2
    ∧ (s.idleTick.quad q).count = (s.quad q).count + BitVec.ofNat 64 d ∧ (s.quadRuns q = false ∨ s.pllsOn = false → d = 0) := by
  have htimed : s.timed.quad q = s.quad q := quad_of_view (view_timed (by decide) s) q
  by_cases hp : s.pllsOn = true
  · let u : State := { s.timed with phase := (s.phase + 7) % 5 }
    obtain ⟨d, hd, hcount, hstill⟩ := count_quadTicks u ((s.phase + 7) / 5) q (l := [0, 1, 2, 3]) (by decide)
    have hquad : u.quad q = s.quad q := htimed
    have hruns : u.quadRuns q = s.quadRuns q := quadRuns_congr s q (view_timed (ar := .power) (by decide) s) hquad
    refine ⟨d, by omega, ?_, fun h => h.elim (fun h => hstill (hruns.trans h)) (fun h => absurd h (by simp [hp]))⟩
    rw [idleTick_running hp, quad_of_view (view_hubTick (by decide) _), hcount, hquad]
  · have hoff : s.pllsOn = false := by simpa using hp
    exact ⟨0, by omega, by rw [idleTick_still hoff, htimed]; simp, fun _ => rfl⟩

theorem phase_idleTick {s : State} (h : s.phase < 5) : s.idleTick.phase < 5 := by
  by_cases hp : s.pllsOn = true
  · have hphase : s.idleTick.phase = (s.phase + 7) % 5 := by
      rw [idleTick_running hp]
      exact (view_hubTick (ar := .phase) (by decide) _).trans (view_foldl (ar := .phase) (fun t q => view_quadTick (by decide) t _ q) _ _)
    omega
  · rw [idleTick_still (by simpa using hp), phase_timed]
    exact h

theorem ns_idleTick (s : State) : s.idleTick.ns = if s.timeLocked then s.ns + 1 else s.ns := by
  by_cases hp : s.pllsOn = true
  · rw [idleTick_running hp, ← ns_timed]
    exact (view_hubTick (ar := .time) (by decide) _).trans (view_foldl (ar := .time) (fun t q => view_quadTick (by decide) t _ q) _ _)
  · rw [idleTick_still (by simpa using hp), ns_timed]

theorem idleTick_passes {s : State} (h : s.phase < 5) :
    s.idleTick.ns = (if s.timeLocked then s.ns + 1 else s.ns)
    ∧ s.idleTick.phase < 5
    ∧ (∀ q, q < 4 → s.quadRuns q = false ∨ s.pllsOn = false → (s.idleTick.quad q).count = (s.quad q).count)
    ∧ (∀ q, q < 4 → ((s.idleTick.quad q).count - (s.quad q).count).toNat ≤ 2)
    ∧ s.idleTick.objs = s.objs ∧ s.idleTick.hbm = s.hbm ∧ s.idleTick.looms = s.looms ∧ s.idleTick.out = s.out := by
  refine ⟨ns_idleTick s, phase_idleTick h, fun q _ hstill => ?_, fun q _ => ?_, view_idleTick (ar := .objects) (by decide) s,
    view_idleTick (ar := .hbm) (by decide) s, view_idleTick (ar := .looms) (by decide) s, view_idleTick (ar := .sent) (by decide) s⟩
  · obtain ⟨d, -, hcount, hzero⟩ := count_idleTick h q
    rw [hcount, hzero hstill]
    simp
  · obtain ⟨d, hd, hcount, -⟩ := count_idleTick h q
    rw [hcount]
    bv_omega

/-- Settles O15, clause by clause. -/
theorem clocksAndOrbits : Obligations.ClocksAndOrbits :=
  ⟨fun _ _ => droopStretch_owes, fun _ _ hrun hmark _ => boundaryMark_raises hrun hmark,
    fun _ _ hrun hmark _ => orbitBoundary_passes_or_holds hrun hmark,
    fun _ periods _ => orbitHoldRelease_ends_hold periods, fun _ _ _ hk hseen _ => marked_of_allSeen hk hseen,
    fun _ => idleTick_passes⟩

end Sys2Proof.Machine
end

section
/-! SUPPORT. A checkpoint whose region runs past the end of a stack: the word that holds its first byte is numbered behind the stack's last one (09 R201,
R202), and lies in the next stack, which belongs to another partition. -/

namespace Sys2Proof.Machine

open Sys2Proof

/-- A manifest without ranks, with one region of kind 9 over all stacks of its partition, from slot 2^22 on: the slots of a pseudo-channel end
there. -/
def spillManifest : Bytes := leBytes 256 (2 ^ 88) ++ leBytes 64 (9 + 15 * 2 ^ 4 + 2 ^ 54)

/-- A partition with that manifest and a control queue pair; under its key the region begins in the last pseudo-channel of the last stack. -/
def spillPart : Part :=
  { Part.init with
    ikey := 570370365647137902
    manifest := spillManifest
    qps := [(0x4000, { Qp.init with live := true })]
    sas := [(0x8001, { Sa.init with key := [1] })] }

/-- Each quadrant is a partition; link 0 is up, and the job of partition 0 is HELD. -/
def spillState : State :=
  { (((State.reset.setObj 0x90000A 2).setObj 0x504004 1).setObj 0x907001 6) with fwUp := true, parts := [(0, spillPart)] }

/-- CHECKPOINT with ACTION take and STEP 0. -/
def spillTake : Ctl :=
  { pkt := { esp := { frame := { k := 0, len := 64, vid := 0 }, qpn := 0x4000, seq := 1, ok := true }, psn := 0, icrcOk := true, ce := false }
    reservedOp := none, seq := 0, len := 9, job := 0, body := List.replicate 9 0 }

/-- The state after the message. -/
def spilled : State := spillState.ctlArrives 0 spillTake (.checkpointTake 0 spillTake) (fun t => t.checkpointMessage 0 spillTake)

theorem exec_spillTake : exec (.checkpointTake 0 spillTake) spillState = .next spilled := rfl

theorem partOfStack_spillState : spillState.partOfStack 5 = 1 := by decide +kernel

/-- The checkpoint's magic stands there after the message (12 R300). -/
theorem byte_spilled : SMap.get 0 spilled.hbm (hbmKey 5 0) = 0x4B := by decide +kernel

/-- Refutes O27: the state need not be one that LOAD gave, and the region table of partition 0 in `spillState` has a checkpoint region whose slots
lie past those of a pseudo-channel. The CHECKPOINT that takes checkpoint 0 of the HELD job writes the descriptor's first byte to the first
byte of stack 5, which is partition 1's. -/
theorem not_controlMessagesStayInside : ¬ Obligations.ControlMessagesStayInside := by
  intro h
  obtain ⟨-, -, -, -, hbytes, -⟩ := h 0 spillState spilled ⟨spillTake, .inr (.inr (.inr (.inr (.inr (.inl exec_spillTake)))))⟩
  have hkept : SMap.get 0 spilled.hbm (hbmKey 5 0) = SMap.get 0 spillState.hbm (hbmKey 5 0) :=
    hbytes 5 0 (by rw [partOfStack_spillState]; decide) (by decide)
  have hzero : SMap.get 0 spillState.hbm (hbmKey 5 0) = 0 := rfl
  rw [byte_spilled, hzero] at hkept
  exact absurd hkept (by decide)

end Sys2Proof.Machine
end

section
/-! SUPPORT. A thermal trip in a state in which an object of a link holds more lanes than any link has: the lanes that it takes out of use reach behind the
lane objects, up to the state of a job. -/

namespace Sys2Proof.Machine

open Sys2Proof

/-! ### The lanes of a link that goes down (10 R231) -/

/-- Lanes that were not used end in state 1. -/
def State.lanesIdle (s : State) (l : List Nat) : State :=
  l.foldl (fun (t : State) j => if t.obj (laneRef j 1) = 0 then t.setObj (laneRef j 1) 1 else t) s

theorem dropLink_eq (s : State) (k : Nat) : s.dropLink k =
    (((s.lanesIdle (List.range' k (s.obj (linkRef k 1)))).setObj (linkRef k 2) 0).setObj (linkRef k 4) 0).setLink k
      { s.link k with attempt := none, pauses := 0, xoffSent := 0, waiting := [], asked := [], chassis := none, busy := 0, paced := 0 } := rfl

section
variable {s : State} {r : Nat} (hsize : objSize r = 1)
include hsize

/-- An object of one byte that is not zero stays so. -/
theorem lanesIdle_keeps (h : s.obj r ≠ 0) (l : List Nat) : (s.lanesIdle l).obj r ≠ 0 := by
  induction l generalizing s with
  | nil => exact h
  | cons j l ih =>
    refine ih ?_
    dsimp only
    split
    · by_cases hr : r = laneRef j 1
      · rw [← hr, obj_setObj_same, hsize]
        decide
      · rw [obj_setObj_other s hr]
        exact h
    · exact h

/-- The object of a lane that is listed is not zero afterwards. -/
theorem lanesIdle_sets {l : List Nat} {j : Nat} (hr : r = laneRef j 1) (hj : j ∈ l) : (s.lanesIdle l).obj r ≠ 0 := by
  induction l generalizing s with
  | nil => exact absurd hj List.not_mem_nil
  | cons i l ih =>
    rcases List.mem_cons.1 hj with rfl | hmem
    · refine lanesIdle_keeps hsize ?_ l
      dsimp only
      rw [← hr]
      split
      · rw [obj_setObj_same, hsize]
        decide
      next h => exact h
    · exact ih hmem

variable (hsub : r % 256 = 1)
include hsub

theorem dropLink_keeps (h : s.obj r ≠ 0) (k : Nat) : (s.dropLink k).obj r ≠ 0 := by
  rw [dropLink_eq, obj_setLink, obj_setObj_other _ (by unfold linkRef; omega), obj_setObj_other _ (by unfold linkRef; omega)]
  exact lanesIdle_keeps hsize h _

theorem dropLink_sets {k j : Nat} (hr : r = laneRef j 1) (hj : j ∈ List.range' k (s.obj (linkRef k 1))) : (s.dropLink k).obj r ≠ 0 := by
  rw [dropLink_eq, obj_setLink, obj_setObj_other _ (by unfold linkRef; omega), obj_setObj_other _ (by unfold linkRef; omega)]
  exact lanesIdle_sets hsize hr hj

theorem portStop_keeps (h : s.obj r ≠ 0) (p : Nat) : (s.portStop p).obj r ≠ 0 := by
  unfold State.portStop
  have hstart : ((s.setObj (portRef p 5) 3).setObj (portRef p 4) 0).obj r ≠ 0 := by
    rw [obj_setObj_other _ (by unfold portRef; omega), obj_setObj_other _ (by unfold portRef; omega)]
    exact h
  generalize (s.setObj (portRef p 5) 3).setObj (portRef p 4) 0 = t at hstart
  induction s.linksOf p generalizing t with
  | nil => exact hstart
  | cons k l ih => exact ih _ (dropLink_keeps hsize hsub hstart k)

theorem portHeld_keeps (h : s.obj r ≠ 0) (p : Nat) : (s.portHeld p).obj r ≠ 0 := by
  unfold State.portHeld
  rw [obj_setObj_other _ (by unfold portRef; omega)]
  split
  · exact portStop_keeps hsize hsub h p
  · exact h

/-- A port with one link that goes down with it. -/
theorem portHeld_sets {p k j : Nat} (hup : s.obj (portRef p 5) = 1) (hlinks : s.linksOf p = [k]) (hr : r = laneRef j 1)
    (hj : j ∈ List.range' k (s.obj (linkRef k 1))) (hk : linkRef k 1 % 256 = 1) : (s.portHeld p).obj r ≠ 0 := by
  have hlanes : ((s.setObj (portRef p 5) 3).setObj (portRef p 4) 0).obj (linkRef k 1) = s.obj (linkRef k 1) := by
    rw [obj_setObj_other _ (by unfold portRef; omega), obj_setObj_other _ (by unfold portRef; omega)]
  unfold State.portHeld State.portStop
  rw [obj_setObj_other _ (by unfold portRef; omega), if_pos (.inl hup), hlinks]
  exact dropLink_sets hsize hsub hr (by rw [hlanes]; exact hj)

end

/-! ### The trip -/

/-- Partitions reset, steps stopped and ports held in reset (18 R425). -/
def State.stoppedByTrip (s : State) : State := (List.range 6).foldl State.portHeld s.resetAll.stopRunningSteps

theorem applyWaits_stoppedByTrip (s : State) : s.stoppedByTrip.applyWaits = s.applyWaits := by
  have hv : view .bringUp s.stoppedByTrip = view .bringUp s :=
    (view_foldl (fun t p => view_portHeld (by decide) t p) _ _).trans
      ((view_stopRunningSteps (by decide) _).trans (view_resetAll (by decide) s))
  simp only [view, Prod.mk.injEq] at hv
  obtain ⟨-, -, -, -, -, hw, -⟩ := hv
  exact hw

/-- While no layout waits, a trip leaves the objects as they are once the ports are held. -/
theorem objs_of_thermalTrip {q : Fin 5} {s t : State} (hp : s.pwrok = true) (ht : s.trip = false) (hw : s.applyWaits = none)
    (h : exec (.thermalTrip (.junction q)) s = .next t) :
    t.objs = ((s.setObj 0x20000C 1).setObj 0x20000D q.val).stoppedByTrip.objs := by
  have happly : ((s.setObj 0x20000C 1).setObj 0x20000D q.val).stoppedByTrip.applyIfWaiting
      = ((s.setObj 0x20000C 1).setObj 0x20000D q.val).stoppedByTrip := by
    unfold State.applyIfWaiting
    rw [applyWaits_stoppedByTrip, show ((s.setObj 0x20000C 1).setObj 0x20000D q.val).applyWaits = none from hw]
  have hexec : execThermalTrip (.junction q) s = .next t := h
  unfold execThermalTrip at hexec
  rw [if_pos (by rw [hp, ht]; rfl)] at hexec
  rw [← happly, ← Host.Outcome.next.inj hexec]
  dsimp only [State.stoppedByTrip]

/-- Port 0 runs with one link, whose object of lanes holds 16,481; the object of "lane 16,480" is the state of partition 0's job. -/
def wideLink : State := { State.reset with pwrok := true, objs := [(0x500005, 1), (0x504001, 16481)] }

theorem jobState_stoppedByTrip : ((wideLink.setObj 0x20000C 1).setObj 0x20000D 0).stoppedByTrip.jobState 0 ≠ 0 := by
  have hsize : objSize 0x907001 = 1 := by decide +kernel
  have hup : ((wideLink.setObj 0x20000C 1).setObj 0x20000D 0).resetAll.stopRunningSteps.obj (portRef 0 5) = 1 := by decide +kernel
  have hlinks : ((wideLink.setObj 0x20000C 1).setObj 0x20000D 0).resetAll.stopRunningSteps.linksOf 0 = [0] := by decide +kernel
  have hlanes : ((wideLink.setObj 0x20000C 1).setObj 0x20000D 0).resetAll.stopRunningSteps.obj (linkRef 0 1) = 16481 := by decide +kernel
  unfold State.stoppedByTrip
  generalize ((wideLink.setObj 0x20000C 1).setObj 0x20000D 0).resetAll.stopRunningSteps = u at hup hlinks hlanes
  have hport : (u.portHeld 0).obj 0x907001 ≠ 0 :=
    portHeld_sets hsize (by decide) hup hlinks (j := 16480) (by decide) (by rw [hlanes, List.mem_range'_1]; omega) (by decide)
  have hkeep : ∀ (t : State) (p : Nat), t.obj 0x907001 ≠ 0 → (t.portHeld p).obj 0x907001 ≠ 0 :=
    fun _ p h => portHeld_keeps hsize (by decide) h p
  exact hkeep _ 5 (hkeep _ 4 (hkeep _ 3 (hkeep _ 2 (hkeep _ 1 hport))))

/-- Refutes O17: nothing bounds the objects of the state, and in `wideLink` the lanes of link 0 run up to number 16,480, whose object is the state
of partition 0's job: the trip has reset the job to EMPTY, and holding the port makes its state 1. -/
theorem not_deviceStops : ¬ Obligations.DeviceStops := by
  rintro ⟨htrip, -⟩
  obtain ⟨t, hexec, -, -, -, -, -, -, -, -, -, -, -, hparts⟩ := htrip (.junction 0) wideLink rfl rfl rfl
  obtain ⟨hjob, -⟩ := hparts 0 (by decide +kernel)
  have hobjs := objs_of_thermalTrip rfl rfl rfl hexec
  refine jobState_stoppedByTrip ?_
  unfold State.jobState State.obj at hjob ⊢
  rw [hobjs] at hjob
  exact hjob

end Sys2Proof.Machine
end

section
/-! SUPPORT. A step boundary at which an amendment takes effect, in a state whose count of roll calls does not fit its object. -/

namespace Sys2Proof.Machine

open Sys2Proof

/-- An amendment of rank 0 that is due at the boundary of step 0. -/
def dueAmend : Amend := { bits := 0 }

/-- Step 0 of partition 0 is done, an amendment is due whose new holder has no key yet, and the object of roll calls, of two bytes, holds 2^16. -/
def amendDue : State :=
  { State.reset with
    objs := [(0x907001, 5), (0x521003, 3), (0x515001, 2 ^ 16)]
    parts := [(0, { Part.init with applied := true, audited := true, folded := true, rowFinal := true, due := [.amend dueAmend] })] }

/-- The boundary passes in it. -/
theorem exec_boundary_amendDue : exec (.stepBoundary 0) amendDue = .next (amendDue.boundary 0) :=
  congrArg Host.Outcome.next (if_pos (by decide +kernel))

/-- No roll call begins, so nothing cuts the object to its size. -/
theorem rollCalls_boundary_amendDue : (amendDue.boundary 0).obj 0x515001 = 2 ^ 16 := by decide +kernel

/-- Refutes O55: nothing bounds the objects of the state, and in `amendDue` the count of roll calls does not fit its object. The amendment waits
for the exchange with the new holder, so that nothing is counted; the object stays as it is, and is not its value modulo 2^16. -/
theorem not_auditFoldAndBoundary : ¬ Obligations.AuditFoldAndBoundary := by
  rintro ⟨-, -, -, -, hboundary⟩
  obtain ⟨-, -, -, hamend⟩ := hboundary 0 amendDue rfl rfl rfl (by decide +kernel) (.inl rfl) rfl rfl
  obtain ⟨t, hexec, -, -, -, -, hwaits⟩ := hamend dueAmend rfl (by decide +kernel)
  obtain ⟨-, hcount, -⟩ := hwaits (by decide +kernel)
  obtain rfl : amendDue.boundary 0 = t := Host.Outcome.next.inj (exec_boundary_amendDue.symm.trans hexec)
  have hcut : (amendDue.boundary 0).obj 0x515001 = (2 ^ 16 + 0) % 256 ^ objSize 0x515001 := hcount
  rw [rollCalls_boundary_amendDue, show objSize 0x515001 = 2 by decide +kernel] at hcut
  exact absurd hcut (by decide)

end Sys2Proof.Machine
end

section
/-! SUPPORT. A forward copy whose region runs past the end of a stack: its byte is the first one of the next stack (09 R201, R202), at whose
controller a write of that word waits. -/

namespace Sys2Proof.Machine

open Sys2Proof

/-- A state region in group 0, the ephemeris in group 5, and a copy region in group 33 from slot 2^22 on: the slots of a pseudo-channel end
there. All of them span the stacks of the partition. -/
def copyManifest : Bytes :=
  leBytes 256 (3 * 2 ^ 88) ++ leBytes 64 (1 + 15 * 2 ^ 4) ++ leBytes 64 (5 + 15 * 2 ^ 4 + 5 * 2 ^ 8)
    ++ leBytes 64 (15 * 2 ^ 4 + 33 * 2 ^ 8 + 2 ^ 54)

/-- Copy parameter 0 of region 0 in format 3 to region 2. -/
def copyOne : Word512 := BitVec.ofNat 512 (2 ^ 6 + 3 * 2 ^ 8 + 2 * 2 ^ 80 + 2 ^ 320)

/-- An image of the one command in step 0. -/
def copyImage : Image :=
  { looms := 0, profile := 0, profileDigest := 0, slots := [], windows := [], xwins := [], sends := [], updBase := 0, updLast := 0
    updTable := [2 ^ 32], updCmds := [copyOne], twPeriod := 0, twBudget := 0, loomImgs := [], hubDest := [] }

/-- A write of word 0 that waits at a controller. -/
def waitingWrite : HbmReq := { who := .hub, word := 0, half := none, write := some (BitVec.allOnes 512, false), ecc := .clean }

/-- Each quadrant is a partition; the scale fill of partition 0 is done, its memory is zero, and stack 1 serves. -/
def copyDue : State :=
  { State.reset with
    pllsOn := true
    objs := [(0x90000A, 2), (0x40110F, 0)]
    parts := [(0, { Part.init with manifest := copyManifest, image := some copyImage, filled := true })]
    stackCtl := [(1, { Stack.init with waiting := [waitingWrite] })] }

/-- The state after the copy. -/
def copyDone : State := (copyDue.copyAll 0).modPart 0 (fun y => { y with copied := true })

theorem copiesGo_copyDue : copyDue.copiesGo 0 = true := by decide +kernel

theorem memStopped_copyDue : copyDue.memStopped 0 = false := by decide +kernel

theorem exec_copyDue : exec (.forwardCopy 0) copyDue = .next copyDone := by
  have hruns : (true && !false && !copyDue.memStopped 0 && copyDue.copiesGo 0) = true := by
    rw [memStopped_copyDue, copiesGo_copyDue]
    rfl
  exact congrArg Host.Outcome.next (if_pos hruns)

/-- The ephemeris lies in stack 1, so that recording the copy serves what waits there. -/
theorem regionWord_row : copyDue.regionWord 0 ((copyDue.part 0).theRegion 5) ((copyDue.part 0).rowAt (copyDue.stepNo 0) (uCslot copyOne))
    = (1, 872415232) := by decide +kernel

theorem regionWord_copy : copyDue.regionWord 0 (uCregion copyOne) (uFirst copyOne - uTbase copyOne) = (0, 2 ^ 30) := by decide +kernel

theorem row_apart_copy (a b j : Nat) : hbmKey 1 (64 * 872415232 + a + j) ≠ hbmKey 0 (64 * 2 ^ 30 + b % 64) := by
  unfold hbmKey
  omega

/-- The waiting write is served after the copy is written. -/
theorem byte_copyDone : copyDone.readNat 0 (uCregion copyOne) (uFirst copyOne - uTbase copyOne) 1 = 0xFF := by decide +kernel

/-- The copy of a master that is zero. -/
theorem code_copyDue : (convertTo (uCfmt copyOne)
    ((floatVal (masterFmt ((copyDue.part 0).stateLayout (uRegion copyOne)))
      (copyDue.readNat 0 (uRegion copyOne) 0 (masterBytes ((copyDue.part 0).stateLayout (uRegion copyOne))))).scale
        (-(((copyDue.ephRow 0 (copyDue.stepNo 0) (uCslot copyOne)).scale.toNat : Int) - 127))) none).1 % 256 = 0 := by decide +kernel

/-- Refutes O53: the state need not be one that LOAD gave, and in `copyDue` the copy region's slots lie past those of a pseudo-channel, so that the
byte of the copy is the first of stack 1. The step's row lies in that stack too: the record of the copy serves the write that waits
there, after the copy was written, and the byte reads 0xFF where the copy of the master is 0. -/
theorem not_ephemerisAndForwardCopies : ¬ Obligations.EphemerisAndForwardCopies := by
  rintro ⟨-, -, -, -, -, -, hcopy⟩
  obtain ⟨t, hexec, hbyte⟩ := hcopy 0 copyOne copyDue rfl rfl memStopped_copyDue copiesGo_copyDue (by decide +kernel) rfl
    (by decide +kernel) (by decide +kernel) (by decide +kernel) (by decide +kernel) 0 (by decide +kernel) (by decide +kernel) (by
      rintro rw cw hrow hcw j -
      obtain rfl := hrow.trans regionWord_row
      obtain rfl := hcw.trans regionWord_copy
      generalize (copyDue.part _).rowAt _ _ % 64 = a, uFirst copyOne - uTbase copyOne = b
      exact row_apart_copy a b j)
  have ht : t = copyDone := Host.Outcome.next.inj (hexec.symm.trans exec_copyDue)
  rw [ht, show ((0 : Fin 4) : Nat) = 0 from rfl, byte_copyDone, code_copyDue] at hbyte
  exact absurd hbyte (by decide)

end Sys2Proof.Machine
end

section
/-! SUPPORT. A partition reset (01 R26): what it leaves of a partition's job, looms and memory, and that it touches nothing of the other partitions. -/

namespace Sys2Proof.Machine

open Sys2Proof

/-! ### What a partition reset changes, area by area -/

/-- Before anything is cleared: the stop of an eclipse ends, a roll call ends, and the stacks leave self-refresh. -/
def State.resetBegun (s : State) (p : Nat) : State := (s.stacksOf p).foldl State.leaveSelfRefresh ((s.endStop p).endRoll p)

theorem view_resetBegun {ar : Area} (hA : ar ∉ [Area.sent, Area.free, Area.objects, Area.notices, Area.log, Area.stackCtl, Area.queues,
    Area.loops, Area.counters]) (s : State) (p : Nat) : view ar (s.resetBegun p) = view ar s := by
  simp only [List.mem_cons, List.not_mem_nil, not_or, or_false] at hA
  simp [State.resetBegun, hA, view_foldl, view_leaveSelfRefresh, view_endRoll, view_endStop]

theorem view_hbm_clearHbm (s : State) (f : Nat → Bool) : view .hbm (s.clearHbm f) = SMap.drop (fun a => f (a / 2 ^ 36)) (view .hbm s) := rfl

theorem view_parts_setPart (s : State) (p : Nat) (x : Part) : view .parts (s.setPart p x) = SMap.set Part.init (view .parts s) p x := rfl

section
variable (s : State) (p : Nat)

theorem looms_resetPart : (s.resetPart p).looms = SMap.drop (fun k => (s.quadsOf p).contains (k / 500)) s.looms := by
  have h : view .looms (s.resetPart p) = SMap.drop (fun k => (s.quadsOf p).contains (k / 500)) (view .looms (s.resetBegun p)) := by
    unfold State.resetPart
    simp [-obj_setStack, view_ite, view_foldl, view_upd_sealArmed, view_setPart, view_setStack, view_setObj, view_clearHbm, view_flushQueues]
    rfl
  rw [view_resetBegun (by decide)] at h
  exact h

theorem hbm_resetPart : (s.resetPart p).hbm = SMap.drop (fun a => (s.stacksOf p).contains (a / 2 ^ 36)) s.hbm := by
  have h : view .hbm (s.resetPart p) = SMap.drop (fun a => (s.stacksOf p).contains (a / 2 ^ 36)) (view .hbm (s.resetBegun p)) := by
    unfold State.resetPart
    simp [-obj_setStack, view_ite, view_foldl, view_upd_sealArmed, view_setPart, view_setStack, view_setObj, view_hbm_clearHbm, view_flushQueues]
    rfl
  rw [view_resetBegun (by decide)] at h
  exact h

theorem parts_resetPart : (s.resetPart p).parts = SMap.set Part.init s.parts p { Part.init with
    ikey := (s.part p).ikey, reportNo := (s.part p).reportNo, cardTimes := (s.part p).cardTimes } := by
  have h : view .parts (s.resetPart p) = SMap.set Part.init (view .parts (s.resetBegun p)) p { Part.init with
      ikey := (s.part p).ikey, reportNo := (s.part p).reportNo, cardTimes := (s.part p).cardTimes } := by
    unfold State.resetPart
    simp [-obj_setStack, view_ite, view_foldl, view_upd_sealArmed, view_parts_setPart, view_setStack, view_setObj, view_clearHbm,
      view_flushQueues]
    rfl
  rw [view_resetBegun (by decide)] at h
  exact h

/-! ### Objects -/

theorem obj_clearObjs (s : State) (f : Nat → Bool) (r : Nat) : (s.clearObjs f).obj r = if f r then objDefault r else s.obj r := SMap.get_drop f

theorem obj_endStop (r : Nat) : (s.endStop p).obj r = s.obj r := by
  unfold State.endStop
  split
  · exact obj_foldl (f := fun (t : State) k => t.addCounter (pausedKey k) _) (fun _ _ => rfl) _ _
  · rfl

theorem obj_flushQueues {r : Nat} (hr : r ≠ 0x804006) : (s.flushQueues p).obj r = s.obj r := by
  unfold State.flushQueues
  refine obj_foldl (fun t q => ?_) _ _
  split
  · rw [obj_bump_other _ hr, obj_setDcq]
  · rfl

theorem obj_leaveSelfRefresh {r : Nat} (hr : r ∉ raisedObjs) (k : Nat) (hmode : r ≠ 0x401000 + 256 * k + 3) :
    (s.leaveSelfRefresh k).obj r = s.obj r := by
  unfold State.leaveSelfRefresh State.setRefresh State.raiseTemp
  dsimp only
  split
  · split
    · exact obj_setStack _ _ _ _
    · exact (obj_raise _ hr (Nat.zero_le 4)).trans ((obj_setObj_other _ hmode _).trans (obj_setStack _ _ _ _))
  · rfl

theorem obj_resetBegun {r : Nat} (hr : ¬ chargesObj p r) (hmode : ∀ k, r ≠ 0x401000 + 256 * k + 3) :
    (s.resetBegun p).obj r = s.obj r := by
  have hraise := not_raised_of_chargesObj hr
  unfold State.resetBegun
  rw [obj_foldl (fun t k => obj_leaveSelfRefresh t hraise k (hmode k)), obj_endRoll _ hr, obj_endStop]

/-- Of the objects that are not the device's own, a reset clears those of its list and leaves the others as the begun reset does. -/
theorem obj_resetPart {r : Nat} (hr : r ∉ [0x804006, 0x805005, 0x121003, 0x901009 + 256 * p]) (hstack : ∀ k, r ≠ 0x40100F + 256 * k) :
    (s.resetPart p).obj r
      = if resetClears p (s.quadsOf p) (s.stacksOf p) r then objDefault r else (s.resetBegun p).obj r := by
  simp only [List.mem_cons, List.not_mem_nil, not_or, or_false] at hr
  obtain ⟨hflush, heclipse, hseal, hchan⟩ := hr
  have hend (t : State) : (if t.obj (0x901009 + 256 * p) == 2 then t.setObj (0x901009 + 256 * p) 1 else t).obj r = t.obj r := by
    split
    · exact obj_setObj_other t hchan 1
    · rfl
  have hmem (t : State) (k : Nat) (x : Stack) : (if (t.setStack k x).obj (0x40100F + 256 * k) = 0
      then (t.setStack k x).setObj (0x40100F + 256 * k) 3 else t.setStack k x).obj r = t.obj r := by
    split
    · exact obj_setObj_other _ (hstack k) 3
    · rfl
  unfold State.resetPart
  refine (hend _).trans ((obj_setObj_other _ hseal 0).trans ((obj_setObj_other _ heclipse _).trans ?_))
  refine (obj_foldl (fun t k => hmem t k _) _ _).trans ((obj_flushQueues _ p hflush).trans ?_)
  exact obj_clearObjs _ _ _

end

/-! ### An uncontained fault (09 R213) -/

/-- The fault is recorded and counted; then the partition is reset. -/
def State.uncontainedRaised (s : State) (k fault : Nat) : State :=
  (s.raiseQuad (k / 5) 0x0306 3 ucHbm k 0 (k + fault * 2 ^ 8)).bump 0x400008 1

theorem uncontained_eq (s : State) (k fault : Nat) : s.uncontained k fault = (s.uncontainedRaised k fault).resetPart (s.partOfStack k) := rfl

section
variable (s : State) (k fault : Nat)

theorem view_uncontainedRaised {ar : Area} (hA : ar ∉ Area.raising) : view ar (s.uncontainedRaised k fault) = view ar s := by
  unfold State.uncontainedRaised
  rw [view_bump (by simp at hA ⊢; tauto), view_raiseQuad hA]

theorem obj_uncontainedRaised {r : Nat} (hr : r ∉ raisedObjs) (hcount : r ≠ 0x400008) : (s.uncontainedRaised k fault).obj r = s.obj r :=
  (obj_bump_other _ hcount 1).trans (obj_raiseQuad s hr (by decide) _ _ _ _ _ _)

theorem partOfQuad_uncontainedRaised (q : Nat) : (s.uncontainedRaised k fault).partOfQuad q = s.partOfQuad q := by
  unfold State.partOfQuad State.layout
  rw [obj_uncontainedRaised s k fault (by decide) (by decide)]

theorem partOfQuad_lt (q : Fin 4) : s.partOfQuad q < 4 := by
  have hq := q.isLt
  unfold State.partOfQuad layoutPartOf
  split <;> [decide; split <;> omega]

theorem mem_quadsOf (p : Nat) (q : Nat) : (s.quadsOf p).contains q = decide (q < 4 ∧ s.partOfQuad q = p) := by
  unfold State.quadsOf
  simp [List.contains_eq_mem, List.mem_filter]

theorem mem_stacksOf (p : Nat) (j : Nat) : (s.stacksOf p).contains j = decide (j < 20 ∧ s.partOfStack j = p) := by
  unfold State.stacksOf
  simp [List.contains_eq_mem, List.mem_filter]

theorem quadsOf_uncontainedRaised (p : Nat) : (s.uncontainedRaised k fault).quadsOf p = s.quadsOf p :=
  List.filter_congr fun q _ => by rw [partOfQuad_uncontainedRaised]

theorem stacksOf_uncontainedRaised (p : Nat) : (s.uncontainedRaised k fault).stacksOf p = s.stacksOf p :=
  List.filter_congr fun j _ => congrArg (· == p) (partOfQuad_uncontainedRaised s k fault (j / 5))

theorem part_uncontainedRaised (j : Nat) : (s.uncontainedRaised k fault).part j = s.part j :=
  part_of_view (view_uncontainedRaised s k fault (by decide)) j

theorem part_uncontained_same : (s.uncontained k fault).part (s.partOfStack k) = { Part.init with
    ikey := (s.part (s.partOfStack k)).ikey, reportNo := (s.part (s.partOfStack k)).reportNo
    cardTimes := (s.part (s.partOfStack k)).cardTimes } := by
  unfold State.part
  rw [uncontained_eq, parts_resetPart, SMap.get_set_same, part_uncontainedRaised]
  rfl

theorem onlyParts_uncontained : OnlyParts [s.partOfStack k] s (s.uncontained k fault) := by
  intro j hj
  rw [List.mem_singleton] at hj
  rw [← part_uncontainedRaised s k fault j]
  unfold State.part
  rw [uncontained_eq, parts_resetPart, SMap.get_set_other hj]

theorem loom_uncontained (l : LoomId) :
    (s.uncontained k fault).loom l = if s.partOfQuad l.q = s.partOfStack k then Loom.init else s.loom l := by
  have hlooms : (s.uncontainedRaised k fault).looms = s.looms := view_uncontainedRaised (ar := .looms) s k fault (by decide)
  have hkey : loomKey l / 500 = l.q := by
    have hr := l.r.isLt
    have hc := l.c.isLt
    unfold loomKey
    omega
  unfold State.loom
  rw [uncontained_eq, looms_resetPart, SMap.get_drop, quadsOf_uncontainedRaised, mem_quadsOf, hlooms, hkey]
  simp [l.q.isLt]

theorem hbm_uncontained {j o : Nat} (hj : j < 20) (ho : o < 2 ^ 36) : SMap.get 0 (s.uncontained k fault).hbm (hbmKey j o)
    = if s.partOfStack j = s.partOfStack k then 0 else SMap.get 0 s.hbm (hbmKey j o) := by
  have hhbm : (s.uncontainedRaised k fault).hbm = s.hbm := view_uncontainedRaised (ar := .hbm) s k fault (by decide)
  have hkey : hbmKey j o / 2 ^ 36 = j := by
    unfold hbmKey
    omega
  rw [uncontained_eq, hbm_resetPart, SMap.get_drop, stacksOf_uncontainedRaised, mem_stacksOf, hhbm, hkey]
  simp [hj]

variable {k} (hk : k < 20)
include hk

theorem partOfStack_lt : s.partOfStack k < 4 := partOfQuad_lt s ⟨k / 5, by omega⟩

theorem counted_uncontained : Counted s (s.uncontained k fault) 0x400008 1 := by
  have hp := partOfStack_lt s hk
  have hkeeps (quads stks : List Nat) : resetClears (s.partOfStack k) quads stks 0x400008 = false := by
    simp [resetClears]
    exact ⟨⟨by omega, fun q _ => by omega⟩, fun j _ => by omega⟩
  have hcharge : ¬ chargesObj (s.partOfStack k) 0x400008 := by
    simp
    omega
  unfold Counted
  rw [uncontained_eq, obj_resetPart _ _ (by simp; omega) (by omega), hkeeps, if_neg Bool.false_ne_true,
    obj_resetBegun _ _ hcharge (by omega)]
  exact (obj_bump_same _ _ _).trans (by rw [obj_raiseQuad s (by decide) (by decide)])

theorem jobState_uncontained : (s.uncontained k fault).jobState (s.partOfStack k) = 0 := by
  have hp := partOfStack_lt s hk
  have hclears (quads stks : List Nat) : resetClears (s.partOfStack k) quads stks (0x907001 + 256 * s.partOfStack k) = true := by
    simp [resetClears]
  unfold State.jobState
  rw [uncontained_eq, obj_resetPart _ _ (by simp; omega) (by omega), hclears, if_pos rfl]
  generalize s.partOfStack k = p at hp ⊢
  interval_cases p <;> decide +kernel

/-- An uncontained fault, whichever of the three it is (09 R213; 01 R26). -/
theorem uncontained_resets : Counted s (s.uncontained k fault) 0x400008 1
    ∧ (s.uncontained k fault).part (s.partOfStack k) = { Part.init with
        ikey := (s.part (s.partOfStack k)).ikey, reportNo := (s.part (s.partOfStack k)).reportNo
        cardTimes := (s.part (s.partOfStack k)).cardTimes }
    ∧ (s.uncontained k fault).jobState (s.partOfStack k) = 0 ∧ OnlyParts [s.partOfStack k] s (s.uncontained k fault)
    ∧ (∀ l : LoomId, s.partOfQuad l.q = s.partOfStack k → (s.uncontained k fault).loom l = Loom.init)
    ∧ (∀ l : LoomId, s.partOfQuad l.q ≠ s.partOfStack k → (s.uncontained k fault).loom l = s.loom l)
    ∧ (∀ j o, j < 20 → o < 2 ^ 36 → s.partOfStack j = s.partOfStack k → SMap.get 0 (s.uncontained k fault).hbm (hbmKey j o) = 0)
    ∧ (∀ j o, j < 20 → o < 2 ^ 36 → s.partOfStack j ≠ s.partOfStack k →
        SMap.get 0 (s.uncontained k fault).hbm (hbmKey j o) = SMap.get 0 s.hbm (hbmKey j o)) :=
  ⟨counted_uncontained s fault hk, part_uncontained_same s k fault, jobState_uncontained s fault hk, onlyParts_uncontained s k fault,
   fun l h => by rw [loom_uncontained, if_pos h], fun l h => by rw [loom_uncontained, if_neg h],
   fun _ _ hj ho h => by rw [hbm_uncontained s k fault hj ho, if_pos h], fun _ _ hj ho h => by rw [hbm_uncontained s k fault hj ho, if_neg h]⟩

end

/-- Settles O51: the three commands differ in the fault's number only. -/
theorem uncontainedFaultsReset : Obligations.UncontainedFaultsReset := by
  intro k c hc s hup
  have hexec : ∃ fault, exec c s = .next (if s.stackUp k then s.uncontained k fault else s) := by
    simp only [List.mem_cons, List.not_mem_nil, or_false] at hc
    obtain rfl | rfl | rfl := hc
    · exact ⟨3, rfl⟩
    · exact ⟨2, rfl⟩
    · exact ⟨4, rfl⟩
  obtain ⟨fault, hexec⟩ := hexec
  rw [if_pos hup] at hexec
  exact ⟨_, hexec, uncontained_resets s fault k.isLt⟩

end Sys2Proof.Machine
end

section
/-! SUPPORT. No command changes the queue of commands (log 1): one case for each command, by what its operations change. -/

namespace Sys2Proof.Machine

open Sys2Proof

theorem view_outOfReach {ar : Area} (hA : ar ∉ Area.raising) (s : State) (who : Requester) (w : Nat) :
    view ar (s.outOfReach who w) = view ar s := by
  cases who with
  | loom l => exact view_raiseQuad hA ..
  | copy j => exact view_raiseQuad hA ..
  | engine => rfl
  | hub => rfl

theorem queue_pwrokRise (mgtId : BitVec 3) (pufOk : Bool) (s : State) :
    ∃ t, exec (.pwrokRise mgtId pufOk) s = .next t ∧ view .queue t = view .queue s := by
  have hboot (u : State) : view .queue (u.bootSecurity pufOk).bootRom = view .queue u :=
    (view_bootRom (by decide) _).trans (view_bootSecurity (by decide) ..)
  refine ⟨_, rfl, ?_⟩
  split
  · rfl
  · dsimp only
    split
    · exact hboot _
    · exact (view_bootFirmware (by decide) _).trans (hboot _)

theorem queue_slotForward (q : Fin 4) (r : Fin 20) (c : Fin 25) (ecc : Ecc) (noise : Word512) (s : State) :
    ∃ t, exec (.slotForward q r c ecc noise) s = .next t ∧ view .queue t = view .queue s := by
  have hout (good : List RWord) (t : Nat) (l : LoomId) (n : List Nat) (x : State × List (Nat × FWord × BitVec 10)) :
      view .queue (n.foldl (fun x o => x.1.slotOut l good t noise x.2 o) x).1 = view .queue x.1 := by
    induction n generalizing x with
    | nil => rfl
    | cons o n ih => exact (ih _).trans (view_slotOut (by decide) ..)
  refine ⟨_, rfl, ?_⟩
  split
  · dsimp only
    split
    · simp [view_tableEcc, view_foldl, view_collide, view_crcDrop, view_setQuad, view_promoteSums]
    · rw [hout]
      simp [view_tableEcc, view_foldl, view_collide, view_crcDrop, view_setQuad, view_promoteSums]
  · rfl

theorem queue_segmentRequest (l : LoomId) (perLoom : Bool) (missing : List (BitVec 12)) (s : State) :
    ∃ t, exec (.segmentRequest l perLoom missing) s = .next t ∧ view .queue t = view .queue s := by
  refine ⟨_, rfl, ?_⟩
  dsimp only
  split
  · rfl
  · refine view_viaBridge (by decide) _ _ _ _ _ _ (fun t => ?_) (fun _ => rfl)
    (repeat' split) <;> simp [view_modArming, view_armFails, view_foldl, view_emit]

theorem queue_signatureComplete (programmed : List Bool) (s : State) :
    ∃ t, exec (.signatureComplete programmed) s = .next t ∧ view .queue t = view .queue s := by
  refine ⟨_, rfl, view_ifRuns _ _ ?_⟩
  split
  · rfl
  next r b rest _ =>
    dsimp only
    split
    · exact view_refuseSignature (ar := .queue) (by decide) ..
    · have hleaf := view_takeLeaf (ar := .queue) (by decide) { s with sec := { s.sec with queue := rest } } programmed
      split
      next u i he =>
        rw [he] at hleaf
        simp [view_lowLeaves, view_deliver, hleaf]
        rfl
      next u he =>
        rw [he] at hleaf
        simp [view_refuseSignature, view_raiseDevice, view_setObj, hleaf]
        rfl

/-! ### Every command -/

theorem queue_exec (c : Instr) (s : State) : ∃ t, exec c s = .next t ∧ view .queue t = view .queue s := by
  cases c with
  | pwrokRise mgtId pufOk => exact queue_pwrokRise mgtId pufOk s
  | pwrokFall => exact ⟨_, rfl, by split <;> rfl⟩
  | timeBaseLock => exact ⟨_, rfl, by simp [view_ite, view_upd_timeLocked_ns]⟩
  | firmwareReady => exact ⟨_, rfl, by simp [view_endStep, view_raiseDevice, view_enterFailed, view_ite, view_upd_fwUp_stepStart_flash]⟩
  | clockGo => exact ⟨_, rfl, view_writeTo (by decide) ..⟩
  | clockLockEnd => exact ⟨_, rfl, by simp [view_endStep, view_foldl, view_raiseDevice, view_ite, view_upd_phase_pllsOn_clockNs_quads]⟩
  | hbmGo => exact ⟨_, rfl, view_writeTo (by decide) ..⟩
  | hbmTrainingComplete => exact ⟨_, rfl, by simp [view_stackTrained, view_endStep, view_applyIfWaiting, view_ite]⟩
  | bistGo => exact ⟨_, rfl, view_writeTo (by decide) ..⟩
  | bistGroupComplete => exact ⟨_, rfl, by (repeat' split) <;> simp [view_bistGroupEnds, view_endStep,
      view_upd_pllsOn_trip_bistGroup_hbmLeft_katRound_katQuads_hbm_hbmPoison_scans]⟩
  | repairGo => exact ⟨_, rfl, view_writeTo (by decide) ..⟩
  | katGo => exact ⟨_, rfl, view_writeTo (by decide) ..⟩
  | katRunComplete => exact ⟨_, rfl, by simp [view_foldl, view_katEngineFails, view_katLoomFails, view_mapQuad, view_katFailed,
      view_applyIfWaiting, view_katScratch, view_endStep, view_startSeal, view_katLooms, view_bump, view_ite, view_upd_katRound_katQuads_katTries,
      view_upd_pllsOn_trip_bistGroup_hbmLeft_katRound_katQuads_hbm_hbmPoison_scans]⟩
  | managementTick => exact ⟨_, rfl, by simp [view_atLeast, view_bump, view_foldl, view_hubCorrected, view_secondEnds, view_bytesSecond,
      view_applyBuffered, view_sealTick, view_readyTick, view_publish, view_ite]⟩
  | boundSecond => exact ⟨_, rfl, by simp [view_showReadings, view_bump, view_setObj, view_raiseDevice, view_ite,
      view_upd_hotNow_wasOutside_warned_tjSecond_warmNow_drooped_assayGap]⟩
  | sensorPoll => exact ⟨_, rfl, by simp [view_setObj, view_raiseDevice, view_endStep, view_ite,
      view_upd_hotNow_wasOutside_warned_tjSecond_warmNow_drooped_assayGap,
      view_upd_pllsOn_trip_bistGroup_hbmLeft_katRound_katQuads_hbm_hbmPoison_scans]⟩
  | thermalTrip => exact ⟨_, rfl, by (repeat' split) <;> simp [view_setObj, view_foldl, view_portHeld, view_resetAll, view_stopRunningSteps,
      view_applyIfWaiting, view_upd_pllsOn_trip_bistGroup_hbmLeft_katRound_katQuads_hbm_hbmPoison_scans]⟩
  | droopStretch => exact ⟨_, rfl, by simp [view_setQuad, view_bump, view_ite,
      view_upd_hotNow_wasOutside_warned_tjSecond_warmNow_drooped_assayGap]⟩
  | boundaryMark => exact ⟨_, rfl, by simp [view_passCycles, view_setQuad, view_ite]⟩
  | orbitBoundary => exact ⟨_, rfl, by simp [view_passCycles, view_setQuad, view_ite]⟩
  | orbitHoldRelease => exact ⟨_, rfl, by simp [view_setQuad, view_bump, view_setObj, view_slip, view_ite]⟩
  | apply => exact ⟨_, rfl, view_writeTo (by decide) ..⟩
  | layoutApplyComplete => exact ⟨_, rfl, by simp [view_zeroFillEnds, view_setObj, view_ite]⟩
  | zeroFillComplete => exact ⟨_, rfl, by simp [view_zeroFillEnds, view_ite]⟩
  | stepStart => exact ⟨_, rfl, by simp [view_haltJob, view_beginStep, view_ite]⟩
  | scaleFill => exact ⟨_, rfl, by simp [view_bump, view_setObj, view_setExState, view_modPart, view_openContributions, view_beginAttempt,
      view_ite]⟩
  | wait => exact ⟨_, rfl, by simp [view_descriptor, view_reject, view_controlDone, view_ite]⟩
  | waitCycle => exact ⟨_, rfl, by simp [view_descriptor, view_controlDone, view_ite]⟩
  | waitCycleExpiry => exact ⟨_, rfl, by split <;> simp [view_passCycles, view_setLoom, view_ite]⟩
  | loop => exact ⟨_, rfl, by simp [view_descriptor, view_reject, view_controlDone, view_ite]⟩
  | loopEnd => exact ⟨_, rfl, view_descriptor (by decide) _ _ _ _ _ fun t d => by dsimp only; (repeat' split) <;> simp [view_reject,
      view_controlDone]⟩
  | endProgram => exact ⟨_, rfl, by simp [view_descriptor, view_reject, view_controlDone, view_ite]⟩
  | matmul => exact ⟨_, rfl, view_descriptor (by decide) _ _ _ _ _ fun t d => by (repeat' split) <;> simp [view_reject, view_toUnit,
      view_setLoom]⟩
  | chain => exact ⟨_, rfl, view_descriptor (by decide) _ _ _ _ _ fun t d => by (repeat' split) <;> simp [view_reject, view_toUnit]⟩
  | dmaToLocal => exact ⟨_, rfl, view_dmaOp (by decide) ..⟩
  | dmaToHbm => exact ⟨_, rfl, view_dmaOp (by decide) ..⟩
  | dmaTransposed => exact ⟨_, rfl, view_dmaOp (by decide) ..⟩
  | add => exact ⟨_, rfl, view_vectorVals (by decide) ..⟩
  | sub => exact ⟨_, rfl, view_vectorVals (by decide) ..⟩
  | mul => exact ⟨_, rfl, view_vectorVals (by decide) ..⟩
  | fma => exact ⟨_, rfl, view_vectorVals (by decide) ..⟩
  | min => exact ⟨_, rfl, view_vectorVals (by decide) ..⟩
  | max => exact ⟨_, rfl, view_vectorVals (by decide) ..⟩
  | abs => exact ⟨_, rfl, view_vectorVals (by decide) ..⟩
  | neg => exact ⟨_, rfl, view_vectorVals (by decide) ..⟩
  | cmplt => exact ⟨_, rfl, by simp [view_vectorOp, view_vecMask]⟩
  | cmpeq => exact ⟨_, rfl, by simp [view_vectorOp, view_vecMask]⟩
  | sel => exact ⟨_, rfl, view_vectorVals (by decide) ..⟩
  | cvt => exact ⟨_, rfl, view_vectorVals (by decide) ..⟩
  | exp2 => exact ⟨_, rfl, view_vectorVals (by decide) ..⟩
  | log2 => exact ⟨_, rfl, view_vectorVals (by decide) ..⟩
  | rcp => exact ⟨_, rfl, view_vectorVals (by decide) ..⟩
  | rsqrt => exact ⟨_, rfl, view_vectorVals (by decide) ..⟩
  | tanh => exact ⟨_, rfl, view_vectorVals (by decide) ..⟩
  | rsum => exact ⟨_, rfl, view_vectorVals (by decide) ..⟩
  | rmin => exact ⟨_, rfl, view_vectorVals (by decide) ..⟩
  | rmax => exact ⟨_, rfl, view_vectorVals (by decide) ..⟩
  | wsum => exact ⟨_, rfl, by simp [view_vectorOp, view_vecWide]⟩
  | wadd => exact ⟨_, rfl, by simp [view_vectorOp, view_vecWide]⟩
  | toT32 => exact ⟨_, rfl, by simp [view_vectorOp, view_vecT32]⟩
  | toVote => exact ⟨_, rfl, by simp [view_vectorOp, view_vecVote]⟩
  | stationaryPreload => exact ⟨_, rfl, by (repeat' split) <;> simp [view_found, view_setLoom]⟩
  | tilePassIssue => exact ⟨_, rfl, by dsimp only; (repeat' split) <;> simp [view_found, view_fp32Product, view_arrayPass, view_loomPoison]⟩
  | shadowDrainComplete => exact ⟨_, rfl, by dsimp only; (repeat' split) <;> simp [view_found, view_chainShort, view_drainChain, view_drainLocal,
      view_loomPoison]⟩
  | assayVerdict => exact ⟨_, rfl, by dsimp only; (repeat' split) <;> simp [view_tableWord, view_laneFails, view_chargeVerdict, view_setLoom,
      view_bump, view_verdictFails]⟩
  | chainWordArrival => exact ⟨_, rfl, by dsimp only; (repeat' split) <;> simp [view_setLoom, view_chainMiss, view_found, view_promoteSums,
      view_hop]⟩
  | descriptorComplete => exact ⟨_, rfl, by (repeat' split) <;> simp [view_transfer, view_setLoom, view_loomTrace, view_pad, view_ite]⟩
  | commitWaitEnd => exact ⟨_, rfl, by dsimp only; (repeat' split) <;> simp [view_transfer, view_setLoom]⟩
  | slotForward q r c ecc noise => exact queue_slotForward q r c ecc noise s
  | creditedForward => exact ⟨_, rfl, by dsimp only; (repeat' split) <;> simp [view_setQuad, view_replayed, view_creditedLeaves]⟩
  | observationForward => exact ⟨_, rfl, by dsimp only; (repeat' split) <;> simp [view_setQuad, view_observationLeaves, view_observationLost,
      view_setLoom]⟩
  | bridgeArrival => exact ⟨_, rfl, by dsimp only; split <;> simp [view_ifRuns, view_pushItem, view_missFrom, view_passQueue, view_bump,
      view_raiseQuad, view_slip, view_ite, view_upd_sec_tests_quads_looms_held_cloops_bridgeBufs_bridgeAir_owedStalls_stalls]⟩
  | bridgeRelease => exact ⟨_, rfl, by simp [view_foldl, view_putWord, view_ite,
      view_upd_sec_tests_quads_looms_held_cloops_bridgeBufs_bridgeAir_owedStalls_stalls]⟩
  | creditReturn => exact ⟨_, rfl, by simp [view_ifRuns, view_setCloop, view_pfcCheck, view_setStack, view_serveAsking, view_ite]⟩
  | queuePush => exact ⟨_, rfl, by simp [view_setDcq, view_pushItem, view_ite]⟩
  | queuePop => exact ⟨_, rfl, by dsimp only; (repeat' split) <;> simp [view_emit, view_setDcq, view_itemEcc, view_loopMoved, view_consumeItem,
      view_releaseQueue]⟩
  | flush => exact ⟨_, rfl, by simp [view_ifRuns, view_setDcq, view_bump, view_loopLost, view_reportLoss, view_ite]⟩
  | flushEnd => exact ⟨_, rfl, by simp [view_ifRuns, view_setDcq, view_releaseQueue, view_ite]⟩
  | hbmRead => exact ⟨_, rfl, view_ifRuns _ _ (by (repeat' split) <;> simp [view_outOfReach, view_bufferError, view_request])⟩
  | hbmWrite => exact ⟨_, rfl, view_ifRuns _ _ (by split <;> simp [view_outOfReach, view_request])⟩
  | writeBack => exact ⟨_, rfl, by simp [view_setStack, view_serveRefresh, view_moved, view_ite]⟩
  | patrolScrub => exact ⟨_, rfl, by simp [view_serveReady, view_checkWord, view_moved, view_bump, view_ite]⟩
  | refresh => exact ⟨_, rfl, by simp [view_ifRuns, view_setStack, view_serveReady, view_ite]⟩
  | hbmTempPoll => exact ⟨_, rfl, by simp [view_ifRuns, view_setObj, view_bump, view_raiseTemp, view_ite]⟩
  | hbmRequestTimeout => exact ⟨_, rfl, by simp [view_uncontained, view_ite]⟩
  | phyLockLoss => exact ⟨_, rfl, by simp [view_uncontained, view_ite]⟩
  | caParityError => exact ⟨_, rfl, by simp [view_uncontained, view_ite]⟩
  | ephemerisMergeComplete => exact ⟨_, rfl, by simp [view_mergeLoom, view_ite]⟩
  | rowFinal => exact ⟨_, rfl, by simp [view_finaliseRow, view_ite]⟩
  | forwardCopy => exact ⟨_, rfl, by simp [view_copyAll, view_modPart, view_ite]⟩
  | updateStart => exact ⟨_, rfl, by dsimp only; (repeat' split) <;> simp [view_cmdFinished, view_frozenWrite, view_traceCommand,
      view_runCommand]⟩
  | updateFinish => exact ⟨_, rfl, by simp [view_foldl, view_setObj, view_modPart, view_ite]⟩
  | foldComplete => exact ⟨_, rfl, by simp [view_foldStep, view_ite]⟩
  | auditComplete => exact ⟨_, rfl, by simp [view_bump, view_setObj, view_foldl, view_violate, view_modPart, view_ite]⟩
  | stepBoundary => exact ⟨_, rfl, by simp [view_boundary, view_ite]⟩
  | segmentReceive => exact ⟨_, rfl, by simp [view_viaBridge, view_setLoom, view_askSegments, view_ite]⟩
  | endOfSpaceResend => exact ⟨_, rfl, by simp [view_emit, view_modArming, view_ite]⟩
  | segmentTimeout => exact ⟨_, rfl, by simp [view_atLeast, view_setLoom, view_askSegments, view_ite]⟩
  | segmentRequest l perLoom missing => exact queue_segmentRequest l perLoom missing s
  | broadcastTimeout => exact ⟨_, rfl, by dsimp only; split <;> simp [view_atLeast, view_armFails]⟩
  | digestReport => exact ⟨_, rfl, by simp [view_viaBridge, view_found, view_setLoom, view_armFingerprints, view_modArming, view_emits,
      view_armFails, view_ite]⟩
  | load => exact ⟨_, rfl, by simp [view_ctlArrives, view_loadMessage]⟩
  | loadAmend => exact ⟨_, rfl, by simp [view_ctlArrives, view_loadMessage]⟩
  | arm => exact ⟨_, rfl, by simp [view_ctlArrives, view_armMessage]⟩
  | armComplete => exact ⟨_, rfl, by simp [view_setJobState, view_report, view_modArming, view_raisePart, view_ite]⟩
  | start => exact ⟨_, rfl, by simp [view_ctlArrives, view_startMessage]⟩
  | stepLimit => exact ⟨_, rfl, by simp [view_ctlArrives, view_stepLimitMessage]⟩
  | checkpointTake => exact ⟨_, rfl, by simp [view_ctlArrives, view_checkpointMessage]⟩
  | checkpointRelease => exact ⟨_, rfl, by simp [view_ctlArrives, view_checkpointMessage]⟩
  | halt => exact ⟨_, rfl, by simp [view_ctlArrives, view_haltMessage]⟩
  | haltUnload => exact ⟨_, rfl, by simp [view_ctlArrives, view_haltMessage]⟩
  | query => exact ⟨_, rfl, by simp [view_ctlArrives, view_queryMessage]⟩
  | fieldTest => exact ⟨_, rfl, by simp [view_ctlArrives, view_fieldTestMessage]⟩
  | fieldTestStart => exact ⟨_, rfl, by split <;> simp [view_setLoom, view_ite, view_upd_fresh_sec,
      view_upd_sec_tests_quads_looms_held_cloops_bridgeBufs_bridgeAir_owedStalls_stalls]⟩
  | fieldTestComplete => exact ⟨_, rfl, by split <;> simp [view_bump, view_setObj, view_raisePart, view_modPart, view_endPause, view_restoreLoom,
      view_ite, view_upd_sec_tests_quads_looms_held_cloops_bridgeBufs_bridgeAir_owedStalls_stalls]⟩
  | fieldTestOverdue => exact ⟨_, rfl, by split <;> simp [view_atLeast, view_raisePart,
      view_upd_sec_tests_quads_looms_held_cloops_bridgeBufs_bridgeAir_owedStalls_stalls]⟩
  | serviceRdmaWrite => exact ⟨_, rfl, by simp [view_pktArrives, view_rxServiceWrite]⟩
  | ringFillComplete => exact ⟨_, rfl, by simp [view_pktArrives, view_rxRingFill]⟩
  | rdmaReadRequest => exact ⟨_, rfl, by simp [view_pktArrives, view_rxReadRequest]⟩
  | enableControlChannel => exact ⟨_, rfl, view_writeTo (by decide) ..⟩
  | stopControlChannel => exact ⟨_, rfl, view_writeTo (by decide) ..⟩
  | controlChannelRecreate => exact ⟨_, rfl, by simp [view_newControlQp, view_ite]⟩
  | call => exact ⟨_, rfl, by simp [view_atLeast, view_sendCall, view_ite]⟩
  | init => exact ⟨_, rfl, by simp [view_keyxArrives, view_rxInit]⟩
  | finish => exact ⟨_, rfl, by simp [view_keyxArrives, view_rxFinish]⟩
  | card => exact ⟨_, rfl, by simp [view_keyxArrives, view_rxCard]⟩
  | cipher => exact ⟨_, rfl, by simp [view_keyxArrives, view_rxCipher]⟩
  | cardResend => exact ⟨_, rfl, by simp [view_sendCards, view_ite]⟩
  | keyExchangeTimeout => exact ⟨_, rfl, by dsimp only; split <;> simp [view_atLeast, view_armFails]⟩
  | signatureComplete programmed => exact queue_signatureComplete programmed s
  | enablePort => exact ⟨_, rfl, view_writeTo (by decide) ..⟩
  | stopPort => exact ⟨_, rfl, view_writeTo (by decide) ..⟩
  | functionStopComplete => exact ⟨_, rfl, by split <;> simp [view_setObj, view_eraseChannel, view_modPart, view_newLoop, view_ite]⟩
  | trainingAttemptComplete => exact ⟨_, rfl, by dsimp only; (repeat' split) <;> simp [view_showLanes, view_setLink, view_linkComesUp,
      view_dropLink, view_portTrained]⟩
  | linkDown => exact ⟨_, rfl, by simp [view_dropLink, view_bump, view_trainLink, view_linkEvent, view_foldl, view_moveQp, view_ite]⟩
  | lldpTransmit => exact ⟨_, rfl, by simp [view_sendFrame, view_ite]⟩
  | lldpReceive => exact ⟨_, rfl, by simp [view_portIn, view_neighbour, view_ite]⟩
  | neighbourExpiry => exact ⟨_, rfl, by split <;> simp [view_atLeast, view_setLink, view_setObj, view_neighbourChange]⟩
  | gatewayResolve => exact ⟨_, rfl, by simp [view_foldl, view_setLink, view_sendArp, view_ite]⟩
  | arpNdReceive => exact ⟨_, rfl, by split <;> simp [view_rxFrame, view_arpTaken, view_emit, view_ite]⟩
  | pfcReceive => exact ⟨_, rfl, by simp [view_setLink, view_release, view_rxDrop, view_ite]⟩
  | greetingReceive => exact ⟨_, rfl, by simp [view_arrives, view_rxGreeting]⟩
  | greetingPeriod => exact ⟨_, rfl, by split <;> [exact view_foldl (fun _ _ => view_foldl (fun _ _ => view_greet (by decide) ..) _ _) _ _; rfl]⟩
  | rollCallTimeout => exact ⟨_, rfl, by dsimp only; (repeat' split) <;> simp [view_atLeast, view_setObj, view_haltJob]⟩
  | data => exact ⟨_, rfl, view_chunkArrives (by decide) ..⟩
  | close => exact ⟨_, rfl, view_chunkArrives (by decide) ..⟩
  | done => exact ⟨_, rfl, view_chunkArrives (by decide) ..⟩
  | result => exact ⟨_, rfl, view_chunkArrives (by decide) ..⟩
  | tallyAdd => exact ⟨_, rfl, by split <;> simp [view_modPart, view_tallyFreed, view_tallyTake, view_bump, view_raisePart, view_chargeFault,
      view_ite]⟩
  | exchangeWindowOpen => exact ⟨_, rfl, by dsimp only; (repeat' split) <;> simp [view_setPart]⟩
  | storeReport => exact ⟨_, rfl, by simp [view_viaBridge, view_modPart, view_setLoom, view_ite]⟩
  | sendEntryStart => exact ⟨_, rfl, by dsimp only; (repeat' split) <;> simp [view_setPart, view_sendEntry]⟩
  | closeSend => exact ⟨_, rfl, by dsimp only; (repeat' split) <;> simp [view_setPart, view_consumePoison, view_postToWindow]⟩
  | commitSend => exact ⟨_, rfl, by simp [view_consumePoison, view_sendMarker, view_setExState, view_modPart, view_addMarker, view_commitCheck,
      view_ite]⟩
  | commitReceive => exact ⟨_, rfl, by simp [view_pktArrives, view_rxCommit]⟩
  | abortReceive => exact ⟨_, rfl, by simp [view_pktArrives, view_rxAbort]⟩
  | markerTimeout => exact ⟨_, rfl, by dsimp only; (repeat' split) <;> simp [view_atLeast, view_silence, view_raisePart, view_haltJob]⟩
  | ack => exact ⟨_, rfl, by simp [view_pktArrives, view_rxAck]⟩
  | nak => exact ⟨_, rfl, by simp [view_pktArrives, view_rxNak]⟩
  | rnrNak => exact ⟨_, rfl, by simp [view_pktArrives, view_rxRnrNak]⟩
  | rnrRetry => exact ⟨_, rfl, by simp [view_setPart, view_resend, view_ite]⟩
  | rtoExpiry => exact ⟨_, rfl, by dsimp only; (repeat' split) <;> simp [view_setPart, view_pathFailed, view_resend]⟩
  | ackCoalesceExpiry => exact ⟨_, rfl, by simp [view_setPart, view_sendAck, view_ite]⟩
  | cnp => exact ⟨_, rfl, by simp [view_pktArrives, view_rxCnp]⟩
  | rateRecovery => exact ⟨_, rfl, by simp [view_atLeast, view_modPart, view_ite]⟩
  | read => exact ⟨_, rfl, view_serve (by decide) ..⟩
  | write => exact ⟨_, rfl, view_serve (by decide) ..⟩
  | blockRead => exact ⟨_, rfl, view_serve (by decide) ..⟩
  | stagedWrite => exact ⟨_, rfl, view_serve (by decide) ..⟩
  | commit => exact ⟨_, rfl, view_serve (by decide) ..⟩
  | stagingExpiry => exact ⟨_, rfl, by simp [view_atLeast, view_modNode, view_ite]⟩
  | notifyAck => exact ⟨_, rfl, by simp [view_bump, view_crossQueues, view_ite, view_upd_notifySeq_notices]⟩
  | notifyRetry => exact ⟨_, rfl, by split <;> simp [view_atLeast, view_sendDict, view_upd_notifySeq_notices]⟩
  | beaconLoss => exact ⟨_, rfl, by simp [view_setObj, view_bump, view_portEvent, view_ite]⟩
  | beacon => exact ⟨_, rfl, by simp [view_setObj, view_ite]⟩
  | unlock => exact ⟨_, rfl, view_writeTo (by decide) ..⟩
  | guardTimeout => exact ⟨_, rfl, by split <;> simp [view_atLeast, view_modNode]⟩
  | complement => exact ⟨_, rfl, view_writeTo (by decide) ..⟩
  | sealReference => exact ⟨_, rfl, view_writeTo (by decide) ..⟩
  | eventAssert => exact ⟨_, rfl, by (repeat' split) <;> simp [view_across, view_setSource, view_setLevel, view_wakeAll]⟩
  | eventClaim => exact ⟨_, rfl, view_ifPowered _ _ (view_foldl (fun _ _ => view_claim (by decide) ..) _ _)⟩
  | eventComplete => exact ⟨_, rfl, by simp [view_across, view_setSource, view_wakeAll, view_ite]⟩
  | stewardSleep => exact ⟨_, rfl, by simp [view_setSteward, view_wakeAll, view_ite]⟩
  | stewardWatchdogExpiry => exact ⟨_, rfl, by simp [view_deviceFault, view_ite]⟩
  | firmwareImage => exact ⟨_, rfl, view_serve (by decide) ..⟩
  | select => exact ⟨_, rfl, view_writeTo (by decide) ..⟩
  | firmwareCommit => exact ⟨_, rfl, view_writeTo (by decide) ..⟩
  | nonce => exact ⟨_, rfl, view_writeTo (by decide) ..⟩
  | openEk => exact ⟨_, rfl, view_serve (by decide) ..⟩
  | response => exact ⟨_, rfl, view_serve (by decide) ..⟩
  | closeSession => exact ⟨_, rfl, view_writeTo (by decide) ..⟩
  | sessionIdleExpiry => exact ⟨_, rfl, by simp [view_atLeast, view_closeNode, view_ite]⟩
  | assayEnable => exact ⟨_, rfl, view_writeTo (by decide) ..⟩
  | hazardDetectorWrite => exact ⟨_, rfl, view_writeTo (by decide) ..⟩
  | exchangeSettingsWrite => exact ⟨_, rfl, view_writeTo (by decide) ..⟩
  | snapshot => exact ⟨_, rfl, view_writeTo (by decide) ..⟩
  | counterLatch => exact ⟨_, rfl, by split <;> simp [view_setObj, view_ite, view_upd_latched_latchAt]⟩
  | eclipseRequest => exact ⟨_, rfl, view_writeTo (by decide) ..⟩
  | eclipseStop => exact ⟨_, rfl, by dsimp only; split <;> simp [view_passCycles, view_noteStop, view_setObj, view_ite]⟩
  | edgeStop => exact ⟨_, rfl, by simp [view_setObj, view_foldl, view_enterSelfRefresh, view_modPart, view_setEclipse, view_ite,
      view_upd_pllsOn_trip_bistGroup_hbmLeft_katRound_katQuads_hbm_hbmPoison_scans]⟩
  | eclipseScanComplete => exact ⟨_, rfl, by simp [view_foldl, view_scanQuad, view_setEclipse, view_hangSnapshot, view_modPart, view_resumePart,
      view_ite]⟩
  | resume => exact ⟨_, rfl, view_writeTo (by decide) ..⟩
  | release => exact ⟨_, rfl, view_writeTo (by decide) ..⟩
  | hangWatchdogExpiry => exact ⟨_, rfl, by dsimp only; (repeat' split) <;> simp [view_atLeast, view_bump, view_modPart, view_eclipsePart,
      view_hangSnapshot]⟩
  | hangRequest => exact ⟨_, rfl, view_writeTo (by decide) ..⟩
  | bypass => exact ⟨_, rfl, by simp [view_ifPowered, view_jtag]⟩
  | idcode => exact ⟨_, rfl, by simp [view_ifPowered, view_jtag]⟩
  | samplePreload => exact ⟨_, rfl, by simp [view_ifPowered, view_jtagFree]⟩
  | extest => exact ⟨_, rfl, by simp [view_ifPowered, view_jtagFree]⟩
  | clamp => exact ⟨_, rfl, by simp [view_ifPowered, view_jtag]⟩
  | highz => exact ⟨_, rfl, by simp [view_ifPowered, view_jtag]⟩
  | kwfChallenge => exact ⟨_, rfl, by simp [view_ifPowered, view_jtag]⟩
  | kwfUnlock => exact ⟨_, rfl, by simp [view_ifPowered, view_jtag, view_ite, view_upd_fresh_sec]⟩
  | kwfLock => exact ⟨_, rfl, by simp [view_ifPowered, view_jtag, view_upd_fresh_sec]⟩
  | kwfRecover => exact ⟨_, rfl, by simp [view_ifPowered, view_jtag, view_bootRom, view_bootFirmware, view_ite, view_upd_romHold_flash]⟩
  | stewardDebug => exact ⟨_, rfl, by simp [view_ifPowered, view_jtag, view_jtagFree, view_ite]⟩
  | powerLoss => exact ⟨_, rfl, view_tear (ar := .queue) (by decide) ..⟩
  | stewardMemoryUncorrectable => exact ⟨_, rfl, by simp [view_deviceFault, view_ite]⟩
  | managementCollision => exact ⟨_, rfl, by simp [view_bump, view_portEvent, view_ite, view_upd_collided_mergedNow]⟩
  | unsupportedRequest => exact ⟨_, rfl, by simp [view_pktArrives, view_rxUnsupported]⟩
  | pauseFrame => exact ⟨_, rfl, by simp [view_rxDrop, view_ite]⟩
  | testLogicReset => exact ⟨_, rfl, by simp [view_ifPowered, view_upd_fresh_sec]⟩

/-- Settles O1: `step` and `idle` by their definitions, and that a command leaves the rest of the queue alone by `queue_exec`. -/
theorem stepRunsTheFrontCommand : Obligations.StepRunsTheFrontCommand := by
  have hidle (s : State) (h : s.pending = []) : step s = .next s.idle := by
    unfold step
    rw [h]
  refine ⟨fun c s => rfl, fun s h hq hh => ?_, fun s p hq hh hr => ?_, fun s e hq hh hr hp => ?_, fun s hq hh hr hp => ?_,
    fun c s t hexec => ?_⟩
  · simp only [hidle s hq, State.idle, hh]
  · simp only [hidle s hq, State.idle, hh, hr]
  · simp only [hidle s hq, State.idle, hh, hr, hp]
  · simp only [hidle s hq, State.idle, hh, hr, hp]
  · obtain ⟨u, hu, hqueue⟩ := queue_exec c s
    exact Host.Outcome.next.inj (hu.symm.trans hexec) ▸ hqueue

end Sys2Proof.Machine
end

section
/-! SUPPORT. A unit's accesses to its memory while no request waits at a controller (09 R206 to R208): nothing is served before them, so that they read what
stands there, write what they write, and leave looms, partitions and the layout as they are. -/

namespace Sys2Proof.Machine

open Sys2Proof

/-- Nothing waits in `t`, and what places the bytes of a region is as in `s`, as are the looms. -/
structure Calm (s t : State) : Prop where
  quiet : t.quiet
  parts : view .parts t = view .parts s
  layout : t.obj 0x90000A = s.obj 0x90000A
  looms : view .looms t = view .looms s

theorem Calm.refl {s : State} (h : s.quiet) : Calm s s := ⟨h, rfl, rfl, rfl⟩

theorem Calm.trans {s t u : State} (h : Calm s t) (k : Calm t u) : Calm s u :=
  ⟨k.quiet, k.parts.trans h.parts, k.layout.trans h.layout, k.looms.trans h.looms⟩

theorem quiet_of_view {s t : State} (hv : view .stackCtl t = view .stackCtl s) (h : s.quiet) : t.quiet := by
  have hs : t.stackCtl = s.stackCtl := hv
  intro k
  have hk := h k
  unfold State.stack at hk ⊢
  rw [hs]
  exact hk

section
variable {s t : State} (h : Calm s t)
include h

theorem Calm.ite {u : State} (k : Calm s u) (c : Prop) [Decidable c] : Calm s (if c then t else u) := by
  split
  · exact h
  · exact k

theorem Calm.foldl {α : Type} {f : State → α → State} {l : List α} (hf : ∀ a ∈ l, ∀ u, Calm s u → Calm s (f u a)) : Calm s (l.foldl f t) := by
  induction l generalizing t with
  | nil => exact h
  | cons a l ih => exact ih (hf a List.mem_cons_self t h) (fun b hb => hf b (List.mem_cons_of_mem _ hb))

/-- An operation that changes neither looms, partitions, controllers nor the layout. -/
theorem Calm.of_views {u : State} (hstack : view .stackCtl u = view .stackCtl t) (hparts : view .parts u = view .parts t)
    (hlayout : u.obj 0x90000A = t.obj 0x90000A) (hlooms : view .looms u = view .looms t) : Calm s u :=
  h.trans ⟨quiet_of_view hstack h.quiet, hparts, hlayout, hlooms⟩

theorem Calm.setStack (k : Nat) {x : Stack} (hx : x.waiting = []) : Calm s (t.setStack k x) := by
  refine h.trans ⟨fun j => ?_, rfl, rfl, rfl⟩
  by_cases hj : j = k
  · rw [hj, stack_setStack_same, hx]
  · rw [stack_setStack_other t hj, h.quiet j]

theorem Calm.moved (k w n : Nat) : Calm s (t.moved k w n) := h.setStack k (h.quiet k)

theorem Calm.bump {r : Nat} (hr : 0x90000A ≠ r) (n : Nat) : Calm s (t.bump r n) := h.of_views rfl rfl (obj_bump_other t hr n) rfl

theorem Calm.passQueue (q n : Nat) : Calm s (t.passQueue q n) :=
  h.of_views (view_passQueue (by decide) ..) (view_passQueue (by decide) ..) (obj_passQueue t (by decide) q n) (view_passQueue (by decide) ..)

theorem Calm.throughLoop (l n : Nat) : Calm s (t.throughLoop l n) := h.of_views rfl rfl rfl rfl

theorem Calm.pad (p : Nat) (unit : Option (Nat × Nat)) (nth : Nat) : Calm s (t.pad p unit nth) := by
  refine h.of_views (view_pad (by decide) ..) (view_pad (by decide) ..) ?_ (view_pad (by decide) ..)
  unfold State.pad State.owe
  split
  · split
    · dsimp only
      split <;> exact obj_bump_other t (by decide) 1
    · exact obj_bump_other t (by decide) 1
  · rfl

/-! ### What is ready of higher order -/

theorem Calm.serveWriteBacks (k : Nat) : Calm s (t.serveWriteBacks k) :=
  (h.setStack k (x := { t.stack k with writeBacks := [] }) (h.quiet k)).foldl fun w _ _ hu => hu.moved k w 64

theorem Calm.serveRefresh (k : Nat) : Calm s (t.serveRefresh k) := h.setStack k (h.quiet k)

omit h in
/-- With nothing to serve a controller does its refresh and its write-backs. -/
theorem serveReady_quiet (h : t.quiet) (k : Nat) : ∃ x : Stack, x.waiting = []
    ∧ t.serveReady k = ((t.serveRefresh k).serveWriteBacks k).setStack k x := by
  have hnone := (((Calm.refl h).serveRefresh k).serveWriteBacks k).quiet k
  unfold State.serveReady
  dsimp only
  rw [hnone]
  exact ⟨_, rfl, rfl⟩

theorem Calm.serveFirst (k : Nat) : Calm s (t.serveFirst k) := by
  obtain ⟨x, hx, he⟩ := serveReady_quiet h.quiet k
  unfold State.serveFirst
  rw [he]
  exact (((h.serveRefresh k).serveWriteBacks k).setStack k hx).ite h _

theorem hbm_serveFirst (k : Nat) : (t.serveFirst k).hbm = t.hbm := by
  obtain ⟨x, hx, he⟩ := serveReady_quiet h.quiet k
  have hready : view .hbm (t.serveReady k) = view .hbm t := by
    rw [he, view_setStack (by decide), view_serveWriteBacks (by decide), view_serveRefresh (by decide)]
  unfold State.serveFirst
  split
  · exact hready
  · rfl

end

/-! ### The way to a stack -/

/-- The bridges on the way of a request, and for a read of its response. -/
def State.crossBridges (s : State) (who : Requester) (k : Nat) (write : Bool) : State :=
  match bridgesTo who k with
  | some b =>
    let t := (s.throughLoop (s.bridgeLoop b.1 0) 1).throughLoop (s.bridgeLoop b.2 1) 1
    if write then t else (t.throughLoop (t.bridgeLoop b.2 0) 1).throughLoop (t.bridgeLoop b.1 1) 1
  | none => s

/-- The queues on the way, the bridges, then the request credit, and a write's token. -/
theorem crossTo_eq (s : State) (who : Requester) (k : Nat) (write : Bool) : ∃ (l : List Nat) (n : Nat),
    let u : State := (l.foldl (fun (t : State) q => t.passQueue q 1) s).crossBridges who k write
    let v : State := (u.setStack k { u.stack k with owners := (u.stack k).owners.drop n }).throughLoop (loopId 1 (s.partOfStack k) k) 1
    s.crossTo who k write = if write then v.throughLoop (loopId 7 (s.partOfStack k) k) 1 else v := ⟨_, _, rfl⟩

section
variable {s t : State} (h : Calm s t)
include h

theorem Calm.crossBridges (who : Requester) (k : Nat) (write : Bool) : Calm s (t.crossBridges who k write) := by
  unfold State.crossBridges
  split
  · have hthere := fun l m => (h.throughLoop l 1).throughLoop m 1
    exact (hthere _ _).ite (((hthere _ _).throughLoop _ 1).throughLoop _ 1) _
  · exact h

theorem Calm.crossTo (who : Requester) (k : Nat) (write : Bool) : Calm s (t.crossTo who k write) := by
  obtain ⟨l, n, he⟩ := crossTo_eq t who k write
  have hway : Calm s (l.foldl (fun (u : State) q => u.passQueue q 1) t) := h.foldl fun q _ _ hu => hu.passQueue q 1
  have hbridges := hway.crossBridges who k write
  dsimp only at he
  generalize (l.foldl (fun (u : State) q => u.passQueue q 1) t).crossBridges who k write = u at he hbridges
  have hback : Calm s ((u.setStack k { u.stack k with owners := (u.stack k).owners.drop n }).throughLoop (loopId 1 (t.partOfStack k) k) 1) :=
    (hbridges.setStack k (x := { u.stack k with owners := (u.stack k).owners.drop n }) (hbridges.quiet k)).throughLoop _ 1
  rw [he]
  exact (hback.throughLoop _ 1).ite hback _

/-! ### Words -/

theorem Calm.countWord (who : Requester) (k w : Nat) : Calm s (t.countWord who k w) := by
  have hmoved := ((h.serveFirst k).crossTo who k false).moved k w 64
  unfold State.countWord
  dsimp only
  have hpad := fun p unit => hmoved.ite (hmoved.pad p unit 0) (ofLoom who = true)
  exact ((hpad _ _).bump (by omega) 1).ite (hpad _ _) _

theorem hbm_countWord (who : Requester) (k w : Nat) : (t.countWord who k w).hbm = t.hbm := by
  have hv : view .hbm (t.countWord who k w) = view .hbm (t.serveFirst k) := by
    unfold State.countWord
    simp [view_ite, view_bump, view_pad, view_moved, view_crossTo]
  exact hv.trans (hbm_serveFirst h k)

theorem Calm.storeWord {k : Nat} (hk : k < 80) (w o : Nat) (b : Bytes) (poison : Bool) : Calm s (t.storeWord k w o b poison) := by
  have hbytes (hbm : List Host.Cell) (marks : SMap Bool) (l : List Nat) :
      Calm s ({ t with hbm := hbm, hbmPoison := marks }.setStack k { t.stack k with writeBacks := l }) :=
    (h.of_views (u := { t with hbm := hbm, hbmPoison := marks }) rfl rfl rfl rfl).setStack k (h.quiet k)
  unfold State.storeWord
  dsimp only
  exact ((hbytes _ _ _).ite ((hbytes _ _ _).bump (by omega) _) _).moved k w _

theorem Calm.writeWord (who : Requester) {k : Nat} (hk : k < 80) (w o : Nat) (b : Bytes) (poison : Bool) :
    Calm s (t.writeWord who k w o b poison) :=
  ((h.serveFirst k).crossTo (requesterAt who k) k true).storeWord hk w o b poison

theorem hbm_writeWord (who : Requester) (k w o : Nat) (b : Bytes) (poison : Bool) :
    (t.writeWord who k w o b poison).hbm = putBytes t.hbm (hbmKey k (64 * w + o)) b := by
  have hcross : ((t.serveFirst k).crossTo (requesterAt who k) k true).hbm = (t.serveFirst k).hbm := view_crossTo (ar := .hbm) (by decide) ..
  unfold State.writeWord
  rw [hbm_storeWord, hcross, hbm_serveFirst h]

end

end Sys2Proof.Machine
end

section
/-! SUPPORT. Rows of a transfer (04 R95, R96): the pieces of a byte range, the bytes of a region piece by piece, and rows that are written one after another
into local memory. -/

namespace Sys2Proof

/-- What stands behind a write and another one right after it. -/
theorem putBytes_append (m : List Host.Cell) (a : Nat) (b c : Bytes) : putBytes m a (b ++ c) = putBytes (putBytes m a b) (a + b.length) c := by
  induction b generalizing m a with
  | nil => rfl
  | cons x t ih =>
    rw [List.cons_append, putBytes, ih, putBytes, List.length_cons, Nat.add_right_comm, Nat.add_assoc]

theorem length_getBytes (m : List Host.Cell) (a n : Nat) : (getBytes m a n).length = n := by
  unfold getBytes
  rw [List.length_map, List.length_range]

/-- Bytes that a write does not reach. -/
theorem getBytes_putBytes_apart {m : List Host.Cell} {a n c : Nat} {b : Bytes} (h : a + n ≤ c ∨ c + b.length ≤ a) :
    getBytes (putBytes m c b) a n = getBytes m a n := by
  unfold getBytes
  refine List.map_congr_left fun i hi => get_putBytes_outside ?_
  have hlt := List.mem_range.1 hi
  omega

/-! ### Rows one after another -/

section
variable {base : Nat → Nat} {data : Nat → Bytes} {w : Nat} (hlen : ∀ i, (data i).length = w) (hstep : ∀ i, base i + w ≤ base (i + 1))
  (m : List Host.Cell) (n : Nat)

/-- Rows of `w` bytes are written, row i at `base i`. -/
def putRows (base : Nat → Nat) (data : Nat → Bytes) (m : List Host.Cell) (n : Nat) : List Host.Cell :=
  (List.range n).foldl (fun m i => putBytes m (base i) (data i)) m

theorem putRows_succ (base : Nat → Nat) (data : Nat → Bytes) (m : List Host.Cell) (n : Nat) :
    putRows base data m (n + 1) = putBytes (putRows base data m n) (base n) (data n) := by
  unfold putRows
  rw [List.range_succ, List.foldl_append]
  rfl

include hlen in
theorem get_putRows_outside {a : Nat} (h : ∀ i, i < n → a < base i ∨ base i + w ≤ a) :
    SMap.get 0 (putRows base data m n) a = SMap.get 0 m a := by
  induction n with
  | zero => rfl
  | succ n ih =>
    rw [putRows_succ, get_putBytes_outside (by rw [hlen]; exact h n (Nat.lt_succ_self n))]
    exact ih fun i hi => h i (Nat.lt_succ_of_lt hi)

include hstep

theorem base_mono {i j : Nat} (h : i < j) : base i + w ≤ base j := by
  induction j with
  | zero => exact absurd h (Nat.not_lt_zero i)
  | succ j ih =>
    rcases Nat.lt_succ_iff_lt_or_eq.1 h with hlt | rfl
    · have := ih hlt
      have := hstep j
      omega
    · exact hstep i

include hlen

theorem getBytes_putRows {i : Nat} (h : i < n) : getBytes (putRows base data m n) (base i) w = data i := by
  induction n with
  | zero => exact absurd h (Nat.not_lt_zero i)
  | succ n ih =>
    rw [putRows_succ]
    rcases Nat.lt_succ_iff_lt_or_eq.1 h with hlt | rfl
    · rw [getBytes_putBytes_apart (.inl (base_mono hstep hlt))]
      exact ih hlt
    · rw [← hlen i]
      exact getBytes_putBytes

end

end Sys2Proof

namespace Sys2Proof.Machine

open Sys2Proof

/-! ### Pieces of a byte range -/

theorem piecesOf_fit {off n : Nat} (hn : 0 < n) (hfit : off % 64 + n ≤ 64) : piecesOf off n = [(off, n)] := by
  have hmin : Nat.min n (64 - off % 64) = n := Nat.min_eq_left (by omega)
  unfold piecesOf pieces
  rw [if_neg (by omega)]
  dsimp only
  rw [hmin, Nat.sub_self]
  cases n / 64 + 1 <;> rfl

theorem mem_pieces {f off n : Nat} {c : Nat × Nat} (h : c ∈ pieces f off n) : 0 < c.2 ∧ c.1 % 64 + c.2 ≤ 64 := by
  induction f generalizing off n with
  | zero => exact absurd h List.not_mem_nil
  | succ f ih =>
    unfold pieces at h
    split at h
    · exact absurd h List.not_mem_nil
    · rcases List.mem_cons.1 h with rfl | hmem
      · have hmod := Nat.mod_lt off (show 0 < 64 by decide)
        refine ⟨?_, ?_⟩
        · show 0 < min n (64 - off % 64)
          omega
        · show off % 64 + min n (64 - off % 64) ≤ 64
          omega
      · exact ih hmem

/-- Enough pieces hold all the bytes. -/
theorem sum_pieces {f off n : Nat} (h : n = 0 ∨ off % 64 + n ≤ 64 * f) : ((pieces f off n).map (·.2)).sum = n := by
  induction f generalizing off n with
  | zero =>
    obtain rfl : n = 0 := by omega
    rfl
  | succ f ih =>
    unfold pieces
    split
    next hz => exact hz.symm
    next hz =>
      have hmod := Nat.mod_lt off (show 0 < 64 by decide)
      have hk : Nat.min n (64 - off % 64) = n ∨ Nat.min n (64 - off % 64) = 64 - off % 64 ∧ 64 - off % 64 ≤ n := by
        rcases Nat.le_total n (64 - off % 64) with hle | hle
        · exact .inl (Nat.min_eq_left hle)
        · exact .inr ⟨Nat.min_eq_right hle, hle⟩
      dsimp only
      generalize Nat.min n (64 - off % 64) = k at hk
      rw [List.map_cons, List.sum_cons, ih (by omega)]
      dsimp only
      omega

theorem sum_piecesOf (off n : Nat) : ((piecesOf off n).map (·.2)).sum = n := by
  have hmod := Nat.mod_lt off (show 0 < 64 by decide)
  exact sum_pieces (by omega)

/-- Bytes that are put piece by piece stand side by side. -/
theorem putBytes_pieces (read : Nat × Nat → Bytes) {f off n : Nat} (hread : ∀ c ∈ pieces f off n, (read c).length = c.2) (m : List Host.Cell)
    (base : Nat) {start : Nat} (hstart : start ≤ off) :
    (pieces f off n).foldl (fun m c => putBytes m (base + (c.1 - start)) (read c)) m
      = putBytes m (base + (off - start)) ((pieces f off n).map read).flatten := by
  induction f generalizing off n m with
  | zero => rfl
  | succ f ih =>
    unfold pieces at hread ⊢
    split at hread
    next hz => rw [if_pos hz]; rfl
    next hz =>
      rw [if_neg hz]
      dsimp only at hread ⊢
      generalize Nat.min n (64 - off % 64) = k at hread ⊢
      have hlen : (read (off, k)).length = k := hread _ List.mem_cons_self
      rw [List.foldl_cons, List.map_cons, List.flatten_cons, putBytes_append, hlen,
        ih (fun c hc => hread c (List.mem_cons_of_mem _ hc)) _ (by omega), show base + (off + k - start) = base + (off - start) + k by omega]

/-! ### Bytes of a region -/

/-- A piece of a region, as it stands in its stack. -/
def State.piece (s : State) (p i : Nat) (c : Nat × Nat) : Bytes :=
  let w := s.regionWord p i c.1
  getBytes s.hbm (hbmKey w.1 (64 * w.2 + c.1 % 64)) c.2

theorem length_piece (s : State) (p i : Nat) (c : Nat × Nat) : (s.piece p i c).length = c.2 := length_getBytes _ _ _

theorem readRegion_eq (s : State) (p i off n : Nat) : s.readRegion p i off n = ((piecesOf off n).map (s.piece p i)).flatten := rfl

theorem length_readRegion (s : State) (p i off n : Nat) : (s.readRegion p i off n).length = n := by
  rw [readRegion_eq, List.length_flatten, List.map_map, show List.length ∘ s.piece p i = Prod.snd from funext fun c => length_piece s p i c]
  exact sum_piecesOf off n

theorem readRegion_piece (s : State) (p i : Nat) {c : Nat × Nat} (hn : 0 < c.2) (hfit : c.1 % 64 + c.2 ≤ 64) :
    s.readRegion p i c.1 c.2 = s.piece p i c := by
  rw [readRegion_eq, piecesOf_fit hn hfit]
  exact List.append_nil _

/-- A span's stacks are those of four quadrants, or of the quadrant that its four bits name. -/
theorem lt_of_mem_spanStacks {s : State} {p e k : Nat} (h : k ∈ s.spanStacks p e) : k < 80 := by
  unfold State.spanStacks at h
  split at h
  · obtain ⟨j, hj, rfl⟩ := List.mem_map.1 h
    have hfield : field e 7 4 < 16 := Nat.mod_lt _ (by decide)
    have hlt := List.mem_range.1 hj
    omega
  · unfold State.stacksOf at h
    have hlt := List.mem_range.1 (List.mem_of_mem_filter h)
    omega

theorem regionWord_lt (s : State) (p i off : Nat) : (s.regionWord p i off).1 < 80 := by
  unfold State.regionWord place
  dsimp only
  generalize ((off / 256 % s.spanChans p ((s.part p).regionEntry i) + _) % s.spanChans p ((s.part p).regionEntry i)) % _ = n
  rcases Nat.lt_or_ge n (s.spanStacks p ((s.part p).regionEntry i)).length with hlt | hge
  · rw [List.getD_eq_getElem _ _ hlt]
    exact lt_of_mem_spanStacks (List.getElem_mem hlt)
  · rw [List.getD_eq_default _ _ hge]
    decide

section
variable {s t : State} (hlayout : t.obj 0x90000A = s.obj 0x90000A) (hparts : view .parts t = view .parts s)
include hlayout

theorem partOfQuad_congr (q : Nat) : t.partOfQuad q = s.partOfQuad q := by
  unfold State.partOfQuad State.layout
  rw [hlayout]

theorem spanStacks_congr (p e : Nat) : t.spanStacks p e = s.spanStacks p e := by
  have hstacks : t.stacksOf p = s.stacksOf p := List.filter_congr fun k _ => congrArg (· == p) (partOfQuad_congr hlayout (k / 5))
  unfold State.spanStacks
  rw [partOfQuad_congr hlayout, hstacks]

include hparts

/-- The layout and the manifest place the words of a region (09 R202). -/
theorem regionWord_congr (p i off : Nat) : t.regionWord p i off = s.regionWord p i off := by
  unfold State.regionWord State.spanChans
  simp only [part_of_view hparts, spanStacks_congr hlayout]

theorem readRegion_congr (hbm : t.hbm = s.hbm) (p i off n : Nat) : t.readRegion p i off n = s.readRegion p i off n := by
  unfold State.readRegion
  simp only [regionWord_congr hlayout hparts, hbm]

end

theorem loom_of_view {s t : State} (h : view .looms t = view .looms s) (l : LoomId) : t.loom l = s.loom l := by
  have hl : t.looms = s.looms := h
  unfold State.loom
  rw [hl]

/-- Piece by piece a region's bytes are those of the whole range. -/
theorem readRegion_pieces (s : State) (p i off n : Nat) :
    ((piecesOf off n).map (fun c => s.readRegion p i c.1 c.2)).flatten = s.readRegion p i off n := by
  rw [readRegion_eq s p i off n]
  refine congrArg List.flatten (List.map_congr_left fun c hc => ?_)
  obtain ⟨hn, hfit⟩ := mem_pieces hc
  exact readRegion_piece s p i hn hfit

section
variable {s t : State} (h : Calm s t)
include h

theorem Calm.countRead (who : Requester) (p i off n : Nat) : Calm s (t.countRead who p i off n) :=
  h.foldl fun _ _ _ hu => hu.countWord who _ _

theorem hbm_countRead (who : Requester) (p i off n : Nat) : (t.countRead who p i off n).hbm = t.hbm := by
  unfold State.countRead
  generalize piecesOf off n = l
  induction l generalizing t with
  | nil => rfl
  | cons c l ih => exact (ih (h.countWord who _ _)).trans (hbm_countWord h who _ _)

theorem Calm.writeRegion (who : Requester) (p i off : Nat) (b : Bytes) (poison : Bool) : Calm s (t.writeRegion who p i off b poison) :=
  h.foldl fun c _ u hu => hu.writeWord who (regionWord_lt u p i c.1) _ _ _ _

/-- A write that fits into one word. -/
theorem hbm_writeRegion_piece (who : Requester) (p i : Nat) {off : Nat} {b : Bytes} (hn : 0 < b.length) (hfit : off % 64 + b.length ≤ 64)
    (poison : Bool) : (t.writeRegion who p i off b poison).hbm
      = putBytes t.hbm (hbmKey (s.regionWord p i off).1 (64 * (s.regionWord p i off).2 + off % 64)) b := by
  unfold State.writeRegion State.writeTagged State.writeBy
  rw [piecesOf_fit hn hfit]
  dsimp only [List.foldl]
  rw [hbm_writeWord h, regionWord_congr h.layout h.parts, Nat.sub_self, List.drop_zero, List.take_length]

end

end Sys2Proof.Machine
end

section
/-! SUPPORT. The rows that a DMA transfer brings into local memory or takes out of it (03 R81, R82; 04 R95). -/

namespace Sys2Proof.Machine

open Sys2Proof

/-! ### Local memory -/

/-- A loom that differs in its local memory and the marks of it alone. -/
def Loom.MemOnly (x y : Loom) : Prop := y = { x with mem := y.mem, poison := y.poison }

theorem Loom.MemOnly.refl (x : Loom) : x.MemOnly x := rfl

theorem Loom.MemOnly.trans {x y z : Loom} (h : x.MemOnly y) (k : y.MemOnly z) : x.MemOnly z := by
  unfold Loom.MemOnly at h k ⊢
  rw [k, h]

theorem memOnly_foldl {α : Type} {f : Loom → α → Loom} (hf : ∀ (y : Loom) a, y.MemOnly (f y a)) (l : List α) (x : Loom) : x.MemOnly (l.foldl f x) := by
  induction l generalizing x with
  | nil => rfl
  | cons a l ih => exact (hf x a).trans (ih _)

theorem memOnly_put (x : Loom) (a : Nat) (b : Bytes) (origin : Nat) : x.MemOnly (x.put a b origin) := rfl

theorem memOnly_mark (x : Loom) (a n origin : Nat) : x.MemOnly (x.mark a n origin) := by
  unfold Loom.mark
  split <;> rfl

theorem mem_mark (x : Loom) (a n origin : Nat) : (x.mark a n origin).mem = x.mem := by
  unfold Loom.mark
  split <;> rfl

theorem memOnly_putElems (x : Loom) (a w : Nat) (b : Bytes) (origins : List Nat) : x.MemOnly (x.putElems a w b origins) :=
  (memOnly_put x a b 0).trans (memOnly_foldl (fun y _ => memOnly_mark y _ _ _) _ _)

theorem mem_putElems (x : Loom) (a w : Nat) (b : Bytes) (origins : List Nat) : (x.putElems a w b origins).mem = putBytes x.mem a b := by
  have hmarks (l : List (Nat × Nat)) (y : Loom) : (l.foldl (fun (y : Loom) o =>
      y.mark (a + (elemBytes w o.2).1) ((elemBytes w o.2).2 + 1 - (elemBytes w o.2).1) o.1) y).mem = y.mem := by
    induction l generalizing y with
    | nil => rfl
    | cons o l ih => exact (ih _).trans (mem_mark _ _ _ _)
  exact hmarks _ _

theorem mem_foldl_put {α : Type} (a : α → Nat) (b : α → Bytes) (o : α → Nat) (l : List α) (x : Loom) :
    (l.foldl (fun (y : Loom) c => y.put (a c) (b c) (o c)) x).mem = l.foldl (fun m c => putBytes m (a c) (b c)) x.mem := by
  induction l generalizing x with
  | nil => rfl
  | cons c l ih => exact ih _

/-! ### Rows in -/

/-- `t` is `s` after rows of a transfer: only the local memory of loom `l` differs, of what looms and stacks hold. -/
structure RowsIn (s : State) (l : LoomId) (t : State) : Prop where
  quiet : t.quiet
  parts : view .parts t = view .parts s
  layout : t.obj 0x90000A = s.obj 0x90000A
  hbm : t.hbm = s.hbm
  loom : (s.loom l).MemOnly (t.loom l)
  others : OnlyLooms [l] s t

theorem RowsIn.refl {s : State} (h : s.quiet) (l : LoomId) : RowsIn s l s := ⟨h, rfl, rfl, rfl, rfl, fun _ _ => rfl⟩

section
variable {s t : State} {l : LoomId} (h : RowsIn s l t)
include h

/-- The loom takes bytes. -/
theorem RowsIn.setLoom {x : Loom} (hx : (t.loom l).MemOnly x) : RowsIn s l (t.setLoom l x) where
  quiet := h.quiet
  parts := h.parts
  layout := h.layout
  hbm := h.hbm
  loom := by rw [loom_setLoom_same]; exact h.loom.trans hx
  others := fun j hj => (loom_setLoom_other t (fun e => hj (List.mem_singleton.2 e)) x).trans (h.others j hj)

/-- The reads are counted. -/
theorem RowsIn.countRead (who : Requester) (p i off n : Nat) : RowsIn s l (t.countRead who p i off n) := by
  have hcount : Calm t (t.countRead who p i off n) := (Calm.refl h.quiet).countRead who p i off n
  refine ⟨hcount.quiet, hcount.parts.trans h.parts, hcount.layout.trans h.layout, (hbm_countRead (.refl h.quiet) ..).trans h.hbm, ?_, fun j hj => ?_⟩
  · rw [loom_of_view hcount.looms]
    exact h.loom
  · rw [loom_of_view hcount.looms, h.others j hj]

/-- Row i lies in local memory where its line says. -/
theorem RowsIn.rowIn (d : Word512) (i : Nat) : RowsIn s l (t.rowIn l d i) ∧ ((t.rowIn l d i).loom l).mem
    = putBytes (t.loom l).mem (64 * (mLine d + i * mPitch d)) (s.readRegion (s.loomPart l) (mRegion d) (dmaAt d i) (mRowBytes d)) := by
  have hpart : t.loomPart l = s.loomPart l := partOfQuad_congr h.layout l.q
  have hset := h.setLoom (memOnly_foldl (f := fun (y : Loom) c =>
    y.put (64 * (mLine d + i * mPitch d) + (c.1 - dmaAt d i)) (t.readRegion (s.loomPart l) (mRegion d) c.1 c.2)
      (t.poisonIn (s.loomPart l) (mRegion d) c.1 c.2)) (fun _ _ => memOnly_put _ _ _ _) (piecesOf (dmaAt d i) (mRowBytes d)) (t.loom l))
  unfold State.rowIn
  dsimp only
  rw [hpart]
  refine ⟨hset.countRead _ _ _ _ _, ?_⟩
  rw [loom_of_view ((Calm.refl hset.quiet).countRead _ _ _ _ _).looms, loom_setLoom_same, mem_foldl_put,
    show piecesOf (dmaAt d i) (mRowBytes d) = pieces (mRowBytes d / 64 + 2) (dmaAt d i) (mRowBytes d) from rfl,
    putBytes_pieces _ (fun c _ => length_readRegion t _ _ c.1 c.2) _ _ (Nat.le_refl _), Nat.sub_self, Nat.add_zero]
  exact congrArg (putBytes _ _) ((readRegion_pieces t _ _ _ _).trans (readRegion_congr h.layout h.parts h.hbm _ _ _ _))

end

/-- Where row k of a transfer stands in local memory. -/
def rowBase (d : Word512) (k : Nat) : Nat := 64 * (mLine d + k * mPitch d)

theorem rowBase_step {d : Word512} {w : Nat} (h : w ≤ 64 * mPitch d) (k : Nat) : rowBase d k + w ≤ rowBase d (k + 1) := by
  unfold rowBase
  rw [Nat.add_mul]
  omega

theorem le_of_ceilDiv_le {w n : Nat} (h : ceilDiv w 64 ≤ n) : w ≤ 64 * n := by
  unfold ceilDiv at h
  omega

/-! ### Packed elements (02 R32; 04 R90) -/

theorem leNat_leBytes (n x : Nat) : leNat (leBytes n x) = x % 256 ^ n := by
  induction n generalizing x with
  | zero => exact (Nat.mod_one x).symm
  | succ n ih =>
    rw [leBytes, leNat, ih, Nat.pow_succ', Nat.mod_mul, BitVec.toNat_ofNat]

/-- The number that patterns of w bits spell, the first one lowest. -/
def packedNat (w : Nat) (l : List Nat) : Nat := l.foldr (fun p a => p + a * 2 ^ w) 0

section
variable {w : Nat} {l : List Nat} (h : ∀ p ∈ l, p < 2 ^ w)
include h

theorem packedNat_lt : packedNat w l < 2 ^ (w * l.length) := by
  induction l with
  | nil => exact Nat.pow_pos (by decide)
  | cons p l ih =>
    have hp := h p List.mem_cons_self
    have hl := ih fun q hq => h q (List.mem_cons_of_mem _ hq)
    have hle : (packedNat w l + 1) * 2 ^ w ≤ 2 ^ (w * l.length) * 2 ^ w := Nat.mul_le_mul_right _ hl
    rw [List.length_cons, Nat.mul_succ, Nat.pow_add]
    show p + packedNat w l * 2 ^ w < _
    rw [Nat.succ_mul] at hle
    omega

theorem packedNat_digit (n : Nat) : packedNat w l / 2 ^ (w * n) % 2 ^ w = l.getD n 0 := by
  induction l generalizing n with
  | nil => simp [packedNat]
  | cons p l ih =>
    have hp := h p List.mem_cons_self
    have hpos : 0 < 2 ^ w := Nat.pow_pos (by decide)
    cases n with
    | zero =>
      show (p + packedNat w l * 2 ^ w) / 2 ^ (w * 0) % 2 ^ w = p
      rw [Nat.mul_zero, Nat.pow_zero, Nat.div_one, Nat.add_mul_mod_self_right, Nat.mod_eq_of_lt hp]
    | succ n =>
      show (p + packedNat w l * 2 ^ w) / 2 ^ (w * (n + 1)) % 2 ^ w = l.getD n 0
      rw [Nat.mul_succ, Nat.add_comm (w * n), Nat.pow_add, ← Nat.div_div_eq_div_mul, Nat.add_mul_div_right _ _ hpos, Nat.div_eq_of_lt hp,
        Nat.zero_add]
      exact ih (fun q hq => h q (List.mem_cons_of_mem _ hq)) n

end

/-- Elements come back from packed bytes that hold them all. -/
theorem unpackElems_packElems {f : Nat} {l : List Nat} (h : ∀ p ∈ l, p < 2 ^ fmtWidth f) (hbytes : fmtWidth f * l.length ≤ 8 * packedBytes f l.length)
    {n : Nat} (hn : n < l.length) : (unpackElems f l.length (packElems f l)).getD n 0 = l.getD n 0 := by
  have hfits : packedNat (fmtWidth f) l < 256 ^ packedBytes f l.length := by
    rw [show 256 = 2 ^ 8 from rfl, ← Nat.pow_mul]
    exact Nat.lt_of_lt_of_le (packedNat_lt h) (Nat.pow_le_pow_right (by decide) hbytes)
  unfold unpackElems packElems
  dsimp only
  rw [leNat_leBytes, show l.foldr (fun p a => p + a * 2 ^ fmtWidth f) 0 = packedNat (fmtWidth f) l from rfl, Nat.mod_eq_of_lt hfits,
    List.getD_eq_getElem _ _ (by rw [List.length_map, List.length_range]; exact hn), List.getElem_map, List.getElem_range]
  exact packedNat_digit h n

theorem length_packElems (f : Nat) (l : List Nat) : (packElems f l).length = packedBytes f l.length := length_leBytes _ _

theorem lt_of_mem_unpackElems {f n p : Nat} {b : Bytes} (h : p ∈ unpackElems f n b) : p < 2 ^ fmtWidth f := by
  obtain ⟨i, -, rfl⟩ := List.mem_map.1 h
  exact Nat.mod_lt _ (Nat.pow_pos (by decide))

section
variable {s : State} (hquiet : s.quiet) (l : LoomId) (d : Word512)
include hquiet

theorem rowsIn_transfer_in : RowsIn s l (s.transfer l 0 d) ∧ ((s.transfer l 0 d).loom l).mem
    = putRows (rowBase d) (fun i => s.readRegion (s.loomPart l) (mRegion d) (dmaAt d i) (mRowBytes d)) (s.loom l).mem (mRows d) := by
  have hrows (n : Nat) : RowsIn s l ((List.range n).foldl (fun (t : State) i => t.rowIn l d i) s)
      ∧ (((List.range n).foldl (fun (t : State) i => t.rowIn l d i) s).loom l).mem
        = putRows (rowBase d) (fun i => s.readRegion (s.loomPart l) (mRegion d) (dmaAt d i) (mRowBytes d)) (s.loom l).mem n := by
    induction n with
    | zero => exact ⟨.refl hquiet l, rfl⟩
    | succ n ih =>
      obtain ⟨hin, hmem⟩ := ih
      obtain ⟨hin', hmem'⟩ := hin.rowIn d n
      rw [List.range_succ, List.foldl_append, putRows_succ, ← hmem]
      exact ⟨hin', hmem'⟩
  exact hrows (mRows d)

/-- The bytes of rows that a transfer brings in, and of what lies beside them. -/
theorem transfer_in (hwidth : ceilDiv (mRowBytes d) 64 ≤ mPitch d) :
    (∀ i, i < mRows d → getBytes ((s.transfer l 0 d).loom l).mem (64 * (mLine d + i * mPitch d)) (mRowBytes d)
        = s.readRegion (s.loomPart l) (mRegion d) (dmaAt d i) (mRowBytes d))
    ∧ (∀ a, (∀ i, i < mRows d → a < 64 * (mLine d + i * mPitch d) ∨ 64 * (mLine d + i * mPitch d) + mRowBytes d ≤ a) →
        SMap.get 0 ((s.transfer l 0 d).loom l).mem a = SMap.get 0 (s.loom l).mem a) := by
  obtain ⟨-, hmem⟩ := rowsIn_transfer_in hquiet l d
  rw [hmem]
  exact ⟨fun i hi => getBytes_putRows (fun _ => length_readRegion ..) (rowBase_step (le_of_ceilDiv_le hwidth)) _ _ hi,
    fun a ha => get_putRows_outside (fun _ => length_readRegion ..) _ _ ha⟩

/-! ### Transposed rows -/

/-- Row k of a transposed transfer: element k of each of the 64 rows in memory. -/
def State.transposed (s : State) (l : LoomId) (d : Word512) (k : Nat) : List Nat :=
  (List.range 64).map (fun n => (unpackElems (mFmt d) 64 (s.readRegion (s.loomPart l) (mRegion d) (dmaAt d n) (mRowBytes d))).getD k 0)

omit hquiet in
theorem RowsIn.transposeRow {t : State} {l : LoomId} (h : RowsIn s l t) (d : Word512) (k : Nat) : RowsIn s l (t.transposeRow l d k)
    ∧ ((t.transposeRow l d k).loom l).mem = putBytes (t.loom l).mem (rowBase d k) (packElems (mFmt d) (s.transposed l d k)) := by
  have hpart : t.loomPart l = s.loomPart l := partOfQuad_congr h.layout l.q
  refine ⟨h.setLoom (memOnly_putElems _ _ _ _ _), ?_⟩
  unfold State.transposeRow State.transposed
  dsimp only
  rw [loom_setLoom_same, mem_putElems, hpart]
  simp only [readRegion_congr h.layout h.parts h.hbm, rowBase]

theorem rowsIn_transfer_transposed : RowsIn s l (s.transfer l 2 d) ∧ ((s.transfer l 2 d).loom l).mem
    = putRows (rowBase d) (fun k => packElems (mFmt d) (s.transposed l d k)) (s.loom l).mem 64 := by
  have hrows (n : Nat) : RowsIn s l ((List.range n).foldl (fun (t : State) k => t.transposeRow l d k) s)
      ∧ (((List.range n).foldl (fun (t : State) k => t.transposeRow l d k) s).loom l).mem
        = putRows (rowBase d) (fun k => packElems (mFmt d) (s.transposed l d k)) (s.loom l).mem n := by
    induction n with
    | zero => exact ⟨.refl hquiet l, rfl⟩
    | succ n ih =>
      obtain ⟨hin, hmem⟩ := ih
      obtain ⟨hin', hmem'⟩ := hin.transposeRow d n
      rw [List.range_succ, List.foldl_append, putRows_succ, ← hmem]
      exact ⟨hin', hmem'⟩
  obtain ⟨hin, hmem⟩ := hrows 64
  have hcounts (r : List Nat) {t : State} (ht : RowsIn s l t) :
      RowsIn s l (r.foldl (fun (u : State) n => u.countRead (.loom l) (u.loomPart l) (mRegion d) (dmaAt d n) (mRowBytes d)) t)
      ∧ ((r.foldl (fun (u : State) n => u.countRead (.loom l) (u.loomPart l) (mRegion d) (dmaAt d n) (mRowBytes d)) t).loom l) = t.loom l := by
    induction r generalizing t with
    | nil => exact ⟨ht, rfl⟩
    | cons n r ih =>
      obtain ⟨hr, hl⟩ := ih (ht.countRead (.loom l) (t.loomPart l) (mRegion d) (dmaAt d n) (mRowBytes d))
      exact ⟨hr, hl.trans (loom_of_view ((Calm.refl ht.quiet).countRead _ _ _ _ _).looms l)⟩
  obtain ⟨hin', hloom⟩ := hcounts (List.range 64) hin
  exact ⟨hin', (congrArg Loom.mem hloom).trans hmem⟩

omit hquiet in
theorem length_transposed (k : Nat) : (s.transposed l d k).length = 64 := by
  unfold State.transposed
  rw [List.length_map, List.length_range]

omit hquiet in
theorem lt_of_mem_transposed {k p : Nat} (h : p ∈ s.transposed l d k) : p < 2 ^ fmtWidth (mFmt d) := by
  obtain ⟨n, -, rfl⟩ := List.mem_map.1 h
  rcases Nat.lt_or_ge k (unpackElems (mFmt d) 64 (s.readRegion (s.loomPart l) (mRegion d) (dmaAt d n) (mRowBytes d))).length with hk | hk
  · rw [List.getD_eq_getElem _ _ hk]
    exact lt_of_mem_unpackElems (List.getElem_mem hk)
  · rw [List.getD_eq_default _ _ hk]
    exact Nat.pow_pos (by decide)

/-- Element n of destination row k is element k of source row n (03 R81). -/
theorem transfer_transposed (hfmt : mFmt d < 10) (hwidth : packedBytes (mFmt d) 64 ≤ 64 * mPitch d) {k n : Nat} (hk : k < 64) (hn : n < 64) :
    (((s.transfer l 2 d).loom l).elems (mFmt d) (mLine d + k * mPitch d) 64).getD n 0
      = (unpackElems (mFmt d) 64 (s.readRegion (s.loomPart l) (mRegion d) (dmaAt d n) (mRowBytes d))).getD k 0 := by
  obtain ⟨-, hmem⟩ := rowsIn_transfer_transposed hquiet l d
  have hlen (k : Nat) : (packElems (mFmt d) (s.transposed l d k)).length = packedBytes (mFmt d) 64 := by
    rw [length_packElems, length_transposed]
  have hrow : getBytes ((s.transfer l 2 d).loom l).mem (64 * (mLine d + k * mPitch d)) (packedBytes (mFmt d) 64)
      = packElems (mFmt d) (s.transposed l d k) := by
    rw [hmem]
    exact getBytes_putRows hlen (rowBase_step hwidth) _ _ hk
  have hbits : fmtWidth (mFmt d) * 64 ≤ 8 * packedBytes (mFmt d) 64 := by
    generalize mFmt d = f at hfmt
    interval_cases f <;> decide
  have hback := unpackElems_packElems (fun p hp => lt_of_mem_transposed l d hp) (by rw [length_transposed]; exact hbits)
    (show n < (s.transposed l d k).length by rw [length_transposed]; exact hn)
  unfold Loom.elems
  rw [hrow]
  rw [length_transposed] at hback
  rw [hback]
  unfold State.transposed
  rw [List.getD_eq_getElem _ _ (by rw [List.length_map, List.length_range]; exact hn), List.getElem_map, List.getElem_range]

end

/-! ### Rows out -/

/-- A piece of a row goes out to its word: e is the row with the piece (03 R81). -/
def State.pieceOut (s : State) (l : LoomId) (d : Word512) (m : List Host.Cell) (e : Nat × Nat × Nat) : List Host.Cell :=
  let w := s.regionWord (s.loomPart l) (mRegion d) e.2.1
  putBytes m (hbmKey w.1 (64 * w.2 + e.2.1 % 64))
    (getBytes (s.loom l).mem (64 * (mLine d + e.1 * mPitch d) + (e.2.1 - dmaAt d e.1)) e.2.2)

theorem Calm.rowOut {s t : State} (h : Calm s t) (l : LoomId) (d : Word512) (i : Nat) : Calm s (t.rowOut l d i) ∧ (t.rowOut l d i).hbm
    = (piecesOf (dmaAt d i) (mRowBytes d)).foldl (fun m c => s.pieceOut l d m (i, c)) t.hbm := by
  have hpart : t.loomPart l = s.loomPart l := partOfQuad_congr h.layout l.q
  unfold State.rowOut
  dsimp only
  rw [hpart]
  have hpieces (r : List (Nat × Nat)) (hr : ∀ c ∈ r, 0 < c.2 ∧ c.1 % 64 + c.2 ≤ 64) {u : State} (hu : Calm s u) :
      let v : State := r.foldl (fun (t : State) c => t.writeRegion (.loom l) (s.loomPart l) (mRegion d) c.1
        (getBytes (t.loom l).mem (64 * (mLine d + i * mPitch d) + (c.1 - dmaAt d i)) c.2)
        (decide ((t.loom l).poisonAt (64 * (mLine d + i * mPitch d) + (c.1 - dmaAt d i)) c.2 ≠ 0))) u
      Calm s v ∧ v.hbm = r.foldl (fun m c => s.pieceOut l d m (i, c)) u.hbm := by
    induction r generalizing u with
    | nil => exact ⟨hu, rfl⟩
    | cons c r ih =>
      obtain ⟨hn, hfit⟩ := hr c List.mem_cons_self
      obtain ⟨hcalm, hhbm⟩ := ih (fun e he => hr e (List.mem_cons_of_mem _ he)) (hu.writeRegion (.loom l) (s.loomPart l) (mRegion d) c.1
        (getBytes (u.loom l).mem (64 * (mLine d + i * mPitch d) + (c.1 - dmaAt d i)) c.2)
        (decide ((u.loom l).poisonAt (64 * (mLine d + i * mPitch d) + (c.1 - dmaAt d i)) c.2 ≠ 0)))
      refine ⟨hcalm, hhbm.trans ?_⟩
      rw [hbm_writeRegion_piece hu _ _ _ (by rw [length_getBytes]; exact hn) (by rw [length_getBytes]; exact hfit), loom_of_view hu.looms]
      rfl
  exact hpieces _ (fun _ hc => mem_pieces hc) h

theorem transfer_out {s : State} (hquiet : s.quiet) (l : LoomId) (d : Word512) : Calm s (s.transfer l 1 d) ∧ (s.transfer l 1 d).hbm
    = (((List.range (mRows d)).map (fun i => (piecesOf (dmaAt d i) (mRowBytes d)).map (fun c => (i, c)))).flatten).foldl (s.pieceOut l d) s.hbm := by
  have hrows (r : List Nat) {t : State} (ht : Calm s t) : Calm s (r.foldl (fun (t : State) i => t.rowOut l d i) t)
      ∧ (r.foldl (fun (t : State) i => t.rowOut l d i) t).hbm
        = ((r.map (fun i => (piecesOf (dmaAt d i) (mRowBytes d)).map (fun c => (i, c)))).flatten).foldl (s.pieceOut l d) t.hbm := by
    induction r generalizing t with
    | nil => exact ⟨ht, rfl⟩
    | cons i r ih =>
      obtain ⟨hcalm, hhbm⟩ := ht.rowOut l d i
      obtain ⟨hcalm', hhbm'⟩ := ih hcalm
      refine ⟨hcalm', hhbm'.trans ?_⟩
      rw [hhbm, List.map_cons, List.flatten_cons, List.foldl_append, List.foldl_map]
  exact hrows _ (.refl hquiet)

end Sys2Proof.Machine
end

section
/-! SUPPORT. How a descriptor issues (04 R85, R86): what SECDED corrected is recorded first, the entry joins its unit's queue, and the sequencer goes on. -/

namespace Sys2Proof.Machine

open Sys2Proof

/-! ### A correction is noted (04 R99; 16 R388) -/

/-- `t` is `s` but for a record in the log. -/
structure Noted (s t : State) : Prop where
  areas : ∀ ar, ar ∉ [Area.free, Area.objects, Area.log] → view ar t = view ar s
  objs : ∀ r, r ∉ raisedObjs → t.obj r = s.obj r

theorem Noted.refl (s : State) : Noted s s := ⟨fun _ _ => rfl, fun _ _ => rfl⟩

theorem Noted.trans {s t u : State} (h : Noted s t) (k : Noted t u) : Noted s u :=
  ⟨fun ar har => (k.areas ar har).trans (h.areas ar har), fun r hr => (k.objs r hr).trans (h.objs r hr)⟩

/-- A record of severity 1 waits for the next tick: no notification leaves with it (14 R357). -/
theorem noted_raise (s : State) {x : Raise} (hsev : x.sev < 2) (hcode : x.code ≠ 0x070B) : Noted s (s.raise x) := by
  refine ⟨fun ar har => ?_, fun r hr => obj_raise s hr (by omega)⟩
  have hlog : ar ∉ [Area.log] := fun h => har (by simp_all)
  unfold State.raise
  rw [if_pos hsev]
  split
  · exact view_upd_log hlog ..
  · dsimp only
    rw [if_neg hcode, if_pos hsev]
    exact (view_upd_mergedNow hlog ..).trans (view_enterLog har ..)

theorem noted_found {hit : Option LoomHit} (h : harmless hit) (s : State) (l : LoomId) (tag : Nat) (reads : LoomWord → Bool) :
    Noted s (s.found l tag reads hit) := by
  unfold State.found
  split
  · exact .refl s
  next w =>
    dsimp only
    split
    · exact .refl s
    · split
      · exact noted_raise s (by simp) (by simp)
      next hm => exact absurd hm (h w rfl)
      · exact .refl s

/-! ### What a record does not change -/

theorem loomPart_lt (s : State) (l : LoomId) : s.loomPart l < 4 := partOfQuad_lt s l.q

section
variable {s t : State} (h : Noted s t)
include h

theorem Noted.quiet (hq : s.quiet) : t.quiet := quiet_of_view (h.areas .stackCtl (by decide)) hq

theorem Noted.layout : t.obj 0x90000A = s.obj 0x90000A := h.objs _ (by decide)

theorem Noted.part (p : Nat) : t.part p = s.part p := part_of_view (h.areas .parts (by decide)) p

theorem Noted.loom (l : LoomId) : t.loom l = s.loom l := loom_of_view (h.areas .looms (by decide)) l

theorem Noted.loomPart (l : LoomId) : t.loomPart l = s.loomPart l := partOfQuad_congr h.layout l.q

theorem Noted.ns : t.ns = s.ns := h.areas .time (by decide)

theorem Noted.raceFree {l : LoomId} (hrace : s.raceFree l) : t.raceFree l := by
  unfold State.raceFree
  rw [h.objs _ (by decide), h.loomPart, h.loom]
  exact hrace

theorem Noted.hbm : t.hbm = s.hbm := h.areas .hbm (by decide)

theorem Noted.isCopyRegion {p : Nat} (hp : p < 4) (r : Nat) : t.isCopyRegion p r = s.isCopyRegion p r := by
  unfold State.isCopyRegion State.commands State.stepNo
  rw [h.part, h.objs _ (by simp; omega)]

theorem Noted.regionLen (p i : Nat) : t.regionLen p i = s.regionLen p i := by
  unfold State.regionLen State.spanChans
  simp only [h.part, spanStacks_congr h.layout]

theorem Noted.dmaCheck (p dir : Nat) (d : Word512) : t.dmaCheck p dir d = s.dmaCheck p dir d := by
  unfold State.dmaCheck State.dmaRegion State.inRegion
  simp only [h.part, h.regionLen]

/-! The ways to the stacks are as open as before. -/

theorem Noted.stack (k : Nat) : t.stack k = s.stack k := by
  have hs : t.stackCtl = s.stackCtl := h.areas .stackCtl (by decide)
  unfold State.stack
  rw [hs]

theorem Noted.cloop (i : Nat) : t.cloop i = s.cloop i := by
  have hs : t.cloops = s.cloops := h.areas .loops (by decide)
  unfold State.cloop
  rw [hs]

theorem Noted.dcq (q : Nat) : t.dcq q = s.dcq q := by
  have hs : t.dcqs = s.dcqs := h.areas .queues (by decide)
  unfold State.dcq
  rw [hs]

theorem Noted.partOfStack (k : Nat) : t.partOfStack k = s.partOfStack k := partOfQuad_congr h.layout (k / 5)

theorem Noted.hasCredit (i : Nat) : t.hasCredit i = s.hasCredit i := by
  unfold State.hasCredit
  rw [h.cloop]

theorem Noted.bridgeLoop (n dir : Nat) : t.bridgeLoop n dir = s.bridgeLoop n dir := by
  unfold State.bridgeLoop
  rw [partOfQuad_congr h.layout]

theorem Noted.serves (k : Nat) : t.serves k = s.serves k := by
  have hpower := h.areas .power (by decide)
  simp only [view, Prod.mk.injEq] at hpower
  obtain ⟨-, -, -, -, -, -, htrip, -, -⟩ := hpower
  unfold State.serves
  rw [htrip, h.stack, h.objs _ (by simp; omega)]

theorem Noted.queueLoop (q : Nat) : t.queueLoop q = s.queueLoop q := by
  have hlive : t.inForce = s.inForce := h.areas .inForce (by decide)
  unfold State.queueLoop State.queueHome State.queuePart State.portOwner State.live
  simp only [partOfQuad_congr h.layout, h.partOfStack, hlive]

theorem Noted.queueTakes (q : Nat) : t.queueTakes q = s.queueTakes q := by
  unfold State.queueTakes State.queueOpen State.queueRoom
  simp only [h.queueLoop, h.cloop, h.dcq]

theorem Noted.reachable (who : Requester) (k : Nat) (write : Bool) : t.reachable who k write = s.reachable who k write := by
  unfold State.reachable State.wayOpen State.bridgesReady
  simp only [h.serves, h.partOfStack, h.hasCredit, h.stack, h.bridgeLoop, show t.queueTakes = s.queueTakes from funext h.queueTakes]

theorem Noted.dmaReady (l : LoomId) (dir : Nat) (d : Word512) : t.dmaReady l dir d = s.dmaReady l dir d := by
  unfold State.dmaReady State.dmaStacks
  simp only [h.loomPart, regionWord_congr h.layout (h.areas .parts (by decide)), h.reachable]

end

/-! ### The head descriptor -/

theorem descriptor_atHead {s : State} {l : LoomId} {kind : Nat} {d : Word512} {hit : Option LoomHit} (hhead : s.atHead l kind d)
    (hkind : kind ≠ 0) (hharm : harmless hit) : ∃ t, Noted s t ∧ ∀ f, s.descriptor l kind hit f = f t d := by
  obtain ⟨hruns, hidx, hstore, hk⟩ := hhead
  have hwhole (i : Nat) : storeLost hit i = false := by
    unfold storeLost
    split
    next h => simp [hharm h rfl]
    · rfl
  refine ⟨_, noted_found hharm s l (dTag d) (fun w => decide (w = .instructionStore (BitVec.ofNat 12 (s.loom l).seqIdx.toNat))), fun f => ?_⟩
  unfold State.descriptor
  dsimp only
  rw [if_pos hruns, hstore, if_neg hidx, hk, if_neg (by simp), hwhole, if_neg Bool.false_ne_true, if_neg hkind]

/-! ### Issue -/

section
variable (s : State) (l : LoomId)

/-- A trace record changes the buffer of its loom alone. -/
theorem loomTrace_becomes (kind nth idx : Nat) (d : Word512) : LoomBecomes s (s.loomTrace l kind nth idx d) l (s.loom l) := by
  unfold State.loomTrace
  split
  · dsimp only
    split
    · refine ⟨?_, fun j hj => ?_⟩
      · rw [loom_setLoom_same]
      · exact loom_setLoom_other s (fun e => hj (List.mem_singleton.2 e)) _
    · refine ⟨?_, fun j hj => ?_⟩
      · rw [loom_bump, loom_setLoom_same]
      · exact loom_setLoom_other s (fun e => hj (List.mem_singleton.2 e)) _
  · exact ⟨rfl, fun _ _ => rfl⟩

theorem obj_loomTrace {r : Nat} (hr : r ≠ 0x801006) (kind nth idx : Nat) (d : Word512) : (s.loomTrace l kind nth idx d).obj r = s.obj r := by
  unfold State.loomTrace
  split
  · dsimp only
    split
    · rfl
    · exact obj_bump_other _ hr 1
  · rfl

theorem obj_bankWaits (u : UnitKind) (n r : Nat) : (s.bankWaits l u n).obj r = s.obj r := by
  have hobjs : (s.bankWaits l u n).objs = s.objs := view_bankWaits (ar := .objects) (by decide) ..
  unfold State.obj
  rw [hobjs]

/-- A loom that changes, leaves its trace record, and owes its bank waits. -/
theorem loomBecomes_traced (x : Loom) (kind nth idx : Nat) (d : Word512) (u : UnitKind) (n : Nat) :
    LoomBecomes s (((s.setLoom l x).loomTrace l kind nth idx d).bankWaits l u n) l x := by
  have hwaits (t : State) (j : LoomId) : (t.bankWaits l u n).loom j = t.loom j := loom_of_view (view_bankWaits (by decide) ..) j
  obtain ⟨htrace, hothers⟩ := loomTrace_becomes (s.setLoom l x) l kind nth idx d
  rw [loom_setLoom_same] at htrace
  refine ⟨by rw [hwaits]; exact htrace, fun j hj => ?_⟩
  rw [hwaits, hothers j hj, loom_setLoom_other s (fun e => hj (List.mem_singleton.2 e))]

/-- Where no race can be found, the detector finds none. -/
theorem hazards_raceFree {s t : State} (hrace : s.raceFree l) (hdetector : t.obj 0x802001 = s.obj 0x802001) (hpart : t.loomPart l = s.loomPart l)
    (n : InFlight) : t.hazards l n (s.loom l).inFlight = t := by
  unfold State.hazards
  rw [hdetector, hpart]
  rcases hrace with hoff | hnone
  · rw [hoff, if_neg Bool.false_ne_true]
  · rw [hnone]
    exact ite_self _

/-- A descriptor that issues where no race can be found. -/
structure Issued (s t : State) (l : LoomId) (x : Loom) : Prop where
  loom : LoomBecomes s t l x
  areas : ∀ ar, ar ∉ [Area.free, Area.objects, Area.log, Area.looms, Area.counters] → view ar t = view ar s
  objs : ∀ r, r ∉ raisedObjs → r ≠ 0x801006 → t.obj r = s.obj r

theorem issued_toUnit (hrace : s.raceFree l) (u : UnitKind) (d : Word512) (phase : Nat) (waits : Bool) (reads writes : List (Nat × Nat)) :
    Issued s (s.toUnit l u d phase waits reads writes) l ((s.loom l).joins u d s.ns phase waits reads writes) := by
  have hobj (x : Loom) (r : Nat) (hr : r ≠ 0x801006) (n i : Nat) :
      (((s.setLoom l x).loomTrace l 1 n i d).bankWaits l u n).obj r = s.obj r := by
    rw [obj_bankWaits, obj_loomTrace _ _ hr, obj_setLoom]
  unfold State.toUnit
  dsimp only
  rw [hazards_raceFree l hrace (hobj _ _ (by decide) _ _) (partOfQuad_congr (hobj _ _ (by decide) _ _) l.q)]
  refine ⟨?_, fun ar har => ?_, fun r _ hr => hobj _ r hr _ _⟩
  · exact loomBecomes_traced s l _ 1 _ _ d u _
  · simp only [List.mem_cons, List.not_mem_nil, not_or, or_false] at har
    rw [view_bankWaits (by simp [har]), view_loomTrace (by simp [har]), view_setLoom (by simp [har])]

end

/-! ### A transfer at its issue -/

/-- A DMA descriptor at the head whose checks pass: what SECDED corrected is noted, the entry joins, and the transfer follows unless it is
held (01 R17; 07 R164; 08 R189). -/
theorem dmaOp_issues {s : State} {l : LoomId} {dir : Nat} {d : Word512} {hit : Option LoomHit} (hhead : s.atHead l (0x3000 + dir) d)
    (hharm : harmless hit) (hroom : (s.loom l).dmaQ.length < 16) (hcheck : s.dmaCheck (s.loomPart l) dir d = none) (hrace : s.raceFree l)
    {waits held : Bool} (hwaits : (decide (dir ≠ 1) && s.isCopyRegion (s.loomPart l) (mRegion d) && !(s.part (s.loomPart l)).copied) = waits)
    (hheld : (waits || !s.dmaReady l dir d) = held) : ∃ n t, Noted s n
      ∧ Issued n t l ((s.loom l).joins .dma d s.ns (if held then 0 else 3) waits (if dir = 1 then [dmaLines d] else [])
        (if dir = 1 then [] else [dmaLines d]))
      ∧ s.dmaOp l dir hit = if held then t else t.transfer l dir d := by
  obtain ⟨u, hu, he⟩ := descriptor_atHead hhead (by omega) hharm
  have hn := hu.trans (noted_found hharm u l (dTag d) (linesRead (if dir = 1 then [dmaLines d] else [])))
  have hfull : u.unitFull l .dma = false := by
    unfold State.unitFull
    rw [hu.loom]
    exact decide_eq_false (Nat.not_le.2 hroom)
  have hissued := issued_toUnit _ l (hn.raceFree hrace) .dma d (if held then 0 else 3) waits (if dir = 1 then [dmaLines d] else [])
    (if dir = 1 then [] else [dmaLines d])
  rw [hn.loom, hn.ns] at hissued
  refine ⟨_, _, hn, hissued, ?_⟩
  unfold State.dmaOp
  rw [he]
  dsimp only
  rw [hfull, if_neg Bool.false_ne_true, hu.loomPart, hu.dmaCheck, hcheck]
  dsimp only
  rw [hu.isCopyRegion (loomPart_lt s l), hu.part, hwaits, hu.dmaReady, hheld]

end Sys2Proof.Machine
end

section
/-! SUPPORT. DMA descriptors from their issue to their completion (03 R81, R82; 04 R85, R95; 07 R164; 08 R189). -/

namespace Sys2Proof.Machine

open Sys2Proof

/-! ### What the checks at issue grant (04 R95) -/

theorem dmaShape_of_dmaCheck {s : State} {p dir : Nat} {d : Word512} (h : s.dmaCheck p dir d = none) : dmaShape dir d = none :=
  List.findSome?_eq_none_iff.1 h _ List.mem_cons_self

/-- Rows that pass the checks do not reach into the next row, and a transposed transfer's are those of 64 packed elements. -/
theorem shape_of_dmaShape {dir : Nat} {d : Word512} (h : dmaShape dir d = none) : ceilDiv (mRowBytes d) 64 ≤ mPitch d
    ∧ (dir = 2 → mFmt d < 10 ∧ mRowBytes d = packedBytes (mFmt d) 64) := by
  unfold dmaShape at h
  dsimp only at h
  split at h
  · exact absurd h nofun
  split at h
  · exact absurd h nofun
  split at h
  · exact absurd h nofun
  split at h
  · exact absurd h nofun
  exact ⟨by omega, fun hdir => by omega⟩

/-! ### A transfer's descriptor joins its queue -/

/-- The state in which a transfer that has joined its queue moves its rows. -/
structure Joined (s t : State) (l : LoomId) (x : Loom) : Prop where
  loom : LoomBecomes s t l x
  quiet : s.quiet → t.quiet
  parts : view .parts t = view .parts s
  layout : t.obj 0x90000A = s.obj 0x90000A
  hbm : t.hbm = s.hbm

theorem joined_of_issued {s n t : State} {l : LoomId} {x : Loom} (hn : Noted s n) (ht : Issued n t l x) : Joined s t l x where
  loom := ⟨ht.loom.1, fun j hj => (ht.loom.2 j hj).trans (hn.loom j)⟩
  quiet := fun hq => quiet_of_view (ht.areas .stackCtl (by decide)) (hn.quiet hq)
  parts := (ht.areas .parts (by decide)).trans (hn.areas .parts (by decide))
  layout := (ht.objs _ (by decide) (by decide)).trans hn.layout
  hbm := Eq.trans (ht.areas .hbm (by decide)) hn.hbm

section
variable {s t : State} {l : LoomId} {x : Loom} (h : Joined s t l x)
include h

theorem Joined.loomPart (j : LoomId) : t.loomPart j = s.loomPart j := partOfQuad_congr h.layout j.q

theorem Joined.readRegion (r off n : Nat) : t.readRegion (t.loomPart l) r off n = s.readRegion (s.loomPart l) r off n := by
  rw [h.loomPart]
  exact readRegion_congr h.layout h.parts h.hbm _ _ _ _

theorem Joined.mem : (t.loom l).mem = x.mem := by
  rw [h.loom.1]

/-- Rows reach the local memory of the loom whose descriptor joined. -/
theorem Joined.rowsIn {u : State} (hu : RowsIn t l u) : LoomBecomes s u l { x with mem := (u.loom l).mem, poison := (u.loom l).poison } := by
  obtain ⟨hloom, hothers⟩ := h.loom
  refine ⟨?_, fun j hj => (hu.others j hj).trans (hothers j hj)⟩
  have hmem := hu.loom
  unfold Loom.MemOnly at hmem
  rw [hloom] at hmem
  rw [hmem]

/-- Rows leave the local memory of the loom whose descriptor joined. -/
theorem Joined.calm {u : State} (hu : Calm t u) : LoomBecomes s u l x := by
  obtain ⟨hloom, hothers⟩ := h.loom
  have hsame := loom_of_view hu.looms
  refine ⟨?_, fun j hj => (hsame j).trans (hothers j hj)⟩
  rw [hsame l]
  exact hloom

/-- A row's pieces go where they go at the issue, and are what local memory holds then. -/
theorem Joined.pieceOut (hx : x.mem = (s.loom l).mem) (d : Word512) : t.pieceOut l d = s.pieceOut l d := by
  funext m e
  unfold State.pieceOut
  rw [h.loomPart, regionWord_congr h.layout h.parts, h.mem, hx]

end

/-- A DMA descriptor at the head whose checks pass joins its queue. -/
theorem dmaOp_joins {s : State} {l : LoomId} {dir : Nat} {d : Word512} {hit : Option LoomHit} (hhead : s.atHead l (0x3000 + dir) d)
    (hharm : harmless hit) (hroom : (s.loom l).dmaQ.length < 16) (hcheck : s.dmaCheck (s.loomPart l) dir d = none) (hrace : s.raceFree l)
    {waits held : Bool} (hwaits : (decide (dir ≠ 1) && s.isCopyRegion (s.loomPart l) (mRegion d) && !(s.part (s.loomPart l)).copied) = waits)
    (hheld : (waits || !s.dmaReady l dir d) = held) : ∃ t,
      Joined s t l ((s.loom l).joins .dma d s.ns (if held then 0 else 3) waits (if dir = 1 then [dmaLines d] else [])
        (if dir = 1 then [] else [dmaLines d]))
      ∧ s.dmaOp l dir hit = if held then t else t.transfer l dir d := by
  obtain ⟨n, t, hn, ht, he⟩ := dmaOp_issues hhead hharm hroom hcheck hrace hwaits hheld
  exact ⟨t, joined_of_issued hn ht, he⟩

/-- The read of a region waits for no copy: it is of another region, or the copy is written (07 R164). -/
theorem not_waits {s : State} {l : LoomId} {d : Word512} {dir : Nat}
    (h : s.isCopyRegion (s.loomPart l) (mRegion d) = false ∨ (s.part (s.loomPart l)).copied = true) :
    (decide (dir ≠ 1) && s.isCopyRegion (s.loomPart l) (mRegion d) && !(s.part (s.loomPart l)).copied) = false := by
  rcases h with h | h <;> simp [h]

theorem Loom.MemOnly.dmaQ {x y : Loom} (h : x.MemOnly y) : y.dmaQ = x.dmaQ := by
  rw [h]

theorem OnlyLooms.trans {ls : List LoomId} {s t u : State} (h : OnlyLooms ls s t) (k : OnlyLooms ls t u) : OnlyLooms ls s u :=
  fun j hj => (k j hj).trans (h j hj)

theorem onlyLooms_setLoom (s : State) (l : LoomId) (x : Loom) : OnlyLooms [l] s (s.setLoom l x) :=
  fun _ hj => loom_setLoom_other s (fun e => hj (List.mem_singleton.2 e)) x

/-! ### Transfers at their issue -/

section
variable {s : State} {l : LoomId} {hit : Option LoomHit} {d : Word512} (hharm : harmless hit) (hroom : (s.loom l).dmaQ.length < 16)
  (hrace : s.raceFree l)
include hharm hroom hrace

theorem dmaToLocal_moves (hhead : s.atHead l 0x3000 d) (hcheck : s.dmaCheck (s.loomPart l) 0 d = none)
    (hcopy : s.isCopyRegion (s.loomPart l) (mRegion d) = false ∨ (s.part (s.loomPart l)).copied = true) (hquiet : s.quiet)
    (hready : s.dmaReady l 0 d = true) : ∃ t, exec (.dmaToLocal l hit) s = .next t
    ∧ LoomBecomes s t l { (s.loom l).joins .dma d s.ns 3 false [] [dmaLines d] with mem := (t.loom l).mem, poison := (t.loom l).poison }
    ∧ (∀ i, i < mRows d → getBytes (t.loom l).mem (64 * (mLine d + i * mPitch d)) (mRowBytes d)
        = s.readRegion (s.loomPart l) (mRegion d) (dmaAt d i) (mRowBytes d))
    ∧ (∀ a, (∀ i, i < mRows d → a < 64 * (mLine d + i * mPitch d) ∨ 64 * (mLine d + i * mPitch d) + mRowBytes d ≤ a) →
        SMap.get 0 (t.loom l).mem a = SMap.get 0 (s.loom l).mem a)
    ∧ t.hbm = s.hbm := by
  obtain ⟨t, ht, he⟩ := dmaOp_joins (dir := 0) (held := false) hhead hharm hroom hcheck hrace (not_waits hcopy) (by simp [hready])
  obtain ⟨hin, -⟩ := rowsIn_transfer_in (ht.quiet hquiet) l d
  obtain ⟨hrows, houtside⟩ := transfer_in (ht.quiet hquiet) l d (shape_of_dmaShape (dmaShape_of_dmaCheck hcheck)).1
  refine ⟨t.transfer l 0 d, congrArg Host.Outcome.next he, ht.rowsIn hin, fun i hi => ?_, fun a ha => ?_, hin.hbm.trans ht.hbm⟩
  · rw [hrows i hi, ht.readRegion]
  · rw [houtside a ha, ht.mem]
    rfl

theorem dmaToHbm_moves (hhead : s.atHead l 0x3001 d) (hcheck : s.dmaCheck (s.loomPart l) 1 d = none) (hquiet : s.quiet)
    (hready : s.dmaReady l 1 d = true) : ∃ t, exec (.dmaToHbm l hit) s = .next t
    ∧ LoomBecomes s t l ((s.loom l).joins .dma d s.ns 3 false [dmaLines d] [])
    ∧ t.hbm = (((List.range (mRows d)).map (fun i => (piecesOf (dmaAt d i) (mRowBytes d)).map (fun c => (i, c)))).flatten).foldl
        (s.pieceOut l d) s.hbm := by
  obtain ⟨t, ht, he⟩ := dmaOp_joins (dir := 1) (waits := false) (held := false) hhead hharm hroom hcheck hrace (by simp) (by simp [hready])
  obtain ⟨hcalm, hhbm⟩ := transfer_out (ht.quiet hquiet) l d
  refine ⟨t.transfer l 1 d, congrArg Host.Outcome.next he, ht.calm hcalm, ?_⟩
  rw [hhbm, ht.hbm, ht.pieceOut rfl]

theorem dmaTransposed_moves (hhead : s.atHead l 0x3002 d) (hcheck : s.dmaCheck (s.loomPart l) 2 d = none)
    (hcopy : s.isCopyRegion (s.loomPart l) (mRegion d) = false ∨ (s.part (s.loomPart l)).copied = true) (hquiet : s.quiet)
    (hready : s.dmaReady l 2 d = true) : ∃ t, exec (.dmaTransposed l hit) s = .next t
    ∧ LoomBecomes s t l { (s.loom l).joins .dma d s.ns 3 false [] [dmaLines d] with mem := (t.loom l).mem, poison := (t.loom l).poison }
    ∧ (∀ k n, k < 64 → n < 64 → ((t.loom l).elems (mFmt d) (mLine d + k * mPitch d) 64).getD n 0
        = (unpackElems (mFmt d) 64 (s.readRegion (s.loomPart l) (mRegion d) (dmaAt d n) (mRowBytes d))).getD k 0)
    ∧ t.hbm = s.hbm := by
  obtain ⟨t, ht, he⟩ := dmaOp_joins (dir := 2) (held := false) hhead hharm hroom hcheck hrace (not_waits hcopy) (by simp [hready])
  obtain ⟨hin, -⟩ := rowsIn_transfer_transposed (ht.quiet hquiet) l d
  obtain ⟨hpitch, hpacked⟩ := shape_of_dmaShape (dmaShape_of_dmaCheck hcheck)
  obtain ⟨hfmt, hbytes⟩ := hpacked rfl
  refine ⟨t.transfer l 2 d, congrArg Host.Outcome.next he, ht.rowsIn hin, fun k n hk hn => ?_, hin.hbm.trans ht.hbm⟩
  rw [transfer_transposed (ht.quiet hquiet) l d hfmt (hbytes ▸ le_of_ceilDiv_le hpitch) hk hn, ht.readRegion]

/-- A read of a copy region that is not written yet holds the sequencer (01 R17; 07 R164). -/
theorem dmaToLocal_waits (hhead : s.atHead l 0x3000 d) (hcheck : s.dmaCheck (s.loomPart l) 0 d = none)
    (hregion : s.isCopyRegion (s.loomPart l) (mRegion d) = true) (hcopied : (s.part (s.loomPart l)).copied = false) : ∃ t,
    exec (.dmaToLocal l hit) s = .next t ∧ LoomBecomes s t l ((s.loom l).joins .dma d s.ns 0 true [] [dmaLines d]) := by
  obtain ⟨t, ht, he⟩ := dmaOp_joins (dir := 0) (waits := true) (held := true) hhead hharm hroom hcheck hrace (by simp [hregion, hcopied]) rfl
  exact ⟨t, congrArg Host.Outcome.next he, ht.loom⟩

/-- A transfer whose stacks cannot be asked yet stays in its queue (08 R189; 09 R207). -/
theorem dmaToLocal_notReady (hhead : s.atHead l 0x3000 d) (hcheck : s.dmaCheck (s.loomPart l) 0 d = none)
    (hcopy : s.isCopyRegion (s.loomPart l) (mRegion d) = false ∨ (s.part (s.loomPart l)).copied = true) (hready : s.dmaReady l 0 d = false) :
    ∃ t, exec (.dmaToLocal l hit) s = .next t ∧ LoomBecomes s t l ((s.loom l).joins .dma d s.ns 0 false [] [dmaLines d]) ∧ t.hbm = s.hbm := by
  obtain ⟨t, ht, he⟩ := dmaOp_joins (dir := 0) (held := true) hhead hharm hroom hcheck hrace (not_waits hcopy) (by simp [hready])
  exact ⟨t, congrArg Host.Outcome.next he, ht.loom, ht.hbm⟩

end

/-! ### Transfers after their issue -/

/-- Waits that a completion ends change the sequencer alone. -/
theorem released_eq (x : Loom) (nth : Nat) : x.released nth = { x with seq := (x.released nth).seq } := by
  unfold Loom.released
  split
  · split <;> rfl
  · split <;> rfl
  · rfl

/-- The DMA engine finishes entry e: it leaves its queue, waits end, and the completion is traced and padded (04 R86; 05 R124). -/
def State.finishes (s : State) (l : LoomId) (e : InFlight) (p : Nat) : State :=
  let t := (s.setLoom l (({ s.loom l with dmaQ := (s.loom l).dmaQ.erase e } : Loom).released e.nth)).loomTrace l 2 e.nth e.index.toNat e.desc
  if padsOn e.desc then t.pad p (some (ucLoom, loomKey l)) e.nth else t

theorem finishes_becomes (s : State) (l : LoomId) (e : InFlight) (p : Nat) : LoomBecomes s (s.finishes l e p) l
    (({ s.loom l with dmaQ := (s.loom l).dmaQ.erase e } : Loom).released e.nth) := by
  generalize hx : ({ s.loom l with dmaQ := (s.loom l).dmaQ.erase e } : Loom).released e.nth = x
  obtain ⟨htrace, hothers⟩ := loomTrace_becomes (s.setLoom l x) l 2 e.nth e.index.toNat e.desc
  rw [loom_setLoom_same] at htrace
  have hlooms : view .looms (s.finishes l e p) = view .looms ((s.setLoom l x).loomTrace l 2 e.nth e.index.toNat e.desc) := by
    unfold State.finishes
    dsimp only
    rw [hx]
    split
    · exact view_pad (by decide) ..
    · rfl
  refine ⟨by rw [loom_of_view hlooms]; exact htrace, fun j hj => ?_⟩
  rw [loom_of_view hlooms, hothers j hj, onlyLooms_setLoom s l x j hj]

/-- A transfer that could not be asked for at its issue moves its rows before it completes. -/
theorem exec_descriptorComplete_late {s : State} {l : LoomId} {k : Fin 16} {e : InFlight} (hruns : s.quadRuns l.q = true)
    (hentry : (s.loom l).dmaQ[k.val]? = some e) (hphase : e.phase = 0) (hwaits : e.waits = false) (hdir : dField e.desc 35 32 = 0)
    (hready : s.dmaReady l 0 e.desc = true) :
    exec (.descriptorComplete l .dma k) s = .next ((s.transfer l 0 e.desc).finishes l e (s.loomPart l)) := by
  show execDescriptorComplete l .dma k s = _
  unfold execDescriptorComplete
  rw [if_pos hruns, show (s.loom l).finishing .dma k = (s.loom l).dmaQ[k.val]? from rfl, hentry]
  dsimp only
  rw [hdir, hready, hwaits, hphase, if_neg (by decide), if_neg (c := dOp e.desc = 0x30 ∧ 0 = 1) (by omega)]
  rfl

section
variable {s : State} {l : LoomId} {e : InFlight} (hdir : dField e.desc 35 32 = 0) (hwidth : ceilDiv (mRowBytes e.desc) 64 ≤ mPitch e.desc)
  (hquiet : s.quiet) (hready : s.dmaReady l 0 e.desc = true) (hruns : s.quadRuns l.q = true)
include hdir hwidth hquiet hready hruns

theorem commitWaitEnd_moves (hseq : (s.loom l).seq = .commitWait) (hcopied : (s.part (s.loomPart l)).copied = true)
    (hfind : (s.loom l).dmaQ.find? (fun e => e.waits) = some e) : ∃ t, exec (.commitWaitEnd l) s = .next t
    ∧ (t.loom l).seq = (if dSync e.desc then .waitDesc e.nth else .running)
    ∧ (t.loom l).dmaQ = (s.loom l).dmaQ.map (fun o => if o.waits then { o with waits := false, phase := 3 } else o)
    ∧ (∀ i, i < mRows e.desc → getBytes (t.loom l).mem (64 * (mLine e.desc + i * mPitch e.desc)) (mRowBytes e.desc)
        = s.readRegion (s.loomPart l) (mRegion e.desc) (dmaAt e.desc i) (mRowBytes e.desc))
    ∧ OnlyLooms [l] s t := by
  obtain ⟨hin, -⟩ := rowsIn_transfer_in hquiet l e.desc
  obtain ⟨hrows, -⟩ := transfer_in hquiet l e.desc hwidth
  have hqueue : ((s.transfer l 0 e.desc).loom l).dmaQ = (s.loom l).dmaQ := hin.loom.dmaQ
  have hexec : exec (.commitWaitEnd l) s = .next ((s.transfer l 0 e.desc).setLoom l { (s.transfer l 0 e.desc).loom l with
      dmaQ := releaseWaits 3 (s.loom l).dmaQ
      seq := if dSync e.desc then .waitDesc e.nth else .running
      seqSince := s.ns }) := by
    show execCommitWaitEnd l s = _
    unfold execCommitWaitEnd
    dsimp only
    rw [hruns, hseq, hcopied, hfind]
    dsimp only
    rw [hdir, hready, if_pos (by decide), if_pos rfl, if_pos rfl, hqueue]
  refine ⟨_, hexec, ?_, ?_, fun i hi => ?_, hin.others.trans (onlyLooms_setLoom _ _ _)⟩ <;> rw [loom_setLoom_same]
  · rfl
  · exact hrows i hi

theorem descriptorComplete_moves {k : Fin 16} (hentry : (s.loom l).dmaQ[k.val]? = some e) (hphase : e.phase = 0) (hwaits : e.waits = false) : ∃ t,
    exec (.descriptorComplete l .dma k) s = .next t
    ∧ (t.loom l).dmaQ = (s.loom l).dmaQ.erase e
    ∧ (∀ i, i < mRows e.desc → getBytes (t.loom l).mem (64 * (mLine e.desc + i * mPitch e.desc)) (mRowBytes e.desc)
        = s.readRegion (s.loomPart l) (mRegion e.desc) (dmaAt e.desc i) (mRowBytes e.desc))
    ∧ OnlyLooms [l] s t := by
  obtain ⟨hin, -⟩ := rowsIn_transfer_in hquiet l e.desc
  obtain ⟨hrows, -⟩ := transfer_in hquiet l e.desc hwidth
  have hqueue : ((s.transfer l 0 e.desc).loom l).dmaQ = (s.loom l).dmaQ := hin.loom.dmaQ
  obtain ⟨hloom, hothers⟩ := finishes_becomes (s.transfer l 0 e.desc) l e (s.loomPart l)
  rw [released_eq, hqueue] at hloom
  refine ⟨_, exec_descriptorComplete_late hruns hentry hphase hwaits hdir hready, ?_, fun i hi => ?_, hin.others.trans hothers⟩ <;> rw [hloom]
  exact hrows i hi

end

/-- Settles O43: at issue the rows are those that the checks keep apart, and no request waits at a controller that could change them
while they move. -/
theorem dmaMovesRows : Obligations.DmaMovesRows := by
  unfold Obligations.DmaMovesRows
  refine ⟨?_, ?_, ?_, ?_, ?_, ?_, ?_⟩
  · intro l hit d s hhead hharm hroom hcheck hcopy hrace hquiet hready
    exact dmaToLocal_moves hharm hroom hrace hhead hcheck hcopy hquiet hready
  · intro l hit d s hhead hharm hroom hcheck hrace hquiet hready
    exact dmaToHbm_moves hharm hroom hrace hhead hcheck hquiet hready
  · intro l hit d s hhead hharm hroom hcheck hcopy hrace hquiet hready
    exact dmaTransposed_moves hharm hroom hrace hhead hcheck hcopy hquiet hready
  · intro l hit d s hhead hharm hroom hcheck hregion hcopied hrace
    exact dmaToLocal_waits hharm hroom hrace hhead hcheck hregion hcopied
  · intro l e s hseq hruns hcopied hfind hdir hwidth hquiet hready
    exact commitWaitEnd_moves hdir hwidth hquiet hready hruns hseq hcopied hfind
  · intro l hit d s hhead hharm hroom hcheck hcopy hrace hready
    exact dmaToLocal_notReady hharm hroom hrace hhead hcheck hcopy hready
  · intro l k e s hruns hentry hphase hwaits hdir hwidth hquiet hready
    exact descriptorComplete_moves hdir hwidth hquiet hready hruns hentry hphase hwaits

end Sys2Proof.Machine
end

section
/-! SUPPORT. Conversion of NaN and the infinities (02 R40): the random bits do not enter it. -/

namespace Sys2Proof.Machine

open Sys2Proof

theorem convertTo_nan (f : Nat) (u : Option Nat) : convertTo f .nan u = (if isFloat f then fmtNan f else 0, .nonfinite) := by
  unfold convertTo
  split <;> rfl

theorem convertTo_inf (f : Nat) (neg : Bool) (u : Option Nat) : convertTo f (.inf neg) u
    = (if isFloat f then withSign f neg (if f ≤ 2 then fmtInf f else fmtMax f) else if neg then 0x81 else 0x7F, .nonfinite) := by
  unfold convertTo
  split <;> rfl

/-- Settles O37: what a non-finite value converts to depends on the format and the sign alone, and the nine formats are those of the table. -/
theorem nonFiniteConversions : Obligations.NonFiniteConversions := by
  unfold Obligations.NonFiniteConversions
  refine ⟨fun u => ?_, fun u => ?_, fun u => ?_, fun n u => ⟨rfl, rfl, rfl⟩⟩
  · simp only [convertTo_nan]
    decide
  · simp only [convertTo_inf]
    decide
  · simp only [convertTo_inf]
    decide

end Sys2Proof.Machine
end

section
/-! SUPPORT. How a vector descriptor issues and stores its results (03 R74 to R82; 04 R85, R94, R95), where no source is poisoned. -/

namespace Sys2Proof.Machine

open Sys2Proof

/-! ### Origins -/

theorem firstOf_clean {o : List Nat} (h : ∀ x ∈ o, x = 0) : firstOf o = 0 := by
  unfold firstOf
  induction o with
  | nil => rfl
  | cons x o ih =>
    obtain ⟨rfl, ho⟩ := List.forall_mem_cons.1 h
    exact ih ho

/-- Results without poison leave no mark beyond what the bytes themselves do. -/
theorem putElems_clean (x : Loom) (a w : Nat) (b : Bytes) {o : List Nat} (h : ∀ y ∈ o, y = 0) : x.putElems a w b o = x.put a b 0 := by
  have hmarks (l : List (Nat × Nat)) (hl : ∀ e ∈ l, e.1 = 0) (y : Loom) : l.foldl (fun (y : Loom) e =>
      y.mark (a + (elemBytes w e.2).1) ((elemBytes w e.2).2 + 1 - (elemBytes w e.2).1) e.1) y = y := by
    induction l generalizing y with
    | nil => rfl
    | cons e l ih =>
      obtain ⟨he, hl⟩ := List.forall_mem_cons.1 hl
      rw [List.foldl_cons, Loom.mark, if_pos he]
      exact ih hl y
  exact hmarks _ (fun e he => h _ (List.fst_mem_of_mem_zipIdx he)) _

/-- Records of conversions change the accumulators alone (06 R140). -/
theorem foldl_note (x : Loom) (fld : Nat) (l : List ((Nat × ConvClass) × Val)) :
    l.foldl (fun (z : Loom) c => z.note fld c.1.2 c.2) x = { x with eph := (l.foldl (fun (z : Loom) c => z.note fld c.1.2 c.2) x).eph } := by
  induction l generalizing x with
  | nil => rfl
  | cons c l ih =>
    have hnote : x.note fld c.1.2 c.2 = { x with eph := (x.note fld c.1.2 c.2).eph } := by
      unfold Loom.note
      split <;> rfl
    rw [List.foldl_cons, ih, hnote]

/-! ### Results stored -/

/-- `u` is `t` after a vector operation stored the bytes `b` of its results. -/
structure Stored (t u : State) (l : LoomId) (d : Word512) (b : Bytes) : Prop where
  loom : u.loom l = { (t.loom l).put (64 * dField d 119 106) b 0 with eph := (u.loom l).eph }
  others : OnlyLooms [l] t u
  objs : OnlyObjs (0x702006 :: raisedObjs) t u

section
variable (t : State) (l : LoomId) (d : Word512) {o : List Nat} (ho : ∀ x ∈ o, x = 0)
include ho

/-- Results are stored from a loom that recorded conversions. -/
theorem stored_vecStore {x : Loom} (hx : x = { t.loom l with eph := x.eph }) (w : Nat) (b : Bytes) : Stored t (t.vecStore l d x w b o) l d b := by
  have hstore : t.vecStore l d x w b o = t.setLoom l (x.put (64 * dField d 119 106) b 0) := by
    unfold State.vecStore
    rw [putElems_clean _ _ _ _ ho, firstOf_clean ho]
    rfl
  rw [hstore]
  refine ⟨?_, onlyLooms_setLoom t l _, fun r _ => obj_setLoom t l _ r⟩
  rw [loom_setLoom_same]
  conv_lhs => rw [hx]
  rfl

theorem stored_vecConvert (vals : List Val) : Stored t (t.vecConvert l d vals o) l d (t.convertedBytes l d vals) :=
  stored_vecStore t l d ho (foldl_note _ _ _) _ _

theorem stored_vecMask (m : List Nat) : Stored t (t.vecMask l d m o) l d (packElems (vFmtD d) m) :=
  stored_vecStore t l d ho rfl _ _

theorem stored_vecT32 : Stored t (t.vecT32 l d o) l d (packElems 9 ((t.t32Out l d).map (fun c => c.1.1))) :=
  stored_vecStore t l d ho (foldl_note _ _ _) _ _

theorem stored_vecVote : Stored t (t.vecVote l d o) l d (packVotes ((t.voteOut l d).map (fun c => c.1.1))) :=
  stored_vecStore t l d ho (foldl_note _ _ _) _ _

omit ho in
theorem obj_overflows {r : Nat} (hr : r ∉ 0x702006 :: raisedObjs) (tag : Nat) (keys : List Nat) : (t.overflows l tag keys).obj r = t.obj r := by
  obtain ⟨hcount, hraised⟩ := List.ne_and_not_mem_of_not_mem_cons hr
  unfold State.overflows
  induction keys generalizing t with
  | nil => rfl
  | cons k keys ih => rw [List.foldl_cons, ih, obj_bump_other _ hcount, obj_raiseQuad _ hraised (by decide)]

/-- A value that wrapped is reported (03 R70): no loom changes with that. -/
theorem stored_vecWide (a : List A96) : Stored t (t.vecWide l d a o) l d (packElems 10 (a.map A96.slot)) := by
  obtain ⟨hloom, hothers, hobjs⟩ := stored_vecStore t l d ho (x := t.loom l) rfl 128 (packElems 10 (a.map A96.slot))
  have hsame (j : LoomId) : (t.vecWide l d a o).loom j = (t.vecStore l d (t.loom l) 128 (packElems 10 (a.map A96.slot)) o).loom j :=
    loom_of_view (view_overflows (by decide) ..) j
  refine ⟨?_, fun j hj => (hsame j).trans (hothers j hj), fun r hr => (obj_overflows _ l hr _ _).trans (hobjs r hr)⟩
  rw [hsame l]
  exact hloom

end

/-! ### Issue -/

/-- `t` is `s` after vector descriptor `d` has joined its queue. -/
structure VectorJoined (s t : State) (l : LoomId) (d : Word512) : Prop where
  loom : LoomBecomes s t l ((s.loom l).joins .vector d s.ns 3 false (vecReads d) (vecWrites d))
  part : ∀ p, t.part p = s.part p
  objs : OnlyObjs (0x801006 :: raisedObjs) s t

/-- A vector descriptor at the head whose checks pass joins its queue, and its data effect follows at once (log 17). -/
theorem vectorOp_issues {s : State} {l : LoomId} {vop : Nat} {d : Word512} {hit : Option LoomHit} (hhead : s.atHead l (0x2000 + vop) d)
    (hharm : harmless hit) (hroom : (s.loom l).vectorQ.length < 8) (hcheck : (s.loom l).vecCheck vop d = none) (hrace : s.raceFree l) :
    ∃ t, VectorJoined s t l d ∧ ∀ f, s.vectorOp l vop hit f = f (s.loom l) d ((s.loom l).vecPoison vop d) t := by
  obtain ⟨u, hu, he⟩ := descriptor_atHead hhead (by omega) hharm
  have hn := hu.trans (noted_found hharm u l (dTag d) (vecWords d))
  have hfull : u.unitFull l .vector = false := by
    unfold State.unitFull
    rw [hu.loom]
    exact decide_eq_false (Nat.not_le.2 hroom)
  have hissued := issued_toUnit _ l (hn.raceFree hrace) .vector d 3 false (vecReads d) (vecWrites d)
  rw [hn.loom, hn.ns] at hissued
  have hjoined := joined_of_issued hn hissued
  refine ⟨_, ⟨hjoined.loom, part_of_view hjoined.parts, fun r hr => ?_⟩, fun f => ?_⟩
  · obtain ⟨htrace, hraised⟩ := List.ne_and_not_mem_of_not_mem_cons hr
    exact (hissued.objs r hraised htrace).trans (hn.objs r hraised)
  · unfold State.vectorOp
    rw [he]
    dsimp only
    rw [hfull, if_neg Bool.false_ne_true, hu.loom, hcheck]
    dsimp only
    rw [hn.loom]

section
variable {s t : State} {l : LoomId} {d : Word512} (h : VectorJoined s t l d)
include h

theorem VectorJoined.loomPart : t.loomPart l = s.loomPart l := partOfQuad_congr (h.objs _ (by decide)) l.q

theorem VectorJoined.stepNo : t.stepNo (s.loomPart l) = s.stepNo (s.loomPart l) := by
  have hp := loomPart_lt s l
  exact h.objs _ (by simp only [raisedObjs, List.mem_cons, List.not_mem_nil, or_false]; omega)

/-- The sources are as they were. -/
theorem VectorJoined.sourceA : (t.loom l).sourceA d = (s.loom l).sourceA d := by
  rw [h.loom.1]
  rfl

/-- The scales are as they were. -/
theorem VectorJoined.scaleExp (f fld : Nat) : (t.loom l).scaleExp f fld = (s.loom l).scaleExp f fld := by
  rw [h.loom.1]
  rfl

theorem VectorJoined.convertedBytes (vals : List Val) : t.convertedBytes l d vals = s.convertedBytes l d vals := by
  unfold State.convertedBytes State.converted
  simp only [h.loomPart, h.stepNo, h.part, h.scaleExp]

theorem VectorJoined.t32Out : t.t32Out l d = s.t32Out l d := by
  unfold State.t32Out
  simp only [h.loomPart, h.stepNo, h.part, h.scaleExp, h.sourceA]

theorem VectorJoined.voteOut : t.voteOut l d = s.voteOut l d := by
  unfold State.voteOut
  simp only [h.scaleExp, h.sourceA]

/-- Results reach the local memory of the loom whose descriptor joined. -/
theorem VectorJoined.becomes {u : State} {b : Bytes} (hu : Stored t u l d b) : LoomBecomes s u l
    { ((s.loom l).joins .vector d s.ns 3 false (vecReads d) (vecWrites d)).put (64 * dField d 119 106) b 0 with eph := (u.loom l).eph } := by
  obtain ⟨hloom, hothers⟩ := h.loom
  refine ⟨?_, hothers.trans hu.others⟩
  have hput := hu.loom
  rw [hloom] at hput
  rw [hput]
  rfl

end

/-! ### The operations -/

section
variable {c : LoomId → Option LoomHit → Instr} {vop : Nat}

/-- A vector operation writes what its data effect stores. -/
theorem vectorWrites_of_stored {f : State → LoomId → Word512 → Bytes} (g : LoomId → Loom → Word512 → List Nat → State → State)
    (hexec : ∀ l hit s, exec (c l hit) s = .next (s.vectorOp l vop hit (g l)))
    (hstored : ∀ {s t : State} {l : LoomId} {d : Word512} {o : List Nat}, VectorJoined s t l d → (∀ x ∈ o, x = 0) →
      Stored t (g l (s.loom l) d o t) l d (f s l d)) : VectorWrites c vop f := by
  intro l hit d s hhead hharm hroom hcheck hclean hrace
  obtain ⟨t, ht, he⟩ := vectorOp_issues hhead hharm hroom hcheck hrace
  have hu := hstored ht hclean
  refine ⟨_, (hexec l hit s).trans (congrArg Host.Outcome.next (he (g l))), ht.becomes hu, fun r hr => ?_⟩
  obtain ⟨htrace, hstores⟩ := List.ne_and_not_mem_of_not_mem_cons hr
  obtain ⟨-, hraised⟩ := List.ne_and_not_mem_of_not_mem_cons hstores
  exact (hu.objs r hstores).trans (ht.objs r (List.not_mem_cons_of_ne_of_not_mem htrace hraised))

/-- An operation whose results are values converts them to the destination format (03 R75; 02 R38). -/
theorem vectorWrites_vals {f : Loom → Word512 → List Val} (hexec : ∀ l hit s, exec (c l hit) s = .next (s.vectorVals l vop hit f)) :
    VectorWrites c vop (fun s l d => s.convertedBytes l d (f (s.loom l) d)) :=
  vectorWrites_of_stored (fun l x d o t => t.vecConvert l d (f x d) o) hexec fun ht ho => ht.convertedBytes _ ▸ stored_vecConvert _ _ _ ho _

/-- A compare writes its masks as they are (03 R75). -/
theorem vectorWrites_mask {m : Loom → Word512 → List Nat}
    (hexec : ∀ l hit s, exec (c l hit) s = .next (s.vectorOp l vop hit (fun x d o t => t.vecMask l d (m x d) o))) :
    VectorWrites c vop (fun s l d => packElems (vFmtD d) (m (s.loom l) d)) :=
  vectorWrites_of_stored _ hexec fun _ ho => stored_vecMask _ _ _ ho _

/-- A wide operation writes its slots (03 R74). -/
theorem vectorWrites_wide {a : Loom → Word512 → List A96}
    (hexec : ∀ l hit s, exec (c l hit) s = .next (s.vectorOp l vop hit (fun x d o t => t.vecWide l d (a x d) o))) :
    VectorWrites c vop (fun s l d => packElems 10 ((a (s.loom l) d).map A96.slot)) :=
  vectorWrites_of_stored _ hexec fun _ ho => stored_vecWide _ _ _ ho _

end

theorem vectorWrites_toT32 : VectorWrites .toT32 0x30 (fun s l d => packElems 9 ((s.t32Out l d).map (fun c => c.1.1))) :=
  vectorWrites_of_stored (fun l _ d o t => t.vecT32 l d o) (fun _ _ _ => rfl) fun ht ho => ht.t32Out ▸ stored_vecT32 _ _ _ ho

theorem vectorWrites_toVote : VectorWrites .toVote 0x31 (fun s l d => packVotes ((s.voteOut l d).map (fun c => c.1.1))) :=
  vectorWrites_of_stored (fun l _ d o t => t.vecVote l d o) (fun _ _ _ => rfl) fun ht ho => ht.voteOut ▸ stored_vecVote _ _ _ ho

/-- Settles O41: each operation is one data effect of a descriptor that issues, and its kind (values to convert, masks, slots, chunk elements,
votes) says what it stores. -/
theorem vectorOperations : Obligations.VectorOperations := by
  unfold Obligations.VectorOperations
  refine ⟨?add, ?sub, ?mul, ?fma, ?min, ?max, ?abs, ?neg, ?cmplt, ?cmpeq, ?sel, ?cvt, ?exp2, ?log2, ?rcp, ?rsqrt, ?tanh, ?rsum, ?rmin, ?rmax,
    ?wsum, ?wadd, vectorWrites_toT32, vectorWrites_toVote⟩
  case cmplt | cmpeq => exact vectorWrites_mask fun _ _ _ => rfl
  case wsum => exact vectorWrites_wide (a := fun x d => [wideSum x d]) fun _ _ _ => rfl
  case wadd => exact vectorWrites_wide fun _ _ _ => rfl
  all_goals exact vectorWrites_vals fun _ _ _ => rfl

end Sys2Proof.Machine
end

section
/-! SUPPORT. The transcendental functions (03 R78): a result is a rounded value or one of the patterns of the table, and none of these is a NaN other
than the canonical one. -/

namespace Sys2Proof

/-! ### NaN patterns (02 R30, R40) -/

/-- A pattern that is no NaN but the canonical one. -/
def NanCanonical (p : Nat) : Prop := val32 p = .nan → p = nan32

/-- A magnitude at or below that of infinity, with either sign, is no NaN. -/
theorem nanCanonical_withSign {p : Nat} (h : p ≤ fmtInf 0) (neg : Bool) : NanCanonical (withSign 0 neg p) := by
  have hinf : fmtInf 0 = 255 * 2 ^ 23 := by decide
  have hparts : field (withSign 0 neg p) 30 23 = p / 2 ^ 23 ∧ withSign 0 neg p % 2 ^ 23 = p % 2 ^ 23 := by
    unfold withSign field
    rw [show fmtWidth 0 = 32 from rfl]
    split <;> omega
  obtain ⟨hexp, hfrac⟩ := hparts
  unfold NanCanonical val32 floatVal
  simp only [show fmtWidth 0 = 32 from rfl, show fmtMant 0 = 23 from rfl, show hasInf 0 = true from rfl]
  rw [hexp, hfrac]
  split
  · split
    · simp
    · omega
  · split
    · omega
    · split <;> simp

/-- Only a NaN rounds to a NaN, and to the canonical one (02 R38, R40). -/
theorem nanCanonical_to32 (v : Val) : NanCanonical (to32 v) := by
  have hmax : fmtMax 0 ≤ fmtInf 0 := by decide
  cases v with
  | nan => exact fun _ => rfl
  | inf neg => exact nanCanonical_withSign (Nat.le_refl _) neg
  | fin neg n d e =>
    unfold to32 toFloat
    dsimp only
    split
    · exact nanCanonical_withSign (Nat.zero_le _) neg
    · split
      · exact nanCanonical_withSign (Nat.le_refl _) neg
      next hfits => exact nanCanonical_withSign ((Nat.not_lt.1 hfits).trans hmax) neg

theorem nanCanonical_nan32 : NanCanonical nan32 := fun _ => rfl

theorem nanCanonical_zero : NanCanonical 0 := nanCanonical_withSign (Nat.zero_le _) false

theorem nanCanonical_inf : NanCanonical 0x7F800000 := nanCanonical_withSign (Nat.le_refl _) false

theorem nanCanonical_negInf : NanCanonical 0xFF800000 := nanCanonical_withSign (Nat.le_refl _) true

theorem nanCanonical_one (neg : Bool) : NanCanonical (withSign 0 neg 0x3F800000) := nanCanonical_withSign (by decide) neg

/-! ### The five functions -/

theorem nanCanonical_exp2Fn (p : Nat) : NanCanonical (exp2Fn p) := by
  unfold exp2Fn
  split
  · exact nanCanonical_nan32
  · split
    · exact nanCanonical_zero
    · exact nanCanonical_inf
  · split
    · exact nanCanonical_one false
    · split
      · exact nanCanonical_inf
      · split
        · exact nanCanonical_zero
        · exact nanCanonical_to32 _

theorem nanCanonical_log2Fn (p : Nat) : NanCanonical (log2Fn p) := by
  unfold log2Fn
  split
  · exact nanCanonical_nan32
  · split
    · exact nanCanonical_nan32
    · exact nanCanonical_inf
  · split
    · exact nanCanonical_negInf
    · split
      · exact nanCanonical_nan32
      · exact nanCanonical_to32 _

theorem nanCanonical_rcpFn (p : Nat) : NanCanonical (rcpFn p) := by
  unfold rcpFn
  split
  · exact nanCanonical_nan32
  next neg _ => exact nanCanonical_withSign (Nat.zero_le _) neg
  next neg _ _ _ _ =>
    split
    · exact nanCanonical_withSign (Nat.le_refl _) neg
    · exact nanCanonical_to32 _

theorem nanCanonical_rsqrtFn (p : Nat) : NanCanonical (rsqrtFn p) := by
  unfold rsqrtFn
  split
  · exact nanCanonical_nan32
  · split
    · exact nanCanonical_nan32
    · exact nanCanonical_zero
  next neg _ _ _ _ =>
    split
    · exact nanCanonical_withSign (Nat.le_refl _) neg
    · split
      · exact nanCanonical_nan32
      · exact nanCanonical_to32 _

/-- A zero comes back as it is; it is no NaN. -/
theorem nanCanonical_tanhFn (p : Nat) : NanCanonical (tanhFn p) := by
  unfold tanhFn
  split
  · exact nanCanonical_nan32
  next neg _ => exact nanCanonical_one neg
  next neg n d e hp =>
    split
    · exact fun hnan => absurd (hp.symm.trans hnan) (by simp)
    · dsimp only
      split
      · exact nanCanonical_to32 _
      · split
        · exact nanCanonical_one neg
        · exact nanCanonical_to32 _

/-- Settles O38: the table's inputs by evaluation, NaN and negative inputs by the first branches of each function, and the results by the
patterns that they can be. -/
theorem transcendentalSpecials : Obligations.TranscendentalSpecials := by
  unfold Obligations.TranscendentalSpecials
  refine ⟨fun p _ hnan => ?nan, ?inf, ?negInf, ?zero, ?negZero, fun p n d e _ hneg hn => ?negative, ?results⟩
  case nan => simp [exp2Fn, log2Fn, rcpFn, rsqrtFn, tanhFn, hnan]
  case inf | negInf | zero | negZero => decide
  case negative => simp [log2Fn, rsqrtFn, hneg, hn]
  case results =>
    intro f hf p _
    simp only [List.mem_cons, List.not_mem_nil, or_false] at hf
    rcases hf with rfl | rfl | rfl | rfl | rfl
    · exact nanCanonical_exp2Fn p
    · exact nanCanonical_log2Fn p
    · exact nanCanonical_rcpFn p
    · exact nanCanonical_rsqrtFn p
    · exact nanCanonical_tanhFn p

end Sys2Proof
end

section
/-! SUPPORT. A descriptor that SECDED corrects as it issues leaves a record of the correction (04 R99; 16 R388). -/

namespace Sys2Proof.Machine

open Sys2Proof

/-- A record that merges into none is counted under its severity (16 R393). -/
theorem obj_enterLog_count (s : State) (b : BitVec 512) (seq sev : Nat) :
    (s.enterLog b seq sev).obj (0x700007 + sev) = (s.obj (0x700007 + sev) + 1) % 256 ^ objSize (0x700007 + sev) := by
  unfold State.enterLog
  dsimp only
  have hset (t : State) (a c : Nat) : ((t.setObj 0x700001 a).setObj 0x700002 c).obj (0x700007 + sev) = t.obj (0x700007 + sev) := by
    rw [obj_setObj_other _ (by omega), obj_setObj_other _ (by omega)]
  split
  · rw [obj_bump_other _ (by omega), hset, obj_bump_same, obj_setObj_other _ (by omega)]
    rfl
  · rw [hset, obj_bump_same, obj_setObj_other _ (by omega)]
    rfl

/-- A correction is the first record of its kind in its second. -/
theorem obj_raise_single {s : State} {x : Raise} (hsev : x.sev = 1) (hcode : x.code ≠ 0x070B) (hlog : s.log = []) :
    (s.raise x).obj 0x700008 = (s.obj 0x700008 + 1) % 256 ^ objSize 0x700008 := by
  have hnone : s.mergeTarget x = none := by
    unfold State.mergeTarget
    rw [hlog]
    rfl
  unfold State.raise
  rw [hnone, ite_self]
  dsimp only
  rw [if_neg hcode, if_pos (by omega), hsev]
  exact obj_enterLog_count s _ _ 1

theorem obj_found_single (s : State) (l : LoomId) (tag : Nat) {reads : LoomWord → Bool} {h : LoomHit} (hreads : reads h.word = true)
    (hecc : h.ecc = .single) (hlog : s.log = []) :
    (s.found l tag reads (some h)).obj 0x700008 = (s.obj 0x700008 + 1) % 256 ^ objSize 0x700008 := by
  unfold State.found
  dsimp only
  rw [hreads, hecc, if_neg (by decide)]
  exact obj_raise_single rfl (by simp) hlog

/-! ### Issue of a CHAIN -/

/-- The word of the instruction store that the sequencer reads. -/
def State.headWord (s : State) (l : LoomId) (w : LoomWord) : Bool :=
  decide (w = .instructionStore (BitVec.ofNat 12 (s.loom l).seqIdx.toNat))

/-- The trace record of an issue apart, no object changes where no race can be found. -/
theorem obj_toUnit {s : State} {l : LoomId} (hrace : s.raceFree l) {r : Nat} (hr : r ≠ 0x801006) (u : UnitKind) (d : Word512) (phase : Nat)
    (waits : Bool) (reads writes : List (Nat × Nat)) : (s.toUnit l u d phase waits reads writes).obj r = s.obj r := by
  have hobj (x : Loom) (q : Nat) (hq : q ≠ 0x801006) (n i : Nat) :
      (((s.setLoom l x).loomTrace l 1 n i d).bankWaits l u n).obj q = s.obj q := by
    rw [obj_bankWaits, obj_loomTrace _ _ hq, obj_setLoom]
  unfold State.toUnit
  dsimp only
  rw [hazards_raceFree l hrace (hobj _ _ (by decide) _ _) (partOfQuad_congr (hobj _ _ (by decide) _ _) l.q)]
  exact hobj _ r hr _ _

/-- A CHAIN at the head whose checks pass joins its queue, once what SECDED found in it is recorded. -/
theorem exec_chain_issues {s : State} {l : LoomId} {d : Word512} {hit : Option LoomHit} (hhead : s.atHead l 0x40 d) (hharm : harmless hit)
    (hroom : (s.loom l).chainQ.length < 2) (hcheck : (s.loom l).chainCheck d = none) : exec (.chain l hit) s 
      = .next ((s.found l (dTag d) (s.headWord l) hit).toUnit l .chain d 0 false [] (chainWrites d)) := by
  obtain ⟨hruns, hidx, hstore, hkind⟩ := hhead
  have hloom (reads : LoomWord → Bool) : (s.found l (dTag d) reads hit).loom l = s.loom l := (noted_found hharm s l (dTag d) reads).loom l
  have hwhole : storeLost hit (s.loom l).seqIdx.toNat = false := by
    unfold storeLost
    split
    next h => simp [hharm h rfl]
    · rfl
  have hfull (reads : LoomWord → Bool) : (s.found l (dTag d) reads hit).unitFull l .chain = false := by
    unfold State.unitFull
    rw [hloom]
    exact decide_eq_false (Nat.not_le.2 hroom)
  refine congrArg Host.Outcome.next ?_
  unfold State.descriptor
  dsimp only
  rw [if_pos hruns, hstore, if_neg hidx, hkind, if_neg (by simp), hwhole, if_neg Bool.false_ne_true, if_neg (by decide), hfull,
    if_neg Bool.false_ne_true, hloom, hcheck]
  rfl

/-! ### A corrected CHAIN -/

/-- A CHAIN of one position, whose block goes to line 0. -/
def soloChain : Word512 := BitVec.ofNat 512 (0x40 + 255 * 2 ^ 64 + 255 * 2 ^ 72)

def soloLoom : LoomId := { q := 0, r := 0, c := 0 }

/-- A step runs, and the CHAIN stands at the head of the loom's program. -/
def chainAtHead : State :=
  { State.reset with pllsOn := true, parts := [(0, { Part.init with inStep := true })]
                     looms := [(0, { Loom.init with store := [(0, soloChain)] })] }

/-- SECDED corrects the descriptor. -/
def correctedHead : LoomHit := { word := .instructionStore 0, ecc := .single }

theorem chainAtHead_atHead : chainAtHead.atHead soloLoom 0x40 soloChain := by
  refine ⟨?_, ?_, ?_, ?_⟩ <;> decide +kernel

theorem chainAtHead_raceFree : chainAtHead.raceFree soloLoom := .inr rfl

/-- Refutes O39: MATMUL and CHAIN issue with a hit that SECDED corrects as well, and the clause of each lets no object change but the count of lost
trace records. In `chainAtHead` the CHAIN at the head is corrected as it issues; the record of that (04 R99; 16 R388) enters the log and is counted
under severity 1. -/
theorem not_sequencerIssues : ¬ Obligations.SequencerIssues := by
  unfold Obligations.SequencerIssues
  rintro ⟨-, -, -, -, -, -, -, hchain, -⟩
  have hharm : harmless (some correctedHead) := by
    rintro h ⟨⟩
    decide
  have hroom : (chainAtHead.loom soloLoom).chainQ.length < 2 := by decide
  have hcheck : (chainAtHead.loom soloLoom).chainCheck soloChain = none := by decide +kernel
  obtain ⟨t, hexec, -, hobjs⟩ := hchain soloLoom (some correctedHead) soloChain chainAtHead chainAtHead_atHead hharm hroom hcheck
    chainAtHead_raceFree
  have hnext := (exec_chain_issues chainAtHead_atHead hharm hroom hcheck).symm.trans hexec
  have hcount := hobjs 0x700008 (by decide)
  have hrace := (noted_found hharm chainAtHead soloLoom (dTag soloChain) (chainAtHead.headWord soloLoom)).raceFree chainAtHead_raceFree
  rw [← Host.Outcome.next.inj hnext, obj_toUnit hrace (by decide), obj_found_single _ _ _ (by decide) rfl rfl] at hcount
  exact absurd hcount (by decide +kernel)

end Sys2Proof.Machine
end

section
/-! SUPPORT. The canonical form of stored bytes, stated of the areas that hold bytes: conditionals, folds and the operations that
write bytes keep it. -/

namespace Sys2Proof.Machine

open Sys2Proof

/-- The canonical form of what an area holds: of the stacks' bytes, of every loom's local memory; no demand on another area. -/
def Canonical : {ar : Area} → ar.Ty → Prop
  | .hbm, m => Memory.wf m = true
  | .looms, m => ∀ l : LoomId, Memory.wf (SMap.get Loom.init m (loomKey l)).mem = true
  | _, _ => True

variable {ar : Area} {s t : State}

theorem canonical_hbm_iff : Canonical (view .hbm s) ↔ Memory.wf s.hbm = true := Iff.rfl

theorem canonical_looms_iff : Canonical (view .looms s) ↔ ∀ l, Memory.wf (s.loom l).mem = true := Iff.rfl

/-- Of a step that keeps the form of both areas that hold bytes, every area's form is kept. -/
theorem canonical_cases (hb : Canonical (view .hbm s) → Canonical (view .hbm t))
    (hl : Canonical (view .looms s) → Canonical (view .looms t)) (h : Canonical (view ar s)) : Canonical (view ar t) := by
  cases ar
  case hbm => exact hb h
  case looms => exact hl h
  all_goals trivial

theorem canonical_of_view (h : Canonical (view ar s)) (he : view ar t = view ar s) : Canonical (view ar t) := he ▸ h

/-- Of a step that leaves the stacks' bytes alone, every area's form is kept where the looms' is. -/
theorem canonical_of_looms (hb : view .hbm t = view .hbm s) (hl : Canonical (view .looms s) → Canonical (view .looms t))
    (h : Canonical (view ar s)) : Canonical (view ar t) := canonical_cases (fun h => hb ▸ h) hl h

/-- Of a step that leaves the looms alone, every area's form is kept where that of the stacks' bytes is. -/
theorem canonical_of_hbm (hl : view .looms t = view .looms s) (hb : Canonical (view .hbm s) → Canonical (view .hbm t))
    (h : Canonical (view ar s)) : Canonical (view ar t) := canonical_cases hb (fun h => hl ▸ h) h

/-- What leaves both areas that hold bytes alone keeps the form of every area. -/
theorem canonical_apart (hb : view .hbm t = view .hbm s) (hl : view .looms t = view .looms s) (h : Canonical (view ar s)) :
    Canonical (view ar t) :=
  canonical_cases (fun h => canonical_of_view h hb) (fun h => canonical_of_view h hl) h

theorem canonical_ite {c : Prop} [Decidable c] {a b : State} (ha : Canonical (view ar a)) (hb : Canonical (view ar b)) :
    Canonical (view ar (if c then a else b)) := by
  split
  · exact ha
  · exact hb

theorem canonical_pair_ite {α : Type} {c : Prop} [Decidable c] {a b : State × α} (ha : Canonical (view ar a.1))
    (hb : Canonical (view ar b.1)) : Canonical (view ar (if c then a else b).1) := by
  split
  · exact ha
  · exact hb

theorem canonical_foldl {α : Type} {f : State → α → State} (hf : ∀ t x, Canonical (view ar t) → Canonical (view ar (f t x)))
    (l : List α) (s : State) (h : Canonical (view ar s)) : Canonical (view ar (l.foldl f s)) := by
  induction l generalizing s with
  | nil => exact h
  | cons x t ih => exact ih _ (hf s x h)

/-! ### The looms -/

theorem wf_loom (h : Canonical (view .looms s)) (l : LoomId) : Memory.wf (s.loom l).mem = true := h l

theorem canonical_setLoom (s : State) (l : LoomId) (x : Loom) (hs : Canonical (view ar s)) (hx : Memory.wf x.mem = true) :
    Canonical (view ar (s.setLoom l x)) := by
  refine canonical_of_looms (view_setLoom (by decide) ..) (fun hs j => ?_) hs
  change Memory.wf (SMap.get Loom.init (SMap.set Loom.init s.looms (loomKey l) x) (loomKey j)).mem = true
  rw [SMap.get_set]
  split
  · exact hx
  · exact hs j

/-- A loom that keeps its memory, or takes that of another state in canonical form. -/
theorem canonical_keepLoom (s : State) (l : LoomId) (x : Loom) (hs : Canonical (view ar s)) (hx : x.mem = (s.loom l).mem) :
    Canonical (view ar (s.setLoom l x)) :=
  canonical_of_looms (view_setLoom (by decide) ..) (fun hs => canonical_setLoom s l x hs (hx ▸ wf_loom hs l)) hs

theorem canonical_modLooms (s : State) (p : Nat) (f : Loom → Loom) (hs : Canonical (view ar s))
    (hf : ∀ x, Memory.wf x.mem = true → Memory.wf (f x).mem = true) : Canonical (view ar (s.modLooms p f)) := by
  refine canonical_of_looms (view_modLooms (by decide) ..) (fun hs => ?_) hs
  refine canonical_foldl (ar := .looms) (fun t k ht => canonical_ite (fun j => ?_) ht) _ _ hs
  change Memory.wf (SMap.get Loom.init (SMap.set Loom.init t.looms k _) (loomKey j)).mem = true
  rw [SMap.get_set]
  split
  next he => exact hf _ (he ▸ ht j)
  · exact ht j

/-! ### The stacks -/

theorem canonical_clearHbm (s : State) (p : Nat → Bool) (hs : Canonical (view ar s)) : Canonical (view ar (s.clearHbm p)) :=
  canonical_of_hbm (view_clearHbm (by decide) ..) (wf_clearHbm s p) hs

theorem canonical_storeWord (s : State) (k w o : Nat) (b : Bytes) (poison : Bool) (hs : Canonical (view ar s)) :
    Canonical (view ar (s.storeWord k w o b poison)) :=
  canonical_of_hbm (view_storeWord (by decide) ..) (wf_storeWord s k w o b poison) hs

theorem canonical_katScratch (s : State) (hs : Canonical (view ar s)) : Canonical (view ar s.katScratch) :=
  canonical_of_hbm (view_katScratch (by decide) _) (wf_katScratch s) hs

/-! ### The loom's own operations -/

theorem mem_foldl {α : Type} {f : Loom → α → Loom} (hf : ∀ (y : Loom) a, (f y a).mem = y.mem) (l : List α) (x : Loom) :
    (l.foldl f x).mem = x.mem := by
  induction l generalizing x with
  | nil => rfl
  | cons a l ih => exact (ih _).trans (hf x a)

theorem mem_markWord (x : Loom) (w : LoomWord) (origin : Nat) : (x.markWord w origin).mem = x.mem := by
  cases w
  case localMemory h => exact mem_mark x (32 * h.toNat) 32 origin
  all_goals rfl

theorem mem_setQueue (x : Loom) (u : UnitKind) (q : List InFlight) : (x.setQueue u q).mem = x.mem := by cases u <;> rfl

theorem mem_swapSets (x : Loom) (d : Word512) (c : BitVec 64) : (x.swapSets d c).mem = x.mem := by
  unfold Loom.swapSets
  dsimp only
  (repeat' split) <;> rfl

theorem mem_blockEnds (x : Loom) (d : Word512) (c : BitVec 64) : (x.blockEnds d c).mem = x.mem := by
  unfold Loom.blockEnds
  split
  · rfl
  · exact mem_swapSets x d c

theorem mem_drained (x : Loom) (hop : Option ChainRole) (c : BitVec 64) : (x.drained hop c).mem = x.mem := by
  unfold Loom.drained
  dsimp only
  split
  · exact mem_swapSets ..
  · rfl

theorem mem_note (x : Loom) (fld : Nat) (c : ConvClass) (v : Val) : (x.note fld c v).mem = x.mem := by
  unfold Loom.note
  split <;> rfl

theorem mem_noteMatmul (x : Loom) (d : Word512) : (x.noteMatmul d).mem = x.mem := by
  unfold Loom.noteMatmul
  split <;> rfl

theorem mem_fillScales (x : Loom) (value : Nat → BitVec 8) (origin : Nat → Nat) : (x.fillScales value origin).mem = x.mem := by
  unfold Loom.fillScales
  dsimp only

theorem mem_released (x : Loom) (nth : Nat) : (x.released nth).mem = x.mem := by
  unfold Loom.released
  (repeat' split) <;> rfl

theorem mem_setAsked (x : Loom) (perLoom : Bool) (n : Option Nat) : (x.setAsked perLoom n).mem = x.mem := by
  unfold Loom.setAsked
  split <;> rfl

theorem mem_readyWord {x y : Loom} {stream : Nat} {c : BitVec 64} {w : FWord} {i : BitVec 10} (h : x.readyWord stream c = some (w, i, y)) :
    y.mem = x.mem := by
  unfold Loom.readyWord at h
  (repeat' split at h) <;> cases h <;> rfl

theorem wf_putElems {x : Loom} (a w : Nat) (b : Bytes) (origins : List Nat) (h : Memory.wf x.mem = true) :
    Memory.wf (x.putElems a w b origins).mem = true := by
  rw [mem_putElems]
  exact wf_putBytes h

theorem wf_takeSegment {x : Loom} (h : Word512) (payload : Bytes) (now : BitVec 64) (hx : Memory.wf x.mem = true) :
    Memory.wf (x.takeSegment h payload now).mem = true := by
  have hplace (y : Loom) (hy : y.mem = x.mem) : Memory.wf (y.place (segSection h) (64 * segUnit h) payload).mem = true :=
    wf_place y _ _ _ (hy ▸ hx)
  unfold Loom.takeSegment
  dsimp only
  split
  · (repeat' split) <;> exact hx
  · split
    · (repeat' split) <;> exact hx
    · (repeat' split) <;> exact hplace _ rfl

theorem wf_puts {α : Type} (a : α → Nat) (b : α → Bytes) (o : α → Nat) (l : List α) {x : Loom} (h : Memory.wf x.mem = true) :
    Memory.wf (l.foldl (fun (y : Loom) c => y.put (a c) (b c) (o c)) x).mem = true := by
  rw [mem_foldl_put]
  exact wf_foldl _ _ (fun _ _ hm => wf_putBytes hm) h

/-! ### What runs an operation that it is given -/

theorem canonical_ifPowered (h : Canonical (view ar s)) (ht : Canonical (view ar t)) : Canonical (view ar (s.ifPowered t)) :=
  canonical_ite ht h

theorem canonical_ifRuns (h : Canonical (view ar s)) (ht : Canonical (view ar t)) : Canonical (view ar (s.ifRuns t)) := canonical_ite ht h

section
variable {f g : State → State} (hf : ∀ t, Canonical (view ar t) → Canonical (view ar (f t)))
include hf

theorem canonical_across (s : State) (way : List Nat) (h : Canonical (view ar s)) : Canonical (view ar (s.across way f)) := by
  have hway : Canonical (view ar (s.crossQueues way)) := canonical_apart (view_crossQueues (by decide) ..) (view_crossQueues (by decide) ..) h
  exact canonical_ite h (canonical_ite (hf _ hway) hway)

theorem canonical_viaBridge (hg : ∀ t, Canonical (view ar t) → Canonical (view ar (g t))) (s : State) (l : LoomId) (dir n : Nat)
    (h : Canonical (view ar s)) : Canonical (view ar (s.viaBridge l dir n f g)) := by
  have hpass (t : State) (loop q : Nat) (ht : Canonical (view ar t)) : Canonical (view ar ((t.throughLoop loop n).passQueue q n)) :=
    canonical_apart (by simp [view_throughLoop, view_passQueue]) (by simp [view_throughLoop, view_passQueue]) ht
  exact canonical_ite h (canonical_ite (hf _ (hpass _ _ _ (hg s h))) (hpass _ _ _ (hg s h)))

theorem canonical_arrives (s : State) (p : Fin 4) (fr : Frame) (n : Nat) (cmd : Instr) (h : Canonical (view ar s)) :
    Canonical (view ar (s.arrives p fr n cmd f)) := by
  have hrx : Canonical (view ar (s.rxFrame fr n).1) := canonical_apart (view_rxFrame (by decide) ..) (view_rxFrame (by decide) ..) h
  have hheld (x : HeldPacket) : Canonical (view ar ((s.rxFrame fr n).1.holdPacket x)) :=
    canonical_apart (view_holdPacket (by decide) ..) (view_holdPacket (by decide) ..) hrx
  exact canonical_ite hrx (canonical_ite (hheld _) (hf _ hrx))

theorem canonical_pktArrives (s : State) (p : Fin 4) (pkt : PktHdr) (n : Nat) (cmd : Instr) (h : Canonical (view ar s)) :
    Canonical (view ar (s.pktArrives p pkt n cmd f)) := canonical_arrives hf s p _ _ cmd h

theorem canonical_ctlArrives (s : State) (p : Fin 4) (m : Ctl) (cmd : Instr) (h : Canonical (view ar s)) :
    Canonical (view ar (s.ctlArrives p m cmd f)) := canonical_pktArrives hf s p _ _ cmd h

theorem canonical_keyxArrives (s : State) (p : Fin 4) (k : KeyxHdr) (n : Nat) (cmd : Instr) (h : Canonical (view ar s)) :
    Canonical (view ar (s.keyxArrives p k n cmd f)) := canonical_arrives hf s p _ _ cmd h

end

/-- A control operation: what is answered keeps the form, and so do the operation's own work and what follows it. -/
theorem canonical_control (s : State) (p op : Nat) (m : Ctl) (job : Nat) (sts : List Nat) (own : State → Nat × State × Bytes)
    (shown fin : State → State) (hown : ∀ t, Canonical (view ar t) → Canonical (view ar (own t).2.1))
    (hfin : ∀ t, Canonical (view ar t) → Canonical (view ar (fin t))) (h : Canonical (view ar s)) :
    Canonical (view ar (s.control p op m job sts own shown fin)) := by
  have htaken (t : State) (ht : Canonical (view ar t)) : Canonical (view ar (t.ctlTaken p op m job sts own shown fin)) := by
    have hanswer (op c : Nat) (b : Bytes) : Canonical (view ar (t.ctlAnswer p op m c b)) :=
      canonical_apart (view_ctlAnswer (by decide) ..) (view_ctlAnswer (by decide) ..) ht
    unfold State.ctlTaken
    split
    · exact hanswer ..
    · refine canonical_ite (hanswer ..) (canonical_ite (hanswer ..) (canonical_ite (hanswer ..) ?_))
      split
      next u b he =>
        have hdone : Canonical (view ar u) := (he ▸ hown t ht : Canonical (view ar (0, u, b).2.1))
        exact hfin _ (canonical_apart (view_postControl (by decide) ..) (view_postControl (by decide) ..) hdone)
      · exact hanswer ..
  have hrx : Canonical (view ar (s.rxPacket p m.pkt (packetsOf (32 + m.body.length)) false).1) :=
    canonical_apart (view_rxPacket (by decide) ..) (view_rxPacket (by decide) ..) h
  unfold State.control
  dsimp only
  split
  · exact h
  · split
    next t he =>
      rw [he] at hrx
      exact hrx
    next t he =>
      rw [he] at hrx
      refine canonical_ite (canonical_apart (view_sendNak (by decide) ..) (view_sendNak (by decide) ..) hrx) ?_
      exact canonical_across htaken _ _ (canonical_apart (view_rxAccept (by decide) ..) (view_rxAccept (by decide) ..) hrx)

/-- Reset gives every loom of the partition's quadrants back as `Loom.init`. -/
theorem canonical_resetPart (s : State) (p : Nat) (h : Canonical (view ar s)) : Canonical (view ar (s.resetPart p)) := by
  refine canonical_cases (fun hb => ?_) (fun hl => ?_) h
  · rw [canonical_hbm_iff, hbm_resetPart]
    exact SMap.wf_drop _ hb
  · intro l
    change Memory.wf (SMap.get Loom.init (s.resetPart p).looms (loomKey l)).mem = true
    rw [looms_resetPart, SMap.get_drop]
    split
    · exact wf_init
    · exact hl l

end Sys2Proof.Machine
end

section
/-! SUPPORT. Every operation of the model that can reach an area that holds bytes keeps the canonical form of every area (the memory's
form is the model's: logs 9 and 10). Where an operation leaves one of the two areas alone, its frame (Laws/Frames) says so and the lemma
is about the other. -/

namespace Sys2Proof.Machine

open Sys2Proof

variable {ar : Area}

theorem canonical_dropAttempt (s : State) (p : Nat) (hs : Canonical (view ar s)) :
    Canonical (view ar (s.dropAttempt p)) := by
  refine canonical_of_looms (view_dropAttempt (by decide) ..) (fun hs => ?_) hs
  have hstop : Canonical (view .looms ((s.endWait p).modLooms p Loom.stopAttempt)) :=
    canonical_modLooms _ _ _ (canonical_of_view hs (view_endWait (by decide) ..)) (fun _ hx => hx)
  unfold State.dropAttempt
  simp [view_upd_cloops, view_modPart, view_openContributions, hstop]

theorem canonical_handleAbort (s : State) (p cause sender : Nat) (own : Bool) (hs : Canonical (view ar s)) :
    Canonical (view ar (s.handleAbort p cause sender own)) := by
  refine canonical_of_looms (view_handleAbort (by decide) ..) (fun hs => ?_) hs
  unfold State.handleAbort
  (repeat' split) <;> simp [view_setObj, view_bump, view_setExState, view_raisePart, view_haltJob,
      canonical_dropAttempt, hs]

theorem canonical_abortStep (s : State) (p cause : Nat) (hs : Canonical (view ar s)) :
    Canonical (view ar (s.abortStep p cause)) := by
  refine canonical_of_looms (view_abortStep (by decide) ..) (fun hs => ?_) hs
  unfold State.abortStep
  simp [view_sendMarker, canonical_handleAbort, hs]

theorem canonical_chargeFault (s : State) (p cause : Nat) (hs : Canonical (view ar s)) :
    Canonical (view ar (s.chargeFault p cause)) := by
  refine canonical_of_looms (view_chargeFault (by decide) ..) (fun hs => ?_) hs
  unfold State.chargeFault
  (repeat' split) <;> simp [view_haltJob, view_haltAtBoundary, canonical_abortStep, hs]

theorem canonical_faultAndHalt (s : State) (p cause hc hd : Nat) (hs : Canonical (view ar s)) :
    Canonical (view ar (s.faultAndHalt p cause hc hd)) := by
  refine canonical_of_looms (view_faultAndHalt (by decide) ..) (fun hs => ?_) hs
  unfold State.faultAndHalt
  (repeat' split) <;> simp [canonical_ite, view_haltJob, view_haltAtBoundary, canonical_abortStep, hs]

theorem canonical_chargeUncommitted (s : State) (p cause : Nat) (hs : Canonical (view ar s)) :
    Canonical (view ar (s.chargeUncommitted p cause)) := by
  refine canonical_of_looms (view_chargeUncommitted (by decide) ..) (fun hs => ?_) hs
  unfold State.chargeUncommitted
  simp [canonical_ite, canonical_chargeFault, hs]

theorem canonical_violate (s : State) (p loop : Nat) (hs : Canonical (view ar s)) :
    Canonical (view ar (s.violate p loop)) := by
  refine canonical_of_looms (view_violate (by decide) ..) (fun hs => ?_) hs
  unfold State.violate
  simp [view_modPart, view_setObj, view_bump, view_raisePart, canonical_faultAndHalt, hs]

theorem canonical_consumePoison (s : State) (p : Nat) (quad : Option Nat) (uclass unit op stack granule : Nat) (hs :
    Canonical (view ar s)) : Canonical (view ar (s.consumePoison p quad uclass unit op stack granule)) := by
  refine canonical_of_looms (view_consumePoison (by decide) ..) (fun hs => ?_) hs
  unfold State.consumePoison
  simp only
  (repeat' split) <;> simp [view_modPart, view_bump, view_raise, canonical_faultAndHalt, hs]

theorem canonical_resetAll (s : State) (hs : Canonical (view ar s)) : Canonical (view ar (s.resetAll)) := by
  refine canonical_cases (fun hs => ?_) (fun hs => ?_) hs
  all_goals
    unfold State.resetAll
    simp +contextual [canonical_foldl, canonical_resetPart, hs]

theorem canonical_deviceFault (s : State) (uclass unit : Nat) (stillVerifies : Bool) (hs : Canonical (view ar s)) :
    Canonical (view ar (s.deviceFault uclass unit stillVerifies)) := by
  refine canonical_cases (fun hs => ?_) (fun hs => ?_) hs
  all_goals
    unfold State.deviceFault
    (repeat' split) <;> simp [view_upd_stewards, view_raiseDevice, canonical_resetAll, view_enterFailed, hs]

theorem canonical_uncontained (s : State) (k fault : Nat) (hs : Canonical (view ar s)) :
    Canonical (view ar (s.uncontained k fault)) := by
  refine canonical_cases (fun hs => ?_) (fun hs => ?_) hs
  all_goals
    unfold State.uncontained
    simp [view_bump, view_raiseQuad, canonical_resetPart, hs]

theorem canonical_serveOne (s : State) (k : Nat) (r : HbmReq) (hs : Canonical (view ar s)) :
    Canonical (view ar (s.serveOne k r)) := by
  refine canonical_of_hbm (view_serveOne (by decide) ..) (fun hs => ?_) hs
  unfold State.serveOne
  (repeat' split) <;> simp [canonical_ite, view_bump, view_emit, view_freeCredit, view_pad, view_moved,
      canonical_storeWord, view_checkWord, hs]

theorem canonical_serveReady (s : State) (k : Nat) (hs : Canonical (view ar s)) :
    Canonical (view ar (s.serveReady k)) := by
  refine canonical_of_hbm (view_serveReady (by decide) ..) (fun hs => ?_) hs
  unfold State.serveReady
  simp +contextual [canonical_foldl, view_setStack, view_serveRefresh, view_serveWriteBacks,
      canonical_serveOne, hs]

theorem canonical_serveAsking (s : State) (k : Nat) (hs : Canonical (view ar s)) :
    Canonical (view ar (s.serveAsking k)) := by
  refine canonical_of_hbm (view_serveAsking (by decide) ..) (fun hs => ?_) hs
  unfold State.serveAsking
  simp only
  (repeat' split) <;> simp [canonical_serveReady, view_grant, hs]

theorem canonical_request (s : State) (k : Nat) (r : HbmReq) (hs : Canonical (view ar s)) :
    Canonical (view ar (s.request k r)) := by
  refine canonical_of_hbm (view_request (by decide) ..) (fun hs => ?_) hs
  unfold State.request
  simp [view_setStack, canonical_serveAsking, hs]

theorem canonical_serveFirst (s : State) (k : Nat) (hs : Canonical (view ar s)) :
    Canonical (view ar (s.serveFirst k)) := by
  refine canonical_of_hbm (view_serveFirst (by decide) ..) (fun hs => ?_) hs
  unfold State.serveFirst
  simp [canonical_ite, canonical_serveReady, hs]

theorem canonical_countWord (s : State) (who : Requester) (k w : Nat) (hs : Canonical (view ar s)) :
    Canonical (view ar (s.countWord who k w)) := by
  refine canonical_of_hbm (view_countWord (by decide) ..) (fun hs => ?_) hs
  unfold State.countWord
  (repeat' split) <;> simp [canonical_ite, view_bump, view_pad, view_crossTo, view_moved, canonical_serveFirst, hs]

theorem canonical_writeWord (s : State) (who : Requester) (k w o : Nat) (b : Bytes) (poison : Bool) (hs : Canonical
    (view ar s)) : Canonical (view ar (s.writeWord who k w o b poison)) := by
  refine canonical_of_hbm (view_writeWord (by decide) ..) (fun hs => ?_) hs
  unfold State.writeWord
  simp [view_crossTo, canonical_storeWord, canonical_serveFirst, hs]

theorem canonical_countRead (s : State) (who : Requester) (p i off n : Nat) (hs : Canonical (view ar s)) :
    Canonical (view ar (s.countRead who p i off n)) := by
  refine canonical_of_hbm (view_countRead (by decide) ..) (fun hs => ?_) hs
  unfold State.countRead
  simp +contextual [canonical_foldl, canonical_countWord, hs]

theorem canonical_writeBy (s : State) (who : Nat → Requester) (p i off : Nat) (b : Bytes) (bad : Nat → Nat → Bool) (hs :
    Canonical (view ar s)) : Canonical (view ar (s.writeBy who p i off b bad)) := by
  refine canonical_of_hbm (view_writeBy (by decide) ..) (fun hs => ?_) hs
  unfold State.writeBy
  simp +contextual [canonical_foldl, canonical_writeWord, hs]

theorem canonical_writeTagged (s : State) (who : Requester) (p i off : Nat) (b : Bytes) (bad : Nat → Nat → Bool) (hs :
    Canonical (view ar s)) : Canonical (view ar (s.writeTagged who p i off b bad)) := by
  refine canonical_of_hbm (view_writeTagged (by decide) ..) (fun hs => ?_) hs
  unfold State.writeTagged
  simp [canonical_writeBy, hs]

theorem canonical_writeRegion (s : State) (who : Requester) (p i off : Nat) (b : Bytes) (poison : Bool) (hs : Canonical
    (view ar s)) : Canonical (view ar (s.writeRegion who p i off b poison)) := by
  refine canonical_of_hbm (view_writeRegion (by decide) ..) (fun hs => ?_) hs
  unfold State.writeRegion
  simp [canonical_writeTagged, hs]

theorem canonical_slip (s : State) (q uclass unit hold bridge : Nat) (hs : Canonical (view ar s)) :
    Canonical (view ar (s.slip q uclass unit hold bridge)) := by
  refine canonical_of_looms (view_slip (by decide) ..) (fun hs => ?_) hs
  unfold State.slip
  simp [view_bump, canonical_chargeUncommitted, view_raisePart, hs]

theorem canonical_refill (s : State) (k : Nat) (hs : Canonical (view ar s)) : Canonical (view ar (s.refill k)) := by
  refine canonical_of_hbm (view_refill (by decide) ..) (fun hs => ?_) hs
  unfold State.refill
  simp [canonical_clearHbm, hs]

theorem canonical_bufferError (s : State) (k : Nat) (hs : Canonical (view ar s)) :
    Canonical (view ar (s.bufferError k)) := by
  refine canonical_cases (fun hs => ?_) (fun hs => ?_) hs
  all_goals
    unfold State.bufferError
    simp [canonical_ite, canonical_uncontained, canonical_refill, hs]

theorem canonical_reportLoss (s : State) (q : Nat) (hs : Canonical (view ar s)) :
    Canonical (view ar (s.reportLoss q)) := by
  refine canonical_of_looms (view_reportLoss (by decide) ..) (fun hs => ?_) hs
  unfold State.reportLoss
  simp [view_raisePart, canonical_violate, hs]

theorem canonical_creditedLoss (s : State) (q : Nat) (hs : Canonical (view ar s)) :
    Canonical (view ar (s.creditedLoss q)) := by
  refine canonical_of_looms (view_creditedLoss (by decide) ..) (fun hs => ?_) hs
  unfold State.creditedLoss
  simp [view_setObj, view_bump, canonical_reportLoss, view_loopLost, hs]

theorem canonical_flushedItems (s : State) (q n : Nat) (hs : Canonical (view ar s)) :
    Canonical (view ar (s.flushedItems q n)) := by
  refine canonical_of_looms (view_flushedItems (by decide) ..) (fun hs => ?_) hs
  unfold State.flushedItems
  (repeat' split) <;> simp [view_bump, canonical_reportLoss, view_loopLost, hs]

theorem canonical_pushItem (s : State) (q : Nat) (i : QItem) (hs : Canonical (view ar s)) :
    Canonical (view ar (s.pushItem q i)) := by
  refine canonical_of_looms (view_pushItem (by decide) ..) (fun hs => ?_) hs
  unfold State.pushItem
  simp only
  (repeat' split) <;> simp [view_setDcq, view_bump, view_loopMoved, canonical_creditedLoss,
      canonical_flushedItems, hs]

theorem canonical_hubForward (s : State) (n : Nat) (w : FWord) (hs : Canonical (view ar s)) :
    Canonical (view ar (s.hubForward n w)) := by
  refine canonical_of_looms (view_hubForward (by decide) ..) (fun hs => ?_) hs
  unfold State.hubForward
  simp only
  (repeat' split) <;> simp [view_takeCredit, view_freeCredit, view_raisePart, canonical_pushItem, hs]

theorem canonical_consumeItem (s : State) (q : Nat) (i : QItem) (hs : Canonical (view ar s)) :
    Canonical (view ar (s.consumeItem q i)) := by
  refine canonical_of_looms (view_consumeItem (by decide) ..) (fun hs => ?_) hs
  unfold State.consumeItem
  (repeat' split) <;> simp [canonical_ite, view_ringPut, canonical_hubForward, view_bridgeEnters, hs]

theorem canonical_slotMiss (s : State) (l : LoomId) (stream slot : Nat) (hs : Canonical (view ar s)) :
    Canonical (view ar (s.slotMiss l stream slot)) := by
  refine canonical_of_looms (view_slotMiss (by decide) ..) (fun hs => ?_) hs
  unfold State.slotMiss
  exact canonical_keepLoom _ _ _ (canonical_of_view hs (by simp [view_bump, view_raiseQuad])) rfl

theorem canonical_missFrom (s : State) (x : RouterInput) (stream slot : Nat) (hs : Canonical (view ar s)) :
    Canonical (view ar (s.missFrom x stream slot)) := by
  refine canonical_of_looms (view_missFrom (by decide) ..) (fun hs => ?_) hs
  unfold State.missFrom
  simp +contextual [canonical_foldl, canonical_slotMiss, hs]

theorem canonical_missBeyond (s : State) (l : LoomId) (stream inp slot : Nat) (hs : Canonical (view ar s)) :
    Canonical (view ar (s.missBeyond l stream inp slot)) := by
  refine canonical_of_looms (view_missBeyond (by decide) ..) (fun hs => ?_) hs
  unfold State.missBeyond
  simp [canonical_missFrom, hs]

theorem canonical_promoteSums (s : State) (l : LoomId) (hs : Canonical (view ar s)) :
    Canonical (view ar (s.promoteSums l)) := by
  unfold State.promoteSums
  dsimp only
  split
  · exact hs
  · exact canonical_foldl (fun t _ ht => canonical_slotMiss t _ _ _ ht) _ _ (canonical_keepLoom s l _ hs rfl)

theorem canonical_toBridge (s : State) (l : LoomId) (t : Nat) (w got : FWord) (hs : Canonical (view ar s)) :
    Canonical (view ar (s.toBridge l t w got)) := by
  refine canonical_of_looms (view_toBridge (by decide) ..) (fun hs => ?_) hs
  unfold State.toBridge
  simp only
  (repeat' split) <;> simp [view_upd_bridgeAir, view_bump, view_passQueue, view_raisePart, view_raiseQuad,
      canonical_pushItem, canonical_missFrom, hs]

theorem canonical_leaves (s : State) (l : LoomId) (o t : Nat) (w : FWord) (place : BitVec 10) (noise : Word512) (hs :
    Canonical (view ar s)) : Canonical (view ar (s.leaves l o t w place noise)) := by
  refine canonical_of_looms (view_leaves (by decide) ..) (fun hs => ?_) hs
  have hout : Canonical (view .looms (s.useOut l o)) := canonical_of_view hs (view_useOut (by decide) ..)
  unfold State.leaves
  dsimp only
  split
  · exact canonical_keepLoom _ _ _ hout rfl
  · (repeat' split) <;> simp [view_putWord, canonical_toBridge, hout]

theorem canonical_collide (s : State) (l : LoomId) (ws : List RWord) (t : Nat) (w : RWord) (hs : Canonical (view ar s)) :
    Canonical (view ar (s.collide l ws t w)) := by
  refine canonical_of_looms (view_collide (by decide) ..) (fun hs => ?_) hs
  unfold State.collide
  simp [view_bump, view_raiseQuad, canonical_missBeyond, hs]

theorem canonical_crcDrop (s : State) (l : LoomId) (t : Nat) (w : RWord) (hs : Canonical (view ar s)) :
    Canonical (view ar (s.crcDrop l t w)) := by
  refine canonical_of_looms (view_crcDrop (by decide) ..) (fun hs => ?_) hs
  unfold State.crcDrop
  simp [view_bump, view_raiseQuad, canonical_missBeyond, hs]

theorem canonical_slotOut (s : State) (l : LoomId) (ws : List RWord) (t : Nat) (noise : Word512) (own : List (Nat ×
    FWord × BitVec 10)) (o : Nat) (hs : Canonical (view ar s)) :
    Canonical (view ar (s.slotOut l ws t noise own o).1) := by
  unfold State.slotOut
  dsimp only
  split
  · exact hs
  · split
    · split
      · exact canonical_leaves _ _ _ _ _ _ _ hs
      · split
        next w i x hready => exact canonical_leaves _ _ _ _ _ _ _ (canonical_keepLoom s l x hs (mem_readyWord hready))
        · exact hs
    · split
      · exact canonical_leaves _ _ _ _ _ _ _ hs
      · exact hs

theorem canonical_creditedLeaves (s : State) (l : LoomId) (o t : Nat) (w : RWord) (noise : Word512) (hs : Canonical
    (view ar s)) : Canonical (view ar (s.creditedLeaves l o t w noise)) := by
  refine canonical_of_looms (view_creditedLeaves (by decide) ..) (fun hs => ?_) hs
  unfold State.creditedLeaves
  simp only
  (repeat' split) <;> simp [view_setQuad, view_bump, view_emit, view_takeCredit, canonical_pushItem, view_putWord,
      view_putCredited, view_useOut, view_replayed, hs]

theorem canonical_observationLeaves (s : State) (l : LoomId) (t : Nat) (w : FWord) (noise : Word512) (hs : Canonical
    (view ar s)) : Canonical (view ar (s.observationLeaves l t w noise)) := by
  refine canonical_of_looms (view_observationLeaves (by decide) ..) (fun hs => ?_) hs
  unfold State.observationLeaves
  simp only
  (repeat' split) <;> simp [canonical_pushItem, view_useOut, canonical_leaves, view_observationLost, hs]

theorem canonical_resumePart (s : State) (p : Nat) (hs : Canonical (view ar s)) :
    Canonical (view ar (s.resumePart p)) := by
  refine canonical_of_hbm (view_resumePart (by decide) ..) (fun hs => ?_) hs
  unfold State.resumePart
  have hstop : Canonical (view .hbm (s.endStop p)) := canonical_of_view hs (view_endStop (by decide) ..)
  have hserved := canonical_foldl (ar := .hbm) (f := fun (t : State) k =>
    if (t.leaveSelfRefresh k).serves k then (t.leaveSelfRefresh k).serveReady k else t.leaveSelfRefresh k) (fun t k ht => by
      have hleft : Canonical (view .hbm (t.leaveSelfRefresh k)) := canonical_of_view ht (view_leaveSelfRefresh (by decide) ..)
      exact canonical_ite (canonical_serveReady _ _ hleft) hleft) (s.stacksOf p) _ hstop
  simp [view_modPart, view_setEclipse, view_sendUnsent, hserved]

theorem canonical_resumeOne (s : State) (p : Nat) (hs : Canonical (view ar s)) : Canonical (view ar (s.resumeOne p)) := by
  refine canonical_of_hbm (view_resumeOne (by decide) ..) (fun hs => ?_) hs
  unfold State.resumeOne
  simp only
  (repeat' split) <;> simp [view_modPart, view_setObj, canonical_resumePart, hs]

theorem canonical_resumeWrite (s : State) (v : Nat) (hs : Canonical (view ar s)) :
    Canonical (view ar (s.resumeWrite v).1) := by
  refine canonical_of_hbm (view_resumeWrite (by decide) ..) (fun hs => ?_) hs
  unfold State.resumeWrite
  simp +contextual [canonical_foldl, view_setObj, canonical_resumeOne, hs]

theorem canonical_releaseOne (s : State) (p : Nat) (hs : Canonical (view ar s)) :
    Canonical (view ar (s.releaseOne p)) := by
  refine canonical_cases (fun hs => ?_) (fun hs => ?_) hs
  all_goals
    unfold State.releaseOne
    simp [canonical_ite, view_setObj, canonical_resetPart, hs]

theorem canonical_releaseWrite (s : State) (v : Nat) (hs : Canonical (view ar s)) :
    Canonical (view ar (s.releaseWrite v).1) := by
  refine canonical_cases (fun hs => ?_) (fun hs => ?_) hs
  all_goals
    unfold State.releaseWrite
    simp +contextual [canonical_foldl, view_setObj, canonical_releaseOne, hs]

theorem canonical_chargeMistake (s : State) (p tag : Nat) (hs : Canonical (view ar s)) :
    Canonical (view ar (s.chargeMistake p tag)) := by
  refine canonical_of_looms (view_chargeMistake (by decide) ..) (fun hs => ?_) hs
  unfold State.chargeMistake
  simp only
  (repeat' split) <;> simp [view_modPart, canonical_abortStep, hs]

theorem canonical_reject (s : State) (l : LoomId) (why : Reject) (hs : Canonical (view ar s)) :
    Canonical (view ar (s.reject l why)) := by
  refine canonical_of_looms (view_reject (by decide) ..) (fun hs => ?_) hs
  have hstop : Canonical (view .looms (s.setLoom l { s.loom l with seq := .stopped })) := canonical_keepLoom s l _ hs rfl
  unfold State.reject
  cases why <;> simp [view_raiseQuad, canonical_chargeMistake, hstop]

theorem canonical_loomPoison (s : State) (l : LoomId) (tag origin : Nat) (hs : Canonical (view ar s)) :
    Canonical (view ar (s.loomPoison l tag origin)) := by
  refine canonical_of_looms (view_loomPoison (by decide) ..) (fun hs => ?_) hs
  unfold State.loomPoison
  simp [canonical_ite, canonical_consumePoison, hs]

theorem canonical_found (s : State) (l : LoomId) (tag : Nat) (reads : LoomWord → Bool) (hit : Option LoomHit) (hs :
    Canonical (view ar s)) : Canonical (view ar (s.found l tag reads hit)) := by
  refine canonical_of_looms (view_found (by decide) ..) (fun hs => ?_) hs
  have hmark (t : State) (o : Nat) (w : LoomWord) (ht : Canonical (view .looms t)) :
      Canonical (view .looms (t.setLoom l ((t.loom l).markWord w o))) := canonical_keepLoom t l _ ht (mem_markWord ..)
  unfold State.found
  (repeat' split) <;> simp [view_freeOrigin, view_raiseQuad, hmark, hs]

theorem canonical_descriptor (s : State) (l : LoomId) (k : Nat) (hit : Option LoomHit) (f : State → Word512 → State)
    (hf : ∀ t d, Canonical (view ar t) → Canonical (view ar (f t d))) (hs : Canonical (view ar s)) :
    Canonical (view ar (s.descriptor l k hit f)) := by
  unfold State.descriptor
  have hfound (n : Nat) (r : LoomWord → Bool) := canonical_found s l n r hit hs
  refine canonical_ite (canonical_ite (canonical_reject _ _ _ hs) (canonical_ite hs (canonical_ite ?_ ?_))) hs
  · exact canonical_loomPoison _ _ _ _ (canonical_keepLoom _ _ _ (hfound _ _) rfl)
  · exact canonical_ite (canonical_reject _ _ _ (hfound _ _)) (hf _ _ (hfound _ _))

theorem canonical_loomTrace (s : State) (l : LoomId) (kind nth idx : Nat) (d : Word512) (hs : Canonical (view ar s)) :
    Canonical (view ar (s.loomTrace l kind nth idx d)) := by
  have hbump (t : State) (ht : Canonical (view ar t)) : Canonical (view ar (t.bump 0x801006 1)) := canonical_apart (s := t) rfl rfl ht
  unfold State.loomTrace
  exact canonical_ite (canonical_ite (canonical_keepLoom _ _ _ hs rfl) (hbump _ (canonical_keepLoom _ _ _ hs rfl))) hs

theorem canonical_race (s : State) (l : LoomId) (n o : InFlight) (line : Nat) (hs : Canonical (view ar s)) :
    Canonical (view ar (s.race l n o line)) := by
  refine canonical_of_looms (view_race (by decide) ..) (fun hs => ?_) hs
  unfold State.race
  simp only
  (repeat' split) <;> simp [view_bump, view_raiseQuad, view_eclipsePart, canonical_chargeMistake, hs]

theorem canonical_hazards (s : State) (l : LoomId) (n : InFlight) (olds : List InFlight) (hs : Canonical (view ar s)) :
    Canonical (view ar (s.hazards l n olds)) := by
  unfold State.hazards
  refine canonical_ite (canonical_foldl (fun t o ht => ?_) _ _ hs) hs
  split
  · exact canonical_race _ _ _ _ _ ht
  · exact ht

theorem canonical_controlDone (s : State) (l : LoomId) (d : Word512) (x : Loom) (hs : Canonical (view ar s)) (hx : Memory.wf x.mem = true) :
    Canonical (view ar (s.controlDone l d x)) := by
  unfold State.controlDone
  exact canonical_loomTrace _ _ _ _ _ _ (canonical_loomTrace _ _ _ _ _ _ (canonical_setLoom s l _ hs hx))

theorem canonical_toUnit (s : State) (l : LoomId) (u : UnitKind) (d : Word512) (phase : Nat) (waits : Bool) (reads
    writes : List (Nat × Nat)) (hs : Canonical (view ar s)) :
    Canonical (view ar (s.toUnit l u d phase waits reads writes)) := by
  refine canonical_of_looms (view_toUnit (by decide) ..) (fun hs => ?_) hs
  unfold State.toUnit
  refine canonical_hazards _ _ _ _ (canonical_of_view (ar := .looms) ?_ (view_bankWaits (by decide) ..))
  exact canonical_loomTrace _ _ _ _ _ _ (canonical_keepLoom s l _ hs (mem_setQueue ..))

theorem canonical_arrayPass (s : State) (l : LoomId) (d : Word512) (hs : Canonical (view ar s)) :
    Canonical (view ar (s.arrayPass l d)) := by
  refine canonical_of_looms (view_arrayPass (by decide) ..) (fun hs => ?_) hs
  unfold State.arrayPass
  refine canonical_loomPoison _ _ _ _ (canonical_of_view (ar := .looms) (canonical_keepLoom s l _ hs ?_) (view_overflows (by decide) ..))
  split
  · exact mem_blockEnds ..
  · rfl

theorem canonical_outRow (s : State) (l : LoomId) (o : OutForm) (m : Nat) (vals : List (Option A96)) (exp : Int)
    (origins : List Nat) (hs : Canonical (view ar s)) : Canonical (view ar (s.outRow l o m vals exp origins)) := by
  refine canonical_of_looms (view_outRow (by decide) ..) (fun hs => ?_) hs
  unfold State.outRow
  refine canonical_setLoom s l _ hs (wf_putElems _ _ _ _ ?_)
  rw [mem_foldl (fun y c => ?_)]
  · exact wf_loom hs l
  · split
    · exact mem_note ..
    · rfl

theorem canonical_outBlock (s : State) (l : LoomId) (o : OutForm) (val : Nat → Option A96) (exp : Int) (origin : Nat →
    Nat) (hs : Canonical (view ar s)) : Canonical (view ar (s.outBlock l o val exp origin)) := by
  refine canonical_of_looms (view_outBlock (by decide) ..) (fun hs => ?_) hs
  unfold State.outBlock
  simp +contextual [canonical_foldl, canonical_outRow, hs]

theorem canonical_fp32Product (s : State) (l : LoomId) (d : Word512) (hs : Canonical (view ar s)) :
    Canonical (view ar (s.fp32Product l d)) := by
  refine canonical_of_looms (view_fp32Product (by decide) ..) (fun hs => ?_) hs
  have hrow := canonical_outRow s l (mmOut d) 0 (((List.range 256).map (s.fp32Dot l d)).map some) 0 (hs := hs)
  unfold State.fp32Product
  refine canonical_loomPoison _ _ _ _ (canonical_of_view (ar := .looms) ?_ (view_overflows (by decide) ..))
  exact canonical_keepLoom _ l _ (hrow _) rfl

theorem canonical_drainLocal (s : State) (l : LoomId) (hs : Canonical (view ar s)) :
    Canonical (view ar (s.drainLocal l)) := by
  unfold State.drainLocal
  exact canonical_loomPoison _ _ _ _ (canonical_keepLoom _ _ _ (canonical_outBlock _ _ _ _ _ _ hs) (mem_drained ..))

theorem canonical_drainChain (s : State) (l : LoomId) (r : ChainRole) (hs : Canonical (view ar s)) :
    Canonical (view ar (s.drainChain l r)) := by
  unfold State.drainChain
  exact canonical_loomPoison _ _ _ _ (canonical_keepLoom _ _ _ (canonical_ite hs (canonical_outBlock _ _ _ _ _ _ hs)) (mem_drained ..))

theorem canonical_chainShort (s : State) (l : LoomId) (r : ChainRole) (hs : Canonical (view ar s)) :
    Canonical (view ar (s.chainShort l r)) := by
  refine canonical_of_looms (view_chainShort (by decide) ..) (fun hs => ?_) hs
  unfold State.chainShort
  simp [canonical_ite, view_bump, canonical_slotMiss, hs]

theorem canonical_chainMiss (s : State) (l : LoomId) (w : FWord) (hs : Canonical (view ar s)) :
    Canonical (view ar (s.chainMiss l w)) := by
  refine canonical_of_looms (view_chainMiss (by decide) ..) (fun hs => ?_) hs
  unfold State.chainMiss
  simp [canonical_slotMiss, hs]

theorem canonical_hop (s : State) (l : LoomId) (r : ChainRole) (idx : Nat) (rx : RxWord) (hs : Canonical (view ar s)) :
    Canonical (view ar (s.hop l r idx rx)) := by
  refine canonical_of_looms (view_hop (by decide) ..) (fun hs => ?_) hs
  have hdraw (n : Nat) : Canonical (view .looms (if n = 0 && sidePoison rx.word then s.freeOrigin else (n, s)).2) := by
    split
    · exact canonical_of_view hs (view_freeOrigin (by decide) s)
    · exact hs
  unfold State.hop
  refine canonical_loomPoison _ _ _ _ (canonical_of_view (ar := .looms) ?_ (view_overflows (by decide) ..))
  exact canonical_setLoom _ l _ (hdraw _) (wf_loom hs l)

theorem canonical_chargeVerdict (s : State) (p : Nat) (hs : Canonical (view ar s)) :
    Canonical (view ar (s.chargeVerdict p)) := by
  refine canonical_of_looms (view_chargeVerdict (by decide) ..) (fun hs => ?_) hs
  unfold State.chargeVerdict
  simp [canonical_ite, canonical_chargeFault, hs]

theorem canonical_applyLayout (s : State) (v : Nat × List Nat) (hs : Canonical (view ar s)) :
    Canonical (view ar (s.applyLayout v)) := by
  refine canonical_cases (fun hs => ?_) (fun hs => ?_) hs
  all_goals
    unfold State.applyLayout
    simp +contextual [view_foldl, view_upd_applyWaits, view_upd_sealArmed, view_modPart, view_setObj,
      view_setLive, canonical_resetAll, hs]

theorem canonical_applyWrite (s : State) (v : Nat) (hs : Canonical (view ar s)) :
    Canonical (view ar (s.applyWrite v).1) := by
  refine canonical_cases (fun hs => ?_) (fun hs => ?_) hs
  all_goals
    unfold State.applyWrite
    simp only
    (repeat' split) <;> simp [view_upd_applyWaits, view_setObj, canonical_applyLayout, hs]

theorem canonical_applyIfWaiting (s : State) (hs : Canonical (view ar s)) : Canonical (view ar (s.applyIfWaiting)) := by
  refine canonical_cases (fun hs => ?_) (fun hs => ?_) hs
  all_goals
    unfold State.applyIfWaiting
    (repeat' split) <;> simp [canonical_applyLayout, hs]

theorem canonical_katLooms (s : State) (q : Fin 4) (hs : Canonical (view ar s)) : Canonical (view ar (s.katLooms q)) := by
  refine canonical_of_looms (view_katLooms (by decide) ..) (fun hs => ?_) hs
  unfold State.katLooms
  rw [view_upd_fresh (by decide)]
  exact canonical_foldl (fun t l ht => canonical_setLoom t l _ ht (wf_tested _ _)) _ _ hs

theorem canonical_runStep (s : State) (n : Nat) (hs : Canonical (view ar s)) : Canonical (view ar (s.runStep n)) := by
  refine canonical_of_looms (view_runStep (by decide) ..) (fun hs => ?_) hs
  unfold State.runStep
  (repeat' split) <;> simp +contextual [canonical_foldl, view_foldl, view_upd_phase_pllsOn_clockNs_quads,
      view_upd_hbmLeft, view_upd_bistGroup, view_upd_katRound_katQuads_katTries, view_setStack, view_setObj,
      view_startStep, view_repairStep, canonical_katLooms, hs]

theorem canonical_goWrite (s : State) (n v : Nat) (hs : Canonical (view ar s)) :
    Canonical (view ar (s.goWrite n v).1) := by
  refine canonical_of_looms (view_goWrite (by decide) ..) (fun hs => ?_) hs
  unfold State.goWrite
  (repeat' split) <;> simp [view_setObj, canonical_runStep, hs]

theorem canonical_stackTrained (s : State) (k : Nat) (chans : List (BitVec 16)) (ms : Nat) (hs : Canonical (view ar s)) :
    Canonical (view ar (s.stackTrained k chans ms)) := by
  refine canonical_of_hbm (view_stackTrained (by decide) ..) (fun hs => ?_) hs
  have hobjs (l : List Nat) (t : State) : view .hbm (l.foldl (fun (t : State) n => t.setObj (0x403001 + 256 * k + n) ((chans.getD n 0x0003).toNat)) t)
      = view .hbm t := view_foldl (fun t n => view_setObj (by decide) t _ _) l t
  have hset (t : State) (r v : Nat) (ht : Canonical (view .hbm t)) : Canonical (view .hbm (t.setObj r v)) := ht
  have hraise (t : State) (code sev u unit d : Nat) (ht : Canonical (view .hbm t)) : Canonical (view .hbm (t.raiseDevice code sev u unit d)) :=
    canonical_of_view ht (view_raiseDevice (by decide) ..)
  have hstack (t : State) (x : Stack) (left : List (Fin 20)) (flash : Flash) (ht : Canonical (view .hbm t)) :
      Canonical (view .hbm { t.setStack k x with hbmLeft := left, flash := flash }) := ht
  unfold State.stackTrained
  generalize List.range 32 = lanes
  have hclear (a b : Nat) := canonical_clearHbm _ (fun j => j == k) (hset _ (0x403022 + 256 * k) b (hset _ (0x403021 + 256 * k) a
    (canonical_of_view hs (hobjs lanes s))))
  exact canonical_ite (hraise _ _ _ _ _ _ (hset _ _ _ (hstack _ _ _ _ (hclear _ _)))) (hset _ _ _ (hset _ _ _ (hstack _ _ _ _ (hclear _ _))))

theorem canonical_katFailed (s : State) (hs : Canonical (view ar s)) : Canonical (view ar (s.katFailed)) := by
  refine canonical_of_hbm (view_katFailed (by decide) ..) (fun hs => ?_) hs
  unfold State.katFailed
  simp [view_upd_katRound_katQuads, view_enterFailed, view_endStep, canonical_katScratch, hs]

theorem canonical_setEphRow (s : State) (p step t : Nat) (r : EphRow) (poison : Bool) (hs : Canonical (view ar s)) :
    Canonical (view ar (s.setEphRow p step t r poison)) := by
  refine canonical_of_hbm (view_setEphRow (by decide) ..) (fun hs => ?_) hs
  unfold State.setEphRow
  simp [canonical_writeRegion, hs]

theorem canonical_countRow (s : State) (p step t k : Nat) (hs : Canonical (view ar s)) :
    Canonical (view ar (s.countRow p step t k)) := by
  refine canonical_of_hbm (view_countRow (by decide) ..) (fun hs => ?_) hs
  unfold State.countRow
  simp [canonical_countRead, hs]

theorem canonical_recordRow (s : State) (p step t : Nat) (a : EphAcc) (poison : Bool) (hs : Canonical (view ar s)) :
    Canonical (view ar (s.recordRow p step t a poison)) := by
  refine canonical_of_hbm (view_recordRow (by decide) ..) (fun hs => ?_) hs
  unfold State.recordRow
  simp [canonical_setEphRow, canonical_countRow, hs]

theorem canonical_recordJobMax (s : State) (p t max : Nat) (hs : Canonical (view ar s)) :
    Canonical (view ar (s.recordJobMax p t max)) := by
  refine canonical_of_hbm (view_recordJobMax (by decide) ..) (fun hs => ?_) hs
  unfold State.recordJobMax
  (repeat' split) <;> simp [canonical_ite, canonical_setEphRow, hs]

theorem canonical_fillRow (s : State) (p step : Nat) (hs : Canonical (view ar s)) :
    Canonical (view ar (s.fillRow p step)) := by
  refine canonical_of_hbm (view_fillRow (by decide) ..) (fun hs => ?_) hs
  unfold State.fillRow
  refine canonical_of_view (ar := .hbm) (canonical_writeTagged _ _ _ _ _ _ _ ?_) (view_bump (by decide) ..)
  exact canonical_foldl (fun t r ht => canonical_countRow t _ _ _ _ ht) _ _ hs

theorem canonical_fillRegisters (s : State) (p step : Nat) (hs : Canonical (view ar s)) :
    Canonical (view ar (s.fillRegisters p step)) := by
  unfold State.fillRegisters
  exact canonical_modLooms _ _ _ (canonical_countRow _ _ _ _ _ hs) (fun x hx => by rw [mem_fillScales]; exact hx)

theorem canonical_watchOne (s : State) (p step t stat count threshold elems : Nat) (hs : Canonical (view ar s)) :
    Canonical (view ar (s.watchOne p step t stat count threshold elems)) := by
  refine canonical_of_hbm (view_watchOne (by decide) ..) (fun hs => ?_) hs
  unfold State.watchOne
  (repeat' split) <;> simp [canonical_ite, view_bump, view_haltAtBoundary, canonical_setEphRow, view_raise, hs]

theorem canonical_watchSlot (s : State) (p step t : Nat) (hs : Canonical (view ar s)) :
    Canonical (view ar (s.watchSlot p step t)) := by
  unfold State.watchSlot
  exact canonical_ite hs (canonical_watchOne _ _ _ _ _ _ _ _ (canonical_watchOne _ _ _ _ _ _ _ _ (canonical_watchOne _ _ _ _ _ _ _ _ hs)))

theorem canonical_finaliseRow (s : State) (p : Nat) (hs : Canonical (view ar s)) :
    Canonical (view ar (s.finaliseRow p)) := by
  refine canonical_of_hbm (view_finaliseRow (by decide) ..) (fun hs => ?_) hs
  unfold State.finaliseRow
  simp +contextual [canonical_foldl, view_modPart, view_setObj, canonical_countRow, canonical_watchSlot, hs]

theorem canonical_mergeLoom (s : State) (l : LoomId) (hs : Canonical (view ar s)) :
    Canonical (view ar (s.mergeLoom l)) := by
  unfold State.mergeLoom
  refine canonical_keepLoom _ _ _ (canonical_foldl (fun t e ht => ?_) _ _ hs) rfl
  exact canonical_ite ht (canonical_recordRow _ _ _ _ _ _ ht)

theorem canonical_countWin (s : State) (who : Requester) (p : Nat) (w : WindowEnt) (n k : Nat) (hs : Canonical (view ar
    s)) : Canonical (view ar (s.countWin who p w n k)) := by
  refine canonical_of_hbm (view_countWin (by decide) ..) (fun hs => ?_) hs
  unfold State.countWin
  simp +contextual [canonical_foldl, canonical_countRead, hs]

theorem canonical_setWin (s : State) (who : Requester) (p : Nat) (w : WindowEnt) (n k : Nat) (v : Nat → Nat) (keep :
    Bool) (hs : Canonical (view ar s)) : Canonical (view ar (s.setWin who p w n k v keep)) := by
  refine canonical_of_hbm (view_setWin (by decide) ..) (fun hs => ?_) hs
  unfold State.setWin
  simp +contextual [canonical_foldl, canonical_writeTagged, hs]

theorem canonical_setLedger (s : State) (p : Nat) (w : WindowEnt) (c : Nat) (l : Ledger) (hs : Canonical (view ar s)) :
    Canonical (view ar (s.setLedger p w c l)) := by
  refine canonical_of_hbm (view_setLedger (by decide) ..) (fun hs => ?_) hs
  unfold State.setLedger
  simp [canonical_writeRegion, hs]

theorem canonical_countLedger (s : State) (p : Nat) (w : WindowEnt) (c : Nat) (hs : Canonical (view ar s)) :
    Canonical (view ar (s.countLedger p w c)) := by
  refine canonical_of_hbm (view_countLedger (by decide) ..) (fun hs => ?_) hs
  unfold State.countLedger
  simp [canonical_countRead, hs]

theorem canonical_putLog (s : State) (p pos n : Nat) (l : List Bytes) (hs : Canonical (view ar s)) :
    Canonical (view ar (s.putLog p pos n l)) := by
  unfold State.putLog
  exact canonical_foldl (fun t e ht => canonical_across (fun u hu => canonical_writeRegion _ _ _ _ _ _ _ hu) _ _ ht) _ _ hs

theorem canonical_writeLog (s : State) (p step : Nat) (l : List FpEntry) (hs : Canonical (view ar s)) :
    Canonical (view ar (s.writeLog p step l)) := by
  refine canonical_of_hbm (view_writeLog (by decide) ..) (fun hs => ?_) hs
  unfold State.writeLog
  simp [canonical_ite, view_modPart, view_setObj, canonical_putLog, hs]

theorem canonical_foldStep (s : State) (p : Nat) (hs : Canonical (view ar s)) : Canonical (view ar (s.foldStep p)) := by
  refine canonical_of_hbm (view_foldStep (by decide) ..) (fun hs => ?_) hs
  unfold State.foldStep
  simp [view_modPart, view_setObj, canonical_writeLog, hs]

theorem canonical_countRows (s : State) (p c : Nat) (hs : Canonical (view ar s)) :
    Canonical (view ar (s.countRows p c)) := by
  refine canonical_of_hbm (view_countRows (by decide) ..) (fun hs => ?_) hs
  unfold State.countRows
  simp +contextual [canonical_foldl, canonical_countRead, hs]

theorem canonical_takeCheckpoint (s : State) (p c : Nat) (hs : Canonical (view ar s)) :
    Canonical (view ar (s.takeCheckpoint p c)) := by
  refine canonical_of_hbm (view_takeCheckpoint (by decide) ..) (fun hs => ?_) hs
  have hkept (t : State) (d : Bytes) (bad : Nat → Nat → Bool) (ht : Canonical (view .hbm t)) :
      Canonical (view .hbm ((t.countRows p c).writeTagged .hub p ((s.part p).theRegion 9) 0 d bad)) :=
    canonical_writeTagged _ _ _ _ _ _ _ (canonical_countRows _ _ _ ht)
  have hfields (t : State) (sec : Security) (ht : Canonical (view .hbm t)) : Canonical (view .hbm { t with sec := sec }) := ht
  have hreport (t : State) (d : Bytes) (ht : Canonical (view .hbm t)) : Canonical (view .hbm (t.ckptReport p d)) :=
    canonical_of_view ht (view_ckptReport (by decide) ..)
  unfold State.takeCheckpoint
  dsimp only
  refine canonical_ite ?_ ?_
  all_goals exact canonical_ite (hfields _ _ (hkept _ _ _ hs)) (hreport _ _ (hkept _ _ _ hs))

theorem canonical_placeRunRecord (s : State) (p : Nat) (record : Option Bytes) (hs : Canonical (view ar s)) :
    Canonical (view ar (s.placeRunRecord p record)) := by
  refine canonical_of_hbm (view_placeRunRecord (by decide) ..) (fun hs => ?_) hs
  unfold State.placeRunRecord
  (repeat' split) <;> simp [canonical_countRead, canonical_writeRegion, view_ckptReport, hs]

theorem canonical_stepBlock (s : State) (k p : Nat) (c : Word512) (w : WindowEnt) (eta : Val) (apply : Bool) (key b :
    Nat) (hs : Canonical (view ar s)) : Canonical (view ar (s.stepBlock k p c w eta apply key b)) := by
  have hbump (t : State) (r n : Nat) (ht : Canonical (view ar t)) : Canonical (view ar (t.bump r n)) := canonical_apart (s := t) rfl rfl ht
  have hmod (t : State) (f : Part → Part) (ht : Canonical (view ar t)) : Canonical (view ar (t.modPart p f)) :=
    canonical_apart (s := t) rfl rfl ht
  have hread := canonical_countRead _ .engine p w.region.toNat (256 * b) 256 (canonical_countRead s .engine p (uRegion c) (256 * b) 256 hs)
  have hread2 := canonical_ite (c := w.region2.toNat = 255) hread (canonical_countRead _ .engine p w.region2.toNat (256 * b) 256 hread)
  have hwritten (a : Bytes) (f : Part → Part) := canonical_writeRegion _ .engine p (uRegion c) (256 * b) a false (hmod _ f hread2)
  unfold State.stepBlock
  refine canonical_ite (canonical_consumePoison _ _ _ _ _ _ _ _ hread2) (canonical_ite (canonical_ite ?_ ?_) (hmod _ _ hread2))
  · exact hbump _ _ _ (hbump _ _ _ (hbump _ _ _ (hwritten _ _)))
  · exact canonical_recordRow _ _ _ _ _ _ (hbump _ _ _ (hbump _ _ _ (hbump _ _ _ (hwritten _ _))))

theorem canonical_laneFault (s : State) (k p : Nat) (c : Word512) (b : Nat) (hs : Canonical (view ar s)) :
    Canonical (view ar (s.laneFault k p c b)) := by
  refine canonical_of_looms (view_laneFault (by decide) ..) (fun hs => ?_) hs
  unfold State.laneFault
  simp [view_bump, view_raiseQuad, canonical_consumePoison, hs]

theorem canonical_engineRun (s : State) (k p : Nat) (c : Word512) (w : WindowEnt) (apply laneBad : Bool) (hs : Canonical
    (view ar s)) : Canonical (view ar (s.engineRun k p c w apply laneBad)) := by
  refine canonical_cases (fun hs => ?_) (fun hs => ?_) hs
  all_goals
    unfold State.engineRun
    simp only
    (repeat' split) <;> simp +contextual [canonical_foldl, canonical_stepBlock, canonical_laneFault, hs]

theorem canonical_runCommand (s : State) (k p i : Nat) (c : Word512) (w : WindowEnt) (laneBad : Bool) (hs : Canonical
    (view ar s)) : Canonical (view ar (s.runCommand k p i c w laneBad)) := by
  refine canonical_cases (fun hs => ?_) (fun hs => ?_) hs
  all_goals
    unfold State.runCommand
    simp only
    (repeat' split) <;> simp [view_bump, view_raiseQuad, canonical_consumePoison, canonical_engineRun, hs]

theorem canonical_putCopy (s : State) (p : Nat) (c : Word512) (e : Nat) (codes : List Nat) (bad : Option Nat) (hs :
    Canonical (view ar s)) : Canonical (view ar (s.putCopy p c e codes bad)) := by
  refine canonical_of_hbm (view_putCopy (by decide) ..) (fun hs => ?_) hs
  unfold State.putCopy
  simp [canonical_writeBy, hs]

theorem canonical_countMasters (s : State) (p : Nat) (c : Word512) (hs : Canonical (view ar s)) :
    Canonical (view ar (s.countMasters p c)) := by
  refine canonical_of_hbm (view_countMasters (by decide) ..) (fun hs => ?_) hs
  unfold State.countMasters
  simp +contextual [canonical_foldl, canonical_countRead, hs]

theorem canonical_copyCommand (s : State) (p : Nat) (c : Word512) (hs : Canonical (view ar s)) :
    Canonical (view ar (s.copyCommand p c)) := by
  have hcopied (e : Nat) (codes : List Nat) (bad : Option Nat) (m n : Nat) (a : EphAcc) (q : Bool) := canonical_recordRow _ p m n a q
    (canonical_putCopy _ p c e codes bad (canonical_countMasters s p c hs))
  unfold State.copyCommand
  dsimp only
  split
  · exact hcopied ..
  · exact canonical_consumePoison _ _ _ _ _ _ _ _ (hcopied ..)

theorem canonical_copyAll (s : State) (p : Nat) (hs : Canonical (view ar s)) : Canonical (view ar (s.copyAll p)) := by
  unfold State.copyAll
  exact canonical_foldl (fun t c ht => canonical_ite (canonical_copyCommand _ _ _ ht) ht) _ _ hs

theorem canonical_countStates (s : State) (p : Nat) (cs : List Word512) (hs : Canonical (view ar s)) :
    Canonical (view ar (s.countStates p cs)) := by
  unfold State.countStates
  exact canonical_foldl (fun t c ht => canonical_foldl (fun u b hu => canonical_countRead _ _ _ _ _ _ hu) _ _ ht) _ _ hs

theorem canonical_useStates (s : State) (p : Nat) (cs : List Word512) (hs : Canonical (view ar s)) :
    Canonical (view ar (s.useStates p cs)) := by
  refine canonical_cases (fun hs => ?_) (fun hs => ?_) hs
  all_goals
    unfold State.useStates
    (repeat' split) <;> simp [canonical_countStates, canonical_consumePoison, hs]

theorem canonical_armFingerprints (s : State) (p : Nat) (hs : Canonical (view ar s)) :
    Canonical (view ar (s.armFingerprints p)) := by
  refine canonical_cases (fun hs => ?_) (fun hs => ?_) hs
  all_goals
    unfold State.armFingerprints
    simp [view_modPart, view_modArming, canonical_useStates, canonical_ite, hs]

theorem canonical_askSegments (s : State) (l : LoomId) (perLoom : Bool) (hs : Canonical (view ar s)) :
    Canonical (view ar (s.askSegments l perLoom)) := by
  unfold State.askSegments
  exact canonical_apart (view_emit (by decide) ..) (view_emit (by decide) ..) (canonical_keepLoom s l _ hs (mem_setAsked ..))

theorem canonical_startBroadcast (s : State) (p : Nat) (hs : Canonical (view ar s)) :
    Canonical (view ar (s.startBroadcast p)) := by
  refine canonical_of_looms (view_startBroadcast (by decide) ..) (fun hs => ?_) hs
  unfold State.startBroadcast
  simp [canonical_modLooms, view_modArming, hs]

theorem canonical_restoreSections (s : State) (l : LoomId) (hs : Canonical (view ar s)) :
    Canonical (view ar (s.restoreSections l)) := by
  refine canonical_of_looms (view_restoreSections (by decide) ..) (fun hs => ?_) hs
  unfold State.restoreSections
  exact canonical_foldl (fun t e ht => canonical_setLoom t l _ ht (wf_place _ _ _ _ (wf_loom ht l))) _ _ hs

theorem canonical_keysDone (s : State) (p : Nat) (hs : Canonical (view ar s)) : Canonical (view ar (s.keysDone p)) := by
  refine canonical_of_looms (view_keysDone (by decide) ..) (fun hs => ?_) hs
  unfold State.keysDone
  simp [canonical_ite, canonical_startBroadcast, view_rollDue, hs]

theorem canonical_cardTaken (s : State) (p : Fin 4) (n : Nat) (body : Bytes) (sigOk : Bool) (hs : Canonical (view ar s)) :
    Canonical (view ar (s.cardTaken p n body sigOk)) := by
  refine canonical_of_looms (view_cardTaken (by decide) ..) (fun hs => ?_) hs
  unfold State.cardTaken
  simp only
  (repeat' split) <;> simp [view_upd_fresh, view_modPart, view_sendJob, canonical_keysDone, hs]

theorem canonical_rxCard (s : State) (p : Fin 4) (h : KeyxHdr) (body : Bytes) (sigOk : Bool) (hs : Canonical (view ar
    s)) : Canonical (view ar (s.rxCard p h body sigOk)) := by
  refine canonical_of_looms (view_rxCard (by decide) ..) (fun hs => ?_) hs
  unfold State.rxCard
  simp only
  (repeat' split) <;> simp [view_rxParty, canonical_cardTaken, hs]

theorem canonical_cipherTaken (s : State) (p : Fin 4) (n : Nat) (ct : Bytes) (hs : Canonical (view ar s)) :
    Canonical (view ar (s.cipherTaken p n ct)) := by
  refine canonical_of_looms (view_cipherTaken (by decide) ..) (fun hs => ?_) hs
  unfold State.cipherTaken
  simp only
  (repeat' split) <;> simp [view_modPart, canonical_keysDone, hs]

theorem canonical_rxCipher (s : State) (p : Fin 4) (h : KeyxHdr) (ct : Bytes) (hs : Canonical (view ar s)) :
    Canonical (view ar (s.rxCipher p h ct)) := by
  refine canonical_of_looms (view_rxCipher (by decide) ..) (fun hs => ?_) hs
  unfold State.rxCipher
  simp only
  (repeat' split) <;> simp [view_rxParty, canonical_cipherTaken, hs]

theorem canonical_finishRun (s : State) (p : Fin 4) (record : Option Bytes) (hs : Canonical (view ar s)) :
    Canonical (view ar (s.finishRun p record)) := by
  refine canonical_of_hbm (view_finishRun (by decide) ..) (fun hs => ?_) hs
  unfold State.finishRun
  simp [canonical_ite, view_upd_sec, canonical_placeRunRecord, hs]

theorem canonical_placeWaiting (s : State) (e : Fin 4 × Option Bytes) (hs : Canonical (view ar s)) :
    Canonical (view ar (s.placeWaiting e)) := by
  refine canonical_of_hbm (view_placeWaiting (by decide) ..) (fun hs => ?_) hs
  unfold State.placeWaiting
  simp [view_upd_sec, canonical_placeRunRecord, hs]

theorem canonical_deliver (s : State) (r : SignReq) (b : Bytes) (leaf : Nat) (hs : Canonical (view ar s)) :
    Canonical (view ar (s.deliver r b leaf)) := by
  refine canonical_cases (fun hs => ?_) (fun hs => ?_) hs
  all_goals
    unfold State.deliver
    (repeat' split) <;> simp [view_modPart, view_setObj, view_sendControl, canonical_finishRun, canonical_keysDone,
      view_sendCards, hs]

theorem canonical_refuseSignature (s : State) (r : SignReq) (hs : Canonical (view ar s)) :
    Canonical (view ar (s.refuseSignature r)) := by
  refine canonical_of_hbm (view_refuseSignature (by decide) ..) (fun hs => ?_) hs
  unfold State.refuseSignature
  (repeat' split) <;> simp [view_setObj, view_sendControl, canonical_finishRun, hs]

theorem canonical_tallyPoison (s : State) (p k bad : Nat) (hs : Canonical (view ar s)) :
    Canonical (view ar (s.tallyPoison p k bad)) := by
  refine canonical_of_looms (view_tallyPoison (by decide) ..) (fun hs => ?_) hs
  unfold State.tallyPoison
  simp [canonical_consumePoison, hs]

theorem canonical_sendResult (s : State) (p : Nat) (w : WindowEnt) (c : Nat) (hs : Canonical (view ar s)) :
    Canonical (view ar (s.sendResult p w c)) := by
  refine canonical_cases (fun hs => ?_) (fun hs => ?_) hs
  all_goals
    unfold State.sendResult
    simp only
    (repeat' split) <;> simp +contextual [view_foldl, canonical_countWin,
      view_postToWindow, canonical_tallyPoison, hs]

theorem canonical_sendResults (s : State) (p : Nat) (w : WindowEnt) (hs : Canonical (view ar s)) :
    Canonical (view ar (s.sendResults p w)) := by
  unfold State.sendResults
  exact canonical_ite (canonical_foldl (fun t c ht => canonical_ite ht (canonical_sendResult _ _ _ _ ht)) _ _ hs) hs

theorem canonical_ownerComplete (s : State) (p : Nat) (w : WindowEnt) (hs : Canonical (view ar s)) :
    Canonical (view ar (s.ownerComplete p w)) := by
  have hmarked : Canonical (view ar (s.markDone p w)) := canonical_apart (view_markDone (by decide) ..) (view_markDone (by decide) ..) hs
  unfold State.ownerComplete
  refine canonical_ite (canonical_tallyPoison _ _ _ _ hs) ?_
  refine canonical_apart (view_checkResults (by decide) ..) (view_checkResults (by decide) ..) (canonical_sendResults _ _ _ ?_)
  refine canonical_apart ?_ ?_ (canonical_recordJobMax _ p w.slot.toNat (s.ledger p w (winChunks w)).max hmarked)
    <;> simp [view_sendDones, view_noteDone]

theorem canonical_checkWindows (s : State) (p : Nat) (hs : Canonical (view ar s)) :
    Canonical (view ar (s.checkWindows p)) := by
  have hmark (t : State) (w : WindowEnt) (ht : Canonical (view ar t)) : Canonical (view ar (t.markDone p w)) :=
    canonical_apart (view_markDone (by decide) ..) (view_markDone (by decide) ..) ht
  unfold State.checkWindows
  exact canonical_foldl (fun t w ht => canonical_ite (canonical_ite (canonical_ownerComplete _ _ _ ht) (hmark _ _ ht)) ht) _ _ hs

theorem canonical_forward (s : State) (p : Nat) (w : WindowEnt) (c : Nat) (hs : Canonical (view ar s)) :
    Canonical (view ar (s.forward p w c)) := by
  refine canonical_cases (fun hs => ?_) (fun hs => ?_) hs
  all_goals
    unfold State.forward
    simp only
    (repeat' split) <;> simp [view_bump, canonical_countWin, view_postToWindow, canonical_tallyPoison, hs]

theorem canonical_addElems (s : State) (p : Nat) (w : WindowEnt) (h : ChunkHdr) (elems : Bytes) (first : Bool) (hs :
    Canonical (view ar s)) : Canonical (view ar (s.addElems p w h elems first)) := by
  refine canonical_of_hbm (view_addElems (by decide) ..) (fun hs => ?_) hs
  unfold State.addElems
  (repeat' split) <;> simp [canonical_countWin, canonical_setWin, hs]

theorem canonical_tallyViolation (s : State) (p k window : Nat) (hs : Canonical (view ar s)) :
    Canonical (view ar (s.tallyViolation p k window)) := by
  refine canonical_of_looms (view_tallyViolation (by decide) ..) (fun hs => ?_) hs
  unfold State.tallyViolation
  simp [view_bump, canonical_violate, hs]

theorem canonical_chunkDone (s : State) (p k : Nat) (w : WindowEnt) (h : ChunkHdr) (hs : Canonical (view ar s)) :
    Canonical (view ar (s.chunkDone p k w h)) := by
  have hcheck (t : State) (ht : Canonical (view ar t)) : Canonical (view ar (t.checkResults p)) :=
    canonical_apart (view_checkResults (by decide) ..) (view_checkResults (by decide) ..) ht
  have hforward (t : State) (ht : Canonical (view ar t)) : Canonical (view ar (if w.role = 1 then t.forward p w h.chunk else t)) :=
    canonical_ite (canonical_forward _ _ _ _ ht) ht
  have hsent := hforward (s.traceUnit (0x428 + k) 7 ucTally k (s.lowQuad p) (w.window.toNat + h.chunk * 2 ^ 16) (h.step + h.attempt * 2 ^ 48))
    (canonical_apart (view_traceUnit (by decide) ..) (view_traceUnit (by decide) ..) hs)
  unfold State.chunkDone
  exact canonical_ite hsent (canonical_ite (hcheck _ hsent) (canonical_ite (canonical_checkWindows _ _ hsent) hsent))

theorem canonical_tallyCheck (s : State) (p k : Nat) (w : WindowEnt) (h : ChunkHdr) (l : Ledger) (hs : Canonical (view
    ar s)) : Canonical (view ar (s.tallyCheck p k w h l)) := by
  refine canonical_cases (fun hs => ?_) (fun hs => ?_) hs
  all_goals
    unfold State.tallyCheck
    (repeat' split) <;> simp [view_checkResults, canonical_tallyViolation, canonical_chunkDone, hs]

theorem canonical_addChunk (s : State) (p k : Nat) (w : WindowEnt) (h : ChunkHdr) (elems : Bytes) (hs : Canonical (view
    ar s)) : Canonical (view ar (s.addChunk p k w h elems)) := by
  have hbump (t : State) (r n : Nat) (ht : Canonical (view ar t)) : Canonical (view ar (t.bump r n)) := canonical_apart (s := t) rfl rfl ht
  have hshared (now : Bool) (t : State) (ht : Canonical (view ar t)) :
      Canonical (view ar (if now then t.contribute p w.window.toNat h.count else t)) :=
    canonical_ite (canonical_apart (view_contribute (by decide) ..) (view_contribute (by decide) ..) ht) ht
  have hadded (first now : Bool) (l : Ledger) := hshared now _ (hbump _ (0x522002 + 256 * k) h.elems (hbump _ (0x522001 + 256 * k) 1
    (canonical_setLedger _ p w h.chunk l (canonical_addElems _ p w h elems first (canonical_countLedger s p w h.chunk hs)))))
  unfold State.addChunk
  exact canonical_ite (canonical_tallyPoison _ _ _ _ (hadded ..)) (canonical_tallyCheck _ _ _ _ _ _ (hadded ..))

theorem canonical_tallyTake (s : State) (p : Nat) (i : TallyItem) (hs : Canonical (view ar s)) :
    Canonical (view ar (s.tallyTake p i)) := by
  refine canonical_cases (fun hs => ?_) (fun hs => ?_) hs
  all_goals
    unfold State.tallyTake
    simp only
    (repeat' split) <;> simp [view_bump, canonical_addChunk, hs]

theorem canonical_fillStep (s : State) (p : Nat) (hs : Canonical (view ar s)) : Canonical (view ar (s.fillStep p)) := by
  refine canonical_cases (fun hs => ?_) (fun hs => ?_) hs
  all_goals
    unfold State.fillStep
    simp [view_upd_fresh, view_modPart, view_setObj, canonical_fillRow, canonical_fillRegisters, hs]

theorem canonical_beginAttempt (s : State) (p : Nat) (hs : Canonical (view ar s)) :
    Canonical (view ar (s.beginAttempt p)) := by
  have hfilled := canonical_checkWindows _ p (canonical_fillStep s p hs)
  unfold State.beginAttempt
  dsimp only
  split
  · exact hfilled
  · exact canonical_handleAbort _ _ _ _ _ (canonical_apart (view_modPart (by decide) ..) (view_modPart (by decide) ..) hfilled)

theorem canonical_beginStep (s : State) (p : Nat) (hs : Canonical (view ar s)) : Canonical (view ar (s.beginStep p)) := by
  refine canonical_of_looms (view_beginStep (by decide) ..) (fun hs => ?_) hs
  unfold State.beginStep
  refine canonical_modLooms _ _ _ ?_ (fun _ hx => hx)
  simp [view_modPart, view_setExState, view_endWait, hs]

theorem canonical_doDue (s : State) (p n : Nat) (l : List Due) (hs : Canonical (view ar s)) : Canonical (view ar (s.doDue p n l)) := by
  induction l generalizing s with
  | nil => exact hs
  | cons e t ih =>
    cases e with
    | halt c d => exact canonical_apart (view_haltJob (by decide) ..) (view_haltJob (by decide) ..) hs
    | take c => exact canonical_ite (ih _ (canonical_ite hs (canonical_takeCheckpoint _ _ _ hs))) (ih _ hs)
    | amend a => exact ih _ (canonical_ite (canonical_apart (view_amendRank (by decide) ..) (view_amendRank (by decide) ..) hs) hs)

theorem canonical_boundary (s : State) (p : Nat) (hs : Canonical (view ar s)) : Canonical (view ar (s.boundary p)) := by
  refine canonical_of_hbm (view_boundary (by decide) ..) (fun hs => ?_) hs
  unfold State.boundary
  simp only
  (repeat' split) <;> simp [view_modPart, view_setExState, view_traceHub, view_qpsReturn,
      canonical_finaliseRow, view_endLoops, canonical_doDue, view_openWindow, view_holdAtLimit, view_dropPending, hs]

theorem canonical_pathFailed (s : State) (p r : Nat) (hs : Canonical (view ar s)) :
    Canonical (view ar (s.pathFailed p r)) := by
  refine canonical_of_looms (view_pathFailed (by decide) ..) (fun hs => ?_) hs
  unfold State.pathFailed
  simp [view_bump, view_raisePart, canonical_faultAndHalt, view_silence, hs]

theorem canonical_rxNak (s : State) (p : Fin 4) (h : PktHdr) (cls : NakClass) (hs : Canonical (view ar s)) :
    Canonical (view ar (s.rxNak p h cls)) := by
  refine canonical_of_looms (view_rxNak (by decide) ..) (fun hs => ?_) hs
  unfold State.rxNak
  simp only
  (repeat' split) <;> simp [view_resend, canonical_pathFailed, view_rxResponse, hs]

theorem canonical_countRestored (s : State) (p c : Nat) (hs : Canonical (view ar s)) :
    Canonical (view ar (s.countRestored p c)) := by
  refine canonical_cases (fun hs => ?_) (fun hs => ?_) hs
  all_goals
    unfold State.countRestored
    simp [canonical_useStates, hs]

theorem canonical_countStart (s : State) (p r n : Nat) (hs : Canonical (view ar s)) :
    Canonical (view ar (s.countStart p r n)) := by
  refine canonical_of_hbm (view_countStart (by decide) ..) (fun hs => ?_) hs
  unfold State.countStart
  simp [canonical_countRead, hs]

theorem canonical_restore (s : State) (p c : Nat) (hs : Canonical (view ar s)) : Canonical (view ar (s.restore p c)) := by
  refine canonical_of_hbm (view_restore (by decide) ..) (fun hs => ?_) hs
  have hkept (t : State) (a b : Nat) (x y : Nat) (f : Part → Part) (ht : Canonical (view .hbm t)) :
      Canonical (view .hbm (((t.setObj a x).setObj b y).modPart p f)) := ht
  unfold State.restore
  generalize List.range 16 = l
  exact hkept _ _ _ _ _ _ (canonical_foldl (fun t i ht => canonical_writeTagged _ _ _ _ _ _ _ (canonical_countRead _ _ _ _ _ _ ht)) l s hs)

theorem canonical_armSteps (s : State) (p : Nat) (img : Image) (hs : Canonical (view ar s)) :
    Canonical (view ar (s.armSteps p img)) := by
  have hfails (t : State) (c n : Nat) (ht : Canonical (view ar t)) : Canonical (view ar (t.armFails p c n)) :=
    canonical_apart (view_armFails (by decide) ..) (view_armFails (by decide) ..) ht
  have hkeys (t : State) (ht : Canonical (view ar t)) : Canonical (view ar ((t.startKeys p).keysDone p)) :=
    canonical_keysDone _ _ (canonical_apart (view_startKeys (by decide) ..) (view_startKeys (by decide) ..) ht)
  have hset (t : State) (r v : Nat) (ht : Canonical (view ar t)) : Canonical (view ar (t.setObj r v)) := canonical_apart (s := t) rfl rfl ht
  have hbegun (f : Part → Part) : Canonical (view ar ((s.setJobState p 2).modPart p f)) :=
    canonical_apart (by simp [view_modPart, view_setJobState]) (by simp [view_modPart, view_setJobState]) hs
  have himage (f : Part → Part) (r n v : Nat) := hset _ (0x904001 + 256 * p) v (canonical_countStart _ p r n (hbegun f))
  unfold State.armSteps
  refine canonical_ite (hfails _ _ _ (canonical_countStart _ _ _ _ (hbegun _))) (canonical_ite (hkeys _ (himage ..)) ?_)
  refine canonical_ite (hfails _ _ _ (canonical_countStart _ _ _ _ (himage ..))) (canonical_ite ?_ (canonical_ite (hkeys _ ?_) (hfails _ _ _ ?_)))
  all_goals exact canonical_countRestored _ _ _ (canonical_restore _ _ _ (canonical_countStart _ _ _ _ (himage ..)))

theorem canonical_armMessage (s : State) (p : Nat) (m : Ctl) (img : Image) (hs : Canonical (view ar s)) :
    Canonical (view ar (s.armMessage p m img)) := by
  unfold State.armMessage
  refine canonical_control s p 2 m _ _ _ _ _ (fun t ht => ?_) (fun t ht => ht) hs
  split
  · dsimp only
    exact canonical_armSteps t p img ht
  · exact ht

theorem canonical_checkpointTakeMsg (s : State) (p c : Nat) (hs : Canonical (view ar s)) :
    Canonical (view ar (s.checkpointTakeMsg p c).2.1) := by
  refine canonical_of_hbm (view_checkpointTakeMsg (by decide) ..) (fun hs => ?_) hs
  unfold State.checkpointTakeMsg
  simp only
  (repeat' split) <;> simp [view_modPart, view_setObj, canonical_takeCheckpoint, hs]

theorem canonical_checkpointMessage (s : State) (p : Nat) (m : Ctl) (hs : Canonical (view ar s)) :
    Canonical (view ar (s.checkpointMessage p m)) := by
  refine canonical_of_hbm (view_checkpointMessage (by decide) ..) (fun hs => ?_) hs
  unfold State.checkpointMessage
  refine canonical_control s p 5 m _ _ _ _ _ (fun t ht => ?_) (fun t ht => ht) hs
  (repeat' split) <;> simp [canonical_checkpointTakeMsg, view_checkpointReleaseMsg, ht]

theorem canonical_unloaded (s : State) (p : Nat) (m : Ctl) (hs : Canonical (view ar s)) :
    Canonical (view ar (s.unloaded p m)) := by
  refine canonical_cases (fun hs => ?_) (fun hs => ?_) hs
  all_goals
    unfold State.unloaded
    simp [canonical_ite, canonical_resetPart, hs]

theorem canonical_haltMessage (s : State) (p : Nat) (m : Ctl) (hs : Canonical (view ar s)) :
    Canonical (view ar (s.haltMessage p m)) := by
  unfold State.haltMessage
  refine canonical_control s p 6 m _ _ _ _ _ (fun t ht => ?_) (fun t ht => canonical_unloaded t p m ht) hs
  split
  · exact canonical_apart (view_haltMsg (by decide) ..) (view_haltMsg (by decide) ..) ht
  · exact canonical_apart (view_unloadMsg (by decide) ..) (view_unloadMsg (by decide) ..) ht
  · exact ht

theorem canonical_restoreLoom (s : State) (p : Nat) (l : LoomId) (hs : Canonical (view ar s)) :
    Canonical (view ar (s.restoreLoom p l)) := by
  refine canonical_of_looms (view_restoreLoom (by decide) ..) (fun hs => ?_) hs
  unfold State.restoreLoom
  simp only
  (repeat' split) <;> simp [canonical_restoreSections, view_restoreFails, hs]

theorem canonical_widthCheck (s : State) (k : Nat) (hs : Canonical (view ar s)) :
    Canonical (view ar (s.widthCheck k)) := by
  refine canonical_of_looms (view_widthCheck (by decide) ..) (fun hs => ?_) hs
  unfold State.widthCheck
  simp only
  (repeat' split) <;> simp [view_raisePart, canonical_faultAndHalt, hs]

theorem canonical_linkComesUp (s : State) (k first w : Nat) (hs : Canonical (view ar s)) :
    Canonical (view ar (s.linkComesUp k first w)) := by
  refine canonical_of_looms (view_linkComesUp (by decide) ..) (fun hs => ?_) hs
  have hlane (l : List Nat) (t : State) : view .looms (l.foldl (fun (t : State) n => t.setObj (laneRef n 1) 0) t) = view .looms t :=
    view_foldl (fun t n => view_setObj (by decide) t _ _) l t
  unfold State.linkComesUp
  refine canonical_widthCheck _ _ (canonical_of_view (ar := .looms) (canonical_ite ?_ ?_) (view_portTrained (by decide) ..))
  · exact canonical_of_view (ar := .looms) hs (by simp [view_linkEvent, view_setObj, view_setLink, hlane])
  · exact canonical_of_view (ar := .looms) hs (by simp [view_setObj, view_setLink, hlane])

theorem canonical_commandWrite (s : State) (op n ref v : Nat) (data : Bytes) (fw : FwVerdict) (hs : Canonical (view ar
    s)) : Canonical (view ar (s.commandWrite op n ref v data fw).1) := by
  have hseal : Canonical (view ar ({ s.setObj ref v with sealArmed := true } : State).startSeal) :=
    canonical_apart (s := s) ((view_startSeal (by decide) _).trans rfl) ((view_startSeal (by decide) _).trans rfl) hs
  unfold State.commandWrite
  refine canonical_pair_ite (canonical_goWrite s 2 v hs) (canonical_pair_ite (canonical_goWrite s 3 v hs) (canonical_pair_ite (canonical_goWrite s 5 v hs) (canonical_pair_ite (canonical_goWrite s 6 v hs)
    (canonical_pair_ite (canonical_goWrite s 7 v hs) (canonical_pair_ite (canonical_applyWrite s v hs) (canonical_pair_ite ?unlock (canonical_pair_ite hseal
    (canonical_pair_ite ?image (canonical_pair_ite ?select (canonical_pair_ite ?firmware (canonical_pair_ite ?nonce (canonical_pair_ite ?openEk
    (canonical_pair_ite ?response (canonical_pair_ite ?snapshot (canonical_pair_ite ?eclipse (canonical_pair_ite (canonical_resumeWrite s v hs)
    (canonical_pair_ite (canonical_releaseWrite s v hs) ?hang)))))))))))))))))
  case unlock => exact canonical_apart (view_unlockWrite (by decide) ..) (view_unlockWrite (by decide) ..) hs
  case image => exact canonical_apart (view_imageWrite (by decide) ..) (view_imageWrite (by decide) ..) hs
  case select => exact canonical_apart (view_selectWrite (by decide) ..) (view_selectWrite (by decide) ..) hs
  case firmware => exact canonical_apart (view_firmwareCommitWrite (by decide) ..) (view_firmwareCommitWrite (by decide) ..) hs
  case nonce => exact canonical_apart (view_nonceWrite (by decide) ..) (view_nonceWrite (by decide) ..) hs
  case openEk => exact canonical_apart (view_openEkWrite (by decide) ..) (view_openEkWrite (by decide) ..) hs
  case response => exact canonical_apart (view_responseWrite (by decide) ..) (view_responseWrite (by decide) ..) hs
  case snapshot => exact canonical_apart (view_snapshotWrite (by decide) ..) (view_snapshotWrite (by decide) ..) hs
  case eclipse => exact canonical_apart (view_eclipseWrite (by decide) ..) (view_eclipseWrite (by decide) ..) hs
  case hang => exact canonical_apart (view_hangWrite (by decide) ..) (view_hangWrite (by decide) ..) hs

theorem canonical_unitWrite (s : State) (op n : Nat) (o : ObjRow) (ref : Nat) (data : Bytes) (fw : FwVerdict) (hs :
    Canonical (view ar s)) : Canonical (view ar (s.unitWrite op n o ref data fw).1) := by
  refine canonical_cases (fun hs => ?_) (fun hs => ?_) hs
  all_goals
    unfold State.unitWrite
    (repeat' split) <;> simp [view_setObj, view_channelEnable, view_portWrite, view_classDWrite,
      view_storeSetting, view_bufferWrite, view_nodeWrite, canonical_commandWrite, hs]

theorem canonical_valueChecked (s : State) (op n : Nat) (o : ObjRow) (ref : Nat) (data : Bytes) (fw : FwVerdict) (hs :
    Canonical (view ar s)) : Canonical (view ar (s.valueChecked op n o ref data fw).1) := by
  refine canonical_cases (fun hs => ?_) (fun hs => ?_) hs
  all_goals
    unfold State.valueChecked
    simp only
    (repeat' split) <;> simp [view_bump, canonical_unitWrite, hs]

theorem canonical_complementWrite (s : State) (op n v : Nat) (fw : FwVerdict) (hs : Canonical (view ar s)) :
    Canonical (view ar (s.complementWrite op n v fw).1) := by
  refine canonical_cases (fun hs => ?_) (fun hs => ?_) hs
  all_goals
    unfold State.complementWrite
    simp only
    (repeat' split) <;> simp [view_guardFault, view_dropCompat, canonical_valueChecked, hs]

theorem canonical_writeValue (s : State) (op : Nat) (r : Req) (o : ObjRow) (data : Bytes) (sizeOk open_ : Bool) (fw :
    FwVerdict) (hs : Canonical (view ar s)) : Canonical (view ar (s.writeValue op r o data sizeOk open_ fw).1) := by
  refine canonical_cases (fun hs => ?_) (fun hs => ?_) hs
  all_goals
    unfold State.writeValue
    simp only
    (repeat' split) <;> simp [view_targetWrite, view_valueWrite, canonical_valueChecked,
      canonical_complementWrite, view_authTaken, view_answer, hs]

theorem canonical_commitFrame (s : State) (r : Req) (o : ObjRow) (open_ : Bool) (fw : FwVerdict) (hs : Canonical (view
    ar s)) : Canonical (view ar (s.commitFrame r o open_ fw).1) := by
  refine canonical_cases (fun hs => ?_) (fun hs => ?_) hs
  all_goals
    unfold State.commitFrame
    simp only
    (repeat' split) <;> simp [view_modNode, view_authTaken, view_answer, canonical_writeValue, hs]

theorem canonical_handle (s : State) (op : Nat) (r : Req) (fw : FwVerdict) (hs : Canonical (view ar s)) :
    Canonical (view ar (s.handle op r fw).1) := by
  refine canonical_cases (fun hs => ?_) (fun hs => ?_) hs
  all_goals
    unfold State.handle
    simp only
    (repeat' split) <;> simp [view_answer, canonical_writeValue, view_stagedFrame, canonical_commitFrame, view_readFrame,
      view_blockFrame, view_frameArrives, hs]

theorem canonical_serve (s : State) (op : Nat) (r : Req) (fw : FwVerdict) (hs : Canonical (view ar s)) :
    Canonical (view ar (s.serve op r fw)) := by
  refine canonical_cases (fun hs => ?_) (fun hs => ?_) hs
  all_goals
    unfold State.serve
    simp only
    (repeat' split) <;> simp [view_bump, view_crossQueues, view_sendDict, view_modNode, canonical_handle, hs]

theorem canonical_writeTo (s : State) (r : Req) (ref : Nat) (hs : Canonical (view ar s)) :
    Canonical (view ar (s.writeTo r ref)) := by
  refine canonical_cases (fun hs => ?_) (fun hs => ?_) hs
  all_goals
    unfold State.writeTo
    simp [canonical_serve, hs]

theorem canonical_rowIn (s : State) (l : LoomId) (d : Word512) (i : Nat) (hs : Canonical (view ar s)) :
    Canonical (view ar (s.rowIn l d i)) := by
  unfold State.rowIn
  refine canonical_countRead _ _ _ _ _ _ (canonical_of_looms (view_setLoom (by decide) ..) (fun h => ?_) hs)
  exact canonical_setLoom _ _ _ h (wf_puts _ _ _ _ (wf_loom h l))

theorem canonical_rowOut (s : State) (l : LoomId) (d : Word512) (i : Nat) (hs : Canonical (view ar s)) :
    Canonical (view ar (s.rowOut l d i)) := by
  refine canonical_of_hbm (view_rowOut (by decide) ..) (fun hs => ?_) hs
  unfold State.rowOut
  simp +contextual [canonical_foldl, canonical_writeRegion, hs]

theorem canonical_transposeRow (s : State) (l : LoomId) (d : Word512) (k : Nat) (hs : Canonical (view ar s)) :
    Canonical (view ar (s.transposeRow l d k)) := by
  refine canonical_of_looms (view_transposeRow (by decide) ..) (fun hs => ?_) hs
  unfold State.transposeRow
  exact canonical_setLoom s l _ hs (wf_putElems _ _ _ _ (wf_loom hs l))

theorem canonical_transfer (s : State) (l : LoomId) (dir : Nat) (d : Word512) (hs : Canonical (view ar s)) :
    Canonical (view ar (s.transfer l dir d)) := by
  unfold State.transfer
  refine canonical_ite (canonical_foldl (fun t i ht => canonical_rowOut t _ _ _ ht) _ _ hs)
    (canonical_ite (canonical_foldl (fun t i ht => canonical_rowIn t _ _ _ ht) _ _ hs) ?_)
  exact canonical_foldl (fun t n ht => canonical_countRead _ _ _ _ _ _ ht) _ _ (canonical_foldl (fun t k ht => canonical_transposeRow _ _ _ _ ht) _ _ hs)

theorem canonical_dmaOp (s : State) (l : LoomId) (dir : Nat) (hit : Option LoomHit) (hs : Canonical (view ar s)) :
    Canonical (view ar (s.dmaOp l dir hit)) := by
  unfold State.dmaOp
  refine canonical_descriptor s l _ _ _ (fun t d ht => canonical_ite ht ?_) hs
  have hissued (n : Nat) (w : Bool) (a : LoomWord → Bool) (r x : List (Nat × Nat)) :=
    canonical_toUnit _ l .dma d n w r x (canonical_found t l (dTag d) a hit ht)
  split
  · exact canonical_reject _ _ _ ht
  · exact canonical_ite (hissued ..) (canonical_transfer _ _ _ _ (hissued ..))

theorem canonical_headerMismatch (s : State) (p : Nat) (k : PktHdr) (h : ChunkHdr) (hs : Canonical (view ar s)) :
    Canonical (view ar (s.headerMismatch p k h)) := by
  refine canonical_of_looms (view_headerMismatch (by decide) ..) (fun hs => ?_) hs
  unfold State.headerMismatch
  simp [view_bump, view_raisePart, canonical_chargeFault, hs]

theorem canonical_doneArrived (s : State) (p : Nat) (h : ChunkHdr) (hs : Canonical (view ar s)) :
    Canonical (view ar (s.doneArrived p h)) := by
  refine canonical_of_hbm (view_doneArrived (by decide) ..) (fun hs => ?_) hs
  unfold State.doneArrived
  simp [canonical_recordJobMax, view_noteDone, view_checkResults, hs]

theorem canonical_chunkTaken (s : State) (p : Nat) (c : Chunk) (h : ChunkHdr) (hs : Canonical (view ar s)) :
    Canonical (view ar (s.chunkTaken p c h)) := by
  refine canonical_of_hbm (view_chunkTaken (by decide) ..) (fun hs => ?_) hs
  unfold State.chunkTaken
  simp [canonical_ite, view_pfcCheck, view_loopTake, view_toTally, canonical_doneArrived, hs]

theorem canonical_rxChunk (s : State) (p type : Nat) (c : Chunk) (hs : Canonical (view ar s)) :
    Canonical (view ar (s.rxChunk p type c)) := by
  refine canonical_cases (fun hs => ?_) (fun hs => ?_) hs
  all_goals
    unfold State.rxChunk
    simp only
    (repeat' split) <;> simp [view_bump, view_rxDrop, view_sendNak, view_rxPacket, view_rxAccept,
      canonical_headerMismatch, canonical_chunkTaken, hs]

theorem canonical_chunkArrives (s : State) (p : Fin 4) (type : Nat) (c : Chunk) (cmd : Instr) (hs : Canonical (view ar
    s)) : Canonical (view ar (s.chunkArrives p type c cmd)) := by
  unfold State.chunkArrives
  exact canonical_pktArrives (fun t ht => canonical_rxChunk t p type c ht) s p _ _ cmd hs

theorem canonical_sendEntry (s : State) (p : Nat) (e : SendEnt) (w : WindowEnt) (hs : Canonical (view ar s)) :
    Canonical (view ar (s.sendEntry p e w)) := by
  have hread (t : State) (c : ChunkHdr × Nat × Nat) (ht : Canonical (view ar t)) := canonical_countRead t .hub p (sndField e 71 64) c.2.1 c.2.2 ht
  have hreads := canonical_foldl hread ((List.range' (sndField e 143 112) (sndField e 175 144)).map (s.sendChunk p e w)) s hs
  unfold State.sendEntry
  refine canonical_ite (canonical_consumePoison _ _ _ _ _ _ _ _ hreads) (canonical_foldl (fun t c ht => ?_) _ _ hreads)
  exact canonical_apart (view_postToWindow (by decide) ..) (view_postToWindow (by decide) ..) ht

theorem canonical_abortArrived (s : State) (p st a cause r : Nat) (hs : Canonical (view ar s)) :
    Canonical (view ar (s.abortArrived p st a cause r)) := by
  refine canonical_of_looms (view_abortArrived (by decide) ..) (fun hs => ?_) hs
  unfold State.abortArrived
  simp only
  (repeat' split) <;> simp [view_modPart, canonical_handleAbort, view_lateAbort, hs]

theorem canonical_rxAbort (s : State) (p : Fin 4) (h : PktHdr) (m : Word512) (hs : Canonical (view ar s)) :
    Canonical (view ar (s.rxAbort p h m)) := by
  refine canonical_of_looms (view_rxAbort (by decide) ..) (fun hs => ?_) hs
  unfold State.rxAbort
  simp only
  (repeat' split) <;> simp [view_rxMarker, canonical_abortArrived, hs]

theorem canonical_ringLand (s : State) (p r : Nat) (w : SvcReq) (hs : Canonical (view ar s)) :
    Canonical (view ar (s.ringLand p r w)) := by
  refine canonical_of_hbm (view_ringLand (by decide) ..) (fun hs => ?_) hs
  unfold State.ringLand
  simp [view_modPart, canonical_writeRegion, hs]

theorem canonical_rxServiceWrite (s : State) (p : Fin 4) (w : SvcReq) (hs : Canonical (view ar s)) :
    Canonical (view ar (s.rxServiceWrite p w)) := by
  refine canonical_of_hbm (view_rxServiceWrite (by decide) ..) (fun hs => ?_) hs
  have htaken : Canonical (view .hbm (s.svcTaken p w (packetsOf w.data.length)).1) := canonical_of_view hs (view_svcTaken (by decide) ..)
  unfold State.rxServiceWrite
  dsimp only
  split
  next t he =>
    rw [he] at htaken
    exact htaken
  next t he =>
    rw [he] at htaken
    have hrefuse := canonical_of_view htaken (view_svcRefuse (by decide) t p w.pkt)
    have haccept := canonical_of_view htaken (view_rxAccept (by decide) t p w.pkt (packetsOf w.data.length))
    split
    · exact hrefuse
    · exact canonical_ite (canonical_ite (canonical_ringLand _ _ _ _ haccept) hrefuse)
        (canonical_ite (canonical_writeRegion _ _ _ _ _ _ _ haccept) hrefuse)

theorem canonical_rxRingFill (s : State) (p : Fin 4) (w : SvcReq) (imm : BitVec 32) (hs : Canonical (view ar s)) :
    Canonical (view ar (s.rxRingFill p w imm)) := by
  refine canonical_of_hbm (view_rxRingFill (by decide) ..) (fun hs => ?_) hs
  have htaken : Canonical (view .hbm (s.svcTaken p w (packetsOf w.data.length)).1) := canonical_of_view hs (view_svcTaken (by decide) ..)
  unfold State.rxRingFill
  dsimp only
  split
  next t he =>
    rw [he] at htaken
    exact htaken
  next t he =>
    rw [he] at htaken
    have hrefuse := canonical_of_view htaken (view_svcRefuse (by decide) t p w.pkt)
    have haccept := canonical_of_view htaken (view_rxAccept (by decide) t p w.pkt (packetsOf w.data.length))
    split
    · exact hrefuse
    · exact canonical_ite (canonical_of_view (canonical_ringLand _ _ _ _ haccept) (view_ringDone (by decide) ..)) hrefuse

theorem canonical_rxReadRequest (s : State) (p : Fin 4) (w : SvcReq) (hs : Canonical (view ar s)) :
    Canonical (view ar (s.rxReadRequest p w)) := by
  have htaken : Canonical (view ar (s.svcTaken p w 1).1) := canonical_apart (view_svcTaken (by decide) ..) (view_svcTaken (by decide) ..) hs
  unfold State.rxReadRequest
  split
  next t he =>
    rw [he] at htaken
    exact htaken
  next t he =>
    rw [he] at htaken
    have hrefuse : Canonical (view ar (t.svcRefuse p w.pkt)) :=
      canonical_apart (view_svcRefuse (by decide) ..) (view_svcRefuse (by decide) ..) htaken
    have hread (r n : Nat) : Canonical (view ar ((t.rxTaken p w.pkt (packetsOf n) 1).countRead .hub p r w.va.toNat n)) :=
      canonical_countRead _ _ _ _ _ _ (canonical_apart (view_rxTaken (by decide) ..) (view_rxTaken (by decide) ..) htaken)
    split
    · exact hrefuse
    · refine canonical_ite (canonical_ite ?_ (canonical_consumePoison _ _ _ _ _ _ _ _ (hread _ _))) hrefuse
      exact canonical_apart (view_sendRead (by decide) ..) (view_sendRead (by decide) ..) (hread _ _)

theorem canonical_vecStore (s : State) (l : LoomId) (d : Word512) (x : Loom) (w : Nat) (b : Bytes) (origins : List Nat)
    (hs : Canonical (view ar s)) (hx : Memory.wf x.mem = true) : Canonical (view ar (s.vecStore l d x w b origins)) := by
  unfold State.vecStore
  exact canonical_loomPoison _ _ _ _ (canonical_setLoom s l _ hs (wf_putElems _ _ _ _ hx))

theorem canonical_vecConvert (s : State) (l : LoomId) (d : Word512) (vals : List Val) (origins : List Nat) (hs :
    Canonical (view ar s)) : Canonical (view ar (s.vecConvert l d vals origins)) := by
  refine canonical_of_looms (view_vecConvert (by decide) ..) (fun hs => ?_) hs
  unfold State.vecConvert
  refine canonical_vecStore _ _ _ _ _ _ _ hs ?_
  rw [mem_foldl (fun y c => mem_note ..)]
  exact wf_loom hs l

theorem canonical_vecMask (s : State) (l : LoomId) (d : Word512) (m origins : List Nat) (hs : Canonical (view ar s)) :
    Canonical (view ar (s.vecMask l d m origins)) := by
  refine canonical_of_looms (view_vecMask (by decide) ..) (fun hs => ?_) hs
  unfold State.vecMask
  exact canonical_vecStore _ _ _ _ _ _ _ hs (wf_loom hs l)

theorem canonical_vecWide (s : State) (l : LoomId) (d : Word512) (a : List A96) (origins : List Nat) (hs : Canonical
    (view ar s)) : Canonical (view ar (s.vecWide l d a origins)) := by
  refine canonical_of_looms (view_vecWide (by decide) ..) (fun hs => ?_) hs
  unfold State.vecWide
  exact canonical_of_view (canonical_vecStore _ _ _ _ _ _ _ hs (wf_loom hs l)) (view_overflows (by decide) ..)

theorem canonical_vecT32 (s : State) (l : LoomId) (d : Word512) (origins : List Nat) (hs : Canonical (view ar s)) :
    Canonical (view ar (s.vecT32 l d origins)) := by
  refine canonical_of_looms (view_vecT32 (by decide) ..) (fun hs => ?_) hs
  unfold State.vecT32
  refine canonical_vecStore _ _ _ _ _ _ _ hs ?_
  rw [mem_foldl (fun y c => mem_note ..)]
  exact wf_loom hs l

theorem canonical_vecVote (s : State) (l : LoomId) (d : Word512) (origins : List Nat) (hs : Canonical (view ar s)) :
    Canonical (view ar (s.vecVote l d origins)) := by
  refine canonical_of_looms (view_vecVote (by decide) ..) (fun hs => ?_) hs
  unfold State.vecVote
  refine canonical_vecStore _ _ _ _ _ _ _ hs ?_
  rw [mem_foldl (fun y c => mem_note ..)]
  exact wf_loom hs l

theorem canonical_vectorOp (s : State) (l : LoomId) (k : Nat) (hit : Option LoomHit) (f : Loom → Word512 → List Nat → State → State)
    (hf : ∀ x d n t, Canonical (view ar t) → Canonical (view ar (f x d n t))) (hs : Canonical (view ar s)) :
    Canonical (view ar (s.vectorOp l k hit f)) := by
  unfold State.vectorOp
  refine canonical_descriptor s l _ _ _ (fun t d ht => ?_) hs
  refine canonical_ite ht ?_
  split
  · exact canonical_reject _ _ _ ht
  · exact hf _ _ _ _ (canonical_toUnit _ _ _ _ _ _ _ _ (canonical_found _ _ _ _ _ ht))

theorem canonical_vectorVals (s : State) (l : LoomId) (vop : Nat) (hit : Option LoomHit) (f : Loom → Word512 → List Val)
    (hs : Canonical (view ar s)) : Canonical (view ar (s.vectorVals l vop hit f)) := by
  refine canonical_of_looms (view_vectorVals (by decide) ..) (fun hs => ?_) hs
  unfold State.vectorVals
  exact canonical_vectorOp s l _ _ _ (fun x d n t ht => canonical_vecConvert _ _ _ _ _ ht) hs

theorem canonical_runHeld (c : Instr) (s : State) (hs : Canonical (view ar s)) : Canonical (view ar (runHeld c s)) := by
  refine canonical_cases (fun hs => ?_) (fun hs => ?_) hs
  all_goals
    unfold runHeld
    (repeat' split) <;> simp [view_rxInit, view_rxFinish, canonical_rxCard, canonical_rxCipher, view_rxUnsupported,
      view_rxAck, canonical_rxNak, view_rxRnrNak, view_rxCnp, view_loadMessage, canonical_armMessage, view_startMessage,
      view_stepLimitMessage, canonical_checkpointMessage, canonical_haltMessage, view_queryMessage,
      view_fieldTestMessage, view_rxGreeting, canonical_rxChunk, view_rxCommit, canonical_rxAbort,
      canonical_rxServiceWrite, canonical_rxRingFill, canonical_rxReadRequest, hs]

theorem canonical_takeHeld (s : State) (h : HeldPacket) (hs : Canonical (view ar s)) :
    Canonical (view ar (s.takeHeld h)) := by
  refine canonical_cases (fun hs => ?_) (fun hs => ?_) hs
  all_goals
    unfold State.takeHeld
    simp [view_upd_macTime, canonical_runHeld, view_unhold, hs]

theorem canonical_idle (s : State) (hs : Canonical (view ar s)) : Canonical (view ar (s.idle)) := by
  refine canonical_cases (fun hs => ?_) (fun hs => ?_) hs
  all_goals
    unfold State.idle
    (repeat' split) <;> simp [view_idleTick, view_resumeEnds, canonical_placeWaiting, canonical_takeHeld, hs]

end Sys2Proof.Machine
end

section
/-! SUPPORT. Every command takes effect in one step and keeps the canonical form of stored bytes, and so does a step of the block: O3. -/

namespace Sys2Proof.Machine

open Sys2Proof

variable {ar : Area} {s t : State}

/-- In reset nothing is stored. -/
theorem canonical_heldInReset (s : State) (hs : Canonical (view ar s)) : Canonical (view ar s.heldInReset) :=
  canonical_cases (fun _ => rfl) (fun _ _ => rfl) hs

theorem canonical_pwrokRise (mgtId : BitVec 3) (pufOk : Bool) (s : State) (hs : Canonical (view ar s)) :
    ∃ t, exec (.pwrokRise mgtId pufOk) s = .next t ∧ Canonical (view ar t) := by
  have hrom (t : State) (ht : Canonical (view ar t)) : Canonical (view ar (t.bootSecurity pufOk).bootRom) :=
    canonical_apart (by simp [view_bootRom, view_bootSecurity]) (by simp [view_bootRom, view_bootSecurity]) ht
  have hfirmware (t : State) (ht : Canonical (view ar t)) : Canonical (view ar t.bootFirmware) :=
    canonical_apart (view_bootFirmware (by decide) _) (view_bootFirmware (by decide) _) ht
  have hreset : Canonical (view ar ({ s.heldInReset with pwrok := true, straps := mgtId, riseNs := s.ns } : State)) :=
    canonical_cases (fun _ => rfl) (fun _ _ => rfl) hs
  exact ⟨_, rfl, canonical_ite hs (canonical_ite (hrom _ hreset) (hfirmware _ (hrom _ hreset)))⟩

theorem canonical_controlKept (s : State) (l : LoomId) (d : Word512) (x : Loom) (hs : Canonical (view ar s)) (hx : x.mem = (s.loom l).mem) :
    Canonical (view ar (s.controlDone l d x)) := by
  unfold State.controlDone
  exact canonical_loomTrace _ _ _ _ _ _ (canonical_loomTrace _ _ _ _ _ _ (canonical_keepLoom s l _ hs hx))

theorem mem_observation {x y : Loom} {w : FWord} (h : x.observation = some (w, y)) : y.mem = x.mem := by
  unfold Loom.observation at h
  (repeat' split at h) <;> cases h; rfl

theorem exec_bistGroupComplete_canonical (fails : List BistFail) (bypass : List (Fin 20)) (s : State) (hs : Canonical (view ar s)) :
    ∃ t, exec (.bistGroupComplete fails bypass) s = .next t ∧ Canonical (view ar t) := by
  have hends (g : Nat) (t : State) (r : Nat) (ht : Canonical (view ar t)) : Canonical (view ar (({ t with bistGroup := none } : State).endStep g r)) :=
    canonical_apart (s := t) ((view_endStep (by decide) ..).trans rfl) ((view_endStep (by decide) ..).trans rfl) ht
  refine ⟨_, rfl, ?_⟩
  split
  · exact hs
  next g _ =>
    have hgroup : Canonical (view ar (s.bistGroupEnds g fails bypass)) :=
      canonical_apart (view_bistGroupEnds (by decide) ..) (view_bistGroupEnds (by decide) ..) hs
    dsimp only
    split
    · exact canonical_apart (s := s.bistGroupEnds g fails bypass) rfl rfl hgroup
    · exact hends _ _ _ hgroup

theorem exec_katRunComplete_canonical (looms : List LoomId) (engines : List (Fin 20)) (s : State) (hs : Canonical (view ar s)) :
    ∃ t, exec (.katRunComplete looms engines) s = .next t ∧ Canonical (view ar t) := by
  have hlooms (l : List LoomId) : Canonical (view ar (l.foldl State.katLoomFails s)) :=
    canonical_foldl (fun t l ht => canonical_apart (view_katLoomFails (by decide) ..) (view_katLoomFails (by decide) ..) ht) l s hs
  have hengines (l : List (Fin 20)) (t : State) (ht : Canonical (view ar t)) :
      Canonical (view ar (l.foldl (fun (t : State) (k : Fin 20) => t.katEngineFails k) t)) :=
    canonical_foldl (fun t k ht => canonical_apart (view_katEngineFails (by decide) ..) (view_katEngineFails (by decide) ..) ht) l t ht
  have hmap (l : List (Fin 4)) (t : State) (ht : Canonical (view ar t)) :
      Canonical (view ar (l.foldl (fun (t : State) (q : Fin 4) => t.mapQuad q) t)) :=
    canonical_foldl (fun t q ht => canonical_apart (view_mapQuad (by decide) ..) (view_mapQuad (by decide) ..) ht) l t ht
  have hend (t : State) (n : Nat) (ht : Canonical (view ar t)) :
      Canonical (view ar (({ t.katScratch with katQuads := [], katRound := 0 } : State).endStep 7 n)) :=
    canonical_apart (s := t.katScratch) ((view_endStep (by decide) ..).trans rfl) ((view_endStep (by decide) ..).trans rfl) (canonical_katScratch t ht)
  have hseal (t : State) (ht : Canonical (view ar t)) : Canonical (view ar t.startSeal) :=
    canonical_apart (view_startSeal (by decide) _) (view_startSeal (by decide) _) ht
  have hagain (t : State) (l : List (Fin 4)) (n : Nat) (tries : SMap Nat) (ht : Canonical (view ar t)) :
      Canonical (view ar { l.foldl (fun (t : State) (q : Fin 4) => t.katLooms q) (t.bump 0x213003 l.length) with
        katRound := n, katQuads := l, katTries := tries }) := by
    have hlooms := canonical_foldl (fun t (q : Fin 4) ht => canonical_katLooms t q ht) l (t.bump 0x213003 l.length)
      (canonical_apart (view_bump (by decide) ..) (view_bump (by decide) ..) ht)
    exact canonical_apart (s := l.foldl (fun (t : State) (q : Fin 4) => t.katLooms q) (t.bump 0x213003 l.length)) rfl rfl hlooms
  refine ⟨_, rfl, canonical_ite ?_ hs⟩
  refine canonical_ite (canonical_applyIfWaiting _ (canonical_katFailed _ ?_)) (canonical_ite (hseal _ (canonical_applyIfWaiting _ (hend _ _ ?_))) (hagain _ _ _ _ ?_))
  all_goals exact hmap _ _ (hengines _ _ (hlooms _))

theorem exec_sensorPoll_canonical (tj : List Int) (s : State) (hs : Canonical (view ar s)) :
    ∃ t, exec (.sensorPoll tj) s = .next t ∧ Canonical (view ar t) := by
  have hraise (t : State) (a b c d e : Nat) (ht : Canonical (view ar t)) : Canonical (view ar (t.raiseDevice a b c d e)) :=
    canonical_apart (view_raiseDevice (by decide) ..) (view_raiseDevice (by decide) ..) ht
  have hends (t : State) (ht : Canonical (view ar t)) : Canonical (view ar (({ t with bistGroup := none } : State).endStep 5 4)) :=
    canonical_apart (s := t) ((view_endStep (by decide) ..).trans rfl) ((view_endStep (by decide) ..).trans rfl) ht
  have hseen (x : BitVec 16) (v : Nat) : Canonical (view ar (({ s with tjSecond := x } : State).setObj 0x701004 v)) :=
    canonical_apart (s := s) rfl rfl hs
  have hwarm (t : State) (ht : Canonical (view ar t)) : Canonical (view ar { t with warmNow := true }) := canonical_apart (s := t) rfl rfl ht
  have hwarn (t : State) (ht : Canonical (view ar t)) : Canonical (view ar { t with warned := true, warmNow := true }) :=
    canonical_apart (s := t) rfl rfl ht
  have hhot (t : State) (ht : Canonical (view ar t)) : Canonical (view ar { t with hotNow := true }) := canonical_apart (s := t) rfl rfl ht
  have hwarned (t : State) (c : Prop) [Decidable c] (a b d e f : Nat) (ht : Canonical (view ar t)) : Canonical (view ar
      (if c then if t.warned then { t with warmNow := true } else ({ t with warned := true, warmNow := true } : State).raiseDevice a b d e f
       else t)) :=
    canonical_ite (canonical_ite (hwarm _ ht) (hraise _ _ _ _ _ _ (hwarn _ ht))) ht
  have hheat (t : State) (c : Prop) [Decidable c] (ht : Canonical (view ar t)) : Canonical (view ar (if c then { t with hotNow := true } else t)) :=
    canonical_ite (hhot _ ht) ht
  refine ⟨_, rfl, canonical_ite (canonical_ite (hends _ ?_) ?_) hs⟩
  all_goals exact hheat _ _ (hwarned _ _ _ _ _ _ _ (hseen _ _))

theorem exec_thermalTrip_canonical (u : TripUnit) (s : State) (hs : Canonical (view ar s)) :
    ∃ t, exec (.thermalTrip u) s = .next t ∧ Canonical (view ar t) := by
  have hstopped (t : State) (ht : Canonical (view ar t)) : Canonical (view ar (((List.range 6).foldl State.portHeld t.resetAll.stopRunningSteps).applyIfWaiting)) := by
    refine canonical_applyIfWaiting _ (canonical_foldl (fun t k ht => ?_) _ _ ?_)
    · exact canonical_apart (view_portHeld (by decide) ..) (view_portHeld (by decide) ..) ht
    · exact canonical_apart (view_stopRunningSteps (by decide) _) (view_stopRunningSteps (by decide) _) (canonical_resetAll _ ht)
  have hobjs (a b : Nat) : Canonical (view ar ((s.setObj 0x20000C a).setObj 0x20000D b)) :=
    canonical_apart (by simp [view_setObj]) (by simp [view_setObj]) hs
  have htripped (t : State) (ht : Canonical (view ar t)) : Canonical (view ar { t with
      trip := true, pllsOn := false, bistGroup := none, hbmLeft := [], katQuads := [], katRound := 0, hbm := [], hbmPoison := [], scans := [] }) :=
    canonical_cases (s := t) (fun _ => rfl) id ht
  refine ⟨_, rfl, canonical_ite (htripped _ (hstopped _ ?_)) hs⟩
  split <;> exact hobjs ..

theorem exec_wait_canonical (l : LoomId) (hit : Option LoomHit) (s : State) (hs : Canonical (view ar s)) :
    ∃ t, exec (.wait l hit) s = .next t ∧ Canonical (view ar t) := by
  refine ⟨_, rfl, canonical_descriptor s l _ hit _ (fun t d ht => ?_) hs⟩
  exact canonical_ite (canonical_reject _ _ _ ht) (canonical_controlKept _ _ _ _ ht rfl)

theorem exec_waitCycle_canonical (l : LoomId) (hit : Option LoomHit) (s : State) (hs : Canonical (view ar s)) :
    ∃ t, exec (.waitCycle l hit) s = .next t ∧ Canonical (view ar t) := by
  refine ⟨_, rfl, canonical_descriptor s l _ hit _ (fun t d ht => ?_) hs⟩
  exact canonical_ite (canonical_controlKept _ _ _ _ ht rfl) (canonical_ite (canonical_controlKept _ _ _ _ ht rfl) (canonical_controlKept _ _ _ _ ht rfl))

theorem exec_waitCycleExpiry_canonical (l : LoomId) (s : State) (hs : Canonical (view ar s)) :
    ∃ t, exec (.waitCycleExpiry l) s = .next t ∧ Canonical (view ar t) := by
  refine ⟨_, rfl, ?_⟩
  split
  · refine canonical_ite (canonical_keepLoom _ _ _ ?_ rfl) hs
    exact canonical_apart (view_passCycles (by decide) ..) (view_passCycles (by decide) ..) hs
  · exact hs

theorem exec_loop_canonical (l : LoomId) (hit : Option LoomHit) (s : State) (hs : Canonical (view ar s)) :
    ∃ t, exec (.loop l hit) s = .next t ∧ Canonical (view ar t) := by
  refine ⟨_, rfl, canonical_descriptor s l _ hit _ (fun t d ht => ?_) hs⟩
  exact canonical_ite (canonical_reject _ _ _ ht) (canonical_ite (canonical_reject _ _ _ ht) (canonical_controlKept _ _ _ _ ht rfl))

theorem exec_loopEnd_canonical (l : LoomId) (hit : Option LoomHit) (s : State) (hs : Canonical (view ar s)) :
    ∃ t, exec (.loopEnd l hit) s = .next t ∧ Canonical (view ar t) := by
  refine ⟨_, rfl, canonical_descriptor s l _ hit _ (fun t d ht => ?_) hs⟩
  dsimp only
  split
  · exact canonical_reject _ _ _ ht
  · exact canonical_ite (canonical_controlKept _ _ _ _ ht rfl) (canonical_controlKept _ _ _ _ ht rfl)

theorem exec_endProgram_canonical (l : LoomId) (hit : Option LoomHit) (s : State) (hs : Canonical (view ar s)) :
    ∃ t, exec (.endProgram l hit) s = .next t ∧ Canonical (view ar t) := by
  refine ⟨_, rfl, canonical_descriptor s l _ hit _ (fun t d ht => ?_) hs⟩
  exact canonical_ite (canonical_reject _ _ _ ht) (canonical_controlKept _ _ _ _ ht rfl)

theorem exec_matmul_canonical (l : LoomId) (hit : Option LoomHit) (s : State) (hs : Canonical (view ar s)) :
    ∃ t, exec (.matmul l hit) s = .next t ∧ Canonical (view ar t) := by
  refine ⟨_, rfl, canonical_descriptor s l _ hit _ (fun t d ht => ?_) hs⟩
  refine canonical_ite ht ?_
  split
  · exact canonical_reject _ _ _ ht
  · exact canonical_toUnit _ _ _ _ _ _ _ _ (canonical_keepLoom _ _ _ ht (mem_noteMatmul ..))

theorem exec_chain_canonical (l : LoomId) (hit : Option LoomHit) (s : State) (hs : Canonical (view ar s)) :
    ∃ t, exec (.chain l hit) s = .next t ∧ Canonical (view ar t) := by
  refine ⟨_, rfl, canonical_descriptor s l _ hit _ (fun t d ht => ?_) hs⟩
  refine canonical_ite ht ?_
  split
  · exact canonical_reject _ _ _ ht
  · exact canonical_toUnit _ _ _ _ _ _ _ _ ht

theorem exec_cmplt_canonical (l : LoomId) (hit : Option LoomHit) (s : State) (hs : Canonical (view ar s)) :
    ∃ t, exec (.cmplt l hit) s = .next t ∧ Canonical (view ar t) := by
  exact ⟨_, rfl, canonical_vectorOp s l _ hit _ (fun x d o t ht => canonical_vecMask _ _ _ _ _ ht) hs⟩

theorem exec_cmpeq_canonical (l : LoomId) (hit : Option LoomHit) (s : State) (hs : Canonical (view ar s)) :
    ∃ t, exec (.cmpeq l hit) s = .next t ∧ Canonical (view ar t) := by
  exact ⟨_, rfl, canonical_vectorOp s l _ hit _ (fun x d o t ht => canonical_vecMask _ _ _ _ _ ht) hs⟩

theorem exec_wsum_canonical (l : LoomId) (hit : Option LoomHit) (s : State) (hs : Canonical (view ar s)) :
    ∃ t, exec (.wsum l hit) s = .next t ∧ Canonical (view ar t) := by
  exact ⟨_, rfl, canonical_vectorOp s l _ hit _ (fun x d o t ht => canonical_vecWide _ _ _ _ _ ht) hs⟩

theorem exec_wadd_canonical (l : LoomId) (hit : Option LoomHit) (s : State) (hs : Canonical (view ar s)) :
    ∃ t, exec (.wadd l hit) s = .next t ∧ Canonical (view ar t) := by
  exact ⟨_, rfl, canonical_vectorOp s l _ hit _ (fun x d o t ht => canonical_vecWide _ _ _ _ _ ht) hs⟩

theorem exec_toT32_canonical (l : LoomId) (hit : Option LoomHit) (s : State) (hs : Canonical (view ar s)) :
    ∃ t, exec (.toT32 l hit) s = .next t ∧ Canonical (view ar t) := by
  exact ⟨_, rfl, canonical_vectorOp s l _ hit _ (fun x d o t ht => canonical_vecT32 _ _ _ _ ht) hs⟩

theorem exec_toVote_canonical (l : LoomId) (hit : Option LoomHit) (s : State) (hs : Canonical (view ar s)) :
    ∃ t, exec (.toVote l hit) s = .next t ∧ Canonical (view ar t) := by
  exact ⟨_, rfl, canonical_vectorOp s l _ hit _ (fun x d o t ht => canonical_vecVote _ _ _ _ ht) hs⟩

theorem exec_stationaryPreload_canonical (l : LoomId) (hit : Option LoomHit) (s : State) (hs : Canonical (view ar s)) :
    ∃ t, exec (.stationaryPreload l hit) s = .next t ∧ Canonical (view ar t) := by
  refine ⟨_, rfl, canonical_ite ?_ hs⟩
  split
  · exact hs
  · exact canonical_keepLoom _ _ _ (canonical_found _ _ _ _ _ hs) rfl

theorem exec_tilePassIssue_canonical (l : LoomId) (hit : Option LoomHit) (s : State) (hs : Canonical (view ar s)) :
    ∃ t, exec (.tilePassIssue l hit) s = .next t ∧ Canonical (view ar t) := by
  refine ⟨_, rfl, canonical_ite ?_ hs⟩
  dsimp only
  split
  · exact hs
  next e _ =>
    have hfound := canonical_found s l (dTag e.desc) (passReads e) hit hs
    refine canonical_ite hs (canonical_ite (canonical_fp32Product _ _ _ hfound) (canonical_ite ?_ (canonical_arrayPass _ _ _ hfound)))
    exact canonical_loomPoison _ _ _ _ (canonical_arrayPass _ _ _ hfound)

theorem exec_shadowDrainComplete_canonical (l : LoomId) (hit : Option LoomHit) (s : State) (hs : Canonical (view ar s)) :
    ∃ t, exec (.shadowDrainComplete l hit) s = .next t ∧ Canonical (view ar t) := by
  refine ⟨_, rfl, canonical_ite (canonical_ite hs ?_) hs⟩
  have hfound := canonical_found s l (dTag (s.loom l).shadow.desc) (s.loom l).drainReads hit hs
  refine canonical_ite (canonical_loomPoison _ _ _ _ ?_) ?_
  all_goals
    split
    · exact canonical_drainChain _ _ _ (canonical_chainShort _ _ _ hfound)
    · exact canonical_drainLocal _ _ hfound

theorem exec_assayVerdict_canonical (l : LoomId) (upset : Option Upset) (s : State) (hs : Canonical (view ar s)) :
    ∃ t, exec (.assayVerdict l upset) s = .next t ∧ Canonical (view ar t) := by
  have htable : Canonical (view ar (s.tableWord l upset)) := canonical_apart (view_tableWord (by decide) ..) (view_tableWord (by decide) ..) hs
  have hlane (t : State) (e : Nat × Nat × Nat) (ht : Canonical (view ar t)) : Canonical (view ar (t.laneFails l e)) :=
    canonical_apart (view_laneFails (by decide) ..) (view_laneFails (by decide) ..) ht
  have hverdict (t : State) (v : OwedVerdict) (u : Option Upset) (ht : Canonical (view ar t)) : Canonical (view ar (t.verdictFails l v u)) :=
    canonical_apart (view_verdictFails (by decide) ..) (view_verdictFails (by decide) ..) ht
  have hgiven (t : State) (v : List OwedVerdict) (ht : Canonical (view ar t)) :
      Canonical (view ar ((t.setLoom l { t.loom l with verdicts := v }).bump 0x702003 1)) :=
    canonical_apart (view_bump (by decide) ..) (view_bump (by decide) ..) (canonical_keepLoom _ _ _ ht rfl)
  refine ⟨_, rfl, canonical_ite hs ?_⟩
  dsimp only
  split
  · split
    · exact canonical_ite (canonical_chargeVerdict _ _ (hlane _ _ htable)) htable
    · exact htable
  · refine canonical_ite (canonical_chargeVerdict _ _ ?_) (hgiven _ _ htable)
    split
    · exact hlane _ _ (hgiven _ _ htable)
    · exact hverdict _ _ _ (hgiven _ _ htable)

theorem exec_chainWordArrival_canonical (l : LoomId) (idx : Fin 1024) (w : FWord) (hit : Option LoomHit) (s : State) (hs : Canonical (view ar s)) :
    ∃ t, exec (.chainWordArrival l idx w hit) s = .next t ∧ Canonical (view ar t) := by
  refine ⟨_, rfl, ?_⟩
  dsimp only
  split
  · exact hs
  · refine canonical_ite hs ?_
    split
    · exact canonical_chainMiss _ _ _ (canonical_keepLoom _ _ _ hs rfl)
    · refine canonical_ite (canonical_chainMiss _ _ _ (canonical_keepLoom _ _ _ hs rfl)) ?_
      exact canonical_hop _ _ _ _ _ (canonical_promoteSums _ _ (canonical_found _ _ _ _ _ (canonical_keepLoom _ _ _ hs rfl)))

theorem exec_descriptorComplete_canonical (l : LoomId) (u : UnitKind) (k : Fin 16) (s : State) (hs : Canonical (view ar s)) :
    ∃ t, exec (.descriptorComplete l u k) s = .next t ∧ Canonical (view ar t) := by
  have htrace (t : State) (x : Loom) (a b c : Nat) (d : Word512) (ht : Canonical (view ar t)) (hx : x.mem = (t.loom l).mem) :
      Canonical (view ar ((t.setLoom l x).loomTrace l a b c d)) := canonical_loomTrace _ _ _ _ _ _ (canonical_keepLoom _ _ _ ht hx)
  have hpad (t : State) (a : Nat) (b : Option (Nat × Nat)) (c : Nat) (ht : Canonical (view ar t)) : Canonical (view ar (t.pad a b c)) :=
    canonical_apart (view_pad (by decide) ..) (view_pad (by decide) ..) ht
  refine ⟨_, rfl, canonical_ite ?_ hs⟩
  split
  · exact hs
  next e _ =>
    have hkept (t : State) (c : Prop) [Decidable c] (b : List (BitVec 16)) :
        ((if c then { (t.loom l).setQueue u (((t.loom l).queue u).erase e) with stores := b }
          else (t.loom l).setQueue u (((t.loom l).queue u).erase e)).released e.nth).mem = (t.loom l).mem := by
      rw [mem_released]
      split <;> exact mem_setQueue ..
    have hmoved := canonical_ite (c := (decide (u = .dma) && decide (e.phase = 0)) = true) (canonical_transfer s l (dField e.desc 35 32) e.desc hs) hs
    refine canonical_ite hs (canonical_ite (hpad _ _ _ _ (htrace _ _ _ _ _ _ hmoved ?_)) (htrace _ _ _ _ _ _ hmoved ?_))
    all_goals exact hkept _ _ _

theorem exec_commitWaitEnd_canonical (l : LoomId) (s : State) (hs : Canonical (view ar s)) :
    ∃ t, exec (.commitWaitEnd l) s = .next t ∧ Canonical (view ar t) := by
  refine ⟨_, rfl, canonical_ite ?_ hs⟩
  split
  · exact hs
  · exact canonical_keepLoom _ _ _ (canonical_ite (canonical_transfer _ _ _ _ hs) hs) rfl

theorem exec_slotForward_canonical (q : Fin 4) (r : Fin 20) (c : Fin 25) (ecc : Ecc) (noise : Word512) (s : State) (hs : Canonical (view ar s)) :
    ∃ t, exec (.slotForward q r c ecc noise) s = .next t ∧ Canonical (view ar t) := by
  have hout (good : List RWord) (t : Nat) (l : LoomId) (n : List Nat) (x : State × List (Nat × FWord × BitVec 10))
      (hx : Canonical (view ar x.1)) : Canonical (view ar (n.foldl (fun x o => x.1.slotOut l good t noise x.2 o) x).1) := by
    induction n generalizing x with
    | nil => exact hx
    | cons o n ih => exact ih _ (canonical_slotOut _ _ _ _ _ _ _ hx)
  have htable (t : State) (l : LoomId) (ht : Canonical (view ar t)) : Canonical (view ar (t.tableEcc l ecc)) :=
    canonical_apart (view_tableEcc (by decide) ..) (view_tableEcc (by decide) ..) ht
  have htaken (l : LoomId) (x : Quad) : Canonical (view ar ((s.promoteSums l).setQuad q x)) :=
    canonical_apart (s := s.promoteSums l) rfl rfl (canonical_promoteSums s l hs)
  have hdrops (l : LoomId) (t : Nat) (ws : List RWord) (u : State) (hu : Canonical (view ar u)) :
      Canonical (view ar (ws.foldl (fun (x : State) w => x.crcDrop l t w) u)) := canonical_foldl (fun t w ht => canonical_crcDrop _ _ _ _ ht) ws u hu
  have hlost (l : LoomId) (t : Nat) (good ws : List RWord) (u : State) (hu : Canonical (view ar u)) :
      Canonical (view ar (ws.foldl (fun (x : State) w => x.collide l good t w) u)) :=
    canonical_foldl (fun t w ht => canonical_collide _ _ _ _ _ ht) ws u hu
  refine ⟨_, rfl, canonical_ite (canonical_ite ?_ (hout _ _ _ _ _ ?_)) hs⟩
  all_goals exact htable _ _ (hlost _ _ _ _ _ (hdrops _ _ _ _ (htaken _ _)))

theorem exec_observationForward_canonical (q : Fin 4) (r : Fin 20) (c : Fin 25) (noise : Word512) (s : State) (hs : Canonical (view ar s)) :
    ∃ t, exec (.observationForward q r c noise) s = .next t ∧ Canonical (view ar t) := by
  have htaken (x : Quad) : Canonical (view ar (s.setQuad q x)) := canonical_apart (s := s) rfl rfl hs
  refine ⟨_, rfl, canonical_ite ?_ hs⟩
  dsimp only
  split
  · refine canonical_ite (canonical_observationLeaves _ _ _ _ _ (htaken _)) ?_
    exact canonical_apart (view_observationLost (by decide) ..) (view_observationLost (by decide) ..) (htaken _)
  · split
    next w x hx => exact canonical_observationLeaves _ _ _ _ _ (canonical_keepLoom _ _ _ hs (mem_observation hx))
    · exact hs

theorem exec_bridgeArrival_canonical (n : Fin 16) (w : FWord) (s : State) (hs : Canonical (view ar s)) :
    ∃ t, exec (.bridgeArrival n w) s = .next t ∧ Canonical (view ar t) := by
  have htaken (x : SMap (List FWord)) : Canonical (view ar { s with bridgeAir := x }) := canonical_apart (s := s) rfl rfl hs
  have hpassed (t : State) (i m : Nat) (ht : Canonical (view ar t)) : Canonical (view ar (t.passQueue i m)) :=
    canonical_apart (view_passQueue (by decide) ..) (view_passQueue (by decide) ..) ht
  have hbump (t : State) (r m : Nat) (ht : Canonical (view ar t)) : Canonical (view ar (t.bump r m)) :=
    canonical_apart (view_bump (by decide) ..) (view_bump (by decide) ..) ht
  have hraise (t : State) (a b c d e f g : Nat) (ht : Canonical (view ar t)) : Canonical (view ar (t.raiseQuad a b c d e f g)) :=
    canonical_apart (view_raiseQuad (by decide) ..) (view_raiseQuad (by decide) ..) ht
  have hbuffer (t : State) (x : SMap (List FWord)) (ht : Canonical (view ar t)) : Canonical (view ar { t with bridgeBufs := x }) :=
    canonical_apart (s := t) rfl rfl ht
  refine ⟨_, rfl, canonical_ifRuns hs ?_⟩
  dsimp only
  split
  · exact hs
  · refine canonical_ite (canonical_missFrom _ _ _ _ (canonical_pushItem _ _ _ (htaken _))) (canonical_ite ?_ (canonical_ite ?_ ?_))
    · exact hraise _ _ _ _ _ _ _ _ (canonical_missFrom _ _ _ _ (hbump _ _ _ (hpassed _ _ _ (htaken _))))
    · exact canonical_slip _ _ _ _ _ _ (canonical_missFrom _ _ _ _ (hpassed _ _ _ (htaken _)))
    · exact hbuffer _ _ (hpassed _ _ _ (htaken _))

theorem exec_bridgeRelease_canonical (n : Fin 16) (s : State) (hs : Canonical (view ar s)) :
    ∃ t, exec (.bridgeRelease n) s = .next t ∧ Canonical (view ar t) := by
  have hbuffers (x : SMap (List FWord)) : Canonical (view ar { s with bridgeBufs := x }) := canonical_apart (s := s) rfl rfl hs
  refine ⟨_, rfl, canonical_ite hs (canonical_foldl (fun t w ht => ?_) _ _ (hbuffers _))⟩
  exact canonical_apart (view_putWord (by decide) ..) (view_putWord (by decide) ..) ht

theorem exec_creditReturn_canonical (loop : BitVec 32) (freed : BitVec 32) (s : State) (hs : Canonical (view ar s)) :
    ∃ t, exec (.creditReturn loop freed) s = .next t ∧ Canonical (view ar t) := by
  have hloop (x : CLoop) : Canonical (view ar (s.setCloop loop.toNat x)) := canonical_apart (s := s) rfl rfl hs
  have hstack (t : State) (k : Nat) (x : Stack) (ht : Canonical (view ar t)) : Canonical (view ar (t.setStack k x)) :=
    canonical_apart (s := t) rfl rfl ht
  refine ⟨_, rfl, canonical_ifRuns hs (canonical_ite (canonical_ite (hloop _) hs) (canonical_ite (canonical_ite ?_ (canonical_ite ?_ (canonical_ite ?_ ?_))) hs))⟩
  · exact canonical_apart (view_pfcCheck (by decide) ..) (view_pfcCheck (by decide) ..) (hloop _)
  · exact canonical_serveAsking _ _ (hstack _ _ _ (hloop _))
  · exact canonical_serveAsking _ _ (hloop _)
  · exact hloop _

theorem exec_flush_canonical (q : BitVec 16) (s : State) (hs : Canonical (view ar s)) :
    ∃ t, exec (.flush q) s = .next t ∧ Canonical (view ar t) := by
  have hflushed (x : Dcq) (m : Nat) : Canonical (view ar ((s.setDcq q.toNat x).bump 0x804006 m)) := canonical_apart (s := s) rfl rfl hs
  refine ⟨_, rfl, canonical_ifRuns hs (canonical_ite hs (canonical_ite (hflushed _ _) (canonical_reportLoss _ _ ?_)))⟩
  exact canonical_apart (view_loopLost (by decide) ..) (view_loopLost (by decide) ..) (hflushed _ _)

theorem exec_refresh_canonical (k : Fin 20) (s : State) (hs : Canonical (view ar s)) :
    ∃ t, exec (.refresh k) s = .next t ∧ Canonical (view ar t) := by
  have hdue (x : Stack) : Canonical (view ar (s.setStack k x)) := canonical_apart (s := s) rfl rfl hs
  exact ⟨_, rfl, canonical_ifRuns hs (canonical_ite (canonical_serveReady _ _ (hdue _)) (hdue _))⟩

theorem exec_segmentReceive_canonical (l : LoomId) (header : Word512) (payload : Bytes) (s : State) (hs : Canonical (view ar s)) :
    ∃ t, exec (.segmentReceive l header payload) s = .next t ∧ Canonical (view ar t) := by
  refine ⟨_, rfl, canonical_ite hs (canonical_viaBridge (fun t ht => canonical_ite ht ?_) (fun t ht => ht) s l 1 65 hs)⟩
  have htaken := canonical_of_looms (view_setLoom (by decide) ..) (fun h => canonical_setLoom t l _ h
    (wf_takeSegment header (fitBytes 4096 payload) t.ns (wf_loom h l))) ht
  exact canonical_ite (canonical_askSegments _ _ _ htaken) htaken

theorem exec_segmentTimeout_canonical (l : LoomId) (s : State) (hs : Canonical (view ar s)) :
    ∃ t, exec (.segmentTimeout l) s = .next t ∧ Canonical (view ar t) := by
  have hlater (n : Nat) : Canonical (view ar (s.atLeast n)) := canonical_apart (view_atLeast (by decide) ..) (view_atLeast (by decide) ..) hs
  have hset (n : Nat) (x : Loom) (hx : x.mem = ((s.atLeast n).loom l).mem) : Canonical (view ar ((s.atLeast n).setLoom l x)) :=
    canonical_keepLoom _ l x (hlater n) hx
  have hloom (n : Nat) : (s.atLeast n).loom l = s.loom l := loom_of_view (view_atLeast (by decide) ..) l
  have hasked (n : Nat) (c : Prop) [Decidable c] (x : Loom) (hx : x.mem = (s.loom l).mem) :
      Canonical (view ar (if c then ((s.atLeast n).setLoom l x).askSegments l false else (s.atLeast n).setLoom l x)) :=
    canonical_ite (canonical_askSegments _ _ _ (hset n x (hloom n ▸ hx))) (hset n x (hloom n ▸ hx))
  exact ⟨_, rfl, canonical_ite (canonical_ite (canonical_askSegments _ _ _ (hasked _ _ _ rfl)) (hasked _ _ _ rfl)) hs⟩

theorem exec_segmentRequest_canonical (l : LoomId) (perLoom : Bool) (missing : List (BitVec 12)) (s : State) (hs : Canonical (view ar s)) :
    ∃ t, exec (.segmentRequest l perLoom missing) s = .next t ∧ Canonical (view ar t) := by
  have hmod (t : State) (f : Arming → Arming) (ht : Canonical (view ar t)) : Canonical (view ar (t.modArming (s.loomPart l) f)) :=
    canonical_apart (view_modArming (by decide) ..) (view_modArming (by decide) ..) ht
  refine ⟨_, rfl, canonical_ite hs (canonical_viaBridge (fun t ht => ?_) (fun t ht => ht) s l 0 1 hs)⟩
  refine canonical_ite (hmod _ _ (hmod _ _ ht)) (canonical_ite ?_ (canonical_foldl (fun u n hu => ?_) _ _ (hmod _ _ (hmod _ _ ht))))
  · exact canonical_apart (view_armFails (by decide) ..) (view_armFails (by decide) ..) (hmod _ _ ht)
  · exact canonical_apart (view_emit (by decide) ..) (view_emit (by decide) ..) hu

theorem exec_digestReport_canonical (l : LoomId) (hit : Option LoomHit) (s : State) (hs : Canonical (view ar s)) :
    ∃ t, exec (.digestReport l hit) s = .next t ∧ Canonical (view ar t) := by
  have hfails (t : State) (n : Nat) (ht : Canonical (view ar t)) : Canonical (view ar (t.armFails (s.loomPart l) 0x0B n)) :=
    canonical_apart (view_armFails (by decide) ..) (view_armFails (by decide) ..) ht
  have hagain (t : State) (f : Arming → Arming) (o : List Out) (ht : Canonical (view ar t)) :
      Canonical (view ar ((t.modArming (s.loomPart l) f).emits o)) :=
    canonical_apart (by simp [view_emits, view_modArming]) (by simp [view_emits, view_modArming]) ht
  refine ⟨_, rfl, canonical_ite hs (canonical_viaBridge (fun t ht => ?_) (fun t ht => ht) s l 0 1 hs)⟩
  have hfound := canonical_found t l 0 (t.digestReads l) hit ht
  refine canonical_ite (canonical_ite (canonical_armFingerprints _ _ ?_) ?_) (canonical_ite (hagain _ _ _ ?_) (hfails _ _ hfound))
  all_goals exact canonical_keepLoom _ _ _ hfound rfl

theorem exec_fieldTestStart_canonical (u : BitVec 16) (s : State) (hs : Canonical (view ar s)) :
    ∃ t, exec (.fieldTestStart u) s = .next t ∧ Canonical (view ar t) := by
  have htests (x : List FTest) : Canonical (view ar { s with tests := x }) := canonical_apart (s := s) rfl rfl hs
  have hfresh (t : State) (n : Nat) (ht : Canonical (view ar t)) : Canonical (view ar { t with fresh := n }) := canonical_apart (s := t) rfl rfl ht
  refine ⟨_, rfl, ?_⟩
  split
  · exact hs
  · exact canonical_ite (hfresh _ _ (canonical_setLoom _ _ _ (htests _) (wf_tested _ _))) (htests _)

theorem exec_fieldTestComplete_canonical (u : BitVec 16) (failed : Bool) (part : BitVec 8) (s : State) (hs : Canonical (view ar s)) :
    ∃ t, exec (.fieldTestComplete u failed part) s = .next t ∧ Canonical (view ar t) := by
  have htests (x : List FTest) : Canonical (view ar { s with tests := x }) := canonical_apart (s := s) rfl rfl hs
  have hcounted (t : State) (a b c d e f g h i j : Nat) (ht : Canonical (view ar t)) : Canonical (view ar
      (((((t.bump 0x703003 1).bump 0x703004 a).setObj 0x703005 b).setObj 0x703006 c).raisePart d e f g h i j)) :=
    canonical_apart (by simp [view_raisePart, view_setObj, view_bump]) (by simp [view_raisePart, view_setObj, view_bump]) ht
  have hmod (t : State) (p : Nat) (f : Part → Part) (ht : Canonical (view ar t)) : Canonical (view ar (t.modPart p f)) :=
    canonical_apart (s := t) rfl rfl ht
  have hpause (t : State) (c : Bool) (p : Nat) (ht : Canonical (view ar t)) : Canonical (view ar (if c then t.endPause p else t)) :=
    canonical_ite (canonical_apart (view_endPause (by decide) ..) (view_endPause (by decide) ..) ht) ht
  refine ⟨_, rfl, ?_⟩
  split
  · exact hs
  · refine canonical_ite (canonical_restoreLoom _ _ _ ?_) ?_
    all_goals exact hpause _ _ _ (hmod _ _ _ (hcounted _ _ _ _ _ _ _ _ _ _ _ (htests _)))

theorem exec_fieldTestOverdue_canonical (u : BitVec 16) (s : State) (hs : Canonical (view ar s)) :
    ∃ t, exec (.fieldTestOverdue u) s = .next t ∧ Canonical (view ar t) := by
  have hlater (n : Nat) (x : List FTest) : Canonical (view ar { s.atLeast n with tests := x }) :=
    canonical_apart (s := s.atLeast n) rfl rfl (canonical_apart (view_atLeast (by decide) ..) (view_atLeast (by decide) ..) hs)
  refine ⟨_, rfl, ?_⟩
  split
  · exact hs
  · exact canonical_apart (view_raisePart (by decide) ..) (view_raisePart (by decide) ..) (hlater _ _)

theorem exec_signatureComplete_canonical (programmed : List Bool) (s : State) (hs : Canonical (view ar s)) :
    ∃ t, exec (.signatureComplete programmed) s = .next t ∧ Canonical (view ar t) := by
  have hqueue (x : Security) : Canonical (view ar { s with sec := x }) := canonical_apart (s := s) rfl rfl hs
  refine ⟨_, rfl, canonical_ifRuns hs ?_⟩
  split
  · exact hs
  next r b rest _ =>
    refine canonical_ite (canonical_refuseSignature _ _ (hqueue _)) ?_
    have hleaf : Canonical (view ar (({ s with sec := { s.sec with queue := rest } } : State).takeLeaf programmed).1) :=
      canonical_apart (view_takeLeaf (by decide) ..) (view_takeLeaf (by decide) ..) (hqueue _)
    split
    next u i he =>
      rw [he] at hleaf
      exact canonical_apart (view_lowLeaves (by decide) _) (view_lowLeaves (by decide) _) (canonical_deliver _ _ _ _ hleaf)
    next u he =>
      rw [he] at hleaf
      refine canonical_refuseSignature _ _ (canonical_apart (view_raiseDevice (by decide) ..) (view_raiseDevice (by decide) ..) ?_)
      exact canonical_apart (view_setObj (by decide) ..) (view_setObj (by decide) ..) hleaf

theorem exec_greetingPeriod_canonical (p : Fin 4) (s : State) (hs : Canonical (view ar s)) :
    ∃ t, exec (.greetingPeriod p) s = .next t ∧ Canonical (view ar t) := by
  refine ⟨_, rfl, canonical_ite (canonical_foldl (fun t r ht => canonical_foldl (fun u k hu => ?_) _ _ ht) _ _ hs) hs⟩
  exact canonical_apart (view_greet (by decide) ..) (view_greet (by decide) ..) hu

theorem exec_tallyAdd_canonical (p : Fin 4) (addersAgree : Bool) (s : State) (hs : Canonical (view ar s)) :
    ∃ t, exec (.tallyAdd p addersAgree) s = .next t ∧ Canonical (view ar t) := by
  have hfreed (i : TallyItem) (f : Part → Part) : Canonical (view ar ((s.modPart p f).tallyFreed p i)) :=
    canonical_apart (by simp [view_tallyFreed, view_modPart]) (by simp [view_tallyFreed, view_modPart]) hs
  have hraised (t : State) (a b c d e f g : Nat) (ht : Canonical (view ar t)) :
      Canonical (view ar ((t.bump 0x702005 1).raisePart a b c d e f g)) :=
    canonical_apart (by simp [view_raisePart, view_bump]) (by simp [view_raisePart, view_bump]) ht
  refine ⟨_, rfl, ?_⟩
  split
  · exact hs
  · refine canonical_ite hs (canonical_ite (canonical_tallyTake _ _ _ (hfreed _ _)) ?_)
    exact canonical_chargeFault _ _ _ (canonical_tallyTake _ _ _ (hraised _ _ _ _ _ _ _ _ (hfreed _ _)))

theorem exec_storeReport_canonical (l : LoomId) (tag : BitVec 16) (s : State) (hs : Canonical (view ar s)) :
    ∃ t, exec (.storeReport l tag) s = .next t ∧ Canonical (view ar t) := by
  have herased (t : State) (ht : Canonical (view ar t)) :
      Canonical (view ar (t.setLoom l { t.loom l with stores := (t.loom l).stores.erase tag })) := canonical_keepLoom _ _ _ ht rfl
  refine ⟨_, rfl, canonical_ite (canonical_viaBridge (fun t ht => ?_) herased s l 0 1 hs) hs⟩
  exact canonical_apart (view_modPart (by decide) ..) (view_modPart (by decide) ..) ht

theorem exec_eventClaim_canonical (stewards : List (Fin 4)) (s : State) (hs : Canonical (view ar s)) :
    ∃ t, exec (.eventClaim stewards) s = .next t ∧ Canonical (view ar t) := by
  refine ⟨_, rfl, canonical_ifPowered hs (canonical_foldl (fun t m ht => ?_) _ _ hs)⟩
  exact canonical_apart (view_claim (by decide) ..) (view_claim (by decide) ..) ht

theorem exec_edgeStop_canonical (p : Fin 4) (s : State) (hs : Canonical (view ar s)) :
    ∃ t, exec (.edgeStop p) s = .next t ∧ Canonical (view ar t) := by
  have hsmear (v : Nat) (x : SMap (List Nat)) : Canonical (view ar ({ s.setObj 0x805009 v with scans := x } : State)) :=
    canonical_apart (s := s) rfl rfl hs
  refine ⟨_, rfl, canonical_ite ?_ hs⟩
  refine canonical_apart (view_setEclipse (by decide) ..) (view_setEclipse (by decide) ..)
    (canonical_apart (view_modPart (by decide) ..) (view_modPart (by decide) ..) (canonical_foldl (fun t k ht => ?_) _ _ (hsmear _ _)))
  exact canonical_apart (view_enterSelfRefresh (by decide) ..) (view_enterSelfRefresh (by decide) ..) ht

theorem exec_eclipseScanComplete_canonical (p : Fin 4) (s : State) (hs : Canonical (view ar s)) :
    ∃ t, exec (.eclipseScanComplete p) s = .next t ∧ Canonical (view ar t) := by
  have hscanned (l : List Nat) : Canonical (view ar ((l.foldl State.scanQuad s).setEclipse p 3)) :=
    canonical_apart (view_setEclipse (by decide) ..) (view_setEclipse (by decide) ..)
      (canonical_foldl (fun t q ht => canonical_apart (view_scanQuad (by decide) ..) (view_scanQuad (by decide) ..) ht) l s hs)
  have hsnapped (t : State) (f : Part → Part) (ht : Canonical (view ar t)) :
      Canonical (view ar (if (t.part p).snapAfter then (t.hangSnapshot p 1).modPart p f else t)) :=
    canonical_ite (canonical_apart (by simp [view_modPart, view_hangSnapshot]) (by simp [view_modPart, view_hangSnapshot]) ht) ht
  refine ⟨_, rfl, canonical_ite (canonical_ite (canonical_resumePart _ _ ?_) ?_) hs⟩
  all_goals exact hsnapped _ _ (hscanned _)

theorem exec_powerLoss_canonical (torn : Option Torn) (s : State) (hs : Canonical (view ar s)) :
    ∃ t, exec (.powerLoss torn) s = .next t ∧ Canonical (view ar t) := by
  exact ⟨_, rfl, canonical_cases (s := s) (fun _ => rfl) (fun _ _ => rfl) hs⟩

/-! ### Every command -/

theorem canonical_exec (c : Instr) (s : State) (hs : Canonical (view ar s)) : ∃ t, exec c s = .next t ∧ Canonical (view ar t) := by
  cases c with
  | pwrokRise mgtId pufOk => exact canonical_pwrokRise mgtId pufOk s hs
  | pwrokFall => exact ⟨_, rfl, canonical_ite (canonical_heldInReset s hs) hs⟩
  | timeBaseLock =>
    refine ⟨_, rfl, ?_⟩
    refine canonical_cases (fun hs => ?_) (fun hs => ?_) hs <;> simp [canonical_ite, view_upd_timeLocked_ns, hs]
  | firmwareReady =>
    refine ⟨_, rfl, ?_⟩
    dsimp only
    refine canonical_cases (fun hs => ?_) (fun hs => ?_) hs <;> (repeat' split) <;> simp [view_endStep, view_raiseDevice,
      view_enterFailed, view_upd_fwUp_stepStart_flash, hs]
  | clockGo => exact ⟨_, rfl, canonical_writeTo (hs := hs) ..⟩
  | clockLockEnd =>
    refine ⟨_, rfl, ?_⟩
    refine canonical_cases (fun hs => ?_) (fun hs => ?_) hs <;> (repeat' split) <;> simp +contextual [view_endStep,
      view_foldl, view_raiseDevice, view_upd_phase_pllsOn_clockNs_quads, hs]
  | hbmGo => exact ⟨_, rfl, canonical_writeTo (hs := hs) ..⟩
  | hbmTrainingComplete =>
    refine ⟨_, rfl, ?_⟩
    dsimp only
    refine canonical_cases (fun hs => ?_) (fun hs => ?_) hs <;> (repeat' split) <;> simp [canonical_stackTrained,
      view_endStep, canonical_applyIfWaiting, hs]
  | bistGo => exact ⟨_, rfl, canonical_writeTo (hs := hs) ..⟩
  | bistGroupComplete fails bypass => exact exec_bistGroupComplete_canonical fails bypass s hs
  | repairGo => exact ⟨_, rfl, canonical_writeTo (hs := hs) ..⟩
  | katGo => exact ⟨_, rfl, canonical_writeTo (hs := hs) ..⟩
  | katRunComplete looms engines => exact exec_katRunComplete_canonical looms engines s hs
  | managementTick =>
    refine ⟨_, rfl, ?_⟩
    refine canonical_cases (fun hs => ?_) (fun hs => ?_) hs <;> (repeat' split) <;> simp +contextual [view_atLeast,
      view_bump, view_foldl, view_hubCorrected, view_secondEnds, view_bytesSecond, view_applyBuffered,
      view_sealTick, view_readyTick, view_publish, hs]
  | boundSecond =>
    refine ⟨_, rfl, ?_⟩
    refine canonical_cases (fun hs => ?_) (fun hs => ?_) hs <;> (repeat' split) <;> simp [view_showReadings, view_bump,
      view_setObj, view_raiseDevice, canonical_ite, view_upd_hotNow_wasOutside_warned_tjSecond_warmNow_drooped_assayGap,
      hs]
  | sensorPoll tj => exact exec_sensorPoll_canonical tj s hs
  | thermalTrip u => exact exec_thermalTrip_canonical u s hs
  | droopStretch =>
    refine ⟨_, rfl, ?_⟩
    refine canonical_cases (fun hs => ?_) (fun hs => ?_) hs <;> simp [view_setQuad, view_bump, canonical_ite,
      view_upd_hotNow_wasOutside_warned_tjSecond_warmNow_drooped_assayGap, hs]
  | boundaryMark =>
    refine ⟨_, rfl, ?_⟩
    refine canonical_cases (fun hs => ?_) (fun hs => ?_) hs <;> simp [view_passCycles, view_setQuad, canonical_ite, hs]
  | orbitBoundary =>
    refine ⟨_, rfl, ?_⟩
    dsimp only
    refine canonical_cases (fun hs => ?_) (fun hs => ?_) hs <;> (repeat' split) <;> simp [view_passCycles, view_setQuad,
      hs]
  | orbitHoldRelease =>
    refine ⟨_, rfl, ?_⟩
    dsimp only
    refine canonical_cases (fun hs => ?_) (fun hs => ?_) hs <;> (repeat' split) <;> simp [view_setQuad, view_bump,
      view_setObj, canonical_slip, hs]
  | apply => exact ⟨_, rfl, canonical_writeTo (hs := hs) ..⟩
  | layoutApplyComplete =>
    refine ⟨_, rfl, ?_⟩
    refine canonical_cases (fun hs => ?_) (fun hs => ?_) hs <;> simp [view_zeroFillEnds, view_setObj, canonical_ite, hs]
  | zeroFillComplete =>
    refine ⟨_, rfl, ?_⟩
    refine canonical_cases (fun hs => ?_) (fun hs => ?_) hs <;> simp [view_zeroFillEnds, canonical_ite, hs]
  | stepStart =>
    refine ⟨_, rfl, ?_⟩
    dsimp only
    refine canonical_cases (fun hs => ?_) (fun hs => ?_) hs <;> (repeat' split) <;> simp [view_haltJob,
      canonical_beginStep, hs]
  | scaleFill =>
    refine ⟨_, rfl, ?_⟩
    refine canonical_cases (fun hs => ?_) (fun hs => ?_) hs <;> (repeat' split) <;> simp [view_bump, view_setObj,
      view_setExState, view_modPart, view_openContributions, canonical_beginAttempt, hs]
  | wait l hit => exact exec_wait_canonical l hit s hs
  | waitCycle l hit => exact exec_waitCycle_canonical l hit s hs
  | waitCycleExpiry l => exact exec_waitCycleExpiry_canonical l s hs
  | loop l hit => exact exec_loop_canonical l hit s hs
  | loopEnd l hit => exact exec_loopEnd_canonical l hit s hs
  | endProgram l hit => exact exec_endProgram_canonical l hit s hs
  | matmul l hit => exact exec_matmul_canonical l hit s hs
  | chain l hit => exact exec_chain_canonical l hit s hs
  | dmaToLocal => exact ⟨_, rfl, canonical_dmaOp (hs := hs) ..⟩
  | dmaToHbm => exact ⟨_, rfl, canonical_dmaOp (hs := hs) ..⟩
  | dmaTransposed => exact ⟨_, rfl, canonical_dmaOp (hs := hs) ..⟩
  | add => exact ⟨_, rfl, canonical_vectorVals (hs := hs) ..⟩
  | sub => exact ⟨_, rfl, canonical_vectorVals (hs := hs) ..⟩
  | mul => exact ⟨_, rfl, canonical_vectorVals (hs := hs) ..⟩
  | fma => exact ⟨_, rfl, canonical_vectorVals (hs := hs) ..⟩
  | min => exact ⟨_, rfl, canonical_vectorVals (hs := hs) ..⟩
  | max => exact ⟨_, rfl, canonical_vectorVals (hs := hs) ..⟩
  | abs => exact ⟨_, rfl, canonical_vectorVals (hs := hs) ..⟩
  | neg => exact ⟨_, rfl, canonical_vectorVals (hs := hs) ..⟩
  | cmplt l hit => exact exec_cmplt_canonical l hit s hs
  | cmpeq l hit => exact exec_cmpeq_canonical l hit s hs
  | sel => exact ⟨_, rfl, canonical_vectorVals (hs := hs) ..⟩
  | cvt => exact ⟨_, rfl, canonical_vectorVals (hs := hs) ..⟩
  | exp2 => exact ⟨_, rfl, canonical_vectorVals (hs := hs) ..⟩
  | log2 => exact ⟨_, rfl, canonical_vectorVals (hs := hs) ..⟩
  | rcp => exact ⟨_, rfl, canonical_vectorVals (hs := hs) ..⟩
  | rsqrt => exact ⟨_, rfl, canonical_vectorVals (hs := hs) ..⟩
  | tanh => exact ⟨_, rfl, canonical_vectorVals (hs := hs) ..⟩
  | rsum => exact ⟨_, rfl, canonical_vectorVals (hs := hs) ..⟩
  | rmin => exact ⟨_, rfl, canonical_vectorVals (hs := hs) ..⟩
  | rmax => exact ⟨_, rfl, canonical_vectorVals (hs := hs) ..⟩
  | wsum l hit => exact exec_wsum_canonical l hit s hs
  | wadd l hit => exact exec_wadd_canonical l hit s hs
  | toT32 l hit => exact exec_toT32_canonical l hit s hs
  | toVote l hit => exact exec_toVote_canonical l hit s hs
  | stationaryPreload l hit => exact exec_stationaryPreload_canonical l hit s hs
  | tilePassIssue l hit => exact exec_tilePassIssue_canonical l hit s hs
  | shadowDrainComplete l hit => exact exec_shadowDrainComplete_canonical l hit s hs
  | assayVerdict l upset => exact exec_assayVerdict_canonical l upset s hs
  | chainWordArrival l idx w hit => exact exec_chainWordArrival_canonical l idx w hit s hs
  | descriptorComplete l u k => exact exec_descriptorComplete_canonical l u k s hs
  | commitWaitEnd l => exact exec_commitWaitEnd_canonical l s hs
  | slotForward q r c ecc noise => exact exec_slotForward_canonical q r c ecc noise s hs
  | creditedForward =>
    refine ⟨_, rfl, ?_⟩
    dsimp only
    refine canonical_cases (fun hs => ?_) (fun hs => ?_) hs <;> (repeat' split) <;> simp [view_setQuad, view_replayed,
      canonical_creditedLeaves, hs]
  | observationForward q r c noise => exact exec_observationForward_canonical q r c noise s hs
  | bridgeArrival n w => exact exec_bridgeArrival_canonical n w s hs
  | bridgeRelease n => exact exec_bridgeRelease_canonical n s hs
  | creditReturn loop freed => exact exec_creditReturn_canonical loop freed s hs
  | queuePush =>
    refine ⟨_, rfl, ?_⟩
    refine canonical_cases (fun hs => ?_) (fun hs => ?_) hs <;> (repeat' split) <;> simp [view_setDcq, canonical_pushItem,
      hs]
  | queuePop =>
    refine ⟨_, rfl, ?_⟩
    dsimp only
    refine canonical_cases (fun hs => ?_) (fun hs => ?_) hs <;> (repeat' split) <;> simp [view_emit, view_setDcq,
      view_itemEcc, view_loopMoved, canonical_consumeItem, view_releaseQueue, hs]
  | flush q => exact exec_flush_canonical q s hs
  | flushEnd =>
    refine ⟨_, rfl, ?_⟩
    refine canonical_cases (fun hs => ?_) (fun hs => ?_) hs <;> (repeat' split) <;> simp [canonical_ifRuns, view_setDcq,
      view_releaseQueue, hs]
  | hbmRead =>
    refine ⟨_, rfl, ?_⟩
    refine canonical_cases (fun hs => ?_) (fun hs => ?_) hs <;> (repeat' split) <;> simp [canonical_ifRuns,
      view_outOfReach, canonical_bufferError, canonical_request, hs]
  | hbmWrite =>
    refine ⟨_, rfl, ?_⟩
    refine canonical_cases (fun hs => ?_) (fun hs => ?_) hs <;> (repeat' split) <;> simp [canonical_ifRuns,
      view_outOfReach, canonical_request, hs]
  | writeBack =>
    refine ⟨_, rfl, ?_⟩
    refine canonical_cases (fun hs => ?_) (fun hs => ?_) hs <;> simp [view_setStack, view_serveRefresh, view_moved,
      canonical_ite, hs]
  | patrolScrub =>
    refine ⟨_, rfl, ?_⟩
    refine canonical_cases (fun hs => ?_) (fun hs => ?_) hs <;> (repeat' split) <;> simp [canonical_serveReady,
      view_checkWord, view_moved, view_bump, hs]
  | refresh k => exact exec_refresh_canonical k s hs
  | hbmTempPoll =>
    refine ⟨_, rfl, ?_⟩
    dsimp only
    refine canonical_cases (fun hs => ?_) (fun hs => ?_) hs <;> (repeat' split) <;> simp [canonical_ifRuns, view_setObj,
      view_bump, view_raiseTemp, hs]
  | hbmRequestTimeout =>
    refine ⟨_, rfl, ?_⟩
    refine canonical_cases (fun hs => ?_) (fun hs => ?_) hs <;> simp [canonical_uncontained, canonical_ite, hs]
  | phyLockLoss =>
    refine ⟨_, rfl, ?_⟩
    refine canonical_cases (fun hs => ?_) (fun hs => ?_) hs <;> simp [canonical_uncontained, canonical_ite, hs]
  | caParityError =>
    refine ⟨_, rfl, ?_⟩
    refine canonical_cases (fun hs => ?_) (fun hs => ?_) hs <;> simp [canonical_uncontained, canonical_ite, hs]
  | ephemerisMergeComplete =>
    refine ⟨_, rfl, ?_⟩
    refine canonical_cases (fun hs => ?_) (fun hs => ?_) hs <;> simp [canonical_mergeLoom, canonical_ite, hs]
  | rowFinal =>
    refine ⟨_, rfl, ?_⟩
    refine canonical_cases (fun hs => ?_) (fun hs => ?_) hs <;> simp [canonical_finaliseRow, canonical_ite, hs]
  | forwardCopy =>
    refine ⟨_, rfl, ?_⟩
    refine canonical_cases (fun hs => ?_) (fun hs => ?_) hs <;> simp [canonical_copyAll, view_modPart, canonical_ite, hs]
  | updateStart =>
    refine ⟨_, rfl, ?_⟩
    dsimp only
    refine canonical_cases (fun hs => ?_) (fun hs => ?_) hs <;> (repeat' split) <;> simp [view_cmdFinished,
      view_frozenWrite, view_traceCommand, canonical_runCommand, hs]
  | updateFinish =>
    refine ⟨_, rfl, ?_⟩
    dsimp only
    refine canonical_cases (fun hs => ?_) (fun hs => ?_) hs <;> (repeat' split) <;> simp +contextual [view_foldl, view_setObj, view_modPart, hs]
  | foldComplete =>
    refine ⟨_, rfl, ?_⟩
    refine canonical_cases (fun hs => ?_) (fun hs => ?_) hs <;> simp [canonical_foldStep, canonical_ite, hs]
  | auditComplete =>
    refine ⟨_, rfl, ?_⟩
    refine canonical_cases (fun hs => ?_) (fun hs => ?_) hs <;> (repeat' split) <;> simp +contextual [view_bump,
      view_setObj, canonical_foldl, canonical_violate, view_modPart, hs]
  | stepBoundary =>
    refine ⟨_, rfl, ?_⟩
    refine canonical_cases (fun hs => ?_) (fun hs => ?_) hs <;> simp [canonical_boundary, canonical_ite, hs]
  | segmentReceive l header payload => exact exec_segmentReceive_canonical l header payload s hs
  | endOfSpaceResend =>
    refine ⟨_, rfl, ?_⟩
    refine canonical_cases (fun hs => ?_) (fun hs => ?_) hs <;> simp [view_emit, view_modArming, canonical_ite, hs]
  | segmentTimeout l => exact exec_segmentTimeout_canonical l s hs
  | segmentRequest l perLoom missing => exact exec_segmentRequest_canonical l perLoom missing s hs
  | broadcastTimeout =>
    refine ⟨_, rfl, ?_⟩
    dsimp only
    refine canonical_cases (fun hs => ?_) (fun hs => ?_) hs <;> (repeat' split) <;> simp [view_atLeast, view_armFails, hs]
  | digestReport l hit => exact exec_digestReport_canonical l hit s hs
  | load => exact ⟨_, rfl, canonical_ctlArrives (fun t ht => canonical_apart (view_loadMessage (by decide) ..)
      (view_loadMessage (by decide) ..) ht) (h := hs) ..⟩
  | loadAmend => exact ⟨_, rfl, canonical_ctlArrives (fun t ht => canonical_apart (view_loadMessage (by decide) ..)
      (view_loadMessage (by decide) ..) ht) (h := hs) ..⟩
  | arm => exact ⟨_, rfl, canonical_ctlArrives (fun t ht => canonical_armMessage (hs := ht) ..) (h := hs) ..⟩
  | armComplete =>
    refine ⟨_, rfl, ?_⟩
    dsimp only
    refine canonical_cases (fun hs => ?_) (fun hs => ?_) hs <;> (repeat' split) <;> simp [view_setJobState, view_report,
      view_modArming, view_raisePart, hs]
  | start => exact ⟨_, rfl, canonical_ctlArrives (fun t ht => canonical_apart (view_startMessage (by decide) ..)
      (view_startMessage (by decide) ..) ht) (h := hs) ..⟩
  | stepLimit => exact ⟨_, rfl, canonical_ctlArrives (fun t ht => canonical_apart (view_stepLimitMessage (by decide) ..)
      (view_stepLimitMessage (by decide) ..) ht) (h := hs) ..⟩
  | checkpointTake => exact ⟨_, rfl, canonical_ctlArrives (fun t ht => canonical_checkpointMessage (hs := ht) ..) (h := hs)
      ..⟩
  | checkpointRelease => exact ⟨_, rfl, canonical_ctlArrives (fun t ht => canonical_checkpointMessage (hs := ht) ..) (h :=
      hs) ..⟩
  | halt => exact ⟨_, rfl, canonical_ctlArrives (fun t ht => canonical_haltMessage (hs := ht) ..) (h := hs) ..⟩
  | haltUnload => exact ⟨_, rfl, canonical_ctlArrives (fun t ht => canonical_haltMessage (hs := ht) ..) (h := hs) ..⟩
  | query => exact ⟨_, rfl, canonical_ctlArrives (fun t ht => canonical_apart (view_queryMessage (by decide) ..)
      (view_queryMessage (by decide) ..) ht) (h := hs) ..⟩
  | fieldTest => exact ⟨_, rfl, canonical_ctlArrives (fun t ht => canonical_apart (view_fieldTestMessage (by decide) ..)
      (view_fieldTestMessage (by decide) ..) ht) (h := hs) ..⟩
  | fieldTestStart u => exact exec_fieldTestStart_canonical u s hs
  | fieldTestComplete u failed part => exact exec_fieldTestComplete_canonical u failed part s hs
  | fieldTestOverdue u => exact exec_fieldTestOverdue_canonical u s hs
  | serviceRdmaWrite => exact ⟨_, rfl, canonical_pktArrives (fun t ht => canonical_rxServiceWrite (hs := ht) ..) (h := hs)
      ..⟩
  | ringFillComplete => exact ⟨_, rfl, canonical_pktArrives (fun t ht => canonical_rxRingFill (hs := ht) ..) (h := hs) ..⟩
  | rdmaReadRequest => exact ⟨_, rfl, canonical_pktArrives (fun t ht => canonical_rxReadRequest (hs := ht) ..) (h := hs) ..⟩
  | enableControlChannel => exact ⟨_, rfl, canonical_writeTo (hs := hs) ..⟩
  | stopControlChannel => exact ⟨_, rfl, canonical_writeTo (hs := hs) ..⟩
  | controlChannelRecreate =>
    refine ⟨_, rfl, ?_⟩
    refine canonical_cases (fun hs => ?_) (fun hs => ?_) hs <;> simp [view_newControlQp, canonical_ite, hs]
  | call =>
    refine ⟨_, rfl, ?_⟩
    refine canonical_cases (fun hs => ?_) (fun hs => ?_) hs <;> (repeat' split) <;> simp [view_atLeast, view_sendCall,
      canonical_ite, hs]
  | init => exact ⟨_, rfl, canonical_keyxArrives (fun t ht => canonical_apart (view_rxInit (by decide) ..) (view_rxInit (by
      decide) ..) ht) (h := hs) ..⟩
  | finish => exact ⟨_, rfl, canonical_keyxArrives (fun t ht => canonical_apart (view_rxFinish (by decide) ..)
      (view_rxFinish (by decide) ..) ht) (h := hs) ..⟩
  | card => exact ⟨_, rfl, canonical_keyxArrives (fun t ht => canonical_rxCard (hs := ht) ..) (h := hs) ..⟩
  | cipher => exact ⟨_, rfl, canonical_keyxArrives (fun t ht => canonical_rxCipher (hs := ht) ..) (h := hs) ..⟩
  | cardResend =>
    refine ⟨_, rfl, ?_⟩
    refine canonical_cases (fun hs => ?_) (fun hs => ?_) hs <;> simp [view_sendCards, canonical_ite, hs]
  | keyExchangeTimeout =>
    refine ⟨_, rfl, ?_⟩
    dsimp only
    refine canonical_cases (fun hs => ?_) (fun hs => ?_) hs <;> (repeat' split) <;> simp [view_atLeast, view_armFails, hs]
  | signatureComplete programmed => exact exec_signatureComplete_canonical programmed s hs
  | enablePort => exact ⟨_, rfl, canonical_writeTo (hs := hs) ..⟩
  | stopPort => exact ⟨_, rfl, canonical_writeTo (hs := hs) ..⟩
  | functionStopComplete =>
    refine ⟨_, rfl, ?_⟩
    refine canonical_cases (fun hs => ?_) (fun hs => ?_) hs <;> (repeat' split) <;> simp [view_setObj, view_eraseChannel,
      view_modPart, view_newLoop, hs]
  | trainingAttemptComplete =>
    refine ⟨_, rfl, ?_⟩
    dsimp only
    refine canonical_cases (fun hs => ?_) (fun hs => ?_) hs <;> (repeat' split) <;> simp [view_showLanes, view_setLink,
      canonical_linkComesUp, view_dropLink, view_portTrained, hs]
  | linkDown =>
    refine ⟨_, rfl, ?_⟩
    refine canonical_cases (fun hs => ?_) (fun hs => ?_) hs <;> (repeat' split) <;> simp +contextual [view_dropLink,
      view_bump, view_trainLink, view_linkEvent, view_foldl, view_moveQp, hs]
  | lldpTransmit =>
    refine ⟨_, rfl, ?_⟩
    refine canonical_cases (fun hs => ?_) (fun hs => ?_) hs <;> simp [view_sendFrame, canonical_ite, hs]
  | lldpReceive =>
    refine ⟨_, rfl, ?_⟩
    refine canonical_cases (fun hs => ?_) (fun hs => ?_) hs <;> (repeat' split) <;> simp [view_portIn, view_neighbour,
      hs]
  | neighbourExpiry =>
    refine ⟨_, rfl, ?_⟩
    refine canonical_cases (fun hs => ?_) (fun hs => ?_) hs <;> (repeat' split) <;> simp [view_atLeast, view_setLink,
      view_setObj, view_neighbourChange, hs]
  | gatewayResolve =>
    refine ⟨_, rfl, ?_⟩
    refine canonical_cases (fun hs => ?_) (fun hs => ?_) hs <;> (repeat' split) <;> simp +contextual [view_foldl, view_setLink, view_sendArp, hs]
  | arpNdReceive =>
    refine ⟨_, rfl, ?_⟩
    refine canonical_cases (fun hs => ?_) (fun hs => ?_) hs <;> (repeat' split) <;> simp [view_rxFrame, view_arpTaken,
      view_emit, canonical_ite, hs]
  | pfcReceive =>
    refine ⟨_, rfl, ?_⟩
    refine canonical_cases (fun hs => ?_) (fun hs => ?_) hs <;> (repeat' split) <;> simp [view_setLink, view_release,
      view_rxDrop, hs]
  | greetingReceive => exact ⟨_, rfl, canonical_arrives (fun t ht => canonical_apart (view_rxGreeting (by decide) ..)
      (view_rxGreeting (by decide) ..) ht) (h := hs) ..⟩
  | greetingPeriod p => exact exec_greetingPeriod_canonical p s hs
  | rollCallTimeout =>
    refine ⟨_, rfl, ?_⟩
    dsimp only
    refine canonical_cases (fun hs => ?_) (fun hs => ?_) hs <;> (repeat' split) <;> simp [view_atLeast, view_setObj,
      view_haltJob, hs]
  | data => exact ⟨_, rfl, canonical_chunkArrives (hs := hs) ..⟩
  | close => exact ⟨_, rfl, canonical_chunkArrives (hs := hs) ..⟩
  | done => exact ⟨_, rfl, canonical_chunkArrives (hs := hs) ..⟩
  | result => exact ⟨_, rfl, canonical_chunkArrives (hs := hs) ..⟩
  | tallyAdd p addersAgree => exact exec_tallyAdd_canonical p addersAgree s hs
  | exchangeWindowOpen =>
    refine ⟨_, rfl, ?_⟩
    dsimp only
    refine canonical_cases (fun hs => ?_) (fun hs => ?_) hs <;> (repeat' split) <;> simp [view_setPart, hs]
  | storeReport l tag => exact exec_storeReport_canonical l tag s hs
  | sendEntryStart =>
    refine ⟨_, rfl, ?_⟩
    dsimp only
    refine canonical_cases (fun hs => ?_) (fun hs => ?_) hs <;> (repeat' split) <;> simp [view_setPart,
      canonical_sendEntry, hs]
  | closeSend =>
    refine ⟨_, rfl, ?_⟩
    dsimp only
    refine canonical_cases (fun hs => ?_) (fun hs => ?_) hs <;> (repeat' split) <;> simp [view_setPart,
      canonical_consumePoison, view_postToWindow, hs]
  | commitSend =>
    refine ⟨_, rfl, ?_⟩
    refine canonical_cases (fun hs => ?_) (fun hs => ?_) hs <;> (repeat' split) <;> simp [canonical_consumePoison,
      view_sendMarker, view_setExState, view_modPart, view_addMarker, view_commitCheck, canonical_ite, hs]
  | commitReceive => exact ⟨_, rfl, canonical_pktArrives (fun t ht => canonical_apart (view_rxCommit (by decide) ..)
      (view_rxCommit (by decide) ..) ht) (h := hs) ..⟩
  | abortReceive => exact ⟨_, rfl, canonical_pktArrives (fun t ht => canonical_rxAbort (hs := ht) ..) (h := hs) ..⟩
  | markerTimeout =>
    refine ⟨_, rfl, ?_⟩
    dsimp only
    refine canonical_cases (fun hs => ?_) (fun hs => ?_) hs <;> (repeat' split) <;> simp [view_atLeast, view_silence,
      view_raisePart, view_haltJob, hs]
  | ack => exact ⟨_, rfl, canonical_pktArrives (fun t ht => canonical_apart (view_rxAck (by decide) ..) (view_rxAck (by
      decide) ..) ht) (h := hs) ..⟩
  | nak => exact ⟨_, rfl, canonical_pktArrives (fun t ht => canonical_rxNak (hs := ht) ..) (h := hs) ..⟩
  | rnrNak => exact ⟨_, rfl, canonical_pktArrives (fun t ht => canonical_apart (view_rxRnrNak (by decide) ..) (view_rxRnrNak
      (by decide) ..) ht) (h := hs) ..⟩
  | rnrRetry =>
    refine ⟨_, rfl, ?_⟩
    refine canonical_cases (fun hs => ?_) (fun hs => ?_) hs <;> simp [view_setPart, view_resend, canonical_ite, hs]
  | rtoExpiry =>
    refine ⟨_, rfl, ?_⟩
    dsimp only
    refine canonical_cases (fun hs => ?_) (fun hs => ?_) hs <;> (repeat' split) <;> simp [view_setPart,
      canonical_pathFailed, view_resend, hs]
  | ackCoalesceExpiry =>
    refine ⟨_, rfl, ?_⟩
    refine canonical_cases (fun hs => ?_) (fun hs => ?_) hs <;> simp [view_setPart, view_sendAck, canonical_ite, hs]
  | cnp => exact ⟨_, rfl, canonical_pktArrives (fun t ht => canonical_apart (view_rxCnp (by decide) ..) (view_rxCnp (by
      decide) ..) ht) (h := hs) ..⟩
  | rateRecovery =>
    refine ⟨_, rfl, ?_⟩
    refine canonical_cases (fun hs => ?_) (fun hs => ?_) hs <;> simp [view_atLeast, view_modPart, canonical_ite, hs]
  | read => exact ⟨_, rfl, canonical_serve (hs := hs) ..⟩
  | write => exact ⟨_, rfl, canonical_serve (hs := hs) ..⟩
  | blockRead => exact ⟨_, rfl, canonical_serve (hs := hs) ..⟩
  | stagedWrite => exact ⟨_, rfl, canonical_serve (hs := hs) ..⟩
  | commit => exact ⟨_, rfl, canonical_serve (hs := hs) ..⟩
  | stagingExpiry =>
    refine ⟨_, rfl, ?_⟩
    refine canonical_cases (fun hs => ?_) (fun hs => ?_) hs <;> simp [view_atLeast, view_modNode, canonical_ite, hs]
  | notifyAck =>
    refine ⟨_, rfl, ?_⟩
    refine canonical_cases (fun hs => ?_) (fun hs => ?_) hs <;> (repeat' split) <;> simp [view_bump, view_crossQueues,
      view_upd_notifySeq_notices, hs]
  | notifyRetry =>
    refine ⟨_, rfl, ?_⟩
    refine canonical_cases (fun hs => ?_) (fun hs => ?_) hs <;> (repeat' split) <;> simp [view_atLeast, view_sendDict,
      view_upd_notifySeq_notices, hs]
  | beaconLoss =>
    refine ⟨_, rfl, ?_⟩
    refine canonical_cases (fun hs => ?_) (fun hs => ?_) hs <;> simp [view_setObj, view_bump, view_portEvent,
      canonical_ite, hs]
  | beacon =>
    refine ⟨_, rfl, ?_⟩
    refine canonical_cases (fun hs => ?_) (fun hs => ?_) hs <;> simp [view_setObj, canonical_ite, hs]
  | unlock => exact ⟨_, rfl, canonical_writeTo (hs := hs) ..⟩
  | guardTimeout =>
    refine ⟨_, rfl, ?_⟩
    refine canonical_cases (fun hs => ?_) (fun hs => ?_) hs <;> (repeat' split) <;> simp [view_atLeast, view_modNode, hs]
  | complement => exact ⟨_, rfl, canonical_writeTo (hs := hs) ..⟩
  | sealReference => exact ⟨_, rfl, canonical_writeTo (hs := hs) ..⟩
  | eventAssert =>
    refine ⟨_, rfl, ?_⟩
    refine canonical_cases (fun hs => ?_) (fun hs => ?_) hs <;> (repeat' split) <;> simp [view_across, view_setSource,
      view_setLevel, view_wakeAll, hs]
  | eventClaim stewards => exact exec_eventClaim_canonical stewards s hs
  | eventComplete =>
    refine ⟨_, rfl, ?_⟩
    refine canonical_cases (fun hs => ?_) (fun hs => ?_) hs <;> (repeat' split) <;> simp [view_across, view_setSource,
      view_wakeAll, hs]
  | stewardSleep =>
    refine ⟨_, rfl, ?_⟩
    refine canonical_cases (fun hs => ?_) (fun hs => ?_) hs <;> simp [view_setSteward, view_wakeAll, canonical_ite, hs]
  | stewardWatchdogExpiry =>
    refine ⟨_, rfl, ?_⟩
    refine canonical_cases (fun hs => ?_) (fun hs => ?_) hs <;> simp [canonical_deviceFault, canonical_ite, hs]
  | firmwareImage => exact ⟨_, rfl, canonical_serve (hs := hs) ..⟩
  | select => exact ⟨_, rfl, canonical_writeTo (hs := hs) ..⟩
  | firmwareCommit => exact ⟨_, rfl, canonical_writeTo (hs := hs) ..⟩
  | nonce => exact ⟨_, rfl, canonical_writeTo (hs := hs) ..⟩
  | openEk => exact ⟨_, rfl, canonical_serve (hs := hs) ..⟩
  | response => exact ⟨_, rfl, canonical_serve (hs := hs) ..⟩
  | closeSession => exact ⟨_, rfl, canonical_writeTo (hs := hs) ..⟩
  | sessionIdleExpiry =>
    refine ⟨_, rfl, ?_⟩
    refine canonical_cases (fun hs => ?_) (fun hs => ?_) hs <;> simp [view_atLeast, view_closeNode, canonical_ite, hs]
  | assayEnable => exact ⟨_, rfl, canonical_writeTo (hs := hs) ..⟩
  | hazardDetectorWrite => exact ⟨_, rfl, canonical_writeTo (hs := hs) ..⟩
  | exchangeSettingsWrite => exact ⟨_, rfl, canonical_writeTo (hs := hs) ..⟩
  | snapshot => exact ⟨_, rfl, canonical_writeTo (hs := hs) ..⟩
  | counterLatch =>
    refine ⟨_, rfl, ?_⟩
    refine canonical_cases (fun hs => ?_) (fun hs => ?_) hs <;> (repeat' split) <;> simp [view_setObj, view_upd_latched_latchAt, hs]
  | eclipseRequest => exact ⟨_, rfl, canonical_writeTo (hs := hs) ..⟩
  | eclipseStop =>
    refine ⟨_, rfl, ?_⟩
    dsimp only
    refine canonical_cases (fun hs => ?_) (fun hs => ?_) hs <;> (repeat' split) <;> simp [view_passCycles, view_noteStop,
      view_setObj, hs]
  | edgeStop p => exact exec_edgeStop_canonical p s hs
  | eclipseScanComplete p => exact exec_eclipseScanComplete_canonical p s hs
  | resume => exact ⟨_, rfl, canonical_writeTo (hs := hs) ..⟩
  | release => exact ⟨_, rfl, canonical_writeTo (hs := hs) ..⟩
  | hangWatchdogExpiry =>
    refine ⟨_, rfl, ?_⟩
    dsimp only
    refine canonical_cases (fun hs => ?_) (fun hs => ?_) hs <;> (repeat' split) <;> simp [view_atLeast, view_bump,
      view_modPart, view_eclipsePart, view_hangSnapshot, hs]
  | hangRequest => exact ⟨_, rfl, canonical_writeTo (hs := hs) ..⟩
  | bypass =>
    refine ⟨_, rfl, ?_⟩
    refine canonical_cases (fun hs => ?_) (fun hs => ?_) hs <;> simp [canonical_ifPowered, view_jtag, hs]
  | idcode =>
    refine ⟨_, rfl, ?_⟩
    refine canonical_cases (fun hs => ?_) (fun hs => ?_) hs <;> simp [canonical_ifPowered, view_jtag, hs]
  | samplePreload =>
    refine ⟨_, rfl, ?_⟩
    refine canonical_cases (fun hs => ?_) (fun hs => ?_) hs <;> simp [canonical_ifPowered, view_jtagFree, hs]
  | extest =>
    refine ⟨_, rfl, ?_⟩
    refine canonical_cases (fun hs => ?_) (fun hs => ?_) hs <;> simp [canonical_ifPowered, view_jtagFree, hs]
  | clamp =>
    refine ⟨_, rfl, ?_⟩
    refine canonical_cases (fun hs => ?_) (fun hs => ?_) hs <;> simp [canonical_ifPowered, view_jtag, hs]
  | highz =>
    refine ⟨_, rfl, ?_⟩
    refine canonical_cases (fun hs => ?_) (fun hs => ?_) hs <;> simp [canonical_ifPowered, view_jtag, hs]
  | kwfChallenge =>
    refine ⟨_, rfl, ?_⟩
    refine canonical_cases (fun hs => ?_) (fun hs => ?_) hs <;> simp [canonical_ifPowered, view_jtag, hs]
  | kwfUnlock =>
    refine ⟨_, rfl, ?_⟩
    refine canonical_cases (fun hs => ?_) (fun hs => ?_) hs <;> (repeat' split) <;> simp [canonical_ifPowered, view_jtag,
      view_upd_fresh_sec, hs]
  | kwfLock =>
    refine ⟨_, rfl, ?_⟩
    refine canonical_cases (fun hs => ?_) (fun hs => ?_) hs <;> simp [canonical_ifPowered, view_jtag, view_upd_fresh_sec,
      hs]
  | kwfRecover =>
    refine ⟨_, rfl, ?_⟩
    dsimp only
    refine canonical_cases (fun hs => ?_) (fun hs => ?_) hs <;> (repeat' split) <;> simp [canonical_ifPowered, view_jtag,
      view_bootRom, view_bootFirmware, view_upd_romHold_flash, hs]
  | stewardDebug =>
    refine ⟨_, rfl, ?_⟩
    refine canonical_cases (fun hs => ?_) (fun hs => ?_) hs <;> (repeat' split) <;> simp [canonical_ifPowered, view_jtag,
      view_jtagFree, hs]
  | powerLoss torn => exact exec_powerLoss_canonical torn s hs
  | stewardMemoryUncorrectable =>
    refine ⟨_, rfl, ?_⟩
    refine canonical_cases (fun hs => ?_) (fun hs => ?_) hs <;> simp [canonical_deviceFault, canonical_ite, hs]
  | managementCollision =>
    refine ⟨_, rfl, ?_⟩
    refine canonical_cases (fun hs => ?_) (fun hs => ?_) hs <;> (repeat' split) <;> simp [view_bump, view_portEvent,
      view_upd_collided_mergedNow, hs]
  | unsupportedRequest => exact ⟨_, rfl, canonical_pktArrives (fun t ht => canonical_apart (view_rxUnsupported (by decide)
      ..) (view_rxUnsupported (by decide) ..) ht) (h := hs) ..⟩
  | pauseFrame =>
    refine ⟨_, rfl, ?_⟩
    refine canonical_cases (fun hs => ?_) (fun hs => ?_) hs <;> simp [view_rxDrop, canonical_ite, hs]
  | testLogicReset =>
    refine ⟨_, rfl, ?_⟩
    refine canonical_cases (fun hs => ?_) (fun hs => ?_) hs <;> simp [canonical_ifPowered, view_upd_fresh_sec, hs]

/-- A step of the block: an empty queue lets what waits go on, a command at the front takes effect. -/
theorem canonical_step (hs : Canonical (view ar s)) (h : step s = .next t) : Canonical (view ar t) := by
  unfold step at h
  split at h
  · cases h
    exact canonical_idle s hs
  next c rest _ =>
    obtain ⟨u, hu, hc⟩ := canonical_exec c { s with pending := rest } (canonical_apart (s := s) rfl rfl hs)
    cases hu.symm.trans h
    exact hc

/-- The model's canonical memory is the canonical form of the two areas that hold bytes. -/
theorem memoryCanonical_iff : s.memoryCanonical ↔ Canonical (view .hbm s) ∧ Canonical (view .looms s) := Iff.rfl

/-- Settles O3: of each of the two areas, by what every operation and every command keeps (`canonical_exec`, `canonical_idle`). -/
theorem memoryCanonicalKept : Obligations.MemoryCanonicalKept := by
  intro s t hs h
  obtain ⟨hhbm, hlooms⟩ := memoryCanonical_iff.1 hs
  exact memoryCanonical_iff.2 ⟨canonical_step hhbm h, canonical_step hlooms h⟩

end Sys2Proof.Machine
end

section
/-! SUPPORT. What containment leaves of a partition and of its looms (11 R273 to R278; 12 R296): messages that leave change a partition's transport
alone, an abort stops the looms of its partition and takes nothing else of them, and poison that a unit consumes marks the job once (09
R212). -/

namespace Sys2Proof.Machine

open Sys2Proof

/-! ### Messages that leave change a partition's transport alone -/

theorem PartIs.refl (x : Part) : PartIs x x := rfl

theorem PartIs.trans {x y z : Part} (h : PartIs z y) (g : PartIs y x) : PartIs z x := by
  unfold PartIs at *
  rw [h, g]

theorem PartIs.poisoned {x y : Part} (h : PartIs y x) : y.poisoned = x.poisoned := by rw [h]

theorem PartIs.aborted {x y : Part} (h : PartIs y x) : y.aborted = x.aborted := by rw [h]

section
variable (s : State) (p : Nat)

theorem partIs_sendOn (qpn : Nat) (f : TxFrame) : PartIs ((s.sendOn p qpn f).part p) (s.part p) := by
  unfold State.sendOn
  rw [part_of_view (view_sendFrame (by decide) _ _ _), part_setPart_same]
  rfl

theorem partIs_sendMsg (qpn : Nat) (m : TxMsg) (again : Bool) : PartIs ((s.sendMsg p qpn m again).part p) (s.part p) := by
  unfold State.sendMsg
  split
  · unfold State.sendLater
    rw [part_modPart_same]
    split <;> rfl
  · have hpace : (s.paceWait p qpn m).part p = s.part p := part_of_view (view_paceWait (by decide) s p qpn m) p
    have hsent (f : TxFrame) : PartIs (((s.paceWait p qpn m).sendOn p qpn f).part p) (s.part p) := hpace ▸ partIs_sendOn _ p qpn f
    dsimp only
    split
    · rw [part_bump]
      exact hsent _
    · exact hsent _

theorem partIs_post (qpn rkey va kind att : Nat) (b : Bytes) : PartIs ((s.post p qpn rkey va kind att b).part p) (s.part p) := by
  unfold State.post
  refine (partIs_sendMsg _ p qpn _ false).trans ?_
  rw [part_setCloop, part_setPart_same]
  rfl

theorem partIs_across (way : List Nat) {f : State → State} (hf : ∀ t : State, PartIs ((f t).part p) (t.part p)) :
    PartIs ((s.across way f).part p) (s.part p) := by
  have hcross : (s.crossQueues way).part p = s.part p := part_of_view (view_crossQueues (by decide) s way) p
  unfold State.across
  split
  · exact PartIs.refl _
  · split
    · exact hcross ▸ hf _
    · rw [hcross]
      exact PartIs.refl _

theorem partIs_report (b : Bytes) : PartIs ((s.report p b).part p) (s.part p) := by
  have hsent (h : BitVec 256) : PartIs ((s.postControl p h b).part p) (s.part p) := by
    unfold State.postControl
    split
    · exact partIs_across s p _ fun t => partIs_post t p _ _ _ _ _ _
    · exact PartIs.refl _
  unfold State.report
  rw [part_modPart_same]
  exact PartIs.trans rfl (hsent _)

theorem partIs_sendMarker (kind cause nonfin : Nat) : PartIs ((s.sendMarker p kind cause nonfin).part p) (s.part p) := by
  have hsent {α : Type} (f : State → α → State) (hf : ∀ t a, PartIs ((f t a).part p) (t.part p)) (l : List α) (t : State) :
      PartIs ((l.foldl f t).part p) (t.part p) := by
    induction l generalizing t with
    | nil => exact PartIs.refl _
    | cons a l ih => exact (ih _).trans (hf t a)
  refine hsent _ (fun t r => ?_) _ s
  rw [part_of_view (view_traceHub (by decide) ..)]
  exact partIs_post t p _ _ _ _ _ _

end

/-! ### The mark of consumed poison -/

section
variable (s : State) (p : Nat)

theorem poisoned_haltJob (cause detail : Nat) : ((s.haltJob p cause detail).part p).poisoned = (s.part p).poisoned := by
  have hwait : ((s.endWait p).endRoll p).part p = s.part p := by
    unfold State.endRoll
    split <;> rfl
  unfold State.haltJob State.setExState
  dsimp only
  rw [(partIs_report _ p _).poisoned, part_of_view (view_raisePart (by decide) ..), part_modPart_same]
  dsimp only
  rw [part_setObj, part_setObj, part_setObj, hwait]

theorem poisoned_dropAttempt : ((s.dropAttempt p).part p).poisoned = (s.part p).poisoned := by
  unfold State.dropAttempt
  dsimp only
  rw [part_modPart_same]
  dsimp only
  rw [part_of_view (view_openContributions (by decide) ..)]
  exact congrArg Part.poisoned (part_of_view ((view_modLooms (by decide) ..).trans (view_endWait (by decide) ..)) p)

theorem poisoned_handleAbort (cause sender : Nat) (own : Bool) :
    ((s.handleAbort p cause sender own).part p).poisoned = (s.part p).poisoned := by
  have hdrop (t : State) (a b c d e g : Nat) : (((t.raisePart a b c d p e g).dropAttempt p).part p).poisoned = (t.part p).poisoned := by
    rw [poisoned_dropAttempt, part_of_view (view_raisePart (by decide) ..)]
  unfold State.handleAbort State.setExState
  dsimp only
  split
  · rw [poisoned_haltJob, hdrop, part_setObj, part_setObj, part_bump]
  · split
    · rw [poisoned_haltJob, hdrop, part_setObj, part_setObj, part_bump]
    · rw [part_setObj, part_setObj, hdrop, part_setObj, part_setObj, part_bump]

theorem poisoned_abortStep (cause : Nat) : ((s.abortStep p cause).part p).poisoned = (s.part p).poisoned := by
  unfold State.abortStep
  rw [poisoned_handleAbort, (partIs_sendMarker s p _ _ _).poisoned]

theorem poisoned_faultAndHalt (cause hc hd : Nat) : ((s.faultAndHalt p cause hc hd).part p).poisoned = (s.part p).poisoned := by
  unfold State.faultAndHalt State.haltAtBoundary
  dsimp only
  split
  · split
    · exact poisoned_abortStep s p cause
    · rw [poisoned_haltJob, poisoned_abortStep]
  · split
    · rw [part_modPart_same]
    · split
      · exact poisoned_haltJob s p _ _
      · rfl

end

/-! ### Halted -/

section
variable (s : State) {p : Nat} (hp : p < 4)
include hp

/-- A job that halts is in HALTED afterwards (12 R293, R296). -/
theorem jobState_haltJob (cause detail : Nat) : (s.haltJob p cause detail).jobState p = 7 := by
  have hsize : ∀ i < 4, objSize (0x907001 + 256 * i) = 1 := by decide +kernel
  have hraised : 0x907001 + 256 * p ∉ raisedObjs := by simp only [raisedObjs, List.mem_cons, List.not_mem_nil, or_false]; omega
  have hdropped : 0x907001 + 256 * p ∉ droppedObjs := by simp only [droppedObjs, List.mem_cons, List.not_mem_nil, or_false]; omega
  unfold State.jobState State.haltJob State.setExState
  dsimp only
  rw [obj_report _ hdropped, obj_raisePart _ hraised (by decide), obj_modPart, obj_setObj_other _ (by omega), obj_setObj_other _ (by omega),
    obj_setObj_same, hsize p hp]
  rfl

/-- A fault that halts the job of a step that is not committed (11 R278). -/
theorem jobState_faultAndHalt (h : s.uncommitted p = true) (cause hc hd : Nat) : (s.faultAndHalt p cause hc hd).jobState p = 7 := by
  unfold State.faultAndHalt
  rw [if_pos h]
  dsimp only
  split
  next hjob => exact hjob
  · exact jobState_haltJob _ hp hc hd

end

section
variable (s : State) {p r : Nat} (h : ¬ chargesObj p r)
include h

theorem obj_faultAndHalt (cause hc hd : Nat) : (s.faultAndHalt p cause hc hd).obj r = s.obj r := by
  unfold State.faultAndHalt State.haltAtBoundary
  dsimp only
  split
  · split
    · exact obj_abortStep s h cause
    · rw [obj_haltJob _ h, obj_abortStep s h]
  · split
    · exact obj_modPart ..
    · split
      · exact obj_haltJob s h _ _
      · rfl

end

/-! ### The looms of an abort -/

/-- Every loom of `t` is that of `s`, or that of `s` stopped by an abort. -/
def StoppedLooms (s t : State) : Prop := ∀ l, t.loom l = s.loom l ∨ t.loom l = (s.loom l).stopAttempt

theorem StoppedLooms.of_view {s t : State} (h : view .looms t = view .looms s) : StoppedLooms s t := fun l => .inl (loom_of_view h l)

theorem StoppedLooms.trans {s t u : State} (h : StoppedLooms s t) (g : StoppedLooms t u) : StoppedLooms s u := by
  intro l
  rcases h l with h | h <;> rcases g l with g | g <;> rw [g, h]
  · exact .inl rfl
  · exact .inr rfl
  · exact .inr rfl
  · exact .inr rfl

theorem StoppedLooms.foldl {α : Type} {f : State → α → State} (hf : ∀ t a, StoppedLooms t (f t a)) (l : List α) (s : State) :
    StoppedLooms s (l.foldl f s) := by
  induction l generalizing s with
  | nil => exact fun l => .inl rfl
  | cons a l ih => exact (hf s a).trans (ih _)

section
variable (s : State) (p : Nat)

theorem stoppedLooms_modLooms : StoppedLooms s (s.modLooms p Loom.stopAttempt) := by
  refine StoppedLooms.foldl (fun t k => ?_) _ s
  split
  · intro l
    have hget : (SMap.get Loom.init (SMap.set Loom.init t.looms k (SMap.get Loom.init t.looms k).stopAttempt) (loomKey l))
        = if loomKey l = k then (SMap.get Loom.init t.looms k).stopAttempt else t.loom l := SMap.get_set _
    split at hget
    next hk => exact .inr (hget.trans (hk ▸ rfl))
    · exact .inl hget
  · exact fun l => .inl rfl

theorem stoppedLooms_dropAttempt : StoppedLooms s (s.dropAttempt p) := by
  unfold State.dropAttempt
  dsimp only
  exact (stoppedLooms_modLooms (s.endWait p) p).trans
    (.of_view ((view_modPart (by decide) ..).trans (view_openContributions (by decide) ..)))

theorem stoppedLooms_handleAbort (cause sender : Nat) (own : Bool) : StoppedLooms s (s.handleAbort p cause sender own) := by
  have hmarks (t : State) (a b : Nat) (ht : view .looms t = view .looms s) :
      view .looms (((t.bump (0x521004 + b) 1).setObj (0x521005 + b) cause).setObj (0x521006 + b) a) = view .looms s := by
    rw [view_setObj (by decide), view_setObj (by decide), view_bump (by decide), ht]
  have hrecord (t : State) (a b c d e g : Nat) (ht : view .looms t = view .looms s) : StoppedLooms s ((t.raisePart a b c d p e g).dropAttempt p) :=
    (StoppedLooms.of_view ((view_raisePart (by decide) ..).trans ht)).trans (stoppedLooms_dropAttempt _ p)
  unfold State.handleAbort
  dsimp only
  split
  · exact (hrecord _ _ _ _ _ _ _ (hmarks s _ _ rfl)).trans (.of_view (view_haltJob (by decide) ..))
  · split
    · exact (hrecord _ _ _ _ _ _ _ (hmarks s _ _ rfl)).trans (.of_view (view_haltJob (by decide) ..))
    · exact (hrecord _ _ _ _ _ _ _ (hmarks s _ _ rfl)).trans (.of_view ((view_setExState (by decide) ..).trans (view_setObj (by decide) ..)))

theorem stoppedLooms_abortStep (cause : Nat) : StoppedLooms s (s.abortStep p cause) :=
  (StoppedLooms.of_view (view_sendMarker (by decide) ..)).trans (stoppedLooms_handleAbort _ p _ _ _)

theorem stoppedLooms_faultAndHalt (cause hc hd : Nat) : StoppedLooms s (s.faultAndHalt p cause hc hd) := by
  have hhalt (t : State) (c d : Nat) : StoppedLooms t (t.haltJob p c d) := .of_view (view_haltJob (by decide) ..)
  unfold State.faultAndHalt
  dsimp only
  split
  · split
    · exact stoppedLooms_abortStep s p cause
    · exact (stoppedLooms_abortStep s p cause).trans (hhalt _ _ _)
  · split
    · exact .of_view rfl
    · split
      · exact hhalt _ _ _
      · exact .of_view rfl

end

/-! ### Poison that a unit consumes (09 R212) -/

section
variable (s : State) (p : Nat) (quad : Option Nat) (uclass unit op stack granule : Nat)

theorem stoppedLooms_consumePoison : StoppedLooms s (s.consumePoison p quad uclass unit op stack granule) := by
  unfold State.consumePoison
  dsimp only
  split
  · exact .of_view (view_raise (by decide) ..)
  · refine StoppedLooms.trans (.of_view ?_) (stoppedLooms_faultAndHalt _ _ _ _ _)
    rw [view_modPart (by decide), view_bump (by decide), view_raise (by decide)]

variable {p} (hp : p < 4)
include hp

/-- What the record of consumed poison leaves of the job: its mark, its state, the state of its exchange. -/
theorem jobObjs_raise {x : Raise} (hx : x.sev ≤ 4) : (s.raise x).part p = s.part p ∧ (s.raise x).jobState p = s.jobState p
    ∧ (s.raise x).exState p = s.exState p := by
  have hjob : 0x907001 + 256 * p ∉ raisedObjs := by simp only [raisedObjs, List.mem_cons, List.not_mem_nil, or_false]; omega
  have hex : 0x521003 + 256 * p ∉ raisedObjs := by simp only [raisedObjs, List.mem_cons, List.not_mem_nil, or_false]; omega
  exact ⟨part_of_view (view_raise (by decide) s x) p, obj_raise s hjob hx, obj_raise s hex hx⟩

/-- Poison consumed by a live job that is not marked yet: it is marked, counted once, and halts a step that is not committed. -/
theorem consumePoison_marks (hclean : (s.part p).poisoned = false) (hlive : s.jobLive p = true) :
    ((s.consumePoison p quad uclass unit op stack granule).part p).poisoned = true
      ∧ (s.consumePoison p quad uclass unit op stack granule).obj 0x400007 = (s.obj 0x400007 + 1) % 256 ^ objSize 0x400007
      ∧ (s.exState p ∈ [1, 4] → (s.consumePoison p quad uclass unit op stack granule).jobState p = 7) := by
  unfold State.consumePoison
  dsimp only
  generalize hx : ({ code := 0x0305, sev := 3, uclass := uclass, unit := unit, part := p, op := op
                     detail := stack % 32 + granule % 2 ^ 32 * 2 ^ 8, quad := quad } : Raise) = x
  have hsev : x.sev ≤ 4 := by rw [← hx]; exact Nat.le_succ 3
  obtain ⟨hpart, hjob, hex⟩ := jobObjs_raise s hp hsev
  have hlive : (s.raise x).jobLive p = true := by
    unfold State.jobLive at hlive ⊢
    rwa [hjob]
  have hcharge : ¬ chargesObj p 0x400007 := by
    unfold chargesObj
    simp only [raisedObjs, droppedObjs, List.mem_cons, List.not_mem_nil, or_false]
    omega
  rw [hpart, hclean, hlive, if_neg (by decide)]
  refine ⟨?_, ?_, fun h => jobState_faultAndHalt _ hp ?_ _ _ _⟩
  · rw [poisoned_faultAndHalt, part_modPart_same]
  · rw [obj_faultAndHalt _ hcharge, obj_modPart, obj_bump_same, obj_raise s (by decide) hsev]
  · have hne : 0x521003 + 256 * p ≠ 0x400007 := by omega
    unfold State.exState at hex h
    unfold State.uncommitted State.exState
    rw [obj_modPart, obj_bump_other _ hne, hex]
    simpa using h

omit hp in
/-- Poison consumed by a job that is marked already leaves a record only. -/
theorem consumePoison_again (hmarked : (s.part p).poisoned = true) {r : Nat} (hr : r ∉ raisedObjs) :
    (s.consumePoison p quad uclass unit op stack granule).obj r = s.obj r := by
  have hpart (x : Raise) : ((s.raise x).part p).poisoned = true := part_of_view (view_raise (by decide) s x) p ▸ hmarked
  unfold State.consumePoison
  dsimp only
  rw [hpart, Bool.true_or, if_pos rfl]
  exact obj_raise s hr (Nat.le_succ 3)

end

end Sys2Proof.Machine
end

section
/-! Conversions recorded in the ephemeris, and poison that an ADD consumes (03 R82; 06 R140; 09 R212): O42. -/

namespace Sys2Proof.Machine

open Sys2Proof

/-! ### Conversions recorded (06 R140) -/

/-- A literal scale field records nothing. -/
theorem eph_foldl_note_literal {fld : Nat} (h : fld.testBit 8 = false) (l : List ((Nat × ConvClass) × Val)) (x : Loom) :
    (l.foldl (fun (z : Loom) c => z.note fld c.1.2 c.2) x).eph = x.eph := by
  induction l generalizing x with
  | nil => rfl
  | cons c l ih => rw [List.foldl_cons, ih, Loom.note, h, if_neg Bool.false_ne_true]

/-- A register's accumulator takes each conversion, the others none. -/
theorem eph_foldl_note_register {fld : Nat} (h : fld.testBit 8 = true) (l : List ((Nat × ConvClass) × Val)) (x : Loom) :
    SMap.get EphAcc.zero (l.foldl (fun (z : Loom) c => z.note fld c.1.2 c.2) x).eph (fld % 256)
        = l.foldl (fun a e => a.record e.1.2 e.2) (SMap.get EphAcc.zero x.eph (fld % 256))
      ∧ ∀ i, i ≠ fld % 256 →
        SMap.get EphAcc.zero (l.foldl (fun (z : Loom) c => z.note fld c.1.2 c.2) x).eph i = SMap.get EphAcc.zero x.eph i := by
  induction l generalizing x with
  | nil => exact ⟨rfl, fun _ _ => rfl⟩
  | cons c l ih =>
    obtain ⟨hown, hother⟩ := ih (x.note fld c.1.2 c.2)
    have hnote : (x.note fld c.1.2 c.2).eph
        = SMap.set EphAcc.zero x.eph (fld % 256) ((SMap.get EphAcc.zero x.eph (fld % 256)).record c.1.2 c.2) := by
      rw [Loom.note, if_pos h]
    rw [hnote, SMap.get_set_same] at hown
    exact ⟨hown, fun i hi => (hother i hi).trans (hnote ▸ SMap.get_set_other hi)⟩

theorem eph_vecStore (t : State) (l : LoomId) (d : Word512) (x : Loom) (w : Nat) (b : Bytes) {o : List Nat} (ho : ∀ y ∈ o, y = 0) :
    ((t.vecStore l d x w b o).loom l).eph = x.eph := by
  unfold State.vecStore State.loomPoison
  rw [putElems_clean _ _ _ _ ho, firstOf_clean ho, if_pos rfl]
  exact (congrArg Loom.eph (loom_setLoom_same t l _)).trans rfl

theorem VectorJoined.converted {s t : State} {l : LoomId} {d : Word512} (h : VectorJoined s t l d) (vals : List Val) :
    t.converted l d vals = s.converted l d vals := by
  unfold State.converted
  simp only [h.loomPart, h.stepNo, h.part, h.scaleExp]

/-- A vector operation whose data effect records the conversions `f` in its loom, and then stores results. -/
theorem vectorCounts_of_noted {c : LoomId → Option LoomHit → Instr} {vop : Nat} {f : State → LoomId → Word512 → List ((Nat × ConvClass) × Val)}
    (g : LoomId → Loom → Word512 → List Nat → State → State) (hexec : ∀ l hit s, exec (c l hit) s = .next (s.vectorOp l vop hit (g l)))
    (hnoted : ∀ {s t : State} {l : LoomId} {d : Word512} {o : List Nat}, VectorJoined s t l d → (∀ x ∈ o, x = 0) →
      ((g l (s.loom l) d o t).loom l).eph = ((f s l d).foldl (fun (z : Loom) e => z.note (vScaleD d) e.1.2 e.2) (t.loom l)).eph) :
    VectorCounts c vop f := by
  intro l hit d s hhead hharm hroom hcheck hclean hrace
  obtain ⟨t, ht, he⟩ := vectorOp_issues hhead hharm hroom hcheck hrace
  have heph : (t.loom l).eph = (s.loom l).eph := by rw [ht.loom.1]; rfl
  refine ⟨_, (hexec l hit s).trans (congrArg Host.Outcome.next (he (g l))), fun h => ?_, fun h => ?_⟩
  · rw [hnoted ht hclean, eph_foldl_note_literal h, heph]
  · rw [hnoted ht hclean, ← heph]
    exact eph_foldl_note_register h _ _

theorem vectorCounts_vals {c : LoomId → Option LoomHit → Instr} {vop : Nat} {f : Loom → Word512 → List Val}
    (hexec : ∀ l hit s, exec (c l hit) s = .next (s.vectorVals l vop hit f)) :
    VectorCounts c vop (fun s l d => s.converted l d (f (s.loom l) d)) :=
  vectorCounts_of_noted (fun l x d o t => t.vecConvert l d (f x d) o) hexec fun ht ho =>
    ht.converted _ ▸ eph_vecStore _ _ _ _ _ _ ho

theorem vectorCounts_toT32 : VectorCounts .toT32 0x30 State.t32Out :=
  vectorCounts_of_noted (fun l _ d o t => t.vecT32 l d o) (fun _ _ _ => rfl) fun ht ho => ht.t32Out ▸ eph_vecStore _ _ _ _ _ _ ho

theorem vectorCounts_toVote : VectorCounts .toVote 0x31 State.voteOut :=
  vectorCounts_of_noted (fun l _ d o t => t.vecVote l d o) (fun _ _ _ => rfl) fun ht ho => ht.voteOut ▸ eph_vecStore _ _ _ _ _ _ ho

/-! ### Marks of poisoned results -/

/-- A byte range marked with an origin: its half lines have it where they had none. -/
theorem poison_mark (x : Loom) (a n : Nat) {origin : Nat} (ho : origin ≠ 0) (h : Nat) : SMap.get 0 (x.mark a n origin).poison h
    = if SMap.get 0 x.poison h = 0 ∧ h ∈ halfLines a n then origin else SMap.get 0 x.poison h := by
  have hmarked (hs : List Nat) (m : SMap Nat) : SMap.get 0 (hs.foldl (fun m h => if SMap.get 0 m h = 0 then SMap.set 0 m h origin else m) m) h
      = if SMap.get 0 m h = 0 ∧ h ∈ hs then origin else SMap.get 0 m h := by
    induction hs generalizing m with
    | nil => simp
    | cons k hs ih =>
      rw [List.foldl_cons, ih]
      by_cases hk : SMap.get 0 m k = 0 <;> by_cases he : h = k <;> simp_all [SMap.get_set]
  unfold Loom.mark
  rw [if_neg ho]
  exact hmarked _ _

/-- A mark of poison that stands stays, whatever is marked after it. -/
theorem poison_mark_mono (x : Loom) (a n origin : Nat) {h : Nat} (hm : SMap.get 0 x.poison h ≠ 0) :
    SMap.get 0 (x.mark a n origin).poison h ≠ 0 := by
  by_cases ho : origin = 0
  · rw [Loom.mark, if_pos ho]
    exact hm
  · rw [poison_mark x a n ho, if_neg fun e => hm e.1]
    exact hm

/-- The half lines of a poisoned result are marked (03 R82). -/
theorem poison_putElems (x : Loom) (a w : Nat) (b : Bytes) (o : List Nat) {i h : Nat} (hi : o.getD i 0 ≠ 0)
    (hh : h ∈ halfLines (a + (elemBytes w i).1) ((elemBytes w i).2 + 1 - (elemBytes w i).1)) :
    SMap.get 0 (x.putElems a w b o).poison h ≠ 0 := by
  have hmono (l : List (Nat × Nat)) (y : Loom) (hy : SMap.get 0 y.poison h ≠ 0) : SMap.get 0 (l.foldl (fun (y : Loom) o =>
      y.mark (a + (elemBytes w o.2).1) ((elemBytes w o.2).2 + 1 - (elemBytes w o.2).1) o.1) y).poison h ≠ 0 := by
    induction l generalizing y with
    | nil => exact hy
    | cons e l ih => exact ih _ (poison_mark_mono y _ _ _ hy)
  have hmem : (o.getD i 0, i) ∈ o.zipIdx := by
    have hlt : i < o.length := by
      by_contra hge
      exact hi (List.getD_eq_default _ _ (Nat.not_lt.1 hge))
    rw [List.mk_mem_zipIdx_iff_getElem?, List.getD_eq_getElem _ _ hlt, List.getElem?_eq_getElem hlt]
  obtain ⟨before, after, hsplit⟩ := List.append_of_mem hmem
  unfold Loom.putElems
  rw [hsplit, List.foldl_append, List.foldl_cons]
  refine hmono _ _ ?_
  dsimp only
  rw [poison_mark _ _ _ hi]
  split
  · exact hi
  next hnot => exact fun e => hnot ⟨e, hh⟩

/-! ### A loom that uses a poisoned value (09 R212) -/

section
variable {s t : State} {l : LoomId}

/-- `t` has the job of loom `l`'s partition as `s` has it: the partition's state, and the objects of its job and of the count of halts by
poison. -/
structure SameJob (s t : State) (l : LoomId) : Prop where
  loomPart : t.loomPart l = s.loomPart l
  part : t.part (s.loomPart l) = s.part (s.loomPart l)
  jobState : t.jobState (s.loomPart l) = s.jobState (s.loomPart l)
  exState : t.exState (s.loomPart l) = s.exState (s.loomPart l)
  halts : t.obj 0x400007 = s.obj 0x400007

theorem SameJob.trans {u : State} (h : SameJob s t l) (g : SameJob t u l) : SameJob s u l where
  loomPart := g.loomPart.trans h.loomPart
  part := by rw [← h.loomPart, g.part, h.loomPart, h.part]
  jobState := by rw [← h.loomPart, g.jobState, h.loomPart, h.jobState]
  exState := by rw [← h.loomPart, g.exState, h.loomPart, h.exState]
  halts := g.halts.trans h.halts

/-- What leaves partitions alone, and changes objects of the trace and of records only. -/
theorem SameJob.of_objs (hpart : ∀ p, t.part p = s.part p) (hobjs : OnlyObjs (0x801006 :: raisedObjs) s t) : SameJob s t l := by
  have hp := loomPart_lt s l
  have hjob (k : Nat) (hk : k = 0x907001 ∨ k = 0x521003) : t.obj (k + 256 * s.loomPart l) = s.obj (k + 256 * s.loomPart l) :=
    hobjs _ (by simp only [raisedObjs, List.mem_cons, List.not_mem_nil, or_false]; omega)
  exact ⟨partOfQuad_congr (hobjs _ (by decide)) l.q, hpart _, hjob _ (.inl rfl), hjob _ (.inr rfl), hobjs _ (by decide)⟩

theorem SameJob.setLoom (s : State) (l : LoomId) (x : Loom) : SameJob s (s.setLoom l x) l := ⟨rfl, rfl, rfl, rfl, rfl⟩

theorem SameJob.jobLive (h : SameJob s t l) : t.jobLive (s.loomPart l) = s.jobLive (s.loomPart l) := by
  unfold State.jobLive
  rw [h.jobState]

/-- Its use marks the job, where it is live and not marked yet, and halts it in a step that is not committed. -/
theorem loomPoison_marks (h : SameJob s t l) (tag : Nat) {origin : Nat} (ho : origin ≠ 0) (hclean : (s.part (s.loomPart l)).poisoned = false)
    (hlive : s.jobLive (s.loomPart l) = true) : ((t.loomPoison l tag origin).part (s.loomPart l)).poisoned = true
      ∧ Counted s (t.loomPoison l tag origin) 0x400007 1
      ∧ (s.exState (s.loomPart l) ∈ [1, 4] → (t.loomPoison l tag origin).jobState (s.loomPart l) = 7) := by
  unfold State.loomPoison Counted
  rw [if_neg ho, h.loomPart, ← h.halts, ← h.exState]
  exact consumePoison_marks t _ _ _ _ _ _ (loomPart_lt s l) (h.part ▸ hclean) (h.jobLive.trans hlive)

/-- A job that is marked already stays as it is. -/
theorem loomPoison_again (h : SameJob s t l) (tag : Nat) {origin : Nat} (ho : origin ≠ 0) (hmarked : (s.part (s.loomPart l)).poisoned = true) :
    (t.loomPoison l tag origin).obj 0x400007 = s.obj 0x400007 ∧ (t.loomPoison l tag origin).jobState (s.loomPart l) = s.jobState (s.loomPart l) := by
  have hp := loomPart_lt s l
  have hagain {r : Nat} (hr : r ∉ raisedObjs) : (t.loomPoison l tag origin).obj r = t.obj r := by
    unfold State.loomPoison
    rw [if_neg ho, h.loomPart]
    exact consumePoison_again t _ _ _ _ _ _ (h.part ▸ hmarked) hr
  refine ⟨(hagain (by decide)).trans h.halts, Eq.trans (hagain ?_) h.jobState⟩
  simp only [raisedObjs, List.mem_cons, List.not_mem_nil, or_false]
  omega

/-- The loom itself stays, or stops with the abort of its step. -/
theorem stoppedLooms_loomPoison (t : State) (l : LoomId) (tag : Nat) (origin : Nat) : StoppedLooms t (t.loomPoison l tag origin) := by
  unfold State.loomPoison
  split
  · exact .of_view rfl
  · exact stoppedLooms_consumePoison _ _ _ _ _ _ _ _

end

/-! ### A descriptor that SECDED cannot correct (log 99) -/

/-- A word that a unit reads and SECDED cannot correct: it is recorded, and marked with an origin of its own. -/
theorem found_multi (s : State) (l : LoomId) (tag : Nat) {reads : LoomWord → Bool} {w : LoomWord} (hr : reads w = true) :
    ∃ u origin, origin ≠ 0 ∧ s.found l tag reads (some { word := w, ecc := .multi }) = u.setLoom l ((s.loom l).markWord w origin)
      ∧ view .looms u = view .looms s ∧ view .parts u = view .parts s ∧ OnlyObjs raisedObjs s u := by
  have hfree (t : State) (ar : Area) (har : ar ≠ .free) : view ar t.freeOrigin.2 = view ar t := by
    cases ar
    case free => exact absurd rfl har
    all_goals rfl
  unfold State.found
  dsimp only
  rw [hr, if_neg (by decide)]
  refine ⟨_, _, ?_, congrArg₂ (State.setLoom · l ·) rfl (congrArg (Loom.markWord · w _) (loom_of_view ?_ l)), ?_, ?_, fun r hr => ?_⟩
  · exact Nat.ne_of_gt (Nat.add_pos_left Nat.one_pos _)
  · exact (hfree _ .looms (by decide)).trans (view_raiseQuad (by decide) ..)
  · exact (hfree _ .looms (by decide)).trans (view_raiseQuad (by decide) ..)
  · exact (hfree _ .parts (by decide)).trans (view_raiseQuad (by decide) ..)
  · exact (obj_of_view (hfree _ .objects (by decide)) r).trans (obj_raiseQuad s hr (sev := 2) (by decide) _ _ _ _ _ _)

/-- The loom stops at it, and the poison counts as consumed. -/
theorem exec_add_storeLost {s : State} {l : LoomId} {d : Word512} (hhead : s.atHead l 0x2001 d) :
    ∃ u, SameJob s u l ∧ u.loom l = s.loom l
      ∧ exec (.add l (some { word := .instructionStore (BitVec.ofNat 12 (s.loom l).seqIdx.toNat), ecc := .multi })) s
        = .next ((u.setLoom l { u.loom l with seq := .stopped }).loomPoison l 0 s.freeOrigin.1) := by
  obtain ⟨hruns, hidx, hd, hkind⟩ := hhead
  obtain ⟨u, origin, -, hfound, -, hparts, hobjs⟩ := found_multi s l (dTag d)
    (reads := fun w => decide (w = .instructionStore (BitVec.ofNat 12 (s.loom l).seqIdx.toNat))) (decide_eq_true rfl)
  refine ⟨_, (SameJob.of_objs (part_of_view hparts) fun r hr => hobjs r (List.not_mem_of_not_mem_cons hr)).trans (.setLoom u l _),
    loom_setLoom_same u l _, congrArg Host.Outcome.next ?_⟩
  have hlost : storeLost (some { word := .instructionStore (BitVec.ofNat 12 (s.loom l).seqIdx.toNat), ecc := .multi })
      (s.loom l).seqIdx.toNat = true := by simp [storeLost]
  unfold State.vectorVals State.vectorOp State.descriptor
  dsimp only
  rw [if_pos hruns, hd, if_neg hidx, hkind, if_neg (by decide), hlost, if_pos rfl, hfound]
  rfl

theorem storeLost_stops {s : State} {l : LoomId} {d : Word512} (hhead : s.atHead l 0x2001 d) : ∃ t,
    exec (.add l (some { word := .instructionStore (BitVec.ofNat 12 (s.loom l).seqIdx.toNat), ecc := .multi })) s = .next t
      ∧ (t.loom l).seq = .stopped ∧ (t.loom l).seqIdx = (s.loom l).seqIdx ∧ (t.loom l).mem = (s.loom l).mem
      ∧ ((s.part (s.loomPart l)).poisoned = false → s.jobLive (s.loomPart l) = true →
          (t.part (s.loomPart l)).poisoned = true ∧ Counted s t 0x400007 1) := by
  obtain ⟨u, hjob, hloom, hexec⟩ := exec_add_storeLost hhead
  have horigin : s.freeOrigin.1 ≠ 0 := by
    unfold State.freeOrigin
    exact Nat.add_one_ne_zero _ ∘ (Nat.add_comm _ _).trans
  have hset : (u.setLoom l { u.loom l with seq := .stopped }).loom l = { s.loom l with seq := .stopped } :=
    (loom_setLoom_same ..).trans (hloom ▸ rfl)
  refine ⟨_, hexec, ?_⟩
  have hstops := stoppedLooms_loomPoison (u.setLoom l { u.loom l with seq := .stopped }) l 0 s.freeOrigin.1 l
  rw [hset] at hstops
  refine ⟨?_, ?_, ?_, fun hclean hlive => ?_⟩
  · rcases hstops with h | h <;> rw [h]; rfl
  · rcases hstops with h | h <;> rw [h]; rfl
  · rcases hstops with h | h <;> rw [h]; rfl
  · obtain ⟨hmark, hcount, -⟩ := loomPoison_marks (hjob.trans (.setLoom u l _)) 0 horigin hclean hlive
    exact ⟨hmark, hcount⟩

/-! ### An ADD that reads a poisoned word (03 R82) -/

/-- Its results are stored with their marks; then its loom consumes the poison, once. -/
theorem exec_add_poisoned {s : State} {l : LoomId} {hit : Option LoomHit} {d : Word512} (hhead : s.atHead l 0x2001 d) (hharm : harmless hit)
    (hroom : (s.loom l).vectorQ.length < 8) (hcheck : (s.loom l).vecCheck 1 d = none) (hrace : s.raceFree l) :
    ∃ (u : State) (x : Loom) (b : Bytes), SameJob s u l
      ∧ u.loom l = x.putElems (64 * dField d 119 106) (fmtWidth (vFmtD d)) b ((s.loom l).vecPoison 1 d)
      ∧ exec (.add l hit) s = .next (u.loomPoison l (dTag d) (firstOf ((s.loom l).vecPoison 1 d))) := by
  obtain ⟨t, ht, he⟩ := vectorOp_issues (vop := 1) hhead hharm hroom hcheck hrace
  exact ⟨_, _, _, (SameJob.of_objs ht.part ht.objs).trans (.setLoom t l _), loom_setLoom_same t l _,
    congrArg Host.Outcome.next (he fun x d o t => t.vecConvert l d (laneOp2 add32 x d) o)⟩

/-- Settles O42: the five operations that convert are notes of their conversions; an ADD stores marked results, and its loom consumes the
poison. -/
theorem conversionsAndPoisonAreCounted : Obligations.ConversionsAndPoisonAreCounted := by
  unfold Obligations.ConversionsAndPoisonAreCounted
  refine ⟨vectorCounts_vals fun _ _ _ => rfl, vectorCounts_vals fun _ _ _ => rfl, vectorCounts_vals fun _ _ _ => rfl, vectorCounts_toT32,
    vectorCounts_toVote, fun l i d s hhead hi => hi ▸ storeLost_stops hhead,
    fun l hit d o s hhead hharm hroom hcheck ho hpoison hrace => ?_⟩
  obtain ⟨u, x, b, hjob, hloom, hexec⟩ := exec_add_poisoned hhead hharm hroom hcheck hrace
  subst ho
  refine ⟨_, hexec, fun i h hi hh => ?_, loomPoison_marks hjob _ hpoison, loomPoison_again hjob _ hpoison⟩
  have hmarked := poison_putElems x (64 * dField d 119 106) (fmtWidth (vFmtD d)) b _ hi hh
  rw [← hloom] at hmarked
  rcases stoppedLooms_loomPoison u l (dTag d) (firstOf ((s.loom l).vecPoison 1 d)) l with hu | hu
  · rw [hu]
    exact hmarked
  · rw [hu]
    exact hmarked

end Sys2Proof.Machine
end

section
/-! SUPPORT. What a router does with the words of its slot (08 R176 to R183): the words it takes up, the misses that discarded words leave, and
the output that serves them. -/

namespace Sys2Proof.Machine

open Sys2Proof

/-! ### Slot misses -/

/-- Counts of slot collisions, slot misses and damaged words of the four quadrants. -/
abbrev fabricCount (r : Nat) : Prop := ∃ q < 4, r = 0x30F005 + 0x10000 * q ∨ r = 0x30F006 + 0x10000 * q ∨ r = 0x30F007 + 0x10000 * q

/-- Words were discarded between `s` and `t`: slot tables, routers and partitions are as they were, a miss that was met stands, and of the
objects only counts and the log's changed. -/
structure Missed (s t : State) : Prop where
  tab : ∀ j, (t.loom j).streamTab = (s.loom j).streamTab
  missed : ∀ j, (s.loom j).slotMissed = true → (t.loom j).slotMissed = true
  quads : view .quads t = view .quads s
  parts : view .parts t = view .parts s
  flash : view .flash t = view .flash s
  objs : ∀ r, r ∉ raisedObjs → ¬ fabricCount r → t.obj r = s.obj r

theorem Missed.refl (s : State) : Missed s s := ⟨fun _ => rfl, fun _ h => h, rfl, rfl, rfl, fun _ _ _ => rfl⟩

theorem Missed.trans {s t u : State} (h : Missed s t) (g : Missed t u) : Missed s u where
  tab j := (g.tab j).trans (h.tab j)
  missed j hj := g.missed j (h.missed j hj)
  quads := g.quads.trans h.quads
  parts := g.parts.trans h.parts
  flash := g.flash.trans h.flash
  objs r hr hc := (g.objs r hr hc).trans (h.objs r hr hc)

theorem Missed.foldl {α : Type} {f : State → α → State} (hf : ∀ t a, Missed t (f t a)) (l : List α) (s : State) : Missed s (l.foldl f s) := by
  induction l generalizing s with
  | nil => exact .refl s
  | cons a l ih => exact (hf s a).trans (ih _)

section
variable {s t : State} (h : Missed s t)
include h

theorem Missed.slotEntry : t.slotEntry = s.slotEntry := by
  funext l o n
  unfold State.slotEntry
  rw [h.tab]

theorem Missed.layout : t.layout = s.layout := h.objs 0x90000A (by decide) (fun ⟨q, hq, e⟩ => by omega)

theorem Missed.partOfQuad (q : Nat) : t.partOfQuad q = s.partOfQuad q := congrArg (layoutPartOf · q) h.layout

theorem Missed.hubDest : t.hubDest = s.hubDest := by
  funext q
  unfold State.hubDest
  rw [h.partOfQuad, part_of_view h.parts]

theorem Missed.runCols (q : Nat) : t.runCols q = s.runCols q := by
  have hflash : t.flash = s.flash := h.flash
  unfold State.runCols State.runLooms State.grade State.recField State.recordOk State.recBits
  rw [h.partOfQuad, part_of_view h.parts, hflash]

theorem Missed.quad (q : Nat) : t.quad q = s.quad q := quad_of_view h.quads q

end

theorem missed_bump (s : State) {r : Nat} (hr : fabricCount r) (n : Nat) : Missed s (s.bump r n) :=
  ⟨fun _ => rfl, fun _ h => h, rfl, rfl, rfl, fun j _ hj => obj_bump_other s (fun e => hj (by rw [e]; exact hr)) n⟩

theorem missed_raise (s : State) {x : Raise} (hx : x.sev ≤ 4) : Missed s (s.raise x) where
  tab j := congrArg Loom.streamTab (loom_of_view (view_raise (by decide) s x) j)
  missed j hj := (congrArg Loom.slotMissed (loom_of_view (view_raise (by decide) s x) j)).trans hj
  quads := view_raise (by decide) s x
  parts := view_raise (by decide) s x
  flash := view_raise (by decide) s x
  objs _ hr _ := obj_raise s hr hx

theorem missed_raiseQuad (s : State) (q code : Nat) {sev : Nat} (hsev : sev ≤ 4) (uclass unit op detail : Nat) :
    Missed s (s.raiseQuad q code sev uclass unit op detail) := missed_raise s hsev

section
variable (s : State) (l : LoomId)

/-- A loom that keeps its slot table, and a miss that it has met. -/
theorem missed_setLoom {x : Loom} (htab : x.streamTab = (s.loom l).streamTab) (hmiss : (s.loom l).slotMissed = true → x.slotMissed = true) :
    Missed s (s.setLoom l x) := by
  refine ⟨fun j => ?_, fun j hj => ?_, rfl, rfl, rfl, fun _ _ _ => rfl⟩
  · by_cases h : j = l
    · rw [h, loom_setLoom_same, htab]
    · rw [loom_setLoom_other s h]
  · by_cases h : j = l
    · rw [h] at hj ⊢
      rw [loom_setLoom_same]
      exact hmiss hj
    · rw [loom_setLoom_other s h]
      exact hj

theorem missed_slotMiss (stream slot : Nat) : Missed s (s.slotMiss l stream slot) :=
  ((missed_bump s ⟨l.q, l.q.isLt, .inr (.inl rfl)⟩ 1).trans (missed_raiseQuad _ _ _ (by decide) _ _ _ _)).trans
    (missed_setLoom _ l rfl fun _ => rfl)

theorem slotMissed_slotMiss (stream slot : Nat) : ((s.slotMiss l stream slot).loom l).slotMissed = true := by
  unfold State.slotMiss
  rw [loom_setLoom_same]

theorem obj_slotMiss {r : Nat} (hr : r ∉ raisedObjs) (hc : ∀ q < 4, r ≠ 0x30F006 + 0x10000 * q) (stream slot : Nat) :
    (s.slotMiss l stream slot).obj r = s.obj r := by
  unfold State.slotMiss
  rw [obj_setLoom, obj_raiseQuad _ hr (by decide), obj_bump_other _ (hc _ l.q.isLt)]

/-- Each loom that a discarded word would have reached meets a miss. -/
theorem slotMissed_foldl (stream slot : Nat) {d : LoomId} : ∀ (ds : List LoomId) (s : State), d ∈ ds →
    ((ds.foldl (fun (t : State) d => t.slotMiss d stream slot) s).loom d).slotMissed = true
  | [], _, h => absurd h (List.not_mem_nil)
  | e :: ds, s, h => by
    rw [List.foldl_cons]
    rcases List.mem_cons.1 h with h | h
    · exact (Missed.foldl (fun t d => missed_slotMiss t d stream slot) ds _).missed d (h ▸ slotMissed_slotMiss s e stream slot)
    · exact slotMissed_foldl stream slot ds _ h

theorem missed_missBeyond (stream inp slot : Nat) : Missed s (s.missBeyond l stream inp slot) :=
  Missed.foldl (fun t d => missed_slotMiss t d stream slot) _ s

theorem obj_missBeyond {r : Nat} (hr : r ∉ raisedObjs) (hc : ∀ q < 4, r ≠ 0x30F006 + 0x10000 * q) (stream inp slot : Nat) :
    (s.missBeyond l stream inp slot).obj r = s.obj r := obj_foldl (fun t d => obj_slotMiss t d hr hc stream slot) _ s

/-- A word is discarded between `s` and `t`: the looms that it would have reached meet a miss. -/
structure Discarded (s t : State) (l : LoomId) (w : RWord) : Prop where
  missed : Missed s t
  reached : ∀ d ∈ streamLooms s.slotEntry (s.hubDest l.q.val) (s.runCols l.q.val) (sideStream w.word)
      (l.q.val, l.r.val, l.c.val, w.input.toNat), (t.loom d).slotMissed = true

theorem Discarded.then {s t u : State} {l : LoomId} {w : RWord} (h : Discarded s t l w) (g : Missed t u) : Discarded s u l w :=
  ⟨h.missed.trans g, fun d hd => g.missed d (h.reached d hd)⟩

theorem Discarded.after {s t u : State} {l : LoomId} {w : RWord} (h : Missed s t) (g : Discarded t u l w) : Discarded s u l w :=
  ⟨h.trans g.missed, fun d hd => g.reached d (by rw [h.slotEntry, h.hubDest, h.runCols]; exact hd)⟩

theorem discarded_missBeyond (w : RWord) (slot : Nat) : Discarded s (s.missBeyond l (sideStream w.word) w.input.toNat slot) l w :=
  ⟨missed_missBeyond s l _ _ _, fun _ hd => slotMissed_foldl _ slot _ s hd⟩

theorem discarded_crcDrop (t : Nat) (w : RWord) : Discarded s (s.crcDrop l t w) l w :=
  ((discarded_missBeyond _ l w t).then (missed_raiseQuad _ _ _ (by decide) _ _ _ _)).after
    (missed_bump s ⟨l.q, l.q.isLt, .inr (.inr rfl)⟩ 1)

theorem discarded_collide (ws : List RWord) (t : Nat) (w : RWord) : Discarded s (s.collide l ws t w) l w :=
  (discarded_missBeyond _ l w t).after
    ((missed_bump s ⟨l.q, l.q.isLt, .inl rfl⟩ 1).trans (missed_raiseQuad _ _ _ (by decide) _ _ _ _))

theorem counted_crcDrop (t : Nat) (w : RWord) : Counted s (s.crcDrop l t w) (0x30F007 + 0x10000 * l.q.val) 1 := by
  have hq := l.q.isLt
  have hr : 0x30F007 + 0x10000 * l.q.val ∉ raisedObjs := by simp only [raisedObjs, List.mem_cons, List.not_mem_nil, or_false]; omega
  unfold Counted State.crcDrop
  rw [obj_raiseQuad _ hr (by decide), obj_missBeyond _ l hr (fun q hq => by omega), obj_bump_same]

theorem counted_collide (ws : List RWord) (t : Nat) (w : RWord) : Counted s (s.collide l ws t w) (0x30F005 + 0x10000 * l.q.val) 1 := by
  have hq := l.q.isLt
  have hr : 0x30F005 + 0x10000 * l.q.val ∉ raisedObjs := by simp only [raisedObjs, List.mem_cons, List.not_mem_nil, or_false]; omega
  unfold Counted State.collide
  dsimp only
  rw [obj_missBeyond _ l hr (fun q hq => by omega), obj_raiseQuad _ hr (by decide), obj_bump_same]

theorem missed_promoteSums : Missed s (s.promoteSums l) := by
  unfold State.promoteSums
  dsimp only
  split
  · exact .refl s
  · refine Missed.trans ?_ (.foldl (fun t _ => missed_slotMiss t l _ _) _ _)
    exact missed_setLoom s l rfl fun h => h

theorem obj_promoteSums {r : Nat} (hr : r ∉ raisedObjs) (hc : ∀ q < 4, r ≠ 0x30F006 + 0x10000 * q) : (s.promoteSums l).obj r = s.obj r := by
  unfold State.promoteSums
  dsimp only
  split
  · rfl
  · exact obj_foldl (fun t _ => obj_slotMiss t l hr hc _ _) _ _

theorem missed_tableEcc (ecc : Ecc) : Missed s (s.tableEcc l ecc) := by
  unfold State.tableEcc
  split
  · exact missed_raiseQuad s _ _ (by decide) _ _ _ _
  · exact missed_raiseQuad s _ _ (by decide) _ _ _ _
  · exact .refl s

theorem obj_tableEcc {r : Nat} (hr : r ∉ raisedObjs) (ecc : Ecc) : (s.tableEcc l ecc).obj r = s.obj r := by
  unfold State.tableEcc
  split
  · exact obj_raiseQuad s hr (by decide) ..
  · exact obj_raiseQuad s hr (by decide) ..
  · rfl

end

/-! ### The outputs of a slot -/

/-- One output after the other is served in slot `t`, the loom's own words as they were given (R178). -/
def State.serveOut (l : LoomId) (ws : List RWord) (t : Nat) (noise : Word512) (x : State × List (Nat × FWord × BitVec 10)) (o : Nat) :
    State × List (Nat × FWord × BitVec 10) := x.1.slotOut l ws t noise x.2 o

/-- The words of the slot are taken from the router's buffers. -/
def State.slotTaken (s : State) (l : LoomId) : State :=
  (s.promoteSums l).setQuad l.q { s.quad l.q with
    words := (s.quad l.q).words.filter (fun w => !((s.quad l.q).slottedAt l.r l.c (s.slotNow l.q)).contains w) }

/-- What follows for the sound words `good` of slot `t`: those that no output names are discarded, then the outputs are served (R178, R179). -/
def State.slotServed (s : State) (l : LoomId) (good : List RWord) (t : Nat) (ecc : Ecc) (noise : Word512) : State :=
  let lost := if ecc = .multi then good else good.filter (fun w => !s.slotNamed l t w)
  let s1 := (lost.foldl (fun (x : State) w => x.collide l good t w) s).tableEcc l ecc
  if ecc = .multi then s1 else ((List.range 6).foldl (State.serveOut l good t noise) (s1, [])).1

theorem exec_slotForward (s : State) (q : Fin 4) (r : Fin 20) (c : Fin 25) (ecc : Ecc) (noise : Word512) (hruns : s.quadRuns q = true) :
    exec (.slotForward q r c ecc noise) s = .next (((((s.quad q).slottedAt r c (s.slotNow q)).filter (fun w => !crcOk w.word)).foldl
      (fun (x : State) w => x.crcDrop (routerOf q r c) (s.slotNow q) w) (s.slotTaken (routerOf q r c))).slotServed (routerOf q r c)
        (((s.quad q).slottedAt r c (s.slotNow q)).filter (fun w => crcOk w.word)) (s.slotNow q) ecc noise) := by
  have hquad : (s.promoteSums (routerOf q r c)).quad q = s.quad q := (missed_promoteSums s (routerOf q r c)).quad q
  change execSlotForward q r c ecc noise s = _
  unfold execSlotForward
  rw [if_pos hruns]
  dsimp only
  rw [hquad]
  rfl

/-! ### Outputs, with and without an owner -/

theorem slotOut_unowned {s : State} {l : LoomId} {o t : Nat} (h : entryStream (s.slotEntry l o t) = 255) (ws : List RWord) (noise : Word512)
    (own : List (Nat × FWord × BitVec 10)) : s.slotOut l ws t noise own o = (s, own) := by
  unfold State.slotOut
  simp [h]

/-- A router no output of which has an owner in the slot sends nothing. -/
theorem serveOut_unowned {s : State} {l : LoomId} {t : Nat} (h : ∀ u < 6, entryStream (s.slotEntry l u t) = 255) (ws : List RWord)
    (noise : Word512) : ((List.range 6).foldl (State.serveOut l ws t noise) (s, [])).1 = s := by
  have hstays (us : List Nat) (hus : ∀ u ∈ us, u < 6) : us.foldl (State.serveOut l ws t noise) (s, []) = (s, []) := by
    induction us with
    | nil => rfl
    | cons u us ih =>
      obtain ⟨hu, hus⟩ := List.forall_mem_cons.1 hus
      rw [List.foldl_cons, State.serveOut, slotOut_unowned (h u hu), ih hus]
  rw [hstays _ fun u hu => List.mem_range.1 hu]

/-- A router one output of which has an owner in the slot: that output is served, provided that the slot table stands. -/
theorem serveOut_one {s u : State} {l : LoomId} {o t : Nat} {ws : List RWord} {noise : Word512} {own : List (Nat × FWord × BitVec 10)}
    (ho : o < 6) (hfree : ∀ v < 6, v ≠ o → entryStream (s.slotEntry l v t) = 255) (hone : s.slotOut l ws t noise [] o = (u, own))
    (htab : o ≠ 5 → (u.loom l).streamTab = (s.loom l).streamTab) :
    ((List.range 6).foldl (State.serveOut l ws t noise) (s, [])).1 = u := by
  have hentry (h5 : o ≠ 5) (v : Nat) : u.slotEntry l v t = s.slotEntry l v t := by
    unfold State.slotEntry
    rw [htab h5]
  have hfixed (vs : List Nat) (x : State × List (Nat × FWord × BitVec 10)) (hvs : ∀ v ∈ vs, entryStream (x.1.slotEntry l v t) = 255) :
      vs.foldl (State.serveOut l ws t noise) x = x := by
    induction vs with
    | nil => rfl
    | cons v vs ih =>
      obtain ⟨hv, hvs⟩ := List.forall_mem_cons.1 hvs
      rw [List.foldl_cons, State.serveOut, slotOut_unowned hv, ih hvs]
  obtain ⟨before, after, hsplit⟩ := List.append_of_mem (List.mem_range.2 ho)
  have hmem (v : Nat) (hv : v ∈ before ++ o :: after) : v < 6 := List.mem_range.1 (hsplit ▸ hv)
  have horder : (before ++ o :: after).Pairwise (· < ·) := hsplit ▸ List.pairwise_lt_range
  obtain ⟨-, hafter, hbefore⟩ := List.pairwise_append.1 horder
  rw [hsplit, List.foldl_append, List.foldl_cons, hfixed before _ fun v hv => hfree v (hmem v (by simp [hv]))
    (Nat.ne_of_lt (hbefore v hv o List.mem_cons_self)), State.serveOut, hone, hfixed]
  intro v hv
  have hlt : o < v := (List.pairwise_cons.1 hafter).1 v hv
  have hv6 := hmem v (by simp [hv])
  exact (congrArg entryStream (hentry (by omega) v)).trans (hfree v hv6 (by omega))

theorem slotServed_owned {s u : State} {l : LoomId} {o t : Nat} {ws : List RWord} {noise : Word512} {own : List (Nat × FWord × BitVec 10)}
    (ho : o < 6) (hfree : ∀ v < 6, v ≠ o → entryStream (s.slotEntry l v t) = 255) (hnamed : ∀ w ∈ ws, s.slotNamed l t w = true)
    (hone : s.slotOut l ws t noise [] o = (u, own)) (htab : o ≠ 5 → (u.loom l).streamTab = (s.loom l).streamTab) :
    s.slotServed l ws t .clean noise = u := by
  have hlost : ws.filter (fun w => !s.slotNamed l t w) = [] := List.filter_eq_nil_iff.2 fun w hw => by simp [hnamed w hw]
  unfold State.slotServed
  dsimp only
  rw [if_neg (by decide), if_neg (by decide), hlost]
  exact serveOut_one ho hfree hone htab

section
variable {s : State} {l : LoomId} {o t : Nat} {noise : Word512}

/-- An arriving word leaves by the output that names its stream and input. -/
theorem slotOut_arriving {w : RWord} (hused : s.outUsed l o = false) (hstream : entryStream (s.slotEntry l o t) = sideStream w.word)
    (howned : sideStream w.word ≠ 255) (hin : entryIn (s.slotEntry l o t) = w.input.toNat) (harrives : w.input ≠ 0) :
    s.slotOut l [w] t noise [] o = (s.leaves l o t w.word w.place noise, []) := by
  have hne : w.input.toNat ≠ 0 := fun e => harrives (BitVec.eq_of_toNat_eq e)
  unfold State.slotOut entryNames
  simp [hused, hstream, howned, hin, hne]

/-- The loom's own word leaves by the output that its stream owns. -/
theorem slotOut_own {ws : List RWord} {w : FWord} {place : BitVec 10} {x : Loom} (hused : s.outUsed l o = false)
    (howned : entryStream (s.slotEntry l o t) ≠ 255) (hin : entryIn (s.slotEntry l o t) = 0)
    (hready : (s.loom l).readyWord (entryStream (s.slotEntry l o t)) (s.quad l.q).count = some (w, place, x)) :
    s.slotOut l ws t noise [] o
      = ((s.setLoom l x).leaves l o t w place noise, [(entryStream (s.slotEntry l o t), w, place)]) := by
  unfold State.slotOut
  simp [hused, howned, hin, hready]

theorem streamTab_readyWord {x y : Loom} {stream : Nat} {n : BitVec 64} {w : FWord} {i : BitVec 10} (h : x.readyWord stream n = some (w, i, y)) :
    y.streamTab = x.streamTab := by
  unfold Loom.readyWord at h
  (repeat' split at h) <;> cases h <;> rfl

end

/-! ### Words that leave -/

section
variable (s : State) (l : LoomId) (o t : Nat) (w : FWord) (place : BitVec 10) (noise : Word512)

theorem neighbour_inner {cols r c o : Nat} {x : Nat × Nat × Nat} (h : neighbour cols r c o = some x) : o ≠ 0 ∧ o ≠ 5 := by
  constructor <;> rintro rfl <;> cases h

/-- A word for the next router leaves into its input's buffer. -/
theorem leaves_router {r c i : Nat} (h : neighbour (s.runCols l.q) l.r l.c o = some (r, c, i)) : s.leaves l o t w place noise
    = (s.useOut l o).putWord l.q { r := Fin.ofNat 20 r, c := Fin.ofNat 25 c, input := BitVec.ofNat 3 i
                                   slot := BitVec.ofNat 8 (t + hopCycles), tag := 0, word := noisy w noise, place := place } := by
  obtain ⟨h0, h5⟩ := neighbour_inner h
  have hnext : neighbour ((s.useOut l o).runCols l.q) l.r l.c o = some (r, c, i) := h
  unfold State.leaves
  dsimp only
  rw [if_neg h0, if_neg h5, hnext]

theorem quad_useOut : (s.useOut l o).quad l.q = { s.quad l.q with
    used := SMap.set 0 (s.quad l.q).used (rotationKey l o) ((s.quad l.q).count.toNat + 1) } := quad_setQuad_same ..

theorem quad_putWord (q : Nat) (x : RWord) : (s.putWord q x).quad q = { s.quad q with words := (s.quad q).words ++ [x] } := quad_setQuad_same ..

/-- The quadrant of a word that leaves: its output is used, and words may wait there. -/
theorem quad_leaves : ((s.leaves l o t w place noise).quad l.q).used
      = SMap.set 0 (s.quad l.q).used (rotationKey l o) ((s.quad l.q).count.toNat + 1)
    ∧ OnlyQuads [l.q.val] s (s.leaves l o t w place noise) := by
  have huse : OnlyQuads [l.q.val] s (s.useOut l o) := fun j hj => quad_setQuad_other s (List.ne_of_not_mem_cons hj) _
  unfold State.leaves
  dsimp only
  split
  · exact ⟨congrArg Quad.used (quad_useOut s l o), huse⟩
  · split
    · have hview := view_toBridge (ar := .quads) (by decide) (s.useOut l o) l t w (noisy w noise)
      exact ⟨congrArg Quad.used ((quad_of_view hview l.q).trans (quad_useOut s l o)), fun j hj => (quad_of_view hview j).trans (huse j hj)⟩
    · split
      · refine ⟨?_, fun j hj => (quad_setQuad_other _ (List.ne_of_not_mem_cons hj) _).trans (huse j hj)⟩
        rw [quad_putWord, quad_useOut]
      · exact ⟨congrArg Quad.used (quad_useOut s l o), huse⟩

theorem streamTab_leaves (h5 : o ≠ 5) : ((s.leaves l o t w place noise).loom l).streamTab = (s.loom l).streamTab := by
  unfold State.leaves
  dsimp only
  rw [if_neg h5]
  split
  · rw [loom_setLoom_same]
    rfl
  · split <;> rfl

end

end Sys2Proof.Machine
end

section
/-! Slotted words (08 R176 to R179): the first half of O46. -/

namespace Sys2Proof.Machine

open Sys2Proof

/-! ### Discarded words -/

section
variable (s : State) (l : LoomId)

theorem quad_slotTaken {w : RWord} (hone : (s.quad l.q).slottedAt l.r l.c (s.slotNow l.q) = [w]) :
    (s.slotTaken l).quad l.q = { s.quad l.q with words := (s.quad l.q).words.filter (fun x => x != w) } := by
  unfold State.slotTaken
  rw [quad_setQuad_same, hone]
  simp only [List.contains_cons, List.contains_nil, Bool.or_false]
  rfl

theorem slotEntry_slotTaken : (s.slotTaken l).slotEntry = s.slotEntry := (missed_promoteSums s l).slotEntry

theorem obj_slotTaken {r : Nat} (hr : r ∉ raisedObjs) (hc : ∀ q < 4, r ≠ 0x30F006 + 0x10000 * q) : (s.slotTaken l).obj r = s.obj r :=
  obj_promoteSums s l hr hc

variable {s l}

theorem Discarded.reached_slotTaken {t : State} {w : RWord} (h : Discarded (s.slotTaken l) t l w) : ∀ d ∈ streamLooms s.slotEntry
    (s.hubDest l.q.val) (s.runCols l.q.val) (sideStream w.word) (l.q.val, l.r.val, l.c.val, w.input.toNat), (t.loom d).slotMissed = true := by
  have hm := missed_promoteSums s l
  intro d hd
  refine h.reached d ?_
  rw [← hm.slotEntry, ← hm.hubDest, ← hm.runCols] at hd
  exact hd

/-- Where no output has an owner, or the slot table cannot be read, every sound word is discarded (R178; log 68). -/
theorem slotServed_refuses {ecc : Ecc} {t : Nat} (h : ecc = .multi ∨ ∀ u < 6, entryStream (s.slotEntry l u t) = 255) (good : List RWord)
    (noise : Word512) : s.slotServed l good t ecc noise = (good.foldl (fun (x : State) w => x.collide l good t w) s).tableEcc l ecc := by
  unfold State.slotServed
  dsimp only
  rcases h with h | h
  · rw [if_pos h, if_pos h]
  · have hnone (w : RWord) : s.slotNamed l t w = false := by
      unfold State.slotNamed entryNames
      refine List.any_eq_false.2 fun u hu hnamed => ?_
      simp only [h u (List.mem_range.1 hu), Bool.and_eq_true, beq_iff_eq, bne_iff_ne] at hnamed
      exact hnamed.2 hnamed.1.1.symm
    have hlost : (if ecc = .multi then good else good.filter (fun w => !s.slotNamed l t w)) = good := by
      split
      · rfl
      · exact List.filter_eq_self.2 fun w _ => by rw [hnone w]; rfl
    have hmissed : Missed s ((good.foldl (fun (x : State) w => x.collide l good t w) s).tableEcc l ecc) :=
      (Missed.foldl (fun x w => (discarded_collide x l good t w).missed) good s).trans (missed_tableEcc _ l ecc)
    rw [hlost, serveOut_unowned fun u hu => by rw [hmissed.slotEntry]; exact h u hu]
    exact ite_self _

theorem tableEcc_clean (s : State) (l : LoomId) : s.tableEcc l .clean = s := rfl

/-- A damaged word alone in its slot is discarded (R176). -/
theorem slotForward_damaged {q : Fin 4} {r : Fin 20} {c : Fin 25} {noise : Word512} {w : RWord} (hruns : s.quadRuns q = true)
    (hone : (s.quad q).slottedAt r c (s.slotNow q) = [w]) (hbad : crcOk w.word = false)
    (hfree : ∀ u, u < 6 → entryStream (s.slotEntry (routerOf q r c) u (s.slotNow q)) = 255) : ∃ t,
    exec (.slotForward q r c .clean noise) s = .next t
      ∧ t.quad q = { s.quad q with words := (s.quad q).words.filter (fun x => x != w) }
      ∧ (∀ d ∈ streamLooms s.slotEntry (s.hubDest q) (s.runCols q) (sideStream w.word) (q.val, r.val, c.val, w.input.toNat),
          (t.loom d).slotMissed = true)
      ∧ Counted s t (0x30F007 + 0x10000 * q.val) 1 := by
  have hq := q.isLt
  have hdrop := discarded_crcDrop (s.slotTaken (routerOf q r c)) (routerOf q r c) (s.slotNow q) w
  have hcount := counted_crcDrop (s.slotTaken (routerOf q r c)) (routerOf q r c) (s.slotNow q) w
  refine ⟨(s.slotTaken (routerOf q r c)).crcDrop (routerOf q r c) (s.slotNow q) w, (exec_slotForward s q r c _ _ hruns).trans ?_,
    (hdrop.missed.quad q).trans (quad_slotTaken s (routerOf q r c) hone), hdrop.reached_slotTaken, ?_⟩
  · rw [hone, List.filter_cons_of_pos (by simp [hbad]), List.filter_cons_of_neg (by simp [hbad]), List.filter_nil, List.filter_nil,
      slotServed_refuses (.inr fun u hu => ?_), List.foldl_nil, List.foldl_cons, List.foldl_nil, tableEcc_clean]
    · rw [List.foldl_cons, List.foldl_nil, hdrop.missed.slotEntry, slotEntry_slotTaken]
      exact hfree u hu
  · unfold Counted at hcount ⊢
    rw [hcount, obj_slotTaken s _ (by simp only [raisedObjs, List.mem_cons, List.not_mem_nil, or_false]; omega) fun q hq => by omega]

/-- A sound word that no output names, or whose slot table cannot be read, is a slot collision (R179). -/
theorem slotForward_refused {q : Fin 4} {r : Fin 20} {c : Fin 25} {ecc : Ecc} {noise : Word512} {w : RWord} (hruns : s.quadRuns q = true)
    (hone : (s.quad q).slottedAt r c (s.slotNow q) = [w]) (hsound : crcOk w.word = true)
    (hfree : ecc = .multi ∨ ∀ u, u < 6 → entryStream (s.slotEntry (routerOf q r c) u (s.slotNow q)) = 255) : ∃ t,
    exec (.slotForward q r c ecc noise) s = .next t
      ∧ t.quad q = { s.quad q with words := (s.quad q).words.filter (fun x => x != w) }
      ∧ (∀ d ∈ streamLooms s.slotEntry (s.hubDest q) (s.runCols q) (sideStream w.word) (q.val, r.val, c.val, w.input.toNat),
          (t.loom d).slotMissed = true)
      ∧ Counted s t (0x30F005 + 0x10000 * q.val) 1 := by
  have hq := q.isLt
  have hr : 0x30F005 + 0x10000 * q.val ∉ raisedObjs := by simp only [raisedObjs, List.mem_cons, List.not_mem_nil, or_false]; omega
  have hdrop := discarded_collide (s.slotTaken (routerOf q r c)) (routerOf q r c) [w] (s.slotNow q) w
  have hcount := counted_collide (s.slotTaken (routerOf q r c)) (routerOf q r c) [w] (s.slotNow q) w
  refine ⟨((s.slotTaken (routerOf q r c)).collide (routerOf q r c) [w] (s.slotNow q) w).tableEcc (routerOf q r c) ecc,
    (exec_slotForward s q r c _ _ hruns).trans ?_,
    (((hdrop.missed.trans (missed_tableEcc _ _ ecc)).quad q)).trans (quad_slotTaken s (routerOf q r c) hone),
    (hdrop.then (missed_tableEcc _ _ ecc)).reached_slotTaken, ?_⟩
  · rw [hone, List.filter_cons_of_neg (by simp [hsound]), List.filter_cons_of_pos (by simp [hsound]), List.filter_nil, List.filter_nil,
      slotServed_refuses (hfree.imp_right fun h u hu => ?_), List.foldl_nil, List.foldl_cons, List.foldl_nil]
    · rw [List.foldl_nil, slotEntry_slotTaken]
      exact h u hu
  · unfold Counted at hcount ⊢
    rw [obj_tableEcc _ _ hr, hcount, obj_slotTaken s _ hr fun q hq => by omega]

end

/-! ### Words that are served -/

/-- `u` is `s` after a router took up the words of its slot, and no sum entered its loom's hold: `ws` still wait in the quadrant. -/
structure TookUp (s u : State) (l : LoomId) (ws : List RWord) : Prop where
  state : ∃ L Q, u = { s with looms := L, quads := Q }
  loom : ∀ j, u.loom j = s.loom j
  quad : u.quad l.q = { s.quad l.q with words := ws }
  others : OnlyQuads [l.q.val] s u

section
variable {s u : State} {l : LoomId} {ws : List RWord}

/-- Where no sum is on its way into the loom's hold, none enters it. -/
theorem promoteSums_settled (hsums : ∀ x, (s.loom l).role = some x → x.coming = []) :
    s.promoteSums l = s ∨ s.promoteSums l = s.setLoom l (s.loom l) := by
  unfold State.promoteSums
  dsimp only
  split
  · exact .inl rfl
  next x hx =>
    have hsame : ({ s.loom l with role := some { x with held := x.held, coming := [] } } : Loom) = s.loom l := by
      rw [← hsums x hx, ← hx]
    rw [hsums x hx]
    exact .inr (congrArg (s.setLoom l) hsame)

theorem tookUp_slotTaken (hsums : ∀ x, (s.loom l).role = some x → x.coming = [])
    (hws : (s.quad l.q).words.filter (fun w => !((s.quad l.q).slottedAt l.r l.c (s.slotNow l.q)).contains w) = ws) :
    TookUp s (s.slotTaken l) l ws := by
  subst hws
  refine ⟨?_, fun j => ?_, quad_setQuad_same .., fun j hj => ?_⟩
  · unfold State.slotTaken
    rcases promoteSums_settled hsums with h | h <;> rw [h]
    · exact ⟨s.looms, _, rfl⟩
    · exact ⟨_, _, rfl⟩
  · change (s.promoteSums l).loom j = s.loom j
    rcases promoteSums_settled hsums with h | h <;> rw [h]
    by_cases hj : j = l
    · rw [hj]
      exact loom_setLoom_same ..
    · exact loom_setLoom_other s hj _
  · exact (quad_setQuad_other _ (List.ne_of_not_mem_cons hj) _).trans ((missed_promoteSums s l).quad j)

variable (h : TookUp s u l ws)
include h

theorem TookUp.slotEntry : u.slotEntry = s.slotEntry := by
  funext j o n
  unfold State.slotEntry
  rw [h.loom]

theorem TookUp.outUsed (o : Nat) : u.outUsed l o = s.outUsed l o := by
  unfold State.outUsed
  rw [h.quad]

theorem TookUp.runCols (q : Nat) : u.runCols q = s.runCols q := by
  obtain ⟨L, Q, rfl⟩ := h.state
  rfl

theorem TookUp.obj (r : Nat) : u.obj r = s.obj r := by
  obtain ⟨L, Q, rfl⟩ := h.state
  rfl

/-- A word that leaves to its loom waits in its buffer (03 R71). -/
theorem TookUp.toLoom (t : Nat) (w : FWord) (place : BitVec 10) (noise : Word512) :
    LoomBecomes s (u.leaves l 0 t w place noise) l { s.loom l with
        rxBuf := (s.loom l).rxBuf ++ [{ stream := BitVec.ofNat 8 (sideStream w), word := w, since := (s.quad l.q).count + 2, place := place }] }
      ∧ ((u.leaves l 0 t w place noise).quad l.q).words = ws ∧ OnlyObjs [] s (u.leaves l 0 t w place noise) := by
  have hquad := (quad_useOut u l 0).trans (congrArg (fun x : Quad => { x with
    used := SMap.set 0 x.used (rotationKey l 0) (x.count.toNat + 1) }) h.quad)
  have hleaves : u.leaves l 0 t w place noise = (u.useOut l 0).setLoom l { s.loom l with
      rxBuf := (s.loom l).rxBuf ++ [{ stream := BitVec.ofNat 8 (sideStream w), word := w, since := (s.quad l.q).count + 2, place := place }] } := by
    unfold State.leaves
    dsimp only
    rw [if_pos rfl, hquad, show (u.useOut l 0).loom l = s.loom l from h.loom l]
    rfl
  rw [hleaves]
  refine ⟨⟨by rw [loom_setLoom_same], fun j hj => ?_⟩, ?_, fun r _ => h.obj r⟩
  · exact (loom_setLoom_other _ (List.ne_of_not_mem_cons hj) _).trans (h.loom j)
  · rw [quad_setLoom, hquad]

/-- A word that leaves to the next router. -/
theorem TookUp.toRouter {o r2 c2 i : Nat} (hnext : neighbour (s.runCols l.q) l.r l.c o = some (r2, c2, i)) (t : Nat) (w : FWord)
    (place : BitVec 10) (noise : Word512) : OnlyLooms [] s (u.leaves l o t w place noise)
      ∧ (u.leaves l o t w place noise).quad l.q = { s.quad l.q with
          used := SMap.set 0 (s.quad l.q).used (rotationKey l o) ((s.quad l.q).count.toNat + 1)
          words := ws ++ [{ r := Fin.ofNat 20 r2, c := Fin.ofNat 25 c2, input := BitVec.ofNat 3 i, slot := BitVec.ofNat 8 (t + 3)
                            tag := 0, word := noisy w noise, place := place }] }
      ∧ OnlyObjs [] s (u.leaves l o t w place noise) := by
  rw [leaves_router u l o t w place noise (by rw [h.runCols]; exact hnext)]
  refine ⟨fun j _ => h.loom j, ?_, fun r _ => h.obj r⟩
  rw [quad_putWord, quad_useOut, h.quad]
  rfl

/-- A word that leaves by the bridge is on its way to the bridge that the slot table of the hub names (R183, R184). -/
theorem TookUp.toBridge {m : Nat} (t : Nat) (w : FWord) (place : BitVec 10) (noise : Word512)
    (hdest : s.hubDest l.q (bridgeOf l.q l.r) ((t + 3) % 256) = some m) (hown : s.partOfQuad (m / 4) = s.partOfQuad l.q)
    (htakes : s.queueTakes (2 * bridgeOf l.q l.r) = true) :
    ((u.leaves l 5 t w place noise).quad l.q).words = ws
      ∧ SMap.get [] (u.leaves l 5 t w place noise).bridgeAir m = SMap.get [] s.bridgeAir m ++
          [if crcOk (noisy w noise) then FWordSend w ((s.quad l.q).count.toNat + 3)
           else { FWordSend w ((s.quad l.q).count.toNat + 3) with payload := (noisy w noise).payload }] := by
  have hquad := (quad_useOut u l 5).trans (congrArg (fun x : Quad => { x with
    used := SMap.set 0 x.used (rotationKey l 5) (x.count.toNat + 1) }) h.quad)
  have hdest' : (u.useOut l 5).hubDest l.q (bridgeOf l.q l.r) ((t + hopCycles) % 256) = some m := by
    obtain ⟨L, Q, rfl⟩ := h.state
    exact hdest
  have hown' : (u.useOut l 5).partOfQuad (m / 4) = (u.useOut l 5).partOfQuad l.q := by
    obtain ⟨L, Q, rfl⟩ := h.state
    exact hown
  have htakes' : (u.useOut l 5).queueTakes (2 * bridgeOf l.q l.r) = true := by
    obtain ⟨L, Q, rfl⟩ := h.state
    exact htakes
  have hair : (u.useOut l 5).bridgeAir = s.bridgeAir := by
    obtain ⟨L, Q, rfl⟩ := h.state
    rfl
  have hpass := view_passQueue (ar := .bridges) (by decide) (u.useOut l 5) (2 * bridgeOf l.q l.r) 1
  have hpassAir : ((u.useOut l 5).passQueue (2 * bridgeOf l.q l.r) 1).bridgeAir = s.bridgeAir := (Prod.ext_iff.1 hpass).2.trans hair
  have hpassQuad := quad_of_view (view_passQueue (ar := .quads) (by decide) (u.useOut l 5) (2 * bridgeOf l.q l.r) 1) l.q
  unfold State.leaves State.toBridge
  dsimp only
  rw [if_neg (by decide), if_pos rfl, hdest']
  dsimp only
  rw [if_neg (not_not.2 hown'), if_pos htakes', hpassAir, hquad]
  exact ⟨congrArg Quad.words (hpassQuad.trans hquad), SMap.get_set_same⟩

end

section
variable {s : State} {q : Fin 4} {r : Fin 20} {c : Fin 25} {o : Fin 6} {noise : Word512} (hruns : s.quadRuns q = true)
  (hsums : ∀ x, (s.loom (routerOf q r c)).role = some x → x.coming = [])
  (hfree : ∀ u, u < 6 → u ≠ o.val → entryStream (s.slotEntry (routerOf q r c) u (s.slotNow q)) = 255)
  (hused : s.outUsed (routerOf q r c) o = false)
include hruns hsums hfree hused

/-- A word that arrives alone in its slot leaves by the output that owns it. -/
theorem exec_slotForward_arriving {w : RWord} (hone : (s.quad q).slottedAt r c (s.slotNow q) = [w]) (hsound : crcOk w.word = true)
    (harrives : w.input ≠ 0) (hstream : entryStream (s.slotEntry (routerOf q r c) o (s.slotNow q)) = sideStream w.word)
    (howned : sideStream w.word ≠ 255) (hin : entryIn (s.slotEntry (routerOf q r c) o (s.slotNow q)) = w.input.toNat) :
    ∃ u, TookUp s u (routerOf q r c) ((s.quad q).words.filter (fun x => x != w))
      ∧ exec (.slotForward q r c .clean noise) s = .next (u.leaves (routerOf q r c) o (s.slotNow q) w.word w.place noise) := by
  have htook : TookUp s (s.slotTaken (routerOf q r c)) (routerOf q r c) ((s.quad q).words.filter (fun x => x != w)) := by
    refine tookUp_slotTaken hsums ?_
    rw [hone]
    simp only [List.contains_cons, List.contains_nil, Bool.or_false]
    rfl
  refine ⟨_, htook, (exec_slotForward s q r c _ _ hruns).trans (congrArg Host.Outcome.next ?_)⟩
  rw [hone, List.filter_cons_of_neg (by simp [hsound]), List.filter_cons_of_pos (by simp [hsound]), List.filter_nil, List.filter_nil]
  refine slotServed_owned o.isLt (fun v hv hne => ?_) (fun x hx => ?_)
    (slotOut_arriving (by rw [← hused]; exact htook.outUsed o) ?_ howned ?_ harrives) (streamTab_leaves _ _ _ _ _ _ _)
  · rw [List.foldl_nil, htook.slotEntry]
    exact hfree v hv hne
  · obtain rfl := List.mem_singleton.1 hx
    refine List.any_eq_true.2 ⟨o, List.mem_range.2 o.isLt, ?_⟩
    rw [List.foldl_nil, htook.slotEntry]
    simp [entryNames, hstream, hin, howned]
  · rw [List.foldl_nil, htook.slotEntry]
    exact hstream
  · rw [List.foldl_nil, htook.slotEntry]
    exact hin

/-- The loom's own word leaves by the output that its stream owns, where no word arrives in the slot (03 R71). -/
theorem exec_slotForward_own {w : FWord} {place : BitVec 10} {x : Loom} {stream : Nat}
    (hnone : (s.quad q).slottedAt r c (s.slotNow q) = []) (hstream : entryStream (s.slotEntry (routerOf q r c) o (s.slotNow q)) = stream)
    (howned : stream ≠ 255) (hin : entryIn (s.slotEntry (routerOf q r c) o (s.slotNow q)) = 0)
    (hready : (s.loom (routerOf q r c)).readyWord stream (s.quad q).count = some (w, place, x)) :
    ∃ u, TookUp s u (routerOf q r c) (s.quad q).words ∧ exec (.slotForward q r c .clean noise) s
      = .next ((u.setLoom (routerOf q r c) x).leaves (routerOf q r c) o (s.slotNow q) w place noise) := by
  have htook : TookUp s (s.slotTaken (routerOf q r c)) (routerOf q r c) (s.quad q).words := by
    refine tookUp_slotTaken hsums ?_
    rw [hnone]
    exact List.filter_eq_self.2 fun _ _ => rfl
  subst hstream
  have hentry : (s.slotTaken (routerOf q r c)).slotEntry = s.slotEntry := htook.slotEntry
  have hready' : ((s.slotTaken (routerOf q r c)).loom (routerOf q r c)).readyWord
      (entryStream ((s.slotTaken (routerOf q r c)).slotEntry (routerOf q r c) o (s.slotNow q)))
      ((s.slotTaken (routerOf q r c)).quad q).count = some (w, place, x) := by
    rw [hentry, htook.loom, show (s.slotTaken (routerOf q r c)).quad q = _ from htook.quad]
    exact hready
  refine ⟨_, htook, (exec_slotForward s q r c _ _ hruns).trans (congrArg Host.Outcome.next ?_)⟩
  rw [hnone, List.filter_nil, List.filter_nil, List.foldl_nil]
  refine slotServed_owned o.isLt (fun v hv hne => ?_) (fun _ hx => absurd hx List.not_mem_nil)
    (slotOut_own (htook.outUsed o |>.trans hused) (by rw [hentry]; exact howned) (by rw [hentry]; exact hin) hready') fun h5 => ?_
  · rw [hentry]
    exact hfree v hv hne
  · rw [streamTab_leaves _ _ _ _ _ _ _ h5, loom_setLoom_same, streamTab_readyWord hready]
    exact congrArg Loom.streamTab (htook.loom _).symm

end

/-! ### What becomes of a slotted word -/

section
variable {s : State} {q : Fin 4} {r : Fin 20} {c : Fin 25} {o : Fin 6} {noise : Word512} (hruns : s.quadRuns q = true)
  (hsums : ∀ x, (s.loom (routerOf q r c)).role = some x → x.coming = [])
  (hfree : ∀ u, u < 6 → u ≠ o.val → entryStream (s.slotEntry (routerOf q r c) u (s.slotNow q)) = 255)
  (hused : s.outUsed (routerOf q r c) o = false)
include hruns hsums hfree hused

theorem slotForward_arriving {w : RWord} (hone : (s.quad q).slottedAt r c (s.slotNow q) = [w]) (hsound : crcOk w.word = true)
    (harrives : w.input ≠ 0) (hstream : entryStream (s.slotEntry (routerOf q r c) o (s.slotNow q)) = sideStream w.word)
    (howned : sideStream w.word ≠ 255) (hin : entryIn (s.slotEntry (routerOf q r c) o (s.slotNow q)) = w.input.toNat) : ∃ t,
    exec (.slotForward q r c .clean noise) s = .next t
      ∧ (t.quad q).used = SMap.set 0 (s.quad q).used (rotationKey (routerOf q r c) o) ((s.quad q).count.toNat + 1)
      ∧ (o = 0 → LoomBecomes s t (routerOf q r c) { s.loom (routerOf q r c) with
            rxBuf := (s.loom (routerOf q r c)).rxBuf ++
              [{ stream := BitVec.ofNat 8 (sideStream w.word), word := w.word, since := (s.quad q).count + 2, place := w.place }] }
          ∧ (t.quad q).words = (s.quad q).words.filter (fun x => x != w) ∧ OnlyObjs [] s t)
      ∧ (∀ r2 c2 i, neighbour (s.runCols q) r c o = some (r2, c2, i) → OnlyLooms [] s t
          ∧ (t.quad q).words = (s.quad q).words.filter (fun x => x != w) ++ [{
              r := Fin.ofNat 20 r2, c := Fin.ofNat 25 c2, input := BitVec.ofNat 3 i, slot := BitVec.ofNat 8 (s.slotNow q + 3),
              tag := 0, word := noisy w.word noise, place := w.place }] ∧ OnlyObjs [] s t)
      ∧ (∀ m, o = 5 → s.hubDest q (bridgeOf q r) ((s.slotNow q + 3) % 256) = some m → s.partOfQuad (m / 4) = s.partOfQuad q →
          s.queueTakes (2 * bridgeOf q r) = true →
          (t.quad q).words = (s.quad q).words.filter (fun x => x != w)
          ∧ SMap.get [] t.bridgeAir m = SMap.get [] s.bridgeAir m ++
              [if crcOk (noisy w.word noise) then FWordSend w.word ((s.quad q).count.toNat + 3)
               else { FWordSend w.word ((s.quad q).count.toNat + 3) with payload := (noisy w.word noise).payload }])
      ∧ OnlyQuads [q.val] s t := by
  obtain ⟨u, htook, hexec⟩ := exec_slotForward_arriving (noise := noise) hruns hsums hfree hused hone hsound harrives hstream howned hin
  obtain ⟨husedOut, hquads⟩ := quad_leaves u (routerOf q r c) o (s.slotNow q) w.word w.place noise
  refine ⟨_, hexec, ?_, fun h0 => ?_, fun r2 c2 i hnext => ?_, fun m h5 hdest hown htakes => ?_, fun j hj => (hquads j hj).trans (htook.others j hj)⟩
  · rw [htook.quad] at husedOut
    exact husedOut
  · subst h0
    exact htook.toLoom _ _ _ _
  · obtain ⟨hlooms, hquad, hobjs⟩ := htook.toRouter hnext (s.slotNow q) w.word w.place noise
    exact ⟨hlooms, congrArg Quad.words hquad, hobjs⟩
  · subst h5
    exact htook.toBridge _ _ _ _ hdest hown htakes

theorem slotForward_own {w : FWord} {place : BitVec 10} {x : Loom} {stream : Nat}
    (hnone : (s.quad q).slottedAt r c (s.slotNow q) = []) (hstream : entryStream (s.slotEntry (routerOf q r c) o (s.slotNow q)) = stream)
    (howned : stream ≠ 255) (hin : entryIn (s.slotEntry (routerOf q r c) o (s.slotNow q)) = 0)
    (hready : (s.loom (routerOf q r c)).readyWord stream (s.quad q).count = some (w, place, x)) {r2 c2 i : Nat}
    (hnext : neighbour (s.runCols q) r c o = some (r2, c2, i)) : ∃ t, exec (.slotForward q r c .clean noise) s = .next t
      ∧ LoomBecomes s t (routerOf q r c) x
      ∧ (t.quad q).words = (s.quad q).words ++ [{
          r := Fin.ofNat 20 r2, c := Fin.ofNat 25 c2, input := BitVec.ofNat 3 i, slot := BitVec.ofNat 8 (s.slotNow q + 3),
          tag := 0, word := noisy w noise, place := place }]
      ∧ OnlyQuads [q.val] s t ∧ OnlyObjs [] s t := by
  obtain ⟨u, htook, hexec⟩ := exec_slotForward_own (noise := noise) hruns hsums hfree hused hnone hstream howned hin hready
  have hnext' : neighbour ((u.setLoom (routerOf q r c) x).runCols q) r c o = some (r2, c2, i) := (htook.runCols q).symm ▸ hnext
  obtain ⟨-, hquads⟩ := quad_leaves (u.setLoom (routerOf q r c) x) (routerOf q r c) o (s.slotNow q) w place noise
  have hleaves := leaves_router (u.setLoom (routerOf q r c) x) (routerOf q r c) o (s.slotNow q) w place noise hnext'
  refine ⟨_, hexec, ⟨?_, fun j hj => ?_⟩, ?_, fun j hj => (hquads j hj).trans (htook.others j hj), fun j _ => ?_⟩ <;> rw [hleaves]
  · rw [show ∀ (t : State) (v : RWord), ((t.useOut (routerOf q r c) o).putWord q v).loom (routerOf q r c) = t.loom (routerOf q r c)
      from fun _ _ => rfl, loom_setLoom_same]
  · exact (loom_setLoom_other _ (List.ne_of_not_mem_cons hj) _).trans (htook.loom j)
  · rw [quad_putWord, quad_useOut, quad_setLoom, htook.quad]
    rfl
  · exact htook.obj j

end

end Sys2Proof.Machine
end

section
/-! Credited and observation words (08 R176, R181 to R183), and O46. -/

namespace Sys2Proof.Machine

open Sys2Proof

/-! ### An item pushed onto a queue that takes it -/

section
variable {s : State} {n : Nat} (item : QItem) (hopen : (s.dcq n).flushing = false) (hwhole : (s.dcq n).cut = false)
  (hroom : (s.dcq n).items.length < queueDepth n)
include hopen hwhole hroom

/-- It is the queue's last item, and no other queue changes (08 R191, R193). -/
theorem pushItem_takes : ((s.pushItem n item).dcq n).items = (s.dcq n).items ++ [storedItem n item] ∧ OnlyQueues [n] s (s.pushItem n item) := by
  have hdepth : queueDepth n ≠ 0 := Nat.ne_of_gt (Nat.lt_of_le_of_lt (Nat.zero_le _) hroom)
  have hpush : s.pushItem n item = (s.setDcq n ((s.dcq n).push (queueDepth n) (storedItem n item))).loopMoved n 1 0 := by
    unfold State.pushItem
    dsimp only
    rw [if_neg hdepth, hopen, hwhole, if_neg Bool.false_ne_true, if_neg Bool.false_ne_true, if_pos hroom]
  have hqueues (t : State) : (t.loopMoved n 1 0).dcqs = t.dcqs := view_loopMoved (ar := .queues) (by decide) t n 1 0
  have hdcq (j : Nat) : (s.pushItem n item).dcq j = (s.setDcq n ((s.dcq n).push (queueDepth n) (storedItem n item))).dcq j := by
    unfold State.dcq
    rw [hpush, hqueues]
    rfl
  refine ⟨?_, fun j hj => (hdcq j).trans (dcq_setDcq_other s (List.ne_of_not_mem_cons hj) _)⟩
  rw [hdcq, dcq_setDcq_same, Dcq.push, if_pos hroom]

end

theorem quad_pushItem (s : State) (n : Nat) (item : QItem) (j : Nat) : (s.pushItem n item).quad j = s.quad j :=
  quad_of_view (view_pushItem (by decide) s n item) j

/-- An item of a queue that does not observe is kept as it comes. -/
theorem storedItem_wordItem {n : Nat} (hn : queueObserves n = false) (w : FWord) : storedItem n (wordItem w) = wordItem w := by
  unfold storedItem
  rw [hn, Bool.or_false]
  rfl

theorem queueObserves_below {n : Nat} (hn : n < 0x400) : queueObserves n = false := by
  unfold queueObserves
  rw [decide_eq_false (by omega), Bool.false_and]

/-! ### A credited word that leaves (R181) -/

/-- `u` is `s` after a credited word was taken from its router for output `o`: the output is used, the rotation goes on, and in a reserved
slot the word is counted. -/
structure CreditedTaken (s u : State) (l : LoomId) (o : Nat) (w : RWord) : Prop where
  state : ∃ Q O, u = { s with quads := Q, objs := O }
  quad : u.quad l.q = { s.quad l.q with
    used := SMap.set 0 (s.quad l.q).used (rotationKey l o) ((s.quad l.q).count.toNat + 1)
    rotation := SMap.set 0 (s.quad l.q).rotation (rotationKey l o) w.input.toNat, words := (s.quad l.q).words.erase w }
  others : OnlyQuads [l.q.val] s u
  objs : OnlyObjs [0x30F009 + 0x10000 * l.q.val] s u
  plain : slotReserved (s.slotNow l.q) = false → OnlyObjs [] s u
  counted : slotReserved (s.slotNow l.q) = true → Counted s u (0x30F009 + 0x10000 * l.q.val) 1

/-- The state in which a credited word goes its way. -/
def State.creditedTaken (s : State) (l : LoomId) (o t : Nat) (w : RWord) : State :=
  let s0 := s.useOut l o
  let s1 := s0.setQuad l.q { (s0.quad l.q).without w with
    rotation := SMap.set 0 (s0.quad l.q).rotation (rotationKey l o) w.input.toNat }
  if slotReserved t then s1.bump (0x30F009 + 0x10000 * l.q.val) 1 else s1

section
variable (s : State) (l : LoomId) (o : Nat) (w : RWord)

theorem creditedTaken_taken : CreditedTaken s (s.creditedTaken l o (s.slotNow l.q) w) l o w := by
  have hothers (x : Quad) : OnlyQuads [l.q.val] s ((s.useOut l o).setQuad l.q x) := fun j hj =>
    (quad_setQuad_other _ (List.ne_of_not_mem_cons hj) x).trans (quad_setQuad_other s (List.ne_of_not_mem_cons hj) _)
  unfold State.creditedTaken
  dsimp only
  split
  next hres =>
    refine ⟨⟨_, _, rfl⟩, ?_, hothers _, fun r hr => ?_, fun h => ?_, fun _ => obj_bump_same ..⟩
    · rw [quad_bump, quad_setQuad_same, quad_useOut]
      rfl
    · exact obj_bump_other _ (List.ne_of_not_mem_cons hr) _
    · exact absurd (h.symm.trans hres) Bool.false_ne_true
  next hres =>
    refine ⟨⟨_, _, rfl⟩, ?_, hothers _, fun _ _ => rfl, fun _ _ _ => rfl, fun h => absurd h hres⟩
    rw [quad_setQuad_same, quad_useOut]
    rfl

variable {s l o w}
variable {u : State} (h : CreditedTaken s u l o w)
include h

theorem CreditedTaken.runCols (q : Nat) : u.runCols q = s.runCols q := by
  have hlayout : u.layout = s.layout := h.objs 0x90000A (by simp only [List.mem_cons, List.not_mem_nil, or_false]; omega)
  obtain ⟨Q, O, rfl⟩ := h.state
  unfold State.runCols State.partOfQuad
  rw [hlayout]
  rfl

theorem CreditedTaken.creditedWay (o : Nat) (x : FWord) : u.creditedWay l o x = s.creditedWay l o x := by
  unfold State.creditedWay
  rw [h.runCols]

theorem CreditedTaken.dcq (n : Nat) : u.dcq n = s.dcq n := by
  obtain ⟨Q, O, rfl⟩ := h.state
  rfl

end

/-! ### What becomes of a credited word -/

section
variable {s : State} {q : Fin 4} {r : Fin 20} {c : Fin 25} {o : Fin 6} {w : RWord} (noise : Word512) (hruns : s.quadRuns q = true)
  (hslot : s.creditedSlot (routerOf q r c) o (s.slotNow q) = true) (hused : s.outUsed (routerOf q r c) o = false)
  (hturn : nextInRotation (SMap.get 0 (s.quad q).rotation (rotationKey (routerOf q r c) o))
    (((s.quad q).wordsAt 1 r c).filter (fun x => s.creditedRoute q r c x.word == o.val)) = some w)
include hruns hslot hused hturn

theorem exec_creditedForward : exec (.creditedForward q r c o noise) s = .next (
    if !crcOk w.word then
      (s.setQuad q { (s.quad q).without w with words := ((s.quad q).without w).words ++ [{ w with word := (s.quad q).original w }] }).replayed
        q (routerOf q r c)
    else if s.creditedMayLeave (routerOf q r c) (s.creditedWay (routerOf q r c) o w.word) then
      s.creditedLeaves (routerOf q r c) o (s.slotNow q) w noise
    else s) := by
  change execCreditedForward q r c o noise s = _
  unfold execCreditedForward
  dsimp only
  rw [hruns, hslot, hused]
  rw [if_pos (show (true && true && !false) = true from rfl), hturn]

/-- A sound word whose next buffer can take it leaves. -/
theorem exec_creditedForward_leaves (hsound : crcOk w.word = true)
    (hmay : s.creditedMayLeave (routerOf q r c) (s.creditedWay (routerOf q r c) o w.word) = true) : ∃ u,
    CreditedTaken s u (routerOf q r c) o w ∧ exec (.creditedForward q r c o noise) s = .next (
      match s.creditedWay (routerOf q r c) o w.word with
      | .bridge n =>
        if crcOk (noisy w.word noise) then (u.takeCredit (u.bridgeLoop n 0)).pushItem (2 * n) (wordItem (noisy w.word noise))
        else (u.putWord q w).replayed q (routerOf q r c)
      | .stack k =>
        if crcOk (noisy w.word noise) then u.pushItem (0x100 + 2 * k) (wordItem (noisy w.word noise))
        else (u.putWord q w).replayed q (routerOf q r c)
      | .loom => u.emit (.creditedWord (routerOf q r c) w.word)
      | .router r c i => u.putCredited q r c i w.word (noisy w.word noise)
      | .edge => u) := by
  have htaken := creditedTaken_taken s (routerOf q r c) o w
  refine ⟨_, htaken, (exec_creditedForward noise hruns hslot hused hturn).trans (congrArg Host.Outcome.next ?_)⟩
  rw [hsound, Bool.not_true, if_neg Bool.false_ne_true, if_pos hmay, ← htaken.creditedWay]
  rfl

theorem creditedForward_router (hsound : crcOk w.word = true) {r2 c2 i k : Nat} (hnext : neighbour (s.runCols q) r c o = some (r2, c2, i))
    (hmay : s.creditedMayLeave (routerOf q r c) (s.creditedWay (routerOf q r c) o w.word) = true) (hk : k = inputKey r2 c2 i) : ∃ t,
    exec (.creditedForward q r c o noise) s = .next t
      ∧ t.quad q = { s.quad q with
          used := SMap.set 0 (s.quad q).used (rotationKey (routerOf q r c) o) ((s.quad q).count.toNat + 1)
          rotation := SMap.set 0 (s.quad q).rotation (rotationKey (routerOf q r c) o) w.input.toNat
          sent := SMap.set 0 (s.quad q).sent k ((SMap.get 0 (s.quad q).sent k + 1) % 8)
          replay := SMap.set { payload := 0, side := 0 } (s.quad q).replay (8 * k + SMap.get 0 (s.quad q).sent k) w.word
          words := (s.quad q).words.erase w ++ [{
            r := Fin.ofNat 20 r2, c := Fin.ofNat 25 c2, input := BitVec.ofNat 3 i, slot := 0
            tag := BitVec.ofNat 3 (SMap.get 0 (s.quad q).sent k), word := noisy w.word noise }] }
      ∧ (slotReserved (s.slotNow q) = false → OnlyObjs [] s t)
      ∧ (slotReserved (s.slotNow q) = true → Counted s t (0x30F009 + 0x10000 * q.val) 1) ∧ OnlyQuads [q.val] s t := by
  subst hk
  obtain ⟨h0, h5⟩ := neighbour_inner hnext
  have hnorth : ¬ (o.val = 3 ∧ r.val = 19) := by
    rintro ⟨h3, hr⟩
    rw [h3, hr] at hnext
    cases hnext
  have hway : s.creditedWay (routerOf q r c) o w.word = .router r2 c2 i := by
    unfold State.creditedWay
    rw [if_neg h5, if_neg hnorth, if_neg h0, show neighbour _ _ _ _ = some (r2, c2, i) from hnext]
  obtain ⟨u, htaken, hexec⟩ := exec_creditedForward_leaves noise hruns hslot hused hturn hsound hmay
  rw [hway] at hexec
  refine ⟨_, hexec, ?_, htaken.plain, htaken.counted, fun j hj => ?_⟩
  · unfold State.putCredited
    dsimp only
    rw [quad_putWord, quad_setQuad_same, show u.quad q = _ from htaken.quad]
  · exact (quad_setQuad_other _ (List.ne_of_not_mem_cons hj) _).trans
      ((quad_setQuad_other _ (List.ne_of_not_mem_cons hj) _).trans (htaken.others j hj))

theorem creditedForward_loom (hsound : crcOk w.word = true) (ho : o = 0) : ∃ t, exec (.creditedForward q r c o noise) s = .next t
      ∧ t.out = .creditedWord (routerOf q r c) w.word :: s.out
      ∧ (t.quad q).words = (s.quad q).words.erase w ∧ OnlyQuads [q.val] s t := by
  have hway : s.creditedWay (routerOf q r c) o w.word = .loom := by
    subst ho
    rfl
  obtain ⟨u, htaken, hexec⟩ := exec_creditedForward_leaves noise hruns hslot hused hturn hsound (by rw [hway]; rfl)
  rw [hway] at hexec
  have hout : u.out = s.out := by
    obtain ⟨Q, O, rfl⟩ := htaken.state
    rfl
  exact ⟨_, hexec, congrArg _ hout, congrArg Quad.words htaken.quad, htaken.others⟩

/-- A word for a bridge or a stack that arrives there sound. -/
theorem creditedForward_queue (hsound : crcOk w.word = true) (hgot : crcOk (noisy w.word noise) = true) {n : Nat}
    (hn : o = 5 ∧ n = 2 * bridgeOf q r ∨ o = 3 ∧ r = 19 ∧ n = 0x100 + 2 * (5 * q.val + destCol w.word % 5))
    (hmay : s.creditedMayLeave (routerOf q r c) (s.creditedWay (routerOf q r c) o w.word) = true) (hopen : (s.dcq n).flushing = false)
    (hwhole : (s.dcq n).cut = false) (hroom : (s.dcq n).items.length < queueDepth n) : ∃ t,
    exec (.creditedForward q r c o noise) s = .next t
      ∧ (t.dcq n).items = (s.dcq n).items ++ [wordItem (noisy w.word noise)] ∧ OnlyQueues [n] s t
      ∧ (t.quad q).words = (s.quad q).words.erase w ∧ OnlyQuads [q.val] s t := by
  obtain ⟨u, htaken, hexec⟩ := exec_creditedForward_leaves noise hruns hslot hused hturn hsound hmay
  have hpushed (v : State) (hdcq : ∀ j, v.dcq j = s.dcq j) (hquad : ∀ j, v.quad j = u.quad j) (hobs : queueObserves n = false) :
      ((v.pushItem n (wordItem (noisy w.word noise))).dcq n).items = (s.dcq n).items ++ [wordItem (noisy w.word noise)]
        ∧ OnlyQueues [n] s (v.pushItem n (wordItem (noisy w.word noise)))
        ∧ ((v.pushItem n (wordItem (noisy w.word noise))).quad q).words = (s.quad q).words.erase w
        ∧ OnlyQuads [q.val] s (v.pushItem n (wordItem (noisy w.word noise))) := by
    obtain ⟨hitems, hothers⟩ := pushItem_takes (s := v) (wordItem (noisy w.word noise)) (by rw [hdcq]; exact hopen) (by rw [hdcq]; exact hwhole)
      (by rw [hdcq]; exact hroom)
    rw [storedItem_wordItem hobs, hdcq] at hitems
    refine ⟨hitems, fun j hj => (hothers j hj).trans (hdcq j), ?_, fun j hj => (quad_pushItem v n _ j).trans ((hquad j).trans (htaken.others j hj))⟩
    rw [quad_pushItem, hquad]
    exact congrArg Quad.words htaken.quad
  have hqr : bridgeOf q r ≤ 15 := by
    unfold bridgeOf
    omega
  rcases hn with ⟨rfl, rfl⟩ | ⟨rfl, rfl, rfl⟩
  · refine ⟨_, hexec.trans (congrArg Host.Outcome.next (if_pos hgot)),
      hpushed (u.takeCredit (u.bridgeLoop (bridgeOf q r) 0)) htaken.dcq (fun _ => rfl) (queueObserves_below (by omega))⟩
  · refine ⟨_, hexec.trans (congrArg Host.Outcome.next (if_pos hgot)), hpushed u htaken.dcq (fun _ => rfl) (queueObserves_below (by omega))⟩

/-- A damaged word is resent from the replay buffer (R176). -/
theorem creditedForward_damaged (hbad : crcOk w.word = false) : ∃ t, exec (.creditedForward q r c o noise) s = .next t
      ∧ t.quad q = { s.quad q with words := (s.quad q).words.erase w ++ [{ w with word := (s.quad q).original w }] }
      ∧ Counted s t (0x30F008 + 0x10000 * q.val) 1 := by
  have hq := q.isLt
  have hr : 0x30F008 + 0x10000 * q.val ∉ raisedObjs := by simp only [raisedObjs, List.mem_cons, List.not_mem_nil, or_false]; omega
  refine ⟨_, (exec_creditedForward noise hruns hslot hused hturn).trans (congrArg Host.Outcome.next (if_pos (by rw [hbad]; rfl))), ?_, ?_⟩
  · exact (quad_of_view (view_replayed (by decide) ..) q).trans (quad_setQuad_same ..)
  · unfold Counted State.replayed
    rw [obj_raiseQuad _ hr (by decide), obj_bump_same, obj_setQuad]

end

/-! ### Observation words (R182) -/

/-- A router from whose buffer one word is taken. -/
theorem tookUp_without (s : State) (q : Fin 4) (r : Fin 20) (c : Fin 25) (w : RWord) :
    TookUp s (s.setQuad q ((s.quad q).without w)) (routerOf q r c) ((s.quad q).words.erase w) :=
  ⟨⟨_, _, rfl⟩, fun _ => rfl, quad_setQuad_same .., fun _ hj => quad_setQuad_other s (List.ne_of_not_mem_cons hj) _⟩

/-- A damaged observation word is counted with the lost items of its queue. -/
theorem observationLost_counts (s : State) (l : LoomId) :
    ((s.observationLost l).dcq (0x400 + l.q.val)).lost = (s.dcq (0x400 + l.q.val)).lost + 1
      ∧ Counted s (s.observationLost l) 0x804004 1 := by
  unfold State.observationLost
  dsimp only
  refine ⟨?_, ?_⟩
  · have hraised (t : State) (d : Nat) : (t.raiseQuad l.q 0x0401 1 ucFabric (loomKey l) 0 d).dcqs = t.dcqs :=
      (noted_raise t (Nat.lt_succ_self 1) (show 0x0401 ≠ 0x070B by decide)).areas .queues (by decide)
    unfold State.dcq
    rw [hraised]
    exact congrArg Dcq.lost SMap.get_set_same
  · unfold Counted
    rw [obj_raiseQuad _ (by decide) (by decide), obj_bump_same, obj_setDcq]

section
variable {s u : State} {l : LoomId} {ws : List RWord} {w : FWord} (h : TookUp s u l ws) (noise : Word512)
include h

theorem TookUp.observationRoute (r c : Nat) : u.observationRoute l.q r c = s.observationRoute l.q r c := by
  unfold State.observationRoute
  rw [h.runCols]

theorem TookUp.observation_toRouter {r2 c2 i : Nat} (t : Nat)
    (hnext : neighbour (s.runCols l.q) l.r l.c (s.observationRoute l.q l.r l.c) = some (r2, c2, i)) :
    (u.observationLeaves l t w noise).quad l.q = { s.quad l.q with
        used := SMap.set 0 (s.quad l.q).used (rotationKey l (s.observationRoute l.q l.r l.c)) ((s.quad l.q).count.toNat + 1)
        words := ws ++ [{ r := Fin.ofNat 20 r2, c := Fin.ofNat 25 c2, input := BitVec.ofNat 3 i, slot := BitVec.ofNat 8 (t + 3)
                          tag := 0, word := noisy w noise }] }
      ∧ OnlyQuads [l.q.val] s (u.observationLeaves l t w noise) ∧ OnlyObjs [] s (u.observationLeaves l t w noise)
      ∧ OnlyLooms [] s (u.observationLeaves l t w noise) := by
  have hleaves : u.observationLeaves l t w noise = u.leaves l (s.observationRoute l.q l.r l.c) t w 0 noise := by
    unfold State.observationLeaves
    rw [h.observationRoute]
    exact if_neg (neighbour_inner hnext).2
  rw [hleaves]
  obtain ⟨hlooms, hquad, hobjs⟩ := h.toRouter hnext t w 0 noise
  exact ⟨hquad, fun j hj => ((quad_leaves u l _ t w 0 noise).2 j hj).trans (h.others j hj), hobjs, hlooms⟩

/-- At a bridge the word joins the quadrant's observation queue, whole. -/
theorem TookUp.observation_toQueue (t : Nat) (hedge : s.observationRoute l.q l.r l.c = 5) (hgot : crcOk (noisy w noise) = true)
    (hopen : (s.dcq (0x400 + l.q.val)).flushing = false) (hwhole : (s.dcq (0x400 + l.q.val)).cut = false)
    (hroom : (s.dcq (0x400 + l.q.val)).items.length < 256) :
    ((u.observationLeaves l t w noise).quad l.q).words = ws
      ∧ ((u.observationLeaves l t w noise).dcq (0x400 + l.q.val)).items = (s.dcq (0x400 + l.q.val)).items ++
          [{ wordItem w with payload := (noisy w noise).payload.toNat, endp := true }] := by
  have hq := l.q.isLt
  have hdcq (n : Nat) : (u.useOut l 5).dcq n = s.dcq n := by
    obtain ⟨L, Q, rfl⟩ := h.state
    rfl
  have hdepth : queueDepth (0x400 + l.q.val) = 256 := by
    unfold queueDepth
    rw [if_neg (by omega), if_neg (by omega), if_neg (by omega), if_neg (by omega), if_pos (by omega)]
  have hleaves : u.observationLeaves l t w noise = (u.useOut l 5).pushItem (0x400 + l.q.val)
      { wordItem w with payload := (noisy w noise).payload.toNat, endp := true } := by
    unfold State.observationLeaves
    rw [h.observationRoute, hedge]
    dsimp only
    rw [if_pos rfl, if_pos hgot]
  obtain ⟨hitems, -⟩ := pushItem_takes (s := u.useOut l 5) { wordItem w with payload := (noisy w noise).payload.toNat, endp := true }
    (by rw [hdcq]; exact hopen) (by rw [hdcq]; exact hwhole) (by rw [hdcq, hdepth]; exact hroom)
  rw [hleaves]
  refine ⟨?_, hitems.trans (by rw [hdcq]; rfl)⟩
  rw [quad_pushItem, quad_useOut, h.quad]

end

section
variable {s : State} {q : Fin 4} {r : Fin 20} {c : Fin 25} (noise : Word512) (hruns : s.quadRuns q = true)
  (hslot : slotReserved (s.slotNow q) = true) (hused : s.outUsed (routerOf q r c) (s.observationRoute q r c) = false)
include hruns hslot hused

/-- A waiting observation word goes first. -/
theorem exec_observationForward_waiting {w : RWord} {x : List RWord} (hwaits : (s.quad q).wordsAt 2 r c = w :: x) :
    exec (.observationForward q r c noise) s = .next (
      if crcOk w.word then (s.setQuad q ((s.quad q).without w)).observationLeaves (routerOf q r c) (s.slotNow q) w.word noise
      else (s.setQuad q ((s.quad q).without w)).observationLost (routerOf q r c)) := by
  change execObservationForward q r c noise s = _
  unfold execObservationForward
  dsimp only
  rw [hruns, hslot, hused, if_pos (show (true && true && !false) = true from rfl), hwaits]

/-- Where none waits, the loom's own records leave. -/
theorem exec_observationForward_own {w : FWord} {x : Loom} (hnone : (s.quad q).wordsAt 2 r c = [])
    (hown : (s.loom (routerOf q r c)).observation = some (w, x)) : exec (.observationForward q r c noise) s
      = .next ((s.setLoom (routerOf q r c) x).observationLeaves (routerOf q r c) (s.slotNow q) w noise) := by
  change execObservationForward q r c noise s = _
  unfold execObservationForward
  dsimp only
  rw [hruns, hslot, hused, if_pos (show (true && true && !false) = true from rfl), hnone]
  dsimp only
  rw [hown]

theorem observationForward_own {w : FWord} {x : Loom} (hnone : (s.quad q).wordsAt 2 r c = [])
    (hown : (s.loom (routerOf q r c)).observation = some (w, x)) {r2 c2 i : Nat}
    (hnext : neighbour (s.runCols q) r c (s.observationRoute q r c) = some (r2, c2, i)) : ∃ t,
    exec (.observationForward q r c noise) s = .next t
      ∧ t.loom (routerOf q r c) = x ∧ OnlyLooms [routerOf q r c] s t
      ∧ (t.quad q).words = (s.quad q).words ++ [{
          r := Fin.ofNat 20 r2, c := Fin.ofNat 25 c2, input := BitVec.ofNat 3 i, slot := BitVec.ofNat 8 (s.slotNow q + 3)
          tag := 0, word := noisy w noise }] := by
  have htook : TookUp (s.setLoom (routerOf q r c) x) (s.setLoom (routerOf q r c) x) (routerOf q r c) (s.quad q).words :=
    ⟨⟨_, _, rfl⟩, fun _ => rfl, rfl, fun _ _ => rfl⟩
  obtain ⟨hquad, -, -, hlooms⟩ := htook.observation_toRouter (w := w) noise (s.slotNow q) hnext
  refine ⟨_, exec_observationForward_own noise hruns hslot hused hnone hown, (hlooms _ List.not_mem_nil).trans (loom_setLoom_same ..),
    fun j hj => (hlooms j List.not_mem_nil).trans (loom_setLoom_other s (List.ne_of_not_mem_cons hj) x), congrArg Quad.words hquad⟩

end

/-- Settles O46: each clause is one command at one router, by what it does with the word that it takes up (`slotForward_*`,
`creditedForward_*`, `TookUp.observation_*`). -/
theorem fabricWords : Obligations.FabricWords := by
  unfold Obligations.FabricWords
  refine ⟨?arriving, ?own, ?damaged, ?refused, ?credited, ?observation⟩
  case arriving =>
    intro q r c o noise w s hruns hone hsound harrives hsums hfree hstream howned hin hused
    exact slotForward_arriving hruns hsums hfree hused hone hsound harrives hstream howned hin
  case own =>
    intro q r c o noise w place x stream s hruns hnone hsums hfree hstream howned hin hused hready r2 c2 i hnext
    exact slotForward_own hruns hsums hfree hused hnone hstream howned hin hready hnext
  case damaged =>
    intro q r c noise w s hruns hone hbad hfree
    exact slotForward_damaged hruns hone hbad hfree
  case refused =>
    intro q r c ecc noise w s hruns hone hsound hfree
    exact slotForward_refused hruns hone hsound hfree
  case credited =>
    rintro q r c o noise w _ s rfl hruns hslot hused hturn
    exact ⟨fun hsound r2 c2 i k hnext hmay hk => creditedForward_router noise hruns hslot hused hturn hsound hnext hmay hk,
      fun hsound ho => creditedForward_loom noise hruns hslot hused hturn hsound ho,
      fun hsound hgot n hn hmay hopen hwhole hroom =>
        creditedForward_queue noise hruns hslot hused hturn hsound hgot hn hmay hopen hwhole hroom,
      fun hbad => creditedForward_damaged noise hruns hslot hused hturn hbad⟩
  case observation =>
    rintro q r c noise _ _ s rfl rfl hruns hslot hused
    refine ⟨fun w x hwaits => ?_, fun w x hnone hown r2 c2 i hnext => observationForward_own noise hruns hslot hused hnone hown hnext⟩
    have htook := tookUp_without s q r c w
    have hexec := exec_observationForward_waiting noise hruns hslot hused hwaits
    refine ⟨fun hbad => ?_, fun hsound r2 c2 i hnext => ?_, fun hsound hgot hedge hopen hwhole hroom => ?_⟩
    · obtain ⟨hlost, hcount⟩ := observationLost_counts (s.setQuad q ((s.quad q).without w)) (routerOf q r c)
      refine ⟨_, hexec.trans (congrArg Host.Outcome.next (if_neg (by rw [hbad]; exact Bool.false_ne_true))), ?_, hlost, hcount⟩
      exact (quad_of_view (view_observationLost (by decide) ..) q).trans htook.quad
    · obtain ⟨hquad, hquads, hobjs, -⟩ := htook.observation_toRouter (w := w.word) noise (s.slotNow q) hnext
      exact ⟨_, hexec.trans (congrArg Host.Outcome.next (if_pos hsound)), hquad, hquads, hobjs⟩
    · exact ⟨_, hexec.trans (congrArg Host.Outcome.next (if_pos hsound)),
        htook.observation_toQueue noise (s.slotNow q) hedge hgot hopen hwhole hroom⟩

end Sys2Proof.Machine
end

section
/-! SUPPORT. An abort seen from its partition, its objects and the log (11 R273, R274; 16 R387, R389, R393). -/

namespace Sys2Proof.Machine

open Sys2Proof

/-! ### A record stays while few follow it -/

/-- Record `e` is among the newest `k + 1` of the log. -/
def Newest (s : State) (e : Rec) (k : Nat) : Prop := ∃ i ≤ k, s.log[i]? = some e

section
variable {s t : State} {e : Rec} {k : Nat}

theorem Newest.mem (h : Newest s e k) : e ∈ s.log := by
  obtain ⟨i, -, hi⟩ := h
  exact List.mem_of_getElem? hi

theorem Newest.of_view (h : Newest s e k) (hv : view .log t = view .log s) : Newest t e k := by
  have hlog : t.log = s.log := (Prod.ext_iff.1 hv).1
  unfold Newest
  rwa [hlog]

theorem Newest.mono (h : Newest s e k) {n : Nat} (hn : k ≤ n) : Newest s e n := by
  obtain ⟨i, hle, hi⟩ := h
  exact ⟨i, hle.trans hn, hi⟩

theorem log_enterLog (s : State) (b : BitVec 512) (seq sev : Nat) : (s.enterLog b seq sev).log = { bits := b } :: s.log.take 4095 := by
  unfold State.enterLog
  dsimp only
  split <;> rfl

/-- A record of severity 2 or more enters the log as its newest. -/
theorem log_raise (s : State) {x : Raise} (hsev : 2 ≤ x.sev) :
    (s.raise x).log = { bits := s.recordBits x (s.obj 0x700003 + 1) s.fresh } :: s.log.take 4095 := by
  have hnotify (t : State) (b : BitVec 512) : (t.notify b).log = t.log := (Prod.ext_iff.1 (view_notify (ar := .log) (by decide) t b)).1
  have hlow : ¬ x.sev < 2 := Nat.not_lt.2 hsev
  unfold State.raise
  rw [if_neg hlow]
  dsimp only
  rw [if_neg hlow, if_neg hlow]
  (repeat' split) <;> simp only [hnotify, log_enterLog]

theorem Newest.raise (h : Newest s e k) (hk : k < 4095) {x : Raise} (hsev : 2 ≤ x.sev) : Newest (s.raise x) e (k + 1) := by
  obtain ⟨i, hle, hi⟩ := h
  refine ⟨i + 1, Nat.succ_le_succ hle, ?_⟩
  rw [log_raise s hsev, List.getElem?_cons_succ, List.getElem?_take_of_lt (Nat.lt_of_le_of_lt hle hk), hi]

theorem newest_raise (s : State) {x : Raise} (hsev : 2 ≤ x.sev) :
    Newest (s.raise x) { bits := s.recordBits x (s.obj 0x700003 + 1) s.fresh } 0 := ⟨0, Nat.le_refl 0, by rw [log_raise s hsev]; rfl⟩

theorem Newest.haltJob (h : Newest s e k) (hk : k < 4095) (p cause detail : Nat) : Newest (s.haltJob p cause detail) e (k + 1) := by
  have hwait : view .log ((s.endWait p).endRoll p) = view .log s := (view_endRoll (by decide) ..).trans (view_endWait (by decide) ..)
  have hbefore (t : State) (a b c : Nat) (f : Part → Part) (ht : view .log t = view .log s) :
      view .log ((((t.setObj a 7).setObj b cause).setExState p c).modPart p f) = view .log s := by
    rw [view_modPart (by decide), view_setExState (by decide), view_setObj (by decide), view_setObj (by decide), ht]
  unfold State.haltJob
  exact ((h.of_view (hbefore _ _ _ _ _ hwait)).raise hk (Nat.le_succ 2)).of_view (view_report (by decide) ..)

theorem Newest.handleAbort (h : Newest s e k) (hk : k + 1 < 4095) (p cause sender : Nat) (own : Bool) :
    Newest (s.handleAbort p cause sender own) e (k + 2) := by
  have hbefore (a b c : Nat) : view .log (((s.bump a 1).setObj b cause).setObj c sender) = view .log s := by
    rw [view_setObj (by decide), view_setObj (by decide), view_bump (by decide)]
  have hraised (a b c d : Nat) : Newest ((((s.bump a 1).setObj b cause).setObj c sender).raisePart 0x0504 2 ucPart p p 2 d) e (k + 1) :=
    (h.of_view (hbefore a b c)).raise (Nat.lt_of_succ_lt hk) (Nat.le_refl 2)
  have hdrop (a b c d : Nat) :
      Newest (((((s.bump a 1).setObj b cause).setObj c sender).raisePart 0x0504 2 ucPart p p 2 d).dropAttempt p) e (k + 1) :=
    (hraised a b c d).of_view (view_dropAttempt (by decide) ..)
  unfold State.handleAbort
  dsimp only
  split
  · exact (hdrop _ _ _ _).haltJob hk _ _ _
  · split
    · exact (hdrop _ _ _ _).haltJob hk _ _ _
    · exact ((hdrop _ _ _ _).of_view ((view_setExState (by decide) ..).trans (view_setObj (by decide) ..))).mono (Nat.le_succ _)

theorem Newest.chargeFault (h : Newest s e 0) (p cause : Nat) : Newest (s.chargeFault p cause) e 2 := by
  have hhalt (c d : Nat) : Newest (s.haltJob p c d) e 2 := (h.haltJob (by decide) p c d).mono (by decide)
  have hstays : Newest s e 2 := h.mono (by decide)
  have habort : Newest (s.abortStep p cause) e 2 := (h.of_view (view_sendMarker (by decide) ..)).handleAbort (by decide) _ _ _ _
  have hlater (c d : Nat) : Newest (s.haltAtBoundary p c d) e 2 := hstays.of_view (view_haltAtBoundary (by decide) ..)
  unfold State.chargeFault
  split
  · exact habort
  · split
    · exact hhalt _ _
    · split
      · exact hlater _ _
      · split
        · exact hhalt _ _
        · exact hstays

end

/-! ### Fields of a record (16 R389) -/

section
variable (s : State) {x : Raise} (hcode : x.code < 2 ^ 16) (hsev : x.sev < 2 ^ 4) (hclass : x.uclass < 2 ^ 4) (seq n : Nat)
include hcode hsev hclass

/-- Its low 64 bits: code, severity, unit, partition and operation. -/
theorem recordBits_low : (s.recordBits x seq n).toNat % 2 ^ 64
    = x.code + x.sev * 2 ^ 16 + x.uclass * 2 ^ 20 + x.unit % 2 ^ 16 * 2 ^ 24 + x.part % 8 * 2 ^ 40 + x.op % 2 ^ 16 * 2 ^ 48 := by
  have hmod (m : Nat) : m % 2 ^ 512 % 2 ^ 64 = m % 2 ^ 64 := Nat.mod_mod_of_dvd m (pow_dvd_pow 2 (show 64 ≤ 512 by omega))
  have hstep (b : Bool) (u v : Nat) : ∃ w, (if b = true then u * 2 ^ 192 + v * 2 ^ 240 else 0) = w * 2 ^ 64 := by
    split
    · exact ⟨u * 2 ^ 128 + v * 2 ^ 176, by omega⟩
    · exact ⟨0, rfl⟩
  obtain ⟨step, hstep⟩ := hstep (decide (x.part < 4) && s.jobLoaded x.part) (s.stepNo x.part % 2 ^ 48) (s.attempt x.part % 256)
  unfold State.recordBits
  dsimp only
  rw [BitVec.toNat_ofNat, hmod, hstep]
  split <;> omega

theorem recordBits_code : field (s.recordBits x seq n).toNat 15 0 = x.code := by
  have hlow := recordBits_low s hcode hsev hclass seq n
  unfold field
  omega

theorem recordBits_op : field (s.recordBits x seq n).toNat 63 48 = x.op % 2 ^ 16 := by
  have hlow := recordBits_low s hcode hsev hclass seq n
  unfold field
  omega

end

/-! ### An abort in the partition's part and objects -/

section
variable (s : State) (p : Nat)

theorem aborted_haltJob (cause detail : Nat) : ((s.haltJob p cause detail).part p).aborted = (s.part p).aborted := by
  have hwait : ((s.endWait p).endRoll p).part p = s.part p := by
    unfold State.endRoll
    split <;> rfl
  unfold State.haltJob State.setExState
  dsimp only
  rw [(partIs_report _ p _).aborted, part_of_view (view_raisePart (by decide) ..), part_modPart_same]
  dsimp only
  rw [part_setObj, part_setObj, part_setObj, hwait]

/-- The attempt is aborted, whatever follows (11 R274). -/
theorem aborted_handleAbort (cause sender : Nat) (own : Bool) : ((s.handleAbort p cause sender own).part p).aborted = true := by
  have hdrop (t : State) : ((t.dropAttempt p).part p).aborted = true := by
    unfold State.dropAttempt
    dsimp only
    rw [part_modPart_same]
  unfold State.handleAbort State.setExState
  dsimp only
  split
  · rw [aborted_haltJob, hdrop]
  · split
    · rw [aborted_haltJob, hdrop]
    · rw [part_setObj, part_setObj, hdrop]

theorem aborted_chargeFault {s : State} (h : s.exState p = 1) (cause : Nat) : ((s.chargeFault p cause).part p).aborted = true := by
  unfold State.chargeFault State.abortStep
  rw [if_pos (by unfold State.uncommitted; rw [h]; rfl)]
  exact aborted_handleAbort ..

variable {p} (hp : p < 4)
include hp

/-- The cause of the last abort stays. -/
theorem obj_cause_haltJob (cause detail : Nat) : (s.haltJob p cause detail).obj (0x521005 + 256 * p) = s.obj (0x521005 + 256 * p) := by
  have hraised : 0x521005 + 256 * p ∉ raisedObjs := by simp only [raisedObjs, List.mem_cons, List.not_mem_nil, or_false]; omega
  have hdropped : 0x521005 + 256 * p ∉ droppedObjs := by simp only [droppedObjs, List.mem_cons, List.not_mem_nil, or_false]; omega
  have hroll (t : State) : (t.endRoll p).obj (0x521005 + 256 * p) = t.obj (0x521005 + 256 * p) := by
    unfold State.endRoll
    split
    · exact obj_setObj_other t (by omega) 3
    · rfl
  unfold State.haltJob State.setExState State.endWait
  dsimp only
  rw [obj_report _ hdropped, obj_raisePart _ hraised (by decide), obj_modPart, obj_setObj_other _ (by omega), obj_setObj_other _ (by omega),
    obj_setObj_other _ (by omega), hroll, obj_bump_other _ (by omega)]

theorem obj_cause_handleAbort {cause : Nat} (hc : cause < 256) (sender : Nat) (own : Bool) :
    (s.handleAbort p cause sender own).obj (0x521005 + 256 * p) = cause := by
  have hsize : ∀ i < 4, objSize (0x521005 + 256 * i) = 1 := by decide +kernel
  have hraised : 0x521005 + 256 * p ∉ raisedObjs := by simp only [raisedObjs, List.mem_cons, List.not_mem_nil, or_false]; omega
  have hdrop (t : State) : (t.dropAttempt p).obj (0x521005 + 256 * p) = t.obj (0x521005 + 256 * p) := by
    unfold State.dropAttempt State.endWait
    dsimp only
    rw [obj_modPart, obj_of_view (view_openContributions (by decide) ..)]
    exact (obj_of_view (view_modLooms (by decide) ..) _).trans (obj_bump_other _ (by omega) _)
  have hset (t : State) (b d : Nat) : ((((t.setObj (0x521005 + 256 * p) cause).setObj (0x521006 + 256 * p) b).raisePart
      0x0504 2 ucPart p p 2 d).dropAttempt p).obj (0x521005 + 256 * p) = cause := by
    rw [hdrop, obj_raisePart _ hraised (by decide), obj_setObj_other _ (by omega), obj_setObj_same, hsize p hp]
    exact Nat.mod_eq_of_lt hc
  unfold State.handleAbort State.setExState
  dsimp only
  split
  · rw [obj_cause_haltJob _ hp, hset]
  · split
    · rw [obj_cause_haltJob _ hp, hset]
    · rw [obj_setObj_other _ (by omega), obj_setObj_other _ (by omega), hset]

theorem obj_cause_chargeFault {s : State} (h : s.exState p = 1) {cause : Nat} (hc : cause < 256) :
    (s.chargeFault p cause).obj (0x521005 + 256 * p) = cause := by
  unfold State.chargeFault State.abortStep
  rw [if_pos (by unfold State.uncommitted; rw [h]; rfl)]
  exact obj_cause_handleAbort _ hp hc _ _

end

end Sys2Proof.Machine
end

section
/-! Assay verdicts (03 R63; 16 R382 to R387): the first half of O45. -/

namespace Sys2Proof.Machine

open Sys2Proof

/-! ### Records of an upset -/

/-- What an upset's records and counts leave: looms, partitions and every object but those of the log and of the assay. -/
structure Upsets (s t : State) : Prop where
  looms : view .looms t = view .looms s
  parts : view .parts t = view .parts s
  flash : view .flash t = view .flash s
  objs : ∀ r, r ∉ raisedObjs → r ∉ [0x702003, 0x702004, 0x702005, 0x702007] → t.obj r = s.obj r

theorem Upsets.trans {s t u : State} (h : Upsets s t) (g : Upsets t u) : Upsets s u :=
  ⟨g.looms.trans h.looms, g.parts.trans h.parts, g.flash.trans h.flash, fun r hr ha => (g.objs r hr ha).trans (h.objs r hr ha)⟩

section
variable {s t : State} (h : Upsets s t)
include h

theorem Upsets.loomNo (l : LoomId) : t.loomNo l = s.loomNo l := by
  have hflash : t.flash = s.flash := h.flash
  have hlayout : t.layout = s.layout := h.objs 0x90000A (by decide) (by decide)
  unfold State.loomNo State.runLooms State.grade State.recField State.recordOk State.recBits State.partOfQuad
  rw [hlayout, part_of_view h.parts, hflash]

theorem Upsets.exState {p : Nat} (hp : p < 4) : t.exState p = s.exState p :=
  h.objs _ (by simp only [raisedObjs, List.mem_cons, List.not_mem_nil, or_false]; omega)
    (by simp only [List.mem_cons, List.not_mem_nil, or_false]; omega)

end

section
variable (s : State) (l : LoomId)

theorem upsets_raiseQuad (q code : Nat) {sev : Nat} (hsev : sev ≤ 4) (uclass unit op detail : Nat) :
    Upsets s (s.raiseQuad q code sev uclass unit op detail) :=
  ⟨view_raiseQuad (by decide) .., view_raiseQuad (by decide) .., view_raiseQuad (by decide) .., fun _ hr _ => obj_raiseQuad s hr hsev ..⟩

theorem upsets_tableWord (u : Option Upset) : Upsets s (s.tableWord l u) := by
  unfold State.tableWord
  split
  · dsimp only
    split
    · exact upsets_raiseQuad s _ _ (by decide) _ _ _ _
    · exact upsets_raiseQuad s _ _ (by decide) _ _ _ _
  · exact ⟨rfl, rfl, rfl, fun _ _ _ => rfl⟩

theorem obj_tableWord {r : Nat} (hr : r ∉ raisedObjs) (u : Option Upset) : (s.tableWord l u).obj r = s.obj r := by
  unfold State.tableWord
  split
  · dsimp only
    split
    · exact obj_raiseQuad s hr (by decide) ..
    · exact obj_raiseQuad s hr (by decide) ..
  · rfl

theorem upsets_setBump {r n : Nat} (hr : r ∈ [0x702003, 0x702004, 0x702005, 0x702007]) : Upsets s (s.bump r n) :=
  ⟨rfl, rfl, rfl, fun _ _ ha => obj_bump_other s (fun e => ha (by rw [e]; exact hr)) n⟩

theorem upsets_setObj {r n : Nat} (hr : r ∈ [0x702003, 0x702004, 0x702005, 0x702007]) : Upsets s (s.setObj r n) :=
  ⟨rfl, rfl, rfl, fun _ _ ha => obj_setObj_other s (fun e => ha (by rw [e]; exact hr)) n⟩

theorem upsets_laneFails (e : Nat × Nat × Nat) : Upsets s (s.laneFails l e) :=
  ((upsets_setObj s (by decide)).trans (upsets_setBump _ (by decide))).trans (upsets_raiseQuad _ _ _ (by decide) _ _ _ _)

theorem upsets_verdictFails (v : OwedVerdict) (u : Option Upset) : Upsets s (s.verdictFails l v u) :=
  ((upsets_setObj s (by decide)).trans (upsets_setBump _ (by decide))).trans (upsets_raiseQuad _ _ _ (by decide) _ _ _ _)

theorem obj_laneFails (e : Nat × Nat × Nat) : (s.laneFails l e).obj 0x702007 = s.loomNo l % 256 ^ objSize 0x702007
    ∧ Counted s (s.laneFails l e) 0x702005 1 := by
  unfold State.laneFails Counted
  rw [obj_raiseQuad _ (by decide) (by decide), obj_raiseQuad _ (by decide) (by decide), obj_bump_other _ (by decide), obj_setObj_same,
    obj_bump_same, obj_setObj_other _ (by decide)]
  exact ⟨rfl, rfl⟩

theorem obj_verdictFails (v : OwedVerdict) (u : Option Upset) :
    (s.verdictFails l v u).obj 0x702007 = s.loomNo l % 256 ^ objSize 0x702007 ∧ Counted s (s.verdictFails l v u) 0x702004 1 := by
  unfold State.verdictFails Counted
  dsimp only
  rw [obj_raiseQuad _ (by decide) (by decide), obj_raiseQuad _ (by decide) (by decide), obj_bump_other _ (by decide), obj_setObj_same,
    obj_bump_same, obj_setObj_other _ (by decide)]
  exact ⟨rfl, rfl⟩

/-- The record of a failed verdict is the newest one: its code tells hop from array, and it names the descriptor's TAG. -/
theorem newest_verdictFails (v : OwedVerdict) (u : Option Upset) : ∃ e, Newest (s.verdictFails l v u) e 0
    ∧ field e.bits.toNat 15 0 = (if v.hop then 0x0202 else 0x0201) ∧ field e.bits.toNat 63 48 = v.tag.toNat := by
  unfold State.verdictFails State.raiseQuad
  dsimp only
  refine ⟨_, newest_raise _ (Nat.le_refl 2), ?_, ?_⟩
  · exact recordBits_code _ (by dsimp only; split <;> decide) (show 2 < 2 ^ 4 by decide) (show 0 < 2 ^ 4 by decide) _ _
  · exact (recordBits_op _ (by dsimp only; split <;> decide) (show 2 < 2 ^ 4 by decide) (show 0 < 2 ^ 4 by decide) _ _).trans (Nat.mod_eq_of_lt v.tag.isLt)

end

/-! ### A failed verdict charged to its attempt (R387, R402) -/

section
variable {s : State} {p : Nat} (hp : p < 4)
include hp

theorem obj_chargeVerdict {r : Nat} (hr : r ∈ [0x702003, 0x702004, 0x702005, 0x702007]) : (s.chargeVerdict p).obj r = s.obj r := by
  have hcharge : ¬ chargesObj p r := by
    unfold chargesObj
    simp only [raisedObjs, droppedObjs, List.mem_cons, List.not_mem_nil, or_false] at hr ⊢
    omega
  unfold State.chargeVerdict
  split
  · rfl
  · exact obj_chargeFault s hcharge 1

omit hp in
theorem Newest.chargeVerdict {e : Rec} (h : Newest s e 0) : Newest (s.chargeVerdict p) e 2 := by
  unfold State.chargeVerdict
  split
  · exact h.mono (by decide)
  · exact h.chargeFault p 1

/-- It aborts the step of a partition that computes. -/
theorem chargeVerdict_aborts (h : s.exState p = 1) :
    ((s.chargeVerdict p).part p).aborted = true ∧ (s.chargeVerdict p).obj (0x521005 + 256 * p) = 1 := by
  have hcharges : s.chargeVerdict p = s.chargeFault p 1 := by
    unfold State.chargeVerdict
    rw [h, if_neg (by decide)]
  rw [hcharges]
  exact ⟨aborted_chargeFault p h 1, obj_cause_chargeFault hp h (by decide)⟩

end

/-! ### The verdict given -/

section
variable {s : State} {l : LoomId} (hruns : s.quadRuns l.q = true)
include hruns

/-- The state in which a verdict is taken from those that the loom owes. -/
def State.verdictTaken (s : State) (l : LoomId) (u : Option Upset) (rest : List OwedVerdict) : State :=
  ((s.tableWord l u).setLoom l { s.loom l with verdicts := rest }).bump 0x702003 1

omit hruns in
theorem upsets_verdictTaken_objs (u : Option Upset) (rest : List OwedVerdict) :
    (∀ p, (s.verdictTaken l u rest).part p = s.part p) ∧ (s.verdictTaken l u rest).loomNo l = s.loomNo l
      ∧ ∀ r, r ∉ raisedObjs → r ≠ 0x702003 → (s.verdictTaken l u rest).obj r = s.obj r := by
  have hno : (s.verdictTaken l u rest).loomNo l = s.loomNo l :=
    ((upsets_tableWord s l u).trans (upsets_setBump _ (r := 0x702003) (n := 1) (by decide))).loomNo l
  exact ⟨fun p => part_of_view (upsets_tableWord s l u).parts p, hno,
    fun r hr hne => (obj_bump_other _ hne 1).trans (obj_tableWord s l hr u)⟩

/-- One verdict: it passes, or is recorded and charged. -/
theorem exec_assayVerdict_owed {u : Option Upset} {v : OwedVerdict} {rest : List OwedVerdict} {seen : Bool}
    {lane : Option (Nat × Nat × Nat)} (howed : (s.loom l).verdicts = v :: rest) (hseen : (u.map (upsetSeen v)).getD false = seen)
    (hlane : u.bind upsetLane = lane) : exec (.assayVerdict l u) s = .next (
      if (s.obj 0x702001).testBit (s.loomPart l) && (v.missed || seen) then
        ((lane.map ((s.verdictTaken l u rest).laneFails l)).getD
          ((s.verdictTaken l u rest).verdictFails l v (if seen then u else none))).chargeVerdict (s.loomPart l)
      else s.verdictTaken l u rest) := by
  have hloom : (s.tableWord l u).loom l = s.loom l := loom_of_view (upsets_tableWord s l u).looms l
  subst hseen
  change execAssayVerdict l u s = _
  unfold execAssayVerdict
  rw [hruns, Bool.not_true, if_neg Bool.false_ne_true]
  dsimp only
  rw [hloom, howed, hlane]
  cases u with
  | none =>
    cases hlane
    rfl
  | some w => cases lane <;> rfl

/-- A passed verdict is counted, and leaves its loom's list. -/
theorem assayVerdict_passes {v : OwedVerdict} {rest : List OwedVerdict} (howed : (s.loom l).verdicts = v :: rest) (hmissed : v.missed = false) :
    ∃ t, exec (.assayVerdict l none) s = .next t
      ∧ t.loom l = { s.loom l with verdicts := rest } ∧ OnlyLooms [l] s t
      ∧ t.obj 0x702003 = (s.obj 0x702003 + 1) % 256 ^ objSize 0x702003 ∧ OnlyObjs [0x702003] s t := by
  refine ⟨s.verdictTaken l none rest, (exec_assayVerdict_owed hruns howed rfl rfl).trans ?_, loom_setLoom_same .., ?_, obj_bump_same .., ?_⟩
  · rw [hmissed]
    exact congrArg Host.Outcome.next (if_neg (by simp))
  · exact onlyLooms_setLoom s l _
  · exact fun r hr => obj_bump_other _ (List.ne_of_not_mem_cons hr) 1

variable (hon : (s.obj 0x702001).testBit (s.loomPart l) = true)
include hon

/-- A verdict that an upset fails. -/
theorem assayVerdict_fails {u : Upset} {v : OwedVerdict} {rest : List OwedVerdict} (howed : (s.loom l).verdicts = v :: rest)
    (hseen : upsetSeen v u = true) : ∃ t, exec (.assayVerdict l (some u)) s = .next t
      ∧ t.obj 0x702007 = s.loomNo l % 256 ^ objSize 0x702007
      ∧ (if (upsetLane u).isSome then Counted s t 0x702005 1 else Counted s t 0x702004 1)
      ∧ (upsetLane u = none → ∃ e ∈ t.log, field e.bits.toNat 15 0 = (if v.hop then 0x0202 else 0x0201)
          ∧ field e.bits.toNat 63 48 = v.tag.toNat)
      ∧ (s.exState (s.loomPart l) = 1 → (t.part (s.loomPart l)).aborted = true
          ∧ t.obj (0x521005 + 256 * s.loomPart l) = 1) := by
  have hp := loomPart_lt s l
  have hexec := exec_assayVerdict_owed hruns (u := some u) howed hseen rfl
  rw [hon, Bool.or_true, Bool.and_self, if_pos rfl, if_pos rfl, Option.bind_some] at hexec
  obtain ⟨hpart, hno, hobj⟩ := upsets_verdictTaken_objs (s := s) (l := l) (some u) rest
  have hcompute {t : State} (h : Upsets (s.verdictTaken l (some u) rest) t) (hex : s.exState (s.loomPart l) = 1) : t.exState (s.loomPart l) = 1 :=
    (h.exState hp).trans ((hobj _ (by simp only [raisedObjs, List.mem_cons, List.not_mem_nil, or_false]; omega) (by omega)).trans hex)
  cases hlane : upsetLane u with
  | none =>
    rw [hlane, Option.map_none, Option.getD_none] at hexec
    obtain ⟨hname, hcount⟩ := obj_verdictFails (s.verdictTaken l (some u) rest) l v (some u)
    obtain ⟨e, hnewest, hcode, htag⟩ := newest_verdictFails (s.verdictTaken l (some u) rest) l v (some u)
    refine ⟨_, hexec, ?_, ?_, fun _ => ⟨e, hnewest.chargeVerdict.mem, hcode, htag⟩,
      fun hex => chargeVerdict_aborts hp (hcompute (upsets_verdictFails _ l v _) hex)⟩
    · exact (obj_chargeVerdict hp (by decide)).trans (hname.trans (by rw [hno]))
    · rw [Option.isSome_none, if_neg Bool.false_ne_true, Counted]
      exact (obj_chargeVerdict hp (by decide)).trans (hcount.trans (by rw [hobj _ (by decide) (by decide)]))
  | some e =>
    rw [hlane, Option.map_some, Option.getD_some] at hexec
    obtain ⟨hname, hcount⟩ := obj_laneFails (s.verdictTaken l (some u) rest) l e
    refine ⟨_, hexec, ?_, ?_, fun h => absurd h (Option.some_ne_none e), fun hex => chargeVerdict_aborts hp (hcompute (upsets_laneFails _ l e) hex)⟩
    · exact (obj_chargeVerdict hp (by decide)).trans (hname.trans (by rw [hno]))
    · rw [Option.isSome_some, if_pos rfl, Counted]
      exact (obj_chargeVerdict hp (by decide)).trans (hcount.trans (by rw [hobj _ (by decide) (by decide)]))

/-- The verdict of a block that a slot missed. -/
theorem assayVerdict_missed {v : OwedVerdict} {rest : List OwedVerdict} (howed : (s.loom l).verdicts = v :: rest) (hmissed : v.missed = true) :
    ∃ t, exec (.assayVerdict l none) s = .next t
      ∧ t.obj 0x702004 = (s.obj 0x702004 + 1) % 256 ^ objSize 0x702004
      ∧ (s.exState (s.loomPart l) = 1 → (t.part (s.loomPart l)).aborted = true) := by
  have hp := loomPart_lt s l
  have hexec := exec_assayVerdict_owed hruns (u := none) howed rfl rfl
  rw [hon, hmissed, Bool.true_or, Bool.and_self, if_pos rfl, Option.bind_none, Option.map_none, Option.getD_none] at hexec
  obtain ⟨hpart, hno, hobj⟩ := upsets_verdictTaken_objs (s := s) (l := l) none rest
  obtain ⟨-, hcount⟩ := obj_verdictFails (s.verdictTaken l none rest) l v (if false = true then none else none)
  refine ⟨_, hexec, (obj_chargeVerdict hp (by decide)).trans (hcount.trans (by rw [hobj _ (by decide) (by decide)])), fun hex => ?_⟩
  refine (chargeVerdict_aborts hp ?_).1
  exact ((upsets_verdictFails _ l v _).exState hp).trans
    ((hobj _ (by simp only [raisedObjs, List.mem_cons, List.not_mem_nil, or_false]; omega) (by omega)).trans hex)

/-- A lane check that fails while no verdict is owed. -/
theorem assayVerdict_laneAlone {u : Upset} {e : Nat × Nat × Nat} (hnone : (s.loom l).verdicts = []) (hlane : upsetLane u = some e)
    (hstep : (s.part (s.loomPart l)).inStep = true ∨ s.exState (s.loomPart l) = 4) : ∃ t, exec (.assayVerdict l (some u)) s = .next t
      ∧ Counted s t 0x702005 1 ∧ (s.exState (s.loomPart l) = 4 → t.parts = s.parts)
      ∧ (s.exState (s.loomPart l) = 1 → (t.part (s.loomPart l)).aborted = true) := by
  have hp := loomPart_lt s l
  have htable := upsets_tableWord s l (some u)
  have hfails := htable.trans (upsets_laneFails (s.tableWord l (some u)) l e)
  have hexec : exec (.assayVerdict l (some u)) s = .next (((s.tableWord l (some u)).laneFails l e).chargeVerdict (s.loomPart l)) := by
    have hwhen : ((s.part (s.loomPart l)).inStep || decide (s.exState (s.loomPart l) = 4)) = true := by simpa using hstep
    change execAssayVerdict l (some u) s = _
    unfold execAssayVerdict
    rw [hruns, Bool.not_true, if_neg Bool.false_ne_true]
    dsimp only [Option.bind_some]
    rw [loom_of_view htable.looms l, hnone, hlane, hon, hwhen]
    rfl
  obtain ⟨-, hcount⟩ := obj_laneFails (s.tableWord l (some u)) l e
  refine ⟨_, hexec, ?_, fun hex => ?_, fun hex => (chargeVerdict_aborts hp ((hfails.exState hp).trans hex)).1⟩
  · exact (obj_chargeVerdict hp (by decide)).trans (hcount.trans (by rw [obj_tableWord s l (by decide)]))
  · unfold State.chargeVerdict
    rw [if_pos ((hfails.exState hp).trans hex)]
    exact hfails.parts

end

end Sys2Proof.Machine
end

section
/-! Chain words at a hop (03 R71 to R73; 04 R103, R104), and descriptors that complete (04 R85, R86; 11 R269). -/

namespace Sys2Proof.Machine

open Sys2Proof

/-! ### Slot misses of one loom -/

/-- Between `s` and `t` loom `l` may have met a slot miss; no loom changed otherwise. -/
def MissedAt (s t : State) (l : LoomId) : Prop :=
  t.loom l = { s.loom l with slotMissed := (t.loom l).slotMissed } ∧ OnlyLooms [l] s t

theorem MissedAt.trans {s t u : State} {l : LoomId} (h : MissedAt s t l) (g : MissedAt t u l) : MissedAt s u l := by
  obtain ⟨hloom, hothers⟩ := h
  obtain ⟨gloom, gothers⟩ := g
  refine ⟨?_, fun j hj => (gothers j hj).trans (hothers j hj)⟩
  rw [gloom, hloom]

theorem loom_slotMiss (s : State) (l : LoomId) (stream slot : Nat) :
    (s.slotMiss l stream slot).loom l = { s.loom l with slotMissed := true } ∧ OnlyLooms [l] s (s.slotMiss l stream slot) := by
  have hraised (j : LoomId) (a b c d e g : Nat) (t : State) : (t.raiseQuad a b c d e 0 g).loom j = t.loom j :=
    loom_of_view (view_raiseQuad (by decide) ..) j
  unfold State.slotMiss
  dsimp only
  refine ⟨?_, fun j hj => ?_⟩
  · rw [loom_setLoom_same, hraised]
    rfl
  · rw [loom_setLoom_other _ (List.ne_of_not_mem_cons hj), hraised]
    rfl

theorem missedAt_slotMiss (s : State) (l : LoomId) (stream slot : Nat) : MissedAt s (s.slotMiss l stream slot) l := by
  obtain ⟨hloom, hothers⟩ := loom_slotMiss s l stream slot
  exact ⟨by rw [hloom], hothers⟩

/-- Sums that are ready by now enter the hold (03 R72). -/
theorem loom_promoteSums {s : State} {l : LoomId} {r : ChainRole} (hr : (s.loom l).role = some r) :
    (s.promoteSums l).loom l = { s.loom l with
        role := some { r with held := (promote (s.quad l.q).count r.held r.coming).1
                              coming := r.coming.filter (fun y => decide ((s.quad l.q).count < y.ready)) }
        slotMissed := ((s.promoteSums l).loom l).slotMissed }
      ∧ OnlyLooms [l] s (s.promoteSums l) := by
  have hmisses (stream : Nat) (ns : List Nat) (t : State) :
      MissedAt t (ns.foldl (fun (t : State) _ => t.slotMiss l stream (t.slotNow l.q)) t) l := by
    induction ns generalizing t with
    | nil => exact ⟨rfl, fun _ _ => rfl⟩
    | cons n ns ih => exact (missedAt_slotMiss t l _ _).trans (ih _)
  have hpromoted : ∃ stream ns, s.promoteSums l = List.foldl (fun (t : State) _ => t.slotMiss l stream (t.slotNow l.q)) (s.setLoom l { s.loom l with
        role := some { r with held := (promote (s.quad l.q).count r.held r.coming).1
                              coming := r.coming.filter (fun y => decide ((s.quad l.q).count < y.ready)) } }) (ns : List Nat) := by
    unfold State.promoteSums
    dsimp only
    rw [hr]
    exact ⟨_, _, rfl⟩
  obtain ⟨stream, ns, hpromoted⟩ := hpromoted
  rw [hpromoted]
  obtain ⟨hloom, hothers⟩ := hmisses stream ns (s.setLoom l { s.loom l with
        role := some { r with held := (promote (s.quad l.q).count r.held r.coming).1
                              coming := r.coming.filter (fun y => decide ((s.quad l.q).count < y.ready)) } })
  refine ⟨?_, fun j hj => (hothers j hj).trans (loom_setLoom_other s (List.ne_of_not_mem_cons hj) _)⟩
  rw [loom_setLoom_same] at hloom
  exact hloom

/-! ### The sums of a hop -/

/-- The role of a loom that made the sums of word `idx`: kept at the final position, else on their way to the hold (03 R72). -/
def ChainRole.summed (r : ChainRole) (sums : List (Nat × A96)) (idx : Nat) (since : BitVec 64) : ChainRole :=
  let base : ChainRole := { r with
    seen := SMap.set false r.seen idx true, poison := SMap.set 0 r.poison idx 0
    out := sums.foldl (fun m e => SMap.set A96.zero m e.1 e.2) r.out }
  match r.outStream with
  | none => { base with passed := r.passed + 1 }
  | some out =>
    { base with coming := r.coming ++ [{ idx := idx, word := FWordSeal (sums.foldr (fun e a => e.2.slot + a * 2 ^ 128) 0) out, ready := since + 12 }] }

/-- What it holds: the sums at their places, the word seen; at the final position one word more is passed, elsewhere one more is on its way. -/
theorem summed_fields (r : ChainRole) (sums : List (Nat × A96)) (idx : Nat) (since : BitVec 64) :
    (r.summed sums idx since).out = sums.foldl (fun m e => SMap.set A96.zero m e.1 e.2) r.out
      ∧ (r.summed sums idx since).seen = SMap.set false r.seen idx true ∧ (r.summed sums idx since).held = r.held
      ∧ (r.outStream = none → (r.summed sums idx since).passed = r.passed + 1 ∧ (r.summed sums idx since).coming = r.coming)
      ∧ ∀ out, r.outStream = some out → (r.summed sums idx since).passed = r.passed ∧ (r.summed sums idx since).coming = r.coming ++
          [{ idx := idx, ready := since + 12, word := FWordSeal (sums.foldr (fun e a => e.2.slot + a * 2 ^ 128) 0) out }] := by
  unfold ChainRole.summed
  cases r.outStream with
  | none => exact ⟨rfl, rfl, rfl, fun _ => ⟨rfl, rfl⟩, fun _ h => absurd h.symm (Option.some_ne_none _)⟩
  | some out =>
    refine ⟨rfl, rfl, rfl, fun h => absurd h (Option.some_ne_none _), fun o h => ?_⟩
    cases h
    exact ⟨rfl, rfl⟩

/-- A hop of a word without poison, to which a row without poison is added. -/
theorem loom_hop_clean {s : State} {l : LoomId} (r : ChainRole) {idx : Nat} {rx : RxWord} (hword : sidePoison rx.word = false)
    (hrow : SMap.get 0 (s.loom l).shadow.poison (idx / 16) = 0) :
    (s.hop l r idx rx).loom l = { s.loom l with role := some (r.summed ((s.loom l).hopSums idx rx.word) idx rx.since) }
      ∧ OnlyLooms [l] s (s.hop l r idx rx) := by
  have hhop : s.hop l r idx rx = (s.setLoom l { s.loom l with
      role := some (r.summed ((s.loom l).hopSums idx rx.word) idx rx.since) }).overflows l (dTag r.desc) ((s.loom l).hopWraps idx rx.word) := by
    unfold State.hop State.loomPoison ChainRole.summed
    dsimp only
    rw [hrow, hword, Bool.and_false, if_neg Bool.false_ne_true]
    dsimp only
    rw [if_pos rfl]
    cases r.outStream <;> rfl
  have hover (t : State) (tag : Nat) (ks : List Nat) (j : LoomId) : (t.overflows l tag ks).loom j = t.loom j :=
    loom_of_view (view_overflows (by decide) ..) j
  rw [hhop]
  refine ⟨?_, fun j hj => ?_⟩
  · rw [hover, loom_setLoom_same]
  · rw [hover, loom_setLoom_other s (List.ne_of_not_mem_cons hj)]

/-- A word's sums stand at its four places, and no other value changed. -/
theorem get_hopSums (x : Loom) (idx : Nat) (w : FWord) (m : SMap A96) :
    (∀ j, j < 4 → SMap.get A96.zero ((x.hopSums idx w).foldl (fun m e => SMap.set A96.zero m e.1 e.2) m) (4 * idx + j)
        = (A96.ofSlot (w.payload.toNat / 2 ^ (128 * j) % 2 ^ 128)).add
            { SMap.get A96.zero x.shadow.acc (4 * idx + j) with frac := BitVec.ofInt 8 (x.blockFrac x.shadow.desc) })
    ∧ ∀ k, (k < 4 * idx ∨ 4 * idx + 4 ≤ k) →
        SMap.get A96.zero ((x.hopSums idx w).foldl (fun m e => SMap.set A96.zero m e.1 e.2) m) k = SMap.get A96.zero m k := by
  have hrange : List.range 4 = [0, 1, 2, 3] := rfl
  unfold Loom.hopSums
  rw [hrange]
  simp only [List.map_cons, List.map_nil, List.foldl_cons, List.foldl_nil, SMap.get_set]
  refine ⟨fun j hj => ?_, fun k hk => ?_⟩
  · interval_cases j <;> simp [-Nat.reducePow]
  · rw [if_neg (by omega), if_neg (by omega), if_neg (by omega), if_neg (by omega)]

/-! ### A chain word that arrives -/

section
variable {s : State} {l : LoomId} {i : Fin 1024} {w : FWord} {rx : RxWord} (hit : Option LoomHit) (hruns : s.quadRuns l.q = true)
  (holdest : (s.loom l).rxBuf.find? (fun x => decide (x.stream.toNat = sideStream w)) = some rx) (hword : rx.word = w)
  (hplace : rx.place = BitVec.ofFin i) (hsince : rx.since ≤ (s.quad l.q).count)
include hruns holdest hword hplace hsince

/-- The loom after it has taken a word from its buffer; the first word of a stream that it awaits, or while it has no role, is dated. -/
def Loom.wordTaken (x : Loom) (w : FWord) (rx : RxWord) : Loom :=
  let first := match x.role with | some r => decide (dField r.desc 71 64 = sideStream w) | none => true
  { x with rxBuf := x.rxBuf.erase rx, firstWord := if first then some (x.firstWord.getD rx.since) else x.firstWord }

/-- The oldest word of its stream is taken: added, or a slot miss. -/
theorem exec_chainWordArrival : exec (.chainWordArrival l i w hit) s = .next (
    match (s.loom l).role with
    | none => (s.setLoom l ((s.loom l).wordTaken w rx)).chainMiss l w
    | some r =>
      if dField r.desc 37 32 = 0 ∨ dField r.desc 71 64 ≠ sideStream w ∨ !(s.loom l).shadow.full ∨ rx.since < r.since then
        (s.setLoom l ((s.loom l).wordTaken w rx)).chainMiss l w
      else
        let s1 := ((s.setLoom l ((s.loom l).wordTaken w rx)).found l (dTag r.desc)
          (fun v => decide (v = .shadowSet (Fin.ofNat 64 (i.val / 16)))) hit).promoteSums l
        s1.hop l ((s1.loom l).role.getD r) i rx) := by
  have hlate : decide ((s.quad l.q).count < rx.since) = false := decide_eq_false (BitVec.not_lt.2 hsince)
  change execChainWordArrival l i w hit s = _
  unfold execChainWordArrival
  dsimp only
  rw [holdest]
  dsimp only
  rw [hruns, hword, hplace, hlate]
  simp only [bne_self_eq_false, Bool.not_true, Bool.or_self, Bool.false_eq_true, if_false]
  rfl

/-- A word that its loom cannot take is a slot miss (04 R104). -/
theorem chainWordArrival_misses (hcannot : ∀ r, (s.loom l).role = some r → dField r.desc 37 32 = 0 ∨ dField r.desc 71 64 ≠ sideStream w
        ∨ (s.loom l).shadow.full = false ∨ rx.since < r.since) : ∃ t,
    exec (.chainWordArrival l i w hit) s = .next t
      ∧ t.loom l = { s.loom l with rxBuf := (s.loom l).rxBuf.erase rx, slotMissed := true, firstWord := (t.loom l).firstWord }
      ∧ ((s.loom l).role = none → (t.loom l).firstWord = some ((s.loom l).firstWord.getD rx.since))
      ∧ Counted s t (0x30F006 + 0x10000 * l.q.val) 1 ∧ OnlyLooms [l] s t := by
  have hq := l.q.isLt
  have hr : 0x30F006 + 0x10000 * l.q.val ∉ raisedObjs := by simp only [raisedObjs, List.mem_cons, List.not_mem_nil, or_false]; omega
  have hexec : exec (.chainWordArrival l i w hit) s = .next ((s.setLoom l ((s.loom l).wordTaken w rx)).chainMiss l w) := by
    rw [exec_chainWordArrival hit hruns holdest hword hplace hsince]
    split
    · rfl
    next r hrole =>
      rw [if_pos]
      simpa using hcannot r hrole
  obtain ⟨hloom, hothers⟩ := loom_slotMiss (s.setLoom l ((s.loom l).wordTaken w rx)) l (sideStream w) ((s.setLoom l ((s.loom l).wordTaken w rx)).slotNow l.q)
  rw [loom_setLoom_same] at hloom
  have hloom : ((s.setLoom l ((s.loom l).wordTaken w rx)).chainMiss l w).loom l = { (s.loom l).wordTaken w rx with slotMissed := true } := hloom
  refine ⟨_, hexec, ?_, fun hnone => ?_, ?_, fun j hj => (hothers j hj).trans (loom_setLoom_other s (List.ne_of_not_mem_cons hj) _)⟩
  · rw [hloom]
    rfl
  · rw [hloom]
    unfold Loom.wordTaken
    rw [hnone]
    rfl
  · unfold Counted State.chainMiss State.slotMiss
    rw [obj_setLoom, obj_raiseQuad _ hr (by decide), obj_bump_same, obj_setLoom]

/-- A word that its loom can take adds four sums to the loom's own (03 R71, R72). -/
theorem chainWordArrival_adds {r : ChainRole} (hharm : harmless hit) (hrole : (s.loom l).role = some r) (hhop : dField r.desc 37 32 ≠ 0)
    (hstream : dField r.desc 71 64 = sideStream w) (hfull : (s.loom l).shadow.full = true) (hafter : r.since ≤ rx.since)
    (hclean : sidePoison w = false) (hrow : SMap.get 0 (s.loom l).shadow.poison (i.val / 16) = 0) : ∃ t,
    exec (.chainWordArrival l i w hit) s = .next t
      ∧ (t.loom l).role = some (({ r with held := (promote (s.quad l.q).count r.held r.coming).1
                                          coming := r.coming.filter (fun y => decide ((s.quad l.q).count < y.ready)) } : ChainRole).summed
          ((s.loom l).hopSums i w) i rx.since)
      ∧ (t.loom l).rxBuf = (s.loom l).rxBuf.erase rx ∧ OnlyLooms [l] s t := by
  have hcan : ¬ (dField r.desc 37 32 = 0 ∨ dField r.desc 71 64 ≠ sideStream w ∨ (!(s.loom l).shadow.full) = true ∨ rx.since < r.since) := by
    rw [hfull]
    rintro (h | h | h | h)
    · exact hhop h
    · exact h hstream
    · exact Bool.false_ne_true h
    · exact BitVec.not_lt.2 hafter h
  have hexec := exec_chainWordArrival hit hruns holdest hword hplace hsince
  rw [hrole] at hexec
  dsimp only at hexec
  rw [if_neg hcan] at hexec
  have hn := noted_found hharm (s.setLoom l ((s.loom l).wordTaken w rx)) l (dTag r.desc) (fun v => decide (v = .shadowSet (Fin.ofNat 64 (i.val / 16))))
  generalize (s.setLoom l ((s.loom l).wordTaken w rx)).found l (dTag r.desc) _ hit = u at hexec hn
  have hu : u.loom l = (s.loom l).wordTaken w rx := (hn.loom l).trans (loom_setLoom_same ..)
  have hcount : u.quad l.q = s.quad l.q := quad_of_view (hn.areas .quads (by decide)) l.q
  obtain ⟨hpromoted, hothers⟩ := loom_promoteSums (s := u) (l := l) (r := r) (by rw [hu]; exact hrole)
  rw [hu, hcount] at hpromoted
  obtain ⟨hsummed, hothers2⟩ := loom_hop_clean (s := u.promoteSums l) (l := l) (((u.promoteSums l).loom l).role.getD r) (idx := i) (rx := rx)
    (by rw [hword]; exact hclean) (by rw [hpromoted]; exact hrow)
  refine ⟨_, hexec, ?_, ?_, fun j hj => ?_⟩
  · rw [hsummed, hpromoted, hword]
    rfl
  · rw [hsummed, hpromoted]
    rfl
  · rw [hothers2 j hj, hothers j hj, hn.loom, loom_setLoom_other s (List.ne_of_not_mem_cons hj)]

end

/-! ### A descriptor that completes -/

theorem queue_setQueue (x : Loom) (u : UnitKind) (q : List InFlight) : (x.setQueue u q).queue u = q := by cases u <;> rfl

theorem seq_setQueue (x : Loom) (u : UnitKind) (q : List InFlight) : (x.setQueue u q).seq = x.seq := by cases u <;> rfl

theorem stores_setQueue (x : Loom) (u : UnitKind) (q : List InFlight) : (x.setQueue u q).stores = x.stores := by cases u <;> rfl

/-- The loom whose unit `u` has finished entry `e`: the entry is freed, a store to HBM owes its report, waits are released. -/
def Loom.completing (x : Loom) (u : UnitKind) (e : InFlight) : Loom :=
  let y := x.setQueue u ((x.queue u).erase e)
  (if dOp e.desc = 0x30 ∧ dField e.desc 35 32 = 1 then { y with stores := y.stores ++ [BitVec.ofNat 16 (dTag e.desc)] } else y).released e.nth

section
variable (x : Loom) (u : UnitKind) (e : InFlight)

theorem queue_withStores (y : Loom) (l : List (BitVec 16)) : ({ y with stores := l } : Loom).queue u = y.queue u := by cases u <;> rfl

theorem queue_withSeq (y : Loom) (s : SeqState) : ({ y with seq := s } : Loom).queue u = y.queue u := by cases u <;> rfl

theorem queue_completing : (x.completing u e).queue u = (x.queue u).erase e := by
  unfold Loom.completing
  dsimp only
  rw [released_eq, queue_withSeq]
  split
  · rw [queue_withStores, queue_setQueue]
  · exact queue_setQueue ..

theorem stores_completing : (x.completing u e).stores = (if dOp e.desc = 0x30 ∧ dField e.desc 35 32 = 1 then
    x.stores ++ [BitVec.ofNat 16 (dTag e.desc)] else x.stores) := by
  unfold Loom.completing
  dsimp only
  rw [released_eq]
  split
  · rw [stores_setQueue]
  · exact stores_setQueue ..

theorem mem_completing : (x.completing u e).mem = x.mem := by
  unfold Loom.completing
  dsimp only
  rw [released_eq]
  split <;> (cases u <;> rfl)

/-- Owing a report does not change which units are idle. -/
theorem seq_completing : (x.completing u e).seq = ((x.setQueue u ((x.queue u).erase e)).released e.nth).seq := by
  have hidle (y : Loom) (l : List (BitVec 16)) : (({ y with stores := l } : Loom).released e.nth).seq = (y.released e.nth).seq := by
    have hunits (m : BitVec 4) : ({ y with stores := l } : Loom).unitsIdle m = y.unitsIdle m := rfl
    unfold Loom.released
    dsimp only
    split
    · rw [hunits]
      split <;> rfl
    · split <;> rfl
    · rfl
  unfold Loom.completing
  dsimp only
  split
  · exact hidle _ _
  · rfl

/-- A sequencer that waits for units goes on when they are idle, one that waits for this descriptor goes on (04 R86). -/
theorem seq_completing_cases : (∀ m, x.seq = .waitUnits m → (x.completing u e).seq =
        if (x.setQueue u ((x.queue u).erase e)).unitsIdle m then .running else .waitUnits m)
      ∧ (∀ n, x.seq = .waitDesc n → (x.completing u e).seq = if n = e.nth then .running else .waitDesc n)
      ∧ ((∀ m, x.seq ≠ .waitUnits m) → (∀ n, x.seq ≠ .waitDesc n) → (x.completing u e).seq = x.seq) := by
  rw [seq_completing]
  have hseq : (x.setQueue u ((x.queue u).erase e)).seq = x.seq := seq_setQueue ..
  unfold Loom.released
  refine ⟨fun m h => ?_, fun n h => ?_, fun hu hd => ?_⟩
  · rw [hseq, h]
    dsimp only
    split
    · rfl
    · exact hseq.trans h
  · rw [hseq, h]
    dsimp only
    split
    · rfl
    · exact hseq.trans h
  · rw [hseq]
    split
    next m h => exact absurd h (hu m)
    next n h => exact absurd h (hd n)
    · exact hseq

end

/-- An entry that has done its work completes (R85, R86). -/
theorem descriptorComplete_finishes {s : State} {l : LoomId} {u : UnitKind} {k : Fin 16} {e : InFlight} (hruns : s.quadRuns l.q = true)
    (hentry : (s.loom l).finishing u k = some e) (hphase : e.phase = 3) (hwaits : e.waits = false) : ∃ t,
    exec (.descriptorComplete l u k) s = .next t ∧ LoomBecomes s t l ((s.loom l).completing u e)
      ∧ (padsOn e.desc = true → s.padded (s.loomPart l) = true → Counted s t 0x220008 1) := by
  have hexec : exec (.descriptorComplete l u k) s = .next (
      if padsOn e.desc then ((s.setLoom l ((s.loom l).completing u e)).loomTrace l 2 e.nth e.index.toNat e.desc).pad (s.loomPart l)
        (some (ucLoom, loomKey l)) e.nth
      else (s.setLoom l ((s.loom l).completing u e)).loomTrace l 2 e.nth e.index.toNat e.desc) := by
    change execDescriptorComplete l u k s = _
    unfold execDescriptorComplete
    rw [if_pos hruns, hentry]
    dsimp only
    rw [hwaits, hphase]
    simp only [show decide ((3 : Nat) = 0) = false from rfl, Bool.and_false, Bool.false_eq_true, if_false]
    rfl
  have htraced := loomTrace_becomes (s.setLoom l ((s.loom l).completing u e)) l 2 e.nth e.index.toNat e.desc
  have hbecomes : LoomBecomes s ((s.setLoom l ((s.loom l).completing u e)).loomTrace l 2 e.nth e.index.toNat e.desc) l
      ((s.loom l).completing u e) := by
    obtain ⟨hloom, hothers⟩ := htraced
    rw [loom_setLoom_same] at hloom
    exact ⟨hloom, fun j hj => (hothers j hj).trans (onlyLooms_setLoom s l _ j hj)⟩
  have hobj (r : Nat) (hr : r ≠ 0x801006) : ((s.setLoom l ((s.loom l).completing u e)).loomTrace l 2 e.nth e.index.toNat e.desc).obj r = s.obj r :=
    obj_loomTrace _ l hr _ _ _ _
  have hpadded : ((s.setLoom l ((s.loom l).completing u e)).loomTrace l 2 e.nth e.index.toNat e.desc).padded (s.loomPart l)
      = s.padded (s.loomPart l) := by
    have hp := loomPart_lt s l
    have hflash : ((s.setLoom l ((s.loom l).completing u e)).loomTrace l 2 e.nth e.index.toNat e.desc).flash = s.flash :=
      view_loomTrace (ar := .flash) (by decide) ..
    unfold State.padded State.stepping State.recField State.recordOk State.recBits
    rw [hobj _ (by omega), hflash]
  generalize (s.setLoom l ((s.loom l).completing u e)).loomTrace l 2 e.nth e.index.toNat e.desc = v at hexec hbecomes hobj hpadded
  refine ⟨_, hexec, ?_, fun hpads hpad => ?_⟩
  · have hlooms : view .looms (if padsOn e.desc then v.pad (s.loomPart l) (some (ucLoom, loomKey l)) e.nth else v) = view .looms v := by
      split
      · exact view_pad (by decide) ..
      · rfl
    obtain ⟨hloom, hothers⟩ := hbecomes
    exact ⟨by rw [loom_of_view hlooms]; exact hloom, fun j hj => (loom_of_view hlooms j).trans (hothers j hj)⟩
  · have howe (t : State) (a b c d g : Nat) : (t.owe a b c d g).obj 0x220008 = t.obj 0x220008 :=
      obj_of_view (view_owe (by decide) ..) _
    unfold Counted State.pad
    rw [if_pos hpads, hpadded, hpad, if_pos rfl]
    dsimp only
    rw [howe, obj_bump_same, hobj _ (by decide)]

/-- An entry that waits, or has work left, does not complete (log 22). -/
theorem descriptorComplete_waits {s : State} {l : LoomId} {u : UnitKind} {k : Fin 16} {e : InFlight}
    (hentry : (s.loom l).finishing u k = some e) (hleft : e.waits = true ∨ (u ≠ .dma ∧ e.phase ≠ 3)) :
    exec (.descriptorComplete l u k) s = .next s := by
  change execDescriptorComplete l u k s = _
  unfold execDescriptorComplete
  rw [hentry]
  dsimp only
  split
  · rcases hleft with h | ⟨hu, hphase⟩
    · rw [h]
      rfl
    · rw [if_pos (by simp [hu, hphase])]
  · rfl

/-- Settles O45: the verdicts by `assayVerdict_*`, the chain words by `chainWordArrival_*`, the completions by `descriptorComplete_*`. -/
theorem verdictsChainsAndCompletions : Obligations.VerdictsChainsAndCompletions := by
  unfold Obligations.VerdictsChainsAndCompletions
  refine ⟨fun l v r s hruns howed hmissed => assayVerdict_passes hruns howed hmissed,
    fun l u v r s hruns howed hon hseen => assayVerdict_fails hruns hon howed hseen,
    fun l u e s hruns hnone hon hlane hstep => assayVerdict_laneAlone hruns hon hnone hlane hstep,
    fun l v r s hruns howed hon hmissed => assayVerdict_missed hruns hon howed hmissed, ?adds,
    fun l i w rx hit s hruns holdest hword hplace hsince hcannot => chainWordArrival_misses hit hruns holdest hword hplace hsince hcannot,
    ?completes, fun l u k e s hentry hleft => descriptorComplete_waits hentry hleft⟩
  case adds =>
    intro l i w rx r hit s hruns hharm holdest hword hplace hsince hrole hhop hstream hfull hafter hclean hrow
    obtain ⟨t, hexec, hsummed, hbuffer, hothers⟩ :=
      chainWordArrival_adds hit hruns holdest hword hplace hsince hharm hrole hhop hstream hfull hafter hclean hrow
    obtain ⟨hplaces, helsewhere⟩ := get_hopSums (s.loom l) i w r.out
    refine ⟨t, _, hexec, hsummed, ?_⟩
    have hfields := summed_fields { r with
      held := (promote (s.quad l.q).count r.held r.coming).1
      coming := r.coming.filter (fun y => decide ((s.quad l.q).count < y.ready)) } ((s.loom l).hopSums i w) i rx.since
    obtain ⟨hout, hseen, hheld, hlast, hinner⟩ := hfields
    rw [hout, hseen, hheld]
    exact ⟨hplaces, helsewhere, SMap.get_set_same, rfl, hlast, hinner, hbuffer, hothers⟩
  case completes =>
    intro l u k e s hruns hentry hphase hwaits
    obtain ⟨t, hexec, ⟨hloom, hothers⟩, hpads⟩ := descriptorComplete_finishes hruns hentry hphase hwaits
    obtain ⟨hunits, hdesc, hseq⟩ := seq_completing_cases (s.loom l) u e
    refine ⟨t, hexec, ?_, ?_, fun m hm => ?_, fun n hn => ?_, fun hu hd => ?_, hpads, ?_, hothers⟩ <;> rw [hloom]
    · rw [← queue_completing (s.loom l) u e]
      cases u <;> rfl
    · exact stores_completing ..
    · exact hunits m hm
    · exact hdesc n hn
    · exact hseq hu hd
    · exact mem_completing ..

end Sys2Proof.Machine
end

section
/-! SUPPORT. Maps that list their entries in order, rows of packed elements, and clean ranges of local memory. -/

namespace Sys2Proof.Machine

open Sys2Proof

/-! ### Maps whose defaults are left out -/

section
variable {β : Type} {d : β}

theorem SMap.get_of_not_mem {m : SMap β} {k : Nat} (h : k ∉ m.map Prod.fst) : SMap.get d m k = d := by
  induction m with
  | nil => rfl
  | cons e m ih =>
    rw [List.map_cons, List.mem_cons, not_or] at h
    obtain ⟨hk, hm⟩ := h
    exact (if_neg hk).trans (ih hm)

theorem SMap.exists_mem_of_get_ne {m : SMap β} {k : Nat} (h : SMap.get d m k ≠ d) : ∃ e ∈ m, e.2 ≠ d := by
  induction m with
  | nil => exact absurd rfl h
  | cons e m ih =>
    by_cases hk : k = e.1
    · exact ⟨e, List.mem_cons_self, by rwa [show SMap.get d (e :: m) k = e.2 from if_pos hk] at h⟩
    · obtain ⟨y, hy, hne⟩ := ih (by rwa [show SMap.get d (e :: m) k = SMap.get d m k from if_neg hk] at h)
      exact ⟨y, List.mem_cons_of_mem e hy, hne⟩

theorem SMap.get_of_mem {m : SMap β} (hkeys : (m.map Prod.fst).Nodup) {k : Nat} {v : β} (h : (k, v) ∈ m) : SMap.get d m k = v := by
  induction m with
  | nil => exact absurd h List.not_mem_nil
  | cons e m ih =>
    obtain ⟨hnew, hkeys⟩ := List.nodup_cons.1 hkeys
    rcases List.mem_cons.1 h with rfl | h
    · exact if_pos rfl
    · have hne : k ≠ e.1 := fun heq => hnew (heq ▸ List.mem_map_of_mem (f := Prod.fst) h)
      exact (if_neg hne).trans (ih hkeys h)

/-- Entries that hold the default need not stand in a map. -/
theorem SMap.get_filter {m : SMap β} (hkeys : (m.map Prod.fst).Nodup) {p : Nat × β → Bool} (hp : ∀ e ∈ m, p e = false → e.2 = d) (k : Nat) :
    SMap.get d (m.filter p) k = SMap.get d m k := by
  induction m with
  | nil => rfl
  | cons e m ih =>
    obtain ⟨hnew, hkeys⟩ := List.nodup_cons.1 hkeys
    obtain ⟨he, hm⟩ := List.forall_mem_cons.1 hp
    have hcons (t : SMap β) : SMap.get d (e :: t) k = if k = e.1 then e.2 else SMap.get d t k := rfl
    rw [List.filter_cons]
    split
    · rw [hcons, hcons, ih hkeys hm]
    next hpe =>
      rw [hcons, ih hkeys hm]
      split
      next hk =>
        rw [he (Bool.eq_false_iff.2 hpe), hk]
        exact SMap.get_of_not_mem hnew
      · rfl

/-- An entry of a map, where that map's defaults were left out. -/
theorem SMap.get_filter_of_mem {m : SMap β} (hkeys : (m.map Prod.fst).Nodup) {p : Nat × β → Bool} (hp : ∀ e ∈ m, p e = false → e.2 = d)
    {k : Nat} {v : β} (h : (k, v) ∈ m) : SMap.get d (m.filter p) k = v := by
  rw [SMap.get_filter hkeys hp]
  exact SMap.get_of_mem hkeys h

end

/-! ### Keys in order -/

/-- The keys 64m + n of a block are different ones. -/
theorem nodup_blockKeys {β : Type} (f : Nat → Nat → β) :
    ((((List.range 64).map (fun m => (List.range 64).map (fun n => (64 * m + n, f m n)))).flatten).map Prod.fst).Nodup := by
  rw [List.map_flatten, List.map_map, List.nodup_flatten]
  refine ⟨fun r hr => ?_, ?_⟩
  · obtain ⟨m, -, rfl⟩ := List.mem_map.1 hr
    simp only [Function.comp_apply, List.map_map]
    exact List.nodup_range.map fun a b h => by simpa using h
  · rw [List.pairwise_map]
    refine List.nodup_range.imp_of_mem fun {a b} ha hb hne => ?_
    simp only [Function.comp_apply, List.map_map, List.disjoint_left, List.mem_map, List.mem_range, not_exists, not_and]
    rintro x ⟨n, hn, rfl⟩ m hm h
    change 64 * b + m = 64 * a + n at h
    omega

theorem mem_block {β : Type} (f : Nat → Nat → β) {m n : Nat} (hm : m < 64) (hn : n < 64) :
    (64 * m + n, f m n) ∈ ((List.range 64).map (fun m => (List.range 64).map (fun n => (64 * m + n, f m n)))).flatten :=
  List.mem_flatten.2 ⟨_, List.mem_map.2 ⟨m, List.mem_range.2 hm, rfl⟩, List.mem_map.2 ⟨n, List.mem_range.2 hn, rfl⟩⟩

/-- A list of values under their places, zeros left out. -/
theorem get_zipIdx_filter (l : List Nat) (k : Nat) :
    SMap.get 0 ((l.zipIdx.map (fun e => (e.2, e.1))).filter (fun e => e.2 != 0)) k = l.getD k 0 := by
  have hkeys : ((l.zipIdx.map (fun e => (e.2, e.1))).map Prod.fst).Nodup := by
    rw [List.map_map, show (Prod.fst ∘ fun e : Nat × Nat => (e.2, e.1)) = Prod.snd from rfl, List.zipIdx_map_snd]
    exact List.nodup_range'
  rw [SMap.get_filter hkeys fun e _ he => by simpa using he]
  by_cases hk : k < l.length
  · rw [List.getD_eq_getElem _ _ hk]
    refine SMap.get_of_mem hkeys (List.mem_map.2 ⟨(l[k], k), ?_, rfl⟩)
    rw [List.mk_mem_zipIdx_iff_getElem?, List.getElem?_eq_getElem hk]
  · rw [List.getD_eq_default _ _ (Nat.not_lt.1 hk)]
    refine SMap.get_of_not_mem ?_
    rw [List.map_map, show (Prod.fst ∘ fun e : Nat × Nat => (e.2, e.1)) = Prod.snd from rfl, List.zipIdx_map_snd]
    simpa using hk

/-- Element n of row k of rows of one length. -/
theorem getD_flatten_rows {w : Nat} (row : Nat → List Nat) (hrow : ∀ k, (row k).length = w) {deep k n : Nat} (hk : k < deep) (hn : n < w) :
    (((List.range deep).map row).flatten).getD (w * k + n) 0 = (row k).getD n 0 := by
  induction deep generalizing row k with
  | zero => exact absurd hk (Nat.not_lt_zero k)
  | succ deep ih =>
    rw [List.range_succ_eq_map, List.map_cons, List.flatten_cons, List.map_map]
    cases k with
    | zero => rw [Nat.mul_zero, Nat.zero_add, List.getD_append _ _ _ _ (by rw [hrow]; exact hn)]
    | succ k =>
      rw [List.getD_append_right _ _ _ _ (by rw [hrow]; exact Nat.le_add_right_of_le (Nat.le_mul_of_pos_right w (Nat.succ_pos k))), hrow,
        show w * (k + 1) + n - w = w * k + n by rw [Nat.mul_succ]; omega]
      exact ih (row ∘ Nat.succ) (fun k => hrow (k + 1)) (Nat.lt_of_succ_lt_succ hk)

theorem length_elems (x : Loom) (f line n : Nat) : (x.elems f line n).length = n := by
  unfold Loom.elems unpackElems
  rw [List.length_map, List.length_range]

/-! ### Clean ranges of local memory -/

theorem poisonAt_zero_iff (x : Loom) (a n : Nat) : x.poisonAt a n = 0 ↔ ∀ h ∈ halfLines a n, SMap.get 0 x.poison h = 0 := by
  unfold Loom.poisonAt
  constructor
  · intro h k hk
    by_contra hne
    cases hfind : (halfLines a n).findSome? (fun h => let o := SMap.get 0 x.poison h; if o = 0 then none else some o) with
    | none =>
      have := List.findSome?_eq_none_iff.1 hfind k hk
      simp [hne] at this
    | some o =>
      obtain ⟨j, -, hj⟩ := List.exists_of_findSome?_eq_some hfind
      rw [hfind] at h
      have ho : o = 0 := h
      dsimp only at hj
      split at hj
      · cases hj
      next hz => exact hz ((Option.some.inj hj).trans ho)
  · intro h
    rw [List.findSome?_eq_none_iff.2 fun k hk => if_pos (h k hk)]
    rfl

theorem mem_halfLines {a n h : Nat} : h ∈ halfLines a n ↔ 0 < n ∧ a / 32 ≤ h ∧ h ≤ (a + n - 1) / 32 := by
  unfold halfLines
  split
  next hn => simp [hn]
  · rw [List.mem_range'_1]
    omega

/-- A range inside a clean one is clean. -/
theorem poisonAt_sub {x : Loom} {a n b m : Nat} (h : x.poisonAt a n = 0) (hab : a ≤ b) (hend : b + m ≤ a + n) : x.poisonAt b m = 0 := by
  rw [poisonAt_zero_iff] at h ⊢
  intro k hk
  rw [mem_halfLines] at hk
  refine h k (mem_halfLines.2 ?_)
  omega

/-- A first origin is one of the list's. -/
theorem firstOf_ne_zero {o : List Nat} {y : Nat} (hy : y ∈ o) (hne : y ≠ 0) : firstOf o ≠ 0 := by
  have hstays (l : List Nat) (a : Nat) (ha : a ≠ 0) : l.foldl firstOrigin a ≠ 0 := by
    induction l generalizing a with
    | nil => exact ha
    | cons b l ih =>
      refine ih _ ?_
      unfold firstOrigin
      rwa [if_neg ha]
  obtain ⟨before, after, rfl⟩ := List.append_of_mem hy
  unfold firstOf
  rw [List.foldl_append, List.foldl_cons]
  refine hstays after _ ?_
  unfold firstOrigin
  split
  · exact hne
  · assumption

end Sys2Proof.Machine
end

section
/-! The array's preloads and passes (03 R58 to R70; 04 R92, R99; 16 R388). -/

namespace Sys2Proof.Machine

open Sys2Proof

/-! ### What a unit's values depend on -/

/-- Rows of a pass, by its paths (03 R64). -/
def passDepth (d : Word512) : Nat := match mmPath (dField d 35 32) (dField d 39 36) with | some p => mmDepth p | none => 64

/-- `t` gives loom `l` the random bits and the cycle count that `s` gives it. -/
structure SameDraws (s t : State) (l : LoomId) : Prop where
  loomPart : t.loomPart l = s.loomPart l
  part : t.part (s.loomPart l) = s.part (s.loomPart l)
  stepNo : t.stepNo (s.loomPart l) = s.stepNo (s.loomPart l)
  count : (t.quad l.q).count = (s.quad l.q).count

theorem SameDraws.refl (s : State) (l : LoomId) : SameDraws s s l := ⟨rfl, rfl, rfl, rfl⟩

theorem SameDraws.trans {s t u : State} {l : LoomId} (h : SameDraws s t l) (g : SameDraws t u l) : SameDraws s u l :=
  ⟨g.loomPart.trans h.loomPart, by rw [← h.loomPart, g.part, h.loomPart, h.part], by rw [← h.loomPart, g.stepNo, h.loomPart, h.stepNo],
    g.count.trans h.count⟩

theorem SameDraws.setLoom (s : State) (l : LoomId) (x : Loom) : SameDraws s (s.setLoom l x) l := ⟨rfl, rfl, rfl, rfl⟩

theorem SameDraws.of_objs {s t : State} (l : LoomId) (hparts : view .parts t = view .parts s) (hquads : view .quads t = view .quads s)
    (hobjs : OnlyObjs raisedObjs s t) : SameDraws s t l := by
  have hp := loomPart_lt s l
  refine ⟨partOfQuad_congr (hobjs _ (by decide)) l.q, part_of_view hparts _, ?_, congrArg Quad.count (quad_of_view hquads _)⟩
  exact hobjs _ (by simp only [raisedObjs, List.mem_cons, List.not_mem_nil, or_false]; omega)

theorem Noted.sameDraws {s t : State} (h : Noted s t) (l : LoomId) : SameDraws s t l :=
  .of_objs l (h.areas .parts (by decide)) (h.areas .quads (by decide)) h.objs

section
variable {s t : State} {l : LoomId} (h : SameDraws s t l)
include h

theorem SameDraws.windowBits (kind tensor idx product : Nat) :
    t.windowBits (t.loomPart l) kind tensor idx product = s.windowBits (s.loomPart l) kind tensor idx product := by
  unfold State.windowBits
  rw [h.loomPart, h.part, h.stepNo]

theorem SameDraws.streamRow (hloom : t.loom l = s.loom l) (d : Word512) (deep m : Nat) : t.streamRow l d deep m = s.streamRow l d deep m := by
  unfold State.streamRow
  simp only [hloom, h.windowBits]

theorem SameDraws.passResult (hloom : t.loom l = s.loom l) (d : Word512) (pl : Plane) (deep : Nat) (acc : SMap A96) :
    t.passResult l d pl deep acc = s.passResult l d pl deep acc := by
  unfold State.passResult
  simp only [h.streamRow hloom]

theorem SameDraws.outElem (hscales : (t.loom l).scaleFile = (s.loom l).scaleFile) (o : OutForm) (v : Val) (idx : Nat) :
    t.outElem l o v idx = s.outElem l o v idx := by
  unfold State.outElem Loom.scaleExp Loom.scaleByte
  simp only [h.loomPart, h.part, h.stepNo, hscales]

end

/-! ### Stationary preload (R59, R68) -/

theorem planeOf_fmt (s : State) (l : LoomId) (d : Word512) : (s.planeOf l d).fmt = some (BitVec.ofNat 4 (dField d 39 36)) := rfl

/-- Element (k, n) of the plane is element n of row k of the tile. -/
theorem planeOf_elems (s : State) (l : LoomId) (d : Word512) {k n : Nat} (hk : k < passDepth d) (hn : n < 64) :
    SMap.get 0 (s.planeOf l d).elems (64 * k + n)
      = ((s.loom l).elems (dField d 39 36) (dField d 155 142 + k * rowLines (dField d 39 36) 64) 64).getD n 0 := by
  unfold State.planeOf
  dsimp only
  rw [get_zipIdx_filter]
  exact getD_flatten_rows (fun k => (s.loom l).elems (dField d 39 36) (dField d 155 142 + k * rowLines (dField d 39 36) 64) 64)
    (fun k => length_elems _ _ _ _) hk hn

theorem exec_stationaryPreload {s : State} {l : LoomId} {e : InFlight} (hruns : s.quadRuns l.q = true)
    (hnext : nextPreload (s.loom l).arrayQ = some e) (hit : Option LoomHit) :
    exec (.stationaryPreload l hit) s = .next ((s.found l (dTag e.desc) (linesRead (e.reads.drop 1)) hit).setLoom l
      { (s.found l (dTag e.desc) (linesRead (e.reads.drop 1)) hit).loom l with
        idlePlane := (s.found l (dTag e.desc) (linesRead (e.reads.drop 1)) hit).planeOf l e.desc
        arrayQ := setPhase (fun o => o.phase == 0) 1 ((s.found l (dTag e.desc) (linesRead (e.reads.drop 1)) hit).loom l).arrayQ }) := by
  change execStationaryPreload l hit s = _
  unfold execStationaryPreload
  rw [if_pos hruns, hnext]

theorem stationaryPreload_fills {s : State} {l : LoomId} {e : InFlight} {hit : Option LoomHit} (hruns : s.quadRuns l.q = true)
    (hnext : nextPreload (s.loom l).arrayQ = some e) (hharm : harmless hit) : ∃ t, exec (.stationaryPreload l hit) s = .next t
      ∧ t.loom l = { s.loom l with idlePlane := (t.loom l).idlePlane, arrayQ := setPhase (fun o => o.phase == 0) 1 (s.loom l).arrayQ }
      ∧ (t.loom l).idlePlane.fmt = some (BitVec.ofNat 4 (dField e.desc 39 36))
      ∧ (∀ k n, k < passDepth e.desc → n < 64 → SMap.get 0 (t.loom l).idlePlane.elems (64 * k + n)
          = ((s.loom l).elems (dField e.desc 39 36) (dField e.desc 155 142 + k * rowLines (dField e.desc 39 36) 64) 64).getD n 0)
      ∧ OnlyLooms [l] s t := by
  have hn := noted_found hharm s l (dTag e.desc) (linesRead (e.reads.drop 1))
  have hexec := exec_stationaryPreload hruns hnext hit
  generalize s.found l (dTag e.desc) (linesRead (e.reads.drop 1)) hit = u at hexec hn
  refine ⟨_, hexec, ?_, ?_, fun k n hk hlt => ?_, fun j hj => ?_⟩
  · rw [loom_setLoom_same, hn.loom]
  · rw [loom_setLoom_same]
    rfl
  · rw [loom_setLoom_same]
    exact (planeOf_elems u l e.desc hk hlt).trans (by rw [hn.loom])
  · exact (loom_setLoom_other _ (List.ne_of_not_mem_cons hj) _).trans (hn.loom j)

/-- A half line of the tile that cannot be corrected is marked, and the preload goes on (R99; log 99). -/
theorem stationaryPreload_marks {s : State} {l : LoomId} {e : InFlight} {h : BitVec 15} (hruns : s.quadRuns l.q = true)
    (hnext : nextPreload (s.loom l).arrayQ = some e) (hread : halfIn (e.reads.drop 1) h = true) : ∃ t,
    exec (.stationaryPreload l (some { word := .localMemory h, ecc := .multi })) s = .next t
      ∧ SMap.get 0 (t.loom l).poison h.toNat ≠ 0 ∧ (t.loom l).mem = (s.loom l).mem
      ∧ (t.loom l).arrayQ = setPhase (fun o => o.phase == 0) 1 (s.loom l).arrayQ ∧ OnlyLooms [l] s t := by
  obtain ⟨u, origin, ho, hfound, hlooms, -, -⟩ := found_multi s l (dTag e.desc) (reads := linesRead (e.reads.drop 1)) (w := .localMemory h) hread
  have hexec := exec_stationaryPreload hruns hnext (some { word := .localMemory h, ecc := .multi })
  rw [hfound, loom_setLoom_same] at hexec
  have hmarked : SMap.get 0 ((s.loom l).mark (32 * h.toNat) 32 origin).poison h.toNat ≠ 0 := by
    rw [poison_mark _ _ _ ho]
    split
    · exact ho
    next hnot => exact fun hz => hnot ⟨hz, mem_halfLines.2 (by omega)⟩
  have hrest : ∀ x : Loom, ∀ a n o, (x.mark a n o).arrayQ = x.arrayQ := fun x a n o => by
    unfold Loom.mark
    split <;> rfl
  refine ⟨_, hexec, ?_, ?_, ?_, fun j hj => ?_⟩
  · rw [loom_setLoom_same]
    exact hmarked
  · rw [loom_setLoom_same]
    exact mem_mark (s.loom l) (32 * h.toNat) 32 origin
  · rw [loom_setLoom_same]
    exact congrArg (setPhase _ 1) (hrest _ _ _ _)
  · rw [loom_setLoom_other _ (List.ne_of_not_mem_cons hj), loom_setLoom_other _ (List.ne_of_not_mem_cons hj), loom_of_view hlooms]

end Sys2Proof.Machine
end

section
/-! Tile passes of the array (03 R58, R60, R61, R64, R66, R70; 09 R212). -/

namespace Sys2Proof.Machine

open Sys2Proof

/-! ### Poison consumed once (09 R212) -/

/-- `t` is `s` after loom `l` has consumed poison that nothing of its job had consumed before: the job is marked and counted once. -/
structure ConsumedOnce (s t : State) (l : LoomId) : Prop where
  loomPart : t.loomPart l = s.loomPart l
  marked : (t.part (s.loomPart l)).poisoned = true
  counted : Counted s t 0x400007 1

section
variable {s t : State} {l : LoomId}

theorem ConsumedOnce.stays (h : ConsumedOnce s t l) : (t.part (s.loomPart l)).poisoned = true ∧ Counted s t 0x400007 1 := ⟨h.marked, h.counted⟩

theorem layout_loomPoison (t : State) (l : LoomId) (tag origin : Nat) : (t.loomPoison l tag origin).loomPart l = t.loomPart l := by
  have hp := loomPart_lt t l
  have hcharge : ¬ chargesObj (t.loomPart l) 0x90000A := by
    unfold chargesObj
    simp only [raisedObjs, droppedObjs, List.mem_cons, List.not_mem_nil, or_false]
    omega
  refine partOfQuad_congr ?_ l.q
  unfold State.loomPoison State.consumePoison
  split
  · rfl
  · dsimp only
    split
    · exact obj_raise t (by decide) (Nat.le_succ 3)
    · rw [obj_faultAndHalt _ hcharge, obj_modPart, obj_bump_other _ (by decide)]
      exact obj_raise t (by decide) (Nat.le_succ 3)

theorem SameJob.consumes (h : SameJob s t l) (tag : Nat) {origin : Nat} (ho : origin ≠ 0) (hclean : (s.part (s.loomPart l)).poisoned = false)
    (hlive : s.jobLive (s.loomPart l) = true) : ConsumedOnce s (t.loomPoison l tag origin) l := by
  obtain ⟨hmark, hcount, -⟩ := loomPoison_marks h tag ho hclean hlive
  exact ⟨(layout_loomPoison t l tag origin).trans h.loomPart, hmark, hcount⟩

/-- What is consumed after that leaves records only. -/
theorem ConsumedOnce.loomPoison (h : ConsumedOnce s t l) (tag origin : Nat) : ConsumedOnce s (t.loomPoison l tag origin) l := by
  refine ⟨(layout_loomPoison t l tag origin).trans h.loomPart, ?_, ?_⟩
  · unfold State.loomPoison State.consumePoison
    split
    · exact h.marked
    · dsimp only
      rw [h.loomPart]
      have hmark (x : Raise) : ((t.raise x).part (s.loomPart l)).poisoned = true := part_of_view (view_raise (by decide) t x) _ ▸ h.marked
      rw [hmark, Bool.true_or, if_pos rfl]
      exact hmark _
  · unfold State.loomPoison
    split
    · exact h.counted
    · rw [h.loomPart]
      exact (consumePoison_again t _ _ _ _ _ _ h.marked (by decide)).trans h.counted

/-- Two uses, the second of poison for certain. -/
theorem SameJob.consumes_twice (h : SameJob s t l) (tag : Nat) (first : Nat) {origin : Nat} (ho : origin ≠ 0)
    (hclean : (s.part (s.loomPart l)).poisoned = false) (hlive : s.jobLive (s.loomPart l) = true) :
    ConsumedOnce s ((t.loomPoison l tag first).loomPoison l tag origin) l := by
  by_cases hfirst : first = 0
  · rw [show t.loomPoison l tag first = t from if_pos hfirst]
    exact h.consumes tag ho hclean hlive
  · exact (h.consumes tag hfirst hclean hlive).loomPoison tag origin

/-- Where the job is marked already, or none is live, a use of poison leaves a record only. -/
theorem loom_loomPoison_spent (hspent : (t.part (t.loomPart l)).poisoned = true ∨ t.jobLive (t.loomPart l) = false) (tag origin : Nat) :
    (∀ j, (t.loomPoison l tag origin).loom j = t.loom j)
      ∧ (((t.loomPoison l tag origin).part (t.loomPart l)).poisoned = true ∨ (t.loomPoison l tag origin).jobLive (t.loomPart l) = false) := by
  unfold State.loomPoison State.consumePoison
  split
  · exact ⟨fun _ => rfl, hspent⟩
  · dsimp only
    generalize hx : ({ code := 0x0305, sev := 3, uclass := ucLoom, unit := t.loomNo l, part := t.loomPart l, op := tag
                       detail := (origin - 1) % 32 % 32 + (origin - 1) / 32 % 2 ^ 32 * 2 ^ 8, quad := some l.q.val } : Raise) = x
    have hsev : x.sev ≤ 4 := by rw [← hx]; exact Nat.le_succ 3
    obtain ⟨hpart, hjob, -⟩ := jobObjs_raise t (loomPart_lt t l) hsev
    have hspent' : ((t.raise x).part (t.loomPart l)).poisoned = true ∨ (t.raise x).jobLive (t.loomPart l) = false := by
      unfold State.jobLive at hspent ⊢
      rwa [hpart, hjob]
    have hrecord : (((t.raise x).part (t.loomPart l)).poisoned || !(t.raise x).jobLive (t.loomPart l)) = true := by
      rcases hspent' with h | h <;> rw [h] <;> simp
    rw [hrecord, if_pos rfl]
    exact ⟨loom_of_view (view_raise (by decide) t x), hspent'⟩

end

/-! ### Rows of the sets that SECDED cannot correct (R99) -/

/-- A word is marked, and stays so where it was. -/
theorem firstOf_marked (m : SMap Nat) (k : Nat) {origin : Nat} (ho : origin ≠ 0) :
    firstOf ((if SMap.get 0 m k = 0 then SMap.set 0 m k origin else m).map (·.2)) ≠ 0 := by
  have hget : SMap.get 0 (if SMap.get 0 m k = 0 then SMap.set 0 m k origin else m) k ≠ 0 := by
    split
    · rw [SMap.get_set_same]
      exact ho
    · assumption
  obtain ⟨y, hy, hne⟩ := SMap.exists_mem_of_get_ne hget
  exact firstOf_ne_zero (List.mem_map_of_mem (f := (·.2)) hy) hne

theorem lost_markWord_active (x : Loom) (r : Fin 64) {origin : Nat} (ho : origin ≠ 0) :
    firstOf ((x.markWord (.activeSet r) origin).active.poison.map (·.2)) ≠ 0 := firstOf_marked x.active.poison r.val ho

theorem lost_markWord_shadow (x : Loom) (r : Fin 64) {origin : Nat} (ho : origin ≠ 0) :
    firstOf ((x.markWord (.shadowSet r) origin).shadow.poison.map (·.2)) ≠ 0 := firstOf_marked x.shadow.poison r.val ho

/-! ### A pass on an array path -/

/-- The loom after a pass: the sums added, the plane in use, and at a block's end its rows in shadow or waiting. -/
def State.passedLoom (s : State) (l : LoomId) (d : Word512) : Loom :=
  let x := s.loom l
  let pl := if dBit d 50 then x.plane else x.idlePlane
  let y := { x with
    plane := pl
    idlePlane := if dBit d 50 then x.idlePlane else .empty
    active := { x.active with acc := s.passResult l d pl (passDepth d) x.active.acc
                              poison := markRows x.active.poison (x.passOrigins d pl (passDepth d)) } }
  let z := if dBit d 49 then y.blockEnds d (s.quad l.q).count else y
  { z with arrayQ := setPhase (fun o => o.phase == 1) (if dBit d 49 then 2 else 3) z.arrayQ }

/-- The origins that a pass meets in its plane and its streaming rows. -/
def State.passMet (s : State) (l : LoomId) (d : Word512) : Nat :=
  firstOf ((s.loom l).passOrigins d (if dBit d 50 then (s.loom l).plane else (s.loom l).idlePlane) (passDepth d))

theorem arrayPass_eq (s : State) (l : LoomId) (d : Word512) : ∃ keys,
    s.arrayPass l d = ((s.setLoom l (s.passedLoom l d)).overflows l (dTag d) keys).loomPoison l (dTag d) (s.passMet l d) := ⟨_, rfl⟩

theorem loom_overflows (s : State) (l : LoomId) (tag : Nat) (keys : List Nat) (j : LoomId) : (s.overflows l tag keys).loom j = s.loom j :=
  loom_of_view (view_overflows (by decide) ..) j

theorem sameJob_overflows (s : State) (l : LoomId) (tag : Nat) (keys : List Nat) : SameJob s (s.overflows l tag keys) l := by
  have hp := loomPart_lt s l
  have hobj (r : Nat) (hr : r ∉ 0x702006 :: raisedObjs) : (s.overflows l tag keys).obj r = s.obj r := obj_overflows s l hr tag keys
  have hjob (k : Nat) (hk : k = 0x907001 ∨ k = 0x521003) : (s.overflows l tag keys).obj (k + 256 * s.loomPart l) = s.obj (k + 256 * s.loomPart l) :=
    hobj _ (by simp only [raisedObjs, List.mem_cons, List.not_mem_nil, or_false]; omega)
  exact ⟨partOfQuad_congr (hobj _ (by decide)) l.q, part_of_view (view_overflows (by decide) ..) _, hjob _ (.inl rfl), hjob _ (.inr rfl),
    hobj _ (by decide)⟩

/-- A pass without poison: the loom is the passed one, and no other changed. -/
theorem loom_arrayPass_clean {s : State} {l : LoomId} {d : Word512} (hclean : s.passMet l d = 0) :
    (s.arrayPass l d).loom l = s.passedLoom l d ∧ OnlyLooms [l] s (s.arrayPass l d) := by
  obtain ⟨keys, hpass⟩ := arrayPass_eq s l d
  rw [hpass, hclean, State.loomPoison, if_pos rfl]
  refine ⟨?_, fun j hj => ?_⟩
  · rw [loom_overflows, loom_setLoom_same]
  · rw [loom_overflows, loom_setLoom_other s (List.ne_of_not_mem_cons hj)]

section
variable {s : State} {l : LoomId} {e : InFlight} (hruns : s.quadRuns l.q = true) (hnext : nextPass (s.loom l).arrayQ = some e)
  (htile : (s.loom l).tileWaits e = false)
include hruns hnext htile

theorem exec_tilePassIssue (hit : Option LoomHit) (hshadow : (s.loom l).shadowWaits e = false) : exec (.tilePassIssue l hit) s = .next (
    if dField e.desc 35 32 = 0 then (s.found l (dTag e.desc) (passReads e) hit).fp32Product l e.desc
    else if activeLost hit then ((s.found l (dTag e.desc) (passReads e) hit).arrayPass l e.desc).loomPoison l (dTag e.desc)
      (firstOf (((s.found l (dTag e.desc) (passReads e) hit).loom l).active.poison.map (·.2)))
    else (s.found l (dTag e.desc) (passReads e) hit).arrayPass l e.desc) := by
  change execTilePassIssue l hit s = _
  unfold execTilePassIssue
  rw [if_pos hruns]
  dsimp only
  rw [hnext]
  dsimp only
  rw [htile, hshadow, Bool.or_self, if_neg Bool.false_ne_true]

/-- A harmless hit loses no row of the active set. -/
theorem exec_tilePassIssue_array {hit : Option LoomHit} (hharm : harmless hit) (hpath : dField e.desc 35 32 ≠ 0)
    (hshadow : (s.loom l).shadowWaits e = false) : ∃ u, Noted s u ∧ exec (.tilePassIssue l hit) s = .next (u.arrayPass l e.desc) := by
  have hlost : activeLost hit = false := by
    unfold activeLost
    split
    next h => rw [decide_eq_false (hharm h rfl), Bool.false_and]
    · rfl
  refine ⟨_, noted_found hharm s l (dTag e.desc) (passReads e), ?_⟩
  rw [exec_tilePassIssue hruns hnext htile hit hshadow, if_neg hpath, hlost, if_neg Bool.false_ne_true]

end

theorem Noted.passedLoom {s u : State} (h : Noted s u) (l : LoomId) (d : Word512) : u.passedLoom l d = s.passedLoom l d := by
  have hdraws := h.sameDraws l
  unfold State.passedLoom
  simp only [h.loom, hdraws.passResult (h.loom l), hdraws.count]

theorem Noted.passMet {s u : State} (h : Noted s u) (l : LoomId) (d : Word512) : u.passMet l d = s.passMet l d := by
  unfold State.passMet
  rw [h.loom]

/-! ### Rows that swap (R61) -/

section
variable (x : Loom) (d : Word512) (c : BitVec 64)

theorem shadow_swapSets : (x.swapSets d c).shadow = { x.active with
    full := true, desc := d, acc := if dBit d 55 then withFrac x.active.acc (x.blockFrac d) else x.active.acc } := by
  unfold Loom.swapSets
  dsimp only
  (repeat' split) <;> rfl

theorem active_swapSets : (x.swapSets d c).active = .empty := by
  unfold Loom.swapSets
  dsimp only
  (repeat' split) <;> rfl

theorem swapDue_swapSets : (x.swapSets d c).swapDue = none := by
  unfold Loom.swapSets
  dsimp only
  (repeat' split) <;> rfl

theorem blockFrac_congr {x y : Loom} (h : x.scaleFile = y.scaleFile) (d : Word512) : x.blockFrac d = y.blockFrac d := by
  unfold Loom.blockFrac Loom.scaleExp Loom.scaleByte
  rw [h]

end

/-! ### What a pass leaves in its loom -/

/-- Output (m, n) of a pass is the sum before, with the pass's sum added (R64, R70). -/
theorem get_passResult (s : State) (l : LoomId) (d : Word512) (pl : Plane) (deep : Nat) (acc : SMap A96) {m n : Nat} (hm : m < 64) (hn : n < 64) :
    SMap.get A96.zero (s.passResult l d pl deep acc) (64 * m + n)
      = (SMap.get A96.zero acc (64 * m + n)).accumulate (frac0 (dField d 35 32) (dField d 39 36))
          (passSum d pl deep (s.streamRow l d deep m).1 (s.streamRow l d deep m).2 n) := by
  unfold State.passResult
  exact SMap.get_filter_of_mem (nodup_blockKeys _) (fun e _ he => by simpa using he) (mem_block _ hm hn)

section
variable (s : State) (l : LoomId) (d : Word512)

theorem plane_passedLoom : (s.passedLoom l d).plane = (if dBit d 50 then (s.loom l).plane else (s.loom l).idlePlane) := by
  unfold State.passedLoom Loom.blockEnds Loom.swapSets
  dsimp only
  (repeat' split) <;> rfl

theorem mem_passedLoom : (s.passedLoom l d).mem = (s.loom l).mem := by
  unfold State.passedLoom Loom.blockEnds Loom.swapSets
  dsimp only
  (repeat' split) <;> rfl

/-- The sums of a pass under descriptor `d`. -/
def State.passSums : SMap A96 :=
  s.passResult l d (if dBit d 50 then (s.loom l).plane else (s.loom l).idlePlane) (passDepth d) (s.loom l).active.acc

variable {s l d}

/-- The last pass of a block swaps the set to an empty shadow set (R61). -/
theorem passedLoom_swaps (hlast : dBit d 49 = true) (hempty : (s.loom l).shadow.full = false) : (s.passedLoom l d).active = .empty
    ∧ (s.passedLoom l d).shadow.full = true ∧ (s.passedLoom l d).shadow.desc = d ∧ (s.passedLoom l d).swapDue = none
    ∧ (s.passedLoom l d).shadow.acc = (if dBit d 55 then withFrac (s.passSums l d) ((s.loom l).blockFrac d) else s.passSums l d) := by
  unfold State.passedLoom Loom.blockEnds
  dsimp only
  rw [if_pos hlast, hempty, if_neg Bool.false_ne_true, shadow_swapSets, active_swapSets, swapDue_swapSets]
  refine ⟨rfl, rfl, rfl, rfl, ?_⟩
  exact congrArg (fun f => if dBit d 55 then withFrac (s.passSums l d) f else s.passSums l d) (blockFrac_congr rfl d)

/-- Where the shadow set still drains, the swap waits. -/
theorem passedLoom_waits (hlast : dBit d 49 = true) (hfull : (s.loom l).shadow.full = true) : (s.passedLoom l d).active.acc = s.passSums l d
    ∧ (s.passedLoom l d).shadow = (s.loom l).shadow ∧ (s.passedLoom l d).swapDue = some d := by
  unfold State.passedLoom Loom.blockEnds State.passSums
  dsimp only
  rw [if_pos hlast, hfull, if_pos rfl]
  exact ⟨rfl, rfl, rfl⟩

/-- Another pass leaves the shadow set. -/
theorem passedLoom_goesOn (hlast : dBit d 49 = false) : (s.passedLoom l d).active.acc = s.passSums l d
    ∧ (s.passedLoom l d).shadow = (s.loom l).shadow ∧ (s.passedLoom l d).swapDue = (s.loom l).swapDue := by
  unfold State.passedLoom State.passSums
  dsimp only
  rw [hlast, if_neg Bool.false_ne_true]
  exact ⟨rfl, rfl, rfl⟩

/-- The set that holds the sums after a pass without TO_CHAIN. -/
theorem acc_passedLoom (hlocal : dBit d 55 = false) :
    (if dBit d 49 && !(s.loom l).shadow.full then (s.passedLoom l d).shadow else (s.passedLoom l d).active).acc = s.passSums l d := by
  cases hlast : dBit d 49
  · exact (passedLoom_goesOn hlast).1
  · cases hfull : (s.loom l).shadow.full
    · obtain ⟨-, -, -, -, hacc⟩ := passedLoom_swaps hlast hfull
      rw [hlocal] at hacc
      exact hacc
    · exact (passedLoom_waits hlast hfull).1

/-- With TO_CHAIN the loom takes the role of the CHAIN that was taken for its MATMUL (R71). -/
theorem role_passedLoom (hlast : dBit d 49 = true) (hempty : (s.loom l).shadow.full = false) (hchain : dBit d 55 = true) {c : InFlight}
    (hc : (s.loom l).chainQ.find? (fun o => o.phase == 1) = some c) : (s.passedLoom l d).role = some
      { desc := c.desc, since := (s.quad l.q).count, coming := [], held := [], passed := 0, out := [], seen := [], poison := [] } := by
  unfold State.passedLoom Loom.blockEnds Loom.swapSets
  dsimp only
  rw [if_pos hlast, hempty, if_neg Bool.false_ne_true, if_pos hchain, hc]

theorem frac_withFrac (acc : SMap A96) (f : Int) (i : Nat) :
    (SMap.get A96.zero (withFrac acc f) i).frac = BitVec.ofInt 8 f ∨ SMap.get A96.zero (withFrac acc f) i = A96.zero := by
  have hkeys : (((List.range 4096).map (fun i => (i, ({ SMap.get A96.zero acc i with frac := BitVec.ofInt 8 f } : A96)))).map Prod.fst).Nodup := by
    rw [List.map_map, show (Prod.fst ∘ fun i => (i, ({ SMap.get A96.zero acc i with frac := BitVec.ofInt 8 f } : A96))) = id from rfl, List.map_id]
    exact List.nodup_range
  unfold withFrac
  rw [SMap.get_filter hkeys fun e _ he => by simpa using he]
  by_cases hi : i < 4096
  · rw [SMap.get_of_mem hkeys (List.mem_map.2 ⟨i, List.mem_range.2 hi, rfl⟩)]
    exact .inl rfl
  · refine .inr (SMap.get_of_not_mem ?_)
    rw [List.map_map, show (Prod.fst ∘ fun i => (i, ({ SMap.get A96.zero acc i with frac := BitVec.ofInt 8 f } : A96))) = id from rfl, List.map_id]
    exact fun h => hi (List.mem_range.1 h)

end

/-! ### Passes that issue -/

/-- A plane and streaming rows without poison bring none. -/
theorem passMet_clean {s : State} {l : LoomId} {e : InFlight} (hplane : (if dBit e.desc 50 then (s.loom l).plane else (s.loom l).idlePlane).poison = 0)
    (hrows : ∀ m, m < 64 → (s.loom l).elemsPoison (dField e.desc 35 32) (dField e.desc 141 128 + m * rowLines (dField e.desc 35 32)
      (passDepth e.desc)) (passDepth e.desc) = 0) : s.passMet l e.desc = 0 := by
  refine firstOf_clean fun x hx => ?_
  obtain ⟨m, hm, rfl⟩ := List.mem_map.1 hx
  rw [hplane, hrows m (List.mem_range.1 hm)]
  rfl

section
variable {s : State} {l : LoomId} {e : InFlight} (hruns : s.quadRuns l.q = true) (hnext : nextPass (s.loom l).arrayQ = some e)
  (htile : (s.loom l).tileWaits e = false)
include hruns hnext htile

/-- A pass that meets no poison. -/
theorem tilePassIssue_clean {hit : Option LoomHit} (hharm : harmless hit) (hpath : dField e.desc 35 32 ≠ 0)
    (hshadow : (s.loom l).shadowWaits e = false) (hclean : s.passMet l e.desc = 0) : ∃ t, exec (.tilePassIssue l hit) s = .next t
      ∧ t.loom l = s.passedLoom l e.desc ∧ OnlyLooms [l] s t := by
  obtain ⟨u, hn, hexec⟩ := exec_tilePassIssue_array hruns hnext htile hharm hpath hshadow
  obtain ⟨hloom, hothers⟩ := loom_arrayPass_clean (s := u) (l := l) (d := e.desc) (by rw [hn.passMet]; exact hclean)
  exact ⟨_, hexec, hloom.trans (hn.passedLoom l e.desc), fun j hj => (hothers j hj).trans (hn.loom j)⟩

/-- A pass that adds its sums to the active set (R58, R60, R64). -/
theorem tilePassIssue_adds {hit : Option LoomHit} (hharm : harmless hit) (hpath : dField e.desc 35 32 ≠ 0) (hlocal : dBit e.desc 55 = false)
    (hshadow : (s.loom l).shadowWaits e = false) (hclean : s.passMet l e.desc = 0) : ∃ t, exec (.tilePassIssue l hit) s = .next t
      ∧ (∀ m n, m < 64 → n < 64 →
          SMap.get A96.zero (if dBit e.desc 49 && !(s.loom l).shadow.full then (t.loom l).shadow else (t.loom l).active).acc (64 * m + n)
            = (SMap.get A96.zero (s.loom l).active.acc (64 * m + n)).accumulate (frac0 (dField e.desc 35 32) (dField e.desc 39 36))
                (passSum e.desc (if dBit e.desc 50 then (s.loom l).plane else (s.loom l).idlePlane) (passDepth e.desc)
                  (s.streamRow l e.desc (passDepth e.desc) m).1 (s.streamRow l e.desc (passDepth e.desc) m).2 n))
      ∧ (dBit e.desc 49 = true → (s.loom l).shadow.full = false →
          (t.loom l).active = .empty ∧ (t.loom l).shadow.full = true ∧ (t.loom l).shadow.desc = e.desc ∧ (t.loom l).swapDue = none)
      ∧ (dBit e.desc 49 = true → (s.loom l).shadow.full = true →
          (t.loom l).shadow = (s.loom l).shadow ∧ (t.loom l).swapDue = some e.desc)
      ∧ (dBit e.desc 49 = false → (t.loom l).shadow = (s.loom l).shadow ∧ (t.loom l).swapDue = (s.loom l).swapDue)
      ∧ (t.loom l).plane = (if dBit e.desc 50 then (s.loom l).plane else (s.loom l).idlePlane)
      ∧ (t.loom l).mem = (s.loom l).mem ∧ OnlyLooms [l] s t := by
  obtain ⟨t, hexec, hloom, hothers⟩ := tilePassIssue_clean hruns hnext htile hharm hpath hshadow hclean
  refine ⟨t, hexec, fun m n hm hn => ?_, fun hlast hempty => ?_, fun hlast hfull => ?_, fun hlast => ?_, ?_, ?_, hothers⟩ <;> rw [hloom]
  · rw [acc_passedLoom hlocal]
    exact get_passResult s l e.desc _ _ _ hm hn
  · obtain ⟨hactive, hfull, hdesc, hdue, -⟩ := passedLoom_swaps (s := s) (l := l) hlast hempty
    exact ⟨hactive, hfull, hdesc, hdue⟩
  · exact (passedLoom_waits hlast hfull).2
  · exact (passedLoom_goesOn hlast).2
  · exact plane_passedLoom s l e.desc
  · exact mem_passedLoom s l e.desc

/-- The last pass of a block for a chain (R61, R71). -/
theorem tilePassIssue_chains {hit : Option LoomHit} (hharm : harmless hit) (hpath : dField e.desc 35 32 ≠ 0) (hlast : dBit e.desc 49 = true)
    (hchain : dBit e.desc 55 = true) (hempty : (s.loom l).shadow.full = false) (hshadow : (s.loom l).shadowWaits e = false) {c : InFlight}
    (hc : (s.loom l).chainQ.find? (fun o => o.phase == 1) = some c) (hclean : s.passMet l e.desc = 0) : ∃ t,
    exec (.tilePassIssue l hit) s = .next t
      ∧ (t.loom l).role = some { desc := c.desc, since := (s.quad l.q).count, coming := [], held := [], passed := 0, out := [],
                                 seen := [], poison := [] }
      ∧ (t.loom l).shadow.full = true ∧ (t.loom l).shadow.desc = e.desc ∧ (t.loom l).active = .empty
      ∧ (∀ i, i < 4096 → (SMap.get A96.zero (t.loom l).shadow.acc i).frac = BitVec.ofInt 8 ((s.loom l).blockFrac e.desc)
          ∨ SMap.get A96.zero (t.loom l).shadow.acc i = A96.zero)
      ∧ OnlyLooms [l] s t := by
  obtain ⟨t, hexec, hloom, hothers⟩ := tilePassIssue_clean hruns hnext htile hharm hpath hshadow hclean
  obtain ⟨hactive, hfull, hdesc, -, hacc⟩ := passedLoom_swaps (s := s) (l := l) hlast hempty
  refine ⟨t, hexec, ?_, ?_, ?_, ?_, fun i _ => ?_, hothers⟩ <;> rw [hloom]
  · exact role_passedLoom hlast hempty hchain hc
  · exact hfull
  · exact hdesc
  · exact hactive
  · rw [hacc, if_pos hchain]
    exact frac_withFrac ..

/-- A row of the active set that cannot be corrected enters the sums of the pass: a use of its poison (R82, R99). -/
theorem tilePassIssue_lost (r : Fin 64) (hpath : dField e.desc 35 32 ≠ 0) (hshadow : (s.loom l).shadowWaits e = false) : ∃ t,
    exec (.tilePassIssue l (some { word := .activeSet r, ecc := .multi })) s = .next t
      ∧ ((s.part (s.loomPart l)).poisoned = true ∨ s.jobLive (s.loomPart l) = false →
          (t.loom l).plane = (if dBit e.desc 50 then (s.loom l).plane else (s.loom l).idlePlane))
      ∧ ((s.part (s.loomPart l)).poisoned = false → s.jobLive (s.loomPart l) = true →
          (t.part (s.loomPart l)).poisoned = true ∧ Counted s t 0x400007 1) := by
  have hread : passReads e (.activeSet r) = true := by
    unfold passReads
    rw [if_neg hpath, Bool.or_true]
  obtain ⟨u, origin, ho, hfound, hlooms, hparts, hobjs⟩ := found_multi s l (dTag e.desc) hread
  have hexec := exec_tilePassIssue hruns hnext htile (some { word := .activeSet r, ecc := .multi }) hshadow
  have hlost : activeLost (some { word := .activeSet r, ecc := .multi }) = true := rfl
  rw [if_neg hpath, if_pos hlost, hfound, loom_setLoom_same] at hexec
  obtain ⟨keys, hpass⟩ := arrayPass_eq (u.setLoom l ((s.loom l).markWord (.activeSet r) origin)) l e.desc
  rw [hpass] at hexec
  have hjob : SameJob s (((u.setLoom l ((s.loom l).markWord (.activeSet r) origin)).setLoom l
      ((u.setLoom l ((s.loom l).markWord (.activeSet r) origin)).passedLoom l e.desc)).overflows l (dTag e.desc) keys) l :=
    (((SameJob.of_objs (part_of_view hparts) fun r hr => hobjs r (List.not_mem_of_not_mem_cons hr)).trans (.setLoom u l _)).trans
      (.setLoom _ l _)).trans (sameJob_overflows _ l _ keys)
  refine ⟨_, hexec, fun hspent => ?_, fun hclean hlive => ?_⟩
  · have hspent' := hspent
    rw [← hjob.part, ← hjob.jobLive, ← hjob.loomPart] at hspent'
    obtain ⟨hfirst, hstill⟩ := loom_loomPoison_spent hspent' (dTag e.desc)
      ((u.setLoom l ((s.loom l).markWord (.activeSet r) origin)).passMet l e.desc)
    rw [← layout_loomPoison] at hstill
    rw [(loom_loomPoison_spent hstill _ _).1, hfirst, loom_overflows, loom_setLoom_same, plane_passedLoom, loom_setLoom_same]
    rfl
  · exact (hjob.consumes_twice (dTag e.desc) _ (lost_markWord_active (s.loom l) r ho) hclean hlive).stays

end

end Sys2Proof.Machine
end

section
/-! SUPPORT. Rows of results that reach local memory (03 R62, R65; 04 R90, R93), and the product of FP32 matrices (03 R69; 04 R92). -/

namespace Sys2Proof.Machine

open Sys2Proof

/-! ### Rows that are written -/

/-- A loom that differs in its local memory, the marks of it and its recorded conversions alone. -/
def Loom.RowsOnly (x y : Loom) : Prop := y = { x with mem := y.mem, poison := y.poison, eph := y.eph }

theorem Loom.RowsOnly.trans {x y z : Loom} (h : x.RowsOnly y) (k : y.RowsOnly z) : x.RowsOnly z := by
  unfold Loom.RowsOnly at h k ⊢
  rw [k, h]

theorem Loom.MemOnly.rowsOnly {x y : Loom} (h : x.MemOnly y) : x.RowsOnly y := by
  unfold Loom.MemOnly at h
  unfold Loom.RowsOnly
  rw [h]

theorem rowsOnly_note (x : Loom) (fld : Nat) (c : ConvClass) (v : Val) : x.RowsOnly (x.note fld c v) := by
  unfold Loom.note
  split <;> rfl

theorem rowsOnly_foldl {α : Type} {f : Loom → α → Loom} (hf : ∀ (y : Loom) a, y.RowsOnly (f y a)) (l : List α) (x : Loom) :
    x.RowsOnly (l.foldl f x) := by
  induction l generalizing x with
  | nil => rfl
  | cons a l ih => exact (hf x a).trans (ih _)

/-- `t` is `s` after loom `l` wrote rows of results. -/
structure RowsOut (s t : State) (l : LoomId) : Prop where
  loom : (s.loom l).RowsOnly (t.loom l)
  others : OnlyLooms [l] s t
  draws : SameDraws s t l
  job : SameJob s t l

theorem RowsOut.refl (s : State) (l : LoomId) : RowsOut s s l := ⟨rfl, fun _ _ => rfl, .refl s l, rfl, rfl, rfl, rfl, rfl⟩

theorem RowsOut.trans {s t u : State} {l : LoomId} (h : RowsOut s t l) (g : RowsOut t u l) : RowsOut s u l :=
  ⟨h.loom.trans g.loom, fun j hj => (g.others j hj).trans (h.others j hj), h.draws.trans g.draws,
    h.job.trans g.job⟩

theorem RowsOut.scaleFile {s t : State} {l : LoomId} (h : RowsOut s t l) : (t.loom l).scaleFile = (s.loom l).scaleFile := by rw [h.loom]

/-- Pattern of result n of row m. -/
def State.outPattern (s : State) (l : LoomId) (o : OutForm) (exp : Int) (m n : Nat) (a : A96) : Nat :=
  if o.wide then a.slot else (s.outElem l o (a.val.scale exp) (o.index + m * o.stride + n)).1

theorem RowsOut.outPattern {s t : State} {l : LoomId} (h : RowsOut s t l) (o : OutForm) (exp : Int) (m n : Nat) (a : A96) :
    t.outPattern l o exp m n a = s.outPattern l o exp m n a := by
  unfold State.outPattern
  rw [h.draws.outElem h.scaleFile]

/-- Format in which a row is packed. -/
def OutForm.packed (o : OutForm) : Nat := if o.wide then 10 else o.fmt

theorem rowsOut_outRow (s : State) (l : LoomId) (o : OutForm) (m : Nat) (vals : List (Option A96)) (exp : Int) (origins : List Nat) :
    RowsOut s (s.outRow l o m vals exp origins) l := by
  refine ⟨?_, fun j hj => ?_, ?_, ?_⟩
  · unfold State.outRow
    dsimp only
    rw [loom_setLoom_same]
    refine (rowsOnly_foldl (fun y c => ?_) _ _).trans (memOnly_putElems _ _ _ _ _).rowsOnly
    split
    · exact rowsOnly_note _ _ _ _
    · rfl
  · exact loom_setLoom_other s (List.ne_of_not_mem_cons hj) _
  · exact .setLoom s l _
  · exact .setLoom s l _

/-- The bytes of a row all of whose values arrived. -/
theorem mem_outRow (s : State) (l : LoomId) (o : OutForm) (m w : Nat) (val : Nat → A96) (exp : Int) (origins : List Nat) :
    ((s.outRow l o m ((List.range w).map (fun n => some (val n))) exp origins).loom l).mem
      = putBytes (s.loom l).mem (64 * (o.line + m * rowLines o.packed w))
          (packElems o.packed ((List.range w).map (fun n => s.outPattern l o exp m n (val n)))) := by
  unfold State.outRow
  dsimp only
  rw [loom_setLoom_same, mem_putElems, mem_foldl, List.length_map, List.length_range]
  · refine congrArg (fun e => putBytes _ _ (packElems _ e)) ?_
    refine List.ext_getElem (by simp) fun n hn hn' => ?_
    simp only [List.getElem_map, List.getElem_zipIdx, List.getElem_range, State.outPattern, Nat.zero_add]
    cases o.wide <;> rfl
  · intro y c
    split
    · exact mem_note _ _ _ _
    · rfl

/-- Rows 0 to n − 1 of a block are written, one after another. -/
def State.outRows (s : State) (l : LoomId) (o : OutForm) (val : Nat → Option A96) (exp : Int) (origin : Nat → Nat) (n : Nat) : State :=
  (List.range n).foldl (fun (t : State) m =>
    t.outRow l o m ((List.range 64).map (fun n => val (64 * m + n))) exp ((List.range 64).map (fun n => origin (64 * m + n)))) s

theorem outBlock_eq_outRows (s : State) (l : LoomId) (o : OutForm) (val : Nat → Option A96) (exp : Int) (origin : Nat → Nat) :
    s.outBlock l o val exp origin = s.outRows l o val exp origin 64 := rfl

theorem outRows_succ (s : State) (l : LoomId) (o : OutForm) (val : Nat → Option A96) (exp : Int) (origin : Nat → Nat) (n : Nat) :
    s.outRows l o val exp origin (n + 1) = (s.outRows l o val exp origin n).outRow l o n ((List.range 64).map (fun k => val (64 * n + k))) exp
      ((List.range 64).map (fun k => origin (64 * n + k))) := by
  unfold State.outRows
  rw [List.range_succ (n := n), List.foldl_append]
  rfl

theorem rowsOut_outRows (s : State) (l : LoomId) (o : OutForm) (val : Nat → Option A96) (exp : Int) (origin : Nat → Nat) (n : Nat) :
    RowsOut s (s.outRows l o val exp origin n) l := by
  induction n with
  | zero => exact .refl s l
  | succ n ih =>
    rw [outRows_succ]
    exact ih.trans (rowsOut_outRow ..)

theorem mem_outRows (s : State) (l : LoomId) (o : OutForm) (val : Nat → A96) (exp : Int) (origin : Nat → Nat) (n : Nat) :
    ((s.outRows l o (fun i => some (val i)) exp origin n).loom l).mem = putRows (fun m => 64 * (o.line + m * rowLines o.packed 64))
      (fun m => packElems o.packed ((List.range 64).map (fun n => s.outPattern l o exp m n (val (64 * m + n))))) (s.loom l).mem n := by
  induction n with
  | zero => rfl
  | succ n ih =>
    rw [outRows_succ, putRows_succ, ← ih, mem_outRow _ _ _ _ _ fun k => val (64 * n + k)]
    simp only [(rowsOut_outRows s l o (fun i => some (val i)) exp origin n).outPattern]

theorem packedBytes_le_rowLines (f n : Nat) : packedBytes f n ≤ 64 * rowLines f n := by
  unfold rowLines ceilDiv
  omega

theorem rowsOut_outBlock (s : State) (l : LoomId) (o : OutForm) (val : Nat → Option A96) (exp : Int) (origin : Nat → Nat) :
    RowsOut s (s.outBlock l o val exp origin) l := by
  rw [outBlock_eq_outRows]
  exact rowsOut_outRows ..

/-- Row m of a block that was written (R62, R90). -/
theorem getBytes_outBlock (s : State) (l : LoomId) (o : OutForm) (val : Nat → A96) (exp : Int) (origin : Nat → Nat) {m : Nat} (hm : m < 64) :
    getBytes ((s.outBlock l o (fun i => some (val i)) exp origin).loom l).mem (64 * (o.line + m * rowLines o.packed 64)) (packedBytes o.packed 64)
      = packElems o.packed ((List.range 64).map (fun n => s.outPattern l o exp m n (val (64 * m + n)))) := by
  rw [outBlock_eq_outRows, mem_outRows]
  refine getBytes_putRows (base := fun m => 64 * (o.line + m * rowLines o.packed 64))
    (data := fun m => packElems o.packed ((List.range 64).map (fun n => s.outPattern l o exp m n (val (64 * m + n)))))
    (fun i => ?_) (fun i => ?_) _ _ hm
  · rw [length_packElems, List.length_map, List.length_range]
  · have := packedBytes_le_rowLines o.packed 64
    rw [Nat.add_mul, Nat.one_mul]
    omega

/-! ### A product of FP32 matrices (R69, R92) -/

theorem rowLines_words (k : Nat) : rowLines 0 k = ceilDiv (4 * k) 64 := by
  unfold rowLines packedBytes
  rw [if_neg (by decide), if_neg (by decide), Nat.mul_comm]
  rfl

/-- Row j of a matrix all of whose lines are clean. -/
theorem elemsPoison_fp32Row {x : Loom} {line k j : Nat} (h : x.poisonAt (64 * line) (64 * (256 * ceilDiv (4 * k) 64)) = 0) (hj : j < 256) :
    x.elemsPoison 0 (line + j * rowLines 0 k) k = 0 := by
  have hbytes := packedBytes_le_rowLines 0 k
  have hrow : j * rowLines 0 k + rowLines 0 k ≤ 256 * rowLines 0 k := by
    rw [← Nat.succ_mul]
    exact Nat.mul_le_mul_right _ hj
  rw [← rowLines_words] at h
  exact poisonAt_sub h (by omega) (by omega)

section
variable {s : State} {l : LoomId} {d : Word512} (hpath : dField d 35 32 = 0) (hscales : (s.loom l).mmScaleOrigin d = 0)
  (hreads : ∀ r ∈ mmReads d, (s.loom l).poisonAt (64 * r.1) (64 * r.2) = 0)
include hpath hscales hreads

theorem fp32Origins_clean : ∀ y ∈ ((List.range 256).map (fun j =>
      firstOrigin ((s.loom l).elemsPoison 0 (dField d 141 128 + j * rowLines 0 (dField d 468 456)) (dField d 468 456))
        ((s.loom l).elemsPoison 0 (dField d 155 142 + j * rowLines 0 (dField d 468 456)) (dField d 468 456)))).map
      (firstOrigin ((s.loom l).mmScaleOrigin d)), y = 0 := by
  unfold mmReads at hreads
  dsimp only at hreads
  rw [if_pos hpath] at hreads
  obtain ⟨hleft, hright⟩ := List.forall_mem_cons.1 hreads
  have hright := List.forall_mem_singleton.1 hright
  intro y hy
  rw [List.map_map] at hy
  obtain ⟨j, hj, rfl⟩ := List.mem_map.1 hy
  have hj := List.mem_range.1 hj
  rw [Function.comp_apply, hscales, elemsPoison_fp32Row hleft hj, elemsPoison_fp32Row hright hj]
  rfl

/-- Its 256 results stand as one row, and it owes a verdict (log 101; 16 R384). -/
theorem fp32Product_writes : ∃ v : OwedVerdict, ((s.fp32Product l d).loom l).mem = putBytes (s.loom l).mem (64 * dField d 169 156)
        (packElems (mmOut d).packed ((List.range 256).map (fun j => s.outPattern l (mmOut d) 0 0 j (s.fp32Dot l d j))))
      ∧ ((s.fp32Product l d).loom l).verdicts = (s.loom l).verdicts ++ [v]
      ∧ v.window = true ∧ v.missed = false ∧ v.hop = false ∧ v.tag = BitVec.ofNat 16 (dTag d)
      ∧ OnlyLooms [l] s (s.fp32Product l d) := by
  have hclean := firstOf_clean (fp32Origins_clean hpath hscales hreads)
  unfold State.fp32Product
  dsimp only
  rw [hclean, State.loomPoison, if_pos rfl, loom_overflows, loom_setLoom_same]
  generalize hor : List.map (firstOrigin ((s.loom l).mmScaleOrigin d)) _ = origins
  have hvals : ((List.range 256).map (s.fp32Dot l d)).map some = (List.range 256).map (fun j => some (s.fp32Dot l d j)) := by
    rw [List.map_map]
    rfl
  rw [hvals]
  have hrow := rowsOut_outRow s l (mmOut d) 0 ((List.range 256).map (fun j => some (s.fp32Dot l d j))) 0 origins
  refine ⟨{ missed := false, hop := false, pos := 0, window := true, tag := BitVec.ofNat 16 (dTag d)
            acc := ((List.range 256).map (s.fp32Dot l d)).zipIdx.map (fun e => (e.2, e.1)) }, ?_, ?_, rfl, rfl, rfl, rfl, fun j hj => ?_⟩
  · dsimp only
    rw [mem_outRow, Nat.zero_mul, Nat.add_zero]
    rfl
  · rw [hrow.loom]
  · rw [loom_overflows, loom_setLoom_other _ (List.ne_of_not_mem_cons hj)]
    exact hrow.others j hj

end

theorem tilePassIssue_product {s : State} {l : LoomId} {hit : Option LoomHit} {e : InFlight} (hruns : s.quadRuns l.q = true)
    (hnext : nextPass (s.loom l).arrayQ = some e) (hharm : harmless hit) (hpath : dField e.desc 35 32 = 0)
    (htile : (s.loom l).tileWaits e = false) (hscales : (s.loom l).mmScaleOrigin e.desc = 0)
    (hreads : ∀ r ∈ mmReads e.desc, (s.loom l).poisonAt (64 * r.1) (64 * r.2) = 0) : ∃ t, exec (.tilePassIssue l hit) s = .next t
      ∧ (t.loom l).mem = putBytes (s.loom l).mem (64 * dField e.desc 169 156)
          (packElems (if dBit e.desc 51 then 10 else dField e.desc 43 40) ((List.range 256).map (fun j =>
            if dBit e.desc 51 then (s.fp32Dot l e.desc j).slot
            else (s.outElem l (mmOut e.desc) ((s.fp32Dot l e.desc j).val.scale 0) (dField e.desc 383 344 + j)).1)))
      ∧ (∃ v, (t.loom l).verdicts = (s.loom l).verdicts ++ [v] ∧ v.window = true ∧ v.missed = false ∧ v.hop = false
          ∧ v.tag = BitVec.ofNat 16 (dTag e.desc))
      ∧ OnlyLooms [l] s t := by
  have hshadow : (s.loom l).shadowWaits e = false := by
    unfold Loom.shadowWaits
    simp [hpath]
  have hexec := exec_tilePassIssue hruns hnext htile hit hshadow
  have hn := noted_found hharm s l (dTag e.desc) (passReads e)
  rw [if_pos hpath] at hexec
  generalize s.found l (dTag e.desc) (passReads e) hit = u at hexec hn
  obtain ⟨v, hmem, hverdict, hwindow, hmissed, hhop, htag, hothers⟩ := fp32Product_writes (s := u) (l := l) hpath (by rw [hn.loom]; exact hscales)
    (by rw [hn.loom]; exact hreads)
  have hdot (j : Nat) : u.fp32Dot l e.desc j = s.fp32Dot l e.desc j := by
    unfold State.fp32Dot
    rw [hn.loom]
  have hresult (j : Nat) : u.outPattern l (mmOut e.desc) 0 0 j (u.fp32Dot l e.desc j) = if dBit e.desc 51 then (s.fp32Dot l e.desc j).slot
      else (s.outElem l (mmOut e.desc) ((s.fp32Dot l e.desc j).val.scale 0) (dField e.desc 383 344 + j)).1 := by
    unfold State.outPattern
    rw [hdot, (hn.sameDraws l).outElem (congrArg Loom.scaleFile (hn.loom l)), Nat.zero_mul, Nat.add_zero]
    rfl
  refine ⟨_, hexec, ?_, ⟨v, ?_, hwindow, hmissed, hhop, htag⟩, fun j hj => (hothers j hj).trans (hn.loom j)⟩
  · rw [hmem, hn.loom]
    simp only [hresult]
    rfl
  · rw [hverdict, hn.loom]

end Sys2Proof.Machine
end

section
/-! Drains of the shadow set (03 R61, R62, R65, R71; 04 R90, R93; 16 R383, R385): O44. -/

namespace Sys2Proof.Machine

open Sys2Proof

/-! ### A block that has left the shadow set -/

section
variable {x : Loom} {d : Word512} (hop : Option ChainRole) (c : BitVec 64)

theorem drained_alone (hdue : x.swapDue = none) : x.drained hop c = x.blockLeft hop := by
  unfold Loom.drained
  dsimp only
  rw [show (x.blockLeft hop).swapDue = none from hdue]

theorem drained_swaps (hdue : x.swapDue = some d) : x.drained hop c = (x.blockLeft hop).swapSets d c := by
  unfold Loom.drained
  dsimp only
  rw [show (x.blockLeft hop).swapDue = some d from hdue]

theorem verdicts_swapSets (x : Loom) (d : Word512) : (x.swapSets d c).verdicts = x.verdicts := by
  unfold Loom.swapSets
  dsimp only
  (repeat' split) <;> rfl

theorem arrayQ_swapSets (x : Loom) (d : Word512) : (x.swapSets d c).arrayQ = x.arrayQ := by
  unfold Loom.swapSets
  dsimp only
  (repeat' split) <;> rfl

theorem verdicts_drained (x : Loom) : (x.drained hop c).verdicts
    = x.verdicts ++ x.blockVerdict hop.isSome :: (match hop with | some r => [x.hopVerdict r] | none => []) := by
  cases hdue : x.swapDue with
  | none => rw [drained_alone hop c hdue]; rfl
  | some d => rw [drained_swaps hop c hdue, verdicts_swapSets]; rfl

theorem arrayQ_drained (x : Loom) : (x.drained hop c).arrayQ = setPhase (fun e => e.phase == 2) 3 x.arrayQ := by
  cases hdue : x.swapDue with
  | none => rw [drained_alone hop c hdue]; rfl
  | some d => rw [drained_swaps hop c hdue, arrayQ_swapSets]; rfl

/-- The rows of a block that waited take the shadow set (R61). -/
theorem shadow_drained (hdue : x.swapDue = some d) (hlocal : dBit d 55 = false) :
    (x.drained hop c).shadow = { x.active with full := true, desc := d } ∧ (x.drained hop c).active = .empty ∧ (x.drained hop c).swapDue = none := by
  rw [drained_swaps hop c hdue, shadow_swapSets, active_swapSets, swapDue_swapSets, hlocal]
  exact ⟨rfl, rfl, rfl⟩

end

/-! ### Drains to local memory -/

theorem packed_mmOut (d : Word512) : (mmOut d).packed = if dBit d 51 then 10 else dField d 43 40 := rfl

/-- Sum i of the block in a shadow set, as a drain to local memory takes it: the loom's FRAC for slots (R65), the window's for values. -/
def Loom.drainSum (x : Loom) (i : Nat) : A96 :=
  if dBit x.shadow.desc 51 then { SMap.get A96.zero x.shadow.acc i with frac := BitVec.ofInt 8 (x.blockFrac x.shadow.desc) }
  else { SMap.get A96.zero x.shadow.acc i with frac := BitVec.ofInt 8 (frac0 (dField x.shadow.desc 35 32) (dField x.shadow.desc 39 36)) }

theorem outPattern_drainSum (s : State) (l : LoomId) (x : Loom) (exp : Int) (m n i : Nat) :
    s.outPattern l (mmOut x.shadow.desc) exp m n (x.drainSum i)
      = if dBit x.shadow.desc 51 then ({ SMap.get A96.zero x.shadow.acc i with frac := BitVec.ofInt 8 (x.blockFrac x.shadow.desc) } : A96).slot
        else (s.outElem l (mmOut x.shadow.desc) (({ SMap.get A96.zero x.shadow.acc i with
            frac := BitVec.ofInt 8 (frac0 (dField x.shadow.desc 35 32) (dField x.shadow.desc 39 36)) } : A96).val.scale exp)
          (dField x.shadow.desc 383 344 + m * dField x.shadow.desc 455 432 + n)).1 := by
  unfold State.outPattern Loom.drainSum
  dsimp only [mmOut]
  split <;> rfl

/-- A drain to local memory: the rows, the block leaves, and poison of the scales is consumed. -/
theorem drainLocal_eq (s : State) (l : LoomId) : ∃ u, RowsOut s u l
    ∧ (∀ m, m < 64 → ∀ o, o = mmOut (s.loom l).shadow.desc →
        getBytes (u.loom l).mem (64 * (o.line + m * rowLines o.packed 64)) (packedBytes o.packed 64)
          = packElems o.packed ((List.range 64).map (fun n =>
              s.outPattern l o ((s.loom l).operandExp (s.loom l).shadow.desc) m n ((s.loom l).drainSum (64 * m + n)))))
    ∧ s.drainLocal l = (u.setLoom l ((u.loom l).drained none (s.quad l.q).count)).loomPoison l (dTag (s.loom l).shadow.desc)
        ((s.loom l).mmScaleOrigin (s.loom l).shadow.desc) := by
  refine ⟨s.outBlock l (mmOut (s.loom l).shadow.desc) (fun i => some ((s.loom l).drainSum i)) ((s.loom l).operandExp (s.loom l).shadow.desc)
    (fun i => firstOrigin ((s.loom l).mmScaleOrigin (s.loom l).shadow.desc) (SMap.get 0 (s.loom l).shadow.poison (i / 64))),
    rowsOut_outBlock .., fun m hm o ho => ho ▸ getBytes_outBlock _ _ _ _ _ _ hm, rfl⟩

section
variable {s : State} {l : LoomId} (hruns : s.quadRuns l.q = true) (hfull : (s.loom l).shadow.full = true)
include hruns hfull

theorem exec_drain_local (hlocal : dBit (s.loom l).shadow.desc 55 = false) {hit : Option LoomHit}
    (hkept : ((s.found l (dTag (s.loom l).shadow.desc) (s.loom l).drainReads hit).loom l).shadow.desc = (s.loom l).shadow.desc) :
    exec (.shadowDrainComplete l hit) s = .next (
      if (s.loom l).drainUses hit then
        ((s.found l (dTag (s.loom l).shadow.desc) (s.loom l).drainReads hit).drainLocal l).loomPoison l (dTag (s.loom l).shadow.desc)
          (firstOf (((s.found l (dTag (s.loom l).shadow.desc) (s.loom l).drainReads hit).loom l).shadow.poison.map (·.2)))
      else (s.found l (dTag (s.loom l).shadow.desc) (s.loom l).drainReads hit).drainLocal l) := by
  have hrole : ((s.found l (dTag (s.loom l).shadow.desc) (s.loom l).drainReads hit).loom l).drainRole = none := by
    unfold Loom.drainRole
    rw [hkept, hlocal, if_neg Bool.false_ne_true]
  change execShadowDrainComplete l hit s = _
  unfold execShadowDrainComplete
  dsimp only
  rw [hruns, hfull, Bool.and_self, if_pos rfl, hlocal, Bool.false_and, if_neg Bool.false_ne_true, hrole]

omit hruns hfull in
theorem drainUses_harmless {hit : Option LoomHit} (hharm : harmless hit) (x : Loom) : x.drainUses hit = false := by
  unfold Loom.drainUses
  split
  next h => rw [decide_eq_false (hharm h rfl), Bool.false_and, Bool.false_and]
  · rfl

/-- The shadow set drains to local memory (R62, R65, R90, R93). -/
theorem shadowDrainComplete_local {hit : Option LoomHit} (hlocal : dBit (s.loom l).shadow.desc 55 = false) (hharm : harmless hit)
    (hscales : (s.loom l).mmScaleOrigin (s.loom l).shadow.desc = 0) : ∃ t, exec (.shadowDrainComplete l hit) s = .next t
      ∧ ((s.loom l).swapDue = none → (t.loom l).shadow = .empty)
      ∧ (∀ d, (s.loom l).swapDue = some d → dBit d 55 = false →
          (t.loom l).shadow = { (s.loom l).active with full := true, desc := d } ∧ (t.loom l).active = .empty ∧ (t.loom l).swapDue = none)
      ∧ (t.loom l).verdicts = (s.loom l).verdicts
          ++ [{ missed := (s.loom l).slotMissed, hop := false, pos := 0, window := decide (dField (s.loom l).shadow.desc 35 32 = 1)
                tag := BitVec.ofNat 16 (dTag (s.loom l).shadow.desc), acc := (s.loom l).shadow.acc }]
      ∧ (t.loom l).arrayQ = setPhase (fun e => e.phase == 2) 3 (s.loom l).arrayQ
      ∧ (∀ m, m < 64 → ∀ d, d = (s.loom l).shadow.desc → ∀ f, f = (if dBit d 51 then 10 else dField d 43 40) →
          getBytes (t.loom l).mem (64 * (dField d 169 156 + m * rowLines f 64)) (packedBytes f 64)
            = packElems f ((List.range 64).map (fun n =>
                let a := SMap.get A96.zero (s.loom l).shadow.acc (64 * m + n)
                if dBit d 51 then ({ a with frac := BitVec.ofInt 8 ((s.loom l).blockFrac d) } : A96).slot
                else (s.outElem l (mmOut d)
                  (({ a with frac := BitVec.ofInt 8 (frac0 (dField d 35 32) (dField d 39 36)) } : A96).val.scale ((s.loom l).operandExp d))
                  (dField d 383 344 + m * dField d 455 432 + n)).1)))
      ∧ OnlyLooms [l] s t := by
  have hn := noted_found hharm s l (dTag (s.loom l).shadow.desc) (s.loom l).drainReads
  have hexec := exec_drain_local hruns hfull hlocal (hit := hit) (by rw [hn.loom])
  rw [drainUses_harmless hharm, if_neg Bool.false_ne_true] at hexec
  generalize s.found l (dTag (s.loom l).shadow.desc) (s.loom l).drainReads hit = v at hexec hn
  obtain ⟨u, hrows, hbytes, hdrain⟩ := drainLocal_eq v l
  rw [hdrain, hn.loom, hscales, State.loomPoison, if_pos rfl] at hexec
  have hloom := hrows.loom
  have hothers := hrows.others
  rw [hn.loom] at hloom hbytes
  refine ⟨_, hexec, fun hdue => ?_, fun d hdue hd => ?_, ?_, ?_, fun m hm d hd f hf => ?_, fun j hj => ?_⟩
  · rw [loom_setLoom_same, drained_alone _ _ (by rw [hloom]; exact hdue)]
    rfl
  · rw [loom_setLoom_same]
    obtain ⟨hshadow, hactive, hnone⟩ := shadow_drained (x := u.loom l) none (v.quad l.q).count (by rw [hloom]; exact hdue) hd
    exact ⟨hshadow.trans (by rw [hloom]), hactive, hnone⟩
  · rw [loom_setLoom_same, verdicts_drained, hloom, Option.isSome_none, Loom.blockVerdict, Bool.not_false, Bool.and_true]
  · rw [loom_setLoom_same, arrayQ_drained, hloom]
  · subst hd
    rw [loom_setLoom_same, mem_drained]
    subst hf
    have hrow := hbytes m hm _ rfl
    simp only [packed_mmOut, outPattern_drainSum, (hn.sameDraws l).outElem (congrArg Loom.scaleFile (hn.loom l))] at hrow
    exact hrow
  · rw [loom_setLoom_other _ (List.ne_of_not_mem_cons hj)]
    exact (hothers j hj).trans (hn.loom j)

/-- A row of the shadow set that cannot be corrected is converted as it leaves: a use of its poison (R82, R99). -/
theorem shadowDrainComplete_lost (r : Fin 64) (hlocal : dBit (s.loom l).shadow.desc 55 = false) (hnarrow : dBit (s.loom l).shadow.desc 51 = false)
    (hdue : (s.loom l).swapDue = none) : ∃ t, exec (.shadowDrainComplete l (some { word := .shadowSet r, ecc := .multi })) s = .next t
      ∧ (t.loom l).shadow = .empty
      ∧ ((s.part (s.loomPart l)).poisoned = false → s.jobLive (s.loomPart l) = true →
          (t.part (s.loomPart l)).poisoned = true ∧ Counted s t 0x400007 1) := by
  have hrole : (s.loom l).drainRole = none := by
    unfold Loom.drainRole
    rw [hlocal, if_neg Bool.false_ne_true]
  have hread : (s.loom l).drainReads (.shadowSet r) = true := by
    unfold Loom.drainReads
    rw [hrole]
  have huses : (s.loom l).drainUses (some { word := .shadowSet r, ecc := .multi }) = true := by
    unfold Loom.drainUses
    dsimp only
    rw [hread, hrole]
    dsimp only
    rw [hnarrow]
    rfl
  obtain ⟨u, origin, ho, hfound, hlooms, hparts, hobjs⟩ := found_multi s l (dTag (s.loom l).shadow.desc) hread
  have hexec := exec_drain_local hruns hfull hlocal (hit := some { word := .shadowSet r, ecc := .multi })
    (by rw [hfound, loom_setLoom_same]; rfl)
  rw [huses, if_pos rfl, hfound, loom_setLoom_same] at hexec
  obtain ⟨w, hrows, -, hdrain⟩ := drainLocal_eq (u.setLoom l ((s.loom l).markWord (.shadowSet r) origin)) l
  have hloom := hrows.loom
  rw [loom_setLoom_same] at hdrain hloom
  rw [hdrain] at hexec
  have hempty : ((w.loom l).drained none ((u.setLoom l ((s.loom l).markWord (.shadowSet r) origin)).quad l.q).count).shadow = .empty := by
    rw [drained_alone _ _ (by rw [hloom]; exact hdue)]
    rfl
  refine ⟨_, hexec, ?_, fun hclean hlive => ?_⟩
  · rcases (stoppedLooms_loomPoison _ l _ _).trans (stoppedLooms_loomPoison _ l _ _) l with h | h
    · rw [h, loom_setLoom_same]
      exact hempty
    · rw [h]
      rfl
  · have hjob (x : Loom) : SameJob s (w.setLoom l x) l := (((SameJob.of_objs (part_of_view hparts) fun r hr =>
      hobjs r (List.not_mem_of_not_mem_cons hr)).trans (.setLoom u l _)).trans hrows.job).trans (.setLoom w l x)
    exact ((hjob _).consumes_twice _ _ (lost_markWord_shadow (s.loom l) r ho) hclean hlive).stays

/-! ### Drains at a chain position (R71) -/

theorem exec_drain_chain (hchain : dBit (s.loom l).shadow.desc 55 = true) {hit : Option LoomHit} (hharm : harmless hit) {r : ChainRole}
    (hrole : (s.loom l).role = some r) (hover : s.passageOver l r = true) : ∃ v, Noted s v
      ∧ exec (.shadowDrainComplete l hit) s = .next ((v.chainShort l r).drainChain l r) := by
  have hn := noted_found hharm s l (dTag (s.loom l).shadow.desc) (s.loom l).drainReads
  have hdrain : ((s.found l (dTag (s.loom l).shadow.desc) (s.loom l).drainReads hit).loom l).drainRole = some r := by
    unfold Loom.drainRole
    rw [hn.loom, hchain, if_pos rfl, hrole]
  refine ⟨_, hn, ?_⟩
  change execShadowDrainComplete l hit s = _
  unfold execShadowDrainComplete
  dsimp only
  rw [hruns, hfull, Bool.and_self, if_pos rfl, hrole]
  dsimp only
  simp only [hover, Bool.not_true, Bool.and_false, if_neg Bool.false_ne_true, hdrain, drainUses_harmless hharm]

end

/-- A chain of one position, or one whose words all passed, misses none. -/
theorem chainShort_none (s : State) (l : LoomId) {r : ChainRole}
    (h : dField r.desc 37 32 = dField r.desc 45 40 ∧ dField r.desc 37 32 = 0 ∨ 1024 ≤ r.passed) : s.chainShort l r = s := by
  unfold State.chainShort
  refine if_pos ?_
  split
  · rfl
  next hlong => exact Nat.sub_eq_zero_of_le (h.resolve_left hlong)

/-- A drain at a chain position whose scale is clean. -/
theorem drainChain_leaves {s : State} {l : LoomId} {r : ChainRole} (hscale : (s.loom l).scaleOrigin (dField r.desc 88 80) = 0) :
    ∃ u, RowsOut s u l
      ∧ s.drainChain l r = u.setLoom l ((u.loom l).drained (if dField r.desc 37 32 = 0 then none else some r) (s.quad l.q).count) := by
  have hclean : (if r.outStream.isSome || dBit r.desc 46 then 0 else (s.loom l).scaleOrigin (dField r.desc 88 80)) = 0 := by
    rw [hscale]
    exact ite_self 0
  unfold State.drainChain
  dsimp only
  rw [hclean, State.loomPoison, if_pos rfl]
  refine ⟨_, ?_, rfl⟩
  split
  · exact .refl s l
  · exact rowsOut_outBlock ..

/-- Sum i of the block of a chain of one position. -/
def Loom.onlySum (x : Loom) (i : Nat) : A96 :=
  { SMap.get A96.zero x.shadow.acc i with frac := BitVec.ofInt 8 (frac0 (dField x.shadow.desc 35 32) (dField x.shadow.desc 39 36)) }

/-- A chain of one position writes its block's values (R65). -/
theorem drainChain_onePosition {s : State} {l : LoomId} {r : ChainRole} (hpos : dField r.desc 37 32 = 0) (hout : r.outStream = none)
    (hnarrow : dBit r.desc 46 = false) (hscale : (s.loom l).scaleOrigin (dField r.desc 88 80) = 0) : ∃ u, RowsOut s u l
      ∧ (∀ m, m < 64 → getBytes (u.loom l).mem (64 * (dField r.desc 102 89 + m * rowLines (dField r.desc 51 48) 64)) (packedBytes (dField r.desc 51 48) 64)
          = packElems (dField r.desc 51 48) ((List.range 64).map (fun n => (s.outElem l (chainOut r.desc)
              (((s.loom l).onlySum (64 * m + n)).val.scale ((s.loom l).operandExp (s.loom l).shadow.desc))
              (dField r.desc 191 152 + m * dField r.desc 215 192 + n)).1)))
      ∧ s.drainChain l r = u.setLoom l ((u.loom l).drained none (s.quad l.q).count) := by
  unfold State.drainChain
  dsimp only
  rw [hout, Option.isSome_none, hnarrow, Bool.or_self, if_neg Bool.false_ne_true, if_neg Bool.false_ne_true, if_neg Bool.false_ne_true, hscale,
    State.loomPoison, if_pos rfl]
  simp only [hpos, if_true]
  refine ⟨_, rowsOut_outBlock .., fun m hm => ?_, rfl⟩
  have hwide : (chainOut r.desc).wide = false := hnarrow
  have hpacked : (chainOut r.desc).packed = dField r.desc 51 48 := by
    unfold OutForm.packed
    rw [hwide, if_neg Bool.false_ne_true]
    rfl
  have hrow := getBytes_outBlock s l (chainOut r.desc) (s.loom l).onlySum ((s.loom l).operandExp (s.loom l).shadow.desc)
    (fun i => firstOrigin 0 (SMap.get 0 (s.loom l).shadow.poison (i / 64))) hm
  simp only [hpacked, State.outPattern, hwide, if_neg Bool.false_ne_true] at hrow
  exact hrow

section
variable {s : State} {l : LoomId} (hruns : s.quadRuns l.q = true) (hfull : (s.loom l).shadow.full = true)
  (hchain : dBit (s.loom l).shadow.desc 55 = true) {hit : Option LoomHit} (hharm : harmless hit) {r : ChainRole}
  (hrole : (s.loom l).role = some r) (hdue : (s.loom l).swapDue = none) (hscale : (s.loom l).scaleOrigin (dField r.desc 88 80) = 0)
include hruns hfull hchain hharm hrole hdue hscale

/-- A hop whose words all passed leaves: verdicts on its block and on its sums are owed (R383, R385). -/
theorem shadowDrainComplete_hop (hpos : dField r.desc 37 32 ≠ 0) (hpassed : 1024 ≤ r.passed) : ∃ t,
    exec (.shadowDrainComplete l hit) s = .next t
      ∧ (t.loom l).shadow = .empty ∧ (t.loom l).role = none
      ∧ (t.loom l).verdicts = (s.loom l).verdicts
          ++ [{ missed := false, hop := false, pos := 0, window := decide (dField (s.loom l).shadow.desc 35 32 = 1)
                tag := BitVec.ofNat 16 (dTag (s.loom l).shadow.desc), acc := (s.loom l).shadow.acc },
              { missed := (s.loom l).slotMissed, hop := true, pos := BitVec.ofNat 6 (dField r.desc 37 32), window := false
                tag := BitVec.ofNat 16 (dTag r.desc), acc := r.out }]
      ∧ (t.loom l).chainQ = setPhase (fun e => e.phase == 1) 3 (s.loom l).chainQ ∧ OnlyLooms [l] s t := by
  have hover : s.passageOver l r = true := by
    unfold State.passageOver
    rw [if_neg hpos, decide_eq_true hpassed, Bool.true_or]
  obtain ⟨v, hn, hexec⟩ := exec_drain_chain hruns hfull hchain hharm hrole hover
  obtain ⟨u, hrows, hdrain⟩ := drainChain_leaves (s := v) (l := l) (r := r) (by rw [hn.loom]; exact hscale)
  have hloom := hrows.loom
  rw [hn.loom] at hloom
  rw [chainShort_none v l (.inr hpassed), hdrain, if_neg hpos, drained_alone _ _ (by rw [hloom]; exact hdue)] at hexec
  refine ⟨_, hexec, ?_, ?_, ?_, ?_, fun j hj => ?_⟩
  · rw [loom_setLoom_same]
    rfl
  · rw [loom_setLoom_same]
    rfl
  · rw [loom_setLoom_same, hloom]
    unfold Loom.blockLeft Loom.blockVerdict Loom.hopVerdict
    rw [Option.isSome_some, Bool.not_true, Bool.and_false]
  · rw [loom_setLoom_same, hloom]
    unfold Loom.blockLeft
    dsimp only
    rw [hrole, Option.isSome_some, if_pos rfl]
  · rw [loom_setLoom_other _ (List.ne_of_not_mem_cons hj)]
    exact (hrows.others j hj).trans (hn.loom j)

/-- A chain of one position converts its block into local memory (R71). -/
theorem shadowDrainComplete_onePosition (hpos : dField r.desc 37 32 = 0) (hlast : dField r.desc 45 40 = 0) (hnarrow : dBit r.desc 46 = false) :
    ∃ t, exec (.shadowDrainComplete l hit) s = .next t
      ∧ (t.loom l).role = none ∧ (t.loom l).shadow = .empty
      ∧ (∀ m, m < 64 → ∀ d, d = (s.loom l).shadow.desc → ∀ f, f = dField r.desc 51 48 →
          getBytes (t.loom l).mem (64 * (dField r.desc 102 89 + m * rowLines f 64)) (packedBytes f 64)
            = packElems f ((List.range 64).map (fun n =>
                (s.outElem l (chainOut r.desc)
                  (({ SMap.get A96.zero (s.loom l).shadow.acc (64 * m + n) with
                      frac := BitVec.ofInt 8 (frac0 (dField d 35 32) (dField d 39 36)) } : A96).val.scale ((s.loom l).operandExp d))
                  (dField r.desc 191 152 + m * dField r.desc 215 192 + n)).1)))
      ∧ OnlyLooms [l] s t := by
  have hout : r.outStream = none := if_pos (hpos.trans hlast.symm)
  have hover : s.passageOver l r = true := by
    unfold State.passageOver
    dsimp only
    rw [if_pos hpos, hout, Option.isNone_none, Bool.or_true, Bool.true_or]
  obtain ⟨v, hn, hexec⟩ := exec_drain_chain hruns hfull hchain hharm hrole hover
  obtain ⟨u, hrows, hbytes, hdrain⟩ := drainChain_onePosition (s := v) (l := l) hpos hout hnarrow (by rw [hn.loom]; exact hscale)
  have hloom := hrows.loom
  rw [hn.loom] at hloom hbytes
  rw [chainShort_none v l (.inl ⟨hpos.trans hlast.symm, hpos⟩), hdrain, drained_alone _ _ (by rw [hloom]; exact hdue)] at hexec
  refine ⟨_, hexec, ?_, ?_, fun m hm d hd f hf => ?_, fun j hj => ?_⟩
  · rw [loom_setLoom_same]
    rfl
  · rw [loom_setLoom_same]
    rfl
  · subst hd hf
    rw [loom_setLoom_same]
    have hrow := hbytes m hm
    simp only [(hn.sameDraws l).outElem (congrArg Loom.scaleFile (hn.loom l))] at hrow
    exact hrow
  · rw [loom_setLoom_other _ (List.ne_of_not_mem_cons hj)]
    exact (hrows.others j hj).trans (hn.loom j)

end

/-- Settles O44: preloads, passes, products of FP32 matrices and drains, with and without a word that SECDED cannot correct. -/
theorem arrayPasses : Obligations.ArrayPasses := by
  unfold Obligations.ArrayPasses
  refine ⟨fun l hit e s hruns hnext hharm => stationaryPreload_fills hruns hnext hharm,
    fun l h e s hruns hnext hread => stationaryPreload_marks hruns hnext hread,
    fun l r e s hruns hnext hpath htile hshadow => tilePassIssue_lost hruns hnext htile r hpath hshadow,
    fun l hit e s hruns hnext hharm hpath hlocal htile hshadow hplane hrows =>
      tilePassIssue_adds hruns hnext htile hharm hpath hlocal hshadow (passMet_clean hplane hrows),
    fun l hit e c s hruns hnext hharm hpath hlast hchain htile hempty hshadow hc hclean =>
      tilePassIssue_chains hruns hnext htile hharm hpath hlast hchain hempty hshadow hc hclean,
    fun l hit e s hruns hnext hharm hpath htile hscales hreads => tilePassIssue_product hruns hnext hharm hpath htile hscales hreads,
    fun l r s hruns hfull hlocal hnarrow hdue => shadowDrainComplete_lost hruns hfull r hlocal hnarrow hdue,
    fun l hit r s hruns hfull hchain hharm hrole hpos hpassed hdue hscale =>
      shadowDrainComplete_hop hruns hfull hchain hharm hrole hdue hscale hpos hpassed,
    fun l hit s hruns hfull hlocal hharm hscales => shadowDrainComplete_local hruns hfull hlocal hharm hscales,
    fun l hit r s hruns hfull hchain hharm hrole hpos hlast hnarrow hscale hdue =>
      shadowDrainComplete_onePosition hruns hfull hchain hharm hrole hdue hscale hpos hlast hnarrow⟩

end Sys2Proof.Machine
end

section
/-! Areas of the state that commands leave as they were (O9, O10): each is outside the areas that the command's operations change. -/

namespace Sys2Proof.Machine

open Sys2Proof

theorem outside {ar : Area} {l m : List Area} (hA : ar ∉ m) (h : ∀ a ∈ l, a ∈ m := by decide) : ar ∉ l := fun hl => hA (h ar hl)

theorem keeps_of_view {c : Instr} {l : List Area} (h : ∀ s ar, ar ∉ l → ∃ t, exec c s = .next t ∧ view ar t = view ar s) : Keeps c l := by
  intro s t ht ar hA
  obtain ⟨u, hu, hview⟩ := h s ar hA
  exact Host.Outcome.next.inj (hu.symm.trans ht) ▸ hview

section

variable {ar : Area}

theorem view_serveOuts (hA : ar ∉ [Area.sent, Area.free, Area.objects, Area.notices, Area.log, Area.quads, Area.looms, Area.links, Area.parts,
    Area.queues, Area.loops, Area.bridges]) (l : LoomId) (ws : List RWord) (t : Nat) (noise : Word512) (outs : List Nat)
    (x : State × List (Nat × FWord × BitVec 10)) : view ar (outs.foldl (State.serveOut l ws t noise) x).1 = view ar x.1 := by
  induction outs generalizing x with
  | nil => rfl
  | cons o outs ih => exact (ih _).trans (view_slotOut hA ..)

end

/-! ### Commands with more than one way -/

theorem keeps_slotForward (q : Fin 4) (r : Fin 20) (c : Fin 25) (ecc : Ecc) (noise : Word512) :
    Keeps (.slotForward q r c ecc noise) (Area.raising.append [.quads, .looms, .links, .parts, .bridges]) :=
  keeps_of_view fun s ar hA => by
    cases hruns : s.quadRuns q with
    | false => exact ⟨s, congrArg Host.Outcome.next (if_neg (by simp [hruns])), rfl⟩
    | true =>
      refine ⟨_, exec_slotForward s q r c ecc noise hruns, ?_⟩
      unfold State.slotServed State.slotTaken
      simp [view_ite, view_serveOuts (outside hA), view_tableEcc (outside hA), view_foldl, view_collide (outside hA), view_crcDrop (outside hA),
        view_setQuad (outside hA), view_promoteSums (outside hA)]

theorem keeps_bridgeArrival (n : Fin 16) (w : FWord) :
    Keeps (.bridgeArrival n w) (Area.raising.append [.looms, .links, .parts, .bridges]) :=
  keeps_of_view fun s ar hA => ⟨_, rfl, view_ifRuns _ _ (by
    dsimp only
    split
    · rfl
    · simp [view_ite, view_missFrom (outside hA), view_pushItem (outside hA), view_raiseQuad (outside hA), view_bump (outside hA),
        view_slip (outside hA), view_passQueue (outside hA), view_upd_bridgeAir (outside hA), view_upd_bridgeBufs (outside hA)])⟩

theorem keeps_segmentRequest (l : LoomId) (perLoom : Bool) (missing : List (BitVec 12)) :
    Keeps (.segmentRequest l perLoom missing) [.sent, .objects, .parts, .queues, .loops] :=
  keeps_of_view fun s ar hA => ⟨_, rfl, by
    dsimp only
    split
    · rfl
    · refine view_viaBridge (outside hA) _ _ _ _ _ _ (fun t => ?_) (fun _ => rfl)
      simp [view_ite, view_modArming (outside hA), view_armFails (outside hA), view_foldl, view_emit (outside hA)]⟩

theorem keeps_fieldTestStart (u : BitVec 16) : Keeps (.fieldTestStart u) [.free, .tests, .looms] :=
  keeps_of_view fun s ar hA => ⟨_, rfl, by
    split
    · rfl
    · simp [view_ite, view_upd_fresh (outside hA), view_setLoom (outside hA), view_upd_tests (outside hA)]⟩

theorem keeps_fieldTestComplete (u : BitVec 16) (failed : Bool) (part : BitVec 8) :
    Keeps (.fieldTestComplete u failed part) (Area.raising.append [.tests, .looms, .links, .parts]) :=
  keeps_of_view fun s ar hA => ⟨_, rfl, by
    split
    · rfl
    · simp [view_ite, view_restoreLoom (outside hA), view_endPause (outside hA), view_modPart (outside hA), view_raisePart (outside hA),
        view_setObj (outside hA), view_bump (outside hA), view_upd_tests (outside hA)]⟩

theorem keeps_fieldTestOverdue (u : BitVec 16) : Keeps (.fieldTestOverdue u) (Area.raising.append [.time, .tests]) :=
  keeps_of_view fun s ar hA => ⟨_, rfl, by
    split
    · rfl
    · simp [view_raisePart (outside hA), view_upd_tests (outside hA), view_atLeast (outside hA)]⟩

theorem keeps_signatureComplete (programmed : List Bool) :
    Keeps (.signatureComplete programmed) (Area.accessing.append [.security, .looms, .links, .parts, .counters]) :=
  keeps_of_view fun s ar hA => ⟨_, rfl, view_ifRuns _ _ (by
    split
    · rfl
    next r b rest _ =>
      have hleaf : view ar (State.takeLeaf { s with sec := { s.sec with queue := rest } } programmed).1 = view ar s :=
        (view_takeLeaf (outside hA) ..).trans (view_upd_sec (outside hA) ..)
      dsimp only
      split
      · exact (view_refuseSignature (outside hA) ..).trans (view_upd_sec (outside hA) ..)
      split
      next he =>
        rw [he] at hleaf
        simp [view_lowLeaves (outside hA), view_deliver (outside hA), hleaf]
      next he =>
        rw [he] at hleaf
        simp [view_refuseSignature (outside hA), view_raiseDevice (outside hA), view_setObj (outside hA), hleaf])⟩

theorem keeps_greetingPeriod (p : Fin 4) : Keeps (.greetingPeriod p) Area.posting :=
  keeps_of_view fun s ar hA => ⟨_, rfl, by
    split
    · exact view_foldl (fun _ _ => view_foldl (fun _ _ => view_greet (outside hA) ..) _ _) _ _
    · rfl⟩

/-! ### Commands that are one operation -/

theorem keeps_vectorVals {l : LoomId} {hit : Option LoomHit} {vop : Nat} {f : Loom → Word512 → List Val} {c : Instr}
    (hexec : ∀ s, exec c s = .next (s.vectorVals l vop hit f)) : Keeps c (Area.raising.append [.quads, .looms, .links, .parts, .counters]) :=
  keeps_of_view fun s _ hA => ⟨_, hexec s, view_vectorVals (outside hA) ..⟩

theorem keeps_dmaOp {l : LoomId} {hit : Option LoomHit} {dir : Nat} {c : Instr} (hexec : ∀ s, exec c s = .next (s.dmaOp l dir hit)) :
    Keeps c (Area.accessing.append [.quads, .looms, .links, .parts, .counters]) :=
  keeps_of_view fun s _ hA => ⟨_, hexec s, view_dmaOp (outside hA) ..⟩

theorem keeps_chunkArrives {p : Fin 4} {type : Nat} {k : Chunk} {c : Instr} (hexec : ∀ s, exec c s = .next (s.chunkArrives p type k c)) :
    Keeps c (Area.accessing.append [.looms, .links, .held, .parts, .counters]) :=
  keeps_of_view fun s _ hA => ⟨_, hexec s, view_chunkArrives (outside hA) ..⟩

theorem keeps_uncontained {k fault : Nat} {c : Instr} (hexec : ∀ s, exec c s = .next (if s.stackUp k then s.uncontained k fault else s)) :
    Keeps c Area.resetting :=
  keeps_of_view fun s _ hA => ⟨_, hexec s, by simp [view_ite, view_uncontained (outside hA)]⟩

/-! ### The statements -/

/-- Settles O9: command by command, by what its operations keep of an area outside the list. -/
theorem loomCommandsKeep : Obligations.LoomCommandsKeep := by
  unfold Obligations.LoomCommandsKeep
  refine ⟨
    -- Steps (06 R143; 12 R297).
    fun _ => keeps_of_view fun _ _ hA => ⟨_, rfl, by simp [view_haltJob (outside hA), view_beginStep (outside hA), view_ite]⟩,
    fun _ => keeps_of_view fun _ _ hA => ⟨_, rfl, by simp [view_bump (outside hA), view_setObj (outside hA), view_setExState (outside hA),
      view_modPart (outside hA), view_openContributions (outside hA), view_beginAttempt (outside hA), view_ite]⟩,
    -- The sequencer (04 R86, R87).
    fun _ _ => keeps_of_view fun _ _ hA => ⟨_, rfl, by simp [view_descriptor (outside hA), view_reject (outside hA), view_controlDone
      (outside hA), view_ite]⟩,
    fun _ _ => keeps_of_view fun _ _ hA => ⟨_, rfl, by simp [view_descriptor (outside hA), view_controlDone (outside hA), view_ite]⟩,
    fun _ => keeps_of_view fun _ _ hA => ⟨_, rfl, by split <;> simp [view_passCycles (outside hA), view_setLoom (outside hA), view_ite]⟩,
    fun _ _ => keeps_of_view fun _ _ hA => ⟨_, rfl, by simp [view_descriptor (outside hA), view_reject (outside hA), view_controlDone
      (outside hA), view_ite]⟩,
    fun _ _ => keeps_of_view fun _ _ hA => ⟨_, rfl, view_descriptor (outside hA) _ _ _ _ _ fun t d => by dsimp only; (repeat' split) <;> simp
      [view_reject (outside hA), view_controlDone (outside hA)]⟩,
    fun _ _ => keeps_of_view fun _ _ hA => ⟨_, rfl, by simp [view_descriptor (outside hA), view_reject (outside hA), view_controlDone
      (outside hA), view_ite]⟩,
    -- Descriptors that go to a unit (04 R85, R90 to R95).
    fun _ _ => keeps_of_view fun _ _ hA => ⟨_, rfl, view_descriptor (outside hA) _ _ _ _ _ fun t d => by (repeat' split) <;> simp [view_reject
      (outside hA), view_toUnit (outside hA), view_setLoom (outside hA)]⟩,
    fun _ _ => keeps_of_view fun _ _ hA => ⟨_, rfl, view_descriptor (outside hA) _ _ _ _ _ fun t d => by (repeat' split) <;> simp [view_reject
      (outside hA), view_toUnit (outside hA)]⟩,
    fun _ _ => keeps_dmaOp fun _ => rfl,
    fun _ _ => keeps_dmaOp fun _ => rfl,
    fun _ _ => keeps_dmaOp fun _ => rfl,
    fun _ _ => keeps_vectorVals fun _ => rfl,
    fun _ _ => keeps_vectorVals fun _ => rfl,
    fun _ _ => keeps_vectorVals fun _ => rfl,
    fun _ _ => keeps_vectorVals fun _ => rfl,
    fun _ _ => keeps_vectorVals fun _ => rfl,
    fun _ _ => keeps_vectorVals fun _ => rfl,
    fun _ _ => keeps_vectorVals fun _ => rfl,
    fun _ _ => keeps_vectorVals fun _ => rfl,
    fun _ _ => keeps_of_view fun _ _ hA => ⟨_, rfl, view_vectorOp (outside hA) (hf := fun _ _ _ _ => view_vecMask (outside hA) ..) ..⟩,
    fun _ _ => keeps_of_view fun _ _ hA => ⟨_, rfl, view_vectorOp (outside hA) (hf := fun _ _ _ _ => view_vecMask (outside hA) ..) ..⟩,
    fun _ _ => keeps_vectorVals fun _ => rfl,
    fun _ _ => keeps_vectorVals fun _ => rfl,
    fun _ _ => keeps_vectorVals fun _ => rfl,
    fun _ _ => keeps_vectorVals fun _ => rfl,
    fun _ _ => keeps_vectorVals fun _ => rfl,
    fun _ _ => keeps_vectorVals fun _ => rfl,
    fun _ _ => keeps_vectorVals fun _ => rfl,
    fun _ _ => keeps_vectorVals fun _ => rfl,
    fun _ _ => keeps_vectorVals fun _ => rfl,
    fun _ _ => keeps_vectorVals fun _ => rfl,
    fun _ _ => keeps_of_view fun _ _ hA => ⟨_, rfl, view_vectorOp (outside hA) (hf := fun _ _ _ _ => view_vecWide (outside hA) ..) ..⟩,
    fun _ _ => keeps_of_view fun _ _ hA => ⟨_, rfl, view_vectorOp (outside hA) (hf := fun _ _ _ _ => view_vecWide (outside hA) ..) ..⟩,
    fun _ _ => keeps_of_view fun _ _ hA => ⟨_, rfl, view_vectorOp (outside hA) (hf := fun _ _ _ _ => view_vecT32 (outside hA) ..) ..⟩,
    fun _ _ => keeps_of_view fun _ _ hA => ⟨_, rfl, view_vectorOp (outside hA) (hf := fun _ _ _ _ => view_vecVote (outside hA) ..) ..⟩,
    -- The array, and descriptors that complete (03 R58 to R73; 04 R86).
    fun _ _ => keeps_of_view fun _ _ hA => ⟨_, rfl, by (repeat' split) <;> simp [view_found (outside hA), view_setLoom (outside hA)]⟩,
    fun _ _ => keeps_of_view fun _ _ hA => ⟨_, rfl, by dsimp only; (repeat' split) <;> simp [view_found (outside hA), view_fp32Product
      (outside hA), view_arrayPass (outside hA), view_loomPoison (outside hA)]⟩,
    fun _ _ => keeps_of_view fun _ _ hA => ⟨_, rfl, by dsimp only; (repeat' split) <;> simp [view_found (outside hA), view_chainShort
      (outside hA), view_drainChain (outside hA), view_drainLocal (outside hA), view_loomPoison (outside hA)]⟩,
    fun _ _ => keeps_of_view fun _ _ hA => ⟨_, rfl, by dsimp only; (repeat' split) <;> simp [view_tableWord (outside hA), view_laneFails
      (outside hA), view_chargeVerdict (outside hA), view_setLoom (outside hA), view_bump (outside hA), view_verdictFails (outside hA)]⟩,
    fun _ _ _ _ => keeps_of_view fun _ _ hA => ⟨_, rfl, by dsimp only; (repeat' split) <;> simp [view_setLoom (outside hA), view_chainMiss
      (outside hA), view_found (outside hA), view_promoteSums (outside hA), view_hop (outside hA)]⟩,
    fun _ _ _ => keeps_of_view fun _ _ hA => ⟨_, rfl, by (repeat' split) <;> simp [view_transfer (outside hA), view_setLoom (outside hA),
      view_loomTrace (outside hA), view_pad (outside hA), view_ite]⟩,
    fun _ => keeps_of_view fun _ _ hA => ⟨_, rfl, by dsimp only; (repeat' split) <;> simp [view_transfer (outside hA), view_setLoom
      (outside hA)]⟩,
    -- The fabric (08 R176 to R185).
    keeps_slotForward,
    fun _ _ _ _ _ => keeps_of_view fun _ _ hA => ⟨_, rfl, by dsimp only; (repeat' split) <;> simp [view_setQuad (outside hA), view_replayed
      (outside hA), view_creditedLeaves (outside hA)]⟩,
    fun _ _ _ _ => keeps_of_view fun _ _ hA => ⟨_, rfl, by dsimp only; (repeat' split) <;> simp [view_setQuad (outside hA), view_observationLeaves
      (outside hA), view_observationLost (outside hA), view_setLoom (outside hA)]⟩,
    keeps_bridgeArrival,
    fun _ => keeps_of_view fun _ _ hA => ⟨_, rfl, by simp [view_ite, view_foldl, view_putWord (outside hA), view_upd_bridgeBufs (outside hA)]⟩,
    fun _ _ => keeps_of_view fun _ _ hA => ⟨_, rfl, by simp [view_ifRuns, view_setCloop (outside hA), view_pfcCheck (outside hA), view_setStack
      (outside hA), view_serveAsking (outside hA), view_ite]⟩,
    -- Queues (08 R191 to R197).
    fun _ _ _ => keeps_of_view fun _ _ hA => ⟨_, rfl, by simp [view_setDcq (outside hA), view_pushItem (outside hA), view_ite]⟩,
    fun _ _ _ => keeps_of_view fun _ _ hA => ⟨_, rfl, by dsimp only; (repeat' split) <;> simp [view_emit (outside hA), view_setDcq (outside hA),
      view_itemEcc (outside hA), view_loopMoved (outside hA), view_consumeItem (outside hA), view_releaseQueue (outside hA)]⟩,
    fun _ => keeps_of_view fun _ _ hA => ⟨_, rfl, by simp [view_ifRuns, view_setDcq (outside hA), view_bump (outside hA), view_loopLost
      (outside hA), view_reportLoss (outside hA), view_ite]⟩,
    fun _ => keeps_of_view fun _ _ hA => ⟨_, rfl, by simp [view_ifRuns, view_setDcq (outside hA), view_releaseQueue (outside hA), view_ite]⟩,
    -- Stacks (09 R201 to R215).
    fun _ _ _ _ _ => keeps_of_view fun _ _ hA => ⟨_, rfl, view_ifRuns _ _ (by (repeat' split) <;> simp [view_outOfReach (outside hA),
      view_bufferError (outside hA), view_request (outside hA)])⟩,
    fun _ _ _ _ _ _ => keeps_of_view fun _ _ hA => ⟨_, rfl, view_ifRuns _ _ (by split <;> simp [view_outOfReach (outside hA), view_request
      (outside hA)])⟩,
    fun _ _ => keeps_of_view fun _ _ hA => ⟨_, rfl, by simp [view_setStack (outside hA), view_serveRefresh (outside hA), view_moved (outside hA),
      view_ite]⟩,
    fun _ _ _ => keeps_of_view fun _ _ hA => ⟨_, rfl, by simp [view_serveReady (outside hA), view_checkWord (outside hA), view_moved (outside hA),
      view_bump (outside hA), view_ite]⟩,
    fun _ => keeps_of_view fun _ _ hA => ⟨_, rfl, by simp [view_ifRuns, view_setStack (outside hA), view_serveReady (outside hA), view_ite]⟩,
    fun _ _ => keeps_of_view fun _ _ hA => ⟨_, rfl, by simp [view_ifRuns, view_setObj (outside hA), view_bump (outside hA), view_raiseTemp
      (outside hA), view_ite]⟩,
    fun _ => keeps_uncontained fun _ => rfl,
    fun _ => keeps_uncontained fun _ => rfl,
    fun _ => keeps_uncontained fun _ => rfl,
    -- The ephemeris, update engines and the boundary (06 R143 to R148; 07 R158 to R171; 12 R297).
    fun _ => keeps_of_view fun _ _ hA => ⟨_, rfl, by simp [view_mergeLoom (outside hA), view_ite]⟩,
    fun _ => keeps_of_view fun _ _ hA => ⟨_, rfl, by simp [view_finaliseRow (outside hA), view_ite]⟩,
    fun _ => keeps_of_view fun _ _ hA => ⟨_, rfl, by simp [view_copyAll (outside hA), view_modPart (outside hA), view_ite]⟩,
    fun _ _ _ => keeps_of_view fun _ _ hA => ⟨_, rfl, by dsimp only; (repeat' split) <;> simp [view_cmdFinished (outside hA), view_frozenWrite
      (outside hA), view_traceCommand (outside hA), view_runCommand (outside hA)]⟩,
    fun _ => keeps_of_view fun _ _ hA => ⟨_, rfl, by simp [view_foldl, view_setObj (outside hA), view_modPart (outside hA), view_ite]⟩,
    fun _ => keeps_of_view fun _ _ hA => ⟨_, rfl, by simp [view_foldStep (outside hA), view_ite]⟩,
    fun _ => keeps_of_view fun _ _ hA => ⟨_, rfl, by simp [view_bump (outside hA), view_setObj (outside hA), view_foldl, view_violate
      (outside hA), view_modPart (outside hA), view_ite]⟩,
    fun _ => keeps_of_view fun _ _ hA => ⟨_, rfl, by simp [view_boundary (outside hA), view_ite]⟩⟩

/-- Settles O10: as O9. -/
theorem jobCommandsKeep : Obligations.JobCommandsKeep := by
  unfold Obligations.JobCommandsKeep
  refine ⟨
    -- The broadcast (04 R105 to R107).
    fun _ _ _ => keeps_of_view fun _ _ hA => ⟨_, rfl, by simp [view_viaBridge (outside hA), view_setLoom (outside hA), view_askSegments
      (outside hA), view_ite]⟩,
    fun _ _ => keeps_of_view fun _ _ hA => ⟨_, rfl, by simp [view_emit (outside hA), view_modArming (outside hA), view_ite]⟩,
    fun _ => keeps_of_view fun _ _ hA => ⟨_, rfl, by simp [view_atLeast (outside hA), view_setLoom (outside hA), view_askSegments (outside hA),
      view_ite]⟩,
    keeps_segmentRequest,
    fun _ => keeps_of_view fun _ _ hA => ⟨_, rfl, by dsimp only; split <;> simp [view_atLeast (outside hA), view_armFails (outside hA)]⟩,
    fun _ _ => keeps_of_view fun _ _ hA => ⟨_, rfl, by simp [view_viaBridge (outside hA), view_found (outside hA), view_setLoom (outside hA),
      view_armFingerprints (outside hA), view_modArming (outside hA), view_emits (outside hA), view_armFails (outside hA), view_ite]⟩,
    -- Control messages (12 R289 to R302).
    fun _ _ _ _ => keeps_of_view fun _ _ hA => ⟨_, rfl, view_ctlArrives (outside hA) (hf := fun _ => view_loadMessage (outside hA) ..) ..⟩,
    fun _ _ _ => keeps_of_view fun _ _ hA => ⟨_, rfl, view_ctlArrives (outside hA) (hf := fun _ => view_loadMessage (outside hA) ..) ..⟩,
    fun _ _ _ => keeps_of_view fun _ _ hA => ⟨_, rfl, view_ctlArrives (outside hA) (hf := fun _ => view_armMessage (outside hA) ..) ..⟩,
    fun _ => keeps_of_view fun _ _ hA => ⟨_, rfl, by simp [view_setJobState (outside hA), view_report (outside hA), view_modArming (outside hA),
      view_raisePart (outside hA), view_ite]⟩,
    fun _ _ => keeps_of_view fun _ _ hA => ⟨_, rfl, view_ctlArrives (outside hA) (hf := fun _ => view_startMessage (outside hA) ..) ..⟩,
    fun _ _ => keeps_of_view fun _ _ hA => ⟨_, rfl, view_ctlArrives (outside hA) (hf := fun _ => view_stepLimitMessage (outside hA) ..) ..⟩,
    fun _ _ => keeps_of_view fun _ _ hA => ⟨_, rfl, view_ctlArrives (outside hA) (hf := fun _ => view_checkpointMessage (outside hA) ..) ..⟩,
    fun _ _ => keeps_of_view fun _ _ hA => ⟨_, rfl, view_ctlArrives (outside hA) (hf := fun _ => view_checkpointMessage (outside hA) ..) ..⟩,
    fun _ _ => keeps_of_view fun _ _ hA => ⟨_, rfl, view_ctlArrives (outside hA) (hf := fun _ => view_haltMessage (outside hA) ..) ..⟩,
    fun _ _ => keeps_of_view fun _ _ hA => ⟨_, rfl, view_ctlArrives (outside hA) (hf := fun _ => view_haltMessage (outside hA) ..) ..⟩,
    fun _ _ => keeps_of_view fun _ _ hA => ⟨_, rfl, view_ctlArrives (outside hA) (hf := fun _ => view_queryMessage (outside hA) ..) ..⟩,
    fun _ _ => keeps_of_view fun _ _ hA => ⟨_, rfl, view_ctlArrives (outside hA) (hf := fun _ => view_fieldTestMessage (outside hA) ..) ..⟩,
    -- Field tests (16 R396 to R401).
    keeps_fieldTestStart,
    keeps_fieldTestComplete,
    keeps_fieldTestOverdue,
    -- Services (12 R287, R297, R298).
    fun _ _ => keeps_of_view fun _ _ hA => ⟨_, rfl, view_pktArrives (outside hA) (hf := fun _ => view_rxServiceWrite (outside hA) ..) ..⟩,
    fun _ _ _ => keeps_of_view fun _ _ hA => ⟨_, rfl, view_pktArrives (outside hA) (hf := fun _ => view_rxRingFill (outside hA) ..) ..⟩,
    fun _ _ => keeps_of_view fun _ _ hA => ⟨_, rfl, view_pktArrives (outside hA) (hf := fun _ => view_rxReadRequest (outside hA) ..) ..⟩,
    -- Channels, keys and signatures (13 R313 to R322).
    fun _ => keeps_of_view fun _ _ hA => ⟨_, rfl, by simp [view_newControlQp (outside hA), view_ite]⟩,
    fun _ => keeps_of_view fun _ _ hA => ⟨_, rfl, by simp [view_atLeast (outside hA), view_sendCall (outside hA), view_ite]⟩,
    fun _ _ _ _ => keeps_of_view fun _ _ hA => ⟨_, rfl, view_keyxArrives (outside hA) (hf := fun _ => view_rxInit (outside hA) ..) ..⟩,
    fun _ _ _ _ => keeps_of_view fun _ _ hA => ⟨_, rfl, view_keyxArrives (outside hA) (hf := fun _ => view_rxFinish (outside hA) ..) ..⟩,
    fun _ _ _ _ => keeps_of_view fun _ _ hA => ⟨_, rfl, view_keyxArrives (outside hA) (hf := fun _ => view_rxCard (outside hA) ..) ..⟩,
    fun _ _ _ => keeps_of_view fun _ _ hA => ⟨_, rfl, view_keyxArrives (outside hA) (hf := fun _ => view_rxCipher (outside hA) ..) ..⟩,
    fun _ => keeps_of_view fun _ _ hA => ⟨_, rfl, by simp [view_sendCards (outside hA), view_ite]⟩,
    fun _ => keeps_of_view fun _ _ hA => ⟨_, rfl, by dsimp only; split <;> simp [view_atLeast (outside hA), view_armFails (outside hA)]⟩,
    keeps_signatureComplete,
    fun _ => keeps_of_view fun _ _ hA => ⟨_, rfl, by split <;> simp [view_setObj (outside hA), view_eraseChannel (outside hA), view_modPart
      (outside hA), view_newLoop (outside hA), view_ite]⟩,
    -- Links and neighbours (10 R227 to R239).
    fun _ _ => keeps_of_view fun _ _ hA => ⟨_, rfl, by dsimp only; (repeat' split) <;> simp [view_showLanes (outside hA), view_setLink
      (outside hA), view_linkComesUp (outside hA), view_dropLink (outside hA), view_portTrained (outside hA)]⟩,
    fun _ => keeps_of_view fun _ _ hA => ⟨_, rfl, by simp [view_dropLink (outside hA), view_bump (outside hA), view_trainLink (outside hA),
      view_linkEvent (outside hA), view_foldl, view_moveQp (outside hA), view_ite]⟩,
    fun _ => keeps_of_view fun _ _ hA => ⟨_, rfl, by simp [view_sendFrame (outside hA), view_ite]⟩,
    fun _ _ => keeps_of_view fun _ _ hA => ⟨_, rfl, by simp [view_portIn (outside hA), view_neighbour (outside hA), view_ite]⟩,
    fun _ => keeps_of_view fun _ _ hA => ⟨_, rfl, by split <;> simp [view_atLeast (outside hA), view_setLink (outside hA), view_setObj
      (outside hA), view_neighbourChange (outside hA)]⟩,
    fun _ => keeps_of_view fun _ _ hA => ⟨_, rfl, by simp [view_foldl, view_setLink (outside hA), view_sendArp (outside hA), view_ite]⟩,
    fun _ _ => keeps_of_view fun _ _ hA => ⟨_, rfl, by split <;> simp [view_rxFrame (outside hA), view_arpTaken (outside hA), view_emit
      (outside hA), view_ite]⟩,
    fun _ _ _ => keeps_of_view fun _ _ hA => ⟨_, rfl, by simp [view_setLink (outside hA), view_release (outside hA), view_rxDrop (outside hA),
      view_ite]⟩,
    -- Greetings (10 R240 to R243).
    fun _ _ _ => keeps_of_view fun _ _ hA => ⟨_, rfl, view_arrives (outside hA) (hf := fun _ => view_rxGreeting (outside hA) ..) ..⟩,
    keeps_greetingPeriod,
    fun _ => keeps_of_view fun _ _ hA => ⟨_, rfl, by dsimp only; (repeat' split) <;> simp [view_atLeast (outside hA), view_setObj (outside hA),
      view_haltJob (outside hA)]⟩,
    -- The exchange (11 R258 to R275).
    fun _ _ => keeps_chunkArrives fun _ => rfl,
    fun _ _ => keeps_chunkArrives fun _ => rfl,
    fun _ _ => keeps_chunkArrives fun _ => rfl,
    fun _ _ => keeps_chunkArrives fun _ => rfl,
    fun _ _ => keeps_of_view fun _ _ hA => ⟨_, rfl, by split <;> simp [view_modPart (outside hA), view_tallyFreed (outside hA), view_tallyTake
      (outside hA), view_bump (outside hA), view_raisePart (outside hA), view_chargeFault (outside hA), view_ite]⟩,
    fun _ _ => keeps_of_view fun _ _ hA => ⟨_, rfl, by dsimp only; (repeat' split) <;> simp [view_setPart (outside hA)]⟩,
    fun _ _ => keeps_of_view fun _ _ hA => ⟨_, rfl, by simp [view_viaBridge (outside hA), view_modPart (outside hA), view_setLoom (outside hA),
      view_ite]⟩,
    fun _ _ => keeps_of_view fun _ _ hA => ⟨_, rfl, by dsimp only; (repeat' split) <;> simp [view_setPart (outside hA), view_sendEntry
      (outside hA)]⟩,
    fun _ _ _ => keeps_of_view fun _ _ hA => ⟨_, rfl, by dsimp only; (repeat' split) <;> simp [view_setPart (outside hA), view_consumePoison
      (outside hA), view_postToWindow (outside hA)]⟩,
    fun _ => keeps_of_view fun _ _ hA => ⟨_, rfl, by simp [view_consumePoison (outside hA), view_sendMarker (outside hA), view_setExState
      (outside hA), view_modPart (outside hA), view_addMarker (outside hA), view_commitCheck (outside hA), view_ite]⟩,
    fun _ _ _ => keeps_of_view fun _ _ hA => ⟨_, rfl, view_pktArrives (outside hA) (hf := fun _ => view_rxCommit (outside hA) ..) ..⟩,
    fun _ _ _ => keeps_of_view fun _ _ hA => ⟨_, rfl, view_pktArrives (outside hA) (hf := fun _ => view_rxAbort (outside hA) ..) ..⟩,
    fun _ => keeps_of_view fun _ _ hA => ⟨_, rfl, by dsimp only; (repeat' split) <;> simp [view_atLeast (outside hA), view_silence (outside hA),
      view_raisePart (outside hA), view_haltJob (outside hA)]⟩,
    -- Transport (11 R250 to R252, R278).
    fun _ _ => keeps_of_view fun _ _ hA => ⟨_, rfl, view_pktArrives (outside hA) (hf := fun _ => view_rxAck (outside hA) ..) ..⟩,
    fun _ _ _ => keeps_of_view fun _ _ hA => ⟨_, rfl, view_pktArrives (outside hA) (hf := fun _ => view_rxNak (outside hA) ..) ..⟩,
    fun _ _ => keeps_of_view fun _ _ hA => ⟨_, rfl, view_pktArrives (outside hA) (hf := fun _ => view_rxRnrNak (outside hA) ..) ..⟩,
    fun _ _ => keeps_of_view fun _ _ hA => ⟨_, rfl, by simp [view_setPart (outside hA), view_resend (outside hA), view_ite]⟩,
    fun _ _ => keeps_of_view fun _ _ hA => ⟨_, rfl, by dsimp only; (repeat' split) <;> simp [view_setPart (outside hA), view_pathFailed
      (outside hA), view_resend (outside hA)]⟩,
    fun _ _ => keeps_of_view fun _ _ hA => ⟨_, rfl, by simp [view_setPart (outside hA), view_sendAck (outside hA), view_ite]⟩,
    fun _ _ => keeps_of_view fun _ _ hA => ⟨_, rfl, view_pktArrives (outside hA) (hf := fun _ => view_rxCnp (outside hA) ..) ..⟩,
    fun _ _ => keeps_of_view fun _ _ hA => ⟨_, rfl, by simp [view_atLeast (outside hA), view_modPart (outside hA), view_ite]⟩⟩

end Sys2Proof.Machine
end

section
/-! A LOOP inside four others while the step computes: the ABORT that the mistake is charged with takes the open loops off the loom that it stops
(04 R87, R88, R431; 11 R274). -/

namespace Sys2Proof.Machine

open Sys2Proof

/-- A LOOP of one iteration. -/
def loopOnce : Word512 := 3 + 2 ^ 32

/-- A loom inside four loops, with such a LOOP at its head. -/
def nestedLoom : Loom :=
  { Loom.init with store := [(0, loopOnce)], seq := .running, loops := List.replicate 4 { body := 0, left := 1 } }

/-- The loom of router (0, 0) of quadrant 0. -/
def nestedAt : LoomId := { q := 0, r := 0, c := 0 }

/-- The job of partition 0 is RUNNING and its step computes; that loom is the one inside four loops. -/
def nestedState : State :=
  { (State.reset.setObj 0x907001 5).setObj 0x521003 1 with
    pwrok := true, fwUp := true, pllsOn := true, parts := [(0, { Part.init with inStep := true })], looms := [(0, nestedLoom)] }

theorem atHead_nestedState : nestedState.atHead nestedAt 3 loopOnce := by decide +kernel

theorem loops_nestedState : ((nestedState.loom nestedAt).loops).length = 4 := by decide +kernel

/-- The state after the LOOP. -/
def nestedDone : State :=
  match exec (.loop nestedAt none) nestedState with
  | .next t => t
  | _ => nestedState

theorem exec_nestedLoop : exec (.loop nestedAt none) nestedState = .next nestedDone := rfl

theorem loops_nestedDone : (nestedDone.loom nestedAt).loops = [] := by decide +kernel

/-- Refutes O40: a LOOP inside four others stops its loom, but where the step computes, as in `nestedState`, the ABORT that follows discards the
loom's open loops with the rest of the attempt, and the clause keeps them. -/
theorem not_mistakesStopTheLoom : ¬ Obligations.MistakesStopTheLoom := by
  rintro ⟨-, -, -, -, -, -, hloop, -⟩
  obtain ⟨t, hexec, -, -, hkept, -⟩ :=
    hloop nestedAt none loopOnce nestedState atHead_nestedState (fun _ h => nomatch h) (.inr loops_nestedState.ge)
  have hdone : t = nestedDone := Host.Outcome.next.inj (hexec.symm.trans exec_nestedLoop)
  have hlength := congrArg List.length hkept
  rw [hdone, loops_nestedDone, loops_nestedState] at hlength
  exact absurd hlength (by decide)

end Sys2Proof.Machine
end

section
/-! An arming whose last digests are right, while a word of a frozen state region is poisoned: the fingerprints of the frozen tensors consume the
poison, and the job halts (04 R107; 05 R127; 09 R212; 12 R292). -/

namespace Sys2Proof.Machine

open Sys2Proof

/-- An image for 1,600 looms without sections; its one update command names parameter 0 of tensor 0 in region 0. -/
def frozenImage : Image :=
  { looms := 1600, profile := 0, profileDigest := 0, slots := [], windows := [], xwins := [], sends := [], updBase := 0, updLast := 0
    updTable := [], updCmds := [2 ^ 320], twPeriod := 0, twBudget := 0, loomImgs := [], hubDest := [] }

/-- A manifest without ranks, with one region: a band of frozen state over all stacks of its partition. -/
def frozenManifest : Bytes := leBytes 256 (2 ^ 88) ++ leBytes 64 (15 * 2 ^ 4 + 2 ^ 16 + 2 ^ 64)

/-- The loom whose digests come last. -/
def lastLoom : LoomId := { q := 0, r := 0, c := 0 }

/-- A partition at step 5 of the arming, which has that loom's spaces whole. -/
def frozenPart : Part :=
  { Part.init with
    manifest := frozenManifest, image := some frozenImage
    arming := { Arming.init with step := 5, done := [(spaceKey lastLoom false, true), (spaceKey lastLoom true, true)] } }

/-- The looms of quadrant 0 but that one, with right digests. -/
def reportedLooms : SMap Loom := (List.range 399).map (fun k => (25 * ((k + 1) / 20) + (k + 1) % 20, { Loom.init with digestOk := true }))

/-- Each quadrant is a partition; partition 0 is arming, its other looms have reported, and the first word of its frozen state is poisoned. -/
def poisonedArming : State :=
  { (State.reset.setObj 0x90000A 2).setObj 0x907001 2 with
    pwrok := true, fwUp := true, pllsOn := true, parts := [(0, frozenPart)], looms := reportedLooms
    hbmPoison := [(wordKey 4 117440512, true)] }

theorem loomPart_lastLoom : poisonedArming.loomPart lastLoom = 0 := by decide +kernel

theorem others_reported : ∀ j ∈ poisonedArming.loomIds 0, j ≠ lastLoom → (poisonedArming.loom j).digestOk = true := by decide +kernel

/-- The state after that loom's report. -/
def reportMetPoison : State :=
  match exec (.digestReport lastLoom none) poisonedArming with
  | .next t => t
  | _ => poisonedArming

theorem exec_lastReport : exec (.digestReport lastLoom none) poisonedArming = .next reportMetPoison := rfl

/-- The job is HALTED, and the arming has not gone on. -/
theorem reportMetPoison_halts : reportMetPoison.jobState 0 = 7 ∧ reportMetPoison.armStep 0 = 5 := by decide +kernel

/-- Refutes O56: the clause of the last right digests leaves out what the fingerprints then read. In `poisonedArming` the last loom's digests
are right and those of all others have been, but a word of the frozen state is poisoned: the fingerprints consume the poison, the job halts,
and the arming does not reach step 7. -/
theorem not_segmentsAndLoader : ¬ Obligations.SegmentsAndLoader := by
  rintro ⟨-, -, -, -, -, -, -, -, -, -, -, -, -, -, hdigest⟩
  obtain ⟨hright, -⟩ := hdigest lastLoom poisonedArming (by decide +kernel) (by decide +kernel) (by decide +kernel) (by decide +kernel)
    (by decide +kernel) (by decide +kernel)
  obtain ⟨t, hexec, -, -, -, hends⟩ := hright none (fun _ h => nomatch h) (by decide +kernel)
  rw [loomPart_lastLoom] at hends
  have hdone : t = reportMetPoison := Host.Outcome.next.inj (hexec.symm.trans exec_lastReport)
  have hstep := hends others_reported
  rw [hdone, reportMetPoison_halts.2] at hstep
  exact absurd hstep (by decide)

end Sys2Proof.Machine
end

section
/-! SUPPORT. Packets that a partition receives (08 R189; 10 R224, R246; 11 R250, R252, R254, R259): they cross the port's queue and pass ESP and the
ICRC, and nothing but the association that took them changes in the partition. -/

namespace Sys2Proof.Machine

open Sys2Proof

/-! ### Loops of different classes, and of different queues -/

theorem loopId_class (cls p inst : Nat) : loopId cls p inst / 2 ^ 24 = cls := by
  unfold loopId
  omega

theorem queueLoop_class (s : State) (q : Nat) : s.queueLoop q / 2 ^ 24 = 8 := loopId_class ..

theorem queueLoop_ne (s t : State) {q j : Nat} (hq : q < 2 ^ 16) (hj : j < 2 ^ 16) (h : j ≠ q) : t.queueLoop j ≠ s.queueLoop q := by
  unfold State.queueLoop loopId
  omega

theorem portOwner_of_view {s t : State} (h : view .inForce t = view .inForce s) (port : Nat) : t.portOwner port = s.portOwner port := by
  have hlive : t.inForce = s.inForce := h
  unfold State.portOwner State.live
  rw [hlive]

theorem queueLoop_congr {s t : State} (hlayout : t.obj 0x90000A = s.obj 0x90000A) (hforce : view .inForce t = view .inForce s) (q : Nat) :
    t.queueLoop q = s.queueLoop q := by
  unfold State.queueLoop State.queueHome State.queuePart State.partOfStack
  simp only [partOfQuad_congr hlayout, portOwner_of_view hforce]

/-- Items that cross a queue take no credit of another one. -/
theorem queueTakes_passQueue_other (s : State) {q j : Nat} (hq : q < 2 ^ 16) (hj : j < 2 ^ 16) (h : j ≠ q) (n : Nat) :
    (s.passQueue q n).queueTakes j = s.queueTakes j := by
  have hloop : (s.passQueue q n).queueLoop j = s.queueLoop j :=
    queueLoop_congr (obj_passQueue s (by decide) q n) (view_passQueue (by decide) s q n) j
  unfold State.queueTakes State.queueRoom
  dsimp only
  rw [queueOpen_passQueue, hloop, dcq_passQueue_other s h, cloop_passQueue_other s (queueLoop_ne s s hq hj h)]

/-! ### Frames that get to their partition -/

theorem queueOpen_of_takes {s : State} {q : Nat} (h : s.queueTakes q = true) : s.queueOpen q = true := (Bool.and_eq_true_iff.1 h).1

theorem queueRoom_of_takes {s : State} {q : Nat} (h : s.queueTakes q = true) : s.queueRoom q = true := (Bool.and_eq_true_iff.1 h).2

theorem arrives_admitted {s : State} {p : Fin 4} {f : Frame} (h : s.admits p f) (n : Nat) (cmd : Instr) (run : State → State) :
    s.arrives p f n cmd run = run (s.portIn (f.k.val / 8) n) := by
  obtain ⟨howner, hruns, hheld, hup, hgood, hqueue⟩ := h
  have hnone : s.held.any (fun h => h.part == p) = false := by
    rw [List.any_eq_false]
    intro e he hpart
    exact hheld e he (congrArg Fin.val (beq_iff_eq.1 hpart))
  have hframe : s.rxFrame f n = (s.portIn (f.k.val / 8) n, true) := by
    unfold State.rxFrame
    dsimp only
    rw [hup, hgood, queueRoom_of_takes hqueue, queueOpen_of_takes hqueue]
    rfl
  unfold State.arrives
  dsimp only
  rw [hframe, howner, hruns, hnone]
  simp

/-! ### What packets leave of the state -/

/-- `v` is `s` after packets crossed queue `q` to partition `p`: of the partition at most its associations changed. -/
structure PacketsIn (s v : State) (p q : Nat) : Prop where
  areas : ∀ ar, ar ∉ [Area.objects, .queues, .loops, .parts] → view ar v = view ar s
  objs : ∀ r, v.obj r = s.obj r
  part : v.part p = { s.part p with sas := (v.part p).sas }
  others : OnlyParts [p] s v
  loops : ∀ l, l / 2 ^ 24 ≠ 8 → v.cloop l = s.cloop l
  queues : ∀ j, j < 2 ^ 16 → j ≠ q → v.queueTakes j = s.queueTakes j

theorem packetsIn_portIn {s : State} (p : Nat) {port : Nat} (hport : port < 6) (h : s.queueTakes (0x200 + 2 * port) = true) (n : Nat) :
    PacketsIn s (s.portIn port n) p (0x200 + 2 * port) where
  areas ar har := view_portIn (by simp only [List.mem_cons] at har ⊢; tauto) s port n
  objs r := obj_passQueue_open s (queueOpen_of_takes h) n r
  part := by rw [part_of_view (view_portIn (by decide) s port n)]
  others j _ := part_of_view (view_portIn (by decide) s port n) j
  loops l hl := cloop_passQueue_other s (fun e => hl (by rw [e, queueLoop_class])) n
  queues j hj hne := queueTakes_passQueue_other s (by omega) hj hne n

/-- An association takes the packets. -/
theorem PacketsIn.setSa {s v : State} {p q : Nat} (h : PacketsIn s v p q) (i : Nat) (b : Sa) :
    PacketsIn s (v.setPart p ((v.part p).setSa i b)) p q where
  areas ar har := (view_setPart (by simp only [List.mem_cons] at har ⊢; tauto) v p _).trans (h.areas ar har)
  objs := h.objs
  part := by rw [part_setPart_same, Part.setSa, h.part]
  others j hj := (part_setPart_other v (List.ne_of_not_mem_cons hj) _).trans (h.others j hj)
  loops := h.loops
  queues := h.queues

section
variable {s v : State} {p q : Nat} (h : PacketsIn s v p q)
include h

theorem PacketsIn.qps : (v.part p).qps = (s.part p).qps := by rw [h.part]

theorem PacketsIn.tally : (v.part p).tally = (s.part p).tally := by rw [h.part]

theorem PacketsIn.qp (n : Nat) : (v.part p).qp n = (s.part p).qp n := by rw [h.part]; rfl

theorem PacketsIn.hbm : v.hbm = s.hbm := h.areas .hbm (by decide)

theorem PacketsIn.link (k : Nat) : v.link k = s.link k := by
  have hl : v.links = s.links := h.areas .links (by decide)
  unfold State.link
  rw [hl]

theorem PacketsIn.buffersFree (port n : Nat) : v.buffersFree p port n = s.buffersFree p port n := by
  unfold State.buffersFree
  rw [h.loops _ (by rw [loopId_class]; decide)]

/-- The queue pair's link is as ready for packets as before. -/
theorem PacketsIn.sends {qpn : Nat} (hs : s.sends p qpn) (hq : 0x201 + 2 * (((s.part p).qp qpn).link.toNat / 8) ≠ q) : v.sends p qpn := by
  obtain ⟨hlink, hup, htakes, hpauses, hwaits⟩ := hs
  unfold State.sends
  rw [h.qp, h.link, h.queues _ (by omega) hq]
  refine ⟨hlink, ?_, htakes, hpauses, hwaits⟩
  unfold State.linkUp at hup ⊢
  rw [h.objs]
  exact hup

end

/-! ### ESP, ICRC and sequence (R250, R252, R254) -/

section
variable {s : State} {p : Nat} {h : PktHdr} {n : Nat} (hlive : ((s.part p).qp (pktQpn h)).live = true) (hesp : h.esp.ok = true)
  (hkey : ((s.part p).sa (2 * pktQpn h + 1)).key ≠ []) {b : Sa} (htaken : ((s.part p).sa (2 * pktQpn h + 1)).acceptAll h.esp.seq n = some b)
  (hicrc : h.icrcOk = true) (hce : h.ce = false)
include hlive hesp hkey htaken hicrc hce

theorem rxRoce_taken : s.rxRoce p h n = (s.setPart p ((s.part p).setSa (2 * pktQpn h + 1) b), true) := by
  have hrx : s.rxEsp p h.esp n = (s.setPart p ((s.part p).setSa (2 * pktQpn h + 1) b), true) := by
    unfold State.rxEsp
    rw [show 2 * h.esp.qpn.toNat + 1 = 2 * pktQpn h + 1 from rfl]
    dsimp only
    rw [hesp, bne_iff_ne.2 hkey, Bool.and_self, if_pos rfl, htaken]
  have hmark (t : State) : t.ceMark p h = t := by
    unfold State.ceMark
    dsimp only
    rw [hce, Bool.false_and, if_neg Bool.false_ne_true]
  unfold State.rxRoce
  rw [hlive, hrx]
  simp [hicrc, hmark]

/-- The next packets of a queue pair. -/
theorem rxPacket_next {halts : Bool} (hruns : (halts && decide (s.jobState p = 7)) = false) (hpsn : h.psn = ((s.part p).qp (pktQpn h)).expPsn) :
    s.rxPacket p h n halts = (s.setPart p ((s.part p).setSa (2 * pktQpn h + 1) b), true) := by
  unfold State.rxPacket
  rw [rxRoce_taken hlive hesp hkey htaken hicrc hce]
  dsimp only
  rw [show (s.setPart p ((s.part p).setSa (2 * pktQpn h + 1) b)).jobState p = s.jobState p from rfl, hruns, part_setPart_same,
    show ((s.part p).setSa (2 * pktQpn h + 1) b).qp (pktQpn h) = (s.part p).qp (pktQpn h) from rfl, hpsn, BitVec.sub_self]
  rfl

/-- Packets of a request whose job is HALTED. -/
theorem rxPacket_halted (hhalted : s.jobState p = 7) : s.rxPacket p h n true =
    (((s.setPart p ((s.part p).setSa (2 * pktQpn h + 1) b)).bump (0x521007 + 256 * p) 1).sendNak p h h.psn 3, false) := by
  unfold State.rxPacket
  rw [rxRoce_taken hlive hesp hkey htaken hicrc hce]
  dsimp only
  rw [show (s.setPart p ((s.part p).setSa (2 * pktQpn h + 1) b)).jobState p = s.jobState p from rfl, hhalted]
  rfl

end

end Sys2Proof.Machine
end

section
/-! SUPPORT. Packets that leave a partition on its queue pairs (10 R226; 11 R250, R252): acknowledgements and NAKs change no more than the association
that numbers them, the link, and the queue they cross; a right request moves its queue pair's PSN. -/

namespace Sys2Proof.Machine

open Sys2Proof

/-- `w` is `v` after packets of partition `p` left, at once or to wait on their link: of the partition at most its associations changed. -/
structure PacketsOut (v w : State) (p : Nat) : Prop where
  areas : ∀ ar, ar ∉ [Area.sent, .objects, .links, .queues, .loops, .parts] → view ar w = view ar v
  objs : ∀ r, r ∉ droppedObjs → w.obj r = v.obj r
  part : w.part p = { v.part p with sas := (w.part p).sas }
  others : OnlyParts [p] v w
  loops : ∀ l, l / 2 ^ 24 ≠ 8 → w.cloop l = v.cloop l

theorem PacketsOut.refl (v : State) (p : Nat) : PacketsOut v v p := ⟨fun _ _ => rfl, fun _ _ => rfl, rfl, fun _ _ => rfl, fun _ _ => rfl⟩

theorem PacketsOut.trans {u v w : State} {p : Nat} (h : PacketsOut u v p) (g : PacketsOut v w p) : PacketsOut u w p where
  areas ar har := (g.areas ar har).trans (h.areas ar har)
  objs r hr := (g.objs r hr).trans (h.objs r hr)
  part := by rw [g.part, h.part]
  others j hj := (g.others j hj).trans (h.others j hj)
  loops l hl := (g.loops l hl).trans (h.loops l hl)

/-- An operation that leaves the partitions alone. -/
theorem packetsOut_of_views {v w : State} (p : Nat)
    (hareas : ∀ ar, ar ∉ [Area.sent, .objects, .links, .queues, .loops] → view ar w = view ar v)
    (hobjs : ∀ r, r ∉ droppedObjs → w.obj r = v.obj r) (hloops : ∀ l, l / 2 ^ 24 ≠ 8 → w.cloop l = v.cloop l) : PacketsOut v w p where
  areas ar har := hareas ar (by simp only [List.mem_cons] at har ⊢; tauto)
  objs := hobjs
  part := by rw [part_of_view (hareas .parts (by decide)) p]
  others j _ := part_of_view (hareas .parts (by decide)) j
  loops := hloops

section
variable (s : State) (p : Nat)

theorem cloop_of_view {s t : State} (h : view .loops t = view .loops s) (l : Nat) : t.cloop l = s.cloop l := by
  have hl : t.cloops = s.cloops := h
  unfold State.cloop
  rw [hl]

/-- A frame on its way takes credits of queues only (08 R189). -/
theorem cloop_sendFrame (k : Nat) (f : TxFrame) {l : Nat} (hl : l / 2 ^ 24 ≠ 8) : (s.sendFrame k f).cloop l = s.cloop l := by
  have hout (t : State) : (t.portOut (k / 8) f.count).cloop l = t.cloop l := cloop_passQueue_other t (fun e => hl (by rw [e, queueLoop_class])) _
  have hdepart : (s.depart k f).cloop l = s.cloop l := by
    unfold State.depart
    dsimp only
    split
    · rw [cloop_of_view (view_traceSent (by decide) ..), cloop_emit, hout, cloop_setLink]
    · rw [hout, cloop_setLink]
  unfold State.sendFrame
  split
  · rfl
  · split
    · exact hdepart
    · exact cloop_setLink ..

theorem packetsOut_sendOn (qpn : Nat) (f : TxFrame) : PacketsOut s (s.sendOn p qpn f) p where
  areas ar har := by
    refine (view_sendFrame ?_ _ _ _).trans (view_setPart ?_ ..) <;>
    · simp only [List.mem_cons] at har ⊢
      tauto
  objs r hr := obj_sendOn s hr p qpn f
  part := by
    unfold State.sendOn
    rw [part_of_view (view_sendFrame (by decide) _ _ _), part_setPart_same]
    rfl
  others j hj := (part_of_view (view_sendFrame (by decide) _ _ _) j).trans (part_setPart_other s (List.ne_of_not_mem_cons hj) _)
  loops l hl := cloop_sendFrame _ _ f hl

theorem packetsOut_foldl {α : Type} {f : State → α → State} (hf : ∀ t a, PacketsOut t (f t a) p) (l : List α) : PacketsOut s (l.foldl f s) p := by
  induction l generalizing s with
  | nil => exact .refl s p
  | cons a l ih => exact (hf s a).trans (ih _)

theorem packetsOut_tracePackets (p' kind link qpn : Nat) (psns : List Nat) (again : Bool) :
    PacketsOut s (s.tracePackets p' kind link qpn psns again) p :=
  packetsOut_of_views p (fun ar har => view_tracePackets (by simp only [List.mem_cons] at har ⊢; tauto) ..)
    (fun _ hr => obj_tracePackets s hr ..) (fun l _ => cloop_of_view (view_tracePackets (by decide) ..) l)

theorem packetsOut_sendNak (h : PktHdr) (psn : BitVec 24) (cls : BitVec 3) : ∃ w, PacketsOut s w p
    ∧ s.sendNak p h psn cls = w.bump (0x522006 + 256 * (pktPort h).val) 1 := ⟨_, packetsOut_sendOn s p (pktQpn h) _, rfl⟩

/-- The queue pair of `n` packets that are taken expects those after them (11 R250). -/
theorem packetsOut_rxTaken (h : PktHdr) (psns n : Nat) : ∃ q, q.expPsn = ((s.part p).qp (pktQpn h)).expPsn + BitVec.ofNat 24 psns
    ∧ PacketsOut (s.setPart p ((s.part p).setQp (pktQpn h) q)) (s.rxTaken p h psns n) p := by
  unfold State.rxTaken
  exact ⟨_, by rfl, (packetsOut_foldl _ p (fun t j => packetsOut_sendOn t p (pktQpn h) _) _).trans (packetsOut_tracePackets _ p ..)⟩

end

/-! ### A NAK that leaves at once -/

theorem sendFrame_leaves {s : State} {k : Nat} {f : TxFrame} (hk : k < 48) (hup : s.linkUp k = true)
    (hqueue : s.queueTakes (0x201 + 2 * (k / 8)) = true) (hpauses : (s.link k).pauses = 0) (hwaits : (s.link k).waiting = [])
    (hplain : ∀ t : State, t.traceSent k f = t) : (s.sendFrame k f).out.head? = some f.out := by
  have hmay : s.mayDepart k f = true := by
    unfold State.mayDepart
    rw [hpauses, queueRoom_of_takes hqueue]
    simp
  unfold State.sendFrame State.depart
  dsimp only
  rw [hup, hmay, hwaits, queueOpen_of_takes hqueue, hplain]
  simp [Nat.not_le.2 hk, State.emit]

theorem sendNak_leaves {s : State} {p : Nat} {h : PktHdr} (hs : s.sends p (pktQpn h)) (psn : BitVec 24) (cls : BitVec 3) :
    ∃ w, (s.sendNak p h psn cls).out.head? = some (.nak p w (BitVec.ofNat 24 (pktQpn h)) psn cls) := by
  obtain ⟨hlink, hup, htakes, hpauses, hwaits⟩ := hs
  exact ⟨_, sendFrame_leaves (s := s.setPart p _) hlink hup htakes hpauses hwaits (fun _ => rfl)⟩

end Sys2Proof.Machine
end

section
/-! SUPPORT. Objects that a unit's access to its memory counts (09 R206 to R217; 05 R124): those of the stacks, of padding and of the error log. -/

namespace Sys2Proof.Machine

open Sys2Proof

/-- Objects that an access to memory can change: those of records and dropped items, the padded completions, and those of the stacks. -/
abbrev accessedObj (r : Nat) : Prop := r ∈ raisedObjs ∨ r = 0x220008 ∨ 0x4010 ≤ r / 256 ∧ r / 256 < 0x4060

section
variable (s : State) {r : Nat} (h : ¬ accessedObj r)
include h

theorem not_raised_of_accessedObj : r ∉ raisedObjs := fun e => h (.inl e)

theorem not_flushed_of_accessedObj : r ≠ 0x804006 := fun e => h (.inl (by rw [e]; decide))

/-- A count of a stack. -/
theorem obj_bumpStack {k j : Nat} (hk : k < 80) (hj : j < 256) (n : Nat) : (s.bump (0x401000 + j + 256 * k) n).obj r = s.obj r :=
  obj_bump_other s (fun e => h (.inr (.inr (by omega)))) n

theorem obj_pad (p : Nat) (unit : Option (Nat × Nat)) (nth : Nat) : (s.pad p unit nth).obj r = s.obj r := by
  have howe (t : State) (a b c d e : Nat) : (t.owe a b c d e).obj r = t.obj r := obj_of_view (view_owe (by decide) ..) r
  have hne : r ≠ 0x220008 := fun e => h (.inr (.inl e))
  unfold State.pad
  split
  · split
    · rw [howe, obj_bump_other s hne]
    · exact obj_bump_other s hne 1
  · rfl

omit h in
theorem obj_moved (k w n : Nat) : (s.moved k w n).obj r = s.obj r := rfl

theorem obj_storeWord {k : Nat} (hk : k < 80) (w o : Nat) (b : Bytes) (poison : Bool) : (s.storeWord k w o b poison).obj r = s.obj r := by
  unfold State.storeWord
  dsimp only
  rw [obj_moved]
  split
  · rfl
  · exact obj_bumpStack _ h hk (j := 10) (by decide) _

theorem obj_checkWord {k : Nat} (hk : k < 80) (w : Nat) (ecc : Ecc) : (s.checkWord k w ecc).obj r = s.obj r := by
  have hraise (t : State) (q c : Nat) {sev : Nat} (hsev : sev ≤ 4) (a b d e : Nat) : (t.raiseQuad q c sev a b d e).obj r = t.obj r :=
    obj_raiseQuad t (not_raised_of_accessedObj h) hsev q c a b d e
  unfold State.checkWord
  dsimp only
  split
  · rfl
  · split
    · rfl
    · rfl
    · exact obj_bumpStack s h hk (j := 6) (by decide) 1
    · rw [hraise _ _ _ (by decide)]
      exact obj_bumpStack _ h hk (j := 7) (by decide) 1
    · rw [obj_moved, hraise _ _ _ (by decide)]
      exact obj_bumpStack _ h hk (j := 8) (by decide) 1

/-! ### What is served before an access (R208) -/

theorem obj_serveOne {k : Nat} (hk : k < 80) (q : HbmReq) : (s.serveOne k q).obj r = s.obj r := by
  have hfree (t : State) (l : Nat) : (t.freeCredit l).obj r = t.obj r := rfl
  unfold State.serveOne
  dsimp only
  split
  · split
    · rw [obj_storeWord _ h hk, hfree, hfree]
    · rw [obj_storeWord _ h hk, hfree, hfree]
    · rw [obj_storeWord _ h hk, hfree, hfree]
  · rw [obj_emit, obj_pad _ h, obj_moved]
    split
    · exact (obj_bumpStack _ h hk (j := 9) (by decide) 1).trans (obj_checkWord _ h hk _ _)
    · exact obj_checkWord _ h hk _ _

theorem obj_serveFirst {k : Nat} (hk : k < 80) : (s.serveFirst k).obj r = s.obj r := by
  have hready (t : State) : ((t.serveRefresh k).serveWriteBacks k).obj r = t.obj r :=
    obj_of_view ((view_serveWriteBacks (by decide) ..).trans (view_serveRefresh (by decide) ..)) r
  unfold State.serveFirst State.serveReady
  split
  · dsimp only
    rw [obj_foldl fun t q => obj_serveOne t h hk q, obj_setStack, hready]
  · rfl

theorem obj_crossTo (who : Requester) (k : Nat) (write : Bool) : (s.crossTo who k write).obj r = s.obj r := by
  obtain ⟨l, n, he⟩ := crossTo_eq s who k write
  have hway : (l.foldl (fun (t : State) q => t.passQueue q 1) s).obj r = s.obj r :=
    obj_foldl (fun t q => obj_passQueue t (not_flushed_of_accessedObj h) q 1) l s
  have htoken (t : State) (l : Nat) : (t.throughLoop l 1).obj r = t.obj r := rfl
  have hbridges (t : State) : (t.crossBridges who k write).obj r = t.obj r := by
    unfold State.crossBridges
    split
    · dsimp only
      split
      · rw [htoken, htoken]
      · rw [htoken, htoken, htoken, htoken]
    · rfl
  have hback (t : State) (x : Stack) (l : Nat) : ((t.setStack k x).throughLoop l 1).obj r = t.obj r := rfl
  dsimp only at he
  generalize l.foldl (fun (t : State) q => t.passQueue q 1) s = u at he hway
  rw [he]
  split
  · rw [htoken, hback, hbridges, hway]
  · rw [hback, hbridges, hway]

/-! ### Words and regions -/

theorem obj_countWord (who : Requester) {k : Nat} (hk : k < 80) (w : Nat) : (s.countWord who k w).obj r = s.obj r := by
  have hmoved : (((s.serveFirst k).crossTo who k false).moved k w 64).obj r = s.obj r := by
    rw [obj_moved, obj_crossTo _ h, obj_serveFirst s h hk]
  have hcount (t : State) (ht : t.obj r = s.obj r) : (if t.poisoned k w then t.bump (0x401009 + 256 * k) 1 else t).obj r = s.obj r := by
    split
    · exact (obj_bumpStack t h hk (j := 9) (by decide) 1).trans ht
    · exact ht
  unfold State.countWord
  refine hcount _ ?_
  split
  · exact hmoved
  · rw [obj_pad _ h, hmoved]

theorem obj_writeWord (who : Requester) {k : Nat} (hk : k < 80) (w o : Nat) (b : Bytes) (poison : Bool) :
    (s.writeWord who k w o b poison).obj r = s.obj r := by
  unfold State.writeWord
  rw [obj_storeWord _ h hk, obj_crossTo _ h, obj_serveFirst s h hk]

theorem obj_countRead (who : Requester) (p i off n : Nat) : (s.countRead who p i off n).obj r = s.obj r := by
  unfold State.countRead
  refine obj_foldl (fun t c => ?_) _ s
  exact obj_countWord t h who (regionWord_lt t p i c.1) _

theorem obj_writeTagged (who : Requester) (p i off : Nat) (b : Bytes) (bad : Nat → Nat → Bool) :
    (s.writeTagged who p i off b bad).obj r = s.obj r := by
  unfold State.writeTagged State.writeBy
  refine obj_foldl (fun t c => ?_) _ s
  exact obj_writeWord t h who (regionWord_lt t p i c.1) _ _ _ _

theorem obj_writeRegion (who : Requester) (p i off : Nat) (b : Bytes) (poison : Bool) :
    (s.writeRegion who p i off b poison).obj r = s.obj r := obj_writeTagged s h who p i off b _

/-! ### Windows, ledgers and rows -/

theorem obj_countWin (who : Requester) (p : Nat) (w : WindowEnt) (n k : Nat) : (s.countWin who p w n k).obj r = s.obj r := by
  unfold State.countWin
  refine obj_foldl (fun t c => ?_) _ s
  exact obj_countRead t h who p _ _ _

theorem obj_setWin (who : Requester) (p : Nat) (w : WindowEnt) (n k : Nat) (v : Nat → Nat) (keep : Bool) :
    (s.setWin who p w n k v keep).obj r = s.obj r := by
  unfold State.setWin
  refine obj_foldl (fun t c => ?_) _ s
  exact obj_writeTagged t h who p _ _ _ _

theorem obj_setLedger (p : Nat) (w : WindowEnt) (c : Nat) (l : Ledger) : (s.setLedger p w c l).obj r = s.obj r :=
  obj_writeRegion s h _ p _ _ _ _

theorem obj_countLedger (p : Nat) (w : WindowEnt) (c : Nat) : (s.countLedger p w c).obj r = s.obj r := obj_countRead s h _ p _ _ _

theorem obj_addElems (p : Nat) (w : WindowEnt) (hd : ChunkHdr) (elems : Bytes) (first : Bool) :
    (s.addElems p w hd elems first).obj r = s.obj r := by
  unfold State.addElems
  dsimp only
  rw [obj_setWin _ h]
  split
  · rfl
  · exact obj_countWin s h _ p w _ _

theorem obj_recordJobMax (p t max : Nat) : (s.recordJobMax p t max).obj r = s.obj r := by
  unfold State.recordJobMax State.setEphRow
  split
  · dsimp only
    split
    · exact obj_writeRegion s h _ p _ _ _ _
    · rfl
  · rfl

end

end Sys2Proof.Machine
end

section
/-! SUPPORT. A fault that is charged to a step, seen from the other partitions, the tally queue and single objects (11 R273 to R278; 12 R296). -/

namespace Sys2Proof.Machine

open Sys2Proof

/-- Objects of partition `p` that a fault charged to its step can change: the roll call's state, the exchange's, and the job's. -/
abbrev chargedObjs (p : Nat) : List Nat :=
  [0x515002 + 256 * p, 0x521002 + 256 * p, 0x521003 + 256 * p, 0x521004 + 256 * p, 0x521005 + 256 * p, 0x521006 + 256 * p,
    0x907001 + 256 * p, 0x907008 + 256 * p, 0x90700A + 256 * p]

/-- `t` is `s` after a fault was charged to a step of partition `p`, or after a message of it left: the chunks that wait for the tally stay. -/
structure Charged (p : Nat) (s t : State) : Prop where
  others : OnlyParts [p] s t
  tally : (t.part p).tally = (s.part p).tally
  objs : ∀ r, r ∉ raisedObjs → r ∉ droppedObjs → r ∉ chargedObjs p → t.obj r = s.obj r

theorem OnlyParts.trans {l : List Nat} {s t u : State} (h : OnlyParts l s t) (g : OnlyParts l t u) : OnlyParts l s u :=
  fun j hj => (g j hj).trans (h j hj)

theorem onlyParts_of_view {s t : State} (h : view .parts t = view .parts s) (l : List Nat) : OnlyParts l s t := fun j _ => part_of_view h j

theorem onlyParts_modPart (s : State) (p : Nat) (f : Part → Part) : OnlyParts [p] s (s.modPart p f) :=
  fun _ hj => part_modPart_other s (List.ne_of_not_mem_cons hj) f

section
variable {p : Nat}

theorem Charged.refl (s : State) : Charged p s s := ⟨fun _ _ => rfl, rfl, fun _ _ _ _ => rfl⟩

theorem Charged.trans {s t u : State} (h : Charged p s t) (g : Charged p t u) : Charged p s u where
  others := h.others.trans g.others
  tally := g.tally.trans h.tally
  objs r hr hd hc := (g.objs r hr hd hc).trans (h.objs r hr hd hc)

theorem PacketsOut.charged {s t : State} (h : PacketsOut s t p) : Charged p s t where
  others := h.others
  tally := by rw [h.part]
  objs r _ hd _ := h.objs r hd

end

section
variable (s : State) {p : Nat}

/-- An operation that leaves partitions alone, and objects but those of the log and of dropped items. -/
theorem charged_of_parts {t : State} (hv : view .parts t = view .parts s)
    (ho : ∀ r, r ∉ raisedObjs → r ∉ droppedObjs → t.obj r = s.obj r) : Charged p s t where
  others := onlyParts_of_view hv _
  tally := by rw [part_of_view hv]
  objs r hr hd _ := ho r hr hd

theorem charged_of_views {t : State} (hv : view .parts t = view .parts s) (ho : view .objects t = view .objects s) : Charged p s t :=
  charged_of_parts s hv fun r _ _ => obj_of_view ho r

theorem charged_setPart {x : Part} (hx : x.tally = (s.part p).tally) : Charged p s (s.setPart p x) where
  others _ hj := part_setPart_other s (List.ne_of_not_mem_cons hj) x
  tally := by rw [part_setPart_same, hx]
  objs _ _ _ _ := rfl

theorem charged_modPart {f : Part → Part} (hf : ∀ x, (f x).tally = x.tally) : Charged p s (s.modPart p f) := charged_setPart s (hf _)

theorem charged_setObj {r : Nat} (hr : r ∈ chargedObjs p) (v : Nat) : Charged p s (s.setObj r v) where
  others _ _ := rfl
  tally := rfl
  objs j _ _ hc := obj_setObj_other s (fun (e : j = r) => hc (e ▸ hr)) v

theorem charged_bump {r : Nat} (hr : r ∈ chargedObjs p) (n : Nat) : Charged p s (s.bump r n) where
  others _ _ := rfl
  tally := rfl
  objs j _ _ hc := obj_bump_other s (fun (e : j = r) => hc (e ▸ hr)) n

theorem charged_foldl {α : Type} {f : State → α → State} (hf : ∀ t a, Charged p t (f t a)) (l : List α) : Charged p s (l.foldl f s) := by
  induction l generalizing s with
  | nil => exact .refl s
  | cons a l ih => exact (hf s a).trans (ih _)

theorem charged_raisePart (code : Nat) {sev : Nat} (hsev : sev ≤ 4) (uclass unit q op detail : Nat) :
    Charged p s (s.raisePart code sev uclass unit q op detail) :=
  charged_of_parts s (view_raisePart (by decide) ..) fun _ hr _ => obj_raisePart s hr hsev ..

/-! ### Messages -/

variable (p)

theorem charged_sendMsg (qpn : Nat) (m : TxMsg) : Charged p s (s.sendMsg p qpn m false) := by
  unfold State.sendMsg
  split
  · refine charged_modPart s fun x => ?_
    split <;> rfl
  · exact (charged_of_views s (view_paceWait (by decide) s p qpn m) (view_paceWait (by decide) s p qpn m)).trans
      (packetsOut_sendOn _ p qpn _).charged

theorem charged_post (qpn rkey va kind att : Nat) (b : Bytes) : Charged p s (s.post p qpn rkey va kind att b) := by
  have hloop (t : State) (l : Nat) (c : CLoop) : Charged p t (t.setCloop l c) :=
    charged_of_views t (view_setCloop (by decide) ..) (view_setCloop (by decide) ..)
  unfold State.post
  exact (charged_setPart s (by rfl)).trans ((hloop _ _ _).trans (charged_sendMsg _ p qpn _))

theorem charged_across (way : List Nat) {f : State → State} (hf : ∀ t, Charged p t (f t)) : Charged p s (s.across way f) := by
  have hcross : Charged p s (s.crossQueues way) :=
    charged_of_parts s (view_crossQueues (by decide) s way) fun r _ hd => obj_crossQueues s (fun e => hd (by simp [e])) way
  unfold State.across
  split
  · exact .refl s
  · split
    · exact hcross.trans (hf _)
    · exact hcross

theorem charged_report (b : Bytes) : Charged p s (s.report p b) := by
  have hsent (h : BitVec 256) : Charged p s (s.postControl p h b) := by
    unfold State.postControl
    split
    · exact charged_across s p _ fun t => charged_post t p _ _ _ _ _ _
    · exact .refl s
  unfold State.report
  exact (hsent _).trans (charged_modPart _ fun _ => rfl)

theorem charged_sendMarker (kind cause nonfin : Nat) : Charged p s (s.sendMarker p kind cause nonfin) := by
  have htrace (t : State) (link k q d0 d1 : Nat) : Charged p t (t.traceHub link k q d0 d1) :=
    charged_of_parts t (view_traceHub (by decide) ..) fun _ _ hd => obj_traceHub t hd ..
  unfold State.sendMarker
  exact charged_foldl s (fun t r => (charged_post t p _ _ _ _ _ _).trans (htrace _ _ _ _ _ _)) _

/-! ### Halt and abort -/

theorem charged_endRoll : Charged p s (s.endRoll p) := by
  unfold State.endRoll
  split
  · exact charged_setObj s (by simp) 3
  · exact .refl s

theorem charged_haltJob (cause detail : Nat) : Charged p s (s.haltJob p cause detail) := by
  unfold State.haltJob State.endWait State.setExState
  dsimp only
  have hstate (t : State) : Charged p t (((t.setObj (0x907001 + 256 * p) 7).setObj (0x907008 + 256 * p) cause).setObj (0x521003 + 256 * p) 0) :=
    ((charged_setObj t (by simp) 7).trans (charged_setObj _ (by simp) cause)).trans (charged_setObj _ (by simp) 0)
  have hpart (t : State) (b : Bool) : Charged p t (t.modPart p (fun x => { x with
      inStep := false, cutStep := x.cutStep || b, due := [], window := false })) := charged_modPart t fun _ => rfl
  exact (((charged_bump s (by simp) _).trans (charged_endRoll _ p)).trans ((hstate _).trans (hpart _ _))).trans
    ((charged_raisePart _ _ (by decide) _ _ _ _ _).trans (charged_report _ p _))

theorem charged_haltAtBoundary (cause detail : Nat) : Charged p s (s.haltAtBoundary p cause detail) := charged_modPart s fun _ => rfl

theorem charged_dropAttempt : Charged p s (s.dropAttempt p) := by
  have hlooms (t : State) : Charged p t (t.modLooms p Loom.stopAttempt) :=
    charged_of_views t (view_modLooms (by decide) ..) (view_modLooms (by decide) ..)
  have hloops (t : State) (f : Nat → Bool) (a : Nat) : Charged p t ({ t with cloops := SMap.drop f t.cloops }.openContributions p a) :=
    charged_of_views t ((view_openContributions (by decide) ..).trans (view_upd_cloops (by decide) ..))
      ((view_openContributions (by decide) ..).trans (view_upd_cloops (by decide) ..))
  unfold State.dropAttempt State.endWait
  dsimp only
  exact ((charged_bump s (by simp) _).trans (hlooms _)).trans ((hloops _ _ _).trans (charged_modPart _ fun _ => rfl))

theorem charged_handleAbort (cause sender : Nat) (own : Bool) : Charged p s (s.handleAbort p cause sender own) := by
  have hdrop (d : Nat) : Charged p s (((((s.bump (0x521004 + 256 * p) 1).setObj (0x521005 + 256 * p) cause).setObj
      (0x521006 + 256 * p) sender).raisePart 0x0504 2 ucPart p p 2 d).dropAttempt p) :=
    (((charged_bump s (by simp) 1).trans (charged_setObj _ (by simp) cause)).trans (charged_setObj _ (by simp) sender)).trans
      ((charged_raisePart _ _ (by decide) _ _ _ _ _).trans (charged_dropAttempt _ p))
  unfold State.handleAbort State.setExState
  dsimp only
  split
  · exact (hdrop _).trans (charged_haltJob _ p _ _)
  · split
    · exact (hdrop _).trans (charged_haltJob _ p _ _)
    · exact (hdrop _).trans ((charged_setObj _ (by simp) _).trans (charged_setObj _ (by simp) 4))

theorem charged_abortStep (cause : Nat) : Charged p s (s.abortStep p cause) :=
  (charged_sendMarker s p _ _ _).trans (charged_handleAbort _ p _ _ _)

theorem charged_chargeFault (cause : Nat) : Charged p s (s.chargeFault p cause) := by
  unfold State.chargeFault
  split
  · exact charged_abortStep s p cause
  · split
    · exact charged_haltJob s p _ _
    · split
      · exact charged_haltAtBoundary s p _ _
      · split
        · exact charged_haltJob s p _ _
        · exact .refl s

theorem charged_faultAndHalt (cause hc hd : Nat) : Charged p s (s.faultAndHalt p cause hc hd) := by
  unfold State.faultAndHalt
  dsimp only
  split
  · split
    · exact charged_abortStep s p cause
    · exact (charged_abortStep s p cause).trans (charged_haltJob _ p hc hd)
  · split
    · exact charged_haltAtBoundary s p hc hd
    · split
      · exact charged_haltJob s p hc hd
      · exact .refl s

end

end Sys2Proof.Machine
end

section
/-! SUPPORT. What a tally engine does stays in its partition (01 R23; 11 R262 to R266), and none of it is a disagreement of the duplicated adders (16
R386). -/

namespace Sys2Proof.Machine

open Sys2Proof

/-- `t` is `s` after work of a tally engine of partition `p`: the other partitions and the count of adders that disagreed stay. -/
structure Confined (p : Nat) (s t : State) : Prop where
  others : OnlyParts [p] s t
  adders : t.obj 0x702005 = s.obj 0x702005

section
variable {p : Nat}

theorem Confined.refl (s : State) : Confined p s s := ⟨fun _ _ => rfl, rfl⟩

theorem Confined.trans {s t u : State} (h : Confined p s t) (g : Confined p t u) : Confined p s u :=
  ⟨h.others.trans g.others, g.adders.trans h.adders⟩

theorem Charged.confined {s t : State} (h : Charged p s t) (hp : p < 4) : Confined p s t :=
  ⟨h.others, h.objs _ (by decide) (by decide) (by simp only [List.mem_cons, List.not_mem_nil, or_false]; omega)⟩

end

section
variable (s : State) {p : Nat}

theorem confined_of_parts {t : State} (hv : view .parts t = view .parts s) (ho : t.obj 0x702005 = s.obj 0x702005) : Confined p s t :=
  ⟨onlyParts_of_view hv _, ho⟩

theorem confined_of_views {t : State} (hv : view .parts t = view .parts s) (ho : view .objects t = view .objects s) : Confined p s t :=
  confined_of_parts s hv (obj_of_view ho _)

theorem confined_modPart (f : Part → Part) : Confined p s (s.modPart p f) := ⟨onlyParts_modPart s p f, rfl⟩

theorem confined_bump {r : Nat} (hr : 0x702005 ≠ r) (n : Nat) : Confined p s (s.bump r n) := ⟨fun _ _ => rfl, obj_bump_other s hr n⟩

theorem confined_foldl {α : Type} {f : State → α → State} (hf : ∀ t a, Confined p t (f t a)) (l : List α) : Confined p s (l.foldl f s) := by
  induction l generalizing s with
  | nil => exact .refl s
  | cons a l ih => exact (hf s a).trans (ih _)

/-- Either way confined. -/
theorem confined_ite {t u : State} (c : Prop) [Decidable c] (ht : Confined p s t) (hu : Confined p s u) : Confined p s (if c then t else u) := by
  split
  · exact ht
  · exact hu

variable (p)

/-! ### Ledgers and windows -/

theorem confined_countWin (w : WindowEnt) (n k : Nat) : Confined p s (s.countWin .hub p w n k) :=
  confined_of_parts s (view_countWin (by decide) ..) (obj_countWin s (by decide) ..)

theorem confined_addElems (w : WindowEnt) (h : ChunkHdr) (elems : Bytes) (first : Bool) : Confined p s (s.addElems p w h elems first) :=
  confined_of_parts s (view_addElems (by decide) ..) (obj_addElems s (by decide) ..)

theorem confined_setLedger (w : WindowEnt) (c : Nat) (l : Ledger) : Confined p s (s.setLedger p w c l) :=
  confined_of_parts s (view_setLedger (by decide) ..) (obj_setLedger s (by decide) ..)

theorem confined_countLedger (w : WindowEnt) (c : Nat) : Confined p s (s.countLedger p w c) :=
  confined_of_parts s (view_countLedger (by decide) ..) (obj_countLedger s (by decide) ..)

theorem confined_recordJobMax (t max : Nat) : Confined p s (s.recordJobMax p t max) :=
  confined_of_parts s (view_recordJobMax (by decide) ..) (obj_recordJobMax s (by decide) ..)

theorem confined_contribute (window n : Nat) : Confined p s (s.contribute p window n) :=
  confined_of_views s (view_contribute (by decide) ..) (view_contribute (by decide) ..)

/-! ### Chunks on their way to an engine -/

theorem confined_tallyGrant (k : Nat) : Confined p s (s.tallyGrant p k) := by
  unfold State.tallyGrant
  split
  · exact .refl s
  · split
    · exact (confined_of_views s (view_loopTake (by decide) ..) (view_loopTake (by decide) ..)).trans (confined_modPart _ _)
    · exact .refl s

theorem confined_toTally (h : Word512) (elems : Bytes) (link : Option (Fin 48)) : Confined p s (s.toTally p h elems link) :=
  (confined_modPart s _).trans (confined_tallyGrant _ p _)

theorem confined_tallyFreed (i : TallyItem) : Confined p s (s.tallyFreed p i) := by
  have hfree (t : State) (l n : Nat) : Confined p t (t.loopFree l n) :=
    confined_of_views t (view_loopFree (by decide) ..) (view_loopFree (by decide) ..)
  have hpfc (t : State) (n : Nat) : Confined p t (t.pfcCheck p n) :=
    confined_of_views t (view_pfcCheck (by decide) ..) (view_pfcCheck (by decide) ..)
  have hgrant : Confined p s ((s.loopFree (loopId 3 p i.engine) 1).tallyGrant p i.engine) := (hfree s _ 1).trans (confined_tallyGrant _ p _)
  unfold State.tallyFreed
  dsimp only
  split
  · exact hgrant.trans ((hfree _ _ _).trans (hpfc _ _))
  · exact hgrant

theorem confined_markDone (w : WindowEnt) : Confined p s (s.markDone p w) := confined_modPart s _

theorem confined_noteDone (sender window : Nat) (skip : Bool) : Confined p s (s.noteDone p sender window skip) := confined_modPart s _

theorem confined_checkResults : Confined p s (s.checkResults p) := confined_foldl s (fun t w => confined_markDone t p w) _

variable {p} (hp : p < 4)
include hp

theorem confined_postChunk (dest rkey va : Nat) (h : ChunkHdr) (elems : Bytes) : Confined p s (s.postChunk p dest rkey va h elems) := by
  unfold State.postChunk
  dsimp only
  split
  · exact confined_toTally s p _ _ _
  · exact (charged_post s p _ _ _ _ _ _).confined hp

theorem confined_postToWindow (dest : Nat) (h : ChunkHdr) (elems : Bytes) : Confined p s (s.postToWindow p dest h elems) :=
  confined_postChunk s hp ..

/-! ### Poison and violations -/

theorem confined_tallyPoison (k bad : Nat) : Confined p s (s.tallyPoison p k bad) := by
  have hraise (x : Raise) (hx : x.sev ≤ 4) : Confined p s (s.raise x) := confined_of_parts s (view_raise (by decide) ..) (obj_raise s (by decide) hx)
  unfold State.tallyPoison State.consumePoison
  dsimp only
  split
  · exact hraise _ (Nat.le_succ 3)
  · exact (hraise _ (Nat.le_succ 3)).trans (((confined_bump _ (by decide) 1).trans (confined_modPart _ _)).trans
      ((charged_faultAndHalt _ p _ _ _).confined hp))

theorem confined_violate (loop : Nat) : Confined p s (s.violate p loop) := by
  have hset (t : State) (r v : Nat) (hr : 0x702005 ≠ r) : Confined p t (t.setObj r v) := ⟨fun _ _ => rfl, obj_setObj_other t hr v⟩
  have hshown (a b c : Nat) : Confined p s ((((s.bump 0x704003 1).setObj 0x704004 a).setObj 0x704005 b).setObj 0x704006 c) :=
    (confined_bump s (by decide) 1).trans
      (((hset _ 0x704004 a (by decide)).trans (hset _ 0x704005 b (by decide))).trans (hset _ 0x704006 c (by decide)))
  have hraise (t : State) (a b c d : Nat) : Confined p t (t.raisePart 0x0404 3 a b p c d) := (charged_raisePart t _ (by decide) ..).confined hp
  unfold State.violate
  exact ((hshown _ _ _).trans (hraise _ _ _ _ _)).trans ((confined_modPart _ _).trans ((charged_faultAndHalt _ p _ _ _).confined hp))

theorem confined_tallyViolation (k window : Nat) : Confined p s (s.tallyViolation p k window) :=
  (confined_bump s (r := 0x52200A + 256 * k) (by omega) 1).trans (confined_violate _ hp _)

/-! ### What follows a complete chunk -/

theorem confined_sendDones (w : WindowEnt) : Confined p s (s.sendDones p w) := by
  unfold State.sendDones
  exact confined_foldl s (fun t r => (confined_postChunk t hp _ _ _ _ _).trans (confined_bump _ (by omega) 1)) _

theorem confined_sendResult (w : WindowEnt) (c : Nat) : Confined p s (s.sendResult p w c) := by
  unfold State.sendResult
  dsimp only
  split
  · exact (confined_countWin s p w _ _).trans (confined_tallyPoison _ hp _ _)
  · exact (confined_countWin s p w _ _).trans (confined_foldl _ (fun t r => confined_postToWindow t hp _ _ _) _)

theorem confined_sendResults (w : WindowEnt) : Confined p s (s.sendResults p w) := by
  unfold State.sendResults
  split
  · refine confined_foldl s (fun t c => ?_) _
    split
    · exact .refl t
    · exact confined_sendResult t hp w c
  · exact .refl s

theorem confined_ownerComplete (w : WindowEnt) : Confined p s (s.ownerComplete p w) := by
  unfold State.ownerComplete
  dsimp only
  split
  · exact confined_tallyPoison s hp _ _
  · exact (((confined_markDone s p w).trans (confined_recordJobMax _ p _ _)).trans (confined_noteDone _ p _ _ _)).trans
      (((confined_sendDones _ hp w).trans (confined_sendResults _ hp w)).trans (confined_checkResults _ p))

theorem confined_checkWindows : Confined p s (s.checkWindows p) := by
  unfold State.checkWindows
  refine confined_foldl s (fun t w => ?_) _
  split
  · split
    · exact confined_ownerComplete t hp w
    · exact confined_markDone t p w
  · exact .refl t

theorem confined_forward (w : WindowEnt) (c : Nat) : Confined p s (s.forward p w c) := by
  have hcount (n k : Nat) : Confined p s (s.countWin .hub p w n k) := confined_countWin s p w n k
  unfold State.forward
  dsimp only
  refine (hcount _ _).trans (confined_ite _ _ (confined_tallyPoison _ hp _ _) ?_)
  exact (confined_postToWindow _ hp _ _ _).trans (confined_bump _ (r := 0x522003 + 256 * s.homeEngine p c) (by omega) 1)

theorem confined_chunkDone (k : Nat) (w : WindowEnt) (h : ChunkHdr) : Confined p s (s.chunkDone p k w h) := by
  have hnext (t : State) : Confined p t (if (t.part p).poisoned then t else if w.role = 2 then t.checkResults p
      else if (t.part p).filled then t.checkWindows p else t) := by
    split
    · exact .refl t
    · split
      · exact confined_checkResults t p
      · split
        · exact confined_checkWindows t hp
        · exact .refl t
  have htrace (a b c d e f g : Nat) : Confined p s (s.traceUnit a b c d e f g) :=
    confined_of_parts s (view_traceUnit (by decide) ..) (obj_traceUnit s (by decide) ..)
  have hsent (t : State) : Confined p t (if w.role = 1 then t.forward p w h.chunk else t) := by
    split
    · exact confined_forward t hp w _
    · exact .refl t
  unfold State.chunkDone
  exact (htrace _ _ _ _ _ _ _).trans ((hsent _).trans (hnext _))

theorem confined_tallyCheck (k : Nat) (w : WindowEnt) (h : ChunkHdr) (l : Ledger) : Confined p s (s.tallyCheck p k w h l) := by
  unfold State.tallyCheck
  split
  · exact confined_tallyViolation s hp k _
  · split
    · split
      · exact confined_chunkDone s hp k w h
      · exact confined_tallyViolation s hp k _
    · split
      · exact confined_checkResults s p
      · exact .refl s

/-! ### A chunk that is added -/

theorem confined_addChunk (k : Nat) (w : WindowEnt) (h : ChunkHdr) (elems : Bytes) : Confined p s (s.addChunk p k w h elems) := by
  have hadded (first : Bool) (l : Ledger) : Confined p s (((s.countLedger p w h.chunk).addElems p w h elems first).setLedger p w h.chunk l) :=
    ((confined_countLedger s p w _).trans (confined_addElems _ p w h elems first)).trans (confined_setLedger _ p w _ l)
  have hcounted (t : State) : Confined p t ((t.bump (0x522001 + 256 * k) 1).bump (0x522002 + 256 * k) h.elems) :=
    (confined_bump t (by omega) 1).trans (confined_bump _ (by omega) _)
  have hnow (t : State) (b : Bool) : Confined p t (if b then t.contribute p w.window.toNat h.count else t) := by
    split
    · exact confined_contribute t p _ _
    · exact .refl t
  unfold State.addChunk
  dsimp only
  exact ((hadded _ _).trans ((hcounted _).trans (hnow _ _))).trans
    (confined_ite _ _ (confined_tallyPoison _ hp _ _) (confined_tallyCheck _ hp _ _ _ _))

theorem confined_tallyTake (i : TallyItem) : Confined p s (s.tallyTake p i) := by
  unfold State.tallyTake
  dsimp only
  split
  · exact .refl s
  · split
    · exact confined_bump s (by omega) 1
    · split
      · exact confined_addChunk s hp _ _ _ _
      · exact .refl s

end

end Sys2Proof.Machine
end

section
/-! SUPPORT. What a partition's job reads of its state (06 R138; 11 R255 to R262): manifest, image, interleave key, rank, the step in progress, and
the bytes of its regions. -/

namespace Sys2Proof.Machine

open Sys2Proof

/-- `y` is `x` as far as the job is concerned: its manifest, image, interleave key and rank. -/
structure PartJob (x y : Part) : Prop where
  manifest : y.manifest = x.manifest
  image : y.image = x.image
  ikey : y.ikey = x.ikey
  digest : y.digest = x.digest
  rank : y.rankIdx = x.rankIdx

section
variable {x y : Part} (h : PartJob x y)
include h

theorem PartJob.ranks : y.ranks = x.ranks := by
  unfold Part.ranks Part.man
  rw [h.manifest]

theorem PartJob.regionEntry (i : Nat) : y.regionEntry i = x.regionEntry i := by
  unfold Part.regionEntry Part.regionAt Part.services Part.ranks Part.paths Part.man
  rw [h.manifest]

theorem PartJob.theRegion (kind : Nat) : y.theRegion kind = x.theRegion kind := by
  have hkind (i : Nat) : y.regionKind i = x.regionKind i := by
    unfold Part.regionKind
    rw [h.regionEntry]
  have hregions : y.regions = x.regions := by
    unfold Part.regions Part.man
    rw [h.manifest]
  unfold Part.theRegion Part.regionsOf
  simp only [hkind, hregions]

theorem PartJob.slotCount : y.slotCount = x.slotCount := by
  unfold Part.slotCount
  rw [h.image]

theorem PartJob.slotJob (t : Nat) : y.slotJob t = x.slotJob t := by
  unfold Part.slotJob Part.slotRec
  rw [h.image]

theorem PartJob.rowAt (step t : Nat) : y.rowAt step t = x.rowAt step t := by
  unfold Part.rowAt
  rw [h.slotCount]

theorem PartJob.windowAt (r n : Nat) : y.windowAt r n = x.windowAt r n := by
  unfold Part.windowAt
  rw [h.image]

theorem PartJob.rank_eq : y.rank = x.rank := congrArg BitVec.toNat h.rank

end

/-- `t` is `s` in all that says where the job of partition `p` lies and how far it is: job, layout, step and attempt. -/
structure SameBooks (p : Nat) (s t : State) : Prop where
  job : PartJob (s.part p) (t.part p)
  layout : t.obj 0x90000A = s.obj 0x90000A
  step : t.stepNo p = s.stepNo p
  attempt : t.attempt p = s.attempt p

section
variable {p : Nat} {s t : State} (h : SameBooks p s t)
include h

theorem SameBooks.regionWord (i off : Nat) : t.regionWord p i off = s.regionWord p i off := by
  unfold State.regionWord State.spanChans
  simp only [h.job.regionEntry, h.job.ikey, spanStacks_congr h.layout]

theorem SameBooks.readNat (hbm : t.hbm = s.hbm) (i off n : Nat) : t.readNat p i off n = s.readNat p i off n := by
  unfold State.readNat State.readRegion
  simp only [h.regionWord, hbm]

theorem SameBooks.ledger (hbm : t.hbm = s.hbm) (w : WindowEnt) (c : Nat) : t.ledger p w c = s.ledger p w c := by
  unfold State.ledger
  rw [h.readNat hbm]

theorem SameBooks.winElem (hbm : t.hbm = s.hbm) (w : WindowEnt) (n : Nat) : t.winElem p w n = s.winElem p w n := by
  unfold State.winElem
  dsimp only
  rw [h.readNat hbm]

theorem SameBooks.ephRow (hbm : t.hbm = s.hbm) (step k : Nat) : t.ephRow p step k = s.ephRow p step k := by
  unfold State.ephRow
  dsimp only
  rw [h.job.theRegion, h.job.rowAt, h.readNat hbm]

theorem SameBooks.poisonIn (hmarks : t.hbmPoison = s.hbmPoison) (i off n : Nat) : t.poisonIn p i off n = s.poisonIn p i off n := by
  unfold State.poisonIn State.poisoned
  simp only [h.regionWord, hmarks]

theorem SameBooks.chunkOld (hbm : t.hbm = s.hbm) (c : ChunkHdr) : t.chunkOld p c = s.chunkOld p c := by
  unfold State.chunkOld
  dsimp only
  rw [h.step, h.attempt, h.job.rank_eq, h.job.windowAt]
  simp only [h.ledger hbm]

theorem SameBooks.slotX (hbm : t.hbm = s.hbm) (k : Nat) : t.slotX p k = s.slotX p k := by
  unfold State.slotX
  rw [h.step, h.ephRow hbm]

theorem SameBooks.chunkRight (hbm : t.hbm = s.hbm) (k : Chunk) (c : ChunkHdr) : t.chunkRight p k c = s.chunkRight p k c := by
  have hdone : t.doneFits p k c = s.doneFits p k c := by
    unfold State.doneFits
    simp only [h.job.ranks, h.job.slotCount, h.job.windowAt, h.slotX hbm]
  have hfits (w : WindowEnt) : t.chunkFits p k c w = s.chunkFits p k c w := by
    unfold State.chunkFits
    simp only [h.job.ranks, h.slotX hbm]
  unfold State.chunkRight State.jobField
  simp only [h.job.digest, h.step, h.job.rank_eq, h.job.windowAt, hdone, hfits]

end

/-- Packets that arrive and pass leave the job as it was. -/
theorem PacketsIn.books {s v : State} {p q : Nat} (h : PacketsIn s v p q) : SameBooks p s v where
  job := by rw [h.part]; exact ⟨rfl, rfl, rfl, rfl, rfl⟩
  layout := h.objs _
  step := h.objs _
  attempt := h.objs _

end Sys2Proof.Machine
end

section
/-! SUPPORT. The chunks that wait for the tally engines (05 R133, R134; 11 R262): the oldest that waits for an engine takes its credit, the others
keep their places. -/

namespace Sys2Proof.Machine

open Sys2Proof

/-- The chunk, whether or not it holds a credit. -/
def TallyItem.uncredited (i : TallyItem) : TallyItem := { i with credited := false }

/-- The oldest chunk of a queue that waits for engine `k` takes the credit that is `free`. -/
def grantTally (free : Bool) (k : Nat) (l : List TallyItem) : List TallyItem :=
  match l.findIdx? (TallyItem.asks k) with
  | none => l
  | some n => if free then l.modify n (fun i => { i with credited := true }) else l

theorem map_modify_of_eq {α β : Type} {f : α → β} {g : α → α} (h : ∀ a, f (g a) = f a) (n : Nat) (l : List α) :
    (l.modify n g).map f = l.map f := by
  refine List.ext_getElem? fun i => ?_
  rw [List.getElem?_map, List.getElem?_map, List.getElem?_modify]
  cases l[i]? with
  | none => rfl
  | some a =>
    dsimp only [Option.map_eq_map, Option.map_some]
    split
    · rw [h]
    · rfl

/-- Credits move no chunk. -/
theorem uncredited_grantTally (free : Bool) (k : Nat) (l : List TallyItem) :
    (grantTally free k l).map TallyItem.uncredited = l.map TallyItem.uncredited := by
  unfold grantTally
  split
  · rfl
  · split
    · refine map_modify_of_eq (fun i => ?_) _ l
      rfl
    · rfl

/-- A chunk joins the queue, and the oldest that waits for its engine takes a credit that is free. -/
def joinTally (free : Nat → Bool) (i : TallyItem) (l : List TallyItem) : List TallyItem := grantTally (free i.engine) i.engine (l ++ [i])

theorem uncredited_joinTally (free : Nat → Bool) (i : TallyItem) (l : List TallyItem) :
    (joinTally free i l).map TallyItem.uncredited = l.map TallyItem.uncredited ++ [i.uncredited] :=
  (uncredited_grantTally ..).trans List.map_append

/-- Where nothing waits for the engine before it, a chunk that joins takes the free credit. -/
theorem last_joinTally {free : Nat → Bool} {i : TallyItem} (hwaits : i.credited = false) {l : List TallyItem}
    (hnone : l.all (fun j => !TallyItem.asks i.engine j) = true) :
    ((joinTally free i l).getLast?).map (·.credited) = some (free i.engine) := by
  have hi : TallyItem.asks i.engine i = true := by simp [TallyItem.asks, hwaits]
  have hfirst : l.findIdx? (TallyItem.asks i.engine) = none := by
    rw [List.findIdx?_eq_none_iff]
    intro j hj
    simpa using List.all_eq_true.1 hnone j hj
  unfold joinTally grantTally
  rw [List.findIdx?_append, hfirst, List.findIdx?_cons, hi]
  cases free i.engine with
  | true => simp [List.modify_eq_take_drop]
  | false => simp [hwaits]

theorem grantTally_of_findIdx? {k n : Nat} {l : List TallyItem} (h : l.findIdx? (TallyItem.asks k) = some n) :
    grantTally true k l = l.modify n (fun i => { i with credited := true }) := by
  unfold grantTally
  rw [h]
  rfl

section
variable (s : State) (p k : Nat)

theorem part_tallyGrant : (s.tallyGrant p k).part p
    = { s.part p with tally := grantTally (s.hasCredit (loopId 3 p k)) k (s.part p).tally } := by
  have htake (t : State) (l n : Nat) : (t.loopTake l n).part p = t.part p := part_of_view (view_loopTake (by decide) ..) p
  unfold State.tallyGrant grantTally
  cases (s.part p).tally.findIdx? (TallyItem.asks k) with
  | none => rfl
  | some n =>
    dsimp only
    split
    · rw [part_modPart_same, htake]
    · rfl

/-- Whether an input credit of an engine is free. -/
def State.tallyCredit (s : State) (p k : Nat) : Bool := s.hasCredit (loopId 3 p k)

/-- A chunk as it joins the queue of its home engine. -/
def State.joining (s : State) (p : Nat) (h : Word512) (elems : Bytes) (link : Option (Fin 48)) : TallyItem :=
  { engine := s.homeEngine p (chunkOf h).chunk, header := h, elems := elems, link := link, credited := false }

theorem part_toTally (h : Word512) (elems : Bytes) (link : Option (Fin 48)) : (s.toTally p h elems link).part p
    = { s.part p with tally := joinTally (s.tallyCredit p) (s.joining p h elems link) (s.part p).tally } := by
  unfold State.toTally
  dsimp only
  rw [part_tallyGrant, part_modPart_same]
  rfl

end

end Sys2Proof.Machine
end

section
/-! SUPPORT. A chunk that arrives in order (11 R259, R260, R262): what its packets leave of the state, and the cases of its header. -/

namespace Sys2Proof.Machine

open Sys2Proof

/-- Packets of a chunk. -/
abbrev chunkPackets (k : Chunk) : Nat := packetsOf (64 + k.elems.length)

/-- The hub's side of the queue that the chunk crosses. -/
abbrev chunkQueue (k : Chunk) : Nat := 0x200 + 2 * (pktLink k.pkt / 8)

/-- It is not a queue towards the MAC. -/
theorem chunkQueue_ne (i : Nat) (k : Chunk) : 0x201 + 2 * i ≠ chunkQueue k := by
  unfold chunkQueue
  omega

/-- What becomes of a chunk whose packets are the next ones of their queue pair: the cases of R259, in their order. -/
def State.readChunk (t : State) (p : Nat) (k : Chunk) : State :=
  if chunkReserved (chunkOf k.header) then t.rxDrop (pktLink k.pkt)
  else if (chunkOf k.header).step = t.stepNo p + 1 then t.sendNak p k.pkt k.pkt.psn 4
  else if (chunkOf k.header).step < t.stepNo p ∨ t.chunkOld p (chunkOf k.header) then
    (t.rxAccept p k.pkt (chunkPackets k)).bump (0x521007 + 256 * p) 1
  else if t.chunkRight p k (chunkOf k.header) then (t.rxAccept p k.pkt (chunkPackets k)).chunkTaken p k (chunkOf k.header)
  else (t.rxAccept p k.pkt (chunkPackets k)).headerMismatch p k.pkt (chunkOf k.header)

theorem pktLink_div_lt (h : PktHdr) : pktLink h / 8 < 6 := by
  have hk : pktLink h < 48 := h.esp.frame.k.isLt
  omega

section
variable {s : State} {p : Fin 4} {k : Chunk}

/-- Packets that get to their partition cross the port's queue and come to their queue pair. -/
theorem chunkArrives_admitted (hadmits : s.admits p k.pkt.esp.frame) (type : Nat) (cmd : Instr) : ∃ u, PacketsIn s u p (chunkQueue k)
    ∧ u.part p = s.part p ∧ view .sent u = view .sent s ∧ s.chunkArrives p type k cmd = u.rxChunk p type k := by
  have ⟨_, _, _, _, _, hqueue⟩ := hadmits
  exact ⟨_, packetsIn_portIn p (pktLink_div_lt k.pkt) hqueue (chunkPackets k), part_of_view (view_portIn (by decide) ..) p,
    view_portIn (by decide) .., arrives_admitted hadmits (chunkPackets k) cmd fun t => t.rxChunk p type k⟩

variable (hparty : pktParty k.pkt < (s.part p).ranks)
include hparty

/-- A chunk for the job in progress that comes in order is read. -/
theorem chunkArrives_next (hin : s.inOrder p k.pkt (chunkPackets k)) (hjob : s.jobState p ≠ 7) {type : Nat}
    (htype : (chunkOf k.header).type = type ∨ chunkReserved (chunkOf k.header) = true)
    (hbuf : (chunkOf k.header).type = 3 ∨ s.buffersFree p (pktPort k.pkt).val (chunkPackets k) = true) (cmd : Instr) :
    ∃ v, PacketsIn s v p (chunkQueue k) ∧ s.chunkArrives p type k cmd = v.readChunk p k := by
  obtain ⟨⟨hadmits, hlive, hesp, hkey, htaken, hicrc, hce⟩, hpsn⟩ := hin
  obtain ⟨u, hu, hpart, -, harrives⟩ := chunkArrives_admitted hadmits type cmd
  obtain ⟨b, hb⟩ := Option.isSome_iff_exists.1 htaken
  rw [← hpart] at hlive hkey hb hpsn hparty
  have hrx : u.rxPacket p k.pkt (chunkPackets k) true = (u.setPart p ((u.part p).setSa (2 * pktQpn k.pkt + 1) b), true) :=
    rxPacket_next hlive hesp hkey hb hicrc hce (by rw [show u.jobState p = s.jobState p from hu.objs _]; simp [hjob]) hpsn
  refine ⟨u.setPart p ((u.part p).setSa (2 * pktQpn k.pkt + 1) b), hu.setSa _ b, harrives.trans ?_⟩
  have hkept : ¬(((chunkOf k.header).type ≠ type ∧ !chunkReserved (chunkOf k.header)) ∨ (u.part p).ranks ≤ pktParty k.pkt
      ∨ ((chunkOf k.header).type ≠ 3 ∧ u.jobState p ≠ 7 ∧ !u.buffersFree p (pktPort k.pkt).val (chunkPackets k))) := by
    rw [hu.buffersFree]
    rintro (⟨hne, hres⟩ | hle | ⟨hne, -, hnone⟩)
    · rcases htype with h | h
      · exact hne h
      · simp [h] at hres
    · exact Nat.not_le.2 hparty hle
    · rcases hbuf with h | h
      · exact hne h
      · simp [h] at hnone
  unfold State.rxChunk State.readChunk
  dsimp only
  rw [if_neg hkept, hrx]
  rfl

/-- A HALTED job answers with a NAK and counts the chunk as stale (11 R259; 12 R296). -/
theorem chunkArrives_halted (hin : s.receives p k.pkt (chunkPackets k)) (hjob : s.jobState p = 7) {type : Nat}
    (htype : (chunkOf k.header).type = type) (cmd : Instr) :
    ∃ v, PacketsIn s v p (chunkQueue k) ∧ s.chunkArrives p type k cmd
      = (v.bump (0x521007 + 256 * p.val) 1).sendNak p k.pkt k.pkt.psn 3 := by
  obtain ⟨hadmits, hlive, hesp, hkey, htaken, hicrc, hce⟩ := hin
  obtain ⟨u, hu, hpart, -, harrives⟩ := chunkArrives_admitted hadmits type cmd
  obtain ⟨b, hb⟩ := Option.isSome_iff_exists.1 htaken
  rw [← hpart] at hlive hkey hb hparty
  have hjobu : u.jobState p = 7 := (hu.objs _).trans hjob
  have hrx := rxPacket_halted hlive hesp hkey hb hicrc hce hjobu
  refine ⟨u.setPart p ((u.part p).setSa (2 * pktQpn k.pkt + 1) b), hu.setSa _ b, harrives.trans ?_⟩
  have hkept : ¬(((chunkOf k.header).type ≠ type ∧ !chunkReserved (chunkOf k.header)) ∨ (u.part p).ranks ≤ pktParty k.pkt
      ∨ ((chunkOf k.header).type ≠ 3 ∧ u.jobState p ≠ 7 ∧ !u.buffersFree p (pktPort k.pkt).val (chunkPackets k))) := by
    rintro (⟨hne, -⟩ | hle | ⟨-, hne, -⟩)
    · exact hne htype
    · exact Nat.not_le.2 hparty hle
    · exact hne hjobu
  unfold State.rxChunk
  dsimp only
  rw [if_neg hkept, hrx]
  rfl

end

/-! ### Chunks that are acknowledged -/

/-- `w` is `s` after packets of header `h`, the next ones of their queue pair, were taken and acknowledged (11 R250). -/
structure Heard (s w : State) (p : Nat) (h : PktHdr) (n : Nat) : Prop where
  areas : ∀ ar, ar ∉ [Area.sent, .objects, .links, .queues, .loops, .parts] → view ar w = view ar s
  objs : ∀ r, r ∉ droppedObjs → w.obj r = s.obj r
  part : w.part p = { s.part p with sas := (w.part p).sas, qps := (w.part p).qps }
  others : OnlyParts [p] s w
  loops : ∀ l, l / 2 ^ 24 ≠ 8 → w.cloop l = s.cloop l
  psn : ((w.part p).qp (pktQpn h)).expPsn = h.psn + BitVec.ofNat 24 n

theorem heard_rxAccept {s v : State} {p q : Nat} (hin : PacketsIn s v p q) {h : PktHdr} (hpsn : h.psn = ((s.part p).qp (pktQpn h)).expPsn)
    (n : Nat) : Heard s (v.rxAccept p h n) p h n := by
  obtain ⟨x, hx, ho⟩ := packetsOut_rxTaken v p h n n
  have hpart : (v.rxAccept p h n).part p = { (v.part p).setQp (pktQpn h) x with sas := ((v.rxAccept p h n).part p).sas } := by
    have hout := ho.part
    rwa [part_setPart_same] at hout
  refine ⟨fun ar har => ?_, fun r hr => (ho.objs r hr).trans (hin.objs r), ?_, ?_, fun l hl => (ho.loops l hl).trans (hin.loops l hl), ?_⟩
  · have hqueue : ar ∉ [Area.objects, .queues, .loops, .parts] := by simp only [List.mem_cons] at har ⊢; tauto
    exact (ho.areas ar har).trans ((view_setPart (by simp only [List.mem_cons] at har ⊢; tauto) ..).trans (hin.areas ar hqueue))
  · rw [hpart, hin.part]
    rfl
  · exact hin.others.trans (OnlyParts.trans (fun j hj => part_setPart_other v (List.ne_of_not_mem_cons hj) _) ho.others)
  · have hq : ((v.rxAccept p h n).part p).qp (pktQpn h) = x := by
      rw [hpart]
      exact SMap.get_set_same
    rw [hq, hx, hin.qp, hpsn]

section
variable {s w : State} {p : Nat} {h : PktHdr} {n : Nat} (hw : Heard s w p h n)
include hw

theorem Heard.tally : (w.part p).tally = (s.part p).tally := by rw [hw.part]

theorem Heard.hbm : w.hbm = s.hbm := hw.areas .hbm (by decide)

theorem Heard.books (hp : p < 4) : SameBooks p s w where
  job := by rw [hw.part]; exact ⟨rfl, rfl, rfl, rfl, rfl⟩
  layout := hw.objs _ (by decide)
  step := hw.objs _ (by simp only [List.mem_cons, List.not_mem_nil, or_false]; omega)
  attempt := hw.objs _ (by simp only [List.mem_cons, List.not_mem_nil, or_false]; omega)

theorem Heard.homeEngine (c : Nat) : w.homeEngine p c = s.homeEngine p c := by
  unfold State.homeEngine State.portsOf
  simp only [portOwner_of_view (hw.areas .inForce (by decide))]

theorem Heard.joining (c : Word512) (elems : Bytes) (link : Option (Fin 48)) : w.joining p c elems link = s.joining p c elems link := by
  unfold State.joining
  rw [hw.homeEngine]

theorem Heard.tallyCredit : w.tallyCredit p = s.tallyCredit p := by
  funext j
  unfold State.tallyCredit State.hasCredit
  rw [hw.loops _ (by rw [loopId_class]; decide)]

end

end Sys2Proof.Machine
end

section
/-! SUPPORT. Chunks that are accepted, stale, not ready, mismatched, reserved, or lost (10 R226; 11 R259, R260, R262): the clauses of O57 about chunks
that arrive. -/

namespace Sys2Proof.Machine

open Sys2Proof

theorem step_of_chunkRight {s : State} {p : Nat} {k : Chunk} {c : ChunkHdr} (h : s.chunkRight p k c = true) : c.step = s.stepNo p := by
  unfold State.chunkRight at h
  simp only [Bool.and_eq_true, decide_eq_true_eq] at h
  obtain ⟨⟨⟨-, hstep⟩, -⟩, -⟩ := h
  exact hstep

theorem cloop_loopTake_other (s : State) {l j : Nat} (h : j ≠ l) (n : Nat) : (s.loopTake l n).cloop j = s.cloop j := by
  unfold State.loopTake
  dsimp only
  split
  · exact cloop_setCloop_other s h _
  · rfl

theorem loopId_ne {a b p q i j : Nat} (h : a ≠ b) : loopId a p i ≠ loopId b q j := by
  intro e
  exact h (by rw [← loopId_class a p i, e, loopId_class])

/-! ### The cases of a header -/

section
variable {s v : State} {p : Fin 4} {k : Chunk} (hv : PacketsIn s v p (chunkQueue k))

theorem readChunk_reserved (hres : chunkReserved (chunkOf k.header) = true) : v.readChunk p k = v.rxDrop (pktLink k.pkt) := if_pos hres

include hv
variable (hres : chunkReserved (chunkOf k.header) = false)
include hres

theorem readChunk_early (hstep : (chunkOf k.header).step = s.stepNo p + 1) : v.readChunk p k = v.sendNak p k.pkt k.pkt.psn 4 := by
  unfold State.readChunk
  rw [if_neg (by simp [hres]), hv.books.step, if_pos hstep]

theorem readChunk_stale (hstep : (chunkOf k.header).step < s.stepNo p) :
    v.readChunk p k = (v.rxAccept p k.pkt (chunkPackets k)).bump (0x521007 + 256 * p.val) 1 := by
  unfold State.readChunk
  rw [if_neg (by simp [hres]), hv.books.step, if_neg (by omega), if_pos (.inl hstep)]

variable (hnow : s.stepNo p ≤ (chunkOf k.header).step) (hnext : (chunkOf k.header).step ≠ s.stepNo p + 1)
  (hold : s.chunkOld p (chunkOf k.header) = false)
include hnow hnext hold

theorem readChunk_right (hright : s.chunkRight p k (chunkOf k.header) = true) :
    v.readChunk p k = (v.rxAccept p k.pkt (chunkPackets k)).chunkTaken p k (chunkOf k.header) := by
  unfold State.readChunk
  rw [if_neg (by simp [hres]), hv.books.step, if_neg hnext, hv.books.chunkOld hv.hbm, if_neg (by simp [hold, hnow]),
    hv.books.chunkRight hv.hbm, if_pos hright]

theorem readChunk_wrong (hright : s.chunkRight p k (chunkOf k.header) = false) :
    v.readChunk p k = (v.rxAccept p k.pkt (chunkPackets k)).headerMismatch p k.pkt (chunkOf k.header) := by
  unfold State.readChunk
  rw [if_neg (by simp [hres]), hv.books.step, if_neg hnext, hv.books.chunkOld hv.hbm, if_neg (by simp [hold, hnow]),
    hv.books.chunkRight hv.hbm, if_neg (by simp [hright])]

end

/-! ### Right chunks (R262) -/

/-- A chunk that is taken joins the queue of its home engine, from the port's receive buffers. -/
theorem part_chunkTaken (w : State) (p : Nat) (k : Chunk) {c : ChunkHdr} (hc : c.type ≠ 3) : (w.chunkTaken p k c).part p
    = { w.part p with
        tally := joinTally (w.tallyCredit p) (w.joining p k.header k.elems (some k.pkt.esp.frame.k)) (w.part p).tally } := by
  have htaken (l n : Nat) : (w.loopTake l n).part p = w.part p := part_of_view (view_loopTake (by decide) ..) p
  have hhome (l n : Nat) (f : Option (Fin 48)) : (w.loopTake l n).joining p k.header k.elems f = w.joining p k.header k.elems f := by
    unfold State.joining State.homeEngine State.portsOf
    simp only [portOwner_of_view (view_loopTake (by decide) w l n)]
  have hfree (i n : Nat) : (w.loopTake (loopId 4 p i) n).tallyCredit p = w.tallyCredit p := by
    funext j
    unfold State.tallyCredit State.hasCredit
    rw [cloop_loopTake_other w (loopId_ne (by decide))]
  unfold State.chunkTaken
  rw [if_neg hc]
  dsimp only
  rw [part_of_view (view_pfcCheck (by decide) ..), part_toTally, htaken, hhome, hfree]

theorem frame_chunkTaken (w : State) (p : Nat) (k : Chunk) {c : ChunkHdr} (hc : c.type ≠ 3) :
    view .objects (w.chunkTaken p k c) = view .objects w ∧ OnlyParts [p] w (w.chunkTaken p k c) := by
  unfold State.chunkTaken
  rw [if_neg hc]
  dsimp only
  refine ⟨(view_pfcCheck (by decide) ..).trans ((view_toTally (by decide) ..).trans (view_loopTake (by decide) ..)), ?_⟩
  exact ((onlyParts_of_view (view_loopTake (by decide) ..) _).trans (confined_toTally _ p _ _ _).others).trans
    (onlyParts_of_view (view_pfcCheck (by decide) ..) _)

theorem chunkAccepted_of {c : Fin 4 → Chunk → Instr} {type : Nat} (htype : type ≠ 3)
    (hexec : ∀ p k s, exec (c p k) s = .next (s.chunkArrives p type k (c p k))) : ChunkAccepted c type := by
  intro p k s ⟨hin, hjob, hparty, hbuf⟩ hkind hres hold hright
  have hne : (chunkOf k.header).type ≠ 3 := hkind ▸ htype
  have hstep := step_of_chunkRight hright
  obtain ⟨v, hv, hrun⟩ := chunkArrives_next hparty hin hjob (.inl hkind) (.inr hbuf) (c p k)
  obtain ⟨-, hpsn⟩ := hin
  have hw := heard_rxAccept hv hpsn (chunkPackets k)
  have hread := readChunk_right hv hres hstep.ge (by omega) hold hright
  generalize v.rxAccept p k.pkt (chunkPackets k) = w at hw hread
  have hpart := part_chunkTaken w p k hne
  rw [hw.joining, hw.tallyCredit, hw.tally] at hpart
  obtain ⟨hobjs, hothers⟩ := frame_chunkTaken w p k hne
  refine ⟨w.chunkTaken p k (chunkOf k.header), (hexec p k s).trans (congrArg _ (hrun.trans hread)), ?_, fun hnone => ?_, ?_, ?_,
    hw.others.trans hothers⟩
  · rw [hpart]
    exact uncredited_joinTally ..
  · rw [hpart]
    exact last_joinTally rfl hnone
  · rw [hpart]
    exact hw.psn
  · exact (obj_of_view hobjs _).trans (hw.objs _ (by simp only [List.mem_cons, List.not_mem_nil, or_false]; omega))

/-! ### Counts -/

theorem counted_bump {s w : State} {r : Nat} (h : w.obj r = s.obj r) (n : Nat) : Counted s (w.bump r n) r n := by
  unfold Counted
  rw [obj_bump_same, h]

/-- A count that stays afterwards. -/
theorem Counted.of_obj {s t u : State} {r n : Nat} (h : Counted s t r n) (ho : u.obj r = t.obj r) : Counted s u r n := ho.trans h

/-! ### Chunks of other steps, and headers that do not fit (R259) -/

theorem exec_data {p : Fin 4} {k : Chunk} {s t : State} (h : s.chunkArrives p 1 k (.data p k) = t) : exec (.data p k) s = .next t :=
  congrArg Host.Outcome.next h

/-- A NAK takes nothing of its partition but a sequence number of an association, and is counted (10 R226; 11 R252). -/
theorem sendNak_spec (v : State) (p : Nat) (h : PktHdr) (psn : BitVec 24) (cls : BitVec 3) :
    ((v.sendNak p h psn cls).part p).tally = (v.part p).tally ∧ ((v.sendNak p h psn cls).part p).qps = (v.part p).qps
      ∧ Counted v (v.sendNak p h psn cls) (0x522006 + 256 * (pktPort h).val) 1
      ∧ ∀ r, r ∉ droppedObjs → r ≠ 0x522006 + 256 * (pktPort h).val → (v.sendNak p h psn cls).obj r = v.obj r := by
  obtain ⟨w, hw, hnak⟩ := packetsOut_sendNak v p h psn cls
  rw [hnak, part_bump, hw.part]
  refine ⟨rfl, rfl, counted_bump (hw.objs _ ?_) 1, fun r hr hne => (obj_bump_other w hne 1).trans (hw.objs r hr)⟩
  simp only [List.mem_cons, List.not_mem_nil, or_false]
  omega

/-- A count of the exchange takes nothing from a link. -/
theorem sends_bump {v : State} {p qpn r : Nat} (h : v.sends p qpn) (hlayout : 0x90000A ≠ r) (hup : ∀ k, 0x504004 + 256 * k ≠ r) (n : Nat) :
    (v.bump r n).sends p qpn := by
  obtain ⟨hlink, hlinkUp, htakes, hpauses, hwaits⟩ := h
  refine ⟨hlink, ?_, ?_, hpauses, hwaits⟩
  · unfold State.linkUp at hlinkUp ⊢
    rw [obj_bump_other v (hup _) n]
    exact hlinkUp
  · have hloop (q : Nat) : (v.bump r n).queueLoop q = v.queueLoop q :=
      queueLoop_congr (obj_bump_other v hlayout n) (view_bump (by decide) ..) q
    unfold State.queueTakes State.queueRoom at htakes ⊢
    dsimp only at htakes ⊢
    rw [hloop]
    exact htakes

section
variable {p : Fin 4} {k : Chunk} {s : State} (hchunk : s.chunkIn p k)
include hchunk

theorem data_reserved (htype : (chunkOf k.header).type = 0) : ∃ t, exec (.data p k) s = .next t
    ∧ Counted s t (0x504008 + 256 * pktLink k.pkt) 1 ∧ (t.part p).tally = (s.part p).tally ∧ (t.part p).qps = (s.part p).qps
    ∧ OnlyParts [p.val] s t := by
  obtain ⟨hin, hjob, hparty, hbuf⟩ := hchunk
  have hres : chunkReserved (chunkOf k.header) = true := by simp [chunkReserved, htype]
  obtain ⟨v, hv, hrun⟩ := chunkArrives_next hparty hin hjob (type := 1) (.inr hres) (.inr hbuf) (.data p k)
  exact ⟨v.rxDrop (pktLink k.pkt), congrArg _ (hrun.trans (readChunk_reserved hres)), counted_bump (hv.objs _) 1, hv.tally, hv.qps, hv.others⟩

variable (htype : (chunkOf k.header).type = 1) (hres : chunkReserved (chunkOf k.header) = false)
include htype hres

theorem data_stale (hstep : (chunkOf k.header).step < s.stepNo p) : ∃ t, exec (.data p k) s = .next t
    ∧ Counted s t (0x521007 + 256 * p.val) 1 ∧ (t.part p).tally = (s.part p).tally
    ∧ ((t.part p).qp (pktQpn k.pkt)).expPsn = k.pkt.psn + BitVec.ofNat 24 (packetsOf (64 + k.elems.length)) := by
  obtain ⟨hin, hjob, hparty, hbuf⟩ := hchunk
  obtain ⟨v, hv, hrun⟩ := chunkArrives_next hparty hin hjob (.inl htype) (.inr hbuf) (.data p k)
  obtain ⟨-, hpsn⟩ := hin
  have hw := heard_rxAccept hv hpsn (chunkPackets k)
  have hcount : 0x521007 + 256 * p.val ∉ droppedObjs := by simp only [List.mem_cons, List.not_mem_nil, or_false]; omega
  exact ⟨_, exec_data (hrun.trans (readChunk_stale hv hres hstep)), counted_bump (hw.objs _ hcount) 1, hw.tally, hw.psn⟩

theorem data_early (hstep : (chunkOf k.header).step = s.stepNo p + 1) : ∃ t, exec (.data p k) s = .next t
    ∧ (t.part p).tally = (s.part p).tally ∧ (t.part p).qps = (s.part p).qps ∧ Counted s t (0x522006 + 256 * (pktPort k.pkt).val) 1
    ∧ (s.sends p (pktQpn k.pkt) → ∃ w, t.out.head? = some (.nak p w (BitVec.ofNat 24 (pktQpn k.pkt)) k.pkt.psn 4)) := by
  obtain ⟨hin, hjob, hparty, hbuf⟩ := hchunk
  obtain ⟨v, hv, hrun⟩ := chunkArrives_next hparty hin hjob (.inl htype) (.inr hbuf) (.data p k)
  obtain ⟨htally, hqps, hcount, -⟩ := sendNak_spec v p k.pkt k.pkt.psn 4
  refine ⟨_, exec_data (hrun.trans (readChunk_early hv hres hstep)), htally.trans hv.tally, hqps.trans hv.qps, ?_, fun hs => ?_⟩
  · unfold Counted at hcount ⊢
    rw [hcount, hv.objs]
  · exact sendNak_leaves (hv.sends hs (chunkQueue_ne _ k)) _ _

theorem data_mismatch (hnow : s.stepNo p ≤ (chunkOf k.header).step) (hnext : (chunkOf k.header).step ≠ s.stepNo p + 1)
    (hold : s.chunkOld p (chunkOf k.header) = false) (hright : s.chunkRight p k (chunkOf k.header) = false) :
    ∃ t, exec (.data p k) s = .next t ∧ Counted s t (0x521008 + 256 * p.val) 1 ∧ (t.part p).tally = (s.part p).tally
      ∧ (s.exState p = 1 → (t.part p).aborted = true) := by
  obtain ⟨hin, hjob, hparty, hbuf⟩ := hchunk
  obtain ⟨v, hv, hrun⟩ := chunkArrives_next hparty hin hjob (.inl htype) (.inr hbuf) (.data p k)
  obtain ⟨-, hpsn⟩ := hin
  have hw := heard_rxAccept hv hpsn (chunkPackets k)
  have hread := readChunk_wrong hv hres hnow hnext hold hright
  generalize v.rxAccept p k.pkt (chunkPackets k) = w at hw hread
  have hdropped (j : Nat) (hj : j < 256) : 0x521000 + j + 256 * p.val ∉ droppedObjs := by
    simp only [List.mem_cons, List.not_mem_nil, or_false]; omega
  have hraised (j : Nat) (hj : j < 256) : 0x521000 + j + 256 * p.val ∉ raisedObjs := by
    simp only [List.mem_cons, List.not_mem_nil, or_false]; omega
  have hcharged : 0x521008 + 256 * p.val ∉ chargedObjs p := by simp only [List.mem_cons, List.not_mem_nil, or_false]; omega
  have hrecord (d : Nat) : Charged p.val (w.bump (0x521008 + 256 * p.val) 1)
      ((w.bump (0x521008 + 256 * p.val) 1).raisePart 0x0505 2 ucTally (pktPort k.pkt).val p 0 d) := charged_raisePart _ _ (by decide) ..
  have hmismatch : Charged p.val (w.bump (0x521008 + 256 * p.val) 1) (w.headerMismatch p k.pkt (chunkOf k.header)) :=
    (hrecord _).trans (charged_chargeFault _ p 6)
  refine ⟨_, exec_data (hrun.trans hread), ?_, hmismatch.tally.trans hw.tally, fun hex => ?_⟩
  · exact (counted_bump (hw.objs _ (hdropped 8 (by decide))) 1).of_obj
      (hmismatch.objs _ (hraised 8 (by decide)) (hdropped 8 (by decide)) hcharged)
  · refine aborted_chargeFault p ?_ 6
    have hrecorded (t : State) (a b c d e : Nat) : (t.raisePart a 2 b c p d e).exState p = t.exState p :=
      obj_raisePart t (hraised 3 (by decide)) (by decide) ..
    have hcounted : (w.bump (0x521008 + 256 * p.val) 1).exState p = w.exState p := obj_bump_other w (by omega) 1
    rw [hrecorded, hcounted]
    exact (hw.objs _ (hdropped 3 (by decide))).trans hex

end

theorem data_halted {p : Fin 4} {k : Chunk} {s : State} (hin : s.receives p k.pkt (packetsOf (64 + k.elems.length))) (hjob : s.jobState p = 7)
    (hparty : pktParty k.pkt < (s.part p).ranks) (htype : (chunkOf k.header).type = 1) : ∃ t, exec (.data p k) s = .next t
    ∧ Counted s t (0x521007 + 256 * p.val) 1 ∧ Counted s t (0x522006 + 256 * (pktPort k.pkt).val) 1
    ∧ (t.part p).tally = (s.part p).tally ∧ (t.part p).qps = (s.part p).qps
    ∧ (s.sends p (pktQpn k.pkt) → ∃ w, t.out.head? = some (.nak p w (BitVec.ofNat 24 (pktQpn k.pkt)) k.pkt.psn 3)) := by
  obtain ⟨v, hv, hrun⟩ := chunkArrives_halted hparty hin hjob htype (.data p k)
  obtain ⟨htally, hqps, hcount, hobjs⟩ := sendNak_spec (v.bump (0x521007 + 256 * p.val) 1) p k.pkt k.pkt.psn 3
  have hstale : 0x521007 + 256 * p.val ∉ droppedObjs := by simp only [List.mem_cons, List.not_mem_nil, or_false]; omega
  refine ⟨_, exec_data hrun, (counted_bump (hv.objs _) 1).of_obj (hobjs _ hstale (by omega)), ?_, htally.trans hv.tally, hqps.trans hv.qps,
    fun hs => ?_⟩
  · unfold Counted at hcount ⊢
    rw [hcount, obj_bump_other v (by omega), hv.objs]
  · exact sendNak_leaves (sends_bump (hv.sends hs (chunkQueue_ne _ k)) (by omega) (by omega) 1) _ _

theorem data_lost {p : Fin 4} {k : Chunk} {s : State} (hjob : s.jobState p ≠ 7) (htype : (chunkOf k.header).type = 1)
    (hadmits : s.admits p k.pkt.esp.frame) (hbuf : s.buffersFree p (pktPort k.pkt).val (packetsOf (64 + k.elems.length)) = false) :
    ∃ t, exec (.data p k) s = .next t ∧ (t.part p).tally = (s.part p).tally ∧ (t.part p).qps = (s.part p).qps ∧ t.out = s.out
      ∧ OnlyParts [p.val] s t := by
  obtain ⟨u, hu, -, hout, hrun⟩ := chunkArrives_admitted hadmits 1 (.data p k)
  have hlost : u.rxChunk p 1 k = u := by
    unfold State.rxChunk
    dsimp only
    rw [if_pos]
    refine .inr (.inr ⟨by omega, fun h => hjob ((hu.objs _).symm.trans h), ?_⟩)
    rw [hu.buffersFree, hbuf]
    rfl
  exact ⟨u, exec_data (hrun.trans hlost), hu.tally, hu.qps, hout, hu.others⟩

end Sys2Proof.Machine
end

section
/-! SUPPORT. Rows of the ephemeris, ledger entries and window elements as numbers in memory (06 R138; 11 R255 to R257): each is read as it was
written. -/

namespace Sys2Proof.Machine

open Sys2Proof

/-! ### Rows of the ephemeris (R138) -/

theorem exists_mul_of_ite (b : Bool) (m n : Nat) : ∃ k, (if b = true then m * n else 0) = m * k := by
  cases b
  · exact ⟨0, rfl⟩
  · exact ⟨n, rfl⟩

theorem jobMax_ephRowBits (r : EphRow) : (ephRowOf (ephRowBits r % 256 ^ 32)).jobMax = r.jobMax := by
  obtain ⟨a, ha⟩ := exists_mul_of_ite r.carried (2 ^ 64) (2 ^ 168)
  obtain ⟨b, hb⟩ := exists_mul_of_ite r.clamped (2 ^ 64) (2 ^ 169)
  obtain ⟨c, hc⟩ := exists_mul_of_ite r.watched (2 ^ 64) (2 ^ 170)
  have hlow := r.localMax.isLt
  have hmax := r.jobMax.isLt
  refine BitVec.eq_of_toNat_eq ?_
  unfold ephRowOf ephRowBits
  dsimp only
  rw [show (2 : Nat) ^ 232 = 2 ^ 64 * 2 ^ 168 by norm_num, show (2 : Nat) ^ 233 = 2 ^ 64 * 2 ^ 169 by norm_num,
    show (2 : Nat) ^ 234 = 2 ^ 64 * 2 ^ 170 by norm_num, ha, hb, hc, BitVec.toNat_ofNat]
  omega

/-! ### Ledger entries (R257) -/

/-- Each field fits its place. -/
structure Ledger.Fits (l : Ledger) : Prop where
  step : l.step < 2 ^ 48
  attempt : l.attempt < 2 ^ 8
  x : l.x < 2 ^ 8
  count : l.count < 2 ^ 16
  tokens : l.tokens < 2 ^ 64
  nonfin : l.nonfin < 2 ^ 40
  max : l.max < 2 ^ 32

theorem field_lt (x hi lo : Nat) : field x hi lo < 2 ^ (hi + 1 - lo) := Nat.mod_lt _ (by positivity)

theorem fits_ledgerOf (b : Nat) : (ledgerOf b).Fits :=
  ⟨field_lt .., field_lt .., field_lt .., field_lt .., field_lt .., field_lt .., field_lt ..⟩

theorem ledgerOf_ledgerBits {l : Ledger} (h : l.Fits) : ledgerOf (ledgerBits l % 256 ^ 32) = l := by
  obtain ⟨hstep, hattempt, hx, hcount, htokens, hnonfin, hmax⟩ := h
  obtain ⟨step, attempt, x, count, valid, tokens, nonfin, max⟩ := l
  dsimp only at *
  unfold ledgerOf ledgerBits field
  dsimp only
  rw [Nat.testBit_eq_decide_div_mod_eq]
  cases valid <;>
  · simp only [Ledger.mk.injEq, if_true, decide_eq_true_eq, decide_eq_false_iff_not, Bool.false_eq_true, if_false]
    omega

/-- The sums of a chunk that leaves the count within its field. -/
theorem fits_ledgerAdd {l : Ledger} (h : l.Fits) (w : Word512) (first : Bool) (hcount : (ledgerAdd l (chunkOf w) first).count < 2 ^ 16) :
    (ledgerAdd l (chunkOf w) first).Fits := by
  obtain ⟨hstep, hattempt, hx, -, htokens, hnonfin, hmax⟩ := h
  have hchunk : (chunkOf w).max < 2 ^ 32 := field_lt ..
  cases first with
  | true => exact ⟨field_lt .., field_lt .., field_lt .., hcount, field_lt .., field_lt .., hchunk⟩
  | false => exact ⟨hstep, hattempt, hx, hcount, Nat.mod_lt _ (by decide), Nat.mod_lt _ (by decide), Nat.max_lt.2 ⟨hmax, hchunk⟩⟩

/-! ### The first element of a chunk (R255, R256) -/

/-- The run of the first element of chunk `c` alone. -/
def firstRun (w : WindowEnt) (c : Nat) : WinRun :=
  { region := (winPlace w (c * 960)).1, byte := (winPlace w (c * 960)).2.1, bit := 0, first := c * 960, count := 1 }

section
variable {w : WindowEnt} (h : w.etype = 0) (c : Nat)
include h

theorem winWidth_t32 : winWidth w = 32 := if_pos h

theorem winChunkElems_t32 : winChunkElems w = 960 := if_pos h

/-- It stands at the start of a granule. -/
theorem winPlace_chunk : ∃ g, winPlace w (c * 960) = (w.region.toNat, 256 * g, 0) := by
  have hdvd : c * 960 % blockParams (if w.layout then 1 else 0) = 0 := by
    cases w.layout
    · show c * 960 % 48 = 0
      omega
    · show c * 960 % 80 = 0
      omega
  refine ⟨c * 960 / blockParams (if w.layout then 1 else 0), ?_⟩
  unfold winPlace
  dsimp only
  rw [hdvd, if_pos h, if_pos (by decide), Nat.mul_zero, Nat.add_zero, Nat.mul_comm 256]

/-- It is a run of its own. -/
theorem winRunsOf_chunk : winRunsOf w (c * 960) 1 = [firstRun w c] := by
  obtain ⟨g, hg⟩ := winPlace_chunk h c
  have hroom : winRun w (c * 960) 1 = firstRun w c := by
    unfold winRun firstRun
    rw [hg]
    cases w.layout
    · have hj : c * 960 % 48 = 0 := by omega
      simp [blockParams, h, hj]
    · have hj : c * 960 % 80 = 0 := by omega
      simp [blockParams, h, hj]
  unfold winRunsOf winRuns
  rw [hroom]
  rfl

theorem winElem_chunk (s : State) (p : Nat) : s.winElem p w (c * 960)
    = s.readNat p (winPlace w (c * 960)).1 (winPlace w (c * 960)).2.1 4 % 2 ^ 32 := by
  obtain ⟨g, hg⟩ := winPlace_chunk h c
  unfold State.winElem
  rw [hg, winWidth_t32 h]
  simp [ceilDiv]

end

/-- The one field of a word that is replaced. -/
theorem replaceFields_word (x : Nat) (v : Nat → Nat) : replaceFields x 0 32 1 v % 256 ^ 4 = v 0 % 2 ^ 32 := by
  unfold replaceFields
  simp only [List.range_one, List.foldr_cons, List.foldr_nil]
  omega

/-! ### Writing within one word -/

/-- What a write within one word leaves there. -/
theorem readRegion_writeRegion (s : State) (who : Requester) (p i off : Nat) {b : Bytes} (hn : 0 < b.length)
    (hfit : off % 64 + b.length ≤ 64) (poison : Bool) : (s.writeRegion who p i off b poison).readRegion p i off b.length = b := by
  have hword : (s.writeRegion who p i off b poison).regionWord p i off = s.regionWord p i off :=
    regionWord_congr (obj_writeRegion s (by decide) ..) (view_writeRegion (by decide) ..) p i off
  have hbytes : ∃ m, (s.writeRegion who p i off b poison).hbm
      = putBytes m (hbmKey (s.regionWord p i off).1 (64 * (s.regionWord p i off).2 + off % 64)) b := by
    unfold State.writeRegion State.writeTagged State.writeBy State.writeWord
    rw [piecesOf_fit hn hfit]
    dsimp only [List.foldl]
    rw [hbm_storeWord, Nat.sub_self, List.drop_zero, List.take_length]
    exact ⟨_, rfl⟩
  obtain ⟨m, hm⟩ := hbytes
  rw [readRegion_piece _ p i (c := (off, b.length)) hn hfit]
  unfold State.piece
  dsimp only
  rw [hword, hm, getBytes_putBytes]

end Sys2Proof.Machine
end

section
/-! SUPPORT. A DONE that arrives (11 R264): it raises JOB_MAX of its slot and is noted once. -/

namespace Sys2Proof.Machine

open Sys2Proof

/-- JOB_MAX of a JOB slot after a maximum has entered it (06 R142). -/
theorem jobMax_recordJobMax (s : State) (p : Nat) {t max : Nat} (hjob : (s.part p).slotJob t = true) (hmax : max < 2 ^ 32) :
    ((s.recordJobMax p t max).ephRow p (s.stepNo p) t).jobMax.toNat = Nat.max (s.ephRow p (s.stepNo p) t).jobMax.toNat max := by
  unfold State.recordJobMax
  rw [if_pos hjob]
  dsimp only
  split
  next hlt =>
    have hpart (r : EphRow) : (s.setEphRow p (s.stepNo p) t r).part p = s.part p := part_of_view (view_setEphRow (by decide) ..) p
    have hread (r : EphRow) : (s.setEphRow p (s.stepNo p) t r).readRegion p ((s.part p).theRegion 5) ((s.part p).rowAt (s.stepNo p) t) 32
        = leBytes 32 (ephRowBits r) := by
      have hlen : (leBytes 32 (ephRowBits r)).length = 32 := length_leBytes ..
      have hwrite := readRegion_writeRegion s .hub p ((s.part p).theRegion 5) ((s.part p).rowAt (s.stepNo p) t) (b := leBytes 32 (ephRowBits r))
        (by omega) (by unfold Part.rowAt; omega) false
      rwa [hlen] at hwrite
    rw [State.ephRow, hpart, State.readNat, hread, leNat_leBytes, jobMax_ephRowBits, BitVec.toNat_ofNat, Nat.mod_eq_of_lt hmax]
    exact (Nat.max_eq_right (Nat.le_of_lt hlt)).symm
  next hge => exact (Nat.max_eq_left (Nat.not_lt.1 hge)).symm

/-- Windows of results that become complete are marked, and that is all. -/
theorem part_checkResults (s : State) (p : Nat) : ∃ l, (s.checkResults p).part p = { s.part p with windowsDone := l } := by
  unfold State.checkResults
  generalize List.filter _ _ = ws
  induction ws generalizing s with
  | nil => exact ⟨_, rfl⟩
  | cons w ws ih =>
    obtain ⟨l, hl⟩ := ih (s.markDone p w)
    refine ⟨l, hl.trans ?_⟩
    unfold State.markDone
    rw [part_modPart_same]

theorem done_taken {p : Fin 4} {k : Chunk} {s : State} (hin : s.inOrder p k.pkt (packetsOf (64 + k.elems.length))) (hjob : s.jobState p ≠ 7)
    (hparty : pktParty k.pkt < (s.part p).ranks) (htype : (chunkOf k.header).type = 3) (hres : chunkReserved (chunkOf k.header) = false)
    (hold : s.chunkOld p (chunkOf k.header) = false) (hright : s.chunkRight p k (chunkOf k.header) = true)
    (hnew : (s.part p).donesIn.any (fun d => d.1 == doneKey (chunkOf k.header).sender (chunkOf k.header).window) = false) : ∃ t,
      exec (.done p k) s = .next t
    ∧ (t.part p).donesIn = (s.part p).donesIn ++ [(doneKey (chunkOf k.header).sender (chunkOf k.header).window,
        if (chunkOf k.header).skip then 1 else 0)]
    ∧ ((s.part p).slotJob (chunkOf k.header).slot = true → (t.ephRow p (s.stepNo p) (chunkOf k.header).slot).jobMax.toNat
        = Nat.max (s.ephRow p (s.stepNo p) (chunkOf k.header).slot).jobMax.toNat (chunkOf k.header).max)
    ∧ (t.part p).tally = (s.part p).tally ∧ OnlyParts [p.val] s t := by
  have hstep := step_of_chunkRight hright
  have hmax : (chunkOf k.header).max < 2 ^ 32 := field_lt ..
  obtain ⟨v, hv, hrun⟩ := chunkArrives_next hparty hin hjob (.inl htype) (.inl htype) (.done p k)
  obtain ⟨-, hpsn⟩ := hin
  have hw := heard_rxAccept hv hpsn (chunkPackets k)
  have hread := readChunk_right hv hres hstep.ge (by omega) hold hright
  generalize v.rxAccept p k.pkt (chunkPackets k) = w at hw hread
  generalize chunkOf k.header = c at htype hnew hread hmax
  have hdone : w.chunkTaken p k c = ((w.recordJobMax p c.slot c.max).noteDone p c.sender c.window c.skip).checkResults p := if_pos htype
  have hrecorded : (w.recordJobMax p c.slot c.max).part p = w.part p := part_of_view (view_recordJobMax (by decide) ..) p
  have hjobMax := jobMax_recordJobMax w p (t := c.slot) (max := c.max)
  have hothers : OnlyParts [p.val] w (w.recordJobMax p c.slot c.max) := (confined_recordJobMax w p _ _).others
  generalize w.recordJobMax p c.slot c.max = r at hdone hrecorded hjobMax hothers
  have hnoted : (r.noteDone p c.sender c.window c.skip).part p = { r.part p with
      donesIn := (s.part p).donesIn ++ [(doneKey c.sender c.window, if c.skip then 1 else 0)] } := by
    have hsame : (r.part p).donesIn = (s.part p).donesIn := by rw [hrecorded, hw.part]
    unfold State.noteDone
    rw [part_modPart_same, hsame, hnew]
    rfl
  obtain ⟨l, hl⟩ := part_checkResults (r.noteDone p c.sender c.window c.skip) p
  rw [hnoted] at hl
  have hkept {ar : Area} (har : ar ∉ [Area.parts]) : view ar ((r.noteDone p c.sender c.window c.skip).checkResults p) = view ar r :=
    (view_checkResults har ..).trans (view_noteDone har ..)
  have hbooks : SameBooks p r ((r.noteDone p c.sender c.window c.skip).checkResults p) :=
    ⟨by rw [hl]; exact ⟨rfl, rfl, rfl, rfl, rfl⟩, obj_of_view (hkept (by decide)) _, obj_of_view (hkept (by decide)) _,
      obj_of_view (hkept (by decide)) _⟩
  have hwbooks := hw.books p.isLt
  refine ⟨_, congrArg Host.Outcome.next (hrun.trans (hread.trans hdone)), by rw [hl], fun hslot => ?_, ?_, ?_⟩
  · rw [hbooks.ephRow (hkept (ar := .hbm) (by decide)), ← hwbooks.ephRow hw.hbm, ← hwbooks.step]
    exact hjobMax ((hwbooks.job.slotJob _).trans hslot) hmax
  · rw [hl]
    exact (congrArg Part.tally hrecorded).trans hw.tally
  · exact (hw.others.trans hothers).trans ((confined_noteDone r p _ _ _).others.trans (confined_checkResults _ p).others)

end Sys2Proof.Machine
end

section
/-! SUPPORT. A tally engine takes a chunk (05 R133; 08 R189; 11 R259, R262): its credit goes to the oldest chunk that waits, stale chunks and those
of a HALTED job are not added, and disagreeing adders are counted (16 R386): the clauses of O57 about additions. -/

namespace Sys2Proof.Machine

open Sys2Proof

/-- A chunk leaves the queue of its engine, with its credit and its receive buffers. -/
def State.chunkLeaves (s : State) (p : Nat) (i : TallyItem) : State := (s.modPart p (fun x => { x with tally := x.tally.erase i })).tallyFreed p i

section
variable {s : State} {p : Fin 4}

theorem exec_tallyAdd_none (b : Bool) (h : (s.part p).tally.find? (·.credited) = none) : exec (.tallyAdd p b) s = .next s := by
  show execTallyAdd p b s = .next s
  unfold execTallyAdd
  rw [h]

variable {i : TallyItem} (hfirst : (s.part p).tally.find? (·.credited) = some i) (hruns : s.hubStopped p = false)
include hfirst hruns

theorem exec_tallyAdd_agree : exec (.tallyAdd p true) s = .next ((s.chunkLeaves p i).tallyTake p i) := by
  show execTallyAdd p true s = _
  unfold execTallyAdd
  rw [hfirst]
  dsimp only
  rw [hruns]
  rfl

theorem exec_tallyAdd_disagree : ∃ n, exec (.tallyAdd p false) s = .next
    (((((s.chunkLeaves p i).bump 0x702005 1).raisePart 0x0203 2 ucTally i.engine p 0 n).tallyTake p i).chargeFault p 1) := by
  refine ⟨(s.chunkLeaves p i).laneDetail, ?_⟩
  show execTallyAdd p false s = _
  unfold execTallyAdd
  rw [hfirst]
  dsimp only
  rw [hruns]
  rfl

end

/-! ### What a chunk leaves behind -/

section
variable (s : State) (p : Nat) (i : TallyItem)

theorem part_tallyFreed : (s.tallyFreed p i).part p = { s.part p with
    tally := grantTally ((s.loopFree (loopId 3 p i.engine) 1).tallyCredit p i.engine) i.engine (s.part p).tally } := by
  have hfree (t : State) (l n : Nat) : (t.loopFree l n).part p = t.part p := part_of_view (view_loopFree (by decide) ..) p
  have hgrant := part_tallyGrant (s.loopFree (loopId 3 p i.engine) 1) p i.engine
  rw [hfree] at hgrant
  unfold State.tallyFreed
  dsimp only
  split
  · rw [part_of_view (view_pfcCheck (by decide) ..), hfree, hgrant]
    rfl
  · exact hgrant

theorem tallyCredit_loopFree_modPart (f : Part → Part) (l n k : Nat) :
    ((s.modPart p f).loopFree l n).tallyCredit p k = (s.loopFree l n).tallyCredit p k := by
  have hloop (j : Nat) : ((s.modPart p f).loopFree l n).cloop j = (s.loopFree l n).cloop j := by
    unfold State.loopFree
    rw [cloop_modPart]
    dsimp only
    split
    · rfl
    · rfl
  unfold State.tallyCredit State.hasCredit
  rw [hloop]

theorem part_chunkLeaves : (s.chunkLeaves p i).part p = { s.part p with
    tally := grantTally ((s.loopFree (loopId 3 p i.engine) 1).tallyCredit p i.engine) i.engine ((s.part p).tally.erase i) } := by
  unfold State.chunkLeaves
  rw [part_tallyFreed, part_modPart_same, tallyCredit_loopFree_modPart]

theorem view_chunkLeaves {ar : Area} (har : ar ∉ [Area.sent, .links, .parts, .loops]) : view ar (s.chunkLeaves p i) = view ar s :=
  (view_tallyFreed har ..).trans (view_modPart (by simp only [List.mem_cons] at har ⊢; tauto) ..)

theorem books_chunkLeaves : SameBooks p s (s.chunkLeaves p i) where
  job := by rw [part_chunkLeaves]; exact ⟨rfl, rfl, rfl, rfl, rfl⟩
  layout := obj_of_view (view_chunkLeaves s p i (by decide)) _
  step := obj_of_view (view_chunkLeaves s p i (by decide)) _
  attempt := obj_of_view (view_chunkLeaves s p i (by decide)) _

theorem confined_chunkLeaves : Confined p s (s.chunkLeaves p i) := (confined_modPart s _).trans (confined_tallyFreed _ p i)

theorem uncredited_chunkLeaves : ((s.chunkLeaves p i).part p).tally.map TallyItem.uncredited
    = ((s.part p).tally.erase i).map TallyItem.uncredited := by
  rw [part_chunkLeaves]
  exact uncredited_grantTally ..

/-- The credit that it frees goes to the oldest chunk that waits (05 R133). -/
theorem tally_chunkLeaves {n : Nat} (hn : ((s.part p).tally.erase i).findIdx? (TallyItem.asks i.engine) = some n)
    (hflight : 0 < (s.cloop (loopId 3 p i.engine)).inFlight.toNat) (hreturned : (s.cloop (loopId 3 p i.engine)).returned = 0) :
    ((s.chunkLeaves p i).part p).tally = ((s.part p).tally.erase i).modify n (fun j => { j with credited := true }) := by
  have hcredit : (s.loopFree (loopId 3 p i.engine) 1).tallyCredit p i.engine = true := by
    unfold State.tallyCredit State.hasCredit State.loopFree
    dsimp only
    rw [if_pos (Nat.succ_le_of_lt hflight), cloop_setCloop_same, hreturned]
    simp
  rw [part_chunkLeaves, hcredit]
  exact grantTally_of_findIdx? hn

end

/-! ### Chunks that are not added (R259) -/

section
variable {s : State} {p : Fin 4} {i : TallyItem}

theorem tallyTake_halted (h : s.jobState p = 7) : s.tallyTake p i = s := if_pos h

theorem tallyTake_stale (hjob : s.jobState p ≠ 7) (hstep : (chunkOf i.header).step < s.stepNo p) :
    s.tallyTake p i = s.bump (0x521007 + 256 * p.val) 1 := by
  unfold State.tallyTake
  dsimp only
  rw [if_neg hjob, if_pos (.inl hstep)]

variable (hfirst : (s.part p).tally.find? (·.credited) = some i) (hruns : s.hubStopped p = false)
include hfirst hruns

theorem tallyAdd_halted (hjob : s.jobState p = 7) : ∃ t, exec (.tallyAdd p true) s = .next t ∧ t.hbm = s.hbm
    ∧ (t.part p).tally.map (fun j => { j with credited := false })
        = ((s.part p).tally.erase i).map (fun j => { j with credited := false })
    ∧ (∀ n, ((s.part p).tally.erase i).findIdx? (TallyItem.asks i.engine) = some n →
        0 < (s.cloop (loopId 3 p i.engine)).inFlight.toNat → (s.cloop (loopId 3 p i.engine)).returned = 0 →
        (t.part p).tally = ((s.part p).tally.erase i).modify n (fun j => { j with credited := true })) := by
  have hleft : (s.chunkLeaves p i).jobState p = 7 := (obj_of_view (view_chunkLeaves s p i (by decide)) _).trans hjob
  have hexec := exec_tallyAdd_agree hfirst hruns
  rw [tallyTake_halted hleft] at hexec
  exact ⟨_, hexec, view_chunkLeaves (ar := .hbm) s p i (by decide), uncredited_chunkLeaves s p i, fun n hn => tally_chunkLeaves s p i hn⟩

theorem tallyAdd_stale (hjob : s.jobState p ≠ 7) (hstep : (chunkOf i.header).step < s.stepNo p) : ∃ t, exec (.tallyAdd p true) s = .next t
    ∧ t.hbm = s.hbm ∧ Counted s t (0x521007 + 256 * p.val) 1
    ∧ (t.part p).tally.map (fun j => { j with credited := false })
        = ((s.part p).tally.erase i).map (fun j => { j with credited := false }) := by
  have hobj (r : Nat) : (s.chunkLeaves p i).obj r = s.obj r := obj_of_view (view_chunkLeaves s p i (by decide)) r
  have hleft : (s.chunkLeaves p i).jobState p ≠ 7 := fun h => hjob ((hobj _).symm.trans h)
  have hold : (chunkOf i.header).step < (s.chunkLeaves p i).stepNo p := by rw [(books_chunkLeaves s p i).step]; exact hstep
  have hexec := exec_tallyAdd_agree hfirst hruns
  rw [tallyTake_stale hleft hold] at hexec
  exact ⟨_, hexec, view_chunkLeaves (ar := .hbm) s p i (by decide), counted_bump (hobj _) 1, uncredited_chunkLeaves s p i⟩

theorem tallyAdd_disagree : ∃ t, exec (.tallyAdd p false) s = .next t ∧ Counted s t 0x702005 1 ∧ OnlyParts [p.val] s t := by
  obtain ⟨d, hexec⟩ := exec_tallyAdd_disagree hfirst hruns
  have hleft := confined_chunkLeaves s p i
  have hrest : Confined p.val ((s.chunkLeaves p i).bump 0x702005 1)
      (((((s.chunkLeaves p i).bump 0x702005 1).raisePart 0x0203 2 ucTally i.engine p 0 d).tallyTake p i).chargeFault p 1) :=
    ((charged_raisePart _ _ (by decide) ..).confined p.isLt).trans
      ((confined_tallyTake _ p.isLt i).trans ((charged_chargeFault _ p 1).confined p.isLt))
  exact ⟨_, hexec, (counted_bump hleft.adders 1).of_obj hrest.adders, hleft.others.trans hrest.others⟩

end

end Sys2Proof.Machine
end

section
/-! SUPPORT. A tally engine adds a chunk of one element (09 R211; 11 R257, R262) while nothing waits at the controllers: the element's word, then the
ledger entry's. -/

namespace Sys2Proof.Machine

open Sys2Proof

/-! ### Writes within one word -/

section
variable {s t : State} (h : Calm s t)
include h

theorem Calm.writeTagged (who : Requester) (p i off : Nat) (b : Bytes) (bad : Nat → Nat → Bool) : Calm s (t.writeTagged who p i off b bad) :=
  h.foldl fun c _ u hu => hu.writeWord who (regionWord_lt u p i c.1) _ _ _ _

theorem hbm_writeTagged_piece (who : Requester) (p i : Nat) {off : Nat} {b : Bytes} (hn : 0 < b.length) (hfit : off % 64 + b.length ≤ 64)
    (bad : Nat → Nat → Bool) : (t.writeTagged who p i off b bad).hbm
      = putBytes t.hbm (hbmKey (s.regionWord p i off).1 (64 * (s.regionWord p i off).2 + off % 64)) b := by
  unfold State.writeTagged State.writeBy
  rw [piecesOf_fit hn hfit]
  dsimp only [List.foldl]
  rw [hbm_writeWord h, regionWord_congr h.layout h.parts, Nat.sub_self, List.drop_zero, List.take_length]

theorem Calm.countWin (who : Requester) (p : Nat) (w : WindowEnt) (n k : Nat) : Calm s (t.countWin who p w n k) :=
  h.foldl fun _ _ _ hu => hu.countRead who p _ _ _

theorem hbm_countWin (who : Requester) (p : Nat) (w : WindowEnt) (n k : Nat) : (t.countWin who p w n k).hbm = t.hbm := by
  unfold State.countWin
  generalize winRunsOf w n k = l
  induction l generalizing t with
  | nil => rfl
  | cons r l ih => exact (ih (h.countRead who p _ _ _)).trans (hbm_countRead h who p _ _ _)

/-- A number that lies within one word. -/
theorem Calm.readNat (p i : Nat) {off n : Nat} (hn : 0 < n) (hfit : off % 64 + n ≤ 64) : t.readNat p i off n
    = leNat (getBytes t.hbm (hbmKey (s.regionWord p i off).1 (64 * (s.regionWord p i off).2 + off % 64)) n) := by
  unfold State.readNat
  rw [readRegion_piece t p i (c := (off, n)) hn hfit]
  unfold State.piece
  dsimp only
  rw [regionWord_congr h.layout h.parts]

end

/-! ### Where a chunk's element and its ledger entry stand -/

/-- Address of the first element of chunk `c`. -/
def State.elemKey (s : State) (p : Nat) (w : WindowEnt) (c : Nat) : Nat :=
  let a := winPlace w (c * 960)
  hbmKey (s.regionWord p a.1 a.2.1).1 (64 * (s.regionWord p a.1 a.2.1).2 + a.2.1 % 64)

/-- Address of ledger entry `c`. -/
def State.ledgerKey (s : State) (p : Nat) (w : WindowEnt) (c : Nat) : Nat :=
  hbmKey (s.regionWord p w.ledger.toNat (32 * c)).1 (64 * (s.regionWord p w.ledger.toNat (32 * c)).2 + 32 * c % 64)

section
variable {s t : State} (h : Calm s t) (p : Nat) (w : WindowEnt) (c : Nat)
include h

theorem Calm.ledger : t.ledger p w c = ledgerOf (leNat (getBytes t.hbm (s.ledgerKey p w c) 32)) := by
  unfold State.ledger
  rw [h.readNat p _ (by decide) (by omega)]
  rfl

theorem hbm_setLedger (l : Ledger) : (t.setLedger p w c l).hbm = putBytes t.hbm (s.ledgerKey p w c) (leBytes 32 (ledgerBits l)) :=
  hbm_writeRegion_piece h .hub p _ (by rw [length_leBytes]; decide) (by rw [length_leBytes]; omega) false

variable {w} (het : w.etype = 0)
include het

theorem Calm.winElem : t.winElem p w (c * 960) = leNat (getBytes t.hbm (s.elemKey p w c) 4) % 2 ^ 32 := by
  obtain ⟨g, hg⟩ := winPlace_chunk het c
  have hfit : (winPlace w (c * 960)).2.1 % 64 + 4 ≤ 64 := by rw [hg]; dsimp only; omega
  rw [winElem_chunk het, h.readNat p _ (by decide) hfit]
  rfl

/-- What the addition of one element writes: its value, or its sum with what was there. -/
theorem hbm_addElems {hd : ChunkHdr} (helems : hd.elems = 1) (elems : Bytes) (first : Bool) : ∃ x,
    (t.addElems p w hd elems first).hbm = putBytes t.hbm (s.elemKey p w hd.chunk) (leBytes 4 x)
      ∧ x % 256 ^ 4 = if first then chunkElem hd.etype elems 0 % 2 ^ 32
          else (t.winElem p w (hd.chunk * 960) + chunkElem hd.etype elems 0) % 2 ^ 32 := by
  obtain ⟨g, hg⟩ := winPlace_chunk het hd.chunk
  have hlen (x : Nat) : (leBytes 4 x).length = 4 := length_leBytes 4 x
  have hread : Calm s (if first then t else t.countWin .hub p w (hd.chunk * 960) 1) := h.ite (h.countWin ..) _
  have hbytes : (if first then t else t.countWin .hub p w (hd.chunk * 960) 1).hbm = t.hbm := by
    split
    · rfl
    · exact hbm_countWin h ..
  unfold State.addElems State.setWin
  dsimp only
  rw [helems, winChunkElems_t32 het, winRunsOf_chunk het]
  generalize (if first then t else t.countWin .hub p w (hd.chunk * 960) 1) = u at hread hbytes
  have hfit (x : Nat) : (firstRun w hd.chunk).byte % 64 + (leBytes 4 x).length ≤ 64 := by
    unfold firstRun
    rw [hlen, hg]
    dsimp only
    omega
  have hwidth : (firstRun w hd.chunk).bytes (winWidth w) = 4 := by simp [winWidth_t32 het, firstRun, WinRun.bytes, ceilDiv]
  dsimp only [List.foldl]
  rw [hwidth, winWidth_t32 het, hbm_writeTagged_piece hread .hub p _ (by rw [hlen]; decide) (hfit _), hbytes]
  refine ⟨_, rfl, (replaceFields_word _ _).trans ?_⟩
  unfold firstRun elemAdd
  simp only [Nat.add_zero, Nat.sub_self, het, true_or, if_true]
  split
  · rfl
  · rw [Nat.mod_mod]

end

/-! ### The sums of a chunk -/

/-- What the addition of a chunk writes and counts. -/
def State.chunkSums (s : State) (p k : Nat) (w : WindowEnt) (h : ChunkHdr) (elems : Bytes) (first : Bool) (l : Ledger) : State :=
  ((((s.countLedger p w h.chunk).addElems p w h elems first).setLedger p w h.chunk l).bump (0x522001 + 256 * k) 1).bump
    (0x522002 + 256 * k) h.elems

/-- A clean chunk that leaves its entry's COUNT below N is added, and nothing follows it. -/
theorem addChunk_partial {s : State} {p k : Nat} {w : WindowEnt} {h : ChunkHdr} {l : Ledger} (hl : l = s.ledger p w h.chunk) {first : Bool}
    (hfirst : first = !(l.valid && decide (l.step = h.step) && decide (l.attempt = h.attempt)))
    (hledger : s.ledgerPoison p w h.chunk = 0) (hwin : s.winPoison p w (h.chunk * winChunkElems w) h.elems = 0)
    (hcount : (ledgerAdd l h first).count < w.n.toNat) (hrole : w.role ≠ 2) (elems : Bytes) : ∃ b : Bool, s.addChunk p k w h elems
      = if b then (s.chunkSums p k w h elems first (ledgerAdd l h first)).contribute p w.window.toNat h.count
        else s.chunkSums p k w h elems first (ledgerAdd l h first) := by
  have hclean : firstOrigin 0 (if first then 0 else 0) = 0 := by cases first <;> rfl
  have hcheck (t : State) : t.tallyCheck p k w h (ledgerAdd l h first) = t := by
    unfold State.tallyCheck
    rw [if_neg (by omega), if_neg (by omega), if_neg hrole]
  refine ⟨decide (h.step = s.stepNo p) && decide (h.attempt = s.attempt p) && w.role != 2, ?_⟩
  unfold State.addChunk
  dsimp only
  rw [← hl, ← hfirst, hledger, hwin, if_neg (fun hne => hne hclean), hcheck]
  rfl

theorem Calm.countLedger {s t : State} (h : Calm s t) (p : Nat) (w : WindowEnt) (c : Nat) : Calm s (t.countLedger p w c) := h.countRead ..

theorem Calm.addElems {s t : State} (h : Calm s t) (p : Nat) (w : WindowEnt) (hd : ChunkHdr) (elems : Bytes) (first : Bool) :
    Calm s (t.addElems p w hd elems first) :=
  (h.ite (h.countWin .hub p w _ _) _).foldl fun _ _ _ hu => hu.writeTagged .hub p _ _ _ _

theorem Calm.setLedger {s t : State} (h : Calm s t) (p : Nat) (w : WindowEnt) (c : Nat) (l : Ledger) : Calm s (t.setLedger p w c l) :=
  h.writeRegion ..

theorem calm_chunkSums {s : State} (hs : s.quiet) (p k : Nat) (w : WindowEnt) (h : ChunkHdr) (elems : Bytes) (first : Bool) (l : Ledger) :
    Calm s (s.chunkSums p k w h elems first l) :=
  (((((Calm.refl hs).countLedger p w h.chunk).addElems p w h elems first).setLedger p w h.chunk l).bump (by omega) 1).bump (by omega) _

theorem hbm_chunkSums (s : State) (p k : Nat) (w : WindowEnt) (h : ChunkHdr) (elems : Bytes) (first : Bool) (l : Ledger) :
    (s.chunkSums p k w h elems first l).hbm = (((s.countLedger p w h.chunk).addElems p w h elems first).setLedger p w h.chunk l).hbm := by
  have hcounts (t : State) (a b m n : Nat) : ((t.bump a m).bump b n).hbm = t.hbm := rfl
  exact hcounts ..

/-- The element and the ledger entry after the addition, which lie apart. -/
theorem sums_chunkSums {s : State} (hs : s.quiet) {p : Nat} (k : Nat) {w : WindowEnt} (het : w.etype = 0) {h : ChunkHdr} (helems : h.elems = 1)
    (elems : Bytes) (first : Bool) {l : Ledger} (hl : l.Fits)
    (hapart : s.elemKey p w h.chunk + 4 ≤ s.ledgerKey p w h.chunk ∨ s.ledgerKey p w h.chunk + 32 ≤ s.elemKey p w h.chunk) {t : State}
    (hcalm : Calm s t) (hbm : t.hbm = (s.chunkSums p k w h elems first l).hbm) :
    t.ledger p w h.chunk = l ∧ t.winElem p w (h.chunk * 960) = if first then chunkElem h.etype elems 0 % 2 ^ 32
      else (s.winElem p w (h.chunk * 960) + chunkElem h.etype elems 0) % 2 ^ 32 := by
  have hread : Calm s (s.countLedger p w h.chunk) := (Calm.refl hs).countLedger p w h.chunk
  have hkept : (s.countLedger p w h.chunk).hbm = s.hbm := hbm_countRead (Calm.refl hs) ..
  have hadded : Calm s ((s.countLedger p w h.chunk).addElems p w h elems first) := hread.addElems p w h elems first
  obtain ⟨x, hx, hv⟩ := hbm_addElems hread p het helems elems first
  have hbytes : t.hbm = putBytes (putBytes s.hbm (s.elemKey p w h.chunk) (leBytes 4 x)) (s.ledgerKey p w h.chunk) (leBytes 32 (ledgerBits l)) := by
    rw [hbm, hbm_chunkSums, hbm_setLedger hadded, hx, hkept]
  have hentry : getBytes t.hbm (s.ledgerKey p w h.chunk) 32 = leBytes 32 (ledgerBits l) := by
    have hput := getBytes_putBytes (m := putBytes s.hbm (s.elemKey p w h.chunk) (leBytes 4 x)) (a := s.ledgerKey p w h.chunk)
      (b := leBytes 32 (ledgerBits l))
    rwa [length_leBytes, ← hbytes] at hput
  have helem : getBytes t.hbm (s.elemKey p w h.chunk) 4 = leBytes 4 x := by
    have hput := getBytes_putBytes (m := s.hbm) (a := s.elemKey p w h.chunk) (b := leBytes 4 x)
    rw [length_leBytes] at hput
    rw [hbytes, getBytes_putBytes_apart (by rw [length_leBytes]; exact hapart), hput]
  constructor
  · rw [hcalm.ledger, hentry, leNat_leBytes, ledgerOf_ledgerBits hl]
  · have hsame : (s.countLedger p w h.chunk).winElem p w (h.chunk * 960) = s.winElem p w (h.chunk * 960) := by
      rw [hread.winElem p _ het, (Calm.refl hs).winElem p _ het, hkept]
    rw [hcalm.winElem p _ het, helem, leNat_leBytes, hv, hsame]
    split
    · exact Nat.mod_mod ..
    · exact Nat.mod_mod ..

end Sys2Proof.Machine
end

section
/-! O57: chunks are received and added. -/

namespace Sys2Proof.Machine

open Sys2Proof

theorem ledgerPoison_chunkLeaves (s : State) (p : Nat) (i : TallyItem) (w : WindowEnt) (c : Nat) :
    (s.chunkLeaves p i).ledgerPoison p w c = s.ledgerPoison p w c :=
  (books_chunkLeaves s p i).poisonIn (view_chunkLeaves (ar := .poison) s p i (by decide)) _ _ _

theorem winPoison_chunkLeaves (s : State) (p : Nat) (i : TallyItem) (w : WindowEnt) (n k : Nat) :
    (s.chunkLeaves p i).winPoison p w n k = s.winPoison p w n k := by
  unfold State.winPoison
  simp only [(books_chunkLeaves s p i).poisonIn (view_chunkLeaves (ar := .poison) s p i (by decide))]

theorem hbmKey_add (k off n : Nat) : hbmKey k (off + n) = hbmKey k off + n := (Nat.add_assoc ..).symm

/-- Bytes of two ranges that share none lie one behind the other. -/
theorem apart_of_ne {a b m n : Nat} (hm : 0 < m) (hn : 0 < n) (h : ∀ x y, x < m → y < n → a + x ≠ b + y) : a + m ≤ b ∨ b + n ≤ a := by
  by_contra hc
  rcases Nat.le_total b a with hle | hle
  · exact h 0 (a - b) hm (by omega) (by omega)
  · exact h (b - a) 0 (by omega) hn (by omega)

section
variable {s : State} {p : Fin 4} {i : TallyItem} (hjob : s.jobState p ≠ 7) (hnow : s.stepNo p ≤ (chunkOf i.header).step)
  (hold : s.chunkOld p (chunkOf i.header) = false) {w : WindowEnt}
  (hw : (s.part p).windowAt (s.part p).rank (chunkOf i.header).window = some w)
include hjob hnow hold hw

/-- A chunk of the step in progress that names a window of the own rank is added to it. -/
theorem tallyTake_chunkLeaves : (s.chunkLeaves p i).tallyTake p i = (s.chunkLeaves p i).addChunk p i.engine w (chunkOf i.header) i.elems := by
  have hbooks := books_chunkLeaves s p i
  have hleft : (s.chunkLeaves p i).jobState p ≠ 7 :=
    fun h => hjob ((obj_of_view (view_chunkLeaves s p i (by decide)) _).symm.trans h)
  have hfresh : ¬((chunkOf i.header).step < (s.chunkLeaves p i).stepNo p ∨ (s.chunkLeaves p i).chunkOld p (chunkOf i.header) = true) := by
    rw [hbooks.step, hbooks.chunkOld (view_chunkLeaves (ar := .hbm) s p i (by decide)), hold]
    simp [hnow]
  unfold State.tallyTake
  dsimp only
  rw [if_neg hleft, if_neg hfresh, hbooks.job.rank_eq, hbooks.job.windowAt, hw]

theorem tallyAdd_adds (hfirst : (s.part p).tally.find? (·.credited) = some i) (hruns : s.hubStopped p = false) (hquiet : s.quiet)
    (hrole : w.role ≠ 2) (het : w.etype = 0) (helems : (chunkOf i.header).elems = 1) {l : Ledger}
    (hl : l = s.ledger p w (chunkOf i.header).chunk) (hledger : s.ledgerPoison p w (chunkOf i.header).chunk = 0)
    (hwin : s.winPoison p w ((chunkOf i.header).chunk * 960) 1 = 0) {first : Bool}
    (hf : first = !(l.valid && decide (l.step = (chunkOf i.header).step) && decide (l.attempt = (chunkOf i.header).attempt)))
    (hcount : (ledgerAdd l (chunkOf i.header) first).count < w.n.toNat)
    (hapart : s.elemKey p w (chunkOf i.header).chunk + 4 ≤ s.ledgerKey p w (chunkOf i.header).chunk
      ∨ s.ledgerKey p w (chunkOf i.header).chunk + 32 ≤ s.elemKey p w (chunkOf i.header).chunk) : ∃ t,
      exec (.tallyAdd p true) s = .next t
    ∧ (t.part p).tally.map (fun j => { j with credited := false })
        = ((s.part p).tally.erase i).map (fun j => { j with credited := false })
    ∧ t.ledger p w (chunkOf i.header).chunk = ledgerAdd l (chunkOf i.header) first
    ∧ t.winElem p w ((chunkOf i.header).chunk * 960) =
        (if first then chunkElem (chunkOf i.header).etype i.elems 0 % 2 ^ 32
         else (s.winElem p w ((chunkOf i.header).chunk * 960) + chunkElem (chunkOf i.header).etype i.elems 0) % 2 ^ 32)
    ∧ OnlyParts [p.val] s t := by
  have hbooks := books_chunkLeaves s p i
  have hbm : (s.chunkLeaves p i).hbm = s.hbm := view_chunkLeaves (ar := .hbm) s p i (by decide)
  have hleft : (s.chunkLeaves p i).quiet := quiet_of_view (view_chunkLeaves s p i (by decide)) hquiet
  have hothers := (confined_chunkLeaves s p i).others.trans (confined_tallyTake (s.chunkLeaves p i) p.isLt i).others
  have htally := uncredited_chunkLeaves s p i
  have hexec := exec_tallyAdd_agree hfirst hruns
  have hkeys : (s.chunkLeaves p i).elemKey p w (chunkOf i.header).chunk = s.elemKey p w (chunkOf i.header).chunk
      ∧ (s.chunkLeaves p i).ledgerKey p w (chunkOf i.header).chunk = s.ledgerKey p w (chunkOf i.header).chunk := by
    unfold State.elemKey State.ledgerKey
    simp only [hbooks.regionWord, and_self]
  obtain ⟨b, hadd⟩ := addChunk_partial (s := s.chunkLeaves p i) (p := p) (k := i.engine) (h := chunkOf i.header)
    (hl.trans (hbooks.ledger hbm w _).symm) hf ((ledgerPoison_chunkLeaves ..).trans hledger)
    (by rw [winChunkElems_t32 het, helems, winPoison_chunkLeaves, hwin]) hcount hrole i.elems
  rw [← tallyTake_chunkLeaves hjob hnow hold hw] at hadd
  have hcalm := calm_chunkSums hleft p i.engine w (chunkOf i.header) i.elems first (ledgerAdd l (chunkOf i.header) first)
  have hviews {ar : Area} (har : ar ∉ [Area.loops]) : view ar ((s.chunkLeaves p i).tallyTake p i)
      = view ar ((s.chunkLeaves p i).chunkSums p i.engine w (chunkOf i.header) i.elems first (ledgerAdd l (chunkOf i.header) first)) := by
    rw [hadd]
    split
    · exact view_contribute har ..
    · rfl
  have hafter : Calm (s.chunkLeaves p i) ((s.chunkLeaves p i).tallyTake p i) :=
    hcalm.of_views (hviews (by decide)) (hviews (by decide)) (obj_of_view (hviews (by decide)) _) (hviews (by decide))
  have hfits : (ledgerAdd l (chunkOf i.header) first).Fits :=
    fits_ledgerAdd (by rw [hl]; exact fits_ledgerOf _) _ _ (hcount.trans w.n.isLt)
  obtain ⟨hentry, helem⟩ := sums_chunkSums hleft i.engine het helems i.elems first hfits (by rw [hkeys.1, hkeys.2]; exact hapart) hafter
    (hviews (ar := .hbm) (by decide))
  rw [hbooks.winElem hbm] at helem
  refine ⟨_, hexec, ?_, hentry, helem, hothers⟩
  rw [part_of_view hafter.parts]
  exact htally

end

/-- Settles O57, clause by clause: what the packets of a chunk leave of the state, the cases of its header, and for the additions that a tally
engine's work stays in its partition and that element and ledger entry are read as they were written. -/
theorem chunksAndTally : Obligations.ChunksAndTally := by
  unfold Obligations.ChunksAndTally
  refine ⟨chunkAccepted_of (by decide) fun _ _ _ => rfl, chunkAccepted_of (by decide) fun _ _ _ => rfl,
    chunkAccepted_of (by decide) fun _ _ _ => rfl, ?_, ?_, ?_, ?_, ?_, ?_, ?_, ?_⟩
  · intro p k s
    exact done_taken
  · intro p k s hchunk htype hres
    exact ⟨data_stale hchunk htype hres, data_early hchunk htype hres, data_mismatch hchunk htype hres⟩
  · intro p k s
    exact data_reserved
  · intro p k s
    exact data_halted
  · intro p k s
    exact data_lost
  · intro p i w s hfirst hruns hjob hnow hold hquiet hw hrole het helems l hl hledger hwin first hf hcount a ha hapart
    subst ha
    refine tallyAdd_adds hjob hnow hold hw hfirst hruns hquiet hrole het helems hl hledger hwin hf hcount ?_
    refine apart_of_ne (by decide) (by decide) fun x y hx hy => ?_
    unfold State.elemKey State.ledgerKey
    dsimp only
    rw [← hbmKey_add, ← hbmKey_add]
    exact hapart _ _ rfl rfl x y hx hy
  · intro p i s hfirst hruns
    exact ⟨tallyAdd_halted hfirst hruns, tallyAdd_stale hfirst hruns, tallyAdd_disagree hfirst hruns⟩
  · intro p b s
    exact exec_tallyAdd_none b

end Sys2Proof.Machine
end

section
/-! A FLUSH of a port's queue whose owner in force is no partition of the device: the objects of that owner's job lie on those of the violation
counts (05 R137; 08 R196, R197). -/

namespace Sys2Proof.Machine

open Sys2Proof

/-- The queue from port 0 to the hub holds one item, and the owner in force of the port is 7,728, whose exchange state (0x521003 + 256 × 7,728)
is the object that counts violations. -/
def strayPort : State :=
  { State.reset with
    pwrok := true, inForce := [(0x900002, 7728)]
    dcqs := [(0x200, { Dcq.init with items := [{ payload := 0, endp := true, poison := false, nv := false, gap := false }] })] }

/-- The state after a FLUSH of that queue. -/
def strayPortFlushed : State :=
  match exec (.flush 0x200) strayPort with
  | .next t => t
  | _ => strayPort

theorem exec_flush_strayPort : exec (.flush 0x200) strayPort = .next strayPortFlushed := rfl

/-- The violation makes its own count 1, which reads as a step in progress; the halt of that step sets the object back to 0. -/
theorem violations_strayPort : strayPort.obj 0x704003 = 0 ∧ strayPortFlushed.obj 0x704003 = 0 ∧ objSize 0x704003 = 4 := by decide +kernel

/-- Refutes O49: nothing bounds the owner in force of a port, and in `strayPort` the flush of a port's queue charges its violation to an owner
whose exchange state is the count of violations itself: it stays 0 where the clause of FLUSH has it 1. -/
theorem not_queuePushesAndPops : ¬ Obligations.QueuePushesAndPops := by
  rintro ⟨-, -, -, -, -, -, -, hflush, -⟩
  obtain ⟨hbefore, hafter, hsize⟩ := violations_strayPort
  obtain ⟨t, hexec, -, -, -, -, -, hloss⟩ := hflush 0x200 strayPort rfl rfl (by decide) rfl
  obtain ⟨-, hcount⟩ := hloss (by decide) (List.cons_ne_nil _ _)
  obtain rfl : strayPortFlushed = t := Host.Outcome.next.inj (exec_flush_strayPort.symm.trans hexec)
  unfold Counted at hcount
  rw [hafter, hbefore, hsize] at hcount
  exact absurd hcount (by decide)

end Sys2Proof.Machine
end
